-- ==== Sys2Proof/Word.lean ====
section
/-!
DEFINITION. The words of the engine: registers are 32 bits wide (R11), memories are bytes (R14).
-/

namespace Sys2Proof

/-- A register word, bit 31 most significant (R11). -/
abbrev Word := BitVec 32

/-- A byte of a memory or of a format (R14). -/
abbrev Byte := BitVec 8

end Sys2Proof
end

