-- ==== Sys2Proof/Syntax.lean ====
section
/-!
DEFINITION. The commands the block takes: one constructor per row of the opcode table, in the table's order,
with the operands that come from outside (a half, an address, a value, a channel, a measured or received
datum).  `HalfId` names the half a command acts on.
-/

namespace Sys2Proof

/-- The two protection engines of the module (R25). -/
inductive HalfId
  | a | b
  deriving DecidableEq, Repr, Inhabited

/-- Who made a request: the host port, a session, or the management firmware (R620, R717). -/
inductive Accessor
  | host
  | session (k : Nat)
  | mgmt
  deriving DecidableEq, Repr, Inhabited

/-- The commands: one constructor per row of the opcode table. -/
inductive Instr
  /-- REGISTER_WRITE (R15): a write of `v` at `addr` of half `h` (both views; R15, R49). -/
  | registerWrite (h : HalfId) (addr v : Nat)
  /-- READ_CLEAR (R15): a read of a register of half `h`. -/
  | readClear (h : HalfId) (addr : Nat)
  /-- POWER_ON (R72): VSUP becomes valid, both voltages in 10 mV. -/
  | powerOn (vsup vhold : Nat)
  /-- RESET_N (R78): a low pulse on RESET_N. -/
  | resetN
  /-- HALF_RESET (R18): the field die puts half `h` into half reset. -/
  | halfReset (h : HalfId)
  /-- HALF_RESETS_RELEASED (R72): boot steps 2 to 6: of both halves, or of the one half named; BOOT_SEL, and where store reads failed (as in IMAGE_VERIFY_DONE) in slots 0 to 2 of Half A, then of Half B. -/
  | halfResetsReleased (only : Option HalfId) (bootSel : Nat) (faults : List Nat)
  /-- HASH (R74): the partner's image hash reaches half `h`. -/
  | hash (h : HalfId)
  /-- PARTNER_HASH_TIMEOUT (R74): t_PARTNER passes at half `h`. -/
  | partnerHashTimeout (h : HalfId)
  /-- REFSET_ELAPSED (R132): t_REFSET passes since the reference buffer of half `h` was enabled. -/
  | refsetElapsed (h : HalfId)
  /-- REF_BUFFER_ENABLE (R132): PCV_REF.EN becomes 1. -/
  | refBufferEnable (h : HalfId)
  /-- CALIBRATION_DONE (R213): the 64 pulses are over; the trims the channels need, fast in 0.25 ns, precision and bitstream in 1/256 modulator periods. -/
  | calibrationDone (h : HalfId) (fast delays : List Int)
  /-- BOOT_COMPLETE (R72): boot step 11 of half `h`, `ms` after the start of its boot. -/
  | bootComplete (h : HalfId) (ms : Nat)
  /-- ENTER_SERVICE (R66): written to half `h`. -/
  | enterService (h : HalfId)
  /-- ENTER_TEST (R70): written to half `h`. -/
  | enterTest (h : HalfId)
  /-- EXIT_TEST (R70): written to half `h`. -/
  | exitTest (h : HalfId)
  /-- EXTEND_TEST (R70): written to half `h`. -/
  | extendTest (h : HalfId)
  /-- ENTER_LAYUP (R81): written to half `h`. -/
  | enterLayup (h : HalfId)
  /-- EXIT_LAYUP (R83): written to half `h`. -/
  | exitLayup (h : HalfId)
  /-- EXIT_LOCKOUT (R78): written to half `h`, with the codes of store reads that fail in the restart. -/
  | exitLockout (h : HalfId) (faults : List Nat)
  /-- ENABLE_OUTPUT (R91): written to half `h`. -/
  | enableOutput (h : HalfId) (kind index : Nat)
  /-- DISABLE_OUTPUT (R91): written to half `h`. -/
  | disableOutput (h : HalfId) (kind index : Nat)
  /-- WARM_RESTART (R482): written to half `h`. -/
  | warmRestart (h : HalfId)
  /-- COLD_RESTART (R484): written to half `h`. -/
  | coldRestart (h : HalfId)
  /-- MODE_PROPOSE (R62): the standby `h` receives the proposal of the leader. -/
  | modePropose (h : HalfId)
  /-- MODE_ACK (R62): the leader `h` receives the acknowledgement of the standby. -/
  | modeAck (h : HalfId)
  /-- MODE_SWITCH_INSTANT (R62): the switch instant S of the pending change, with the codes of store reads that fail in a restart. -/
  | modeSwitchInstant (faults : List Nat)
  /-- LAYUP_REQ_HELD (R66): LAYUP_REQ high for 100 ms. -/
  | layupReqHeld
  /-- LAYUP_REQ_FALL (R83): LAYUP_REQ falls. -/
  | layupReqFall
  /-- STANDBY_POWER_DOWN (R81): steps 3 to 5 of LAYUP entry. -/
  | standbyPowerDown
  /-- FAST_WAKE_DONE (R83): t_FAST_WAKE passes at LAYUP exit. -/
  | fastWakeDone
  /-- LAYUP_EXIT_TIMEOUT (R84): 3.0 s pass since the exit trigger. -/
  | layupExitTimeout
  /-- TEST_TIMEOUT (R70): the test time runs out. -/
  | testTimeout
  /-- LOCKOUT_REQUEST (R76): half `h` asks for LOCKOUT with a cause bit of R76. -/
  | lockoutRequest (h : HalfId) (cause : Nat)
  /-- LIVENESS_TIMEOUT (R412): no strobe of half `h` for 5 ms. -/
  | livenessTimeout (h : HalfId)
  /-- GAVEL_FAULT (R76): GAVEL_MON has read 11 for 100 ms. -/
  | gavelFault
  /-- RAIL_FAULT (R76): an internal rail has been out for more than 10 ms. -/
  | railFault
  /-- PACE_MEASUREMENT (R41): the eight monitor counts of half `h`. -/
  | paceMeasurement (h : HalfId) (counts : List Nat)
  /-- PACE_LOW_CLEAR (R43): 10,000 good measurements have passed. -/
  | paceLowClear (h : HalfId)
  /-- VERIFY (R106): written to IMG_CMD of half `h`. -/
  | verify (h : HalfId) (slot : Nat)
  /-- IMAGE_VERIFY_DONE (R107): the verification of half `h` ends; where a store read failed: 0 nowhere, 1 at the mark or the header, 2 after them. -/
  | imageVerifyDone (h : HalfId) (fault : Nat)
  /-- ACTIVATE (R109): written to IMG_CMD of half `h`; where a store read failed, as in IMAGE_VERIFY_DONE. -/
  | activate (h : HalfId) (slot fault : Nat)
  /-- SETTING_WINDOW_WRITE (R111): a write at an address of the setting window. -/
  | settingWindowWrite (h : HalfId) (addr v : Nat)
  /-- STAGE (R113): written to SET_CMD of half `h`. -/
  | stage (h : HalfId) (group : Nat)
  /-- SET_STAGE (R113): the standby `h` receives the staged group of the leader. -/
  | setStage (h : HalfId)
  /-- SET_CRC (R113): the leader `h` receives the CRC or refusal of the standby. -/
  | setCrc (h : HalfId)
  /-- STAGE_TIMEOUT (R113): t_STAGE passes at the leader `h`. -/
  | stageTimeout (h : HalfId)
  /-- SWITCH (R114): written to SET_CMD of half `h`. -/
  | switch (h : HalfId) (group : Nat)
  /-- LOAD_DEFAULT (R116): written to SET_CMD of half `h`. -/
  | loadDefault (h : HalfId) (group : Nat)
  /-- SET_SWITCH (R114): the standby `h` receives the switch proposal of the leader. -/
  | setSwitch (h : HalfId)
  /-- SET_ACK (R114): the leader `h` receives the acknowledgement of the switch. -/
  | setAck (h : HalfId)
  /-- SWITCH_ACK_TIMEOUT (R114): no acknowledgement in time at the leader `h`. -/
  | switchAckTimeout (h : HalfId)
  /-- GROUP_SWITCH_INSTANT (R118): the instant I at half `h`. -/
  | groupSwitchInstant (h : HalfId)
  /-- HK_SCAN (R159): a housekeeping scan of half `h`: the 12-bit codes of channels 0 to 31 and of the self-check position. -/
  | hkScan (h : HalfId) (codes : List Nat) (self : Nat)
  /-- HKA_DATA_READ (R160): a read of HKA_DATA of half `h`. -/
  | hkaDataRead (h : HalfId)
  /-- FAST_SAMPLE (R138): a fast sample of channel `ch`: 14-bit code, over-range, conversion unfinished, sampling instant in ns. -/
  | fastSample (h : HalfId) (ch code : Nat) (ovr incomplete : Bool) (inst : Nat)
  /-- FCV_FROZEN (R137): the code of channel `ch` has kept one value over 1,048,576 counted samples. -/
  | fcvFrozen (h : HalfId) (ch : Nat)
  /-- SIG_WINDOW_CLOSE (R281): the window of SIG function `f` closes. -/
  | sigWindowClose (h : HalfId) (f : Nat)
  /-- SIG_HOLD_END (R283): HOLD of SIG function `f` has passed. -/
  | sigHoldEnd (h : HalfId) (f : Nat)
  /-- MAXR_EXPIRY (R286): MAXR of a restrained function has passed: a DIFF by slot, or a fast function. -/
  | maxrExpiry (h : HalfId) (diff : Bool) (k : Nat)
  /-- FTI_EDGE (R287): fast trip input `n` changes at its balls. -/
  | ftiEdge (n : Nat) (asserted : Bool)
  /-- FTI_FAULT (R287): fast trip input `n` shows its fault condition. -/
  | ftiFault (n : Nat)
  /-- INJECTION_TEST_SLOT (R143): the test slot of a channel code falls due. -/
  | injectionTestSlot (h : HalfId) (code : Nat)
  /-- INJECTION_TEST_DEFER (R144): the 1 s deferral of a channel's test expires. -/
  | injectionTestDefer (h : HalfId) (code : Nat)
  /-- TEST_POINTS_DONE (R145): the three test points are measured: their deviations in LSB of Q0.23. -/
  | testPointsDone (h : HalfId) (d0 d1 d2 : Int)
  /-- SUBSTITUTION_END (R145): the substitution span of the tested channel ends. -/
  | substitutionEnd (h : HalfId)
  /-- INJECTION_RETEST (R148): the retest delay of a channel expires. -/
  | injectionRetest (h : HalfId) (code : Nat)
  /-- TEST_START (R144): half `h` learns that its partner is testing a channel. -/
  | testStart (h : HalfId) (code : Nat)
  /-- TEST_END (R144): half `h` learns that its partner's substitution span has ended. -/
  | testEnd (h : HalfId) (code : Nat)
  /-- TILE_PICKUP (R149): the partner of half `h` reports a pickup of a tile fed from the channel. -/
  | tilePickup (h : HalfId) (code : Nat)
  /-- MCLK_FREQ_WRITE (R151): a write of BSI_MCLKk. -/
  | mclkFreqWrite (h : HalfId) (k freq : Nat)
  /-- BSI_CLOCK_MEASURE (R154): clock `k` measured against REFCLK. -/
  | bsiClockMeasure (h : HalfId) (k hz : Nat)
  /-- BSI_OPEN_DETECT (R154): the fail-safe condition of input `n` has persisted, or cleared, for 1 µs. -/
  | bsiOpenDetect (h : HalfId) (n : Nat) (on : Bool)
  /-- BSI_NO_EDGE (R154): no transition on input `n` in 64 clock periods. -/
  | bsiNoEdge (h : HalfId) (n : Nat)
  /-- BSI_DENSITY (R154): ones among the last 4,096 bits of input `n`. -/
  | bsiDensity (h : HalfId) (n ones : Nat)
  /-- PLL_UNLOCK (R202): PLL 0 fast or 1 modulator of half `h` loses lock. -/
  | pllUnlock (h : HalfId) (pll : Nat)
  /-- PLL_RELOCK (R202): that PLL has been locked again for 1 ms. -/
  | pllRelock (h : HalfId) (pll : Nat)
  /-- TRACKED_CYCLE_BOUNDARY (R204): a tracked-cycle boundary: f_M of SRC and SRC2 in µHz (none: below MIN_LEVEL), phase error in 0.001°. -/
  | trackedCycleBoundary (h : HalfId) (f1 f2 : Option Nat) (phi : Int)
  /-- TRK_STATE (R769): half `h` receives its partner's accumulator and f_T. -/
  | trkState (h : HalfId)
  /-- SYNC_PULSE (R208): a SYNC_OUT pulse of half `h`'s train, on the tracked grid or not. -/
  | syncPulse (h : HalfId) (locked : Bool)
  /-- CAL (R216): written to SMP_CAL_CMD of half `h`. -/
  | cal (h : HalfId)
  /-- CHAIN_OUTPUT (R236): chain `c` gives an output: stage value, value after the later stages, earlier quality bits of the span, instant, length of a cycle that ends there, ROGI at full scale. -/
  | chainOutput (h : HalfId) (c : Nat) (x re im : Int) (older inst : Nat) (cyc : Option Nat) (sat : Bool)
  /-- RESPONSE_SWITCH_BOUNDARY (R251): the output boundary at which a pending response takes effect. -/
  | responseSwitchBoundary (h : HalfId) (chain : Nat)
  /-- FLT_SWITCH (R252): SWITCH written to PCV_FLT_CMD. -/
  | fltSwitch (h : HalfId) (chain resp : Nat)
  /-- PEAK_RESET (R266): PEAK_RESET written to PCV_FLT_CMD. -/
  | peakReset (h : HalfId) (chain : Nat)
  /-- PCV_FLT_SEL_WRITE (R258): a write of PCV_FLT_SEL. -/
  | pcvFltSelWrite (h : HalfId) (v : Nat)
  /-- PCV_FLT_OUT_READ (R258): a read of PCV_FLT_OUT. -/
  | pcvFltOutRead (h : HalfId)
  /-- INJ_START (R247): START written to PCV_INJ_CMD. -/
  | injStart (h : HalfId) (set : Nat)
  /-- INJ_STOP (R249): STOP written to PCV_INJ_CMD. -/
  | injStop (h : HalfId)
  /-- PCV_INJ_DATA_ACCESS (R269): a read, or a write of `w`, of PCV_INJ_DATA. -/
  | pcvInjDataAccess (h : HalfId) (w : Option Nat)
  /-- FST_TPL_DATA_ACCESS (R303): a read, or a write of `w`, of FST_TPL_DATA. -/
  | fstTplDataAccess (h : HalfId) (w : Option Nat)
  /-- FST_FSTAT_READ (R304): a read of FST_FSTAT of fast function `f`. -/
  | fstFstatRead (h : HalfId) (f : Nat)
  /-- FREEZE_DROP (R315): t_FREEZE has passed for a frozen function. -/
  | freezeDrop (h : HalfId) (slot : Nat)
  /-- DEFINITE_RESET_EXPIRY (R321): RESET_T has passed after a dropout. -/
  | definiteResetExpiry (h : HalfId) (slot : Nat)
  /-- ALIGN_WAIT_EXPIRY (R356): the alignment wait of a DIFF function ends. -/
  | alignWaitExpiry (h : HalfId) (slot : Nat)
  /-- ROTATION_HANDOVER_START (R332): the rotation period of a kind of tile elapses. -/
  | rotationHandoverStart (h : HalfId) (fast : Bool)
  /-- COMPARISON_COMPLETE (R331): t_CMP ends in agreement, or an item differs. -/
  | comparisonComplete (h : HalfId) (fast : Bool) (differs : Option Nat)
  /-- KAT_COMPLETE (R331): a tile's known-answer test ends. -/
  | katComplete (h : HalfId) (fast : Bool) (tile : Nat) (ok : Bool) (vector : Nat)
  /-- ROT_LATE (R332): a pass has run for more than 900 s. -/
  | rotLate (h : HalfId) (fast : Bool)
  /-- FAB_FSTAT_READ (R342): a read of FAB_FSTAT. -/
  | fabFstatRead (h : HalfId)
  /-- FAB_UC_DATA_ACCESS (R346): a read, or a write of `w`, of FAB_UC_DATA. -/
  | fabUcDataAccess (h : HalfId) (w : Option Nat)
  /-- LIGHT_RISE (R377): receiver `n` crosses THRESH after `rise` µs; saturation; halves whose gate pair disagrees. -/
  | lightRise (n rise : Nat) (sat : Bool) (disagree : List HalfId)
  /-- LIGHT_FALL (R375): the photocurrent of receiver `n` falls below its dropout level. -/
  | lightFall (n : Nat)
  /-- LIGHT_LEVEL_SAMPLE (R376): a digitiser sample of receiver `n`, in 10 nA. -/
  | lightLevelSample (n level : Nat) (sat : Bool)
  /-- AMBIENT_RESETTLED (R378): the baseline of receiver `n` has stayed re-settled for 250 ms. -/
  | ambientResettled (n : Nat)
  /-- STRETCH_EXPIRY (R388): a STRETCH of element `n` ends: 0 light, 1 qualified light, 2 and 3 the current functions. -/
  | stretchExpiry (h : HalfId) (n part : Nat)
  /-- CODE_CYCLE (R380): the code period elapses. -/
  | codeCycle
  /-- CODE_RETRY (R383): the back-off or retry delay of channel `n` expires. -/
  | codeRetry (n : Nat)
  /-- CODE_COMPLETE (R382): a code of channel `n` ends: amplitudes, channel of the largest other, spread, saturation, LED checks. -/
  | codeComplete (n : Nat) (own oth : Int) (seen spread : Nat) (sat ledOpen ledShort : Bool)
  /-- CODE_NOW (R398): CODE_NOW written to ARC_CMD. -/
  | codeNow (h : HalfId) (mask : Nat)
  /-- CLR_COUNTS (R398): CLR_COUNTS written to ARC_CMD. -/
  | clrCounts (h : HalfId) (mask : Nat)
  /-- RESUME (R398): RESUME written to ARC_CMD. -/
  | resume (h : HalfId) (mask : Nat)
  /-- VOTE_DISAGREE_TIMER (R415): the inputs of an output have differed, or agreed, for 10 ms. -/
  | voteDisagreeTimer (code : Nat)
  /-- TCS_FAIL_TIMER (R417): DELAY open, or 100 ms not open, of trip circuit `k`. -/
  | tcsFailTimer (k : Nat)
  /-- NO_LEADER_TIMEOUT (R416): GAVEL_MON has read 00 or 11 for more than 500 µs. -/
  | noLeaderTimeout
  /-- SUPPLY_MEASURE (R427): L+ of group `g` in mV. -/
  | supplyMeasure (g mv : Nat)
  /-- DI_WINDOW (R430): a sampling window of input `n` ends: ON or OFF, current in 0.05 mA, start of the window in ns. -/
  | diWindow (n : Nat) (level : Bool) (current inst : Nat)
  /-- DO_OVERLOAD (R436): DO `n` has been in current limit for 2 ms, or out of it for 10 ms; mA. -/
  | doOverload (n : Nat) (on : Bool) (current : Nat)
  /-- DO_OPEN_ON (R436): the current of DO `n` over 20 ms, in mA. -/
  | doOpenOn (n current : Nat)
  /-- DO_OPEN_OFF_CHECK (R436): one open-load check of DO `n`. -/
  | doOpenOffCheck (n : Nat) (above : Bool)
  /-- DO_OVERTEMP (R436): the switch of DO `n` exceeds its shutdown limit. -/
  | doOvertemp (n : Nat)
  /-- DO_OVERTEMP_RETRY (R436): the 10 ms retry of DO `n`. -/
  | doOvertempRetry (n : Nat) (ok : Bool)
  /-- GRP_OVERCURRENT (R435): the output current of group `g` over 100 ms, in mA. -/
  | grpOvercurrent (g current : Nat)
  /-- LEADER_REFRESH (R440): half `h` sends a refresh of the leader-class DO. -/
  | leaderRefresh (h : HalfId)
  /-- DO_REFRESH_TIMEOUT (R441): the refresh timers of the masked DO expire. -/
  | doRefreshTimeout (mask : Nat)
  /-- UNLATCH (R447): UNLATCH written to DIO_CMD. -/
  | unlatch (h : HalfId) (index : Nat)
  /-- UNLATCH_ALL (R447): UNLATCH_ALL written to DIO_CMD. -/
  | unlatchAll (h : HalfId)
  /-- ARCADE_CYCLE_BOUNDARY (R471): a 250 µs boundary of half `h`. -/
  | arcadeCycleBoundary (h : HalfId)
  /-- EVENT_TASK_LIMIT (R479): event task `t` has not ended 400 boundaries after its release. -/
  | eventTaskLimit (h : HalfId) (t : Nat)
  /-- NOP (R461): executed by the running task of half `h`. -/
  | nop (h : HalfId)
  /-- LD (R461): area code, index and N. -/
  | ld (h : HalfId) (a n : Nat) (neg : Bool)
  /-- AND (R461): area code, index and N. -/
  | and (h : HalfId) (a n : Nat) (neg : Bool)
  /-- OR (R461): area code, index and N. -/
  | or (h : HalfId) (a n : Nat) (neg : Bool)
  /-- XOR (R461): area code, index and N. -/
  | xor (h : HalfId) (a n : Nat) (neg : Bool)
  /-- AND_PUSH (R461): area code, index and N. -/
  | andPush (h : HalfId) (a n : Nat) (neg : Bool)
  /-- OR_PUSH (R461): area code, index and N. -/
  | orPush (h : HalfId) (a n : Nat) (neg : Bool)
  /-- XOR_PUSH (R461): area code, index and N. -/
  | xorPush (h : HalfId) (a n : Nat) (neg : Bool)
  /-- POP (R461): the closing parenthesis. -/
  | pop (h : HalfId)
  /-- ST (R461): area code, index and N. -/
  | st (h : HalfId) (a n : Nat) (neg : Bool)
  /-- SET (R461): area code and index. -/
  | set (h : HalfId) (a n : Nat)
  /-- RST (R468): area code and index. -/
  | rst (h : HalfId) (a n : Nat)
  /-- PEDGE (R461): marker `n` is the edge memory. -/
  | pedge (h : HalfId) (n : Nat)
  /-- NEDGE (R461): marker `n` is the edge memory. -/
  | nedge (h : HalfId) (n : Nat)
  /-- TON (R467): timer record `n`. -/
  | ton (h : HalfId) (n : Nat)
  /-- TOF (R467): timer record `n`. -/
  | tof (h : HalfId) (n : Nat)
  /-- TP (R467): timer record `n`. -/
  | tp (h : HalfId) (n : Nat)
  /-- TONR (R467): timer record `n`. -/
  | tonr (h : HalfId) (n : Nat)
  /-- CTU (R468): counter record `n`. -/
  | ctu (h : HalfId) (n : Nat)
  /-- CTD (R468): counter record `n`. -/
  | ctd (h : HalfId) (n : Nat)
  /-- JMP (R461): instruction index. -/
  | jmp (h : HalfId) (target : Nat)
  /-- JMPC (R461): instruction index. -/
  | jmpc (h : HalfId) (target : Nat)
  /-- JMPCN (R461): instruction index. -/
  | jmpcn (h : HalfId) (target : Nat)
  /-- END (R473): the running task ends. -/
  | endTask (h : HalfId)
  /-- LGE_TINFO_READ (R492): a read of LGE_TINFO. -/
  | lgeTinfoRead (h : HalfId)
  /-- HEARTBEAT_SEND (R501): a 10 µs tick of half `h`. -/
  | heartbeatSend (h : HalfId)
  /-- HEARTBEAT (R501): half `h` receives its partner's heartbeat; `acked`: its ACK_SEQ covers every message sent. -/
  | heartbeat (h : HalfId) (acked : Bool)
  /-- XL_RETRANSMIT (R500): a message of half `h` failed; `errors` messages arrived damaged at its partner. -/
  | xlRetransmit (h : HalfId) (errors : Nat)
  /-- XL_UP (R500): 10 ms of valid heartbeats at half `h`. -/
  | xlUp (h : HalfId)
  /-- PROBE (R517): half `h` receives a probe. -/
  | probe (h : HalfId)
  /-- PROBE_REPLY (R517): half `h` receives the reply to its probe. -/
  | probeReply (h : HalfId)
  /-- PARTNER_HEARTBEAT_LOSS (R517): half `h` has seen no heartbeat for 80 µs. -/
  | partnerHeartbeatLoss (h : HalfId)
  /-- LOSS_CONFIRM (R517): half `h` has had no reply; `strobe`: the field die sees the holder strobe. -/
  | lossConfirm (h : HalfId) (strobe : Bool)
  /-- GAVEL_REQUEST_TIMER (R505): the request delay of half `h` expires. -/
  | gavelRequestTimer (h : HalfId)
  /-- GAVEL_GRANT (R503): the element grants half `h`. -/
  | gavelGrant (h : HalfId)
  /-- GAVEL_CANCEL (R503): the field die cancels the grant. -/
  | gavelCancel
  /-- GAVEL_DISAGREE (R507): case 1 to 4 of R507; case 1 is seen by half `h`. -/
  | gavelDisagree (h : HalfId) (case_ : Nat)
  /-- ROUND_TIMEOUT (R508): 5 ms have passed since the no-leader instant. -/
  | roundTimeout
  /-- LS_IMAGE (R509): received by the standby `h`; the replay lag in µs. -/
  | lsImage (h : HalfId) (lag : Nat)
  /-- LS_END (R511): received by the standby `h`. -/
  | lsEnd (h : HalfId)
  /-- LS_SWEEP_TIMER (R512): the 10 s sweep of the leader `h` begins. -/
  | lsSweepTimer (h : HalfId)
  /-- LS_SWEEP (R512): the next sweep message of the leader at the standby `h`. -/
  | lsSweep (h : HalfId)
  /-- LS_COPY (R513): received by the standby `h`. -/
  | lsCopy (h : HalfId)
  /-- LS_STOP (R481): received by the standby `h`. -/
  | lsStop (h : HalfId)
  /-- MISMATCH (R513): received by the leader `h`. -/
  | mismatch (h : HalfId)
  /-- SELFTEST_DONE (R513): the self-test of half `h` ends. -/
  | selftestDone (h : HalfId) (pass : Bool)
  /-- SELFTEST_RESULT (R513): half `h` receives its partner's result. -/
  | selftestResult (h : HalfId)
  /-- LOCKSTEP_LAG (R510): the replay of the standby `h` is more than 2 ms behind. -/
  | lockstepLag (h : HalfId)
  /-- HANDOVER (R520): the partner `h` of the leader receives the notice. -/
  | handover (h : HalfId)
  /-- HANDOVER_BOUNDARY (R520): the named boundary at the leader `h`. -/
  | handoverBoundary (h : HalfId)
  /-- HANDOVER_ABANDON (R520): 10 s without a task boundary at the leader `h`. -/
  | handoverAbandon (h : HalfId)
  /-- RETURN_HOLDOFF (R521): the hold-off of the home half `h` expires. -/
  | returnHoldoff (h : HalfId)
  /-- RETURN_REQ (R521): received by the leader `h`. -/
  | returnReq (h : HalfId)
  /-- HANDOVER_CMD (R528): written to GAV_CMD of half `h`. -/
  | handoverCmd (h : HalfId)
  /-- TAKEOVER (R528): written to GAV_CMD of half `h`. -/
  | takeover (h : HalfId)
  /-- CLEAR_LCL (R508): written to GAV_CMD of half `h`. -/
  | clearLcl (h : HalfId)
  /-- ACK_RETURN (R521): written to GAV_CMD of half `h`. -/
  | ackReturn (h : HalfId)
  /-- CLEAR_DEGRADED (R514): written to GAV_CMD of half `h`. -/
  | clearDegraded (h : HalfId)
  /-- ECC_UNCORRECTABLE (R523): in half `h`: region 0 setting tables, template store or tile state, 1 logic memory, 2 other. -/
  | eccUncorrectable (h : HalfId) (region : Nat)
  /-- RECORDER_TRIGGER (R550): a trigger of half `h` for an area mask: kind of R555 (1 trip group, 2 trigger function), its index, its instant in ns. -/
  | recorderTrigger (h : HalfId) (areas kind index inst : Nat)
  /-- SEGMENT_CLOSE (R544): the post-trigger count of the area has reached POST. -/
  | segmentClose (h : HalfId) (area : Nat)
  /-- SEGMENT_MAX_LEN (R544): the segment of the area has MAX_LEN samples. -/
  | segmentMaxLen (h : HalfId) (area : Nat)
  /-- MEASUREMENTS_DONE (R558): the measurements of the area's latest closed segment complete. -/
  | measurementsDone (h : HalfId) (area : Nat)
  /-- COMMIT_JOB_START (R559): the commit channel takes a segment. -/
  | commitJobStart (h : HalfId)
  /-- COMMIT_JOB_DONE (R559): the valid mark of the job's segment is written, or the store refuses it with a status. -/
  | commitJobDone (h : HalfId) (ok : Bool) (status : Nat)
  /-- COMMIT_RETRY (R560): the retry, 10 ms after a refused commit, and whether the store takes it. -/
  | commitRetry (h : HalfId) (ok : Bool) (status : Nat)
  /-- TRIGGER (R547): written to ACQ_CMD of half `h`. -/
  | trigger (h : HalfId) (areas : Nat)
  /-- ACQ_STOP (R544): written to ACQ_CMD of half `h`. -/
  | acqStop (h : HalfId) (areas : Nat)
  /-- ACQ_START (R544): written to ACQ_CMD of half `h`. -/
  | acqStart (h : HalfId) (areas : Nat)
  /-- ACQ_MSEL_WRITE (R570): a write of ACQ_MSEL of half `h`. -/
  | acqMselWrite (h : HalfId) (v : Nat)
  /-- ACQ_MDATA_READ (R570): a read of ACQ_MDATA0 of half `h`. -/
  | acqMdataRead (h : HalfId)
  /-- CRT_START (R586): written to CRT_CMD of half `h`; `firmware`: by its management firmware. -/
  | crtStart (h : HalfId) (firmware : Bool)
  /-- CRT_RESUME (R589): written to CRT_CMD of half `h`. -/
  | crtResume (h : HalfId) (firmware : Bool)
  /-- CRT_ABORT (R589): written to CRT_CMD of half `h`. -/
  | crtAbort (h : HalfId)
  /-- CRATE_BLOCK_DONE (R588): a block of the commit channel or the host job of half `h`; an uncorrectable source read; the BYTE payload that the compressor chose. -/
  | crateBlockDone (h : HalfId) (commit memErr : Bool) (choice : List Byte)
  /-- POWER_FAIL_DECLARE (R613): the voltages at the declaration in 10 mV; the seven step times in µs, then VHOLD at step 6 in 10 mV. -/
  | powerFailDeclare (vsup vhold : Nat) (times : List Nat)
  /-- CONVERTER_STOP (R614): VHOLD reaches 6.5 V. -/
  | converterStop
  /-- POWER_RESTORE_BOOT (R614): supply valid for 10 ms after the sequence. -/
  | powerRestoreBoot (vsup vhold : Nat)
  /-- STORE_COMMIT_DONE (R604): a commit unit of partition `part` (1 SET, 2 RET, 3 REC) of half `h` ends. -/
  | storeCommitDone (h : HalfId) (part : Nat) (ok : Bool) (page : Nat)
  /-- IMG_SLOT_OPEN (R611): written to PST_IMG_CMD of half `h`. -/
  | imgSlotOpen (h : HalfId) (slot : Nat)
  /-- IMG_SLOT_CLOSE (R611): written to PST_IMG_CMD of half `h`. -/
  | imgSlotClose (h : HalfId) (slot : Nat)
  /-- IMG_SLOT_ABORT (R611): written to PST_IMG_CMD of half `h`. -/
  | imgSlotAbort (h : HalfId) (slot : Nat)
  /-- PST_IMG_DATA_WRITE (R611): written to PST_IMG_DATA of half `h`. -/
  | pstImgDataWrite (h : HalfId) (v : Nat)
  /-- LEDGER_APPEND (R618): half `h` appends a record. -/
  | ledgerAppend (h : HalfId) (source event : Nat) (fields : List Byte)
  /-- LEDGER_RATE (R618): the rate window with dropped records has passed. -/
  | ledgerRate
  /-- LEDGER_CLEAR (R624): CLEAR written to LDG_CMD of half `h`. -/
  | ledgerClear (h : HalfId) (session : Nat) (by_ : Accessor)
  /-- LEDGER_CLEAR_DONE (R624): the marks of all older records are zeroed. -/
  | ledgerClearDone
  /-- LDG_RSEL_WRITE (R623): written to LDG_RSEL of half `h`. -/
  | ldgRselWrite (h : HalfId) (seq : Nat)
  /-- LDG_OPTIME_READ (R635): a read of LDG_OPTIME_LO of half `h`. -/
  | ldgOptimeRead (h : HalfId)
  /-- OPTIME_COMMIT (R621): 1,024 ms of operating time have passed. -/
  | optimeCommit
  /-- SCHEDULE_ARM (R653): TIME_SCH_CFG of an entry of half `h` written with ARM = 1. -/
  | scheduleArm (h : HalfId) (entry cfg : Nat)
  /-- SCHEDULE_DISARM (R653): TIME_SCH_CFG of an entry of half `h` written with ARM = 0. -/
  | scheduleDisarm (h : HalfId) (entry cfg : Nat)
  /-- SCHEDULED_STOCKTAKE (R652): the entry falls due. -/
  | scheduledStocktake (h : HalfId) (entry : Nat)
  /-- SCHEDULED_SET_SWITCH (R652): the entry falls due. -/
  | scheduledSetSwitch (h : HalfId) (entry : Nat)
  /-- REC_TRIGGER (R652): the entry falls due. -/
  | recTrigger (h : HalfId) (entry : Nat)
  /-- TEST_INJECT (R652): the entry falls due. -/
  | testInject (h : HalfId) (entry : Nat)
  /-- PULSE (R652): the entry falls due. -/
  | pulse (h : HalfId) (entry : Nat)
  /-- TIME_COMMIT (R650): written to TIME_CTRL by half `h`. -/
  | timeCommit (h : HalfId)
  /-- COMMIT_AT_PPS (R650): written to TIME_CTRL by half `h`. -/
  | commitAtPps (h : HalfId)
  /-- TIME_LOAD_AT_SECOND (R650): the nanoseconds roll over with a load pending. -/
  | timeLoadAtSecond
  /-- TIME_STEP (R650): written to TIME_CTRL by half `h`. -/
  | timeStep (h : HalfId)
  /-- TIME_CANCEL (R650): written to TIME_CTRL by half `h`. -/
  | timeCancel (h : HalfId)
  /-- TIME_SLEW_WRITE (R650): written to TIME_SLEW by half `h`. -/
  | timeSlewWrite (h : HalfId) (v : Nat)
  /-- TIME_NS_READ (R649): a read of TIME_NS by half `h`. -/
  | timeNsRead (h : HalfId)
  /-- PTP_SYNC (R644): a Sync message on the holder's port: domain, sender, offset it gives (without Follow_Up), two-step flag. -/
  | ptpSync (domain master : Nat) (offset : Int) (twoStep : Bool)
  /-- PTP_ANNOUNCE (R646): an Announce message: domain, sender, verdict of the comparison of R646, currentUtcOffset where valid. -/
  | ptpAnnounce (domain master : Nat) (better : Bool) (utc : Option Nat)
  /-- PPS_IN_EDGE (R648): a rising PPS_IN edge and its distance from the whole second. -/
  | ppsInEdge (offset : Int)
  /-- PPS_IN_LOST (R648): no PPS_IN edge for 1.5 s. -/
  | ppsInLost
  /-- HOLDOVER (R645): no measurement for HOLD seconds. -/
  | holdover
  /-- TAKE (R654): written to STK_CTRL of half `h`. -/
  | take (h : HalfId)
  /-- DOMAIN_TAKE_CMD (R657): DOMAIN_TAKE written to STK_CTRL of half `h`. -/
  | domainTakeCmd (h : HalfId)
  /-- DOMAIN_TAKE_RELAY (R657): the standby `h` receives the take of the leader. -/
  | domainTakeRelay (h : HalfId)
  /-- DOMAIN_TAKE_DUE (R657): the domain entry of half `h` reaches its time. -/
  | domainTakeDue (h : HalfId)
  /-- LANE_UP (R671): lane 0 (L0), 1 (L1) or 2 (UL) of half `h`. -/
  | laneUp (h : HalfId) (lane : Nat)
  /-- LANE_DOWN (R671): lane 0 (L0), 1 (L1) or 2 (UL) of half `h`. -/
  | laneDown (h : HalfId) (lane : Nat)
  /-- INTERTRIP (R684): the 64 bytes of a C0 frame received on a lane. -/
  | intertrip (h : HalfId) (lane : Nat) (frame : List Byte)
  /-- STREAM (R350): the 64 bytes of a C1 frame received on a lane. -/
  | stream (h : HalfId) (lane : Nat) (frame : List Byte)
  /-- UPDATE (R690): the 64 bytes of a C2 UPDATE frame received on a lane. -/
  | update (h : HalfId) (lane : Nat) (frame : List Byte)
  /-- DOMAIN_TAKE (R657): the 64 bytes of a DOMAIN_TAKE frame received on a lane. -/
  | domainTake (h : HalfId) (lane : Nat) (frame : List Byte)
  /-- TIME_SYNC (R695): the 64 bytes of a TIME_SYNC frame received on a lane, and the offset of this time base from the time it carries. -/
  | timeSync (h : HalfId) (lane : Nat) (frame : List Byte) (offset : Int)
  /-- PDELAY_REQ (R695): the 64 bytes of a PDELAY_REQ frame received on a lane. -/
  | pdelayReq (h : HalfId) (lane : Nat) (frame : List Byte)
  /-- PDELAY_RESP (R695): the 64 bytes of a PDELAY_RESP frame received on a lane, and the link delay in ns it gives. -/
  | pdelayResp (h : HalfId) (lane : Nat) (frame : List Byte) (delay : Nat)
  /-- MAP (R673): the 64 bytes of a MAP frame received on a lane. -/
  | map (h : HalfId) (lane : Nat) (frame : List Byte)
  /-- BULK (R677): the 64 bytes of a C3 frame received on a lane. -/
  | bulk (h : HalfId) (lane : Nat) (frame : List Byte)
  /-- MAP_SEND (R673): 100 ms have passed at half `h`; the utilisation and peak of its lanes over them, in %. -/
  | mapSend (h : HalfId) (util peak : List Nat)
  /-- BAZAAR_REFRESH (R688): the refresh of publication `pub` of half `h` falls due. -/
  | bazaarRefresh (h : HalfId) (pub : Nat)
  /-- INTERTRIP_REPEAT (R691): the 100 µs or 200 µs repeat of publication `pub` falls due. -/
  | intertripRepeat (h : HalfId) (pub : Nat)
  /-- POINT_STALE (R690): t_STALE passes without an accepted update of the point with this local index. -/
  | pointStale (h : HalfId) (point : Nat)
  /-- MGMT_WATCHDOG (R706): in half `h`. -/
  | mgmtWatchdog (h : HalfId)
  /-- ETH_LINK_CHANGE (R708): of half `h`; `supported`: at 1000 Mb/s full duplex. -/
  | ethLinkChange (h : HalfId) (up supported : Bool)
  /-- SESSION_OPEN (R716): session `k` of half `h`; role 0 Viewer, 1 Operator, 2 Engineer, 3 Warden. -/
  | sessionOpen (h : HalfId) (k role : Nat)
  /-- SESSION_REQUEST (R715): a read (no `v`) or a write of `v` at an address. -/
  | sessionRequest (h : HalfId) (k addr : Nat) (v : Option Nat)
  /-- SESSION_END (R718): session `k` of half `h`. -/
  | sessionEnd (h : HalfId) (k : Nat)
  /-- GOOSE_RX (R712): the subscription that the frame's identifiers match, its counters, timeAllowedtoLive in ms, simulation bit, and its members: type, value, good quality. -/
  | gooseRx (h : HalfId) (sub stNum sqNum ttl : Nat) (sim : Bool) (values : List (Nat × Int × Bool))
  /-- GOOSE_RETRANSMIT (R710): the publish control block. -/
  | gooseRetransmit (h : HalfId) (block : Nat)
  /-- GOVERNOR_WINDOW (R727): the load of the window in %. -/
  | governorWindow (h : HalfId) (load : Nat)
  /-- CHALLENGE (R717): written to SEC_CMD of half `h`; ACCESSOR 0xFF the host port, else the session. -/
  | challenge (h : HalfId) (acc : Nat)
  /-- RESPOND (R717): written to SEC_CMD; the Warden key slot. -/
  | respond (h : HalfId) (acc slot : Nat)
  /-- DROP (R718): written to SEC_CMD. -/
  | drop (h : HalfId) (acc : Nat)
  /-- INSTALL (R720): written to SEC_CMD. -/
  | install (h : HalfId) (acc : Nat)
  /-- ERASE (R720): written to SEC_CMD. -/
  | erase (h : HalfId) (acc : Nat)
  /-- USE_GEN (R720): written to SEC_CMD. -/
  | useGen (h : HalfId) (acc gen : Nat)
  /-- ELEVATION_TIMEOUT (R718): of an accessor. -/
  | elevationTimeout (h : HalfId) (acc : Nat)
  /-- SEC_KEY_DATA_ACCESS (R739): a read (no `v`) or a write of `v`. -/
  | secKeyDataAccess (h : HalfId) (v : Option Nat)
  /-- HOST_NOP (R721): on the host port of half `h`, with the frame's ADDR. -/
  | hostNop (h : HalfId) (addr : Nat)
  /-- HOST_READ (R722): on the host port of half `h`. -/
  | hostRead (h : HalfId) (addr : Nat)
  /-- HOST_WRITE (R722): on the host port of half `h`. -/
  | hostWrite (h : HalfId) (addr v : Nat)
  /-- EVQ_POP_READ (R737): in half `h`. -/
  | evqPopRead (h : HalfId)
  /-- EVQ_IDATA_READ (R737): in half `h`. -/
  | evqIdataRead (h : HalfId)
  /-- ETH_TDATA_ACCESS (R734): a read (no `v`) or a write of `v`. -/
  | ethTdataAccess (h : HalfId) (v : Option Nat)
  /-- SNAPSHOT (R730): written to TRC_CMD of half `h`. -/
  | snapshot (h : HalfId)
  /-- DEBUG_TOKEN (R731): of half `h`; expiry in operating hours, and the signature. -/
  | debugToken (h : HalfId) (expiry : Nat) (sig : List Byte)
  /-- DEBUG_RELOCK (R731): of half `h`. -/
  | debugRelock (h : HalfId)
  /-- XL_ACK_TIMEOUT (R500): 50 µs without an acknowledged symbol at half `h` while a message waits. -/
  | xlAckTimeout (h : HalfId)
  /-- BSI_TRANSITION (R154): a data transition on input `n`. -/
  | bsiTransition (h : HalfId) (n : Nat)
  /-- FTI_FAULT_CLEAR (R287): the fault of input `n` has cleared; its level. -/
  | ftiFaultClear (n : Nat) (asserted : Bool)
  /-- TB_CLK_UNLOCK (R645): TB_CLK loses lock. -/
  | tbClkUnlock
  /-- TB_CLK_RELOCK (R645): TB_CLK regains lock. -/
  | tbClkRelock
  /-- GRID_SLEW_DONE (R642): G reaches 0. -/
  | gridSlewDone
  /-- PPS_OUT_SECOND (R648): the time value reaches a whole second. -/
  | ppsOutSecond
  /-- PTP_FOLLOW_UP (R646): a Follow_Up message and the offset it completes. -/
  | ptpFollowUp (domain master : Nat) (offset : Int)
  /-- PTP_PDELAY_REQ (R646): a peer-delay request on the port of half `h`. -/
  | ptpPdelayReq (h : HalfId) (domain : Nat)
  /-- PTP_PDELAY_RESP (R646): a peer-delay response on the port of half `h` and the delay it gives in ns. -/
  | ptpPdelayResp (h : HalfId) (domain delay : Nat)
  /-- PDELAY_SEND (R695): 1 s has passed at half `h`. -/
  | pdelaySend (h : HalfId)
  /-- MEM_HEALTH_CLEAR (R512): 3,600 s with 16 or fewer latent divergences at half `h`. -/
  | memHealthClear (h : HalfId)
  /-- MANAGEMENT_DEGRADED_END (R706): in half `h`. -/
  | managementDegradedEnd (h : HalfId)
  /-- MGMT_CORE_RESTARTED (R706): in half `h`. -/
  | mgmtCoreRestarted (h : HalfId)
  /-- RECORDER_HEALTH_WINDOW (R573): 3,600 s since the last segment not committed; or, with `refused`, commits refused for 10 s. -/
  | recorderHealthWindow (h : HalfId) (refused : Bool)
  /-- STORE_HEALTH_WINDOW (R625): 3,600 s pass: since the last LEDGER_RATE record, or with `corrected` since the corrected reads rose above 64. -/
  | storeHealthWindow (h : HalfId) (corrected : Bool)
  /-- ARCADE_AUTH_WINDOW (R703): 60 s pass without an authentication failure. -/
  | arcadeAuthWindow (h : HalfId)
  /-- SCRUB_PASS (R523): a scrub pass of half `h` ends. -/
  | scrubPass (h : HalfId) (corrected : Nat)
  /-- HOST_FRAME_ERROR (R721): on the host port of half `h`; 0 wrong length, 1 unknown CMD, 2 wrong CRC. -/
  | hostFrameError (h : HalfId) (why : Nat)
  /-- EXPORT_REQUEST (R564): an EMP request of a session for the committed segment with this UNIT_SEQ. -/
  | exportRequest (h : HalfId) (session seq : Nat)
  deriving DecidableEq, Repr

end Sys2Proof
end

