-- ==== Sys2Proof/Config.lean ====
section
/-!
DEFINITION. What the spec leaves open or takes from outside as given: uninterpreted functions with no body
(nothing in Lean can evaluate them), so that every claim holds whatever they are; and the few constants a
log entry names.
-/

namespace Sys2Proof.Config

/-- The k-th free value of a run: a value the spec leaves open (log entry 2). -/
opaque freeValue : Nat → Nat

/-- SHA-384 of a byte string, 48 bytes (R102); the digest is taken from its own standard (log entry 3). -/
opaque sha384 : List (BitVec 8) → List (BitVec 8)

/-- SHA-256 of a byte string, 32 bytes (R717, R731). -/
opaque sha256 : List (BitVec 8) → List (BitVec 8)

/-- Verdict of an ECDSA verification: public key, digest, signature (R101, R717). -/
opaque ecdsaVerify : List (BitVec 8) → List (BitVec 8) → List (BitVec 8) → Bool

/-- ECDSA signature of a digest with the device key of a half, 64 bytes (R717). -/
opaque deviceSign : Bool → List (BitVec 8) → List (BitVec 8)

/-- Word k of the device public key of a half: its 64 bytes, four to a word (R720). -/
opaque devicePublic : Bool → Nat → Nat

/-- The k-th word of a nonce drawn by the SEC block, by draw number (R717). -/
opaque nonceWord : Nat → Nat → Nat

/-- GMAC tag of an Arcade frame under a key: key words, nonce bytes, frame bytes (R681). -/
opaque gmac : List Nat → List (BitVec 8) → List (BitVec 8) → Nat

/-- Word m of R557 where the spec states no value: no valid sample to measure, no crossing, or a result outside the
word's format; the valid samples with their indices, and PRE_ACTUAL (log entry 6). -/
opaque measure : Nat → List (Int × Nat) → Nat → Nat

/-- Which neighbour a quotient or root that is not whole takes, where the spec states no rounding (log entry 22). -/
opaque ratio : Nat → Nat → Nat

/-- Angle of a phasor in 0.01°, from −17,999 to 18,000 (R351). -/
opaque angle : Int → Int → Int

/-- (n ÷ d)^0.02 in units of 2^-40 (R319, curves 0 and 4). -/
opaque power002 : Nat → Nat → Nat

/-- θ after one sample (R324): θ in units of 2^-30, Q, IB, time constant in s, Δt in ns. -/
opaque thetaStep : Nat → Nat → Nat → Nat → Nat → Nat

/-- RMS of the harmonic (1 or 2) of a window of values, newest first (R360). -/
opaque harmonicRms : Nat → List Int → Nat

/-- m + (P − m) · e^(−Δt ÷ τ): m, P, exponent of τ in ms, period in ps (R254). -/
opaque peakDecay : Nat → Nat → Nat → Nat → Nat

/-- E + (m − E) · (1 − e^(−1 ÷ τ)): E, m, exponent of τ in samples (R256). -/
opaque envelopeStep : Nat → Nat → Nat → Nat

/-- Injected value D + A · cos(2π · FREQ · t + φ), before saturation: D, A, FREQ in 0.01 Hz, t in ns, φ in
0.01° (R248). -/
opaque injectWave : Int → Nat → Nat → Nat → Int → Int

/-- The same where ψ is the tracked phase, given as the 32-bit accumulator (R248). -/
opaque injectTracked : Int → Nat → Nat → Int → Int

/-- Injected phasor of magnitude A ÷ √2: A, difference frequency in µHz, t in ns, φ in 0.01° (R248). -/
opaque injectPhasor : Nat → Int → Nat → Int → Int × Int

/-- The offset of f_T, in µHz, that removes the remaining phase error (0.001°), before its limit (R205). -/
opaque phaseOffset : Int → Nat → Int

/-- BL after one digitiser sample: BL and level, both in 10 nA (R376). -/
opaque baseline : Nat → Nat → Nat

/-- Points that a unit publishes (R686, R687); no frame says how many (log entry 74). -/
opaque publishedPoints : Nat → Nat

/-- Frames in 25 ms of a stream that no subscription describes, by source and stream (R686; log entry 74). -/
opaque streamAllowance : Nat → Nat → Nat

/-- Revision of a register block (R48). -/
opaque blockRev : Nat → Nat

/-- The Slateot root key in ROM (R101). -/
opaque rootKey : List (BitVec 8)

end Sys2Proof.Config
end

