-- ==== Sys2Proof/Machine/RegTable.lean ====
section
/-!
DEFINITION. The register map of one half: one descriptor per register of the spec's register tables,
block by block in the order of R47 (offset in the block, number of instances and their stride, view,
reset domain, and every non-reserved field with its bits, access code and reset value), and one named
constant per field.  A register that a selector register banks (one view over many entities) has one
instance per bank: bank b of the register at address a has the key a + b * 2^32.
-/

namespace Sys2Proof.Machine

/-- The access codes of R15. -/
inductive Access
  | ro | rw | w1c | w1s | wo | rc
  deriving DecidableEq, Repr

/-- The reset domains of R18. -/
inductive Domain
  | p | m | h | l
  deriving DecidableEq, Repr

/-- The view column: privileged only, both views, or both for reads and privileged for writes. -/
inductive RegView
  | priv | both | readBoth
  deriving DecidableEq, Repr

/-- One field of a register table: bits, access code and reset value. -/
structure FieldDesc where
  hi : Nat
  lo : Nat
  acc : Access
  reset : Nat
  deriving DecidableEq, Repr

/-- One register heading: offset in its block, stride and number of instances, view, reset domain, fields. -/
structure RegDesc where
  name : String
  off : Nat
  stride : Nat
  count : Nat
  view : RegView
  dom : Domain
  fields : List FieldDesc
  deriving DecidableEq, Repr

/-- A field of one register instance: the register's key and the field's bits. -/
structure Fld where
  key : Nat
  hi : Nat
  lo : Nat
  deriving DecidableEq, Repr

/-- The whole register that holds a field. -/
def Fld.word (f : Fld) : Fld := ⟨f.key, 31, 0⟩

/-- Distance between two banks of one register. -/
def bankStride : Nat := 0x100000000

/-- A key that no register has. -/
def nowhere : Nat := 0xFFFF0000

/-- The key of instance `n` of a register with `count` instances; a number past the last names no register. -/
def instKey (base stride count n : Nat) : Nat := if n < count then base + n * stride else nowhere

/-- SYS: the block at 0x00000000 of R47. -/
def regsSYS : List RegDesc :=
  [⟨"SYS_CAPS", 4, 0, 1, .both, .p, [⟨31, 24, .ro, 0⟩, ⟨23, 16, .ro, 0⟩, ⟨15, 8, .ro, 0⟩, ⟨2, 2, .ro, 0⟩, ⟨1, 1, .ro, 0⟩, ⟨0, 0, .ro, 0⟩]⟩,
   ⟨"SYS_ERR", 8, 0, 1, .both, .h, [⟨3, 3, .w1c, 0⟩, ⟨2, 2, .w1c, 0⟩, ⟨1, 1, .w1c, 0⟩, ⟨0, 0, .w1c, 0⟩]⟩,
   ⟨"SYS_PACE", 0x10, 0, 1, .both, .h, [⟨31, 31, .ro, 0⟩, ⟨30, 28, .ro, 0⟩, ⟨27, 20, .ro, 0⟩, ⟨15, 0, .ro, 0⟩]⟩,
   ⟨"SYS_PACE_CERT", 0x14, 0, 1, .both, .h, [⟨15, 0, .ro, 0⟩]⟩,
   ⟨"SYS_PACE_LOWEST", 0x18, 0, 1, .both, .h, [⟨15, 0, .rc, 0xFFFF⟩]⟩,
   ⟨"SYS_MODE", 0x20, 0, 1, .both, .h, [⟨18, 18, .ro, 0⟩, ⟨17, 17, .ro, 1⟩, ⟨16, 16, .ro, 0⟩, ⟨14, 13, .ro, 0⟩, ⟨11, 8, .ro, 0⟩, ⟨7, 7, .ro, 0⟩, ⟨6, 4, .ro, 0⟩, ⟨2, 0, .ro, 0⟩]⟩,
   ⟨"SYS_MODE_CMD", 0x24, 0, 1, .priv, .h, [⟨17, 16, .wo, 0⟩, ⟨15, 8, .wo, 0⟩, ⟨7, 0, .wo, 0⟩]⟩,
   ⟨"SYS_MODE_RESULT", 0x28, 0, 1, .both, .h, [⟨31, 24, .ro, 0⟩, ⟨15, 8, .ro, 0⟩, ⟨7, 0, .ro, 0⟩]⟩,
   ⟨"SYS_LOCKOUT", 0x2C, 0, 1, .both, .m, [⟨31, 31, .ro, 0⟩, ⟨11, 8, .ro, 0⟩, ⟨3, 0, .ro, 0⟩]⟩,
   ⟨"SYS_BLOCK_FTO", 0x30, 0, 1, .both, .h, [⟨15, 0, .ro, 0xFFFF⟩]⟩] ++
  [⟨"SYS_BLOCK_DO", 0x34, 0, 1, .both, .h, [⟨31, 0, .ro, 0⟩]⟩,
   ⟨"SYS_TEST_MASK_FTO", 0x38, 0, 1, .priv, .h, [⟨15, 0, .rw, 0⟩]⟩,
   ⟨"SYS_TEST_MASK_DO", 0x3C, 0, 1, .priv, .h, [⟨31, 0, .rw, 0⟩]⟩,
   ⟨"SYS_TEST_TIME", 0x40, 0, 1, .readBoth, .h, [⟨31, 16, .ro, 0⟩, ⟨15, 0, .rw, 0x1E⟩]⟩,
   ⟨"SYS_BOOT", 0x44, 0, 1, .both, .h, [⟨31, 16, .ro, 0⟩, ⟨5, 5, .ro, 0⟩, ⟨4, 3, .ro, 0⟩, ⟨2, 2, .ro, 0⟩, ⟨1, 0, .ro, 0⟩]⟩,
   ⟨"IMG_STAT", 0x50, 0, 1, .both, .h, [⟨31, 24, .ro, 0⟩, ⟨23, 22, .ro, 0⟩, ⟨21, 21, .ro, 0⟩, ⟨17, 16, .ro, 0⟩, ⟨7, 0, .ro, 0⟩]⟩,
   ⟨"IMG_CMD", 0x54, 0, 1, .priv, .h, [⟨9, 8, .wo, 0⟩, ⟨7, 0, .wo, 0⟩]⟩,
   ⟨"IMG_ERR", 0x58, 0, 1, .both, .h, [⟨31, 24, .ro, 0⟩, ⟨23, 16, .ro, 0⟩, ⟨15, 8, .ro, 0⟩, ⟨7, 0, .ro, 0⟩]⟩,
   ⟨"IMG_SERIAL", 0x5C, 0, 1, .both, .h, [⟨31, 0, .ro, 0⟩]⟩,
   ⟨"IMG_HASH", 0x60, 4, 12, .both, .h, [⟨31, 0, .ro, 0⟩]⟩] ++
  [⟨"SET_ACTIVE", 0x90, 0, 1, .both, .h, [⟨31, 20, .ro, 0⟩, ⟨19, 19, .w1c, 0⟩, ⟨16, 16, .ro, 0⟩, ⟨15, 8, .ro, 0⟩, ⟨6, 4, .ro, 0⟩, ⟨2, 0, .ro, 0⟩]⟩,
   ⟨"SET_CMD", 0x94, 0, 1, .priv, .h, [⟨10, 8, .wo, 0⟩, ⟨7, 0, .wo, 0⟩]⟩,
   ⟨"SET_RESULT", 0x98, 0, 1, .both, .h, [⟨31, 24, .ro, 0⟩, ⟨23, 16, .ro, 0⟩, ⟨15, 8, .ro, 0⟩, ⟨7, 0, .ro, 0⟩]⟩,
   ⟨"SET_CRC", 0x9C, 0, 1, .both, .h, [⟨31, 0, .ro, 0⟩]⟩]

/-- PWR: the block at 0x00010000 of R47. -/
def regsPWR : List RegDesc :=
  [⟨"PWR_PF_CFG", 0x40, 0, 1, .priv, .m, [⟨15, 0, .rw, 0x53⟩]⟩,
   ⟨"PWR_PF_STAT", 0x44, 0, 1, .both, .m, [⟨31, 31, .ro, 0⟩, ⟨30, 29, .ro, 0⟩, ⟨28, 28, .w1c, 0⟩, ⟨3, 0, .ro, 0⟩]⟩,
   ⟨"PWR_VOLT", 0x48, 0, 1, .both, .m, [⟨31, 16, .ro, 0⟩, ⟨15, 0, .ro, 0⟩]⟩]

/-- GAV: the block at 0x00020000 of R47. -/
def regsGAV : List RegDesc :=
  [⟨"GAV_STAT", 0x10, 0, 1, .both, .h, [⟨31, 31, .ro, 0⟩, ⟨30, 30, .ro, 0⟩, ⟨29, 29, .ro, 0⟩, ⟨28, 28, .ro, 0⟩, ⟨27, 27, .ro, 0⟩, ⟨23, 22, .ro, 0⟩, ⟨21, 21, .ro, 0⟩, ⟨20, 20, .ro, 0⟩, ⟨5, 5, .ro, 0⟩, ⟨4, 4, .ro, 0⟩, ⟨1, 0, .ro, 0⟩]⟩,
   ⟨"GAV_CTRL", 0x14, 0, 1, .priv, .h, [⟨0, 0, .rw, 1⟩]⟩,
   ⟨"GAV_CMD", 0x18, 0, 1, .priv, .h, [⟨7, 0, .wo, 0⟩]⟩,
   ⟨"GAV_RESULT", 0x1C, 0, 1, .both, .h, [⟨31, 24, .ro, 0⟩, ⟨15, 8, .ro, 0⟩, ⟨7, 0, .ro, 0⟩]⟩,
   ⟨"GAV_COUNT", 0x20, 0, 1, .both, .h, [⟨31, 16, .ro, 0⟩, ⟨15, 8, .rc, 0⟩, ⟨7, 0, .ro, 0⟩]⟩,
   ⟨"GAV_RETURN", 0x24, 0, 1, .both, .h, [⟨31, 16, .ro, 0⟩, ⟨15, 15, .ro, 0⟩, ⟨1, 0, .ro, 0⟩]⟩,
   ⟨"GAV_LAST", 0x28, 0, 1, .both, .h, [⟨31, 16, .ro, 0⟩, ⟨7, 0, .ro, 0⟩]⟩,
   ⟨"GAV_LS_STAT", 0x30, 0, 1, .both, .h, [⟨31, 30, .ro, 0⟩, ⟨29, 29, .ro, 0⟩, ⟨17, 16, .ro, 0⟩, ⟨15, 0, .ro, 0⟩]⟩,
   ⟨"GAV_LS_CNT", 0x34, 0, 1, .both, .h, [⟨31, 16, .rc, 0⟩, ⟨15, 0, .rc, 0⟩]⟩,
   ⟨"GAV_XL_STAT", 0x40, 0, 1, .both, .h, [⟨31, 31, .ro, 0⟩, ⟨23, 16, .rc, 0⟩, ⟨15, 8, .rc, 0⟩, ⟨7, 0, .rc, 0⟩]⟩]

/-- TIME: the block at 0x00030000 of R47. -/
def regsTIME : List RegDesc :=
  [⟨"TIME_NS", 0x10, 0, 1, .both, .m, [⟨31, 0, .ro, 0⟩]⟩,
   ⟨"TIME_SEC_LO", 0x14, 0, 1, .both, .m, [⟨31, 0, .ro, 0⟩]⟩,
   ⟨"TIME_SEC_HI", 0x18, 0, 1, .both, .m, [⟨15, 0, .ro, 0⟩]⟩,
   ⟨"TIME_STAT", 0x1C, 0, 1, .both, .m, [⟨31, 31, .ro, 0⟩, ⟨30, 29, .ro, 0⟩, ⟨28, 28, .ro, 0⟩, ⟨27, 27, .ro, 0⟩, ⟨26, 26, .ro, 0⟩, ⟨25, 25, .ro, 0⟩, ⟨24, 24, .ro, 0⟩]⟩,
   ⟨"TIME_CFG", 0x20, 0, 1, .priv, .m, [⟨31, 24, .rw, 5⟩, ⟨23, 16, .rw, 0⟩, ⟨9, 9, .rw, 0⟩, ⟨8, 8, .rw, 1⟩, ⟨5, 5, .rw, 0⟩, ⟨4, 4, .rw, 1⟩, ⟨2, 0, .rw, 0⟩]⟩,
   ⟨"TIME_CTRL", 0x24, 0, 1, .priv, .m, [⟨7, 0, .wo, 0⟩]⟩,
   ⟨"TIME_RESULT", 0x28, 0, 1, .both, .m, [⟨31, 24, .ro, 0⟩, ⟨15, 8, .ro, 0⟩, ⟨7, 0, .ro, 0⟩]⟩,
   ⟨"TIME_SET_NS", 0x2C, 0, 1, .priv, .m, [⟨31, 0, .rw, 0⟩]⟩,
   ⟨"TIME_SET_SEC_LO", 0x30, 0, 1, .priv, .m, [⟨31, 0, .rw, 0⟩]⟩,
   ⟨"TIME_SET_SEC_HI", 0x34, 0, 1, .priv, .m, [⟨15, 0, .rw, 0⟩]⟩] ++
  [⟨"TIME_STEP", 0x38, 0, 1, .priv, .m, [⟨31, 0, .rw, 0⟩]⟩,
   ⟨"TIME_SLEW", 0x3C, 0, 1, .priv, .m, [⟨31, 0, .rw, 0⟩]⟩,
   ⟨"TIME_OFFSET", 0x40, 0, 1, .readBoth, .m, [⟨31, 0, .ro, 0⟩]⟩,
   ⟨"TIME_RATE", 0x44, 0, 1, .readBoth, .m, [⟨31, 0, .ro, 0⟩]⟩,
   ⟨"TIME_GRID", 0x48, 0, 1, .readBoth, .m, [⟨31, 0, .ro, 0⟩]⟩,
   ⟨"TIME_UTC", 0x4C, 0, 1, .readBoth, .m, [⟨31, 31, .rw, 0⟩, ⟨15, 0, .rw, 0⟩]⟩,
   ⟨"TIME_PHY", 0x50, 0, 1, .readBoth, .m, [⟨31, 16, .rw, 0⟩, ⟨15, 0, .rw, 0⟩]⟩,
   ⟨"TIME_PPS", 0x54, 0, 1, .readBoth, .m, [⟨31, 16, .rw, 0x64⟩, ⟨1, 0, .rw, 0⟩]⟩,
   ⟨"TIME_PPSCAP_NS", 0x58, 0, 1, .readBoth, .m, [⟨31, 0, .ro, 0⟩]⟩,
   ⟨"TIME_PPSCAP_SEC", 0x5C, 0, 1, .readBoth, .m, [⟨31, 0, .ro, 0⟩]⟩] ++
  [⟨"TIME_SCH_SEL", 0x80, 0, 1, .priv, .h, [⟨3, 0, .rw, 0⟩]⟩,
   ⟨"TIME_SCH_NS", 0x84, 0, 1, .priv, .h, [⟨31, 0, .rw, 0⟩]⟩,
   ⟨"TIME_SCH_SEC_LO", 0x88, 0, 1, .priv, .h, [⟨31, 0, .rw, 0⟩]⟩,
   ⟨"TIME_SCH_SEC_HI", 0x8C, 0, 1, .priv, .h, [⟨15, 0, .rw, 0⟩]⟩,
   ⟨"TIME_SCH_CFG", 0x90, 0, 1, .priv, .h, [⟨31, 31, .rw, 0⟩, ⟨29, 28, .rw, 0⟩, ⟨27, 24, .rw, 0⟩, ⟨23, 0, .rw, 0⟩]⟩,
   ⟨"TIME_SCH_STAT", 0x94, 0, 1, .both, .h, [⟨31, 30, .ro, 0⟩, ⟨29, 29, .ro, 0⟩, ⟨28, 28, .w1c, 0⟩, ⟨7, 0, .ro, 0⟩]⟩,
   ⟨"TIME_SCH_LATE", 0x98, 0, 1, .both, .h, [⟨31, 0, .ro, 0⟩]⟩]

/-- SMP: the block at 0x00040000 of R47. -/
def regsSMP : List RegDesc :=
  [⟨"SMP_CLK_STAT", 0x10, 0, 1, .both, .h, [⟨3, 3, .w1c, 0⟩, ⟨2, 2, .w1c, 0⟩, ⟨1, 1, .ro, 0⟩, ⟨0, 0, .ro, 0⟩]⟩,
   ⟨"SMP_TRK_CFG", 0x20, 0, 1, .priv, .h, [⟨23, 16, .rw, 0xA⟩, ⟨15, 8, .rw, 0xFF⟩, ⟨7, 0, .rw, 0⟩]⟩,
   ⟨"SMP_TRK_STAT", 0x24, 0, 1, .both, .h, [⟨31, 16, .rc, 0⟩, ⟨4, 4, .w1c, 0⟩, ⟨3, 2, .ro, 0⟩, ⟨1, 0, .ro, 2⟩]⟩,
   ⟨"SMP_TRK_FREQ", 0x28, 0, 1, .both, .h, [⟨31, 16, .ro, 0⟩, ⟨15, 0, .ro, 0⟩]⟩,
   ⟨"SMP_SYNC_CFG", 0x30, 0, 1, .priv, .h, [⟨31, 31, .rw, 0⟩, ⟨23, 16, .rw, 2⟩, ⟨8, 0, .rw, 1⟩]⟩,
   ⟨"SMP_SYNC_MAX", 0x34, 0, 1, .priv, .h, [⟨15, 0, .rw, 0x7530⟩]⟩,
   ⟨"SMP_SYNC_STAT", 0x38, 0, 1, .both, .h, [⟨31, 16, .rc, 0⟩, ⟨2, 2, .w1c, 0⟩, ⟨1, 1, .ro, 0⟩, ⟨0, 0, .ro, 0⟩]⟩,
   ⟨"SMP_CAL_CMD", 0x40, 0, 1, .priv, .h, [⟨7, 0, .wo, 0⟩]⟩,
   ⟨"SMP_CAL_STAT", 0x44, 0, 1, .both, .h, [⟨31, 28, .ro, 0⟩, ⟨23, 0, .ro, 0⟩]⟩,
   ⟨"SMP_AP_TRIM", 0x100, 4, 6, .both, .h, [⟨7, 0, .ro, 0⟩, ⟨15, 8, .ro, 0⟩, ⟨23, 16, .ro, 0⟩, ⟨31, 24, .ro, 0⟩]⟩] ++
  [⟨"SMP_FD_TRIM", 0x200, 4, 40, .both, .h, [⟨15, 15, .ro, 0⟩, ⟨14, 8, .ro, 0⟩, ⟨7, 0, .ro, 0⟩]⟩]

/-- FCV: the block at 0x00050000 of R47. -/
def regsFCV : List RegDesc :=
  [⟨"FCV_OVR_SUM", 0x14, 0, 1, .both, .h, [⟨23, 0, .w1c, 0⟩]⟩,
   ⟨"FCV_FAULT_SUM", 0x18, 0, 1, .both, .h, [⟨23, 0, .ro, 0⟩]⟩,
   ⟨"FCV_CFG", 0x100, 32, 24, .priv, .h, [⟨0, 0, .rw, 1⟩]⟩,
   ⟨"FCV_OFF", 0x104, 32, 24, .priv, .h, [⟨15, 0, .rw, 0⟩]⟩,
   ⟨"FCV_GAIN", 0x108, 32, 24, .priv, .h, [⟨15, 0, .rw, 0x4000⟩]⟩,
   ⟨"FCV_SAMP", 0x10C, 32, 24, .both, .h, [⟨31, 16, .ro, 0⟩, ⟨15, 0, .ro, 0⟩]⟩,
   ⟨"FCV_STAT", 0x110, 32, 24, .both, .h, [⟨31, 31, .ro, 0⟩, ⟨2, 2, .ro, 0⟩, ⟨1, 1, .w1c, 0⟩, ⟨0, 0, .ro, 0⟩]⟩,
   ⟨"FCV_OVRCNT", 0x114, 32, 24, .both, .h, [⟨31, 0, .rc, 0⟩]⟩,
   ⟨"FCV_FACT", 0x118, 32, 24, .both, .p, [⟨31, 16, .ro, 0x4000⟩, ⟨15, 0, .ro, 0⟩]⟩]

/-- PCV: the block at 0x00060000 of R47. -/
def regsPCV : List RegDesc :=
  [⟨"PCV_REF", 0x10, 0, 1, .priv, .h, [⟨0, 0, .rw, 0⟩]⟩,
   ⟨"PCV_REF_STAT", 0x14, 0, 1, .both, .h, [⟨31, 31, .ro, 0⟩, ⟨30, 30, .ro, 0⟩, ⟨15, 0, .ro, 0⟩]⟩,
   ⟨"PCV_TEST_CFG", 0x18, 0, 1, .priv, .h, [⟨31, 16, .rw, 0x258⟩, ⟨15, 8, .rw, 0xA⟩, ⟨1, 1, .rw, 0⟩, ⟨0, 0, .rw, 1⟩]⟩,
   ⟨"PCV_TEST_STAT", 0x1C, 0, 1, .both, .h, [⟨31, 31, .ro, 0⟩, ⟨30, 30, .ro, 0⟩, ⟨29, 29, .w1c, 0⟩, ⟨23, 16, .ro, 0⟩, ⟨15, 8, .rc, 0⟩, ⟨7, 0, .rc, 0⟩]⟩,
   ⟨"PCV_PERMIT", 0x20, 0, 1, .priv, .h, [⟨23, 0, .rw, 0x400000⟩]⟩,
   ⟨"PCV_FAILED_LO", 0x24, 0, 1, .both, .h, [⟨31, 0, .ro, 0⟩]⟩,
   ⟨"PCV_FAILED_HI", 0x28, 0, 1, .both, .h, [⟨15, 0, .ro, 0⟩]⟩,
   ⟨"PCV_CFG", 0x100, 32, 48, .priv, .h, [⟨1, 1, .rw, 1⟩, ⟨0, 0, .rw, 0⟩]⟩,
   ⟨"PCV_OFF", 0x104, 32, 48, .priv, .h, [⟨23, 0, .rw, 0⟩]⟩,
   ⟨"PCV_GAIN", 0x108, 32, 48, .priv, .h, [⟨23, 0, .rw, 0x400000⟩]⟩] ++
  [⟨"PCV_SAMP", 0x10C, 32, 48, .both, .h, [⟨31, 8, .ro, 0⟩, ⟨7, 0, .ro, 0⟩]⟩,
   ⟨"PCV_STAT", 0x110, 32, 48, .both, .h, [⟨31, 31, .ro, 0⟩, ⟨30, 30, .ro, 0⟩, ⟨1, 0, .ro, 0⟩]⟩,
   ⟨"PCV_TEST", 0x114, 32, 48, .both, .h, [⟨31, 8, .ro, 0⟩, ⟨1, 0, .ro, 0⟩]⟩,
   ⟨"PCV_FOFF", 0x118, 32, 48, .both, .p, [⟨23, 0, .ro, 0⟩]⟩,
   ⟨"PCV_FGAIN", 0x11C, 32, 48, .both, .p, [⟨23, 0, .ro, 0x400000⟩]⟩,
   ⟨"PCV_FLT_SUM", 0x1000, 0, 1, .both, .h, [⟨7, 0, .ro, 0⟩]⟩,
   ⟨"PCV_FLT_SETTLING", 0x1010, 4, 5, .both, .h, [⟨31, 0, .ro, 0⟩]⟩,
   ⟨"PCV_FLT_SAT", 0x1024, 4, 5, .both, .h, [⟨31, 0, .w1c, 0⟩]⟩,
   ⟨"PCV_FLT_SEL", 0x1040, 0, 1, .priv, .h, [⟨7, 0, .rw, 0⟩]⟩,
   ⟨"PCV_FLT_CFG", 0x1044, 0, 1, .priv, .h, [⟨31, 31, .ro, 0⟩, ⟨25, 24, .ro, 0⟩, ⟨23, 16, .ro, 0⟩, ⟨15, 8, .ro, 0⟩, ⟨7, 0, .ro, 0⟩]⟩] ++
  [⟨"PCV_FLT_DET", 0x1048, 0, 1, .priv, .h, [⟨31, 0, .ro, 0⟩]⟩,
   ⟨"PCV_FLT_OUT", 0x104C, 0, 1, .priv, .h, [⟨31, 8, .ro, 0⟩, ⟨7, 0, .ro, 0⟩]⟩,
   ⟨"PCV_FLT_OUT2", 0x1050, 0, 1, .priv, .h, [⟨31, 8, .ro, 0⟩, ⟨7, 0, .ro, 0⟩]⟩,
   ⟨"PCV_FLT_PEAK", 0x1054, 0, 1, .priv, .h, [⟨31, 8, .ro, 0⟩, ⟨7, 0, .ro, 0⟩]⟩,
   ⟨"PCV_FLT_RMS", 0x1058, 0, 1, .priv, .h, [⟨31, 8, .ro, 0⟩, ⟨7, 0, .ro, 0⟩]⟩,
   ⟨"PCV_FLT_ENV", 0x105C, 0, 1, .priv, .h, [⟨31, 8, .ro, 0⟩, ⟨7, 0, .ro, 0⟩]⟩,
   ⟨"PCV_FLT_STAT", 0x1060, 0, 1, .priv, .h, [⟨31, 16, .ro, 0⟩, ⟨15, 15, .ro, 0⟩, ⟨7, 0, .rc, 0⟩]⟩,
   ⟨"PCV_FLT_CMD", 0x1064, 0, 1, .priv, .h, [⟨23, 16, .wo, 0⟩, ⟨15, 8, .wo, 0⟩, ⟨7, 0, .wo, 0⟩]⟩,
   ⟨"PCV_FLT_RESULT", 0x1068, 0, 1, .both, .h, [⟨31, 24, .ro, 0⟩, ⟨23, 16, .ro, 0⟩, ⟨12, 8, .ro, 0⟩, ⟨7, 0, .ro, 0⟩]⟩,
   ⟨"PCV_INJ_SEL", 0x1070, 0, 1, .priv, .h, [⟨11, 8, .rw, 0⟩, ⟨7, 0, .rw, 0⟩]⟩] ++
  [⟨"PCV_INJ_DATA", 0x1074, 0, 1, .priv, .h, [⟨31, 0, .rw, 0⟩]⟩,
   ⟨"PCV_INJ_CMD", 0x1078, 0, 1, .priv, .h, [⟨11, 8, .wo, 0⟩, ⟨7, 0, .wo, 0⟩]⟩,
   ⟨"PCV_INJ_STAT", 0x107C, 0, 1, .both, .h, [⟨31, 31, .ro, 0⟩, ⟨30, 30, .w1c, 0⟩, ⟨27, 24, .ro, 0⟩, ⟨23, 16, .ro, 0⟩, ⟨15, 8, .ro, 0⟩, ⟨7, 0, .ro, 0⟩]⟩]

/-- BSI: the block at 0x00070000 of R47. -/
def regsBSI : List RegDesc :=
  [⟨"BSI_MCLK", 0x20, 4, 4, .priv, .h, [⟨2, 0, .rw, 4⟩]⟩,
   ⟨"BSI_MCLK_STAT", 0x30, 0, 1, .both, .h, [⟨7, 7, .ro, 0⟩, ⟨5, 5, .ro, 0⟩, ⟨4, 4, .w1c, 0⟩]⟩,
   ⟨"BSI_CFG", 0x100, 32, 32, .priv, .h, [⟨27, 16, .rw, 0⟩, ⟨2, 2, .rw, 0⟩, ⟨1, 0, .rw, 0⟩]⟩,
   ⟨"BSI_OFF", 0x104, 32, 32, .priv, .h, [⟨23, 0, .rw, 0⟩]⟩,
   ⟨"BSI_GAIN", 0x108, 32, 32, .priv, .h, [⟨23, 0, .rw, 0x400000⟩]⟩,
   ⟨"BSI_SAMP", 0x10C, 32, 32, .both, .h, [⟨31, 8, .ro, 0⟩, ⟨7, 0, .ro, 0⟩]⟩,
   ⟨"BSI_STAT", 0x110, 32, 32, .both, .h, [⟨31, 31, .ro, 0⟩, ⟨11, 8, .w1c, 0⟩, ⟨3, 3, .ro, 0⟩, ⟨2, 2, .ro, 0⟩, ⟨1, 1, .ro, 0⟩, ⟨0, 0, .ro, 0⟩]⟩]

/-- HKA: the block at 0x00080000 of R47. -/
def regsHKA : List RegDesc :=
  [⟨"HKA_CTRL", 0x10, 0, 1, .priv, .h, [⟨31, 0, .rw, 0xFFFFFFFF⟩]⟩,
   ⟨"HKA_DMASK", 0x14, 0, 1, .priv, .h, [⟨31, 0, .rw, 0⟩]⟩,
   ⟨"HKA_TEST_EN", 0x18, 0, 1, .priv, .h, [⟨15, 0, .rw, 0xFFFF⟩]⟩,
   ⟨"HKA_SCAN", 0x1C, 0, 1, .priv, .h, [⟨15, 0, .rw, 0x3E8⟩]⟩,
   ⟨"HKA_DATA", 0x20, 0, 1, .both, .h, [⟨31, 16, .ro, 0⟩, ⟨15, 15, .rc, 0⟩, ⟨12, 8, .ro, 0⟩, ⟨7, 0, .ro, 0⟩]⟩,
   ⟨"HKA_STAT", 0x24, 0, 1, .both, .h, [⟨2, 2, .w1c, 0⟩, ⟨1, 1, .ro, 0⟩, ⟨0, 0, .w1c, 0⟩]⟩,
   ⟨"HKA_LOST", 0x28, 0, 1, .both, .h, [⟨31, 0, .rc, 0⟩]⟩,
   ⟨"HKA_ALARM", 0x2C, 0, 1, .both, .h, [⟨31, 0, .w1c, 0⟩]⟩,
   ⟨"HKA_CORR_SEL", 0x30, 0, 1, .priv, .h, [⟨4, 0, .rw, 0⟩]⟩,
   ⟨"HKA_CORR_OFF", 0x34, 0, 1, .priv, .h, [⟨23, 0, .rw, 0⟩]⟩] ++
  [⟨"HKA_CORR_GAIN", 0x38, 0, 1, .priv, .h, [⟨23, 0, .rw, 0x400000⟩]⟩,
   ⟨"HKA_LIM", 0x100, 4, 32, .priv, .h, [⟨31, 16, .rw, 0x7FFF⟩, ⟨15, 0, .rw, 0x8000⟩]⟩]

/-- FAB: the block at 0x00090000 of R47. -/
def regsFAB : List RegDesc :=
  [⟨"FAB_SUM", 0x10, 0, 1, .both, .h, [⟨31, 24, .ro, 0⟩, ⟨23, 16, .ro, 0⟩, ⟨15, 8, .ro, 0⟩, ⟨7, 0, .ro, 0⟩]⟩,
   ⟨"FAB_OP", 0x20, 4, 6, .both, .h, [⟨31, 0, .ro, 0⟩]⟩,
   ⟨"FAB_PU", 0x40, 4, 6, .both, .h, [⟨31, 0, .ro, 0⟩]⟩,
   ⟨"FAB_INV", 0x60, 4, 6, .both, .h, [⟨31, 0, .ro, 0⟩]⟩,
   ⟨"FAB_OPH", 0x80, 4, 6, .both, .h, [⟨31, 0, .w1c, 0⟩]⟩,
   ⟨"FAB_ROT_CTRL", 0xA0, 0, 1, .priv, .h, [⟨0, 0, .rw, 1⟩]⟩,
   ⟨"FAB_ROT_STAT", 0xA4, 0, 1, .both, .h, [⟨31, 31, .w1c, 0⟩, ⟨30, 30, .ro, 0⟩, ⟨29, 29, .ro, 0⟩, ⟨23, 16, .ro, 0⟩, ⟨7, 0, .ro, 0⟩]⟩,
   ⟨"FAB_ROT_PASS", 0xA8, 0, 1, .both, .h, [⟨31, 16, .ro, 0⟩, ⟨15, 0, .ro, 0⟩]⟩,
   ⟨"FAB_ROT_LAST", 0xAC, 0, 1, .both, .h, [⟨31, 16, .ro, 0⟩, ⟨15, 0, .ro, 0⟩]⟩,
   ⟨"FAB_ROT_ERR", 0xB0, 0, 1, .both, .h, [⟨31, 16, .rc, 0⟩, ⟨15, 0, .rc, 0⟩]⟩] ++
  [⟨"FAB_TFAIL", 0xC0, 4, 2, .both, .h, [⟨31, 0, .ro, 0⟩]⟩,
   ⟨"FAB_FTFAIL", 0xE0, 4, 2, .both, .h, [⟨31, 0, .ro, 0⟩]⟩,
   ⟨"FAB_FSEL", 0x100, 0, 1, .priv, .h, [⟨7, 0, .rw, 0⟩]⟩,
   ⟨"FAB_FSTAT", 0x104, 0, 1, .priv, .h, [⟨31, 24, .ro, 0⟩, ⟨23, 23, .ro, 0⟩, ⟨22, 22, .ro, 0⟩, ⟨21, 21, .ro, 0⟩, ⟨15, 8, .ro, 0xFF⟩, ⟨5, 4, .ro, 0⟩, ⟨1, 1, .ro, 0⟩, ⟨0, 0, .ro, 0⟩]⟩,
   ⟨"FAB_FSTART_NS", 0x108, 0, 1, .priv, .h, [⟨31, 0, .ro, 0⟩]⟩,
   ⟨"FAB_FSTART_SEC", 0x10C, 0, 1, .priv, .h, [⟨31, 0, .ro, 0⟩]⟩,
   ⟨"FAB_FQTY", 0x110, 0, 1, .priv, .h, [⟨31, 8, .ro, 0⟩, ⟨7, 0, .ro, 0⟩]⟩,
   ⟨"FAB_FSTATE", 0x114, 0, 1, .priv, .h, [⟨31, 16, .ro, 0⟩]⟩,
   ⟨"FAB_FCMP0", 0x118, 0, 1, .priv, .h, [⟨31, 0, .ro, 0⟩]⟩,
   ⟨"FAB_FCMP1", 0x11C, 0, 1, .priv, .h, [⟨31, 0, .ro, 0⟩]⟩] ++
  [⟨"FAB_TSEL", 0x120, 0, 1, .priv, .h, [⟨7, 0, .rw, 0⟩]⟩,
   ⟨"FAB_TINFO", 0x124, 0, 1, .priv, .h, [⟨31, 30, .ro, 0⟩, ⟨29, 29, .ro, 0⟩, ⟨7, 0, .ro, 0xFF⟩]⟩,
   ⟨"FAB_UC_SEL", 0x130, 0, 1, .priv, .h, [⟨26, 24, .rw, 0⟩, ⟨17, 16, .rw, 0⟩, ⟨5, 0, .rw, 0⟩]⟩,
   ⟨"FAB_UC_DATA", 0x134, 0, 1, .priv, .h, [⟨31, 16, .rw, 0⟩, ⟨15, 12, .rw, 0⟩, ⟨11, 0, .rw, 0⟩]⟩,
   ⟨"FAB_ALIGN", 0x140, 0, 1, .both, .h, [⟨31, 16, .rc, 0⟩, ⟨15, 0, .rc, 0⟩]⟩]

/-- FST: the block at 0x000A0000 of R47. -/
def regsFST : List RegDesc :=
  [⟨"FST_OP_LO", 0x10, 0, 1, .both, .h, [⟨31, 0, .ro, 0⟩]⟩,
   ⟨"FST_OP_HI", 0x14, 0, 1, .both, .h, [⟨15, 0, .ro, 0⟩]⟩,
   ⟨"FST_PU_LO", 0x18, 0, 1, .both, .h, [⟨31, 0, .ro, 0⟩]⟩,
   ⟨"FST_PU_HI", 0x1C, 0, 1, .both, .h, [⟨15, 0, .ro, 0⟩]⟩,
   ⟨"FST_MTX", 0x20, 0, 1, .both, .h, [⟨31, 16, .w1c, 0⟩, ⟨15, 0, .ro, 0⟩]⟩,
   ⟨"FST_FTI", 0x24, 0, 1, .both, .h, [⟨31, 16, .ro, 0⟩, ⟨15, 0, .ro, 0⟩]⟩,
   ⟨"FST_FTI_HIST", 0x28, 0, 1, .both, .h, [⟨31, 16, .w1c, 0⟩, ⟨15, 0, .w1c, 0⟩]⟩,
   ⟨"FST_TPL_SEL", 0x30, 0, 1, .priv, .h, [⟨26, 24, .rw, 0⟩, ⟨21, 16, .rw, 0⟩, ⟨11, 8, .rw, 0⟩, ⟨4, 0, .rw, 0⟩]⟩,
   ⟨"FST_TPL_DATA", 0x34, 0, 1, .priv, .h, [⟨15, 0, .rw, 0⟩]⟩,
   ⟨"FST_FSTAT", 0x100, 16, 48, .both, .h, [⟨31, 24, .ro, 0⟩, ⟨23, 23, .ro, 0⟩, ⟨22, 22, .ro, 0⟩, ⟨21, 20, .ro, 0⟩, ⟨19, 18, .ro, 0⟩, ⟨17, 17, .w1c, 0⟩, ⟨15, 12, .ro, 0⟩, ⟨11, 8, .ro, 0⟩, ⟨7, 6, .ro, 0⟩, ⟨1, 1, .ro, 0⟩, ⟨0, 0, .ro, 0⟩]⟩] ++
  [⟨"FST_FSTART_NS", 0x104, 16, 48, .both, .h, [⟨31, 0, .ro, 0⟩]⟩,
   ⟨"FST_FSTART_SEC", 0x108, 16, 48, .both, .h, [⟨31, 0, .ro, 0⟩]⟩,
   ⟨"FST_FSIG", 0x10C, 16, 48, .both, .h, [⟨31, 16, .ro, 0⟩, ⟨15, 0, .ro, 0⟩]⟩,
   ⟨"FST_TMAP", 0x400, 4, 13, .both, .h, [⟨7, 6, .ro, 0⟩, ⟨5, 0, .ro, 0x3F⟩, ⟨15, 14, .ro, 0⟩, ⟨13, 8, .ro, 0x3F⟩, ⟨23, 22, .ro, 0⟩, ⟨21, 16, .ro, 0x3F⟩, ⟨31, 30, .ro, 0⟩, ⟨29, 24, .ro, 0x3F⟩]⟩]

/-- TRM: the block at 0x000B0000 of R47. -/
def regsTRM : List RegDesc :=
  [⟨"TRM_GRP_LO", 0x10, 0, 1, .both, .h, [⟨31, 0, .ro, 0⟩]⟩,
   ⟨"TRM_GRP_HI", 0x14, 0, 1, .both, .h, [⟨31, 0, .ro, 0⟩]⟩,
   ⟨"TRM_GRP_INV_LO", 0x18, 0, 1, .both, .h, [⟨31, 0, .ro, 0⟩]⟩,
   ⟨"TRM_GRP_INV_HI", 0x1C, 0, 1, .both, .h, [⟨31, 0, .ro, 0⟩]⟩,
   ⟨"TRM_GRP_HIST_LO", 0x20, 0, 1, .both, .h, [⟨31, 0, .w1c, 0⟩]⟩,
   ⟨"TRM_GRP_HIST_HI", 0x24, 0, 1, .both, .h, [⟨31, 0, .w1c, 0⟩]⟩,
   ⟨"TRM_FTO_IN", 0x8000, 0, 1, .both, .m, [⟨31, 16, .ro, 0⟩, ⟨15, 0, .ro, 0⟩]⟩,
   ⟨"TRM_FTO_OUT", 0x8004, 0, 1, .both, .m, [⟨31, 16, .w1c, 0⟩, ⟨15, 0, .ro, 0⟩]⟩,
   ⟨"TRM_DO_IN_A", 0x8008, 0, 1, .both, .m, [⟨31, 0, .ro, 0⟩]⟩,
   ⟨"TRM_DO_IN_B", 0x800C, 0, 1, .both, .m, [⟨31, 0, .ro, 0⟩]⟩] ++
  [⟨"TRM_DO_OUT", 0x8010, 0, 1, .both, .m, [⟨31, 0, .ro, 0⟩]⟩,
   ⟨"TRM_VOTE_FTO", 0x8014, 0, 1, .both, .m, [⟨31, 16, .ro, 0⟩, ⟨15, 0, .ro, 0⟩]⟩,
   ⟨"TRM_CLASS_DO", 0x8018, 0, 1, .both, .m, [⟨31, 0, .ro, 0⟩]⟩,
   ⟨"TRM_VOTE_DO", 0x801C, 0, 1, .both, .m, [⟨31, 0, .ro, 0⟩]⟩,
   ⟨"TRM_LOCK_DO", 0x8020, 0, 1, .both, .m, [⟨31, 0, .ro, 0⟩]⟩,
   ⟨"TRM_CELL_STAT", 0x8024, 0, 1, .both, .m, [⟨31, 31, .ro, 1⟩, ⟨30, 30, .ro, 1⟩, ⟨29, 29, .ro, 0⟩, ⟨28, 28, .ro, 1⟩, ⟨27, 27, .ro, 0⟩]⟩,
   ⟨"TRM_DISAGREE", 0x8028, 0, 1, .both, .m, [⟨31, 16, .ro, 0⟩, ⟨15, 0, .ro, 0⟩]⟩,
   ⟨"TRM_DISAGREE_HI", 0x802C, 0, 1, .both, .m, [⟨15, 0, .ro, 0⟩]⟩,
   ⟨"TRM_TCS_CFG", 0x8040, 8, 4, .priv, .m, [⟨31, 31, .rw, 0⟩, ⟨28, 24, .rw, 0⟩, ⟨23, 16, .rw, 0x14⟩, ⟨15, 0, .rw, 0x1F4⟩]⟩,
   ⟨"TRM_TCS_STAT", 0x8044, 8, 4, .both, .m, [⟨31, 31, .ro, 0⟩, ⟨30, 30, .ro, 0⟩, ⟨29, 29, .ro, 0⟩, ⟨28, 28, .ro, 0⟩, ⟨27, 27, .w1c, 0⟩, ⟨15, 0, .ro, 0⟩]⟩]

/-- ARC: the block at 0x000C0000 of R47. -/
def regsARC : List RegDesc :=
  [⟨"ARC_LIGHT", 0x10, 0, 1, .both, .m, [⟨31, 16, .ro, 0⟩, ⟨15, 0, .ro, 0⟩]⟩,
   ⟨"ARC_LIGHT_HIST", 0x14, 0, 1, .both, .m, [⟨31, 16, .w1c, 0⟩, ⟨15, 0, .w1c, 0⟩]⟩,
   ⟨"ARC_SUP", 0x18, 0, 1, .both, .m, [⟨31, 16, .ro, 0⟩, ⟨15, 0, .ro, 0⟩]⟩,
   ⟨"ARC_AMB", 0x1C, 0, 1, .both, .m, [⟨31, 16, .ro, 0⟩, ⟨15, 0, .ro, 0⟩]⟩,
   ⟨"ARC_CMD", 0x20, 0, 1, .priv, .m, [⟨31, 16, .wo, 0⟩, ⟨7, 0, .wo, 0⟩]⟩,
   ⟨"ARC_RESULT", 0x24, 0, 1, .both, .m, [⟨31, 24, .ro, 0⟩, ⟨15, 8, .ro, 0⟩, ⟨7, 0, .ro, 0⟩]⟩,
   ⟨"ARC_HKSEL", 0x28, 0, 1, .priv, .m, [⟨15, 0, .rw, 0x3210⟩]⟩,
   ⟨"ARC_ELEM", 0x40, 0, 1, .both, .h, [⟨31, 16, .ro, 0⟩, ⟨15, 0, .ro, 0⟩]⟩,
   ⟨"ARC_LEVEL", 0x100, 32, 16, .both, .m, [⟨17, 0, .ro, 0⟩]⟩,
   ⟨"ARC_BASE", 0x104, 32, 16, .both, .m, [⟨17, 0, .ro, 0⟩]⟩] ++
  [⟨"ARC_CODE", 0x108, 32, 16, .both, .m, [⟨31, 28, .ro, 0⟩, ⟨27, 24, .ro, 0⟩, ⟨17, 0, .ro, 0⟩]⟩,
   ⟨"ARC_CSTAT", 0x10C, 32, 16, .both, .m, [⟨31, 24, .ro, 0⟩, ⟨23, 20, .ro, 0⟩, ⟨5, 5, .ro, 0⟩, ⟨4, 4, .ro, 0⟩, ⟨3, 3, .ro, 0⟩, ⟨2, 2, .ro, 0⟩, ⟨1, 1, .ro, 0⟩, ⟨0, 0, .ro, 0⟩]⟩,
   ⟨"ARC_CNT", 0x110, 32, 16, .both, .m, [⟨31, 16, .ro, 0⟩, ⟨15, 0, .ro, 0⟩]⟩,
   ⟨"ARC_RISE", 0x114, 32, 16, .both, .m, [⟨31, 31, .ro, 0⟩, ⟨15, 0, .ro, 0⟩]⟩]

/-- DIO: the block at 0x000D0000 of R47. -/
def regsDIO : List RegDesc :=
  [⟨"DIO_DI_LO", 0x10, 0, 1, .both, .m, [⟨31, 0, .ro, 0⟩]⟩,
   ⟨"DIO_DI_HI", 0x14, 0, 1, .both, .m, [⟨31, 0, .ro, 0⟩]⟩,
   ⟨"DIO_DI_INV_LO", 0x18, 0, 1, .both, .m, [⟨31, 0, .ro, 0⟩]⟩,
   ⟨"DIO_DI_INV_HI", 0x1C, 0, 1, .both, .m, [⟨31, 0, .ro, 0⟩]⟩,
   ⟨"DIO_DI_WB_LO", 0x20, 0, 1, .both, .m, [⟨31, 0, .ro, 0⟩]⟩,
   ⟨"DIO_DI_WB_HI", 0x24, 0, 1, .both, .m, [⟨31, 0, .ro, 0⟩]⟩,
   ⟨"DIO_CMD", 0x30, 0, 1, .priv, .m, [⟨12, 8, .wo, 0⟩, ⟨7, 0, .wo, 0⟩]⟩,
   ⟨"DIO_RESULT", 0x34, 0, 1, .both, .m, [⟨31, 24, .ro, 0⟩, ⟨15, 8, .ro, 0⟩, ⟨7, 0, .ro, 0⟩]⟩,
   ⟨"DIO_DO_VAL", 0x40, 0, 1, .both, .m, [⟨31, 0, .ro, 0⟩]⟩,
   ⟨"DIO_DO_OUT", 0x44, 0, 1, .both, .m, [⟨31, 0, .ro, 0⟩]⟩] ++
  [⟨"DIO_DO_FAULT", 0x48, 0, 1, .both, .m, [⟨31, 0, .ro, 0⟩]⟩,
   ⟨"DIO_DO_TMO", 0x4C, 0, 1, .both, .m, [⟨31, 0, .ro, 0⟩]⟩,
   ⟨"DIO_SUP", 0x50, 0, 1, .both, .m, [⟨19, 16, .ro, 0⟩, ⟨15, 8, .ro, 0xFF⟩, ⟨7, 0, .ro, 0⟩]⟩,
   ⟨"DIO_REFRESH", 0x54, 0, 1, .both, .m, [⟨31, 16, .ro, 0⟩, ⟨15, 0, .ro, 0xFFFF⟩]⟩,
   ⟨"DIO_SUPV", 0x60, 4, 4, .both, .m, [⟨31, 16, .ro, 0⟩, ⟨15, 0, .ro, 0⟩]⟩,
   ⟨"DIO_DISTAT", 0x100, 8, 64, .both, .m, [⟨31, 31, .ro, 0⟩, ⟨30, 30, .ro, 0⟩, ⟨29, 29, .ro, 0⟩, ⟨28, 28, .ro, 0⟩, ⟨7, 0, .ro, 0⟩]⟩,
   ⟨"DIO_DISEQ", 0x104, 8, 64, .both, .m, [⟨31, 0, .ro, 0⟩]⟩,
   ⟨"DIO_DOSTAT", 0x400, 8, 32, .both, .m, [⟨31, 30, .ro, 0⟩, ⟨29, 29, .ro, 0⟩, ⟨28, 28, .ro, 0⟩, ⟨27, 27, .ro, 0⟩, ⟨8, 5, .ro, 0⟩, ⟨4, 4, .ro, 0⟩, ⟨3, 3, .ro, 0⟩, ⟨2, 2, .ro, 0⟩, ⟨1, 1, .ro, 0⟩, ⟨0, 0, .ro, 0⟩]⟩,
   ⟨"DIO_DOCUR", 0x404, 8, 32, .both, .m, [⟨15, 0, .ro, 0⟩]⟩]

/-- LGE: the block at 0x000E0000 of R47. -/
def regsLGE : List RegDesc :=
  [⟨"LGE_STAT", 0x10, 0, 1, .both, .l, [⟨31, 31, .ro, 0⟩, ⟨30, 30, .ro, 0⟩, ⟨23, 20, .ro, 0⟩, ⟨13, 8, .ro, 0⟩, ⟨7, 7, .w1c, 0⟩]⟩,
   ⟨"LGE_STOP_PC", 0x14, 0, 1, .both, .l, [⟨17, 0, .ro, 0⟩]⟩,
   ⟨"LGE_CYCLE", 0x18, 0, 1, .both, .h, [⟨31, 0, .ro, 0⟩]⟩,
   ⟨"LGE_LOAD", 0x1C, 0, 1, .both, .h, [⟨15, 8, .rc, 0⟩, ⟨7, 0, .ro, 0⟩]⟩,
   ⟨"LGE_PROG", 0x20, 0, 1, .both, .h, [⟨31, 26, .ro, 0⟩, ⟨25, 21, .ro, 0⟩, ⟨18, 0, .ro, 0⟩]⟩,
   ⟨"LGE_RET", 0x24, 0, 1, .both, .h, [⟨31, 8, .ro, 0⟩, ⟨0, 0, .ro, 0⟩]⟩,
   ⟨"LGE_TSEL", 0x30, 0, 1, .priv, .h, [⟨5, 0, .rw, 0⟩]⟩,
   ⟨"LGE_TINFO", 0x34, 0, 1, .priv, .l, [⟨31, 31, .ro, 0⟩, ⟨30, 30, .ro, 0⟩, ⟨27, 24, .ro, 0⟩, ⟨21, 20, .ro, 0⟩, ⟨19, 18, .ro, 0⟩, ⟨15, 0, .ro, 0⟩]⟩,
   ⟨"LGE_TEXEC", 0x38, 0, 1, .priv, .l, [⟨31, 16, .rc, 0⟩, ⟨15, 0, .ro, 0⟩]⟩,
   ⟨"LGE_TRELS", 0x3C, 0, 1, .priv, .l, [⟨31, 8, .ro, 0⟩, ⟨7, 0, .rc, 0⟩]⟩]

/-- ACQ: the block at 0x000F0000 of R47. -/
def regsACQ : List RegDesc :=
  [⟨"ACQ_STAT", 0x10, 0, 1, .both, .h, [⟨31, 20, .ro, 0⟩, ⟨16, 16, .ro, 0⟩, ⟨15, 8, .ro, 0⟩, ⟨7, 0, .ro, 0⟩]⟩,
   ⟨"ACQ_CMD", 0x14, 0, 1, .priv, .h, [⟨15, 8, .wo, 0⟩, ⟨7, 0, .wo, 0⟩]⟩,
   ⟨"ACQ_RESULT", 0x18, 0, 1, .both, .h, [⟨31, 24, .ro, 0⟩, ⟨15, 8, .ro, 0⟩, ⟨7, 0, .ro, 0⟩]⟩,
   ⟨"ACQ_LOST", 0x1C, 0, 1, .both, .h, [⟨31, 16, .rc, 0⟩, ⟨15, 0, .rc, 0⟩]⟩,
   ⟨"ACQ_REC", 0x20, 0, 1, .both, .h, [⟨31, 16, .rc, 0⟩, ⟨15, 0, .ro, 0⟩]⟩,
   ⟨"ACQ_TRG", 0x24, 0, 1, .both, .h, [⟨31, 16, .w1c, 0⟩, ⟨15, 0, .ro, 0⟩]⟩,
   ⟨"ACQ_PLAN", 0x30, 4, 4, .both, .h, [⟨15, 8, .ro, 0⟩, ⟨7, 0, .ro, 0⟩]⟩,
   ⟨"ACQ_MSEL", 0x40, 0, 1, .priv, .h, [⟨10, 8, .rw, 0⟩, ⟨4, 0, .rw, 0⟩]⟩,
   ⟨"ACQ_MSEQ", 0x44, 0, 1, .priv, .h, [⟨31, 0, .ro, 0⟩]⟩,
   ⟨"ACQ_MDATA", 0x80, 4, 16, .priv, .h, [⟨31, 0, .ro, 0⟩]⟩] ++
  [⟨"ACQ_ACFG", 0x100, 32, 8, .both, .h, [⟨26, 24, .ro, 0⟩, ⟨21, 16, .ro, 0⟩, ⟨15, 13, .ro, 0⟩, ⟨12, 0, .ro, 0⟩]⟩,
   ⟨"ACQ_ASTAT", 0x104, 32, 8, .both, .h, [⟨31, 30, .ro, 0⟩, ⟨29, 28, .ro, 0⟩, ⟨27, 16, .ro, 0⟩]⟩,
   ⟨"ACQ_ASEQ", 0x108, 32, 8, .both, .h, [⟨31, 0, .ro, 0⟩]⟩,
   ⟨"ACQ_ALAST", 0x10C, 32, 8, .both, .h, [⟨31, 16, .ro, 0⟩, ⟨11, 0, .ro, 0⟩]⟩,
   ⟨"ACQ_ALOST", 0x110, 32, 8, .both, .h, [⟨31, 0, .rc, 0⟩]⟩,
   ⟨"ACQ_ACOMM", 0x114, 32, 8, .both, .h, [⟨31, 0, .ro, 0⟩]⟩]

/-- CRT: the block at 0x00100000 of R47. -/
def regsCRT : List RegDesc :=
  [⟨"CRT_STAT", 0x10, 0, 1, .both, .h, [⟨31, 30, .ro, 0⟩, ⟨29, 29, .ro, 0⟩]⟩,
   ⟨"CRT_CMD", 0x14, 0, 1, .priv, .h, [⟨7, 0, .wo, 0⟩]⟩,
   ⟨"CRT_RESULT", 0x18, 0, 1, .both, .h, [⟨31, 24, .ro, 0⟩, ⟨15, 8, .ro, 0⟩, ⟨7, 0, .ro, 0⟩]⟩,
   ⟨"CRT_JOP", 0x20, 0, 1, .priv, .h, [⟨23, 16, .rw, 1⟩, ⟨11, 8, .rw, 4⟩, ⟨6, 4, .rw, 3⟩, ⟨3, 2, .rw, 2⟩, ⟨1, 0, .rw, 0⟩]⟩,
   ⟨"CRT_JLEAD", 0x24, 0, 1, .priv, .h, [⟨11, 0, .rw, 0⟩]⟩,
   ⟨"CRT_JSPACE", 0x28, 0, 1, .priv, .h, [⟨5, 4, .rw, 0⟩, ⟨1, 0, .rw, 0⟩]⟩,
   ⟨"CRT_JSRC", 0x2C, 0, 1, .priv, .h, [⟨31, 0, .rw, 0⟩]⟩,
   ⟨"CRT_JLEN", 0x30, 0, 1, .priv, .h, [⟨31, 0, .rw, 0⟩]⟩,
   ⟨"CRT_JDST", 0x34, 0, 1, .priv, .h, [⟨31, 0, .rw, 0⟩]⟩,
   ⟨"CRT_JCAP", 0x38, 0, 1, .priv, .h, [⟨31, 0, .rw, 0⟩]⟩] ++
  [⟨"CRT_OUT_LIMIT", 0x3C, 0, 1, .priv, .h, [⟨16, 0, .rw, 0x10000⟩]⟩,
   ⟨"CRT_IN_CONSUMED", 0x40, 0, 1, .both, .h, [⟨31, 0, .ro, 0⟩]⟩,
   ⟨"CRT_OUT_PRODUCED", 0x44, 0, 1, .both, .h, [⟨31, 0, .ro, 0⟩]⟩,
   ⟨"CRT_ERRPOS", 0x48, 0, 1, .both, .h, [⟨31, 16, .ro, 0⟩, ⟨15, 0, .ro, 0⟩]⟩,
   ⟨"CRT_CIN", 0x50, 0, 1, .both, .h, [⟨31, 0, .rc, 0⟩]⟩,
   ⟨"CRT_COUT", 0x54, 0, 1, .both, .h, [⟨31, 0, .rc, 0⟩]⟩,
   ⟨"CRT_CBLK", 0x58, 0, 1, .both, .h, [⟨31, 16, .rc, 0⟩, ⟨15, 0, .rc, 0⟩]⟩]

/-- PST: the block at 0x00110000 of R47. -/
def regsPST : List RegDesc :=
  [⟨"PST_STAT", 0x10, 0, 1, .both, .h, [⟨31, 31, .ro, 0⟩, ⟨30, 30, .ro, 0⟩, ⟨16, 16, .w1c, 0⟩, ⟨15, 0, .rc, 0⟩]⟩,
   ⟨"PST_IMG_CMD", 0x20, 0, 1, .priv, .h, [⟨9, 8, .wo, 0⟩, ⟨7, 0, .wo, 0⟩]⟩,
   ⟨"PST_IMG_RESULT", 0x24, 0, 1, .both, .h, [⟨31, 24, .ro, 0⟩, ⟨15, 8, .ro, 0⟩, ⟨7, 0, .ro, 0⟩]⟩,
   ⟨"PST_IMG_DATA", 0x28, 0, 1, .priv, .h, [⟨31, 0, .wo, 0⟩]⟩,
   ⟨"PST_IMG_PTR", 0x2C, 0, 1, .both, .h, [⟨31, 31, .w1c, 0⟩, ⟨23, 0, .ro, 0⟩]⟩]

/-- LDG: the block at 0x00120000 of R47. -/
def regsLDG : List RegDesc :=
  [⟨"LDG_HEAD", 0x10, 0, 1, .both, .h, [⟨31, 0, .ro, 0⟩]⟩,
   ⟨"LDG_TAIL", 0x14, 0, 1, .both, .h, [⟨31, 0, .ro, 0⟩]⟩,
   ⟨"LDG_STAT", 0x18, 0, 1, .both, .h, [⟨31, 31, .ro, 0⟩, ⟨30, 30, .ro, 0⟩, ⟨15, 0, .rc, 0⟩]⟩,
   ⟨"LDG_CMD", 0x1C, 0, 1, .both, .h, [⟨23, 16, .wo, 0⟩, ⟨7, 0, .wo, 0⟩]⟩,
   ⟨"LDG_RESULT", 0x20, 0, 1, .both, .h, [⟨31, 24, .ro, 0⟩, ⟨15, 8, .ro, 0⟩, ⟨7, 0, .ro, 0⟩]⟩,
   ⟨"LDG_RSEL", 0x24, 0, 1, .both, .h, [⟨31, 0, .rw, 0⟩]⟩,
   ⟨"LDG_RSTAT", 0x28, 0, 1, .both, .h, [⟨1, 0, .ro, 0⟩]⟩,
   ⟨"LDG_OPTIME_LO", 0x30, 0, 1, .both, .h, [⟨31, 0, .ro, 0⟩]⟩,
   ⟨"LDG_OPTIME_HI", 0x34, 0, 1, .both, .h, [⟨15, 0, .ro, 0⟩]⟩,
   ⟨"LDG_PCYCLE", 0x38, 0, 1, .both, .h, [⟨31, 0, .ro, 0⟩]⟩] ++
  [⟨"LDG_RDATA", 0x40, 4, 16, .both, .h, [⟨31, 0, .ro, 0⟩]⟩]

/-- TLY: the block at 0x00130000 of R47. -/
def regsTLY : List RegDesc :=
  [⟨"TLY_SUB", 0x10, 0, 1, .both, .h, [⟨1, 0, .ro, 3⟩, ⟨3, 2, .ro, 3⟩, ⟨5, 4, .ro, 3⟩, ⟨7, 6, .ro, 3⟩, ⟨9, 8, .ro, 3⟩, ⟨11, 10, .ro, 3⟩, ⟨13, 12, .ro, 3⟩, ⟨15, 14, .ro, 3⟩, ⟨17, 16, .ro, 3⟩, ⟨19, 18, .ro, 3⟩, ⟨21, 20, .ro, 3⟩, ⟨23, 22, .ro, 3⟩, ⟨25, 24, .ro, 3⟩, ⟨27, 26, .ro, 3⟩, ⟨29, 28, .ro, 3⟩, ⟨31, 30, .ro, 3⟩]⟩,
   ⟨"TLY_OVERALL", 0x14, 0, 1, .both, .h, [⟨31, 30, .ro, 2⟩, ⟨23, 16, .ro, 0⟩, ⟨15, 8, .ro, 0⟩, ⟨7, 0, .rc, 0⟩]⟩,
   ⟨"TLY_HIST", 0x18, 0, 1, .both, .h, [⟨15, 0, .w1c, 0⟩]⟩,
   ⟨"TLY_CAUSE", 0x100, 4, 16, .both, .h, [⟨31, 16, .ro, 0⟩, ⟨1, 0, .ro, 3⟩]⟩]

/-- STK: the block at 0x00140000 of R47. -/
def regsSTK : List RegDesc :=
  [⟨"STK_CTRL", 0x10, 0, 1, .priv, .h, [⟨7, 0, .wo, 0⟩]⟩,
   ⟨"STK_RESULT", 0x14, 0, 1, .both, .h, [⟨31, 24, .ro, 0⟩, ⟨15, 8, .ro, 0⟩, ⟨7, 0, .ro, 0⟩]⟩,
   ⟨"STK_EPOCH", 0x18, 0, 1, .both, .h, [⟨31, 0, .ro, 0⟩]⟩,
   ⟨"STK_STAT", 0x1C, 0, 1, .both, .h, [⟨31, 31, .ro, 0⟩, ⟨30, 30, .ro, 0⟩, ⟨29, 29, .ro, 0⟩, ⟨25, 24, .ro, 0⟩, ⟨23, 23, .ro, 0⟩]⟩,
   ⟨"STK_TAKE_NS", 0x20, 0, 1, .both, .h, [⟨31, 0, .ro, 0⟩]⟩,
   ⟨"STK_TAKE_SEC", 0x24, 0, 1, .both, .h, [⟨31, 0, .ro, 0⟩]⟩,
   ⟨"STK_LATE", 0x28, 0, 1, .both, .h, [⟨31, 0, .ro, 0⟩]⟩,
   ⟨"STK_DNS", 0x30, 0, 1, .priv, .h, [⟨31, 0, .rw, 0⟩]⟩,
   ⟨"STK_DSEC_LO", 0x34, 0, 1, .priv, .h, [⟨31, 0, .rw, 0⟩]⟩,
   ⟨"STK_DSEC_HI", 0x38, 0, 1, .priv, .h, [⟨15, 0, .rw, 0⟩]⟩] ++
  [⟨"STK_DTAG", 0x3C, 0, 1, .priv, .h, [⟨31, 0, .rw, 0⟩]⟩,
   ⟨"STK_DLAST", 0x40, 0, 1, .both, .h, [⟨31, 0, .ro, 0⟩]⟩,
   ⟨"STK_SHADOW", 0x1000, 4, 768, .both, .h, [⟨31, 0, .ro, 0⟩]⟩]

/-- EVQ: the block at 0x00150000 of R47. -/
def regsEVQ : List RegDesc :=
  [⟨"EVQ_SUM", 0x10, 0, 1, .priv, .h, [⟨31, 16, .ro, 0x4000⟩, ⟨15, 0, .ro, 0⟩]⟩,
   ⟨"EVQ_SEL", 0x14, 0, 1, .priv, .h, [⟨8, 0, .rw, 0⟩]⟩,
   ⟨"EVQ_CFG", 0x18, 0, 1, .priv, .h, [⟨31, 26, .rw, 0⟩, ⟨25, 13, .rw, 0⟩, ⟨12, 0, .rw, 0⟩]⟩,
   ⟨"EVQ_STAT", 0x1C, 0, 1, .priv, .h, [⟨31, 16, .rc, 0⟩, ⟨15, 0, .ro, 0⟩]⟩,
   ⟨"EVQ_POP", 0x20, 0, 1, .priv, .h, [⟨31, 0, .ro, 0⟩]⟩,
   ⟨"EVQ_IDATA", 0x24, 0, 1, .priv, .h, [⟨31, 0, .ro, 0⟩]⟩]

/-- ARD: the block at 0x00160000 of R47. -/
def regsARD : List RegDesc :=
  [⟨"ARD_STAT", 0x10, 0, 1, .both, .h, [⟨31, 31, .ro, 0⟩, ⟨30, 30, .ro, 0⟩, ⟨29, 29, .ro, 0⟩, ⟨28, 28, .ro, 0⟩, ⟨27, 27, .ro, 0⟩, ⟨26, 26, .ro, 0⟩, ⟨23, 22, .ro, 0⟩, ⟨13, 0, .ro, 0⟩]⟩,
   ⟨"ARD_MAP", 0x14, 0, 1, .both, .h, [⟨31, 24, .ro, 0⟩, ⟨23, 16, .ro, 0⟩, ⟨15, 8, .ro, 0⟩]⟩,
   ⟨"ARD_LANE", 0x20, 4, 3, .both, .h, [⟨31, 24, .ro, 0⟩, ⟨23, 16, .rc, 0⟩, ⟨11, 0, .ro, 0⟩]⟩,
   ⟨"ARD_ERR", 0x30, 4, 3, .both, .h, [⟨31, 16, .rc, 0⟩, ⟨15, 0, .rc, 0⟩]⟩,
   ⟨"ARD_SEC", 0x40, 0, 1, .both, .h, [⟨31, 16, .rc, 0⟩, ⟨15, 0, .rc, 0⟩]⟩,
   ⟨"ARD_DROP", 0x44, 0, 1, .both, .h, [⟨31, 16, .rc, 0⟩, ⟨15, 8, .rc, 0⟩, ⟨7, 0, .rc, 0⟩]⟩,
   ⟨"ARD_DUP", 0x48, 0, 1, .both, .h, [⟨31, 0, .rc, 0⟩]⟩,
   ⟨"ARD_ERA", 0x4C, 0, 1, .both, .h, [⟨31, 0, .ro, 0⟩]⟩,
   ⟨"ARD_BZ_PUB", 0x50, 0, 1, .both, .h, [⟨16, 0, .ro, 0⟩]⟩,
   ⟨"ARD_BZ_SUB", 0x54, 0, 1, .both, .h, [⟨16, 0, .ro, 0⟩]⟩] ++
  [⟨"ARD_BZ_STALE", 0x58, 0, 1, .both, .h, [⟨16, 0, .ro, 0⟩]⟩,
   ⟨"ARD_BZ_PLANE", 0x5C, 0, 1, .both, .h, [⟨16, 0, .ro, 0⟩]⟩,
   ⟨"ARD_PSEL", 0x80, 0, 1, .priv, .h, [⟨16, 0, .rw, 0⟩]⟩,
   ⟨"ARD_PINFO", 0x84, 0, 1, .both, .h, [⟨31, 30, .ro, 0⟩, ⟨29, 29, .ro, 0⟩, ⟨19, 0, .ro, 0⟩]⟩,
   ⟨"ARD_PVAL", 0x88, 0, 1, .both, .h, [⟨31, 0, .ro, 0⟩]⟩,
   ⟨"ARD_PAGE", 0x8C, 0, 1, .both, .h, [⟨31, 0, .ro, 0xFFFFFFFF⟩]⟩]

/-- ETH: the block at 0x00170000 of R47. -/
def regsETH : List RegDesc :=
  [⟨"ETH_STAT", 0x10, 0, 1, .both, .h, [⟨31, 31, .ro, 0⟩, ⟨30, 30, .ro, 0⟩, ⟨29, 29, .ro, 0⟩]⟩,
   ⟨"ETH_CORE", 0x14, 0, 1, .both, .h, [⟨31, 30, .ro, 0⟩, ⟨29, 27, .ro, 0⟩, ⟨26, 24, .ro, 0⟩, ⟨23, 15, .ro, 0⟩, ⟨7, 0, .ro, 0⟩]⟩,
   ⟨"ETH_CFG_HASH", 0x18, 0, 1, .both, .h, [⟨31, 0, .ro, 0⟩]⟩,
   ⟨"ETH_MAC_LO", 0x20, 0, 1, .readBoth, .h, [⟨31, 0, .rw, 0⟩]⟩,
   ⟨"ETH_MAC_HI", 0x24, 0, 1, .readBoth, .h, [⟨15, 0, .rw, 0⟩]⟩,
   ⟨"ETH_IP", 0x28, 0, 1, .readBoth, .h, [⟨31, 0, .rw, 0⟩]⟩,
   ⟨"ETH_MASK", 0x2C, 0, 1, .readBoth, .h, [⟨31, 0, .rw, 0⟩]⟩,
   ⟨"ETH_GW", 0x30, 0, 1, .readBoth, .h, [⟨31, 0, .rw, 0⟩]⟩,
   ⟨"ETH_SVC_IP", 0x34, 0, 1, .readBoth, .h, [⟨31, 0, .rw, 0⟩]⟩,
   ⟨"ETH_TSEL", 0x40, 0, 1, .priv, .h, [⟨31, 24, .rw, 0⟩, ⟨23, 8, .rw, 0⟩, ⟨7, 0, .rw, 0⟩]⟩] ++
  [⟨"ETH_TDATA", 0x44, 0, 1, .priv, .h, [⟨31, 0, .rw, 0⟩]⟩,
   ⟨"ETH_GOOSE_TX", 0x50, 0, 1, .both, .h, [⟨31, 31, .w1c, 0⟩, ⟨30, 0, .rc, 0⟩]⟩,
   ⟨"ETH_GOOSE_RX", 0x54, 0, 1, .both, .h, [⟨31, 16, .rc, 0⟩, ⟨15, 0, .rc, 0⟩]⟩,
   ⟨"ETH_RX_ERR", 0x58, 0, 1, .both, .h, [⟨31, 16, .rc, 0⟩, ⟨15, 0, .rc, 0⟩]⟩]

/-- HST: the block at 0x00180000 of R47. -/
def regsHST : List RegDesc :=
  [⟨"HST_STAT", 0x10, 0, 1, .both, .h, [⟨31, 31, .ro, 0⟩]⟩,
   ⟨"HST_IRQ_EN", 0x14, 0, 1, .both, .h, [⟨5, 0, .rw, 0⟩]⟩,
   ⟨"HST_IRQ_STAT", 0x18, 0, 1, .both, .h, [⟨5, 0, .w1c, 0⟩]⟩,
   ⟨"HST_ERR", 0x1C, 0, 1, .both, .h, [⟨31, 16, .rc, 0⟩, ⟨15, 8, .rc, 0⟩, ⟨7, 0, .rc, 0⟩]⟩]

/-- SEC: the block at 0x00190000 of R47. -/
def regsSEC : List RegDesc :=
  [⟨"SEC_STAT", 0x10, 0, 1, .both, .h, [⟨31, 31, .w1c, 0⟩, ⟨30, 30, .ro, 1⟩, ⟨29, 29, .ro, 0⟩, ⟨28, 28, .ro, 0⟩, ⟨27, 24, .ro, 0⟩]⟩,
   ⟨"SEC_CMD", 0x14, 0, 1, .priv, .h, [⟨15, 8, .wo, 0⟩, ⟨23, 16, .wo, 0⟩, ⟨7, 0, .wo, 0⟩]⟩,
   ⟨"SEC_RESULT", 0x18, 0, 1, .both, .h, [⟨31, 24, .ro, 0⟩, ⟨15, 8, .ro, 0⟩, ⟨7, 0, .ro, 0⟩]⟩,
   ⟨"SEC_DEVID_LO", 0x1C, 0, 1, .both, .h, [⟨31, 0, .ro, 0⟩]⟩,
   ⟨"SEC_DEVID_HI", 0x20, 0, 1, .both, .h, [⟨31, 0, .ro, 0⟩]⟩,
   ⟨"SEC_NONCE", 0x40, 4, 8, .both, .h, [⟨31, 0, .ro, 0⟩]⟩,
   ⟨"SEC_CNONCE", 0x60, 4, 8, .both, .h, [⟨31, 0, .rw, 0⟩]⟩,
   ⟨"SEC_SIG", 0x80, 4, 16, .both, .h, [⟨31, 0, .rw, 0⟩]⟩,
   ⟨"SEC_KEY_SEL", 0xC0, 0, 1, .priv, .h, [⟨26, 24, .rw, 0⟩, ⟨22, 8, .rw, 0⟩, ⟨4, 0, .rw, 0⟩]⟩,
   ⟨"SEC_KEY_DATA", 0xC4, 0, 1, .priv, .h, [⟨31, 0, .rw, 0⟩]⟩]

/-- TRC: the block at 0x001A0000 of R47. -/
def regsTRC : List RegDesc :=
  [⟨"TRC_CFG", 0x10, 0, 1, .priv, .h, [⟨31, 31, .rw, 0⟩, ⟨4, 0, .rw, 0⟩]⟩,
   ⟨"TRC_STAT", 0x14, 0, 1, .both, .h, [⟨31, 16, .ro, 0⟩, ⟨15, 14, .ro, 0⟩, ⟨13, 0, .rc, 0⟩]⟩,
   ⟨"TRC_CMD", 0x18, 0, 1, .priv, .h, [⟨7, 0, .wo, 0⟩]⟩]

/-- The descriptors of block number `b` (R47); none past TRC. -/
def blockRegs : Nat → List RegDesc
  | 0 => regsSYS
  | 1 => regsPWR
  | 2 => regsGAV
  | 3 => regsTIME
  | 4 => regsSMP
  | 5 => regsFCV
  | 6 => regsPCV
  | 7 => regsBSI
  | 8 => regsHKA
  | 9 => regsFAB
  | 10 => regsFST
  | 11 => regsTRM
  | 12 => regsARC
  | 13 => regsDIO
  | 14 => regsLGE
  | 15 => regsACQ
  | 16 => regsCRT
  | 17 => regsPST
  | 18 => regsLDG
  | 19 => regsTLY
  | 20 => regsSTK
  | 21 => regsEVQ
  | 22 => regsARD
  | 23 => regsETH
  | 24 => regsHST
  | 25 => regsSEC
  | 26 => regsTRC
  | _ => []

end Sys2Proof.Machine

namespace Sys2Proof.Reg

open Sys2Proof.Machine (Fld instKey)

/-! SYS_CAPS: R4. -/
def SYS_CAPS_BSI_COUNT : Fld := ⟨0x4, 31, 24⟩
def SYS_CAPS_PCV_COUNT : Fld := ⟨0x4, 23, 16⟩
def SYS_CAPS_FCV_COUNT : Fld := ⟨0x4, 15, 8⟩
def SYS_CAPS_CRATE : Fld := ⟨0x4, 2, 2⟩
def SYS_CAPS_ARC : Fld := ⟨0x4, 1, 1⟩
def SYS_CAPS_HALF_B : Fld := ⟨0x4, 0, 0⟩
/-! SYS_ERR: R55. -/
def SYS_ERR_UNMAPPED : Fld := ⟨0x8, 3, 3⟩
def SYS_ERR_NOT_HOLDER : Fld := ⟨0x8, 2, 2⟩
def SYS_ERR_IMAGE_ONLY : Fld := ⟨0x8, 1, 1⟩
def SYS_ERR_ABSENT : Fld := ⟨0x8, 0, 0⟩
/-! SYS_PACE: R44. -/
def SYS_PACE_PACE_LOW : Fld := ⟨0x10, 31, 31⟩
def SYS_PACE_WORST_MON : Fld := ⟨0x10, 30, 28⟩
def SYS_PACE_MON_FAIL : Fld := ⟨0x10, 27, 20⟩
def SYS_PACE_PACE : Fld := ⟨0x10, 15, 0⟩
/-! SYS_PACE_CERT: R45. -/
def SYS_PACE_CERT_CERT_MIN : Fld := ⟨0x14, 15, 0⟩
/-! SYS_PACE_LOWEST: R46. -/
def SYS_PACE_LOWEST_LOWEST : Fld := ⟨0x18, 15, 0⟩
/-! SYS_MODE: R87. -/
def SYS_MODE_PERMIT : Fld := ⟨0x20, 18, 18⟩
def SYS_MODE_C0_BLOCK : Fld := ⟨0x20, 17, 17⟩
def SYS_MODE_COMMISSIONED : Fld := ⟨0x20, 16, 16⟩
def SYS_MODE_ROLE : Fld := ⟨0x20, 14, 13⟩
def SYS_MODE_BOOT_STEP : Fld := ⟨0x20, 11, 8⟩
def SYS_MODE_PEND : Fld := ⟨0x20, 7, 7⟩
def SYS_MODE_TARGET : Fld := ⟨0x20, 6, 4⟩
def SYS_MODE_MODE : Fld := ⟨0x20, 2, 0⟩
/-! SYS_MODE_CMD: R88. -/
def SYS_MODE_CMD_KIND : Fld := ⟨0x24, 17, 16⟩
def SYS_MODE_CMD_INDEX : Fld := ⟨0x24, 15, 8⟩
def SYS_MODE_CMD_CMD : Fld := ⟨0x24, 7, 0⟩
/-! SYS_MODE_RESULT: R89. -/
def SYS_MODE_RESULT_SEQ : Fld := ⟨0x28, 31, 24⟩
def SYS_MODE_RESULT_CMD : Fld := ⟨0x28, 15, 8⟩
def SYS_MODE_RESULT_STATUS : Fld := ⟨0x28, 7, 0⟩
/-! SYS_LOCKOUT: R90. -/
def SYS_LOCKOUT_ACTIVE : Fld := ⟨0x2C, 31, 31⟩
def SYS_LOCKOUT_PRESENT : Fld := ⟨0x2C, 11, 8⟩
def SYS_LOCKOUT_CAUSE : Fld := ⟨0x2C, 3, 0⟩
/-! SYS_BLOCK_FTO: R91. -/
def SYS_BLOCK_FTO_BLOCK : Fld := ⟨0x30, 15, 0⟩
/-! SYS_BLOCK_DO: R91. -/
def SYS_BLOCK_DO_BLOCK : Fld := ⟨0x34, 31, 0⟩
/-! SYS_TEST_MASK_FTO: R92. -/
def SYS_TEST_MASK_FTO_MASK : Fld := ⟨0x38, 15, 0⟩
/-! SYS_TEST_MASK_DO: R92. -/
def SYS_TEST_MASK_DO_MASK : Fld := ⟨0x3C, 31, 0⟩
/-! SYS_TEST_TIME: R93. -/
def SYS_TEST_TIME_REMAIN : Fld := ⟨0x40, 31, 16⟩
def SYS_TEST_TIME_LIMIT : Fld := ⟨0x40, 15, 0⟩
/-! SYS_BOOT: R94. -/
def SYS_BOOT_DURATION : Fld := ⟨0x44, 31, 16⟩
def SYS_BOOT_WARM : Fld := ⟨0x44, 5, 5⟩
def SYS_BOOT_PARTNER : Fld := ⟨0x44, 4, 3⟩
def SYS_BOOT_FALLBACK : Fld := ⟨0x44, 2, 2⟩
def SYS_BOOT_SLOT : Fld := ⟨0x44, 1, 0⟩
/-! IMG_STAT: R121. -/
def IMG_STAT_VERIFY_RESULT : Fld := ⟨0x50, 31, 24⟩
def IMG_STAT_VERIFY_SLOT : Fld := ⟨0x50, 23, 22⟩
def IMG_STAT_VERIFY_BUSY : Fld := ⟨0x50, 21, 21⟩
def IMG_STAT_RUN_KIND : Fld := ⟨0x50, 17, 16⟩
def IMG_STAT_CMD_STATUS : Fld := ⟨0x50, 7, 0⟩
/-! IMG_CMD: R122. -/
def IMG_CMD_SLOT : Fld := ⟨0x54, 9, 8⟩
def IMG_CMD_CMD : Fld := ⟨0x54, 7, 0⟩
/-! IMG_ERR: R123. -/
def IMG_ERR_SECTION : Fld := ⟨0x58, 31, 24⟩
def IMG_ERR_SLOT2 : Fld := ⟨0x58, 23, 16⟩
def IMG_ERR_SLOT1 : Fld := ⟨0x58, 15, 8⟩
def IMG_ERR_SLOT0 : Fld := ⟨0x58, 7, 0⟩
/-! IMG_SERIAL: R124. -/
def IMG_SERIAL_SERIAL : Fld := ⟨0x5C, 31, 0⟩
/-! IMG_HASH: R125. -/
def IMG_HASH_HASH (n : Nat) : Fld := ⟨instKey 0x60 4 12 n, 31, 0⟩
/-! SET_ACTIVE: R126. -/
def SET_ACTIVE_LIVE_PENDING : Fld := ⟨0x90, 31, 20⟩
def SET_ACTIVE_WRITE_REFUSED : Fld := ⟨0x90, 19, 19⟩
def SET_ACTIVE_PEND : Fld := ⟨0x90, 16, 16⟩
def SET_ACTIVE_STAGED : Fld := ⟨0x90, 15, 8⟩
def SET_ACTIVE_TARGET : Fld := ⟨0x90, 6, 4⟩
def SET_ACTIVE_ACTIVE : Fld := ⟨0x90, 2, 0⟩
/-! SET_CMD: R127. -/
def SET_CMD_GROUP : Fld := ⟨0x94, 10, 8⟩
def SET_CMD_CMD : Fld := ⟨0x94, 7, 0⟩
/-! SET_RESULT: R128. -/
def SET_RESULT_SEQ : Fld := ⟨0x98, 31, 24⟩
def SET_RESULT_DETAIL : Fld := ⟨0x98, 23, 16⟩
def SET_RESULT_CMD : Fld := ⟨0x98, 15, 8⟩
def SET_RESULT_STATUS : Fld := ⟨0x98, 7, 0⟩
/-! SET_CRC: R129. -/
def SET_CRC_CRC : Fld := ⟨0x9C, 31, 0⟩
/-! PWR_PF_CFG: R631. -/
def PWR_PF_CFG_LEVEL : Fld := ⟨0x10040, 15, 0⟩
/-! PWR_PF_STAT: R631. -/
def PWR_PF_STAT_PF : Fld := ⟨0x10044, 31, 31⟩
def PWR_PF_STAT_CAUSE : Fld := ⟨0x10044, 30, 29⟩
def PWR_PF_STAT_CFG_REFUSED : Fld := ⟨0x10044, 28, 28⟩
def PWR_PF_STAT_STEP : Fld := ⟨0x10044, 3, 0⟩
/-! PWR_VOLT: R631. -/
def PWR_VOLT_VSUP : Fld := ⟨0x10048, 31, 16⟩
def PWR_VOLT_VHOLD : Fld := ⟨0x10048, 15, 0⟩
/-! GAV_STAT: R526. -/
def GAV_STAT_ACTING : Fld := ⟨0x20010, 31, 31⟩
def GAV_STAT_NO_LEADER : Fld := ⟨0x20010, 30, 30⟩
def GAV_STAT_LCL : Fld := ⟨0x20010, 29, 29⟩
def GAV_STAT_ELIGIBLE : Fld := ⟨0x20010, 28, 28⟩
def GAV_STAT_FAILED_LEAD : Fld := ⟨0x20010, 27, 27⟩
def GAV_STAT_PARTNER_ROLE : Fld := ⟨0x20010, 23, 22⟩
def GAV_STAT_HOME : Fld := ⟨0x20010, 21, 21⟩
def GAV_STAT_HOLDER_STROBE : Fld := ⟨0x20010, 20, 20⟩
def GAV_STAT_REQ : Fld := ⟨0x20010, 5, 5⟩
def GAV_STAT_GRANT : Fld := ⟨0x20010, 4, 4⟩
def GAV_STAT_MON : Fld := ⟨0x20010, 1, 0⟩
/-! GAV_CTRL: R527. -/
def GAV_CTRL_AUTO_RETURN : Fld := ⟨0x20014, 0, 0⟩
/-! GAV_CMD: R528. -/
def GAV_CMD_CMD : Fld := ⟨0x20018, 7, 0⟩
/-! GAV_RESULT: R529. -/
def GAV_RESULT_SEQ : Fld := ⟨0x2001C, 31, 24⟩
def GAV_RESULT_CMD : Fld := ⟨0x2001C, 15, 8⟩
def GAV_RESULT_STATUS : Fld := ⟨0x2001C, 7, 0⟩
/-! GAV_COUNT: R530. -/
def GAV_COUNT_SWITCHOVERS : Fld := ⟨0x20020, 31, 16⟩
def GAV_COUNT_ROUNDS_FAILED : Fld := ⟨0x20020, 15, 8⟩
def GAV_COUNT_HANDOVERS : Fld := ⟨0x20020, 7, 0⟩
/-! GAV_RETURN: R530. -/
def GAV_RETURN_HOLDOFF_REMAIN : Fld := ⟨0x20024, 31, 16⟩
def GAV_RETURN_SUSPENDED : Fld := ⟨0x20024, 15, 15⟩
def GAV_RETURN_REVERSIONS : Fld := ⟨0x20024, 1, 0⟩
/-! GAV_LAST: R530. -/
def GAV_LAST_GAP : Fld := ⟨0x20028, 31, 16⟩
def GAV_LAST_CAUSE : Fld := ⟨0x20028, 7, 0⟩
/-! GAV_LS_STAT: R531. -/
def GAV_LS_STAT_STATE : Fld := ⟨0x20030, 31, 30⟩
def GAV_LS_STAT_DEGRADED : Fld := ⟨0x20030, 29, 29⟩
def GAV_LS_STAT_DIVERGE : Fld := ⟨0x20030, 17, 16⟩
def GAV_LS_STAT_LAG : Fld := ⟨0x20030, 15, 0⟩
/-! GAV_LS_CNT: R531. -/
def GAV_LS_CNT_LATENT : Fld := ⟨0x20034, 31, 16⟩
def GAV_LS_CNT_MISMATCH : Fld := ⟨0x20034, 15, 0⟩
/-! GAV_XL_STAT: R532. -/
def GAV_XL_STAT_UP : Fld := ⟨0x20040, 31, 31⟩
def GAV_XL_STAT_HB_MISSED : Fld := ⟨0x20040, 23, 16⟩
def GAV_XL_STAT_RETRANS : Fld := ⟨0x20040, 15, 8⟩
def GAV_XL_STAT_CRC_ERR : Fld := ⟨0x20040, 7, 0⟩
/-! TIME_NS: R661. -/
def TIME_NS_NS : Fld := ⟨0x30010, 31, 0⟩
/-! TIME_SEC_LO: R661. -/
def TIME_SEC_LO_SEC : Fld := ⟨0x30014, 31, 0⟩
/-! TIME_SEC_HI: R661. -/
def TIME_SEC_HI_SEC : Fld := ⟨0x30018, 15, 0⟩
/-! TIME_STAT: R661. -/
def TIME_STAT_SYNC : Fld := ⟨0x3001C, 31, 31⟩
def TIME_STAT_SERVO_STATE : Fld := ⟨0x3001C, 30, 29⟩
def TIME_STAT_TOD_SET : Fld := ⟨0x3001C, 28, 28⟩
def TIME_STAT_GRID_SLEW : Fld := ⟨0x3001C, 27, 27⟩
def TIME_STAT_PPS_IN_OK : Fld := ⟨0x3001C, 26, 26⟩
def TIME_STAT_UNLOCK : Fld := ⟨0x3001C, 25, 25⟩
def TIME_STAT_PENDING : Fld := ⟨0x3001C, 24, 24⟩
/-! TIME_CFG: R662. -/
def TIME_CFG_HOLD : Fld := ⟨0x30020, 31, 24⟩
def TIME_CFG_DOMAIN : Fld := ⟨0x30020, 23, 16⟩
def TIME_CFG_CLOCK : Fld := ⟨0x30020, 9, 9⟩
def TIME_CFG_TWO_STEP : Fld := ⟨0x30020, 8, 8⟩
def TIME_CFG_NOSTEP : Fld := ⟨0x30020, 5, 5⟩
def TIME_CFG_SERVO : Fld := ⟨0x30020, 4, 4⟩
def TIME_CFG_SRC : Fld := ⟨0x30020, 2, 0⟩
/-! TIME_CTRL: R662. -/
def TIME_CTRL_CMD : Fld := ⟨0x30024, 7, 0⟩
/-! TIME_RESULT: R662. -/
def TIME_RESULT_SEQ : Fld := ⟨0x30028, 31, 24⟩
def TIME_RESULT_CMD : Fld := ⟨0x30028, 15, 8⟩
def TIME_RESULT_STATUS : Fld := ⟨0x30028, 7, 0⟩
/-! TIME_SET_NS: R663. -/
def TIME_SET_NS_NS : Fld := ⟨0x3002C, 31, 0⟩
/-! TIME_SET_SEC_LO: R663. -/
def TIME_SET_SEC_LO_SEC : Fld := ⟨0x30030, 31, 0⟩
/-! TIME_SET_SEC_HI: R663. -/
def TIME_SET_SEC_HI_SEC : Fld := ⟨0x30034, 15, 0⟩
/-! TIME_STEP: R663. -/
def TIME_STEP_NS : Fld := ⟨0x30038, 31, 0⟩
/-! TIME_SLEW: R663. -/
def TIME_SLEW_PPB : Fld := ⟨0x3003C, 31, 0⟩
/-! TIME_OFFSET: R664. -/
def TIME_OFFSET_NS : Fld := ⟨0x30040, 31, 0⟩
/-! TIME_RATE: R664. -/
def TIME_RATE_PPB : Fld := ⟨0x30044, 31, 0⟩
/-! TIME_GRID: R664. -/
def TIME_GRID_NS : Fld := ⟨0x30048, 31, 0⟩
/-! TIME_UTC: R664. -/
def TIME_UTC_VALID : Fld := ⟨0x3004C, 31, 31⟩
def TIME_UTC_OFFSET : Fld := ⟨0x3004C, 15, 0⟩
/-! TIME_PHY: R664. -/
def TIME_PHY_EGRESS : Fld := ⟨0x30050, 31, 16⟩
def TIME_PHY_INGRESS : Fld := ⟨0x30050, 15, 0⟩
/-! TIME_PPS: R664. -/
def TIME_PPS_WIDTH : Fld := ⟨0x30054, 31, 16⟩
def TIME_PPS_MODE : Fld := ⟨0x30054, 1, 0⟩
/-! TIME_PPSCAP_NS: R664. -/
def TIME_PPSCAP_NS_NS : Fld := ⟨0x30058, 31, 0⟩
/-! TIME_PPSCAP_SEC: R664. -/
def TIME_PPSCAP_SEC_SEC : Fld := ⟨0x3005C, 31, 0⟩
/-! TIME_SCH_SEL: R665. -/
def TIME_SCH_SEL_ENTRY : Fld := ⟨0x30080, 3, 0⟩
/-! TIME_SCH_NS: R665. -/
def TIME_SCH_NS_NS (n : Nat) : Fld := ⟨0x30084 + n * 0x100000000, 31, 0⟩
/-! TIME_SCH_SEC_LO: R665. -/
def TIME_SCH_SEC_LO_SEC (n : Nat) : Fld := ⟨0x30088 + n * 0x100000000, 31, 0⟩
/-! TIME_SCH_SEC_HI: R665. -/
def TIME_SCH_SEC_HI_SEC (n : Nat) : Fld := ⟨0x3008C + n * 0x100000000, 15, 0⟩
/-! TIME_SCH_CFG: R665. -/
def TIME_SCH_CFG_ARM (n : Nat) : Fld := ⟨0x30090 + n * 0x100000000, 31, 31⟩
def TIME_SCH_CFG_POLICY (n : Nat) : Fld := ⟨0x30090 + n * 0x100000000, 29, 28⟩
def TIME_SCH_CFG_ACTION (n : Nat) : Fld := ⟨0x30090 + n * 0x100000000, 27, 24⟩
def TIME_SCH_CFG_ARG (n : Nat) : Fld := ⟨0x30090 + n * 0x100000000, 23, 0⟩
/-! TIME_SCH_STAT: R665. -/
def TIME_SCH_STAT_STATE (n : Nat) : Fld := ⟨0x30094 + n * 0x100000000, 31, 30⟩
def TIME_SCH_STAT_LATE (n : Nat) : Fld := ⟨0x30094 + n * 0x100000000, 29, 29⟩
def TIME_SCH_STAT_WRITE_REFUSED (n : Nat) : Fld := ⟨0x30094 + n * 0x100000000, 28, 28⟩
def TIME_SCH_STAT_STATUS (n : Nat) : Fld := ⟨0x30094 + n * 0x100000000, 7, 0⟩
/-! TIME_SCH_LATE: R665. -/
def TIME_SCH_LATE_NS (n : Nat) : Fld := ⟨0x30098 + n * 0x100000000, 31, 0⟩
/-! SMP_CLK_STAT: R218. -/
def SMP_CLK_STAT_MOD_UNLOCK_HIST : Fld := ⟨0x40010, 3, 3⟩
def SMP_CLK_STAT_FAST_UNLOCK_HIST : Fld := ⟨0x40010, 2, 2⟩
def SMP_CLK_STAT_MOD_LOCK : Fld := ⟨0x40010, 1, 1⟩
def SMP_CLK_STAT_FAST_LOCK : Fld := ⟨0x40010, 0, 0⟩
/-! SMP_TRK_CFG: R219. -/
def SMP_TRK_CFG_MIN_LEVEL : Fld := ⟨0x40020, 23, 16⟩
def SMP_TRK_CFG_SRC2 : Fld := ⟨0x40020, 15, 8⟩
def SMP_TRK_CFG_SRC : Fld := ⟨0x40020, 7, 0⟩
/-! SMP_TRK_STAT: R220. -/
def SMP_TRK_STAT_RELOCKS : Fld := ⟨0x40024, 31, 16⟩
def SMP_TRK_STAT_CFG_REFUSED : Fld := ⟨0x40024, 4, 4⟩
def SMP_TRK_STAT_SRC_USED : Fld := ⟨0x40024, 3, 2⟩
def SMP_TRK_STAT_STATE : Fld := ⟨0x40024, 1, 0⟩
/-! SMP_TRK_FREQ: R221. -/
def SMP_TRK_FREQ_TRACKED : Fld := ⟨0x40028, 31, 16⟩
def SMP_TRK_FREQ_MEASURED : Fld := ⟨0x40028, 15, 0⟩
/-! SMP_SYNC_CFG: R222. -/
def SMP_SYNC_CFG_EN : Fld := ⟨0x40030, 31, 31⟩
def SMP_SYNC_CFG_WIDTH : Fld := ⟨0x40030, 23, 16⟩
def SMP_SYNC_CFG_N : Fld := ⟨0x40030, 8, 0⟩
/-! SMP_SYNC_MAX: R222. -/
def SMP_SYNC_MAX_FMAX : Fld := ⟨0x40034, 15, 0⟩
/-! SMP_SYNC_STAT: R223. -/
def SMP_SYNC_STAT_SUPPRESSED : Fld := ⟨0x40038, 31, 16⟩
def SMP_SYNC_STAT_CFG_REFUSED : Fld := ⟨0x40038, 2, 2⟩
def SMP_SYNC_STAT_DRIVER : Fld := ⟨0x40038, 1, 1⟩
def SMP_SYNC_STAT_CLAMP : Fld := ⟨0x40038, 0, 0⟩
/-! SMP_CAL_CMD: R224. -/
def SMP_CAL_CMD_CMD : Fld := ⟨0x40040, 7, 0⟩
/-! SMP_CAL_STAT: R225. -/
def SMP_CAL_STAT_STATUS : Fld := ⟨0x40044, 31, 28⟩
def SMP_CAL_STAT_RANGE : Fld := ⟨0x40044, 23, 0⟩
/-! SMP_AP_TRIM: R226. -/
def SMP_AP_TRIM_TRIM0 (n : Nat) : Fld := ⟨instKey 0x40100 4 6 n, 7, 0⟩
def SMP_AP_TRIM_TRIM1 (n : Nat) : Fld := ⟨instKey 0x40100 4 6 n, 15, 8⟩
def SMP_AP_TRIM_TRIM2 (n : Nat) : Fld := ⟨instKey 0x40100 4 6 n, 23, 16⟩
def SMP_AP_TRIM_TRIM3 (n : Nat) : Fld := ⟨instKey 0x40100 4 6 n, 31, 24⟩
/-! SMP_FD_TRIM: R227. -/
def SMP_FD_TRIM_RANGE (n : Nat) : Fld := ⟨instKey 0x40200 4 40 n, 15, 15⟩
def SMP_FD_TRIM_WHOLE (n : Nat) : Fld := ⟨instKey 0x40200 4 40 n, 14, 8⟩
def SMP_FD_TRIM_FRAC (n : Nat) : Fld := ⟨instKey 0x40200 4 40 n, 7, 0⟩
/-! FCV_OVR_SUM: R167. -/
def FCV_OVR_SUM_OVR : Fld := ⟨0x50014, 23, 0⟩
/-! FCV_FAULT_SUM: R168. -/
def FCV_FAULT_SUM_FAULT : Fld := ⟨0x50018, 23, 0⟩
/-! FCV_CFG: R169. -/
def FCV_CFG_FROZEN_EN (n : Nat) : Fld := ⟨instKey 0x50100 32 24 n, 0, 0⟩
/-! FCV_OFF: R170. -/
def FCV_OFF_OFFSET (n : Nat) : Fld := ⟨instKey 0x50104 32 24 n, 15, 0⟩
/-! FCV_GAIN: R170. -/
def FCV_GAIN_GAIN (n : Nat) : Fld := ⟨instKey 0x50108 32 24 n, 15, 0⟩
/-! FCV_SAMP: R171. -/
def FCV_SAMP_CORR (n : Nat) : Fld := ⟨instKey 0x5010C 32 24 n, 31, 16⟩
def FCV_SAMP_RAW (n : Nat) : Fld := ⟨instKey 0x5010C 32 24 n, 15, 0⟩
/-! FCV_STAT: R172. -/
def FCV_STAT_FAULT (n : Nat) : Fld := ⟨instKey 0x50110 32 24 n, 31, 31⟩
def FCV_STAT_FROZEN (n : Nat) : Fld := ⟨instKey 0x50110 32 24 n, 2, 2⟩
def FCV_STAT_INCOMPLETE (n : Nat) : Fld := ⟨instKey 0x50110 32 24 n, 1, 1⟩
def FCV_STAT_OVR_NOW (n : Nat) : Fld := ⟨instKey 0x50110 32 24 n, 0, 0⟩
/-! FCV_OVRCNT: R173. -/
def FCV_OVRCNT_COUNT (n : Nat) : Fld := ⟨instKey 0x50114 32 24 n, 31, 0⟩
/-! FCV_FACT: R174. -/
def FCV_FACT_GAIN (n : Nat) : Fld := ⟨instKey 0x50118 32 24 n, 31, 16⟩
def FCV_FACT_OFFSET (n : Nat) : Fld := ⟨instKey 0x50118 32 24 n, 15, 0⟩
/-! PCV_REF: R175. -/
def PCV_REF_EN : Fld := ⟨0x60010, 0, 0⟩
/-! PCV_REF_STAT: R176. -/
def PCV_REF_STAT_FAULT : Fld := ⟨0x60014, 31, 31⟩
def PCV_REF_STAT_SETTLED : Fld := ⟨0x60014, 30, 30⟩
def PCV_REF_STAT_ELAPSED : Fld := ⟨0x60014, 15, 0⟩
/-! PCV_TEST_CFG: R177. -/
def PCV_TEST_CFG_PERIOD : Fld := ⟨0x60018, 31, 16⟩
def PCV_TEST_CFG_TOL : Fld := ⟨0x60018, 15, 8⟩
def PCV_TEST_CFG_ALONE : Fld := ⟨0x60018, 1, 1⟩
def PCV_TEST_CFG_EN : Fld := ⟨0x60018, 0, 0⟩
/-! PCV_TEST_STAT: R178. -/
def PCV_TEST_STAT_ACTIVE : Fld := ⟨0x6001C, 31, 31⟩
def PCV_TEST_STAT_SUSPENDED : Fld := ⟨0x6001C, 30, 30⟩
def PCV_TEST_STAT_CFG_REFUSED : Fld := ⟨0x6001C, 29, 29⟩
def PCV_TEST_STAT_CHANNEL : Fld := ⟨0x6001C, 23, 16⟩
def PCV_TEST_STAT_SKIPPED : Fld := ⟨0x6001C, 15, 8⟩
def PCV_TEST_STAT_FAILS : Fld := ⟨0x6001C, 7, 0⟩
/-! PCV_PERMIT: R179. -/
def PCV_PERMIT_LEVEL : Fld := ⟨0x60020, 23, 0⟩
/-! PCV_FAILED_LO: R180. -/
def PCV_FAILED_LO_FAILED : Fld := ⟨0x60024, 31, 0⟩
/-! PCV_FAILED_HI: R180. -/
def PCV_FAILED_HI_FAILED : Fld := ⟨0x60028, 15, 0⟩
/-! PCV_CFG: R181. -/
def PCV_CFG_TEST_EN (n : Nat) : Fld := ⟨instKey 0x60100 32 48 n, 1, 1⟩
def PCV_CFG_SUBST (n : Nat) : Fld := ⟨instKey 0x60100 32 48 n, 0, 0⟩
/-! PCV_OFF: R182. -/
def PCV_OFF_OFFSET (n : Nat) : Fld := ⟨instKey 0x60104 32 48 n, 23, 0⟩
/-! PCV_GAIN: R182. -/
def PCV_GAIN_GAIN (n : Nat) : Fld := ⟨instKey 0x60108 32 48 n, 23, 0⟩
/-! PCV_SAMP: R183. -/
def PCV_SAMP_VALUE (n : Nat) : Fld := ⟨instKey 0x6010C 32 48 n, 31, 8⟩
def PCV_SAMP_QUALITY (n : Nat) : Fld := ⟨instKey 0x6010C 32 48 n, 7, 0⟩
/-! PCV_STAT: R184. -/
def PCV_STAT_FAILED (n : Nat) : Fld := ⟨instKey 0x60110 32 48 n, 31, 31⟩
def PCV_STAT_RETEST (n : Nat) : Fld := ⟨instKey 0x60110 32 48 n, 30, 30⟩
def PCV_STAT_LAST_RESULT (n : Nat) : Fld := ⟨instKey 0x60110 32 48 n, 1, 0⟩
/-! PCV_TEST: R185. -/
def PCV_TEST_DEV (n : Nat) : Fld := ⟨instKey 0x60114 32 48 n, 31, 8⟩
def PCV_TEST_POINT (n : Nat) : Fld := ⟨instKey 0x60114 32 48 n, 1, 0⟩
/-! PCV_FOFF: R186. -/
def PCV_FOFF_FOFFSET (n : Nat) : Fld := ⟨instKey 0x60118 32 48 n, 23, 0⟩
/-! PCV_FGAIN: R186. -/
def PCV_FGAIN_FGAIN (n : Nat) : Fld := ⟨instKey 0x6011C 32 48 n, 23, 0⟩
/-! PCV_FLT_SUM: R259. -/
def PCV_FLT_SUM_COUNT : Fld := ⟨0x61000, 7, 0⟩
/-! PCV_FLT_SETTLING: R260. -/
def PCV_FLT_SETTLING_SETTLING (n : Nat) : Fld := ⟨instKey 0x61010 4 5 n, 31, 0⟩
/-! PCV_FLT_SAT: R260. -/
def PCV_FLT_SAT_SAT (n : Nat) : Fld := ⟨instKey 0x61024 4 5 n, 31, 0⟩
/-! PCV_FLT_SEL: R261. -/
def PCV_FLT_SEL_CHAIN : Fld := ⟨0x61040, 7, 0⟩
/-! PCV_FLT_CFG: R262. -/
def PCV_FLT_CFG_PRESENT (n : Nat) : Fld := ⟨0x61044 + n * 0x100000000, 31, 31⟩
def PCV_FLT_CFG_COND (n : Nat) : Fld := ⟨0x61044 + n * 0x100000000, 25, 24⟩
def PCV_FLT_CFG_RESP_NOW (n : Nat) : Fld := ⟨0x61044 + n * 0x100000000, 23, 16⟩
def PCV_FLT_CFG_RESP_IMG (n : Nat) : Fld := ⟨0x61044 + n * 0x100000000, 15, 8⟩
def PCV_FLT_CFG_SRC (n : Nat) : Fld := ⟨0x61044 + n * 0x100000000, 7, 0⟩
/-! PCV_FLT_DET: R263. -/
def PCV_FLT_DET_DET (n : Nat) : Fld := ⟨0x61048 + n * 0x100000000, 31, 0⟩
/-! PCV_FLT_OUT: R264. -/
def PCV_FLT_OUT_VALUE (n : Nat) : Fld := ⟨0x6104C + n * 0x100000000, 31, 8⟩
def PCV_FLT_OUT_QUALITY (n : Nat) : Fld := ⟨0x6104C + n * 0x100000000, 7, 0⟩
/-! PCV_FLT_OUT2: R264. -/
def PCV_FLT_OUT2_VALUE (n : Nat) : Fld := ⟨0x61050 + n * 0x100000000, 31, 8⟩
def PCV_FLT_OUT2_QUALITY (n : Nat) : Fld := ⟨0x61050 + n * 0x100000000, 7, 0⟩
/-! PCV_FLT_PEAK: R264. -/
def PCV_FLT_PEAK_VALUE (n : Nat) : Fld := ⟨0x61054 + n * 0x100000000, 31, 8⟩
def PCV_FLT_PEAK_QUALITY (n : Nat) : Fld := ⟨0x61054 + n * 0x100000000, 7, 0⟩
/-! PCV_FLT_RMS: R264. -/
def PCV_FLT_RMS_VALUE (n : Nat) : Fld := ⟨0x61058 + n * 0x100000000, 31, 8⟩
def PCV_FLT_RMS_QUALITY (n : Nat) : Fld := ⟨0x61058 + n * 0x100000000, 7, 0⟩
/-! PCV_FLT_ENV: R264. -/
def PCV_FLT_ENV_VALUE (n : Nat) : Fld := ⟨0x6105C + n * 0x100000000, 31, 8⟩
def PCV_FLT_ENV_QUALITY (n : Nat) : Fld := ⟨0x6105C + n * 0x100000000, 7, 0⟩
/-! PCV_FLT_STAT: R265. -/
def PCV_FLT_STAT_SETTLE_REMAIN (n : Nat) : Fld := ⟨0x61060 + n * 0x100000000, 31, 16⟩
def PCV_FLT_STAT_SWITCHED (n : Nat) : Fld := ⟨0x61060 + n * 0x100000000, 15, 15⟩
def PCV_FLT_STAT_RESTARTS (n : Nat) : Fld := ⟨0x61060 + n * 0x100000000, 7, 0⟩
/-! PCV_FLT_CMD: R266. -/
def PCV_FLT_CMD_CHAIN : Fld := ⟨0x61064, 23, 16⟩
def PCV_FLT_CMD_RESP : Fld := ⟨0x61064, 15, 8⟩
def PCV_FLT_CMD_CMD : Fld := ⟨0x61064, 7, 0⟩
/-! PCV_FLT_RESULT: R267. -/
def PCV_FLT_RESULT_SEQ : Fld := ⟨0x61068, 31, 24⟩
def PCV_FLT_RESULT_CHAIN : Fld := ⟨0x61068, 23, 16⟩
def PCV_FLT_RESULT_RESP : Fld := ⟨0x61068, 12, 8⟩
def PCV_FLT_RESULT_STATUS : Fld := ⟨0x61068, 7, 0⟩
/-! PCV_INJ_SEL: R268. -/
def PCV_INJ_SEL_SET : Fld := ⟨0x61070, 11, 8⟩
def PCV_INJ_SEL_WORD : Fld := ⟨0x61070, 7, 0⟩
/-! PCV_INJ_DATA: R269. -/
def PCV_INJ_DATA_DATA : Fld := ⟨0x61074, 31, 0⟩
/-! PCV_INJ_CMD: R270. -/
def PCV_INJ_CMD_SET : Fld := ⟨0x61078, 11, 8⟩
def PCV_INJ_CMD_CMD : Fld := ⟨0x61078, 7, 0⟩
/-! PCV_INJ_STAT: R271. -/
def PCV_INJ_STAT_ACTIVE : Fld := ⟨0x6107C, 31, 31⟩
def PCV_INJ_STAT_WRITE_REFUSED : Fld := ⟨0x6107C, 30, 30⟩
def PCV_INJ_STAT_SET : Fld := ⟨0x6107C, 27, 24⟩
def PCV_INJ_STAT_DETAIL : Fld := ⟨0x6107C, 23, 16⟩
def PCV_INJ_STAT_SEQ : Fld := ⟨0x6107C, 15, 8⟩
def PCV_INJ_STAT_STATUS : Fld := ⟨0x6107C, 7, 0⟩
/-! BSI_MCLK: R187. -/
def BSI_MCLK_FREQ (n : Nat) : Fld := ⟨instKey 0x70020 4 4 n, 2, 0⟩
/-! BSI_MCLK_STAT: R188. -/
def BSI_MCLK_STAT_FAULT : Fld := ⟨0x70030, 7, 7⟩
def BSI_MCLK_STAT_DRIVER : Fld := ⟨0x70030, 5, 5⟩
def BSI_MCLK_STAT_CFG_REFUSED : Fld := ⟨0x70030, 4, 4⟩
/-! BSI_CFG: R189. -/
def BSI_CFG_DELAY (n : Nat) : Fld := ⟨instKey 0x70100 32 32 n, 27, 16⟩
def BSI_CFG_EDGE (n : Nat) : Fld := ⟨instKey 0x70100 32 32 n, 2, 2⟩
def BSI_CFG_CLK (n : Nat) : Fld := ⟨instKey 0x70100 32 32 n, 1, 0⟩
/-! BSI_OFF: R190. -/
def BSI_OFF_OFFSET (n : Nat) : Fld := ⟨instKey 0x70104 32 32 n, 23, 0⟩
/-! BSI_GAIN: R190. -/
def BSI_GAIN_GAIN (n : Nat) : Fld := ⟨instKey 0x70108 32 32 n, 23, 0⟩
/-! BSI_SAMP: R191. -/
def BSI_SAMP_VALUE (n : Nat) : Fld := ⟨instKey 0x7010C 32 32 n, 31, 8⟩
def BSI_SAMP_QUALITY (n : Nat) : Fld := ⟨instKey 0x7010C 32 32 n, 7, 0⟩
/-! BSI_STAT: R192. -/
def BSI_STAT_FAULT (n : Nat) : Fld := ⟨instKey 0x70110 32 32 n, 31, 31⟩
def BSI_STAT_HIST (n : Nat) : Fld := ⟨instKey 0x70110 32 32 n, 11, 8⟩
def BSI_STAT_OPEN (n : Nat) : Fld := ⟨instKey 0x70110 32 32 n, 3, 3⟩
def BSI_STAT_NO_EDGE (n : Nat) : Fld := ⟨instKey 0x70110 32 32 n, 2, 2⟩
def BSI_STAT_DENSITY (n : Nat) : Fld := ⟨instKey 0x70110 32 32 n, 1, 1⟩
def BSI_STAT_CLK_FAULT (n : Nat) : Fld := ⟨instKey 0x70110 32 32 n, 0, 0⟩
/-! HKA_CTRL: R193. -/
def HKA_CTRL_EN : Fld := ⟨0x80010, 31, 0⟩
/-! HKA_DMASK: R193. -/
def HKA_DMASK_DMASK : Fld := ⟨0x80014, 31, 0⟩
/-! HKA_TEST_EN: R193. -/
def HKA_TEST_EN_TEST_EN : Fld := ⟨0x80018, 15, 0⟩
/-! HKA_SCAN: R194. -/
def HKA_SCAN_INTERVAL : Fld := ⟨0x8001C, 15, 0⟩
/-! HKA_DATA: R195. -/
def HKA_DATA_VALUE : Fld := ⟨0x80020, 31, 16⟩
def HKA_DATA_NEW : Fld := ⟨0x80020, 15, 15⟩
def HKA_DATA_CH : Fld := ⟨0x80020, 12, 8⟩
def HKA_DATA_QUALITY : Fld := ⟨0x80020, 7, 0⟩
/-! HKA_STAT: R196. -/
def HKA_STAT_CFG_REFUSED : Fld := ⟨0x80024, 2, 2⟩
def HKA_STAT_SELFCHECK : Fld := ⟨0x80024, 1, 1⟩
def HKA_STAT_OVERRUN : Fld := ⟨0x80024, 0, 0⟩
/-! HKA_LOST: R197. -/
def HKA_LOST_COUNT : Fld := ⟨0x80028, 31, 0⟩
/-! HKA_ALARM: R197. -/
def HKA_ALARM_ALARM : Fld := ⟨0x8002C, 31, 0⟩
/-! HKA_CORR_SEL: R198. -/
def HKA_CORR_SEL_CH : Fld := ⟨0x80030, 4, 0⟩
/-! HKA_CORR_OFF: R198. -/
def HKA_CORR_OFF_OFFSET (n : Nat) : Fld := ⟨0x80034 + n * 0x100000000, 23, 0⟩
/-! HKA_CORR_GAIN: R198. -/
def HKA_CORR_GAIN_GAIN (n : Nat) : Fld := ⟨0x80038 + n * 0x100000000, 23, 0⟩
/-! HKA_LIM: R199. -/
def HKA_LIM_HIGH (n : Nat) : Fld := ⟨instKey 0x80100 4 32 n, 31, 16⟩
def HKA_LIM_LOW (n : Nat) : Fld := ⟨instKey 0x80100 4 32 n, 15, 0⟩
/-! FAB_SUM: R336. -/
def FAB_SUM_FAILED : Fld := ⟨0x90010, 31, 24⟩
def FAB_SUM_SPARES : Fld := ⟨0x90010, 23, 16⟩
def FAB_SUM_FAST_SPARES : Fld := ⟨0x90010, 15, 8⟩
def FAB_SUM_FUNCS : Fld := ⟨0x90010, 7, 0⟩
/-! FAB_OP: R337. -/
def FAB_OP_OP (n : Nat) : Fld := ⟨instKey 0x90020 4 6 n, 31, 0⟩
/-! FAB_PU: R337. -/
def FAB_PU_PU (n : Nat) : Fld := ⟨instKey 0x90040 4 6 n, 31, 0⟩
/-! FAB_INV: R337. -/
def FAB_INV_INV (n : Nat) : Fld := ⟨instKey 0x90060 4 6 n, 31, 0⟩
/-! FAB_OPH: R337. -/
def FAB_OPH_OPH (n : Nat) : Fld := ⟨instKey 0x90080 4 6 n, 31, 0⟩
/-! FAB_ROT_CTRL: R338. -/
def FAB_ROT_CTRL_EN : Fld := ⟨0x900A0, 0, 0⟩
/-! FAB_ROT_STAT: R339. -/
def FAB_ROT_STAT_LATE : Fld := ⟨0x900A4, 31, 31⟩
def FAB_ROT_STAT_NO_SPARE : Fld := ⟨0x900A4, 30, 30⟩
def FAB_ROT_STAT_ACTIVE : Fld := ⟨0x900A4, 29, 29⟩
def FAB_ROT_STAT_FAST_PROG : Fld := ⟨0x900A4, 23, 16⟩
def FAB_ROT_STAT_GEN_PROG : Fld := ⟨0x900A4, 7, 0⟩
/-! FAB_ROT_PASS: R340. -/
def FAB_ROT_PASS_GEN : Fld := ⟨0x900A8, 31, 16⟩
def FAB_ROT_PASS_FAST : Fld := ⟨0x900A8, 15, 0⟩
/-! FAB_ROT_LAST: R340. -/
def FAB_ROT_LAST_GEN_SEC : Fld := ⟨0x900AC, 31, 16⟩
def FAB_ROT_LAST_FAST_SEC : Fld := ⟨0x900AC, 15, 0⟩
/-! FAB_ROT_ERR: R340. -/
def FAB_ROT_ERR_DISAGREE : Fld := ⟨0x900B0, 31, 16⟩
def FAB_ROT_ERR_KAT_FAIL : Fld := ⟨0x900B0, 15, 0⟩
/-! FAB_TFAIL: R341. -/
def FAB_TFAIL_FAIL (n : Nat) : Fld := ⟨instKey 0x900C0 4 2 n, 31, 0⟩
/-! FAB_FTFAIL: R341. -/
def FAB_FTFAIL_FAIL (n : Nat) : Fld := ⟨instKey 0x900E0 4 2 n, 31, 0⟩
/-! FAB_FSEL: R342. -/
def FAB_FSEL_SLOT : Fld := ⟨0x90100, 7, 0⟩
/-! FAB_FSTAT: R343. -/
def FAB_FSTAT_TYPE (n : Nat) : Fld := ⟨0x90104 + n * 0x100000000, 31, 24⟩
def FAB_FSTAT_EN (n : Nat) : Fld := ⟨0x90104 + n * 0x100000000, 23, 23⟩
def FAB_FSTAT_VALID (n : Nat) : Fld := ⟨0x90104 + n * 0x100000000, 22, 22⟩
def FAB_FSTAT_FROZEN (n : Nat) : Fld := ⟨0x90104 + n * 0x100000000, 21, 21⟩
def FAB_FSTAT_TILE (n : Nat) : Fld := ⟨0x90104 + n * 0x100000000, 15, 8⟩
def FAB_FSTAT_INPUT (n : Nat) : Fld := ⟨0x90104 + n * 0x100000000, 5, 4⟩
def FAB_FSTAT_PU (n : Nat) : Fld := ⟨0x90104 + n * 0x100000000, 1, 1⟩
def FAB_FSTAT_OP (n : Nat) : Fld := ⟨0x90104 + n * 0x100000000, 0, 0⟩
/-! FAB_FSTART_NS: R344. -/
def FAB_FSTART_NS_NS : Fld := ⟨0x90108, 31, 0⟩
/-! FAB_FSTART_SEC: R344. -/
def FAB_FSTART_SEC_SEC : Fld := ⟨0x9010C, 31, 0⟩
/-! FAB_FQTY: R344. -/
def FAB_FQTY_VALUE : Fld := ⟨0x90110, 31, 8⟩
def FAB_FQTY_QUALITY : Fld := ⟨0x90110, 7, 0⟩
/-! FAB_FSTATE: R344. -/
def FAB_FSTATE_PROGRESS : Fld := ⟨0x90114, 31, 16⟩
/-! FAB_FCMP0: R371. -/
def FAB_FCMP0_WORD : Fld := ⟨0x90118, 31, 0⟩
/-! FAB_FCMP1: R371. -/
def FAB_FCMP1_WORD : Fld := ⟨0x9011C, 31, 0⟩
/-! FAB_TSEL: R345. -/
def FAB_TSEL_TILE : Fld := ⟨0x90120, 7, 0⟩
/-! FAB_TINFO: R345. -/
def FAB_TINFO_ROLE (n : Nat) : Fld := ⟨0x90124 + n * 0x100000000, 31, 30⟩
def FAB_TINFO_FAILED (n : Nat) : Fld := ⟨0x90124 + n * 0x100000000, 29, 29⟩
def FAB_TINFO_SLOT (n : Nat) : Fld := ⟨0x90124 + n * 0x100000000, 7, 0⟩
/-! FAB_UC_SEL: R346. -/
def FAB_UC_SEL_GROUP : Fld := ⟨0x90130, 26, 24⟩
def FAB_UC_SEL_CURVE : Fld := ⟨0x90130, 17, 16⟩
def FAB_UC_SEL_POINT : Fld := ⟨0x90130, 5, 0⟩
/-! FAB_UC_DATA: R346. -/
def FAB_UC_DATA_M : Fld := ⟨0x90134, 31, 16⟩
def FAB_UC_DATA_EXP : Fld := ⟨0x90134, 15, 12⟩
def FAB_UC_DATA_MANT : Fld := ⟨0x90134, 11, 0⟩
/-! FAB_ALIGN: R372. -/
def FAB_ALIGN_MISSING : Fld := ⟨0x90140, 31, 16⟩
def FAB_ALIGN_LATE : Fld := ⟨0x90140, 15, 0⟩
/-! FST_OP_LO: R298. -/
def FST_OP_LO_OP : Fld := ⟨0xA0010, 31, 0⟩
/-! FST_OP_HI: R298. -/
def FST_OP_HI_OP : Fld := ⟨0xA0014, 15, 0⟩
/-! FST_PU_LO: R298. -/
def FST_PU_LO_PU : Fld := ⟨0xA0018, 31, 0⟩
/-! FST_PU_HI: R298. -/
def FST_PU_HI_PU : Fld := ⟨0xA001C, 15, 0⟩
/-! FST_MTX: R299. -/
def FST_MTX_HIST : Fld := ⟨0xA0020, 31, 16⟩
def FST_MTX_NOW : Fld := ⟨0xA0020, 15, 0⟩
/-! FST_FTI: R300. -/
def FST_FTI_FAULT : Fld := ⟨0xA0024, 31, 16⟩
def FST_FTI_STATE : Fld := ⟨0xA0024, 15, 0⟩
/-! FST_FTI_HIST: R301. -/
def FST_FTI_HIST_FAULT : Fld := ⟨0xA0028, 31, 16⟩
def FST_FTI_HIST_ASSERTED : Fld := ⟨0xA0028, 15, 0⟩
/-! FST_TPL_SEL: R302. -/
def FST_TPL_SEL_GROUP : Fld := ⟨0xA0030, 26, 24⟩
def FST_TPL_SEL_FUNC : Fld := ⟨0xA0030, 21, 16⟩
def FST_TPL_SEL_TPL : Fld := ⟨0xA0030, 11, 8⟩
def FST_TPL_SEL_IDX : Fld := ⟨0xA0030, 4, 0⟩
/-! FST_TPL_DATA: R303. -/
def FST_TPL_DATA_SAMPLE : Fld := ⟨0xA0034, 15, 0⟩
/-! FST_FSTAT: R305. -/
def FST_FSTAT_TYPE (n : Nat) : Fld := ⟨instKey 0xA0100 16 48 n, 31, 24⟩
def FST_FSTAT_EN (n : Nat) : Fld := ⟨instKey 0xA0100 16 48 n, 23, 23⟩
def FST_FSTAT_VALID (n : Nat) : Fld := ⟨instKey 0xA0100 16 48 n, 22, 22⟩
def FST_FSTAT_CLASS (n : Nat) : Fld := ⟨instKey 0xA0100 16 48 n, 21, 20⟩
def FST_FSTAT_RSTATE (n : Nat) : Fld := ⟨instKey 0xA0100 16 48 n, 19, 18⟩
def FST_FSTAT_MAXR (n : Nat) : Fld := ⟨instKey 0xA0100 16 48 n, 17, 17⟩
def FST_FSTAT_TPL1 (n : Nat) : Fld := ⟨instKey 0xA0100 16 48 n, 15, 12⟩
def FST_FSTAT_TPL2 (n : Nat) : Fld := ⟨instKey 0xA0100 16 48 n, 11, 8⟩
def FST_FSTAT_CAUSE (n : Nat) : Fld := ⟨instKey 0xA0100 16 48 n, 7, 6⟩
def FST_FSTAT_PU (n : Nat) : Fld := ⟨instKey 0xA0100 16 48 n, 1, 1⟩
def FST_FSTAT_OP (n : Nat) : Fld := ⟨instKey 0xA0100 16 48 n, 0, 0⟩
/-! FST_FSTART_NS: R306. -/
def FST_FSTART_NS_NS (n : Nat) : Fld := ⟨instKey 0xA0104 16 48 n, 31, 0⟩
/-! FST_FSTART_SEC: R306. -/
def FST_FSTART_SEC_SEC (n : Nat) : Fld := ⟨instKey 0xA0108 16 48 n, 31, 0⟩
/-! FST_FSIG: R307. -/
def FST_FSIG_SCORE1 (n : Nat) : Fld := ⟨instKey 0xA010C 16 48 n, 31, 16⟩
def FST_FSIG_SCORE2 (n : Nat) : Fld := ⟨instKey 0xA010C 16 48 n, 15, 0⟩
/-! FST_TMAP: R308. -/
def FST_TMAP_ROLE0 (n : Nat) : Fld := ⟨instKey 0xA0400 4 13 n, 7, 6⟩
def FST_TMAP_FUNC0 (n : Nat) : Fld := ⟨instKey 0xA0400 4 13 n, 5, 0⟩
def FST_TMAP_ROLE1 (n : Nat) : Fld := ⟨instKey 0xA0400 4 13 n, 15, 14⟩
def FST_TMAP_FUNC1 (n : Nat) : Fld := ⟨instKey 0xA0400 4 13 n, 13, 8⟩
def FST_TMAP_ROLE2 (n : Nat) : Fld := ⟨instKey 0xA0400 4 13 n, 23, 22⟩
def FST_TMAP_FUNC2 (n : Nat) : Fld := ⟨instKey 0xA0400 4 13 n, 21, 16⟩
def FST_TMAP_ROLE3 (n : Nat) : Fld := ⟨instKey 0xA0400 4 13 n, 31, 30⟩
def FST_TMAP_FUNC3 (n : Nat) : Fld := ⟨instKey 0xA0400 4 13 n, 29, 24⟩
/-! TRM_GRP_LO: R419. -/
def TRM_GRP_LO_ACT : Fld := ⟨0xB0010, 31, 0⟩
/-! TRM_GRP_HI: R419. -/
def TRM_GRP_HI_ACT : Fld := ⟨0xB0014, 31, 0⟩
/-! TRM_GRP_INV_LO: R419. -/
def TRM_GRP_INV_LO_INV : Fld := ⟨0xB0018, 31, 0⟩
/-! TRM_GRP_INV_HI: R419. -/
def TRM_GRP_INV_HI_INV : Fld := ⟨0xB001C, 31, 0⟩
/-! TRM_GRP_HIST_LO: R419. -/
def TRM_GRP_HIST_LO_HIST : Fld := ⟨0xB0020, 31, 0⟩
/-! TRM_GRP_HIST_HI: R419. -/
def TRM_GRP_HIST_HI_HIST : Fld := ⟨0xB0024, 31, 0⟩
/-! TRM_FTO_IN: R420. -/
def TRM_FTO_IN_B : Fld := ⟨0xB8000, 31, 16⟩
def TRM_FTO_IN_A : Fld := ⟨0xB8000, 15, 0⟩
/-! TRM_FTO_OUT: R420. -/
def TRM_FTO_OUT_HIST : Fld := ⟨0xB8004, 31, 16⟩
def TRM_FTO_OUT_NOW : Fld := ⟨0xB8004, 15, 0⟩
/-! TRM_DO_IN_A: R421. -/
def TRM_DO_IN_A_IN : Fld := ⟨0xB8008, 31, 0⟩
/-! TRM_DO_IN_B: R421. -/
def TRM_DO_IN_B_IN : Fld := ⟨0xB800C, 31, 0⟩
/-! TRM_DO_OUT: R421. -/
def TRM_DO_OUT_OUT : Fld := ⟨0xB8010, 31, 0⟩
/-! TRM_VOTE_FTO: R422. -/
def TRM_VOTE_FTO_LOCK : Fld := ⟨0xB8014, 31, 16⟩
def TRM_VOTE_FTO_AND : Fld := ⟨0xB8014, 15, 0⟩
/-! TRM_CLASS_DO: R422. -/
def TRM_CLASS_DO_TRIP : Fld := ⟨0xB8018, 31, 0⟩
/-! TRM_VOTE_DO: R422. -/
def TRM_VOTE_DO_AND : Fld := ⟨0xB801C, 31, 0⟩
/-! TRM_LOCK_DO: R422. -/
def TRM_LOCK_DO_LOCK : Fld := ⟨0xB8020, 31, 0⟩
/-! TRM_CELL_STAT: R423. -/
def TRM_CELL_STAT_A_ABSENT : Fld := ⟨0xB8024, 31, 31⟩
def TRM_CELL_STAT_B_ABSENT : Fld := ⟨0xB8024, 30, 30⟩
def TRM_CELL_STAT_LOCKOUT : Fld := ⟨0xB8024, 29, 29⟩
def TRM_CELL_STAT_BOOT_HOLD : Fld := ⟨0xB8024, 28, 28⟩
def TRM_CELL_STAT_NO_LEADER : Fld := ⟨0xB8024, 27, 27⟩
/-! TRM_DISAGREE: R423. -/
def TRM_DISAGREE_DO : Fld := ⟨0xB8028, 31, 16⟩
def TRM_DISAGREE_FTO : Fld := ⟨0xB8028, 15, 0⟩
/-! TRM_DISAGREE_HI: R423. -/
def TRM_DISAGREE_HI_DO_HI : Fld := ⟨0xB802C, 15, 0⟩
/-! TRM_TCS_CFG: R424. -/
def TRM_TCS_CFG_EN (n : Nat) : Fld := ⟨instKey 0xB8040 8 4 n, 31, 31⟩
def TRM_TCS_CFG_DO (n : Nat) : Fld := ⟨instKey 0xB8040 8 4 n, 28, 24⟩
def TRM_TCS_CFG_DELAY (n : Nat) : Fld := ⟨instKey 0xB8040 8 4 n, 23, 16⟩
def TRM_TCS_CFG_LEVEL (n : Nat) : Fld := ⟨instKey 0xB8040 8 4 n, 15, 0⟩
/-! TRM_TCS_STAT: R424. -/
def TRM_TCS_STAT_FAIL (n : Nat) : Fld := ⟨instKey 0xB8044 8 4 n, 31, 31⟩
def TRM_TCS_STAT_OPEN (n : Nat) : Fld := ⟨instKey 0xB8044 8 4 n, 30, 30⟩
def TRM_TCS_STAT_PAUSED (n : Nat) : Fld := ⟨instKey 0xB8044 8 4 n, 29, 29⟩
def TRM_TCS_STAT_SUPPLY_INVALID (n : Nat) : Fld := ⟨instKey 0xB8044 8 4 n, 28, 28⟩
def TRM_TCS_STAT_CFG_REFUSED (n : Nat) : Fld := ⟨instKey 0xB8044 8 4 n, 27, 27⟩
def TRM_TCS_STAT_VOLTS (n : Nat) : Fld := ⟨instKey 0xB8044 8 4 n, 15, 0⟩
/-! ARC_LIGHT: R396. -/
def ARC_LIGHT_LIGHTQ : Fld := ⟨0xC0010, 31, 16⟩
def ARC_LIGHT_LIGHT : Fld := ⟨0xC0010, 15, 0⟩
/-! ARC_LIGHT_HIST: R396. -/
def ARC_LIGHT_HIST_LIGHTQ : Fld := ⟨0xC0014, 31, 16⟩
def ARC_LIGHT_HIST_LIGHT : Fld := ⟨0xC0014, 15, 0⟩
/-! ARC_SUP: R397. -/
def ARC_SUP_FAIL : Fld := ⟨0xC0018, 31, 16⟩
def ARC_SUP_OBSC : Fld := ⟨0xC0018, 15, 0⟩
/-! ARC_AMB: R397. -/
def ARC_AMB_SAT : Fld := ⟨0xC001C, 31, 16⟩
def ARC_AMB_AMB : Fld := ⟨0xC001C, 15, 0⟩
/-! ARC_CMD: R398. -/
def ARC_CMD_MASK : Fld := ⟨0xC0020, 31, 16⟩
def ARC_CMD_CMD : Fld := ⟨0xC0020, 7, 0⟩
/-! ARC_RESULT: R399. -/
def ARC_RESULT_SEQ : Fld := ⟨0xC0024, 31, 24⟩
def ARC_RESULT_CMD : Fld := ⟨0xC0024, 15, 8⟩
def ARC_RESULT_STATUS : Fld := ⟨0xC0024, 7, 0⟩
/-! ARC_HKSEL: R400. -/
def ARC_HKSEL_SEL : Fld := ⟨0xC0028, 15, 0⟩
/-! ARC_ELEM: R401. -/
def ARC_ELEM_INV : Fld := ⟨0xC0040, 31, 16⟩
def ARC_ELEM_OP : Fld := ⟨0xC0040, 15, 0⟩
/-! ARC_LEVEL: R402. -/
def ARC_LEVEL_LEVEL (n : Nat) : Fld := ⟨instKey 0xC0100 32 16 n, 17, 0⟩
/-! ARC_BASE: R402. -/
def ARC_BASE_BASE (n : Nat) : Fld := ⟨instKey 0xC0104 32 16 n, 17, 0⟩
/-! ARC_CODE: R402. -/
def ARC_CODE_RESULT (n : Nat) : Fld := ⟨instKey 0xC0108 32 16 n, 31, 28⟩
def ARC_CODE_SEEN (n : Nat) : Fld := ⟨instKey 0xC0108 32 16 n, 27, 24⟩
def ARC_CODE_AMP (n : Nat) : Fld := ⟨instKey 0xC0108 32 16 n, 17, 0⟩
/-! ARC_CSTAT: R402. -/
def ARC_CSTAT_OBSC_RUN (n : Nat) : Fld := ⟨instKey 0xC010C 32 16 n, 31, 24⟩
def ARC_CSTAT_FAIL_RUN (n : Nat) : Fld := ⟨instKey 0xC010C 32 16 n, 23, 20⟩
def ARC_CSTAT_LED_OPEN (n : Nat) : Fld := ⟨instKey 0xC010C 32 16 n, 5, 5⟩
def ARC_CSTAT_LED_SHORT (n : Nat) : Fld := ⟨instKey 0xC010C 32 16 n, 4, 4⟩
def ARC_CSTAT_SENSOR_FAIL (n : Nat) : Fld := ⟨instKey 0xC010C 32 16 n, 3, 3⟩
def ARC_CSTAT_SENSOR_OBSCURED (n : Nat) : Fld := ⟨instKey 0xC010C 32 16 n, 2, 2⟩
def ARC_CSTAT_AMBIENT_HIGH (n : Nat) : Fld := ⟨instKey 0xC010C 32 16 n, 1, 1⟩
def ARC_CSTAT_CODE_BRIGHT (n : Nat) : Fld := ⟨instKey 0xC010C 32 16 n, 0, 0⟩
/-! ARC_CNT: R402. -/
def ARC_CNT_PASS (n : Nat) : Fld := ⟨instKey 0xC0110 32 16 n, 31, 16⟩
def ARC_CNT_OBSC (n : Nat) : Fld := ⟨instKey 0xC0110 32 16 n, 15, 0⟩
/-! ARC_RISE: R402. -/
def ARC_RISE_QUAL (n : Nat) : Fld := ⟨instKey 0xC0114 32 16 n, 31, 31⟩
def ARC_RISE_RISE (n : Nat) : Fld := ⟨instKey 0xC0114 32 16 n, 15, 0⟩
/-! DIO_DI_LO: R446. -/
def DIO_DI_LO_STATE : Fld := ⟨0xD0010, 31, 0⟩
/-! DIO_DI_HI: R446. -/
def DIO_DI_HI_STATE : Fld := ⟨0xD0014, 31, 0⟩
/-! DIO_DI_INV_LO: R446. -/
def DIO_DI_INV_LO_INV : Fld := ⟨0xD0018, 31, 0⟩
/-! DIO_DI_INV_HI: R446. -/
def DIO_DI_INV_HI_INV : Fld := ⟨0xD001C, 31, 0⟩
/-! DIO_DI_WB_LO: R446. -/
def DIO_DI_WB_LO_WB : Fld := ⟨0xD0020, 31, 0⟩
/-! DIO_DI_WB_HI: R446. -/
def DIO_DI_WB_HI_WB : Fld := ⟨0xD0024, 31, 0⟩
/-! DIO_CMD: R447. -/
def DIO_CMD_INDEX : Fld := ⟨0xD0030, 12, 8⟩
def DIO_CMD_CMD : Fld := ⟨0xD0030, 7, 0⟩
/-! DIO_RESULT: R447. -/
def DIO_RESULT_SEQ : Fld := ⟨0xD0034, 31, 24⟩
def DIO_RESULT_CMD : Fld := ⟨0xD0034, 15, 8⟩
def DIO_RESULT_STATUS : Fld := ⟨0xD0034, 7, 0⟩
/-! DIO_DO_VAL: R448. -/
def DIO_DO_VAL_VAL : Fld := ⟨0xD0040, 31, 0⟩
/-! DIO_DO_OUT: R448. -/
def DIO_DO_OUT_OUT : Fld := ⟨0xD0044, 31, 0⟩
/-! DIO_DO_FAULT: R448. -/
def DIO_DO_FAULT_FAULT : Fld := ⟨0xD0048, 31, 0⟩
/-! DIO_DO_TMO: R448. -/
def DIO_DO_TMO_TMO : Fld := ⟨0xD004C, 31, 0⟩
/-! DIO_SUP: R449. -/
def DIO_SUP_GRP_OC : Fld := ⟨0xD0050, 19, 16⟩
def DIO_SUP_MISSING : Fld := ⟨0xD0050, 15, 8⟩
def DIO_SUP_LOW : Fld := ⟨0xD0050, 7, 0⟩
/-! DIO_REFRESH: R449. -/
def DIO_REFRESH_DISCARDED : Fld := ⟨0xD0054, 31, 16⟩
def DIO_REFRESH_AGE : Fld := ⟨0xD0054, 15, 0⟩
/-! DIO_SUPV: R450. -/
def DIO_SUPV_V_ODD (n : Nat) : Fld := ⟨instKey 0xD0060 4 4 n, 31, 16⟩
def DIO_SUPV_V_EVEN (n : Nat) : Fld := ⟨instKey 0xD0060 4 4 n, 15, 0⟩
/-! DIO_DISTAT: R451. -/
def DIO_DISTAT_STATE (n : Nat) : Fld := ⟨instKey 0xD0100 8 64 n, 31, 31⟩
def DIO_DISTAT_VALID (n : Nat) : Fld := ⟨instKey 0xD0100 8 64 n, 30, 30⟩
def DIO_DISTAT_WIRE_BREAK (n : Nat) : Fld := ⟨instKey 0xD0100 8 64 n, 29, 29⟩
def DIO_DISTAT_SUPPLY_INVALID (n : Nat) : Fld := ⟨instKey 0xD0100 8 64 n, 28, 28⟩
def DIO_DISTAT_CURRENT (n : Nat) : Fld := ⟨instKey 0xD0100 8 64 n, 7, 0⟩
/-! DIO_DISEQ: R451. -/
def DIO_DISEQ_SEQ (n : Nat) : Fld := ⟨instKey 0xD0104 8 64 n, 31, 0⟩
/-! DIO_DOSTAT: R452. -/
def DIO_DOSTAT_CLASS (n : Nat) : Fld := ⟨instKey 0xD0400 8 32 n, 31, 30⟩
def DIO_DOSTAT_VAL (n : Nat) : Fld := ⟨instKey 0xD0400 8 32 n, 29, 29⟩
def DIO_DOSTAT_TIMEOUT (n : Nat) : Fld := ⟨instKey 0xD0400 8 32 n, 28, 28⟩
def DIO_DOSTAT_SUPPLY_INVALID (n : Nat) : Fld := ⟨instKey 0xD0400 8 32 n, 27, 27⟩
def DIO_DOSTAT_RETRIES (n : Nat) : Fld := ⟨instKey 0xD0400 8 32 n, 8, 5⟩
def DIO_DOSTAT_OT_LATCHED (n : Nat) : Fld := ⟨instKey 0xD0400 8 32 n, 4, 4⟩
def DIO_DOSTAT_OVERTEMP (n : Nat) : Fld := ⟨instKey 0xD0400 8 32 n, 3, 3⟩
def DIO_DOSTAT_OPEN_OFF (n : Nat) : Fld := ⟨instKey 0xD0400 8 32 n, 2, 2⟩
def DIO_DOSTAT_OPEN_ON (n : Nat) : Fld := ⟨instKey 0xD0400 8 32 n, 1, 1⟩
def DIO_DOSTAT_OVERLOAD (n : Nat) : Fld := ⟨instKey 0xD0400 8 32 n, 0, 0⟩
/-! DIO_DOCUR: R452. -/
def DIO_DOCUR_CURRENT (n : Nat) : Fld := ⟨instKey 0xD0404 8 32 n, 15, 0⟩
/-! LGE_STAT: R486. -/
def LGE_STAT_RUN : Fld := ⟨0xE0010, 31, 31⟩
def LGE_STAT_WARM : Fld := ⟨0xE0010, 30, 30⟩
def LGE_STAT_CAUSE : Fld := ⟨0xE0010, 23, 20⟩
def LGE_STAT_TASK : Fld := ⟨0xE0010, 13, 8⟩
def LGE_STAT_WIN_WRITE : Fld := ⟨0xE0010, 7, 7⟩
/-! LGE_STOP_PC: R487. -/
def LGE_STOP_PC_PC : Fld := ⟨0xE0014, 17, 0⟩
/-! LGE_CYCLE: R488. -/
def LGE_CYCLE_COUNT : Fld := ⟨0xE0018, 31, 0⟩
/-! LGE_LOAD: R489. -/
def LGE_LOAD_PEAK : Fld := ⟨0xE001C, 15, 8⟩
def LGE_LOAD_LOAD : Fld := ⟨0xE001C, 7, 0⟩
/-! LGE_PROG: R490. -/
def LGE_PROG_EVENT : Fld := ⟨0xE0020, 31, 26⟩
def LGE_PROG_CYCLIC : Fld := ⟨0xE0020, 25, 21⟩
def LGE_PROG_COUNT : Fld := ⟨0xE0020, 18, 0⟩
/-! LGE_RET: R491. -/
def LGE_RET_SEQ : Fld := ⟨0xE0024, 31, 8⟩
def LGE_RET_PENDING : Fld := ⟨0xE0024, 0, 0⟩
/-! LGE_TSEL: R492. -/
def LGE_TSEL_TASK : Fld := ⟨0xE0030, 5, 0⟩
/-! LGE_TINFO: R493. -/
def LGE_TINFO_DEFINED (n : Nat) : Fld := ⟨0xE0034 + n * 0x100000000, 31, 31⟩
def LGE_TINFO_KIND (n : Nat) : Fld := ⟨0xE0034 + n * 0x100000000, 30, 30⟩
def LGE_TINFO_PRIO (n : Nat) : Fld := ⟨0xE0034 + n * 0x100000000, 27, 24⟩
def LGE_TINFO_STATE (n : Nat) : Fld := ⟨0xE0034 + n * 0x100000000, 21, 20⟩
def LGE_TINFO_EDGE (n : Nat) : Fld := ⟨0xE0034 + n * 0x100000000, 19, 18⟩
def LGE_TINFO_PERIOD (n : Nat) : Fld := ⟨0xE0034 + n * 0x100000000, 15, 0⟩
/-! LGE_TEXEC: R494. -/
def LGE_TEXEC_MAX (n : Nat) : Fld := ⟨0xE0038 + n * 0x100000000, 31, 16⟩
def LGE_TEXEC_LAST (n : Nat) : Fld := ⟨0xE0038 + n * 0x100000000, 15, 0⟩
/-! LGE_TRELS: R494. -/
def LGE_TRELS_RELEASES (n : Nat) : Fld := ⟨0xE003C + n * 0x100000000, 31, 8⟩
def LGE_TRELS_MISSED (n : Nat) : Fld := ⟨0xE003C + n * 0x100000000, 7, 0⟩
/-! ACQ_STAT: R565. -/
def ACQ_STAT_PENDING : Fld := ⟨0xF0010, 31, 20⟩
def ACQ_STAT_COMMIT_BUSY : Fld := ⟨0xF0010, 16, 16⟩
def ACQ_STAT_RUN : Fld := ⟨0xF0010, 15, 8⟩
def ACQ_STAT_DEFINED : Fld := ⟨0xF0010, 7, 0⟩
/-! ACQ_CMD: R566. -/
def ACQ_CMD_AREAS : Fld := ⟨0xF0014, 15, 8⟩
def ACQ_CMD_CMD : Fld := ⟨0xF0014, 7, 0⟩
/-! ACQ_RESULT: R567. -/
def ACQ_RESULT_SEQ : Fld := ⟨0xF0018, 31, 24⟩
def ACQ_RESULT_CMD : Fld := ⟨0xF0018, 15, 8⟩
def ACQ_RESULT_STATUS : Fld := ⟨0xF0018, 7, 0⟩
/-! ACQ_LOST: R568. -/
def ACQ_LOST_NOT_COMMITTED : Fld := ⟨0xF001C, 31, 16⟩
def ACQ_LOST_DISCARDED : Fld := ⟨0xF001C, 15, 0⟩
/-! ACQ_REC: R568. -/
def ACQ_REC_RELEASED : Fld := ⟨0xF0020, 31, 16⟩
def ACQ_REC_USED : Fld := ⟨0xF0020, 15, 0⟩
/-! ACQ_TRG: R568. -/
def ACQ_TRG_HIST : Fld := ⟨0xF0024, 31, 16⟩
def ACQ_TRG_COND : Fld := ⟨0xF0024, 15, 0⟩
/-! ACQ_PLAN: R569. -/
def ACQ_PLAN_AREAS (n : Nat) : Fld := ⟨instKey 0xF0030 4 4 n, 15, 8⟩
def ACQ_PLAN_SLOTS (n : Nat) : Fld := ⟨instKey 0xF0030 4 4 n, 7, 0⟩
/-! ACQ_MSEL: R570. -/
def ACQ_MSEL_AREA : Fld := ⟨0xF0040, 10, 8⟩
def ACQ_MSEL_ENTRY : Fld := ⟨0xF0040, 4, 0⟩
/-! ACQ_MSEQ: R570. -/
def ACQ_MSEQ_SEQ : Fld := ⟨0xF0044, 31, 0⟩
/-! ACQ_MDATA: R571. -/
def ACQ_MDATA_VALUE (n : Nat) : Fld := ⟨instKey 0xF0080 4 16 n, 31, 0⟩
/-! ACQ_ACFG: R572. -/
def ACQ_ACFG_KIND (n : Nat) : Fld := ⟨instKey 0xF0100 32 8 n, 26, 24⟩
def ACQ_ACFG_C (n : Nat) : Fld := ⟨instKey 0xF0100 32 8 n, 21, 16⟩
def ACQ_ACFG_FLAGS (n : Nat) : Fld := ⟨instKey 0xF0100 32 8 n, 15, 13⟩
def ACQ_ACFG_SEGS (n : Nat) : Fld := ⟨instKey 0xF0100 32 8 n, 12, 0⟩
/-! ACQ_ASTAT: R572. -/
def ACQ_ASTAT_STATE (n : Nat) : Fld := ⟨instKey 0xF0104 32 8 n, 31, 30⟩
def ACQ_ASTAT_STOPPED_BY (n : Nat) : Fld := ⟨instKey 0xF0104 32 8 n, 29, 28⟩
def ACQ_ASTAT_SLOT (n : Nat) : Fld := ⟨instKey 0xF0104 32 8 n, 27, 16⟩
/-! ACQ_ASEQ: R572. -/
def ACQ_ASEQ_SEQ (n : Nat) : Fld := ⟨instKey 0xF0108 32 8 n, 31, 0⟩
/-! ACQ_ALAST: R572. -/
def ACQ_ALAST_FLAGS (n : Nat) : Fld := ⟨instKey 0xF010C 32 8 n, 31, 16⟩
def ACQ_ALAST_SLOT (n : Nat) : Fld := ⟨instKey 0xF010C 32 8 n, 11, 0⟩
/-! ACQ_ALOST: R572. -/
def ACQ_ALOST_NOT_COMMITTED (n : Nat) : Fld := ⟨instKey 0xF0110 32 8 n, 31, 0⟩
/-! ACQ_ACOMM: R572. -/
def ACQ_ACOMM_SEQ (n : Nat) : Fld := ⟨instKey 0xF0114 32 8 n, 31, 0⟩
/-! CRT_STAT: R594. -/
def CRT_STAT_HSTATE : Fld := ⟨0x100010, 31, 30⟩
def CRT_STAT_CBUSY : Fld := ⟨0x100010, 29, 29⟩
/-! CRT_CMD: R595. -/
def CRT_CMD_CMD : Fld := ⟨0x100014, 7, 0⟩
/-! CRT_RESULT: R596. -/
def CRT_RESULT_SEQ : Fld := ⟨0x100018, 31, 24⟩
def CRT_RESULT_CMD : Fld := ⟨0x100018, 15, 8⟩
def CRT_RESULT_STATUS : Fld := ⟨0x100018, 7, 0⟩
/-! CRT_JOP: R597. -/
def CRT_JOP_NCH : Fld := ⟨0x100020, 23, 16⟩
def CRT_JOP_WSIZE : Fld := ⟨0x100020, 11, 8⟩
def CRT_JOP_ORDER : Fld := ⟨0x100020, 6, 4⟩
def CRT_JOP_KIND : Fld := ⟨0x100020, 3, 2⟩
def CRT_JOP_OP : Fld := ⟨0x100020, 1, 0⟩
/-! CRT_JLEAD: R597. -/
def CRT_JLEAD_LEAD : Fld := ⟨0x100024, 11, 0⟩
/-! CRT_JSPACE: R597. -/
def CRT_JSPACE_DST : Fld := ⟨0x100028, 5, 4⟩
def CRT_JSPACE_SRC : Fld := ⟨0x100028, 1, 0⟩
/-! CRT_JSRC: R598. -/
def CRT_JSRC_ADDR : Fld := ⟨0x10002C, 31, 0⟩
/-! CRT_JLEN: R598. -/
def CRT_JLEN_LEN : Fld := ⟨0x100030, 31, 0⟩
/-! CRT_JDST: R598. -/
def CRT_JDST_ADDR : Fld := ⟨0x100034, 31, 0⟩
/-! CRT_JCAP: R598. -/
def CRT_JCAP_CAP : Fld := ⟨0x100038, 31, 0⟩
/-! CRT_OUT_LIMIT: R598. -/
def CRT_OUT_LIMIT_LIMIT : Fld := ⟨0x10003C, 16, 0⟩
/-! CRT_IN_CONSUMED: R599. -/
def CRT_IN_CONSUMED_COUNT : Fld := ⟨0x100040, 31, 0⟩
/-! CRT_OUT_PRODUCED: R599. -/
def CRT_OUT_PRODUCED_COUNT : Fld := ⟨0x100044, 31, 0⟩
/-! CRT_ERRPOS: R599. -/
def CRT_ERRPOS_BLOCK : Fld := ⟨0x100048, 31, 16⟩
def CRT_ERRPOS_OFFSET : Fld := ⟨0x100048, 15, 0⟩
/-! CRT_CIN: R600. -/
def CRT_CIN_BYTES : Fld := ⟨0x100050, 31, 0⟩
/-! CRT_COUT: R600. -/
def CRT_COUT_BYTES : Fld := ⟨0x100054, 31, 0⟩
/-! CRT_CBLK: R600. -/
def CRT_CBLK_BLOCKS : Fld := ⟨0x100058, 31, 16⟩
def CRT_CBLK_FALLBACK : Fld := ⟨0x100058, 15, 0⟩
/-! PST_STAT: R627. -/
def PST_STAT_FLUSH : Fld := ⟨0x110010, 31, 31⟩
def PST_STAT_IMG_OPEN : Fld := ⟨0x110010, 30, 30⟩
def PST_STAT_UNCORR : Fld := ⟨0x110010, 16, 16⟩
def PST_STAT_CORR : Fld := ⟨0x110010, 15, 0⟩
/-! PST_IMG_CMD: R628. -/
def PST_IMG_CMD_SLOT : Fld := ⟨0x110020, 9, 8⟩
def PST_IMG_CMD_CMD : Fld := ⟨0x110020, 7, 0⟩
/-! PST_IMG_RESULT: R629. -/
def PST_IMG_RESULT_SEQ : Fld := ⟨0x110024, 31, 24⟩
def PST_IMG_RESULT_CMD : Fld := ⟨0x110024, 15, 8⟩
def PST_IMG_RESULT_STATUS : Fld := ⟨0x110024, 7, 0⟩
/-! PST_IMG_DATA: R630. -/
def PST_IMG_DATA_DATA : Fld := ⟨0x110028, 31, 0⟩
/-! PST_IMG_PTR: R630. -/
def PST_IMG_PTR_OVERFLOW : Fld := ⟨0x11002C, 31, 31⟩
def PST_IMG_PTR_PTR : Fld := ⟨0x11002C, 23, 0⟩
/-! LDG_HEAD: R632. -/
def LDG_HEAD_SEQ : Fld := ⟨0x120010, 31, 0⟩
/-! LDG_TAIL: R632. -/
def LDG_TAIL_SEQ : Fld := ⟨0x120014, 31, 0⟩
/-! LDG_STAT: R632. -/
def LDG_STAT_CLEAR_BUSY : Fld := ⟨0x120018, 31, 31⟩
def LDG_STAT_WRAPPED : Fld := ⟨0x120018, 30, 30⟩
def LDG_STAT_DROPPED : Fld := ⟨0x120018, 15, 0⟩
/-! LDG_CMD: R633. -/
def LDG_CMD_SESSION : Fld := ⟨0x12001C, 23, 16⟩
def LDG_CMD_CMD : Fld := ⟨0x12001C, 7, 0⟩
/-! LDG_RESULT: R633. -/
def LDG_RESULT_SEQ : Fld := ⟨0x120020, 31, 24⟩
def LDG_RESULT_CMD : Fld := ⟨0x120020, 15, 8⟩
def LDG_RESULT_STATUS : Fld := ⟨0x120020, 7, 0⟩
/-! LDG_RSEL: R634. -/
def LDG_RSEL_SEQ : Fld := ⟨0x120024, 31, 0⟩
/-! LDG_RSTAT: R634. -/
def LDG_RSTAT_STATUS : Fld := ⟨0x120028, 1, 0⟩
/-! LDG_OPTIME_LO: R635. -/
def LDG_OPTIME_LO_MS : Fld := ⟨0x120030, 31, 0⟩
/-! LDG_OPTIME_HI: R635. -/
def LDG_OPTIME_HI_MS : Fld := ⟨0x120034, 15, 0⟩
/-! LDG_PCYCLE: R635. -/
def LDG_PCYCLE_COUNT : Fld := ⟨0x120038, 31, 0⟩
/-! LDG_RDATA: R636. -/
def LDG_RDATA_WORD (n : Nat) : Fld := ⟨instKey 0x120040 4 16 n, 31, 0⟩
/-! TLY_SUB: R533. -/
def TLY_SUB_SUB0 : Fld := ⟨0x130010, 1, 0⟩
def TLY_SUB_SUB1 : Fld := ⟨0x130010, 3, 2⟩
def TLY_SUB_SUB2 : Fld := ⟨0x130010, 5, 4⟩
def TLY_SUB_SUB3 : Fld := ⟨0x130010, 7, 6⟩
def TLY_SUB_SUB4 : Fld := ⟨0x130010, 9, 8⟩
def TLY_SUB_SUB5 : Fld := ⟨0x130010, 11, 10⟩
def TLY_SUB_SUB6 : Fld := ⟨0x130010, 13, 12⟩
def TLY_SUB_SUB7 : Fld := ⟨0x130010, 15, 14⟩
def TLY_SUB_SUB8 : Fld := ⟨0x130010, 17, 16⟩
def TLY_SUB_SUB9 : Fld := ⟨0x130010, 19, 18⟩
def TLY_SUB_SUB10 : Fld := ⟨0x130010, 21, 20⟩
def TLY_SUB_SUB11 : Fld := ⟨0x130010, 23, 22⟩
def TLY_SUB_SUB12 : Fld := ⟨0x130010, 25, 24⟩
def TLY_SUB_SUB13 : Fld := ⟨0x130010, 27, 26⟩
def TLY_SUB_SUB14 : Fld := ⟨0x130010, 29, 28⟩
def TLY_SUB_SUB15 : Fld := ⟨0x130010, 31, 30⟩
/-! TLY_OVERALL: R533. -/
def TLY_OVERALL_OVERALL : Fld := ⟨0x130014, 31, 30⟩
def TLY_OVERALL_FAST_PROG : Fld := ⟨0x130014, 23, 16⟩
def TLY_OVERALL_GEN_PROG : Fld := ⟨0x130014, 15, 8⟩
def TLY_OVERALL_CHANGES : Fld := ⟨0x130014, 7, 0⟩
/-! TLY_HIST: R533. -/
def TLY_HIST_WORSE : Fld := ⟨0x130018, 15, 0⟩
/-! TLY_CAUSE: R534. -/
def TLY_CAUSE_EVENT (n : Nat) : Fld := ⟨instKey 0x130100 4 16 n, 31, 16⟩
def TLY_CAUSE_CODE (n : Nat) : Fld := ⟨instKey 0x130100 4 16 n, 1, 0⟩
/-! STK_CTRL: R666. -/
def STK_CTRL_CMD : Fld := ⟨0x140010, 7, 0⟩
/-! STK_RESULT: R666. -/
def STK_RESULT_SEQ : Fld := ⟨0x140014, 31, 24⟩
def STK_RESULT_CMD : Fld := ⟨0x140014, 15, 8⟩
def STK_RESULT_STATUS : Fld := ⟨0x140014, 7, 0⟩
/-! STK_EPOCH: R666. -/
def STK_EPOCH_EPOCH : Fld := ⟨0x140018, 31, 0⟩
/-! STK_STAT: R666. -/
def STK_STAT_BUSY : Fld := ⟨0x14001C, 31, 31⟩
def STK_STAT_LATE : Fld := ⟨0x14001C, 30, 30⟩
def STK_STAT_UNSYNC : Fld := ⟨0x14001C, 29, 29⟩
def STK_STAT_ORIGIN : Fld := ⟨0x14001C, 25, 24⟩
def STK_STAT_DPEND : Fld := ⟨0x14001C, 23, 23⟩
/-! STK_TAKE_NS: R666. -/
def STK_TAKE_NS_NS : Fld := ⟨0x140020, 31, 0⟩
/-! STK_TAKE_SEC: R666. -/
def STK_TAKE_SEC_SEC : Fld := ⟨0x140024, 31, 0⟩
/-! STK_LATE: R666. -/
def STK_LATE_NS : Fld := ⟨0x140028, 31, 0⟩
/-! STK_DNS: R667. -/
def STK_DNS_NS : Fld := ⟨0x140030, 31, 0⟩
/-! STK_DSEC_LO: R667. -/
def STK_DSEC_LO_SEC : Fld := ⟨0x140034, 31, 0⟩
/-! STK_DSEC_HI: R667. -/
def STK_DSEC_HI_SEC : Fld := ⟨0x140038, 15, 0⟩
/-! STK_DTAG: R667. -/
def STK_DTAG_TAG : Fld := ⟨0x14003C, 31, 0⟩
/-! STK_DLAST: R667. -/
def STK_DLAST_TAG : Fld := ⟨0x140040, 31, 0⟩
/-! STK_SHADOW: R668. -/
def STK_SHADOW_VALUE (n : Nat) : Fld := ⟨instKey 0x141000 4 768 n, 31, 0⟩
/-! EVQ_SUM: R737. -/
def EVQ_SUM_FREE : Fld := ⟨0x150010, 31, 16⟩
def EVQ_SUM_RESERVED : Fld := ⟨0x150010, 15, 0⟩
/-! EVQ_SEL: R737. -/
def EVQ_SEL_QUEUE : Fld := ⟨0x150014, 8, 0⟩
/-! EVQ_CFG: R737. -/
def EVQ_CFG_FILTER (n : Nat) : Fld := ⟨0x150018 + n * 0x100000000, 31, 26⟩
def EVQ_CFG_RES (n : Nat) : Fld := ⟨0x150018 + n * 0x100000000, 25, 13⟩
def EVQ_CFG_CAP (n : Nat) : Fld := ⟨0x150018 + n * 0x100000000, 12, 0⟩
/-! EVQ_STAT: R737. -/
def EVQ_STAT_LOST (n : Nat) : Fld := ⟨0x15001C + n * 0x100000000, 31, 16⟩
def EVQ_STAT_COUNT (n : Nat) : Fld := ⟨0x15001C + n * 0x100000000, 15, 0⟩
/-! EVQ_POP: R737. -/
def EVQ_POP_QSEQ : Fld := ⟨0x150020, 31, 0⟩
/-! EVQ_IDATA: R737. -/
def EVQ_IDATA_WORD : Fld := ⟨0x150024, 31, 0⟩
/-! ARD_STAT: R698. -/
def ARD_STAT_L0_UP : Fld := ⟨0x160010, 31, 31⟩
def ARD_STAT_L1_UP : Fld := ⟨0x160010, 30, 30⟩
def ARD_STAT_UL_UP : Fld := ⟨0x160010, 29, 29⟩
def ARD_STAT_WRAP_E : Fld := ⟨0x160010, 28, 28⟩
def ARD_STAT_WRAP_W : Fld := ⟨0x160010, 27, 27⟩
def ARD_STAT_DUP_ADDR : Fld := ⟨0x160010, 26, 26⟩
def ARD_STAT_RING : Fld := ⟨0x160010, 23, 22⟩
def ARD_STAT_UNIT : Fld := ⟨0x160010, 13, 0⟩
/-! ARD_MAP: R698. -/
def ARD_MAP_SIZE : Fld := ⟨0x160014, 31, 24⟩
def ARD_MAP_INDEX : Fld := ⟨0x160014, 23, 16⟩
def ARD_MAP_BREAKS : Fld := ⟨0x160014, 15, 8⟩
/-! ARD_LANE: R699. -/
def ARD_LANE_UTIL (n : Nat) : Fld := ⟨instKey 0x160020 4 3 n, 31, 24⟩
def ARD_LANE_PEAK (n : Nat) : Fld := ⟨instKey 0x160020 4 3 n, 23, 16⟩
def ARD_LANE_PROP (n : Nat) : Fld := ⟨instKey 0x160020 4 3 n, 11, 0⟩
/-! ARD_ERR: R699. -/
def ARD_ERR_CRC (n : Nat) : Fld := ⟨instKey 0x160030 4 3 n, 31, 16⟩
def ARD_ERR_ABORT (n : Nat) : Fld := ⟨instKey 0x160030 4 3 n, 15, 0⟩
/-! ARD_SEC: R700. -/
def ARD_SEC_AUTH_FAIL : Fld := ⟨0x160040, 31, 16⟩
def ARD_SEC_NO_KEY : Fld := ⟨0x160040, 15, 0⟩
/-! ARD_DROP: R700. -/
def ARD_DROP_POLICED : Fld := ⟨0x160044, 31, 16⟩
def ARD_DROP_NOT_OWNER : Fld := ⟨0x160044, 15, 8⟩
def ARD_DROP_TEST_DISC : Fld := ⟨0x160044, 7, 0⟩
/-! ARD_DUP: R700. -/
def ARD_DUP_COUNT : Fld := ⟨0x160048, 31, 0⟩
/-! ARD_ERA: R700. -/
def ARD_ERA_ERA : Fld := ⟨0x16004C, 31, 0⟩
/-! ARD_BZ_PUB: R701. -/
def ARD_BZ_PUB_COUNT : Fld := ⟨0x160050, 16, 0⟩
/-! ARD_BZ_SUB: R701. -/
def ARD_BZ_SUB_COUNT : Fld := ⟨0x160054, 16, 0⟩
/-! ARD_BZ_STALE: R701. -/
def ARD_BZ_STALE_COUNT : Fld := ⟨0x160058, 16, 0⟩
/-! ARD_BZ_PLANE: R701. -/
def ARD_BZ_PLANE_COUNT : Fld := ⟨0x16005C, 16, 0⟩
/-! ARD_PSEL: R702. -/
def ARD_PSEL_INDEX : Fld := ⟨0x160080, 16, 0⟩
/-! ARD_PINFO: R702. -/
def ARD_PINFO_CLASS : Fld := ⟨0x160084, 31, 30⟩
def ARD_PINFO_KIND : Fld := ⟨0x160084, 29, 29⟩
def ARD_PINFO_ID : Fld := ⟨0x160084, 19, 0⟩
/-! ARD_PVAL: R702. -/
def ARD_PVAL_VALUE : Fld := ⟨0x160088, 31, 0⟩
/-! ARD_PAGE: R702. -/
def ARD_PAGE_AGE : Fld := ⟨0x16008C, 31, 0⟩
/-! ETH_STAT: R732. -/
def ETH_STAT_LINK : Fld := ⟨0x170010, 31, 31⟩
def ETH_STAT_REFUSED : Fld := ⟨0x170010, 30, 30⟩
def ETH_STAT_SERVICE : Fld := ⟨0x170010, 29, 29⟩
/-! ETH_CORE: R732. -/
def ETH_CORE_STATE : Fld := ⟨0x170014, 31, 30⟩
def ETH_CORE_GOV : Fld := ⟨0x170014, 29, 27⟩
def ETH_CORE_RESTARTS : Fld := ⟨0x170014, 26, 24⟩
def ETH_CORE_SESSIONS : Fld := ⟨0x170014, 23, 15⟩
def ETH_CORE_LOAD : Fld := ⟨0x170014, 7, 0⟩
/-! ETH_CFG_HASH: R732. -/
def ETH_CFG_HASH_HASH : Fld := ⟨0x170018, 31, 0⟩
/-! ETH_MAC_LO: R733. -/
def ETH_MAC_LO_WORD : Fld := ⟨0x170020, 31, 0⟩
/-! ETH_MAC_HI: R733. -/
def ETH_MAC_HI_BYTES : Fld := ⟨0x170024, 15, 0⟩
/-! ETH_IP: R733. -/
def ETH_IP_WORD : Fld := ⟨0x170028, 31, 0⟩
/-! ETH_MASK: R733. -/
def ETH_MASK_WORD : Fld := ⟨0x17002C, 31, 0⟩
/-! ETH_GW: R733. -/
def ETH_GW_WORD : Fld := ⟨0x170030, 31, 0⟩
/-! ETH_SVC_IP: R733. -/
def ETH_SVC_IP_WORD : Fld := ⟨0x170034, 31, 0⟩
/-! ETH_TSEL: R734. -/
def ETH_TSEL_TABLE : Fld := ⟨0x170040, 31, 24⟩
def ETH_TSEL_ENTRY : Fld := ⟨0x170040, 23, 8⟩
def ETH_TSEL_WORD : Fld := ⟨0x170040, 7, 0⟩
/-! ETH_TDATA: R734. -/
def ETH_TDATA_DATA : Fld := ⟨0x170044, 31, 0⟩
/-! ETH_GOOSE_TX: R735. -/
def ETH_GOOSE_TX_CFG_REFUSED : Fld := ⟨0x170050, 31, 31⟩
def ETH_GOOSE_TX_FRAMES : Fld := ⟨0x170050, 30, 0⟩
/-! ETH_GOOSE_RX: R735. -/
def ETH_GOOSE_RX_REJECTED : Fld := ⟨0x170054, 31, 16⟩
def ETH_GOOSE_RX_ACCEPTED : Fld := ⟨0x170054, 15, 0⟩
/-! ETH_RX_ERR: R735. -/
def ETH_RX_ERR_CRC : Fld := ⟨0x170058, 31, 16⟩
def ETH_RX_ERR_DROPPED : Fld := ⟨0x170058, 15, 0⟩
/-! HST_STAT: R736. -/
def HST_STAT_ELEVATED : Fld := ⟨0x180010, 31, 31⟩
/-! HST_IRQ_EN: R736. -/
def HST_IRQ_EN_EN : Fld := ⟨0x180014, 5, 0⟩
/-! HST_IRQ_STAT: R736. -/
def HST_IRQ_STAT_PEND : Fld := ⟨0x180018, 5, 0⟩
/-! HST_ERR: R736. -/
def HST_ERR_CRC : Fld := ⟨0x18001C, 31, 16⟩
def HST_ERR_FRAME : Fld := ⟨0x18001C, 15, 8⟩
def HST_ERR_PRIV : Fld := ⟨0x18001C, 7, 0⟩
/-! SEC_STAT: R738. -/
def SEC_STAT_VIEW_ERR : Fld := ⟨0x190010, 31, 31⟩
def SEC_STAT_VIRGIN : Fld := ⟨0x190010, 30, 30⟩
def SEC_STAT_DEBUG : Fld := ⟨0x190010, 29, 29⟩
def SEC_STAT_GEN : Fld := ⟨0x190010, 28, 28⟩
def SEC_STAT_ELEV : Fld := ⟨0x190010, 27, 24⟩
/-! SEC_CMD: R738. -/
def SEC_CMD_ACCESSOR : Fld := ⟨0x190014, 15, 8⟩
def SEC_CMD_ARG : Fld := ⟨0x190014, 23, 16⟩
def SEC_CMD_CMD : Fld := ⟨0x190014, 7, 0⟩
/-! SEC_RESULT: R738. -/
def SEC_RESULT_SEQ : Fld := ⟨0x190018, 31, 24⟩
def SEC_RESULT_CMD : Fld := ⟨0x190018, 15, 8⟩
def SEC_RESULT_STATUS : Fld := ⟨0x190018, 7, 0⟩
/-! SEC_DEVID_LO: R738. -/
def SEC_DEVID_LO_ID : Fld := ⟨0x19001C, 31, 0⟩
/-! SEC_DEVID_HI: R738. -/
def SEC_DEVID_HI_ID : Fld := ⟨0x190020, 31, 0⟩
/-! SEC_NONCE: R739. -/
def SEC_NONCE_WORD (n : Nat) : Fld := ⟨instKey 0x190040 4 8 n, 31, 0⟩
/-! SEC_CNONCE: R739. -/
def SEC_CNONCE_WORD (n : Nat) : Fld := ⟨instKey 0x190060 4 8 n, 31, 0⟩
/-! SEC_SIG: R739. -/
def SEC_SIG_WORD (n : Nat) : Fld := ⟨instKey 0x190080 4 16 n, 31, 0⟩
/-! SEC_KEY_SEL: R739. -/
def SEC_KEY_SEL_KIND : Fld := ⟨0x1900C0, 26, 24⟩
def SEC_KEY_SEL_INDEX : Fld := ⟨0x1900C0, 22, 8⟩
def SEC_KEY_SEL_WORD : Fld := ⟨0x1900C0, 4, 0⟩
/-! SEC_KEY_DATA: R739. -/
def SEC_KEY_DATA_DATA : Fld := ⟨0x1900C4, 31, 0⟩
/-! TRC_CFG: R740. -/
def TRC_CFG_STORE : Fld := ⟨0x1A0010, 31, 31⟩
def TRC_CFG_SRC : Fld := ⟨0x1A0010, 4, 0⟩
/-! TRC_STAT: R740. -/
def TRC_STAT_FILL : Fld := ⟨0x1A0014, 31, 16⟩
def TRC_STAT_GAP : Fld := ⟨0x1A0014, 15, 14⟩
def TRC_STAT_DROPPED : Fld := ⟨0x1A0014, 13, 0⟩
/-! TRC_CMD: R740. -/
def TRC_CMD_CMD : Fld := ⟨0x1A0018, 7, 0⟩

end Sys2Proof.Reg
end

