-- ==== Sys2Proof/Machine/Sparse.lean ====
section
/-!
DEFINITION. Sparse data by number: a list of (key, value) pairs, keys strictly rising, no entry equal to
what an unlisted key reads as.  Registers, memories and per-channel records are all kept this way.
`sget` stops at the first key above the wanted one, so the two laws of reading after writing hold of
every list; `swf` says that a list is in the canonical form.
-/

namespace Sys2Proof.Machine

variable {α : Type}

/-- The value at key `k`; `d k` where no entry lists it. -/
def sget (d : Nat → α) : List (Nat × α) → Nat → α
  | [], k => d k
  | (a, x) :: t, k => if k < a then d k else if k = a then x else sget d t k

/-- Drop the leading entries whose key is at most `k` (none in a canonical list that starts above `k`). -/
def sdrop : List (Nat × α) → Nat → List (Nat × α)
  | [], _ => []
  | (a, x) :: t, k => if a ≤ k then sdrop t k else (a, x) :: t

/-- Put `v` at key `k`; the entry goes away when `v` is what an unlisted key reads as. -/
def sset [DecidableEq α] (d : Nat → α) : List (Nat × α) → Nat → α → List (Nat × α)
  | [], k, v => if v = d k then [] else [(k, v)]
  | (a, x) :: t, k, v =>
    if k < a then (if v = d k then (a, x) :: t else (k, v) :: (a, x) :: t)
    else if k = a then (if v = d k then sdrop t k else (k, v) :: sdrop t k)
    else (a, x) :: sset d t k v

/-- Change the value at key `k` with `f`. -/
def smod [DecidableEq α] (d : Nat → α) (m : List (Nat × α)) (k : Nat) (f : α → α) : List (Nat × α) :=
  sset d m k (f (sget d m k))

/-- Every key of the list is above `n`, keys rise strictly, and no entry is the default. -/
def swfFrom [DecidableEq α] (d : Nat → α) : Option Nat → List (Nat × α) → Bool
  | _, [] => true
  | lo, (a, x) :: t =>
    (match lo with
     | none => true
     | some n => decide (n < a)) && decide (x ≠ d a) && swfFrom d (some a) t

/-- The canonical form. -/
def swf [DecidableEq α] (d : Nat → α) (m : List (Nat × α)) : Bool := swfFrom d none m

/-- Remove every entry whose key satisfies `p` (a reset of those keys to their defaults). -/
def serase (p : Nat → Bool) (m : List (Nat × α)) : List (Nat × α) := m.filter fun e => !p e.1

end Sys2Proof.Machine
end

