-- ==== Sys2Proof/Machine/Parts.lean ====
section
/-!
DEFINITION. The parts of the state that no register shows, chapter by chapter: plain data only.
Registers, status bits and read-only fields live in the one register map of `State`.
-/

namespace Sys2Proof.Machine

/-! ### Persistent store (chapter 17) -/

/-- One Ledger record of R619; MARK is 0xA5 when `mark`, 0 after a clear (R624).  CRC8 is computed from the rest. -/
structure LedgerRec where
  seq : Nat
  optime : Nat
  pcycle : Nat
  source : Nat
  event : Nat
  flags : Nat
  ns : Nat
  sec : Nat
  evSeq : Nat
  fields : List Byte
  mark : Bool
  deriving DecidableEq, Repr, Inhabited

/-- The contents of one setting group: slot words (slot * 16 + word), template samples, user-curve words (R608). -/
structure SetGroup where
  words : List (Nat × Nat)
  templates : List (Nat × Nat)
  curves : List (Nat × Nat)
  deriving DecidableEq, Repr, Inhabited

/-- One group unit of the SET partition (R608). -/
structure SetUnit where
  group : Nat
  unitSeq : Nat
  hash : List Byte
  data : SetGroup
  deriving DecidableEq, Repr, Inhabited

/-- One record of the record log (R609). -/
structure LogRec where
  type : Nat
  index : Nat
  rseq : Nat
  hash : List Byte
  value : Nat
  deriving DecidableEq, Repr, Inhabited

/-- One retentive set of RET (R607): the retentive bits M, C records and T records as the unit holds them. -/
structure RetUnit where
  unitSeq : Nat
  hash : List Byte
  bitsM : List (Nat × Nat)
  recsC : List (Nat × Nat)
  recsT : List (Nat × Nat)
  deriving DecidableEq, Repr, Inhabited

/-- One committed segment of REC (R610), and the page of its half's region at which its unit starts. -/
structure RecUnit where
  page : Nat
  unitSeq : Nat
  area : Nat
  segSeq : Nat
  payload : List Byte
  deriving DecidableEq, Repr, Inhabited

/-- One image slot of IMG (R108): its bytes, the bytes counted by the valid mark, and the mark. -/
structure ImgSlot where
  bytes : List (Nat × Byte)
  len : Nat
  mark : Bool
  deriving DecidableEq, Repr, Inhabited

/-- One trace snapshot of TRC (R730): SNAP_SEQ, REASON, the time and the valid bytes. -/
structure TraceSnap where
  seq : Nat
  reason : Nat
  time : Nat
  bytes : List Byte
  deriving DecidableEq, Repr, Inhabited

/-- One key or configuration entry of a half's configuration store (R720). -/
structure KeyEntry where
  kind : Nat
  index : Nat
  words : List Nat
  deriving DecidableEq, Repr, Inhabited

/-- The shared persistent store die (R58). -/
structure Store where
  slot0 : ImgSlot
  slot1 : ImgSlot
  slot2 : ImgSlot
  setUnits : List SetUnit
  recordLog : List LogRec
  logSeq : Nat
  setSeq : Nat
  retA : List RetUnit
  retB : List RetUnit
  recA : List RecUnit
  recB : List RecUnit
  trcA : List TraceSnap
  trcB : List TraceSnap
  keysA : List KeyEntry
  keysB : List KeyEntry
  cfgA : List (Nat × Nat)
  cfgB : List (Nat × Nat)
  ledger : List LedgerRec
  ledgerSeq : Nat
  tombstone : Nat
  clearing : Bool
  /-- Ticks of the appends that count against the limit of R618, newest first. -/
  recent : List Nat
  /-- Records dropped in the current rate window and OPTIME of its start (R618). -/
  dropCount : Nat
  dropStart : Nat
  /-- The operating-time counter page (R621). -/
  optimeCommitted : Nat
  pcycle : Nat
  /-- The era of each half's frames, on the same page (R682). -/
  eraA : Nat
  eraB : Nat
  deriving DecidableEq, Repr, Inhabited

/-- A commit unit under way (R603): a setting group or a retentive set; a segment's is the recorder's job. -/
inductive CommitJob
  | set (u : SetUnit)
  | ret (u : RetUnit)
  deriving DecidableEq, Repr, Inhabited

/-- What one half keeps about its store port (R605, R611, R623). -/
structure StorePort where
  openSlot : Option Nat
  /-- Commit units under way, oldest first. -/
  commits : List CommitJob
  held : List LedgerRec
  rdata : Option LedgerRec
  optimeHi : Nat
  deriving DecidableEq, Repr, Inhabited

/-! ### Time (chapter 18) -/

/-- The time generator in the field die (R638 to R645). -/
structure TimeGen where
  /-- The time value in ns since the PTP epoch. -/
  now : Nat
  /-- ρ in ppb and its target (R640). -/
  rho : Int
  rhoTarget : Int
  /-- The grid offset G in ns (R642). -/
  grid : Int
  /-- Consecutive measurements within ±100 ns, and beyond ±500 ns (R645). -/
  inRange : Nat
  outRange : Nat
  measured : Bool
  /-- The latched seconds of each half (R649). -/
  latchA : Nat
  latchB : Nat
  /-- A two-step Sync waiting for its Follow_Up: its receive time in ns (R646). -/
  syncWait : Option Nat
  /-- The chosen master and the measured link delay in ns (R646). -/
  master : Nat
  linkDelay : Nat
  /-- PPS_OUT is high up to this tick (R648, R652). -/
  ppsEnd : Nat
  /-- PPS_IN_LOST has been written and no edge has come since (R648). -/
  ppsLost : Bool
  deriving DecidableEq, Repr, Inhabited

/-- Stocktake counters of one half, and the domain entry (R654 to R657). -/
structure Stocktake where
  counters : List (Nat × Nat)
  /-- The shadows of the latest take. -/
  shadow : List (Nat × Nat)
  dTime : Nat
  dTag : Nat
  /-- The leader's DOMAIN_TAKE_RELAY on its way to the standby: T and the tag (R657). -/
  dRelay : Option (Nat × Nat)
  deriving DecidableEq, Repr, Inhabited

/-! ### The fabric image (chapter 3) -/

/-- The SYSTEM record (R99). -/
structure ImgSystem where
  home : Nat
  samples : Nat
  nominal : Nat
  permit : Nat
  subset : List Nat
  layupReq : Bool
  group : Nat
  holdoff : Nat
  deriving DecidableEq, Repr, Inhabited

/-- One INPUT_ROUTE record: chain, channel code, response, detector word. -/
structure ChainRec where
  chain : Nat
  src : Nat
  resp : Nat
  det : Nat
  deriving DecidableEq, Repr, Inhabited

/-- One FAST_TILES record; slot 0xFF is a spare, restraint 0xFF none. -/
structure FastTileRec where
  tile : Nat
  type : Nat
  src : Nat
  restraint : Nat
  slot : Nat
  deriving DecidableEq, Repr, Inhabited

/-- One GENERAL_TILES record with its inputs (designators of R233). -/
structure GenTileRec where
  tile : Nat
  type : Nat
  slot : Nat
  inputs : List Nat
  deriving DecidableEq, Repr, Inhabited

/-- One destination record of TRIP_MATRIX. -/
structure TripDest where
  fto : Nat
  dos : Nat
  areas : Nat
  baz : Nat
  deriving DecidableEq, Repr, Inhabited

/-- One OUTPUTS record. -/
structure OutRec where
  code : Nat
  cls : Nat
  vote : Nat
  lock : Nat
  safe : Nat
  timeout : Nat
  deriving DecidableEq, Repr, Inhabited

/-- One TASK_TABLE record; `arg` is the period or the releasing signal address. -/
structure TaskRec where
  task : Nat
  kind : Nat
  prio : Nat
  arg : Nat
  entry : Nat
  deriving DecidableEq, Repr, Inhabited

/-- One LIVENESS range (R103). -/
structure LiveRec where
  start : Nat
  count : Nat
  cond : Nat
  deriving DecidableEq, Repr, Inhabited

/-- One path record of CERTIFICATE (R104). -/
structure PathRec where
  input : Nat
  fto : Nat
  kind : Nat
  depth : Nat
  budget : Nat
  deriving DecidableEq, Repr, Inhabited

/-- One area record of RECORDER with its channel list (R538, R539). -/
structure AreaRec where
  kind : Nat
  c : Nat
  banks : Nat
  flags : Nat
  pre : Nat
  post : Nat
  maxLen : Nat
  segs : Nat
  measMask : Nat
  base : Nat
  size : Nat
  slotBytes : Nat
  demand : Nat
  entries : List Nat
  deriving DecidableEq, Repr, Inhabited

/-- One publish record of ARCADE_BAZAAR (R696): class 0 is C0, 2 is C2; kind 1 is WORD. -/
structure PubRec where
  id : Nat
  cls : Nat
  kind : Nat
  src : Nat
  deriving DecidableEq, Repr, Inhabited

/-- One subscribe record of ARCADE_BAZAAR (R696). -/
structure SubRec where
  id : Nat
  cls : Nat
  kind : Nat
  n : Nat
  fast : Bool
  owner : Nat
  deriving DecidableEq, Repr, Inhabited

/-- One stream publish record (R696). -/
structure StreamPub where
  stream : Nat
  count : Nat
  preset : Nat
  items : List Nat
  deriving DecidableEq, Repr, Inhabited

/-- One stream subscribe record (R696). -/
structure StreamSub where
  src : Nat
  stream : Nat
  count : Nat
  preset : Nat
  deriving DecidableEq, Repr, Inhabited

/-- One forward record (R696): type 0 point, 1 stream, 2 C3 ring; direction 0 up, 1 down. -/
structure FwdRec where
  src : Nat
  type : Nat
  dir : Nat
  item : Nat
  deriving DecidableEq, Repr, Inhabited

/-- The ARCADE_BAZAAR section (R696). -/
structure ArcadeCfg where
  present : Bool
  unit : Nat
  role : Nat
  timeRoot : Bool
  ring : Nat
  pubs : List PubRec
  subs : List SubRec
  spubs : List StreamPub
  ssubs : List StreamSub
  fwds : List FwdRec
  deriving DecidableEq, Repr, Inhabited

/-- A loaded image: its header values, hash and sections (R97 to R104). -/
structure Image where
  kind : Nat
  serial : Nat
  hash : List Byte
  sys : ImgSystem
  chains : List ChainRec
  fast : List FastTileRec
  general : List GenTileRec
  /-- The 80 FTO masks of FAST_MATRIX. -/
  fastMatrix : List Nat
  /-- The 512 source words, 64 row masks of 512 bits and 64 destinations of TRIP_MATRIX. -/
  tripSrc : List Nat
  tripRows : List Nat
  tripDest : List TripDest
  outputs : List OutRec
  program : List Nat
  tasks : List TaskRec
  arcade : ArcadeCfg
  areas : List AreaRec
  /-- The 1,024 frame-slot owners of the four banks (R538). -/
  slotPlan : List Nat
  live : List LiveRec
  certMin : Nat
  paths : List PathRec
  defaults : List SetGroup
  deriving DecidableEq, Repr, Inhabited

/-! ### Modes (chapter 2) -/

/-- A mode change waiting for its switch instant (R62): the command code, target mode, whether it only
restarts the logic or reboots into a new image, and the acknowledgement. -/
structure PendMode where
  cmd : Nat
  target : Nat
  inst : Nat
  acked : Bool
  slot : Nat
  /-- KIND × 256 + INDEX of an output command; the masks and LIMIT of SYS_TEST_MASK and SYS_TEST_TIME at acceptance. -/
  arg : Nat
  maskFto : Nat
  maskDo : Nat
  limit : Nat
  deriving DecidableEq, Repr, Inhabited

/-- A staging or a switch that is under way (R113, R114). -/
structure PendSet where
  switch : Bool
  group : Nat
  acked : Bool
  /-- The schedule entry that issued the switch, if one did (R652). -/
  entry : Option Nat
  deriving DecidableEq, Repr, Inhabited

/-- What one half keeps for chapters 1 to 3 beside its registers. -/
structure ModeState where
  /-- Power and reset of the half (R72, R81). -/
  powered : Bool
  inReset : Bool
  /-- The half boots alone against a running partner (R75). -/
  bootAlone : Bool
  hashMismatch : Bool
  pend : Option PendMode
  /-- The masks taken at ENTER_TEST and EXTEND_TEST (R70). -/
  maskFto : Nat
  maskDo : Nat
  /-- Tick at which the test time began to run, and the time in minutes (R93). -/
  testAt : Nat
  testLimit : Nat
  /-- 0 not laid up; 1 fast converters off; 2 exit triggered, converters off; 3 exit triggered, converters on
  (R81, R83); tick + 1 of LAYUP entry. -/
  layupExit : Nat
  layupSince : Nat
  /-- Good PACE measurements in a row, and those since the last PACE_MON record (R43, R766). -/
  paceGood : Nat
  paceMonAge : Nat
  paceMonDirty : Bool
  /-- Image verification under way: the slot, and whether it was written meanwhile (R106). -/
  verifying : Option Nat
  verifyTouched : Bool
  /-- Groups defaulted at boot step 6, to be written back at step 11 (R112). -/
  defaulted : List Nat
  firstLoader : Bool
  pendSet : Option PendSet
  /-- The CRC reply of the standby: some crc, or a failing slot (R113). -/
  crcReply : Option Nat
  failReply : Option Nat
  /-- The slot that ACTIVATE named for the restart under way, which is then a start with a new image (R80, R109). -/
  named : Option Nat
  deriving DecidableEq, Repr, Inhabited

/-! ### Recorder (chapter 15) -/

/-- One entry of a trigger list (R555). -/
structure TrigEntry where
  kind : Nat
  index : Nat
  tseq : Nat
  time : Nat
  sample : Nat
  deriving DecidableEq, Repr, Inhabited

/-- The running state of one recording area (R544): 0 stopped, 1 armed, 2 triggered. -/
structure AreaRun where
  state : Nat
  /-- STOPPED_BY of R572: 0 not stopped, 1 STOP, 2 mode, 3 power-fail. -/
  stopped : Nat
  slot : Nat
  /-- SEQ of the segment in the armed or triggered slot (R552). -/
  seq : Nat
  tseq : Nat
  /-- Samples since arming, and the newest PRE + 1 of them, newest first: instant and bytes (R543). -/
  n : Nat
  ring : List (Nat × List Byte)
  /-- The newest bytes of each entry of the channel table. -/
  newest : List (Nat × List Byte)
  preActual : Nat
  postDone : Nat
  postLeft : Nat
  ringStart : Nat
  trigs : List TrigEntry
  trigCount : Nat
  flags : Nat
  /-- Changes since arming that a channel-table entry shows (R554), newest first: entry, what (0 OFFSET, 1 GAIN,
  2 response), time, and the value before it. -/
  changes : List (Nat × Nat × Nat × Nat)
  mode : Nat
  group : Nat
  tFirst : Nat
  tTrig : Nat
  tLast : Nat
  timeQ : Nat
  lostSince : Nat
  lostAt : Nat
  deriving DecidableEq, Repr, Inhabited

/-- A closed segment held in a slot of its area (R545, R559). -/
structure Segment where
  area : Nat
  slot : Nat
  seq : Nat
  pre : Nat
  post : Nat
  ringStart : Nat
  tTrig : Nat
  tClose : Nat
  flags : Nat
  measured : Bool
  pending : Bool
  retried : Bool
  deriving DecidableEq, Repr, Inhabited

/-- The recorder of one half (R536). -/
structure Recorder where
  mem : List (Nat × Byte)
  runs : List (Nat × AreaRun)
  segs : List Segment
  /-- Last condition and sample history, newest first, of the trigger functions (R549). -/
  cond : List (Nat × Bool)
  hist : List (Nat × List Int)
  /-- Measurement words of the latest measured segment: area * 512 + entry * 16 + m; and its SEQ + 1 (R557, R570). -/
  meas : List (Nat × Nat)
  measSeq : List (Nat × Nat)
  runId : Nat
  /-- The commit job under way: area and SEQ. -/
  job : Option (Nat × Nat)
  deriving DecidableEq, Repr, Inhabited

/-! ### Crate (chapter 16) -/

/-- A host job of Crate (R586 to R589): OP and the geometry of CRT_JOP, source and destination, and progress. -/
structure CrateJob where
  op : Nat
  kind : Nat
  order : Nat
  wsize : Nat
  nch : Nat
  lead : Nat
  srcSpace : Nat
  src : Nat
  len : Nat
  dstSpace : Nat
  dst : Nat
  cap : Nat
  limit : Nat
  consumed : Nat
  produced : Nat
  blocks : Nat
  aborting : Bool
  deriving DecidableEq, Repr, Inhabited

/-- Crate in one half: the host job, the bytes of the commit job's segment with what is consumed and the blocks
written, and the management core's SRAM. -/
structure CrateRun where
  job : Option CrateJob
  seg : List Byte
  pos : Nat
  out : List Byte
  blocks : Nat
  sram : List (Nat × Byte)
  deriving DecidableEq, Repr, Inhabited

/-! ### Arcade (chapter 19) -/

/-- A subscribed point as received (R690): value word, arrival tick, and the time it lives in ticks; the instant of its
latest change and the TEST bit of its latest update (R677). -/
structure PointState where
  value : Nat
  arrived : Nat
  received : Bool
  stale : Bool
  ttl : Nat
  changed : Nat
  test : Bool
  deriving DecidableEq, Repr, Inhabited

/-- The replay window of one (source, class) (R683). -/
structure Replay where
  era : Nat
  newest : Nat
  seen : List Nat
  deriving DecidableEq, Repr, Inhabited

/-- The Arcade part of one half. -/
structure Arcade where
  points : List (Nat × PointState)
  replay : List (Nat × Replay)
  /-- Next SEQ of classes 0 to 3 in the era (R682). -/
  seqs : List (Nat × Nat)
  /-- Arrival ticks of the frames that policing passed, by lane, class, source and stream, newest first (R686). -/
  police : List (Nat × List Nat)
  policedSince : List (Nat × Nat)
  policedAt : List (Nat × Nat)
  authSince : List (Nat × Nat)
  authAt : List (Nat × Nat)
  /-- C0 repeats still to send: publication index and repeats left (R691). -/
  repeats : List (Nat × Nat)
  /-- Instant of the latest change of each publication (R677). -/
  changeAt : List (Nat × Nat)
  /-- Last published value word of each publication (R688). -/
  published : List (Nat × Nat)
  /-- MAP knowledge: unit, east neighbour, west neighbour, lane states (R673). -/
  map : List (Nat × (Nat × Nat × Nat))
  /-- The frames of the latest sending, with the lane each left on (0 L0, 1 L1, 2 UL). -/
  tx : List (Nat × List Byte)
  staleNew : Nat
  staleFirst : Nat
  staleAt : Nat
  bulk : List (Nat × Byte)
  deriving DecidableEq, Repr, Inhabited

/-! ### Management (chapter 20) -/

/-- An item of an event queue (R726). -/
structure QItem where
  source : Nat
  event : Nat
  evSeq : Nat
  ns : Nat
  sec : Nat
  payload : List Byte
  qseq : Nat
  deriving DecidableEq, Repr, Inhabited

/-- The event queues of one half (R724): items by queue, oldest first, the items ever entered (R726), and the shared read latch. -/
structure EventQueues where
  items : List (Nat × List QItem)
  next : List (Nat × Nat)
  latch : List Byte
  latchPos : Nat
  /-- Session queues (8 to 263) in use or configured, beside queues 0 to 7. -/
  active : List Nat
  deriving DecidableEq, Repr, Inhabited

/-- An open session (R713, R714): role 0 Viewer, 1 Operator, 2 Engineer, 3 Warden; order of opening; tick of the latest
request, and the requests of the current second with its first tick. -/
structure Session where
  index : Nat
  role : Nat
  order : Nat
  reqs : Nat
  since : Nat
  deriving DecidableEq, Repr, Inhabited

/-- An elevated accessor (R717, R718): 0xFF the host port, k session k; Warden slot. -/
structure Elevation where
  acc : Nat
  slot : Nat
  deriving DecidableEq, Repr, Inhabited

/-- A challenge waiting for its RESPOND (R717): both nonces in words, and the tick of the signature. -/
structure Challenge where
  acc : Nat
  nonce : List Nat
  cnonce : List Nat
  tick : Nat
  deriving DecidableEq, Repr, Inhabited

/-- One member of a GOOSE frame (R710, R711): type 0 BOOLEAN, 1 INT32, 2 FLOAT32, 3 Quality, 4 Timestamp; its value as
the frame carries it (a number, the bits of the float, the bit string, ns), a Timestamp's change not counting. -/
structure GooseMember where
  type : Nat
  value : Nat
  deriving DecidableEq, Repr, Inhabited

/-- The latest frame of a publish control block (R710): counters, present retransmission interval in ms, simulation bit,
timeAllowedtoLive in ms, members. -/
structure GoosePub where
  stNum : Nat
  sqNum : Nat
  interval : Nat
  sim : Bool
  ttl : Nat
  members : List GooseMember
  deriving DecidableEq, Repr, Inhabited

/-- The EMP status of the latest answer to a session (R714 to R716). -/
inductive EmpStatus
  | none | ok | busy | denied | pool | refused
  deriving DecidableEq, Repr, Inhabited

/-- One exported COMTRADE channel (R564): number of the entry in its channel table, part 0 whole, 1 _RE, 2 _IM, whether
the scale is 1 ÷ 32,768 (else 2^-23), values, and the VALID status beside each. -/
structure ExportChannel where
  entry : Nat
  part : Nat
  fast : Bool
  values : List Int
  valid : List Bool
  deriving DecidableEq, Repr, Inhabited

/-- One exported COMTRADE record (R564): data file type BINARY (else BINARY32), nrates and sample period in ps, time
stamps in ns from T_FIRST, ns resolution, UTC start and trigger in ns, whether tmq is 0 (else F), first TRIG sample. -/
structure ExportRecord where
  area : Nat
  seq : Nat
  binary : Bool
  nrates : Nat
  period : Nat
  stamps : List Nat
  nanos : Bool
  start : Int
  trig : Int
  tmqGood : Bool
  trigAt : Nat
  header : List Byte
  channels : List ExportChannel
  deriving DecidableEq, Repr, Inhabited

/-- Management of one half (R705 to R731) beside its registers. -/
structure Mgmt where
  sessions : List Session
  opened : Nat
  /-- The EMP status of the latest answer, and the data of a session's read. -/
  emp : EmpStatus
  empData : Nat
  elevs : List Elevation
  /-- The challenges whose nonce is unused, by accessor, and the draws made. -/
  chals : List Challenge
  draws : Nat
  /-- AUTH_FAIL results: accessor and tick, newest first; accessors that get BUSY, with the tick of the third. -/
  fails : List (Nat × Nat)
  locked : List (Nat × Nat)
  /-- Key words staged by SEC_KEY_DATA. -/
  staged : List (Nat × Nat)
  /-- GOOSE tables: word WORD of entry ENTRY of table TABLE at TABLE · 2^24 + ENTRY · 2^8 + WORD (R734). -/
  tables : List (Nat × Nat)
  gpubs : List (Nat × GoosePub)
  /-- stNum and sqNum of the latest accepted frame of each subscription (R712). -/
  gsubs : List (Nat × (Nat × Nat))
  /-- Ticks of the management-core restarts (R706). -/
  restarts : List Nat
  /-- Consecutive windows above 97 % (R727). -/
  highRuns : Nat
  /-- The response that the next host frame collects and the one the latest frame collected: STATUS, ADDR, DATA (R721);
  none before the first frame after half reset. -/
  resp : Option (Nat × Nat × Nat)
  miso : Nat × Nat × Nat
  /-- The value that the latest register read returned. -/
  bus : Nat
  /-- Expiry of the debug token in operating hours (R731). -/
  expiry : Nat
  /-- Gratuitous ARP messages sent for the service address (R709). -/
  arps : Nat
  /-- The latest peer-delay answer: domain and two-step flag (R646). -/
  ptpAnswer : Option (Nat × Bool)
  exported : Option ExportRecord
  deriving DecidableEq, Repr, Inhabited

/-- The trace unit of one half (R728 to R730): packets held, oldest first, with their count in bytes. -/
structure Trace where
  buffer : List (List Byte)
  used : Nat
  /-- Packets dropped that no OVERFLOW packet has reported (R728). -/
  overflow : Nat
  /-- Nibbles of the oldest packet already sent, and packets sent since the latest SYNC (R728). -/
  pos : Nat
  sent : Nat
  /-- The port: level of TRC_STB and nibble on TRC_D (R728, R729). -/
  stb : Bool
  data : Nat
  deriving DecidableEq, Repr, Inhabited

end Sys2Proof.Machine
end

