-- ==== Sys2Proof/Machine/Factory.lean ====
section
/-!
DEFINITION. The contents of the persistent store as delivered: the factory safe-idle image in slot 2 (R108, R767) and
nothing else.
-/

namespace Sys2Proof.Machine

open Sys2Proof (Byte)

/-- The header (R97): version 1.0, KIND 2, TOTAL_LEN 0x140, SIG_OFFSET 0xC0, one section, no capabilities.  SERIAL,
BUILD_TIME and TOOL_VER are 0 (log entry 31). -/
def factoryHeader : List Byte :=
  [0x50, 0x46, 0x49, 0x4D, 1, 0, 2, 0, 0x40, 1, 0, 0, 0xC0, 0, 0, 0, 1, 0, 0, 0] ++ List.replicate 44 0

/-- The section table (R98): SYSTEM at 0x80, 64 bytes, with its CRC-32. -/
def factoryTable : List Byte :=
  [1, 0, 1, 0, 0x80, 0, 0, 0, 0x40, 0, 0, 0, 0xB9, 0x4A, 0x0D, 0x45] ++ List.replicate 48 0

/-- The SYSTEM record of R767. -/
def factorySystem : List Byte :=
  [0, 64, 0x88, 0x13] ++ List.replicate 20 0xFF ++ [0, 0, 0x2C, 1] ++ List.replicate 36 0

/-- The signature block (R101): the root key; key tag, r and s are not given (log entry 31). -/
def factorySignature : List Byte := [0x50, 0x53, 0x49, 0x47, 0xFF, 1] ++ List.replicate 122 0

/-- Bytes from address `a` upward, without those equal to 0. -/
def listed : Nat → List Byte → List (Nat × Byte)
  | _, [] => []
  | a, b :: t => if b = 0 then listed (a + 1) t else (a, b) :: listed (a + 1) t

/-- Slot 2 as delivered. -/
def factorySlot : ImgSlot :=
  { bytes := listed 0 (factoryHeader ++ factoryTable ++ factorySystem ++ factorySignature), len := 0x140, mark := true }

/-- The store as delivered. -/
def factoryStore : Store := { (default : Store) with slot2 := factorySlot }

end Sys2Proof.Machine
end

