-- ==== Sys2Proof/Machine/Parts2.lean ====
section
/-!
DEFINITION. The parts of the state that no register shows, for the measuring and deciding chapters: inputs,
timing, filter chains, fast and general functions, arc light, outputs, field I/O and the scheme logic.
-/

namespace Sys2Proof.Machine

/-- One fast sample as a fast function reads it: corrected value, VALID and OVR (R138, R275). -/
structure Smp where
  y : Int
  valid : Bool
  ovr : Bool
  deriving DecidableEq, Repr, Inhabited

/-- One fast channel: its latest samples, newest first (33 for SPAN and PRE), and the run of R137. -/
structure FastChan where
  hist : List Smp
  run : Nat
  code : Nat
  deriving DecidableEq, Repr, Inhabited

/-- One fast function (R278 to R285).  `conf` is its own OPERATE condition, `op` its output; `sig` is 0 idle,
1 window open, 2 classification held; class 0 none, 1 FAULT, 2 INRUSH, 3 UNKNOWN. -/
structure FastFn where
  pu : Bool
  op : Bool
  conf : Bool
  n : Nat
  drop : Nat
  start : Nat
  seen : Bool
  valid : Bool
  ovr : Bool
  rstate : Nat
  rsince : Nat
  last : Nat
  sig : Nat
  win : List Smp
  cls : Nat
  cause : Nat
  tpl1 : Nat
  tpl2 : Nat
  s1 : Int
  s2 : Int
  deriving DecidableEq, Repr, Inhabited

/-- One filter chain (R229 to R257). -/
structure ChainRun where
  /-- Pending response, and why: 1 command, 2 revert, 3 LAYUP (R251 to R253); the mode left by a revert. -/
  pend : Option Nat
  pendKind : Nat
  pendMode : Nat
  flushed : Bool
  /-- Outputs, and ticks of the two time parts, until SETTLING ends (R244). -/
  settleOut : Nat
  settleBase : Nat
  settleCond : Nat
  /-- The same of the substitution after an injection test (R145, R245). -/
  subOut : Nat
  subBase : Nat
  subCond : Nat
  re : Int
  im : Int
  q : Nat
  inst : Nat
  /-- Delivered outputs of the last tracked cycle, newest first: tick, values, quality (R146). -/
  hist : List (Nat × Int × Int × Nat)
  pk : Nat
  pkAt : Nat
  pkQ : Nat
  pkReset : Bool
  rmsWin : List (Nat × Nat)
  rmsNow : Nat
  rmsQ : Nat
  env : Nat
  envQ : Nat
  outs : Nat
  /-- For each quality bit, the output count at which it was last seen, plus 1 (R257). -/
  bitAt : List (Nat × Nat)
  deriving DecidableEq, Repr, Inhabited

/-- A DIFF instant that waits for its streams: local sample instant, local values, tick of its output. -/
structure DiffWait where
  inst : Nat
  locals : List (Nat × Int × Nat)
  deriving DecidableEq, Repr, Inhabited

/-- One general function (R313 to R329, R351 to R366, R393). -/
structure GenFn where
  pu : Bool
  op : Bool
  valid : Bool
  qual : Nat
  started : Bool
  /-- Inputs arrived since the last evaluation, as a mask. -/
  arrived : Nat
  frozen : Bool
  frozenAt : Nat
  start : Nat
  input : Nat
  qty : Int
  qtyQ : Nat
  /-- Elapsed ns of the delay, and the sample instant of the last usable evaluation (0: none). -/
  elapsed : Nat
  lastInst : Nat
  /-- Integration state in units of 2^-32 (R320), and whether a definite reset runs (R321, R323). -/
  g : Nat
  resetting : Bool
  /-- θ in units of 2^-30 (R324), and whether it has taken INIT. -/
  theta : Nat
  thetaSet : Bool
  conf : Nat
  rstate : Nat
  rsince : Nat
  last : Nat
  /-- Decided direction 0 undecided, 1 forward, 2 reverse; the candidate and its first instant (R353). -/
  dir : Nat
  cand : Nat
  candAt : Nat
  /-- Voltage phasors of the last two tracked cycles, newest first; memory voltage and instants left (R352). -/
  volts : List (Int × Int)
  mem : Option (Int × Int)
  memLeft : Nat
  memCycles : Nat
  angle : Int
  vpol : Nat
  /-- Scaled inputs of the last instants of a DIFF, newest first (R360). -/
  win : List (List Int)
  id : Nat
  ir : Nat
  h2 : Nat
  den : Nat
  restrained : Bool
  unrestrained : Bool
  h2block : Bool
  missing : Bool
  /-- A DIFF with streams sees its own time base, or a sender's, unsynchronised (R357, R373). -/
  unsyncLocal : Bool
  unsyncSender : Bool
  waits : List DiffWait
  /-- Stream samples held: input, sender instant, word, sender synchronised. -/
  held : List (Nat × Nat × Nat × Bool)
  /-- Missing and present runs, and whether lost, per stream input (R359). -/
  missRun : List (Nat × Nat)
  goodRun : List (Nat × Nat)
  lost : List (Nat × Nat)
  /-- BF: latched start, current check, instant of the last sample above the check's dropout (R364). -/
  startOn : Bool
  check : Bool
  checkAt : Nat
  /-- Boundary phase in 0.01° plus 36,000, and frequencies with cycle lengths, newest first (R327, R329). -/
  phase : Option Int
  freqs : List (Nat × Nat)
  /-- A SUBSTITUTED sample reached it during TEST (R70). -/
  subst : Bool
  /-- ARC: light of the mask since the previous evaluation (R393). -/
  light : Bool
  deriving DecidableEq, Repr, Inhabited

/-- An injection test of a channel (R143 to R149): step 1 running, 2 points measured, substitution on. -/
structure InjTest where
  code : Nat
  step : Nat
  valid : Bool
  aborted : Bool
  failed : Bool
  dev : Int
  point : Nat
  /-- Housekeeping conversions still substituted after the points (R145). -/
  conv : Nat
  deriving DecidableEq, Repr, Inhabited

/-- The running injection set of a half (R247): set, S_I as a tick and a time, chains still injected. -/
structure InjRun where
  set : Nat
  tick : Nat
  time : Nat
  chains : List Nat
  deriving DecidableEq, Repr, Inhabited

/-- The front end of one half beside its registers (chapters 4 to 6). -/
structure FrontEnd where
  /-- The reference buffer settles (R132, R133), and out-of and in-tolerance scans in a row. -/
  settling : Bool
  refAt : Nat
  refBad : Nat
  refGood : Nat
  fast : List (Nat × FastChan)
  /-- Latest corrected housekeeping results, and conversions beyond a limit in a row (R161). -/
  hk : List (Nat × Int)
  hkOver : List (Nat × Nat)
  test : Option InjTest
  /-- Deferrals of the channel whose slot fell due (R144), and channels waiting for a retest. -/
  defers : List (Nat × Nat)
  /-- External housekeeping channels FAILED, by channel (R148, R162). -/
  hkFailed : Nat
  retests : List Nat
  /-- Channels the partner is testing (R144). -/
  partnerTests : List Nat
  /-- Tick + 1 of the latest output at or above LEVEL, per channel code (R144). -/
  highAt : List (Nat × Nat)
  /-- Tick + 1 at which the first condition of a bitstream input appeared (R154). -/
  bsiAt : List (Nat × Nat)
  /-- Ticks + 1 of PLL unlocks: 0 fast, 1 modulator (R202). -/
  pllAt : List (Nat × Nat)
  /-- Calibration under way: 0 none, 1 boot, 2 CAL (R213, R216); and whether it has ever ended. -/
  cal : Nat
  /-- Tracker (R203 to R206): loaded, f_T in µHz, accumulator and the tick it was taken at. -/
  tracking : Bool
  fT : Nat
  acc : Nat
  accTick : Nat
  /-- Offset of f_T that removes the remaining phase error, in µHz (R205). -/
  fOff : Int
  /-- Good measurements in a row during fallback, boundaries within limits, tick of fallback entry. -/
  goodFm : Nat
  inLimit : Nat
  fallAt : Nat
  lastFm : Nat
  /-- Tick + 1 of the latest tracked-cycle boundary and the length of the last cycle in ns. -/
  boundary : Nat
  cycleNs : Nat
  /-- N in force for SYNC_OUT (R208). -/
  syncN : Nat
  chains : List (Nat × ChainRun)
  /-- Injection store: set * 256 + word (R246). -/
  injStore : List (Nat × Nat)
  inj : Option InjRun
  deriving DecidableEq, Repr, Inhabited

/-- An arc element of a half (R388): stretch of light and of the two current functions, 1 while extended. -/
structure ArcElem where
  pu : Bool
  op : Bool
  start : Nat
  lightExt : Bool
  qExt : Bool
  aExt : Bool
  bExt : Bool
  fault : Bool
  deriving DecidableEq, Repr, Inhabited

/-- Spare-tile rotation of one kind of tile (R331 to R335). -/
structure Rotation where
  /-- Tile of each configured function; tiles idle, longest first; tiles failed. -/
  host : List (Nat × Nat)
  idle : List Nat
  /-- A handover under way: function, spare, whether this is the repeat after a disagreement. -/
  now : Option (Nat × Nat × Bool)
  /-- Tiles under known-answer test, and why: 0 freed, 1 after a first disagreement. -/
  kat : List (Nat × Nat)
  /-- Functions covered in the pass, the next function, ticks at which the pass began. -/
  covered : Nat
  next : Nat
  passAt : Nat
  late : Bool
  noSpare : Bool
  disabled : Bool
  deriving DecidableEq, Repr, Inhabited

/-- The deciding part of one half beside its registers (chapters 7 to 11). -/
structure Decide where
  fastFn : List (Nat × FastFn)
  gen : List (Nat × GenFn)
  arc : List (Nat × ArcElem)
  rotFast : Rotation
  rotGen : Rotation
  /-- Once-per-second Ledger entries by source ID (R309): tick + 1 of the last entry, edges since. -/
  once : List (Nat × (Nat × Nat))
  /-- Triggers on their way to the recorder (R409, R547): areas, kind, index, instant. -/
  due : List (Nat × Nat × Nat × Nat)
  deriving DecidableEq, Repr, Inhabited

/-- One light receiver of the field die beside its registers (R376 to R386). -/
structure ArcRx where
  started : Bool
  frozenTill : Nat
  /-- A code of this channel runs: 0 none, 1 scheduled, 2 retry; and whether the channel is in back-off. -/
  code : Nat
  backoff : Bool
  deriving DecidableEq, Repr, Inhabited

/-- One digital input beside its registers (R431, R433): windows in a row at the other level, start of the
first, windows in a row below 0.5 mA or at 1.0 mA. -/
structure DiRun where
  n : Nat
  first : Nat
  wbLow : Nat
  wbHigh : Nat
  deriving DecidableEq, Repr, Inhabited

/-- Outputs and inputs of the field die beside their registers (chapters 10 to 12). -/
structure FieldIo where
  /-- Applied settings of slots 240 to 247 (slot * 16 + word), and whether each kind was loaded (R395, R445). -/
  applied : List (Nat × Nat)
  arcLoaded : Bool
  ioLoaded : Bool
  rx : List (Nat × ArcRx)
  di : List (Nat × DiRun)
  /-- The image's OUTPUTS class, safe value and timeout in ms per DO: class 0 S, 1 H, 2 trip (R410, R411). -/
  doClass : List (Nat × Nat)
  doSafe : Nat
  doTimeout : List (Nat × Nat)
  /-- Levels of the vote inputs as last signalled, and ticks + 1 of absence of each half (R412, R413). -/
  voteA : Nat
  voteB : Nat
  doA : Nat
  doB : Nat
  degradedA : Nat
  degradedB : Nat
  /-- Tick + 1 at which a DO last turned off (R418). -/
  offAt : List (Nat × Nat)
  /-- Tick + 1 of the last successful thermal retry of a DO, and of the last accepted refresh (R436, R449). -/
  otAt : List (Nat × Nat)
  refreshAt : Nat
  /-- Tick + 1 of an input's last change of VALID, and its changes on their way to the input images and event
  queues: input, halves still to take it, tick, timestamp, sequence number, new state (R431). -/
  invAt : List (Nat × Nat)
  diWait : List (Nat × Nat × Nat × Nat × Nat × Bool)
  /-- Checks in a row that found OPEN_OFF, thermal retries pending (R436). -/
  openOff : List (Nat × Nat)
  retry : List (Nat × Nat)
  /-- Supply measurements in a row in a new band, and that band (R427). -/
  supN : List (Nat × Nat)
  supBand : List (Nat × Nat)
  /-- Timeout timers stopped during a switchover (R442). -/
  tmoStopped : Bool
  /-- Leader-class lockout in force for the outputs (R416, R508). -/
  lclOut : Bool
  /-- Tick + 1 of the last SYNC_OUT pulse at the balls (R210). -/
  syncAt : Nat
  deriving DecidableEq, Repr, Inhabited

/-- The scheme logic of one half (chapter 13).  `mem` is the logic window of R455 by word offset. -/
structure Logic where
  mem : List (Nat × Nat)
  /-- The published image and what the next boundary publishes, words of Q, M and P by window offset. -/
  pub : List (Nat × Nat)
  next : List (Nat × Nat)
  /-- Bits written since release: priority * 2^20 + word offset, mask (R474). -/
  written : List (Nat × Nat)
  /-- Task states: 0 idle, 1 ready, 2 running, 3 pre-empted; release cycle, release tick, releases (R470, R494). -/
  tasks : List (Nat × Nat)
  relCycle : List (Nat × Nat)
  relTick : List (Nat × Nat)
  firstDone : List (Nat × Nat)
  /-- Last sampled values of the event tasks' signals, by task (R473), and EVENT_MISSED bookkeeping. -/
  signal : List (Nat × Nat)
  missed : List (Nat × (Nat × Nat))
  /-- LGE_CYCLE of S0, whether tasks release, restart kind waiting (0 none, 1 warm, 2 cold), its start cycle. -/
  s0 : Nat
  live : Bool
  restart : Nat
  startAt : Nat
  retDirty : Bool
  /-- ENDs since the logic started or was reloaded (R511). -/
  ends : Nat
  /-- ENDs not compared yet, oldest first: task, release cycle, signature; LS_END messages not compared yet. -/
  sigs : List (Nat × Nat × Nat)
  got : Nat
  /-- LS_IMAGE messages on their way (R509): cycle, words of I, B and BQ, tasks released. -/
  images : List (Nat × List (Nat × Nat) × List Nat)
  /-- Pending-copy words on their way (R119); the sweep's position + 1 and its message: END, words (R512). -/
  copySent : List (Nat × Nat)
  sweep : Nat
  sweepMsg : Option (Nat × List (Nat × Nat))
  /-- This half runs its own scheduler: the acting leader does, a standby replays (R509, R518). -/
  own : Bool
  /-- Timers last scanned by TONR (R483): record index, 1. -/
  tonr : List (Nat × Nat)
  /-- The image latched at each task's release: words of I, then B at 0x800 and BQ at 0x1000 (R474). -/
  imgs : List (Nat × List (Nat × Nat))
  /-- Live words still to be copied to the standby after a change of the live set (R119). -/
  copyPend : List Nat
  /-- How many there were, and tick + 1 of the group switch that made them. -/
  copyTotal : Nat
  copyAt : Nat
  deriving DecidableEq, Repr, Inhabited

/-- What one half keeps about its partner, the cross-link and the Gavel beside its registers (chapter 14). -/
structure GavelRun where
  /-- Tick + 1 and time of the partner's latest heartbeat, and whether one has come since this half's last tick. -/
  hbAt : Nat
  hbTime : Nat
  hbSeen : Bool
  /-- Tick + 1 at which probing began, whether a probe was answered, whether the partner is declared lost. -/
  probeAt : Nat
  replied : Bool
  lost : Bool
  /-- Ticks of the CRC and code errors of the last second; failed transmissions of the waiting message. -/
  errs : List Nat
  tries : Nat
  /-- A TAKEOVER request waits for the grant (R528). -/
  takeover : Bool
  /-- This half has withdrawn its presence (R516). -/
  withdrawn : Bool
  /-- Own and partner's self-test results: 0 none, 1 pass, 2 fail (R513). -/
  ownTest : Nat
  partnerTest : Nat
  /-- A SELFTEST_RESULT on its way to the partner. -/
  testMsg : Nat
  /-- Ticks of divergence events and of latent divergences; those not yet written, tick + 1 of the last entry. -/
  diverge : List Nat
  latent : List Nat
  latentNew : Nat
  latentAt : Nat
  /-- Tick + 1 since which this half has not been in lockstep with its partner present (R523). -/
  outAt : Nat
  /-- A planned handover this half leads: 0 none, else the cause of GAV_LAST (R520); a RETURN_REQ is on its way. -/
  handover : Nat
  returning : Bool
  /-- No reload until half reset: its self-test failed while it was the standby (R513). -/
  noReload : Bool
  /-- Ticks of reversions (R521), and tick + 1 at which the hold-off began. -/
  reversions : List Nat
  holdAt : Nat
  deriving DecidableEq, Repr, Inhabited

/-- The leader rounds of the module (R505 to R508). -/
structure GavelRounds where
  /-- Tick + 1 of the no-leader instant of the round that runs, and the ticks of failed rounds. -/
  since : Nat
  fails : List Nat
  /-- Tick + 1 at which the last leader stopped acting (R517), and why the next one comes to act. -/
  gapAt : Nat
  cause : Nat
  /-- Some half has reached boot step 10 in this module boot. -/
  armed : Bool
  deriving DecidableEq, Repr, Inhabited

end Sys2Proof.Machine
end

