-- ==== Sys2Proof/Machine/State.lean ====
section
/-!
DEFINITION. The state of the module: one register map for both halves and the field die, the parts no
register shows, and the queue of waiting commands.
-/

namespace Sys2Proof.Machine

open Sys2Proof (Word Byte)

/-- The block of a register key (R47): its position in the list of 64 KiB blocks. -/
def keyBlock (key : Nat) : Nat := key % 0x100000000 / 0x10000

/-- The word that the non-reserved fields of a descriptor make from their reset values. -/
def fieldsReset : List FieldDesc → Nat
  | [] => 0
  | f :: t => f.reset * 2 ^ f.lo + fieldsReset t

/-- Does register descriptor `d` hold block offset `off`? -/
def RegDesc.has (d : RegDesc) (off : Nat) : Bool :=
  decide (d.off ≤ off) &&
    (if d.stride = 0 then decide (off = d.off)
     else decide ((off - d.off) % d.stride = 0) && decide ((off - d.off) / d.stride < d.count))

/-- The descriptor of a privileged-view address below the windows; `none` where no register is mapped. -/
def findReg (addr : Nat) : Option RegDesc :=
  (blockRegs (addr % 0x100000000 / 0x10000)).find? fun d => d.has (addr % 0x10000)

/-- What an unlisted key of the register map reads as: the reset value of its register's fields. -/
def regDefault (key : Nat) : Word :=
  match findReg key with
  | some d => BitVec.ofNat 32 (fieldsReset d.fields)
  | none => 0

/-- Registers held once for both halves: the field die's blocks and parts of blocks (R51 to R53), and
SYS_LOCKOUT, whose latch is the field die's (R76). -/
def sharedKey (key : Nat) : Bool :=
  let a := key % 0x100000000
  let b := a / 0x10000
  let o := a % 0x10000
  b = 1 || (b = 12 && o ≠ 0x40) || b = 13 || (b = 11 && 0x8000 ≤ o) || (b = 3 && o < 0x80) || a = 0x2C

/-- Distance between the register maps of the two halves, and of the field die, inside the one map. -/
def ownerStride : Nat := 0x1000000000000

/-- The key of a half's register: the field die's copy for a shared one. -/
def regKey (h : HalfId) (key : Nat) : Nat :=
  if sharedKey key then key + 2 * ownerStride
  else match h with
    | .a => key
    | .b => key + ownerStride

/-- The reset value behind a key of the one map. -/
def mapDefault (k : Nat) : Word := regDefault (k % ownerStride)

/-- Why a run may stop: no row of this model stops in a fault.  The constructor is raised by nothing; it
keeps the type non-empty (safe). -/
inductive Fault
  | none
  deriving DecidableEq, Repr

/-- Why a command has no meaning. -/
inductive Refusal
  /-- Raised by an arm of exec that has no meaning yet; safe: the run stops. -/
  | notModelled (mnemonic : String)
  deriving DecidableEq, Repr

/-- The four parts of R1. -/
inductive Variant
  | pk9600 | pk9610 | pk9620 | pk9630
  deriving DecidableEq, Repr, Inhabited

/-- The field die beside its registers. -/
structure FieldDie where
  time : TimeGen
  /-- Supply present, and rails in regulation (R72, R76). -/
  supply : Bool
  rails : Bool
  bootSel : Nat
  /-- Operating time in ms at tick 0 of this power cycle (R621). -/
  opBase : Nat
  /-- GAVEL_MON[1:0] (R502). -/
  mon : Nat
  /-- Event sequence numbers of the field die's sources, by source ID (R658). -/
  evSeq : List (Nat × Nat)
  io : FieldIo
  gavel : GavelRounds
  deriving DecidableEq, Repr, Inhabited

/-- One half beside its registers. -/
structure Half where
  mode : ModeState
  image : Option Image
  groups : List (Nat × SetGroup)
  tally : List (Nat × Nat)
  /-- Event sequence numbers of this half's sources, by source ID (R658). -/
  evSeq : List (Nat × Nat)
  port : StorePort
  stk : Stocktake
  acq : Recorder
  crt : CrateRun
  ard : Arcade
  evq : EventQueues
  mgmt : Mgmt
  trace : Trace
  fe : FrontEnd
  dec : Decide
  lge : Logic
  gav : GavelRun
  deriving DecidableEq, Repr, Inhabited

/-- The module: variant, one register map, tick count, free-value count, the shared dies, the two halves,
and the queue of waiting commands, first in first out. -/
structure State where
  variant : Variant
  regs : List (Nat × Word)
  ticks : Nat
  free : Nat
  field : FieldDie
  store : Store
  halfA : Half
  halfB : Half
  pending : List Instr
  deriving DecidableEq, Repr

/-- A half right after half reset (R18): held in reset, with supply. -/
def Half.reset : Half :=
  { (default : Half) with mode := { (default : ModeState) with powered := true, inReset := true } }

/-- The field die right after power-on or module reset (R72 step 1): GAVEL_MON reads 00. -/
def FieldDie.reset : FieldDie := { (default : FieldDie) with supply := true }

/-- The module right after reset (R72 step 1): a PK9600 as delivered, both halves held in reset, no command waiting
(log entries 4, 5). -/
def State.reset : State :=
  { variant := .pk9600, regs := [], ticks := 0, free := 0, field := FieldDie.reset, store := factoryStore
    halfA := Half.reset, halfB := Half.reset, pending := [] }

end Sys2Proof.Machine
end

