-- ==== Sys2Proof/Machine/Ops.lean ====
section
/-!
DEFINITION. The named operations that every chapter shares: halves, register fields, times, byte strings,
result registers, Stocktake counters, event numbers, event queues, the Ledger, the trace buffer and Tally.
-/

namespace Sys2Proof.Machine

open Sys2Proof (Byte Word HalfId)

/-! ### Halves -/

/-- The other half. -/
def other : HalfId → HalfId
  | .a => .b
  | .b => .a

/-- The number of a half: 0 for A, 1 for B. -/
def halfNo : HalfId → Nat
  | .a => 0
  | .b => 1

/-- The hidden part of half `h`. -/
def half (s : State) : HalfId → Half
  | .a => s.halfA
  | .b => s.halfB

/-- Replace the hidden part of half `h`. -/
def setHalf (s : State) (h : HalfId) (x : Half) : State :=
  match h with
  | .a => { s with halfA := x }
  | .b => { s with halfB := x }

/-- Does the variant contain Half B (R1)? -/
def twoHalves (s : State) : Bool := s.variant != .pk9620

/-- Is half `h` fitted in the variant (R1, R10)? -/
def present (s : State) (h : HalfId) : Bool := h == .a || twoHalves s

/-- Does the variant contain the arc receivers (R1)? -/
def hasArc (s : State) : Bool := s.variant == .pk9600 || s.variant == .pk9620

/-- Does the variant contain Crate (R1)? -/
def hasCrate (s : State) : Bool := s.variant != .pk9630

/-- The channel counts of R1: fast, precision, bitstream. -/
def fastCount (s : State) : Nat := if s.variant = .pk9630 then 8 else 24
def precCount (s : State) : Nat := if s.variant = .pk9630 then 24 else 48
def bsiCount (s : State) : Nat := if s.variant = .pk9630 then 8 else 32

/-! ### Bits and numbers -/

/-- Bit `i` of `v`. -/
def bit (v i : Nat) : Bool := v / 2 ^ i % 2 == 1

/-- `v` with bit `i` set to `b`. -/
def putBit (v i : Nat) (b : Bool) : Nat :=
  if bit v i == b then v else if b then v + 2 ^ i else v - 2 ^ i

/-- Bits `hi:lo` of `v`. -/
def bits (v hi lo : Nat) : Nat := v / 2 ^ lo % 2 ^ (hi + 1 - lo)

/-- 1 for true, 0 for false. -/
def b2n (b : Bool) : Nat := if b then 1 else 0

/-- The signed reading of a `w`-bit number. -/
def toSigned (w v : Nat) : Int :=
  if v % 2 ^ w < 2 ^ (w - 1) then (v % 2 ^ w : Nat) else (v % 2 ^ w : Nat) - (2 ^ w : Nat)

/-- The `w`-bit two's-complement pattern of a number. -/
def ofSigned (w : Nat) (i : Int) : Nat := (i % (2 ^ w : Nat)).toNat

/-- A number limited to the range of a signed `w`-bit field. -/
def satSigned (w : Nat) (i : Int) : Int := max (-(2 ^ (w - 1) : Nat)) (min i ((2 ^ (w - 1) : Nat) - 1))

/-- Integer square root, rounded down, of numbers below 2^80. -/
def isqrt (n : Nat) : Nat :=
  (List.range 40).foldl (fun r k => let t := r + 2 ^ (39 - k); if t * t ≤ n then t else r) 0

/-- n ÷ d where the spec states no rounding: the quotient where it is whole, else one of the two whole numbers beside
it, which one being free (log entry 22); a division by 0 is free altogether. -/
def quotient (n d : Nat) : Nat :=
  if d = 0 then Config.ratio n d else n / d + (if n % d = 0 then 0 else Config.ratio n d % 2)

/-- The same of a signed dividend. -/
def quotientInt (n : Int) (d : Nat) : Int := if 0 ≤ n then (quotient n.natAbs d : Nat) else -((quotient n.natAbs d : Nat) : Int)

/-- √(n ÷ d) where the spec states no rounding, in the same way. -/
def rootOf (n d : Nat) : Nat :=
  let r := isqrt (n / d)
  if d = 0 then Config.ratio n d else if r * r * d = n then r else r + Config.ratio n d % 2

/-- |X| of a phasor from its real and imaginary part (R238, R312). -/
def magnitude (re im : Int) : Nat := rootOf (re * re + im * im).natAbs 1

/-- `v` held between `a` and `b`. -/
def between (a b v : Nat) : Nat := max (min a b) (min v (max a b))

/-- The angle of a phasor in 0.01°, −17,999 to 18,000 (R351): exact on the axes, in its quadrant elsewhere. -/
def angleOf (re im : Int) : Int :=
  let v := Config.angle re im
  if im = 0 then (if 0 < re then 0 else if re < 0 then 18000 else v)
  else if re = 0 then (if 0 < im then 9000 else -9000)
  else if 0 < im then (if 0 < re then max 0 (min v 9000) else max 9000 (min v 18000))
  else if 0 < re then max (-9000) (min v 0)
  else if v = 18000 then v else max (-17999) (min v (-9000))

/-- Round an integer ratio to nearest, ties away from zero. -/
def roundDiv (a : Int) (b : Nat) : Int :=
  if 0 ≤ a then (2 * a + b) / (2 * b) else -((2 * (-a) + b) / (2 * b))

/-- Ceiling of a ratio of naturals. -/
def ceilDiv (a b : Nat) : Nat := (a + b - 1) / b

/-! ### Register fields -/

/-- The word at a register key, seen from half `h`. -/
def word (s : State) (h : HalfId) (key : Nat) : Nat := (sget mapDefault s.regs (regKey h key)).toNat

/-- Store a word at a register key, seen from half `h`. -/
def setWord (s : State) (h : HalfId) (key v : Nat) : State :=
  { s with regs := sset mapDefault s.regs (regKey h key) (BitVec.ofNat 32 v) }

/-- `w` with the field `hi:lo` replaced by `v`. -/
def putField (w hi lo v : Nat) : Nat :=
  w / 2 ^ (hi + 1) * 2 ^ (hi + 1) + v % 2 ^ (hi + 1 - lo) * 2 ^ lo + w % 2 ^ lo

/-- Read a field. -/
def rd (s : State) (h : HalfId) (f : Fld) : Nat := bits (word s h f.key) f.hi f.lo

/-- Write a field, keeping the rest of its register. -/
def wr (s : State) (h : HalfId) (f : Fld) (v : Nat) : State :=
  setWord s h f.key (putField (word s h f.key) f.hi f.lo v)

/-- Read a one-bit field. -/
def rdB (s : State) (h : HalfId) (f : Fld) : Bool := rd s h f != 0

/-- Write a one-bit field. -/
def wrB (s : State) (h : HalfId) (f : Fld) (b : Bool) : State := wr s h f (b2n b)

/-- Bit `i` of a field. -/
def rdBit (s : State) (h : HalfId) (f : Fld) (i : Nat) : Bool := bit (rd s h f) i

/-- Write bit `i` of a field. -/
def wrBit (s : State) (h : HalfId) (f : Fld) (i : Nat) (b : Bool) : State := wr s h f (putBit (rd s h f) i b)

/-- Largest value of a field. -/
def fmax (f : Fld) : Nat := 2 ^ (f.hi + 1 - f.lo) - 1

/-- Add to a field, saturating. -/
def satAdd (s : State) (h : HalfId) (f : Fld) (n : Nat) : State := wr s h f (min (rd s h f + n) (fmax f))

/-- Add one to a field, modulo its width. -/
def wrapInc (s : State) (h : HalfId) (f : Fld) : State := wr s h f (rd s h f + 1)

/-- Report a command in its result register: SEQ + 1 modulo 256, the command, its status. -/
def result (s : State) (h : HalfId) (seq cmd status : Fld) (c st : Nat) : State :=
  wr (wr (wrapInc s h seq) h cmd c) h status st

/-! ### Bytes -/

/-- The low `n` bytes of `v`, little-endian (R14). -/
def le (n v : Nat) : List Byte := (List.range n).map fun i => BitVec.ofNat 8 (v / 256 ^ i)

/-- A signed number as `n` little-endian bytes, saturating at its width (R768). -/
def leInt (n : Nat) (v : Int) : List Byte := le n (ofSigned (8 * n) (satSigned (8 * n) v))

/-- The number that little-endian bytes hold. -/
def unLe : List Byte → Nat
  | [] => 0
  | b :: t => b.toNat + 256 * unLe t

/-- A 4-byte Ledger field, saturating (R768). -/
def p4 (v : Nat) : List Byte := le 4 (min v 0xFFFFFFFF)

/-- Several 4-byte Ledger fields. -/
def p4s (vs : List Nat) : List Byte := (vs.map p4).flatten

/-- A field that names alternatives of different kinds: the position of the alternative and its value (R768). -/
def pAlt (pos v : Nat) : List Byte := le 4 (pos * 0x1000000 + v % 0x1000000)

/-- One step of a reflected CRC-32 over one bit. -/
def crc32Bit (c : Nat) : Nat := if c % 2 = 1 then (c / 2) ^^^ 0xEDB88320 else c / 2

/-- CRC-32, IEEE 802.3 (R98, R576): reflected, initial and final value 0xFFFF_FFFF. -/
def crc32 (bs : List Byte) : Nat :=
  (bs.foldl (fun c b => (List.range 8).foldl (fun c _ => crc32Bit c) (c ^^^ b.toNat)) 0xFFFFFFFF) ^^^ 0xFFFFFFFF

/-- One step of CRC-8 over one bit, polynomial 0x07. -/
def crc8Bit (c : Nat) : Nat := if c / 128 % 2 = 1 then (c * 2 % 256) ^^^ 0x07 else c * 2 % 256

/-- CRC-8 of Ledger and log records (R620). -/
def crc8 (bs : List Byte) : Nat :=
  bs.foldl (fun c b => (List.range 8).foldl (fun c _ => crc8Bit c) (c ^^^ b.toNat)) 0

/-- One step of CRC-16/CCITT over one bit. -/
def crc16Bit (c : Nat) : Nat := if c / 32768 % 2 = 1 then (c * 2 % 65536) ^^^ 0x1021 else c * 2 % 65536

/-- CRC-16/CCITT of host-port frames (R721). -/
def crc16 (bs : List Byte) : Nat :=
  bs.foldl (fun c b => (List.range 8).foldl (fun c _ => crc16Bit c) (c ^^^ (b.toNat * 256))) 0xFFFF

/-! ### Byte memories -/

/-- Byte `a` of a memory whose unlisted bytes read 0. -/
def byteAt (m : List (Nat × Byte)) (a : Nat) : Byte := sget (fun _ => 0) m a

/-- Store one byte. -/
def putByte (m : List (Nat × Byte)) (a : Nat) (b : Byte) : List (Nat × Byte) := sset (fun _ => 0) m a b

/-- `n` bytes from address `a`. -/
def bytesAt (m : List (Nat × Byte)) (a n : Nat) : List Byte := (List.range n).map fun i => byteAt m (a + i)

/-- Store bytes from address `a` upward. -/
def putBytes (m : List (Nat × Byte)) (a : Nat) : List Byte → List (Nat × Byte)
  | [] => m
  | b :: t => putBytes (putByte m a b) (a + 1) t

/-- A little-endian number of `n` bytes. -/
def numAt (m : List (Nat × Byte)) (a n : Nat) : Nat := unLe (bytesAt m a n)

/-- A number in a sparse table whose unlisted entries are 0. -/
def nget (m : List (Nat × Nat)) (k : Nat) : Nat := sget (fun _ => 0) m k

/-- Store a number in such a table. -/
def nset (m : List (Nat × Nat)) (k v : Nat) : List (Nat × Nat) := sset (fun _ => 0) m k v

/-! ### Time -/

/-- Nanoseconds and 48-bit seconds of a time in ns (R638). -/
def nsOf (t : Nat) : Nat := t % 1000000000
def secOf (t : Nat) : Nat := t / 1000000000 % 2 ^ 48

/-- A time in the 10-byte layout of R552. -/
def timeBytes (t : Nat) : List Byte := le 4 (nsOf t) ++ le 6 (secOf t)

/-- The time value (R638). -/
def now (s : State) : Nat := s.field.time.now

/-- Operating time in ms (R621): 125,000 ticks each, resumed from the store. -/
def opMs (s : State) : Nat := s.field.opBase + s.ticks / 125000

/-! ### Modes and roles -/

/-- The mode code of half `h` (R59). -/
def modeOf (s : State) (h : HalfId) : Nat := rd s h Reg.SYS_MODE_MODE

def mBOOT : Nat := 0
def mCOMMISSION : Nat := 1
def mSERVICE : Nat := 2
def mTEST : Nat := 3
def mLAYUP : Nat := 4
def mLOCKOUT : Nat := 5

/-- The fast converters and the channels outside the subset are off: from step 5 of LAYUP entry to step 1 of
its exit (R81, R83). -/
def asleep (s : State) (h : HalfId) : Bool :=
  modeOf s h == mLAYUP && ((half s h).mode.layupExit == 1 || (half s h).mode.layupExit == 2)

/-- Half `h` acts as leader (R506). -/
def acts (s : State) (h : HalfId) : Bool := rdB s h Reg.GAV_STAT_ACTING

/-- The half that acts as leader, if one does. -/
def leader (s : State) : Option HalfId :=
  if acts s .a then some .a else if acts s .b then some .b else none

/-- Half `h` holds the grant and is named by GAVEL_MON (R53, R502): 01 names A, 10 names B. -/
def holds (s : State) (h : HalfId) : Bool := s.field.mon == (match h with | .a => 1 | .b => 2)

/-- The boot of half `h` is complete (R72). -/
def booted (s : State) (h : HalfId) : Bool := rd s h Reg.SYS_MODE_BOOT_STEP == 11

/-- The half is powered, out of reset and past step 11. -/
def running (s : State) (h : HalfId) : Bool :=
  booted s h && (half s h).mode.powered && !(half s h).mode.inReset

/-- Synchronised time base (R645). -/
def synced (s : State) : Bool := rdB s .a Reg.TIME_STAT_SYNC

/-- Half `h` is fitted, powered and out of reset. -/
def alive (s : State) (h : HalfId) : Bool := present s h && (half s h).mode.powered && !(half s h).mode.inReset

/-- A register access reaches a half only while it is alive (log entry 71). -/
def access (s : State) (h : HalfId) (t : State) : State := if alive s h then t else s

/-- A write to a unit that the variant does not contain is discarded and sets SYS_ERR.ABSENT (R7). -/
def unitAccess (s : State) (h : HalfId) (fitted : Bool) (t : State) : State :=
  access s h (if fitted then t else wrB s h Reg.SYS_ERR_ABSENT true)

/-! ### Free values -/

/-- Take the next free value, limited to `n` values, and count it (log entry 2). -/
def freeVal (s : State) (n : Nat) : Nat × State :=
  (Config.freeValue s.free % max n 1, { s with free := s.free + 1 })

/-! ### Stocktake counters, interrupts, event numbers -/

/-- Add to Stocktake counter `i` of half `h`, modulo 2^32 (R654, R656). -/
def count (s : State) (h : HalfId) (i : Nat) (n : Nat := 1) : State :=
  let x := half s h
  setHalf s h { x with stk := { x.stk with counters := nset x.stk.counters i ((nget x.stk.counters i + n) % 2 ^ 32) } }

/-- Set interrupt cause bit `i` of half `h` (R736). -/
def irq (s : State) (h : HalfId) (i : Nat) : State := wrBit s h Reg.HST_IRQ_STAT_PEND i true

/-- HOST_IRQ_N is low (R723). -/
def hostIrq (s : State) : Bool :=
  [HalfId.a, HalfId.b].any fun h =>
    (List.range 6).any fun i => rdBit s h Reg.HST_IRQ_STAT_PEND i && rdBit s h Reg.HST_IRQ_EN_EN i

/-- The sources held in the field die (R658). -/
def fieldSource (src : Nat) : Bool := src == 2 || (0x100 ≤ src && src < 0x140)

/-- The number of the next event of a source; a source's first event carries 0 (R658, log entry 8). -/
def evNo (s : State) (h : HalfId) (src : Nat) : Nat :=
  if fieldSource src then nget s.field.evSeq src else nget (half s h).evSeq src

/-- Count one event of a source. -/
def evBump (s : State) (h : HalfId) (src : Nat) : State :=
  let n := (evNo s h src + 1) % 2 ^ 32
  if fieldSource src then { s with field := { s.field with evSeq := nset s.field.evSeq src n } }
  else
    let x := half s h
    setHalf s h { x with evSeq := nset x.evSeq src n }

/-! ### Event queues (R724 to R726) -/

/-- Cap of a queue in cells: 0 means 8,192 (R737). -/
def qCap (s : State) (h : HalfId) (q : Nat) : Nat :=
  let c := rd s h (Reg.EVQ_CFG_CAP q)
  if c = 0 then 8192 else c

/-- Items held by a queue. -/
def qItems (s : State) (h : HalfId) (q : Nat) : List QItem := sget (fun _ => []) (half s h).evq.items q

/-- Cells reserved over all queues in use, and cells used beyond a reservation. -/
def qReserved (s : State) (h : HalfId) : Nat :=
  ((List.range 8 ++ (half s h).evq.active).map fun q => rd s h (Reg.EVQ_CFG_RES q)).foldl (· + ·) 0

def qExtra (s : State) (h : HalfId) : Nat :=
  ((half s h).evq.items.map fun e => e.2.length - rd s h (Reg.EVQ_CFG_RES e.1)).foldl (· + ·) 0

/-- Unreserved free cells of the pool of 16,384. -/
def qFree (s : State) (h : HalfId) : Nat := 16384 - qReserved s h - qExtra s h

/-- Enter an item into queue `q` of half `h`, overwriting the oldest where R725 says so;
the first item of a queue carries QSEQ 1 (the worked example of R726). -/
def qPut (s : State) (h : HalfId) (q : Nat) (it : QItem) : State :=
  let its := qItems s h q
  let full := qCap s h q ≤ its.length ||
    (rd s h (Reg.EVQ_CFG_RES q) ≤ its.length && qFree s h == 0)
  let x := half s h
  let n := (nget x.evq.next q + 1) % 2 ^ 32
  let kept := if full then its.drop 1 else its
  let s1 := setHalf s h { x with evq := { x.evq with
    items := sset (fun _ => []) x.evq.items q (kept ++ [{ it with qseq := n }])
    next := nset x.evq.next q n } }
  let s2 := if full then satAdd s1 h (Reg.EVQ_STAT_LOST q) 1 else s1
  if q = 2 then irq s2 h 3 else s2

/-- Enter an item of class `cls` (R737: 0 DI, 1 Ledger, 2 operates, 3 trip groups, 4 segments, 5 Bazaar)
into every queue of half `h` that takes the class: queue 0 takes DI, queue 1 the Ledger, the others what
their FILTER names. -/
def qPush (s : State) (h : HalfId) (cls : Nat) (it : QItem) : State :=
  let s1 := if cls = 0 then qPut s h 0 it else if cls = 1 then qPut s h 1 it else s
  ([2, 3, 4, 5, 6, 7] ++ (half s h).evq.active).foldl
    (fun s q => if rdBit s h (Reg.EVQ_CFG_FILTER q) cls then qPut s h q it else s) s1

/-- The item of an event of a source at the present time. -/
def qItem (s : State) (h : HalfId) (src ev : Nat) (fields : List Byte) : QItem :=
  { source := src, event := ev, evSeq := evNo s h src, ns := nsOf (now s), sec := secOf (now s),
    payload := fields.take 224, qseq := 0 }

/-! ### The Ledger (R618 to R622) -/

/-- The record of an event of source `src` written by half `h` now (R619). -/
def ledgerRec (s : State) (h : HalfId) (src ev : Nat) (fields : List Byte) : LedgerRec :=
  { seq := 0, optime := opMs s, pcycle := s.store.pcycle, source := src, event := ev
    flags := b2n (synced s) + 2 * halfNo h + 4 * b2n (acts s h) + 8 * b2n (fieldSource src)
    ns := nsOf (now s), sec := secOf (now s), evSeq := evNo s h src, fields := fields.take 28, mark := true }

/-- Records that count against the limit of R618 in the last 4 ms (500,000 ticks). -/
def recentAppends (s : State) : List Nat := s.store.recent.filter fun t => s.ticks < t + 500000

/-- The store die appends one record with the next SEQ; 65,536 records are kept (R622). -/
def storeAppend (s : State) (h : HalfId) (r : LedgerRec) : State :=
  let n := if s.store.ledgerSeq + 1 = 2 ^ 32 then 1 else s.store.ledgerSeq + 1
  let r := { r with seq := n }
  let s1 := { s with store := { s.store with ledger := (r :: s.store.ledger).take 65536, ledgerSeq := n } }
  let it : QItem := { source := r.source, event := r.event, evSeq := r.evSeq, ns := r.ns, sec := r.sec,
                      payload := r.fields, qseq := 0 }
  let s2 := qPush (qPush s1 .a 1 it) .b 1 it
  irq (count s2 h 3) h 2

/-- Append under the rate limit of R618, or count a drop in both halves' ports. -/
def limitedAppend (s : State) (h : HalfId) (r : LedgerRec) : State :=
  let rec4 := recentAppends s
  if rec4.length < 32 then
    storeAppend { s with store := { s.store with recent := s.ticks :: rec4 } } h r
  else
    let s1 := { s with store := { s.store with
      dropCount := s.store.dropCount + 1
      dropStart := if s.store.dropCount = 0 then opMs s - 4 else s.store.dropStart } }
    satAdd (satAdd s1 .a Reg.LDG_STAT_DROPPED 1) .b Reg.LDG_STAT_DROPPED 1

/-- Write an event to the Ledger: before boot step 11 the record is held in its half (R618). -/
def ledger (s : State) (h : HalfId) (src ev : Nat) (fields : List Byte) : State :=
  let r := ledgerRec s h src ev fields
  let s1 := evBump s h src
  if booted s h then limitedAppend s1 h r
  else
    let x := half s1 h
    setHalf s1 h { x with port := { x.port with held := x.port.held ++ [r] } }

/-- A half's own event: SOURCE is the half (R620). -/
def ledgerH (s : State) (h : HalfId) (ev : Nat) (fields : List Byte) : State :=
  ledger s h (halfNo h) ev fields

/-- A field-die event: written by the leader under the field die's source, or with no leader by each
running half under its own source (R425, R453). -/
def ledgerFieldSrc (s : State) (src ev : Nat) (fields : List Byte) : State :=
  match leader s with
  | some h => ledger s h src ev fields
  | none =>
    let s1 := if (half s .a).mode.powered && !(half s .a).mode.inReset then ledgerH s .a ev fields else s
    if (half s .b).mode.powered && !(half s .b).mode.inReset && twoHalves s then ledgerH s1 .b ev fields else s1

def ledgerField (s : State) (ev : Nat) (fields : List Byte) : State := ledgerFieldSrc s 2 ev fields

/-! ### Trace (R728) -/

/-- A packet: TYPE, LENGTH and payload. -/
def tracePacket (type : Nat) (payload : List Byte) : List Byte :=
  BitVec.ofNat 8 type :: BitVec.ofNat 8 payload.length :: payload

/-- Hold a packet; a full buffer drops it whole. -/
def tracePut (s : State) (h : HalfId) (pk : List Byte) : State :=
  let x := half s h
  if x.trace.used + pk.length ≤ 65536 then
    setHalf s h { x with trace := { x.trace with buffer := x.trace.buffer ++ [pk], used := x.trace.used + pk.length } }
  else
    satAdd (setHalf s h { x with trace := { x.trace with overflow := x.trace.overflow + 1 } }) h Reg.TRC_STAT_DROPPED 1

/-- Record a packet of an enabled trace source. -/
def trace (s : State) (h : HalfId) (srcBit type : Nat) (payload : List Byte) : State :=
  if rdBit s h Reg.TRC_CFG_SRC srcBit then tracePut s h (tracePacket type payload) else s

/-- A GAP_OPEN or GAP_CLOSE packet, which no source selection suppresses (R729): source 14 the core, 15 the half. -/
def traceGap (s : State) (h : HalfId) (open_ : Bool) (src reason : Nat) : State :=
  let body := timeBytes (now s) ++ le 1 src ++ (if open_ then le 1 reason else [])
  wrBit (tracePut s h (tracePacket (if open_ then 8 else 9) body)) h ⟨Reg.TRC_STAT_GAP.key, 15, 14⟩ (src - 14) open_

/-- A packet of type `type` has left the buffer: SYNC follows every 4,096 packets, and OVERFLOW once space is back. -/
def traceSent (x : Trace) (type : Nat) : Trace :=
  let n := if type = 0x0F then 0 else x.sent + 1
  let y := if n = 4096 then { x with buffer := tracePacket 0x0F [] :: x.buffer, used := x.used + 2, sent := 0 }
    else { x with sent := n }
  if y.overflow ≠ 0 ∧ y.used + 6 ≤ 65536 then
    { y with buffer := y.buffer ++ [tracePacket 0x0A (le 4 y.overflow)], used := y.used + 6, overflow := 0 }
  else y

/-- One toggle of the trace port: the next nibble of the oldest packet, low nibble first; without a packet none. -/
def traceToggle (x : Trace) : Trace :=
  match x.buffer with
  | [] => x
  | pk :: rest =>
    let b := (pk.getD (x.pos / 2) 0).toNat
    let y := { x with stb := !x.stb, data := if x.pos % 2 = 0 then b % 16 else b / 16, pos := x.pos + 1 }
    if y.pos < 2 * pk.length then y
    else traceSent { y with buffer := rest, used := x.used - pk.length, pos := 0 } (pk.headD 0).toNat

/-- The port of a half that runs toggles every second tick, 16 ns apart (R728, log entry 43). -/
def tracePort (s : State) (h : HalfId) : State :=
  let x := half s h
  if alive s h && s.ticks % 2 == 0 then setHalf s h { x with trace := traceToggle x.trace } else s

/-! ### Tally (R523, R524) -/

/-- Rank of a code: good, degraded, absent, failed. -/
def tallyRank (c : Nat) : Nat := if c = 2 then 3 else if c = 3 then 2 else c

/-- The worse of two codes. -/
def tallyMax (a b : Nat) : Nat := if tallyRank a < tallyRank b then b else a

/-- The code of subsystem `k` from the causes present. -/
def tallyCode (causes : List (Nat × Nat)) (k : Nat) : Nat :=
  (causes.filter fun e => e.1 / 65536 == k).foldl (fun c e => tallyMax c e.2) 0

/-- The TLY_SUB field of subsystem `k`. -/
def tlySub (k : Nat) : Fld := ⟨Reg.TLY_SUB_SUB0.key, 2 * k + 1, 2 * k⟩

/-- The overall state that the codes give (R524). -/
def overallOf (s : State) (h : HalfId) : Nat :=
  if [0, 1, 2, 7].any fun k => rd s h (tlySub k) == 2 then 2
  else if (List.range 16).any (fun k => rd s h (tlySub k) == 1 || rd s h (tlySub k) == 2)
      || (twoHalves s && rd s h (tlySub 10) == 3) then 1
  else 0

/-- Recompute the overall state; a change raises interrupt cause 0 (R736). -/
def tallyOverall (s : State) (h : HalfId) : State :=
  let o := overallOf s h
  if o = rd s h Reg.TLY_OVERALL_OVERALL then s
  else irq (wr s h Reg.TLY_OVERALL_OVERALL o) h 0

/-- Report the code of subsystem `k` after the first report; `ev` is the event that caused the change. -/
def tallyUpdate (s : State) (h : HalfId) (k ev : Nat) : State :=
  let new := tallyCode (half s h).tally k
  let old := rd s h (tlySub k)
  if !booted s h || new = old then s
  else
    let s1 := wr s h (tlySub k) new
    let s2 := wr (wr s1 h (Reg.TLY_CAUSE_CODE k) new) h (Reg.TLY_CAUSE_EVENT k) ev
    let s3 := satAdd s2 h Reg.TLY_OVERALL_CHANGES 1
    let s4 := if tallyRank old < tallyRank new then wrBit s3 h Reg.TLY_HIST_WORSE k true else s3
    ledgerH (tallyOverall s4 h) h 0x0E0F (p4s [k, old, new, ev])

/-- Set (code ≠ 0) or remove (code 0) one cause of subsystem `k` of half `h`. -/
def tallySet (s : State) (h : HalfId) (k cause code ev : Nat) : State :=
  let x := half s h
  tallyUpdate (setHalf s h { x with tally := nset x.tally (k * 65536 + cause) code }) h k ev

end Sys2Proof.Machine
end

