-- ==== Sys2Proof/Machine/StoreOps.lean ====
section
/-!
DEFINITION. The persistent store (R602 to R611), its image slots, the Ledger commands (R622 to R624), operating
time (R621) and store health (R625): the operations and the commands of chapter 17 that need no other chapter.
-/

namespace Sys2Proof.Machine

open Sys2Proof (Byte HalfId Accessor)

/-- Change the store die. -/
def modStore (s : State) (f : Store → Store) : State := { s with store := f s.store }

/-- Change a half's store port. -/
def modPort (s : State) (h : HalfId) (f : StorePort → StorePort) : State :=
  let x := half s h
  setHalf s h { x with port := f x.port }

/-- Change a half's mode state. -/
def modMode (s : State) (h : HalfId) (f : ModeState → ModeState) : State :=
  let x := half s h
  setHalf s h { x with mode := f x.mode }

/-- Image slot 0, 1 or 2. -/
def imgSlot (s : State) (n : Nat) : ImgSlot :=
  if n = 0 then s.store.slot0 else if n = 1 then s.store.slot1 else s.store.slot2

/-- Change image slot 0 or 1; slot 2 cannot be written (R108). -/
def modImgSlot (s : State) (n : Nat) (f : ImgSlot → ImgSlot) : State :=
  if n = 0 then modStore s fun t => { t with slot0 := f t.slot0 }
  else if n = 1 then modStore s fun t => { t with slot1 := f t.slot1 }
  else s

/-- A half that is verifying slot `n` learns that it was written (R106, CHANGED). -/
def touchVerify (s : State) (n : Nat) : State :=
  let f := fun m : ModeState => { m with verifyTouched := m.verifyTouched || m.verifying == some n }
  modMode (modMode s .a f) .b f

/-- STORE_ERROR (R605): the partition, the page, read or write, not correctable; UNCORR and, for LDG, SET, RET
and uncorrectable reads, STORE failed until half reset (R625). -/
def storeError (s : State) (h : HalfId) (part page : Nat) (write : Bool) : State :=
  let s1 := wrB s h Reg.PST_STAT_UNCORR true
  let s2 := ledger s1 h 3 0x1105 (p4s [part, page, if write then 2 else 1, 2])
  if write && part == 3 then s2 else tallySet s2 h 8 1 2 0x1105

/-- Write a log record: for its TYPE and INDEX it is then the one in force (R609). -/
def logPut (s : State) (type index : Nat) (hash : List Byte) (value : Nat) : State :=
  modStore s fun t => { t with
    logSeq := t.logSeq + 1
    recordLog := { type := type, index := index, rseq := t.logSeq + 1, hash := hash, value := value }
      :: t.recordLog.filter fun r => !(r.type == type && r.index == index) }

/-- The log record in force for a TYPE and INDEX. -/
def logGet (s : State) (type index : Nat) : Option LogRec :=
  s.store.recordLog.find? fun r => r.type == type && r.index == index

/-- A half's valid retentive sets, newest first. -/
def retUnits (s : State) : HalfId → List RetUnit
  | .a => s.store.retA
  | .b => s.store.retB

/-- A half's committed segments, oldest first. -/
def recUnits (s : State) : HalfId → List RecUnit
  | .a => s.store.recA
  | .b => s.store.recB

/-- The unit of a commit job becomes valid (R604, R607, R608). -/
def unitValid (s : State) (h : HalfId) : CommitJob → State
  | .set u => modStore s fun t => { t with setUnits := u :: t.setUnits.filter fun v => v.group != u.group }
  | .ret u => match h with
    | .a => modStore s fun t => { t with retA := (u :: t.retA).take 2 }
    | .b => modStore s fun t => { t with retB := (u :: t.retB).take 2 }

/-- Replace a half's committed segments. -/
def putRecUnits (s : State) (h : HalfId) (us : List RecUnit) : State :=
  match h with
  | .a => modStore s fun t => { t with recA := us }
  | .b => modStore s fun t => { t with recB := us }

/-- The partition code of R603 of a commit job. -/
def jobPart : CommitJob → Nat
  | .set _ => 1
  | .ret _ => 2

/-- Queue a commit unit at a half's port. -/
def startCommit (s : State) (h : HalfId) (j : CommitJob) : State :=
  modPort s h fun p => { p with commits := p.commits ++ [j] }

/-- The first commit job of a partition at a half's port. -/
def firstJob (s : State) (h : HalfId) (part : Nat) : Option CommitJob :=
  (half s h).port.commits.find? fun j => jobPart j == part

/-- Remove that job. -/
def dropJob (s : State) (h : HalfId) (part : Nat) : State :=
  modPort s h fun p => { p with commits := p.commits.eraseP fun j => jobPart j == part }

/-! ### Image slots (R611, R628) -/

/-- The slot that holds the running image, if one is loaded. -/
def runningSlot (s : State) (h : HalfId) : Option Nat :=
  if (half s h).image.isSome then some (rd s h Reg.SYS_BOOT_SLOT) else none

/-- The slot a pending ACTIVATE names. -/
def activatingSlot (s : State) (h : HalfId) : Option Nat :=
  match (half s h).mode.pend with
  | some p => if p.cmd = 0x100 then some p.slot else none
  | none => none

/-- The status of a PST_IMG_CMD command by the checks of R628. -/
def imgCmdStatus (s : State) (h : HalfId) (code slot : Nat) : Nat :=
  let isOpen := (half s h).port.openSlot.isSome
  if code = 0 ∨ 3 < code ∨ 1 < slot then 0x10
  else if modeOf s h = mBOOT then 0x11
  else if acts s h = false then 0x12
  else if code = 1 ∧ isOpen = true then 0x14
  else if code = 1 ∧ (runningSlot s h = some slot ∨ activatingSlot s h = some slot) then 0x24
  else if code ≠ 1 ∧ isOpen = false then 0x23
  else if code = 2 ∧ rd s h Reg.PST_IMG_PTR_PTR = 0 then 0x23
  else 0x02

/-- OPEN (R611): the slot reads EMPTY and the pointer is 0. -/
def imgOpen (s : State) (h : HalfId) (slot : Nat) : State :=
  let s1 := touchVerify (modImgSlot s slot fun x => { x with mark := false }) slot
  let s2 := wr s1 h Reg.PST_IMG_PTR_PTR 0
  wrB (modPort s2 h fun p => { p with openSlot := some slot }) h Reg.PST_STAT_IMG_OPEN true

/-- Leave the open slot EMPTY: ABORT, power-fail, half reset, loss of leadership (R611). -/
def imgAbort (s : State) (h : HalfId) : State :=
  match (half s h).port.openSlot with
  | none => s
  | some slot =>
    let s1 := touchVerify (modImgSlot s slot fun x => { x with mark := false }) slot
    wrB (modPort s1 h fun p => { p with openSlot := none }) h Reg.PST_STAT_IMG_OPEN false

/-- CLOSE (R611): the valid mark covers the bytes written, and IMG_WRITTEN is written. -/
def imgClose (s : State) (h : HalfId) : State :=
  match (half s h).port.openSlot with
  | none => s
  | some slot =>
    let n := rd s h Reg.PST_IMG_PTR_PTR
    let s1 := touchVerify (modImgSlot s slot fun x => { x with mark := true, len := n }) slot
    let s2 := wrB (modPort s1 h fun p => { p with openSlot := none }) h Reg.PST_STAT_IMG_OPEN false
    ledgerH s2 h 0x1106 (p4s [slot, n])

/-- A write of PST_IMG_CMD. -/
def imgCmd (s : State) (h : HalfId) (code slot : Nat) : State :=
  let st := imgCmdStatus s h code slot
  let s1 := if st = 0x02 then
      (if code = 1 then imgOpen s h slot else if code = 2 then imgClose s h else imgAbort s h)
    else s
  result s1 h Reg.PST_IMG_RESULT_SEQ Reg.PST_IMG_RESULT_CMD Reg.PST_IMG_RESULT_STATUS code st

/-- A write of PST_IMG_DATA (R611, R630): four bytes, little-endian, at the pointer. -/
def imgData (s : State) (h : HalfId) (v : Nat) : State :=
  match (half s h).port.openSlot with
  | none => s
  | some slot =>
    let p := rd s h Reg.PST_IMG_PTR_PTR
    if 8388608 ≤ p then wrB s h Reg.PST_IMG_PTR_OVERFLOW true
    else
      let s1 := touchVerify (modImgSlot s slot fun x => { x with bytes := putBytes x.bytes p (le 4 v) }) slot
      wr s1 h Reg.PST_IMG_PTR_PTR (p + 4)

def execImgSlotOpen (h : HalfId) (slot : Nat) (s : State) : Host.Outcome State Fault Refusal :=
  .next (access s h (imgCmd s h 1 slot))

def execImgSlotClose (h : HalfId) (slot : Nat) (s : State) : Host.Outcome State Fault Refusal :=
  .next (access s h (imgCmd s h 2 slot))

def execImgSlotAbort (h : HalfId) (slot : Nat) (s : State) : Host.Outcome State Fault Refusal :=
  .next (access s h (imgCmd s h 3 slot))

def execPstImgDataWrite (h : HalfId) (v : Nat) (s : State) : Host.Outcome State Fault Refusal :=
  .next (access s h (imgData s h v))

/-! ### The Ledger (R618 to R624) -/

/-- SEQ of the oldest record neither erased nor overwritten; 0 while none exists (R632). -/
def ledgerTail (s : State) : Nat :=
  match (s.store.ledger.filter fun r => r.mark && s.store.tombstone ≤ r.seq).getLast? with
  | some r => r.seq
  | none => 0

/-- The 64 bytes of a record (R619). -/
def recordBytes (r : LedgerRec) : List Byte :=
  let b := le 4 r.seq ++ le 6 r.optime ++ le 4 r.pcycle ++ le 2 r.source ++ le 2 r.event ++ le 2 r.flags ++
    le 4 r.ns ++ le 6 r.sec ++ le 4 r.evSeq ++ r.fields.take 28 ++ List.replicate (28 - r.fields.length) 0
  b ++ [BitVec.ofNat 8 (crc8 b), if r.mark then 0xA5 else 0]

/-- A write of LDG_RSEL (R623, R634). -/
def ledgerSelect (s : State) (h : HalfId) (seq : Nat) : State :=
  let s0 := wr s h Reg.LDG_RSEL_SEQ seq
  let found := s.store.ledger.find? fun r => r.seq == seq
  let st := if seq ≠ 0 ∧ seq < s.store.tombstone then 1
    else match found with
      | none => 2
      | some r => if r.mark then 0 else 3
  let s1 := wr s0 h Reg.LDG_RSTAT_STATUS st
  modPort s1 h fun p => { p with rdata := if st = 0 ∨ st = 3 then found else none }

/-- The source ID of an accessor at a half (R620). -/
def accessorSource (h : HalfId) : Accessor → Nat
  | .host => 0x0900
  | .session k => 0x0800 + k
  | .mgmt => 0x0901 + halfNo h

/-- CLEAR (R624): the tombstone is appended, exempt from the limit, and every older record counts as erased. -/
def ledgerClearStart (s : State) (h : HalfId) (session : Nat) (by_ : Accessor) : State :=
  let src := accessorSource h by_
  let alive := s.store.ledger.filter fun r => r.mark && s.store.tombstone ≤ r.seq
  let sess := match by_ with | .mgmt => session | _ => 0
  let r := ledgerRec s h src 0x1101 (p4s [src, sess, alive.length, ledgerTail s])
  let s1 := storeAppend (evBump s h src) h r
  modStore s1 fun t => { t with tombstone := t.ledgerSeq, clearing := true }

/-- The status of a LDG_CMD command (R633). -/
def ledgerCmdStatus (s : State) (h : HalfId) (code : Nat) : Nat :=
  if code ≠ 1 then 0x10 else if modeOf s h = mBOOT then 0x11 else if s.store.clearing then 0x14 else 0x01

/-- A write of LDG_CMD. -/
def ledgerCmd (s : State) (h : HalfId) (code session : Nat) (by_ : Accessor) : State :=
  let st := ledgerCmdStatus s h code
  let s1 := result s h Reg.LDG_RESULT_SEQ Reg.LDG_RESULT_CMD Reg.LDG_RESULT_STATUS code st
  if st = 0x01 then ledgerClearStart s1 h session by_ else s1

def execLedgerAppend (h : HalfId) (source event : Nat) (fields : List Byte) (s : State) :
    Host.Outcome State Fault Refusal :=
  .next (ledger s h source event fields)

/-- LEDGER_RATE (R618): once the window has passed, one exempt record with the count of records not written. -/
def ledgerRateAppend (s : State) : State :=
  if s.store.dropCount = 0 ∨ 32 ≤ (recentAppends s).length then s
  else
    let h := (leader s).getD .a
    let r := ledgerRec s h 3 0x1104 (p4 s.store.dropCount ++ le 6 s.store.dropStart)
    let s1 := storeAppend (evBump s h 3) h r
    let s2 := modStore s1 fun t => { t with dropCount := 0 }
    tallySet (tallySet s2 .a 8 2 1 0x1104) .b 8 2 1 0x1104

def execLedgerRate (s : State) : Host.Outcome State Fault Refusal :=
  .next (ledgerRateAppend s)

def execLedgerClear (h : HalfId) (session : Nat) (by_ : Accessor) (s : State) :
    Host.Outcome State Fault Refusal :=
  .next (access s h (ledgerCmd s h 1 session by_))

/-- A half whose last LDG_CMD was an accepted CLEAR reports it DONE. -/
def clearReport (s : State) (h : HalfId) : State :=
  if rd s h Reg.LDG_RESULT_CMD = 1 ∧ rd s h Reg.LDG_RESULT_STATUS = 0x01 then wr s h Reg.LDG_RESULT_STATUS 0x02 else s

/-- The marks of all records older than the tombstone are zeroed (R624). -/
def ledgerClearEnd (s : State) : State :=
  if s.store.clearing then
    let s1 := modStore s fun t => { t with
      clearing := false
      ledger := t.ledger.map fun r => if r.seq < t.tombstone then { r with mark := false } else r }
    clearReport (clearReport s1 .a) .b
  else s

def execLedgerClearDone (s : State) : Host.Outcome State Fault Refusal :=
  .next (ledgerClearEnd s)

def execLdgRselWrite (h : HalfId) (seq : Nat) (s : State) : Host.Outcome State Fault Refusal :=
  .next (access s h (ledgerSelect s h seq))

/-- A read of LDG_OPTIME_LO latches the high word (R635). -/
def optimeLatch (s : State) (h : HalfId) : State :=
  modPort s h fun p => { p with optimeHi := opMs s / 2 ^ 32 % 2 ^ 16 }


def execOptimeCommit (s : State) : Host.Outcome State Fault Refusal :=
  .next (modStore s fun t => { t with optimeCommitted := opMs s })

/-- 3,600 s have passed: one of the two causes of STORE degraded ends (R625). -/
def execStoreHealthWindow (h : HalfId) (corrected : Bool) (s : State) : Host.Outcome State Fault Refusal :=
  .next (tallySet s h 8 (if corrected then 3 else 2) 0 0x1104)

end Sys2Proof.Machine
end

