-- ==== Sys2Proof/Machine/Time.lean ====
section
/-!
DEFINITION. The time base (R638 to R651) and Stocktake (R654 to R657): loads and steps, synchronisation,
the servo, the latches and the take.  Schedule entries and the commands stand in Schedule.lean.
-/

namespace Sys2Proof.Machine

open Sys2Proof (Byte HalfId)

/-- Change the time generator. -/
def modTime (s : State) (f : TimeGen → TimeGen) : State :=
  { s with field := { s.field with time := f s.field.time } }

/-- TIME_CFG.SRC. -/
def timeSrc (s : State) : Nat := rd s .a Reg.TIME_CFG_SRC

/-- The grid offset reduced into −124,999 to +125,000 (R642). -/
def gridReduce (g : Int) : Int :=
  let r := g % 250000
  if 125000 < r then r - 250000 else r

/-- Set a Tally cause of the TIME subsystem (14) in both halves. -/
def tallyTime (s : State) (cause code ev : Nat) : State :=
  let s1 := tallySet s .a 14 cause code ev
  if twoHalves s then tallySet s1 .b 14 cause code ev else s1

/-- TIME degraded while SRC is not 0 and the time base is not synchronised (R645). -/
def tallySync (s : State) : State :=
  tallyTime s 1 (if timeSrc s ≠ 0 ∧ synced s = false then 1 else 0) 0x1201

/-- Become or stop being synchronised; each change writes TIME_SYNC (R645). -/
def setSync (s : State) (b : Bool) : State :=
  if synced s == b then tallySync s
  else
    let s1 := wrB s .a Reg.TIME_STAT_SYNC b
    let s2 := if rdB s1 .a Reg.TIME_CFG_SERVO && rd s1 .a Reg.TIME_STAT_SERVO_STATE != 3 then
        wr s1 .a Reg.TIME_STAT_SERVO_STATE (if b then 2 else 1) else s1
    tallySync (ledgerField s2 0x1201
      (p4s [if b then 1 else 2, timeSrc s2] ++ le 4 (rd s2 .a Reg.TIME_OFFSET_NS)))

/-- The conditions of R645 for becoming synchronised. -/
def syncReady (s : State) : Bool :=
  timeSrc s != 0 && 8 ≤ s.field.time.inRange && s.field.time.grid == 0 &&
    (timeSrc s != 3 || rdB s .a Reg.TIME_STAT_TOD_SET) && !rdB s .a Reg.TIME_STAT_UNLOCK

/-- Become synchronised where every condition holds. -/
def trySync (s : State) : State := if syncReady s && !synced s then setSync s true else s

/-- Mark a committed step in the segments being recorded (TIME_Q bit 2, R552). -/
def markStep (s : State) (h : HalfId) : State :=
  let x := half s h
  setHalf s h { x with acq := { x.acq with runs := x.acq.runs.map fun r =>
      if r.2.state = 0 then r else (r.1, { r.2 with timeQ := putBit r.2.timeQ 2 true }) } }

/-- A load or step to time `t` (R642, R650): the time value, G, the synchronised state, TIME_STEPPED with
its origin (1 servo, 2 COMMIT, 3 COMMIT_AT_PPS, 4 STEP) and its size. -/
def loadBase (s : State) (t : Nat) (origin : Nat) : State :=
  let d : Int := (t : Int) - (now s : Int)
  let s1 := modTime s fun g => { g with now := t, grid := gridReduce (g.grid + d) }
  let s2 := wrB s1 .a Reg.TIME_STAT_GRID_SLEW (s1.field.time.grid != 0)
  let s3 := setSync s2 false
  let s4 := markStep (markStep s3 .a) .b
  ledgerField s4 0x1202 (p4 origin ++ leInt 8 d)

/-- A stepped time: the sum rounded down to a multiple of 8 ns, wrapping at 48-bit seconds (R638, R650). -/
def steppedTime (s : State) (d : Int) : Nat :=
  (((now s : Int) + d / 8 * 8) % ((2 ^ 48 * 1000000000 : Nat) : Int)).toNat

/-- The counts of R645 after a measurement of `off` ns. -/
def servoCounts (s : State) (off : Int) : State :=
  modTime s fun g => { g with
    measured := true
    inRange := if off.natAbs ≤ 100 then g.inRange + 1 else 0
    outRange := if 500 < off.natAbs then g.outRange + 1 else 0 }

/-- The servo's correction of ρ: an amount within ±20 ppm that the spec does not give (free value), the
target kept within ±200,000 ppb (R640, R644). -/
def servoSlew (s : State) : State :=
  let (v, s1) := freeVal s 40001
  modTime s1 fun g => { g with rhoTarget := max (-200000) (min 200000 (g.rhoTarget + (v : Int) - 20000)) }

/-- Does the servo take measurements: a holder, the servo enabled, TB_CLK locked (R643, R644). -/
def servoRuns (s : State) : Bool :=
  (s.field.mon == 1 || s.field.mon == 2) && rdB s .a Reg.TIME_CFG_SERVO && !rdB s .a Reg.TIME_STAT_UNLOCK

/-- Must the servo step on this offset (R644)? -/
def servoSteps (s : State) (off : Int) : Bool := 20000 < off.natAbs && !rdB s .a Reg.TIME_CFG_NOSTEP

/-- One offset measurement before any step: TIME_OFFSET, the counts, the servo state (R644, R645). -/
def measureBase (s : State) (off : Int) : State :=
  let s1 := wr s .a Reg.TIME_OFFSET_NS (ofSigned 32 (satSigned 32 off))
  let s2 := servoCounts s1 off
  let s3 := if 2 ≤ s2.field.time.outRange then setSync s2 false else s2
  wr s3 .a Reg.TIME_STAT_SERVO_STATE (if synced s3 then 2 else 1)

/-- Latch the whole time value for a half (R649). -/
def latchTime (s : State) (h : HalfId) : State :=
  modTime s fun g => match h with
    | .a => { g with latchA := g.now }
    | .b => { g with latchB := g.now }

/-- A take in half `h` at the present tick (R654): shadows, epoch, T_K, UNSYNC and ORIGIN (0 command,
1 schedule entry, 2 domain). -/
def takeStk (s : State) (h : HalfId) (origin : Nat) (late : Option Nat) : State :=
  let x := half s h
  let cs := nset (nset x.stk.counters 0 (s.ticks % 2 ^ 32)) 1 (rd s h Reg.LGE_CYCLE_COUNT)
  let s1 := setHalf s h { x with stk := { x.stk with counters := cs, shadow := cs } }
  let s2 := wrapInc s1 h Reg.STK_EPOCH_EPOCH
  let s3 := wr (wr s2 h Reg.STK_TAKE_NS_NS (nsOf (now s2))) h Reg.STK_TAKE_SEC_SEC (secOf (now s2))
  let s4 := wrB (wr s3 h Reg.STK_STAT_ORIGIN origin) h Reg.STK_STAT_UNSYNC (!synced s3)
  match late with
  | none => wrB s4 h Reg.STK_STAT_LATE false
  | some n => wr (wrB s4 h Reg.STK_STAT_LATE true) h Reg.STK_LATE_NS (min n 0xFFFFFFFF)

/-- The domain take of half `h` (R657): ORIGIN domain, the tag in STK_DLAST, and when late STK_LATE. -/
def domainTake (s : State) (h : HalfId) : State :=
  let t := (half s h).stk.dTime
  let tag := (half s h).stk.dTag
  let late := if t < now s then some (now s - t) else none
  let s1 := takeStk (wrB s h Reg.STK_STAT_DPEND false) h 2 late
  let s2 := wr s1 h Reg.STK_DLAST_TAG tag
  match late with
  | none => s2
  | some n => ledgerH s2 h 0x1206 (p4s [tag, n, b2n (rdB s2 h Reg.STK_STAT_UNSYNC)])

/-- A received or relayed domain take: a repeated tag is ignored, a new tag replaces a pending take, and a
time already past is taken at once (R657). -/
def armDomain (s : State) (h : HalfId) (t tag : Nat) : State :=
  let pend := rdB s h Reg.STK_STAT_DPEND
  if (pend && (half s h).stk.dTag == tag) || (!pend && rd s h Reg.STK_DLAST_TAG == tag && rd s h Reg.STK_STAT_ORIGIN == 2)
  then s
  else
    let x := half s h
    let s1 := wrB (setHalf s h { x with stk := { x.stk with dTime := t, dTag := tag } }) h Reg.STK_STAT_DPEND true
    if t < now s1 then domainTake s1 h else s1

/-- `x` moved towards a target by at most a step. -/
def toward (x target step : Int) : Int :=
  if x < target then min target (x + step) else max target (x - step)

/-- One tick of the time base with nothing commanded (R638, R640, R642; log entry 1): 8 ns, and at every
whole ms ρ moves by at most 100 ppb to its target and G by 10 ns to 0; the trace ports send (R728). -/
def tick (s : State) : State :=
  let t := s.ticks + 1
  let ms := t % 125000 == 0
  modTime (tracePort (tracePort { s with ticks := t } .a) .b) fun g => { g with
    now := (g.now + 8) % (2 ^ 48 * 1000000000)
    rho := if ms then toward g.rho g.rhoTarget 100 else g.rho
    grid := if ms then toward g.grid 0 10 else g.grid }

end Sys2Proof.Machine
end

