-- ==== Sys2Proof/Machine/ArcadeOps.lean ====
section
/-!
DEFINITION. Arcade frames (R676, R677): reading and building them, the checks of a receiving half (R683 to
R686), the points it holds (R690), sending, and the ring state of lanes and MAP frames (R671, R673, R675).
-/

namespace Sys2Proof.Machine

open Sys2Proof (Byte HalfId)

/-- Change the Arcade part of a half. -/
def modArd (s : State) (h : HalfId) (f : Arcade → Arcade) : State :=
  let x := half s h
  setHalf s h { x with ard := f x.ard }

/-- The ARCADE_BAZAAR section of the running image; an empty one where the image has none. -/
def ardCfg (s : State) (h : HalfId) : ArcadeCfg :=
  match (half s h).image with
  | some i => i.arcade
  | none => default

/-! ### Frame fields (R676) -/

/-- `n` bytes of a frame from byte `a`, little-endian. -/
def frNum (f : List Byte) (a n : Nat) : Nat := unLe ((f.drop a).take n)

def frClass (f : List Byte) : Nat := frNum f 0 1 % 4
def frType (f : List Byte) : Nat := frNum f 0 1 / 4
def frSync (f : List Byte) : Bool := bit (frNum f 1 1) 0
def frTest (f : List Byte) : Bool := bit (frNum f 1 1) 1
def frWrapped (f : List Byte) : Bool := bit (frNum f 1 1) 2
def frSrc (f : List Byte) : Nat := frNum f 2 2 % 2 ^ 14
def frDst (f : List Byte) : Nat := frNum f 4 2 % 2 ^ 14
def frHops (f : List Byte) : Nat := frNum f 6 1
def frKey (f : List Byte) : Nat := frNum f 7 1 % 2
def frEra (f : List Byte) : Nat := frNum f 8 4
def frSeq (f : List Byte) : Nat := frNum f 12 4
def frTag (f : List Byte) : Nat := frNum f 52 8

/-- A 10-byte time of R552 at byte `a`, in ns. -/
def frTime (f : List Byte) (a : Nat) : Nat := frNum f (a + 4) 6 * 1000000000 + frNum f a 4

/-- The 20 bits of an address or item from a byte pair onward. -/
def frCrcOk (f : List Byte) : Bool := f.length == 64 && crc32 (f.take 60) == frNum f 60 4

/-- The bytes that GMAC covers: 0–51, with HOPS and WRAPPED taken as 0 (R681). -/
def frAad (f : List Byte) : List Byte :=
  let b := f.take 52
  (b.set 6 0).set 1 (BitVec.ofNat 8 (putBit (frNum f 1 1) 2 false))

/-- The 96-bit IV: bytes 2–3, 0, 7, 8–15 (R681). -/
def frIv (f : List Byte) : List Byte := (f.drop 2).take 2 ++ f.take 1 ++ (f.drop 7).take 1 ++ (f.drop 8).take 8

/-- The words of a key of this half's configuration store: kind 3 own, kind 4 peer (R720). -/
def keyWords (s : State) (h : HalfId) (kind index : Nat) : Option (List Nat) :=
  let ks := match h with | .a => s.store.keysA | .b => s.store.keysB
  match ks.find? fun k => k.kind == kind && k.index == index with
  | some k => some k.words
  | none => none

/-- The ring key for a source unit and generation. -/
def ringKey (s : State) (h : HalfId) (unit gen : Nat) : Option (List Nat) :=
  if unit = (ardCfg s h).unit then keyWords s h 3 gen else keyWords s h 4 (unit * 2 + gen)

/-- CRC-32 at the end of the first 60 bytes. -/
def withCrc (b : List Byte) : List Byte := b.take 60 ++ le 4 (crc32 (b.take 60))

/-! ### Receiving: the checks of R683 -/

/-- Key of a (source, class) table. -/
def scKey (f : List Byte) : Nat := frSrc f * 4 + frClass f

/-- The frame time of the replay check, where the type carries one (R683). -/
def frameTime (f : List Byte) : Option Nat :=
  if frClass f = 0 ∧ frType f = 1 then some (frTime f 20)
  else if frClass f = 1 ∧ frType f = 1 then some (frTime f 18)
  else if frClass f = 2 ∧ frType f = 1 then
    some (max (frNum f 32 4 * 1000000000 + frNum f 28 4) (frNum f 48 4 * 1000000000 + frNum f 44 4))
  else none

/-- Does the replay check fail (R683)? -/
def replayFails (s : State) (h : HalfId) (f : List Byte) : Bool :=
  let w : Replay := sget (fun _ => default) (half s h).ard.replay (scKey f)
  let old := frEra f < w.era ||
    (frEra f == w.era && !w.seen.isEmpty && (frSeq f + 64 < w.newest || w.seen.contains (frSeq f)))
  let far := match frameTime f with
    | some t => frSync f && synced s && 100000000 < ((t : Int) - (now s : Int)).natAbs
    | none => false
  old || far

/-- Take a frame into its replay window: the newest SEQ and the 64 behind it. -/
def replayTake (s : State) (h : HalfId) (f : List Byte) : State :=
  modArd s h fun d =>
    let w : Replay := sget (fun _ => default) d.replay (scKey f)
    let w1 : Replay := if w.era < frEra f ∨ w.seen = [] then
        { era := frEra f, newest := frSeq f, seen := [frSeq f] }
      else
        let nw := max w.newest (frSeq f)
        { w with newest := nw, seen := (frSeq f :: w.seen).filter fun q => nw ≤ q + 64 }
    { d with replay := sset (fun _ => default) d.replay (scKey f) w1 }

/-! ### Policing (R686) -/

/-- Samples per second of a stream preset (R676, R686). -/
def presetRate (p : Nat) : Nat := match p with | 0 => 256000 | 1 => 32000 | 2 => 8000 | _ => 4000

/-- Key of the policing of a receiving lane: class and source, and of class 1 the stream. -/
def policeKey (lane : Nat) (f : List Byte) : Nat :=
  lane + 4 * (frClass f + 4 * (frSrc f + 2 ^ 14 * (if frClass f = 1 then frNum f 16 1 else 0)))

/-- Key of the count of all sources' C0 frames on a lane. -/
def policeAllKey (lane : Nat) : Nat := 2 ^ 32 + lane

/-- Arrival ticks of the frames passed under a key, newest first. -/
def policeTicks (s : State) (h : HalfId) (k : Nat) : List Nat := sget (fun _ => []) (half s h).ard.police k

/-- Frames passed under a key in the `w` ticks that end now. -/
def policeCount (s : State) (h : HalfId) (k w : Nat) : Nat :=
  ((policeTicks s h k).filter fun t => s.ticks < t + w).length

/-- One more frame passed; arrivals older than the longest window, 25 ms, are let go. -/
def policeBump (s : State) (h : HalfId) (k : Nat) : State :=
  modArd s h fun d => { d with
    police := sset (fun _ => []) d.police k (s.ticks :: (policeTicks s h k).filter fun t => s.ticks < t + 3125000) }

/-- A passed frame counts under its source, and one of class 0 under all sources too. -/
def policePass (s : State) (h : HalfId) (lane : Nat) (f : List Byte) : State :=
  let s1 := policeBump s h (policeKey lane f)
  if frClass f = 0 then policeBump s1 h (policeAllKey lane) else s1

/-- Points a source publishes: at least those this image subscribes; the frame does not say how many more. -/
def publishedPoints (s : State) (h : HalfId) (src : Nat) : Nat :=
  max ((ardCfg s h).subs.filter fun r => r.owner == src).length (Config.publishedPoints src)

/-- Frames in 25 ms that a stream's declared rate plus 1 % makes: exact for every preset.  The rate of a stream
that the image does not subscribe is not stated. -/
def streamAllowance (s : State) (h : HalfId) (f : List Byte) : Nat :=
  match (ardCfg s h).ssubs.find? fun r => r.src == frSrc f && r.stream == frNum f 16 1 with
  | some r => presetRate r.preset * ceilDiv r.count 6 * 101 / 4000
  | none => Config.streamAllowance (frSrc f) (frNum f 16 1)

/-- The limits of R686 on a frame: the key counted, the window in ticks, and the frames passed in it. -/
def policeLimits (s : State) (h : HalfId) (lane : Nat) (f : List Byte) : List (Nat × Nat × Nat) :=
  let k := policeKey lane f
  match frClass f with
  | 0 => [(k, 125000, 256), (policeAllKey lane, 125000, 2048)]
  | 1 => [(k, 3125000, streamAllowance s h f)]
  | 2 =>
    let n := publishedPoints s h (frSrc f) / 2
    [(k, 125000, n + 64), (k, 500000, n + 256)]
  | _ => []

/-- Does policing refuse the frame (R686)?  One more frame would exceed a limit. -/
def policed (s : State) (h : HalfId) (lane : Nat) (f : List Byte) : Bool :=
  (policeLimits s h lane f).any fun l => decide (l.2.2 ≤ policeCount s h l.1 l.2.1)

/-- A once-per-second Ledger entry about a source: the count since the last entry (R683, R686). -/
def sourceEvent (s : State) (h : HalfId) (auth : Bool) (f : List Byte) : State :=
  let k := scKey f
  let d := (half s h).ard
  let n := nget (if auth then d.authSince else d.policedSince) k + 1
  let t := nget (if auth then d.authAt else d.policedAt) k
  let due := t = 0 ∨ t + 125000000 ≤ s.ticks + 1
  let s1 := modArd s h fun d =>
    if auth then { d with authSince := nset d.authSince k (if due then 0 else n)
                          authAt := if due then nset d.authAt k (s.ticks + 1) else d.authAt }
    else { d with policedSince := nset d.policedSince k (if due then 0 else n)
                  policedAt := if due then nset d.policedAt k (s.ticks + 1) else d.policedAt }
  if due then
    ledgerH s1 h (if auth then 0x1303 else 0x1305)
      (if auth then p4s [frSrc f, frNum f 2 2 / 2 ^ 15, frClass f, n] else p4s [frSrc f, frClass f, n])
  else s1

/-- Checks Key and Tag (R683): 0 passed, 2 no key, 3 a tag that does not verify.  A C3 frame is not tagged (R681). -/
def tagCheck (s : State) (h : HalfId) (f : List Byte) : Nat :=
  if frClass f = 3 then 0
  else match ringKey s h (frSrc f) (frKey f) with
    | none => 2
    | some k => if Config.gmac k (frIv f) (frAad f) % 2 ^ 64 = frTag f then 0 else 3

/-- The verdict of the checks of R683 but ownership: 0 passed, else the number of the first failing check. -/
def frameCheck (s : State) (h : HalfId) (lane : Nat) (f : List Byte) : Nat :=
  if frCrcOk f = false then 1
  else if tagCheck s h f ≠ 0 then tagCheck s h f
  else if replayFails s h f then 4
  else if policed s h lane f then 5
  else if frTest f = true ∧ modeOf s h ≠ mTEST then 7
  else 0

/-- The counter of a failing check, its events and its Tally cause. -/
def frameRefuse (s : State) (h : HalfId) (lane : Nat) (f : List Byte) (c : Nat) : State :=
  if c = 1 then count (satAdd s h (Reg.ARD_ERR_CRC lane) 1) h (0x294 + 4 * lane + 2)
  else if c = 2 then satAdd s h Reg.ARD_SEC_NO_KEY 1
  else if c = 3 then
    let s1 := count (satAdd s h Reg.ARD_SEC_AUTH_FAIL 1) h (0x294 + 4 * lane + 3)
    sourceEvent (tallySet s1 h 13 4 1 0x1303) h true f
  else if c = 4 then satAdd s h Reg.ARD_DUP_COUNT 1
  else if c = 5 then sourceEvent (satAdd s h Reg.ARD_DROP_POLICED 1) h false f
  else if c = 6 then satAdd s h Reg.ARD_DROP_NOT_OWNER 1
  else satAdd s h Reg.ARD_DROP_TEST_DISC 1

/-! ### Sending (R676, R681, R682) -/

/-- The half increments its era and every class starts at SEQ 0 (R682): cause 1 boot, 2 wrap, 3 key. -/
def eraBump (s : State) (h : HalfId) (cause : Nat) : State :=
  let s1 := wrapInc s h Reg.ARD_ERA_ERA
  let era := rd s1 h Reg.ARD_ERA_ERA
  let st := match h with
    | .a => { s1.store with eraA := era }
    | .b => { s1.store with eraB := era }
  let s2 := modArd { s1 with store := st } h fun d => { d with seqs := [] }
  ledgerH s2 h 0x1306 (p4s [rd s2 h Reg.ARD_ERA_ERA, cause])

/-- Build a frame of this half with the next SEQ of its class, tagged unless it is C3. -/
def buildFrame (s : State) (h : HalfId) (cls type dst : Nat) (payload : List Byte) : List Byte × State :=
  let s1 := if nget (half s h).ard.seqs cls = 2 ^ 32 then eraBump s h 2 else s
  let q := nget (half s1 h).ard.seqs cls
  let gen := rd s1 h Reg.SEC_STAT_GEN
  let unit := (ardCfg s1 h).unit
  let b0 := [BitVec.ofNat 8 (cls + 4 * type),
      BitVec.ofNat 8 (b2n (synced s1) + 2 * b2n (modeOf s1 h == mTEST))] ++
    le 2 (unit + 2 ^ 15 * halfNo h) ++ le 2 dst ++ [0, BitVec.ofNat 8 gen] ++
    le 4 (rd s1 h Reg.ARD_ERA_ERA) ++ le 4 q ++ (payload ++ List.replicate (36 - payload.length) 0).take 36
  let tag := if cls = 3 then 0 else
    match keyWords s1 h 3 gen with
    | some k => Config.gmac k (frIv b0) (frAad b0)
    | none => 0
  (withCrc (b0 ++ le 8 tag), modArd s1 h fun d => { d with seqs := nset d.seqs cls (q + 1) })

/-- Put frames on lanes; only lanes that are up carry them. -/
def laneUpFld (lane : Nat) : Fld :=
  if lane = 0 then Reg.ARD_STAT_L0_UP else if lane = 1 then Reg.ARD_STAT_L1_UP else Reg.ARD_STAT_UL_UP

def putFrames (s : State) (h : HalfId) (fs : List (Nat × List Byte)) : State :=
  let ok := fs.filter fun e => rdB s h (laneUpFld e.1)
  let s1 := modArd s h fun d => { d with tx := ok }
  ok.foldl (fun s e => count s h (0x294 + 4 * e.1 + 1)) s1

/-- Does this half use its lanes: the image has the section, and in LAYUP the standby's lanes are off (R675). -/
def ardActive (s : State) (h : HalfId) : Bool :=
  (ardCfg s h).present && present s h && (half s h).mode.powered && !(half s h).mode.inReset

/-- Send one frame: C0 on both ring lanes, other classes eastwards (R678). -/
def sendFrame (s : State) (h : HalfId) (cls type dst : Nat) (payload : List Byte) : State :=
  if ardActive s h then
    let (f, s1) := buildFrame s h cls type dst payload
    putFrames s1 h (if cls = 0 then [(0, f), (1, f)] else [(0, f)])
  else s

/-! ### Forwarding (R675, R678, R685) -/

/-- Does a forward record pass this frame in a direction (0 up, 1 down)? -/
def bridgePasses (c : ArcadeCfg) (f : List Byte) (dir : Nat) : Bool :=
  c.role != 0 &&
  (if frClass f = 2 ∧ frType f = 6 then false
   else if frClass f = 2 ∧ frType f = 2 then true
   else if frClass f = 2 ∧ frType f = 3 then dir == 1
   else c.fwds.any fun r => r.dir == dir &&
    ((r.type == 0 && r.src == frSrc f &&
        ((frClass f == 0 && frNum f 16 4 % 2 ^ 20 == r.item) ||
         (frClass f == 2 && frType f == 1 && (frNum f 20 4 % 2 ^ 20 == r.item || frNum f 36 4 % 2 ^ 20 == r.item)))) ||
     (r.type == 1 && r.src == frSrc f && frClass f == 1 && frNum f 16 1 == r.item) ||
     (r.type == 2 && frClass f == 3 && frSrc f / 64 == r.src)))

/-- Direction in which the uplink of this unit leads: up on a bridge to the parent, down on one to a child. -/
def uplinkDir (c : ArcadeCfg) : Nat := if c.role = 1 then 0 else 1

/-- A frame with one hop more, its CRC recomputed. -/
def hopped (f : List Byte) (wrapped : Bool) : List Byte :=
  let g := f.set 6 (BitVec.ofNat 8 (frHops f + 1))
  withCrc (g.set 1 (BitVec.ofNat 8 (putBit (frNum f 1 1) 2 (frWrapped f || wrapped))))

/-- The lanes on which a frame received on `lane` leaves again (R675, R678, R685): the far ring lane, the other
ring lane when this unit wraps, and the bridge link where R685 allows.  A frame that is not wrapped is
removed by its source; a wrapped frame goes no further at a wrapping unit; 255 hops end a frame. -/
def forwardLanes (s : State) (h : HalfId) (lane : Nat) (f : List Byte) : List (Nat × List Byte) :=
  let c := ardCfg s h
  if 254 ≤ frHops f ∨ (frSrc f = c.unit ∧ frWrapped f = false) then []
  else
    let wrapping := !rdB s h Reg.ARD_STAT_L0_UP || !rdB s h Reg.ARD_STAT_L1_UP
    let ring :=
      if lane = 2 then
        if bridgePasses c f (1 - uplinkDir c) then
          (if frClass f = 0 then [(0, hopped f false), (1, hopped f false)] else [(0, hopped f false)])
        else []
      else
        let far := 1 - lane
        if rdB s h (laneUpFld far) then [(far, hopped f false)]
        else if frWrapped f && wrapping then []
        else [(lane, hopped f true)]
    let up := if lane ≠ 2 ∧ bridgePasses c f (uplinkDir c) = true then [(2, hopped f false)] else []
    ring ++ up

/-- Forward a received frame. -/
def forwardFrame (s : State) (h : HalfId) (lane : Nat) (f : List Byte) : State :=
  putFrames s h (forwardLanes s h lane f)

/-- A frame over a bridge link that no forward record lists is discarded as NOT_OWNER (R685). -/
def bridgeRefuses (s : State) (h : HalfId) (lane : Nat) (f : List Byte) : Bool :=
  lane == 2 && !bridgePasses (ardCfg s h) f (1 - uplinkDir (ardCfg s h)) && !(frClass f == 2 && (frType f == 4 || frType f == 5))

/-- Receive a frame of class `cls` and type `type` on a lane: count it, apply the checks of R683, police it,
forward it, and act on it with `act` when it passes.  Another class or type counts as a code error (R677).  A
frame whose tag this unit finds wrong is not forwarded whole (R683). -/
def receiveFrame (s : State) (h : HalfId) (lane cls type : Nat) (f : List Byte) (act : State → State) : State :=
  if !ardActive s h || !rdB s h (laneUpFld lane) then s
  else
    let s1 := count s h (0x294 + 4 * lane)
    if frClass f ≠ cls ∨ frType f ≠ type then frameRefuse s1 h lane f 1
    else
      let c := frameCheck s1 h lane f
      let s2 := if c = 7 ∨ c = 0 then policePass s1 h lane f else s1
      if c = 2 then forwardFrame (frameRefuse s2 h lane f 2) h lane f
      else if c = 7 then forwardFrame (frameRefuse (replayTake s2 h f) h lane f 7) h lane f
      else if c ≠ 0 then frameRefuse s2 h lane f c
      else
        let s3 := replayTake s2 h f
        if bridgeRefuses s3 h lane f then frameRefuse s3 h lane f 6
        else act (forwardFrame s3 h lane f)

/-! ### Points (R684, R690) -/

/-- State of the subscribed point with local index `k`. -/
def pointState (s : State) (h : HalfId) (k : Nat) : PointState := sget (fun _ => default) (half s h).ard.points k

/-- The value word of a point as it reads: STALE in bit 1, VALID = 0 before the first update (R690). -/
def pointWord (p : PointState) : Nat :=
  if p.received then putBit p.value 1 p.stale else if p.stale then 2 else 0

/-- Accept an update of point `k` with its change instant and TEST bit. -/
def acceptPoint (s : State) (h : HalfId) (k value ttl at_ : Nat) (test : Bool) : State :=
  let old := pointState s h k
  let was := old.stale
  let p : PointState := { value := value, arrived := s.ticks, received := true, stale := false, ttl := ttl, changed := if old.received && old.value == value then old.changed else at_, test := test }
  let s1 := modArd s h fun d => { d with points := sset (fun _ => default) d.points k p }
  let s2 := if was then wr s1 h Reg.ARD_BZ_STALE_COUNT (rd s1 h Reg.ARD_BZ_STALE_COUNT - 1) else s1
  if was ∧ rd s2 h Reg.ARD_BZ_STALE_COUNT = 0 then tallySet s2 h 13 5 0 0x1307 else s2

/-- Local index and record of the subscription to a point ID. -/
def subOf (c : ArcadeCfg) (id : Nat) : Option (Nat × SubRec) :=
  match c.subs.zipIdx.find? fun e => e.1.id == id with
  | some e => some (e.2, e.1)
  | none => none

/-- A point goes stale (R690): BZ_STALE at most once per second. -/
def pointGoesStale (s : State) (h : HalfId) (k : Nat) : State :=
  let p := pointState s h k
  match (ardCfg s h).subs[k]? with
  | none => s
  | some r =>
    if p.stale then s
    else
      let s1 := modArd s h fun d => { d with points := sset (fun _ => default) d.points k { p with stale := true } }
      let s2 := tallySet (wr s1 h Reg.ARD_BZ_STALE_COUNT (rd s1 h Reg.ARD_BZ_STALE_COUNT + 1)) h 13 5 1 0x1307
      let d := (half s2 h).ard
      let first := if d.staleNew = 0 then r.id else d.staleFirst
      if d.staleAt = 0 ∨ d.staleAt + 125000000 ≤ s.ticks + 1 then
        ledgerH (modArd s2 h fun d => { d with staleNew := 0, staleAt := s.ticks + 1 }) h 0x1307 (p4s [d.staleNew + 1, first])
      else modArd s2 h fun d => { d with staleNew := d.staleNew + 1, staleFirst := first }

/-! ### Lanes and the ring (R671, R673, R675, R703) -/

/-- Down links that the MAP knowledge and this unit's own lanes show. -/
def ringBreaks (s : State) (h : HalfId) : Nat :=
  ((half s h).ard.map.filter fun e => e.2.2.2 % 4 != 3).length +
    b2n (!rdB s h Reg.ARD_STAT_L0_UP || !rdB s h Reg.ARD_STAT_L1_UP)

/-- Recompute RING, the MAP register and the Tally causes of the ring; a change writes ARD_RING. -/
def ringUpdate (s : State) (h : HalfId) : State :=
  let brk := ringBreaks s h
  let unit := (ardCfg s h).unit
  let size := min 64 ((half s h).ard.map.filter fun e => e.1 != unit).length + 1
  let st := if (half s h).ard.map.isEmpty then 0 else if brk = 0 then 1 else 2
  let old := rd s h Reg.ARD_STAT_RING
  let idx := ((half s h).ard.map.filter fun e => e.1 % 64 < unit % 64).length
  let s1 := wr (wr (wr s h Reg.ARD_MAP_SIZE size) h Reg.ARD_MAP_BREAKS (min 255 brk)) h Reg.ARD_MAP_INDEX idx
  let s2 := wr s1 h Reg.ARD_STAT_RING st
  let s3 := tallySet s2 h 13 2 (if st = 2 then 1 else 0) 0x1302
  let s4 := tallySet s3 h 13 1
    (if rdB s3 h Reg.ARD_STAT_L0_UP = false ∧ rdB s3 h Reg.ARD_STAT_L1_UP = false then 2 else 0) 0x1301
  if st ≠ old ∧ st ≠ 0 then ledgerH s4 h 0x1302 (p4s [if st = 1 then 1 else 2, min 255 brk, size]) else s4

/-- A lane comes up or goes down: ARD_LINK, wrapping, the ring (R671, R675). -/
def laneChange (s : State) (h : HalfId) (lane : Nat) (up : Bool) : State :=
  if !present s h || 3 ≤ lane || rdB s h (laneUpFld lane) == up then s
  else
    let s1 := wrB s h (laneUpFld lane) up
    let s2 := if lane = 0 then wrB s1 h Reg.ARD_STAT_WRAP_E (!up)
      else if lane = 1 then wrB s1 h Reg.ARD_STAT_WRAP_W (!up) else s1
    ringUpdate (ledgerH s2 h 0x1301 (p4s [lane, if up then 1 else 2])) h

def execLaneUp (h : HalfId) (lane : Nat) (s : State) : Host.Outcome State Fault Refusal :=
  .next (laneChange s h lane true)

def execLaneDown (h : HalfId) (lane : Nat) (s : State) : Host.Outcome State Fault Refusal :=
  .next (laneChange s h lane false)

/-- Is a frame with this half's own address one that it sent: its era, and a SEQ it has used (R682)? -/
def ownFrame (s : State) (h : HalfId) (f : List Byte) : Bool :=
  frSrc f == (ardCfg s h).unit && frEra f == rd s h Reg.ARD_ERA_ERA && decide (frSeq f < nget (half s h).ard.seqs (frClass f))

/-- What a MAP frame says (R673): the sender's neighbours and lane states, or a duplicate address where another
unit uses this unit's.  A half's own MAP frame that has gone round the ring says nothing. -/
def mapAct (h : HalfId) (lane : Nat) (f : List Byte) (s : State) : State :=
  if ownFrame s h f then s
  else if frSrc f = (ardCfg s h).unit then
    let s1 := tallySet (wrB s h Reg.ARD_STAT_DUP_ADDR true) h 13 3 2 0x1304
    ledgerH s1 h 0x1304 (p4s [frSrc f, lane])
  else if frSrc f / 64 = (ardCfg s h).unit / 64 then
    ringUpdate (modArd s h fun d => { d with
      map := sset (fun _ => (0, 0, 0)) d.map (frSrc f) (frNum f 16 2, frNum f 18 2, frNum f 20 1) }) h
  else s

def execMap (h : HalfId) (lane : Nat) (frame : List Byte) (s : State) : Host.Outcome State Fault Refusal :=
  .next (receiveFrame s h lane 2 6 frame (mapAct h lane frame))

/-- The ring neighbour of this unit: the next position up or down among the units known. -/
def neighbour (s : State) (h : HalfId) (east : Bool) : Nat :=
  let u := (ardCfg s h).unit
  let ks := (half s h).ard.map.map fun e => e.1
  if east then ((ks.filter fun k => u < k) ++ ks ++ [u]).headD u
  else ((ks.filter fun k => k < u).reverse ++ ks.reverse ++ [u]).headD u

/-- MAP_SEND: the periodic MAP frame; the lane utilisation of the last 100 ms is taken over, and ARCADE is
degraded while it exceeds 80 % (R673, R699, R703). -/
def sendMap (s : State) (h : HalfId) (util peak : List Nat) : State :=
  let s1 := (List.range 3).foldl (fun s l =>
    let s1 := wr s h (Reg.ARD_LANE_UTIL l) (min 100 (util.getD l 0))
    wr s1 h (Reg.ARD_LANE_PEAK l) (max (rd s1 h (Reg.ARD_LANE_PEAK l)) (min 100 (peak.getD l 0)))) s
  let s2 := tallySet s1 h 13 6 (if (List.range 3).any fun l => 80 < rd s1 h (Reg.ARD_LANE_UTIL l) then 1 else 0) 0x1302
  let lanes := b2n (rdB s2 h Reg.ARD_STAT_L0_UP) + 2 * b2n (rdB s2 h Reg.ARD_STAT_L1_UP) + 4 * b2n (rdB s2 h Reg.ARD_STAT_UL_UP)
  sendFrame s2 h 2 6 0x3FFF (le 2 (neighbour s2 h true) ++ le 2 (neighbour s2 h false) ++ le 1 lanes)

def execMapSend (h : HalfId) (util peak : List Nat) (s : State) : Host.Outcome State Fault Refusal :=
  .next (if ardActive s h then sendMap s h util peak else s)

/-! ### Peer delay, bulk data, authentication window -/

/-- PDELAY_SEND: a request on every lane that is up (R695). -/
def sendPdelay (s : State) (h : HalfId) : State :=
  if ardActive s h then
    let (f, s1) := buildFrame s h 2 4 0x3FFF (timeBytes (now s))
    putFrames s1 h [(0, f), (1, f), (2, f)]
  else s

def execPdelaySend (h : HalfId) (s : State) : Host.Outcome State Fault Refusal := .next (sendPdelay s h)

/-- A peer-delay request is answered on the lane it came from; it is not forwarded (R695). -/
def pdelayAnswer (s : State) (h : HalfId) (lane : Nat) (f : List Byte) : State :=
  let (g, s1) := buildFrame s h 2 5 (frSrc f) (timeBytes (now s))
  putFrames s1 h [(lane, g)]

/-- Frames between neighbours: counted and checked like others, never forwarded. -/
def receiveLocal (s : State) (h : HalfId) (lane type : Nat) (f : List Byte) (act : State → State) : State :=
  if !ardActive s h || !rdB s h (laneUpFld lane) then s
  else
    let s1 := count s h (0x294 + 4 * lane)
    if frClass f ≠ 2 ∨ frType f ≠ type then frameRefuse s1 h lane f 1
    else
      let c := frameCheck s1 h lane f
      if c = 7 then frameRefuse (replayTake (policePass s1 h lane f) h f) h lane f 7
      else if c ≠ 0 then frameRefuse s1 h lane f c else act (replayTake (policePass s1 h lane f) h f)

def execPdelayReq (h : HalfId) (lane : Nat) (frame : List Byte) (s : State) : Host.Outcome State Fault Refusal :=
  .next (receiveLocal s h lane 4 frame fun s => pdelayAnswer s h lane frame)

/-- A peer-delay response gives the link delay of the lane (R695, R699). -/
def execPdelayResp (h : HalfId) (lane : Nat) (frame : List Byte) (delay : Nat) (s : State) :
    Host.Outcome State Fault Refusal :=
  .next (receiveLocal s h lane 5 frame fun s => wr s h (Reg.ARD_LANE_PROP lane) (min delay 0xFFF))

/-- BULK (R677): 28 bytes of a transfer, held for the management firmware by transfer and offset. -/
def bulkAct (h : HalfId) (f : List Byte) (s : State) : State :=
  if frDst f = (ardCfg s h).unit ∨ frDst f = 0x3FFF then
    modArd s h fun d => { d with bulk := putBytes d.bulk (frNum f 16 2 * 2 ^ 32 + frNum f 20 4) ((f.drop 24).take 28) }
  else s

def execBulk (h : HalfId) (lane : Nat) (frame : List Byte) (s : State) : Host.Outcome State Fault Refusal :=
  .next (receiveFrame s h lane 3 1 frame (bulkAct h frame))

def execArcadeAuthWindow (h : HalfId) (s : State) : Host.Outcome State Fault Refusal :=
  .next (tallySet s h 13 4 0 0x1303)

/-- The payload of a DOMAIN_TAKE frame (R677). -/
def domainPayload (t tag : Nat) : List Byte := timeBytes t ++ le 4 tag

def execDomainTake (h : HalfId) (lane : Nat) (frame : List Byte) (s : State) : Host.Outcome State Fault Refusal :=
  .next (receiveFrame s h lane 2 2 frame fun s => armDomain s h (frTime frame 16) (frNum frame 26 4))

end Sys2Proof.Machine
end

