-- ==== Sys2Proof/Machine/Goose.lean ====
section
/-!
DEFINITION. GOOSE publication (R710, R711, R734): the tables behind ETH_TDATA, the members of a control block and the
frames that a leader sends.
-/

namespace Sys2Proof.Machine

open Sys2Proof (Byte HalfId)

/-- Change the management part of a half. -/
def modMgmt (s : State) (h : HalfId) (f : Mgmt → Mgmt) : State :=
  let x := half s h
  setHalf s h { x with mgmt := f x.mgmt }

/-- May this half publish what is leader-class (R416, R689, R711)? -/
def leaderPublishes (s : State) (h : HalfId) : Bool :=
  acts s h && modeOf s h != mBOOT && modeOf s h != mLOCKOUT && !rdB s h Reg.GAV_STAT_NO_LEADER

/-- Word `w` of entry `e` of GOOSE table `t`. -/
def gooseKey (t e w : Nat) : Nat := t * 2 ^ 24 + e * 2 ^ 8 + w
def gooseWord (s : State) (h : HalfId) (t e w : Nat) : Nat := nget (half s h).mgmt.tables (gooseKey t e w)

/-- ENABLE of publish block or subscription `e`: bit 0 of its word 0. -/
def gooseOn (s : State) (h : HalfId) (t e : Nat) : Bool := bit (gooseWord s h t e 0) 0

/-- Members of publish block `b`, minTime and maxTime in ms, with the defaults of R710. -/
def gooseCount (s : State) (h : HalfId) (b : Nat) : Nat := min 32 (gooseWord s h 0 b 3)
def gooseMin (s : State) (h : HalfId) (b : Nat) : Nat :=
  if gooseWord s h 0 b 4 = 0 then 4 else min 100 (gooseWord s h 0 b 4)
def gooseMax (s : State) (h : HalfId) (b : Nat) : Nat :=
  if gooseWord s h 0 b 5 = 0 then 1000 else 1000 * min 60 (gooseWord s h 0 b 5)

/-- The IEEE 754 single that equals `v` ÷ 2^23, for a 24-bit `v`. -/
def float32 (v : Int) : Nat :=
  let m := v.natAbs
  let e := Nat.log2 m
  if m = 0 then 0 else (if v < 0 then 2 ^ 31 else 0) + (e + 104) * 2 ^ 23 + (m * 2 ^ (23 - e) - 2 ^ 23)

/-- The 13-bit quality of a value word (R711), bit i for position i of the bit string. -/
def gooseQuality (w : Nat) (test : Bool) : Nat :=
  let validity := if !bit w 7 then 2 else if bit w 1 then 3 + 128 else 0
  validity + 4 * b2n (bit w 6) + 1024 * b2n (bit w 0) + 2048 * b2n test

/-- Value word, change instant and TEST bit of the Bazaar value that a member names (R711). -/
def memberSource (s : State) (h : HalfId) (m : Nat) : Nat × Nat × Bool :=
  let i := m % 2 ^ 17
  if bit m 23 then
    let p : PointState := pointState s h i
    (pointWord p, p.changed, p.test)
  else (nget (half s h).ard.published i, nget (half s h).ard.changeAt i, modeOf s h == mTEST)

/-- A member as a frame carries it (R711). -/
def gooseMember (s : State) (h : HalfId) (m : Nat) : GooseMember :=
  let v := memberSource s h m
  let t := bits m 26 24
  let i := toSigned 24 (v.1 / 256)
  let x := if t = 0 then b2n (decide (v.1 / 256 ≠ 0)) else if t = 1 then ofSigned 32 i else if t = 2 then float32 i
    else if t = 3 then gooseQuality v.1 v.2.2 else v.2.1
  { type := t, value := x }

/-- The members of publish block `b`. -/
def gooseMembers (s : State) (h : HalfId) (b : Nat) : List GooseMember :=
  (List.range (gooseCount s h b)).map fun k => gooseMember s h (gooseWord s h 1 (b * 32 + k) 0)

/-- What counts as a change: every member but the Timestamps. -/
def gooseValues (ms : List GooseMember) : List GooseMember := ms.filter fun m => m.type != 4

/-- The next number of a GOOSE counter, which skips 0 when it wraps. -/
def gooseNext (n : Nat) : Nat := if n + 1 = 2 ^ 32 then 1 else n + 1

/-- Send a frame of publish block `b`: a change, or a retransmission (R710). -/
def gooseSend (s : State) (h : HalfId) (b : Nat) (change : Bool) : State :=
  let old : GoosePub := sget (fun _ => default) (half s h).mgmt.gpubs b
  let mx := gooseMax s h b
  let g : GoosePub := {
    stNum := if change then gooseNext old.stNum else old.stNum
    sqNum := if change then 0 else gooseNext old.sqNum
    interval := if change then gooseMin s h b else min mx (2 * old.interval)
    sim := modeOf s h == mTEST
    ttl := 2 * mx
    members := gooseMembers s h b }
  satAdd (modMgmt s h fun m => { m with gpubs := sset (fun _ => default) m.gpubs b g }) h Reg.ETH_GOOSE_TX_FRAMES 1

/-- Has a member of the running block `b` changed since its latest frame? -/
def gooseChanged (s : State) (h : HalfId) (b : Nat) : Bool :=
  let old : GoosePub := sget (fun _ => default) (half s h).mgmt.gpubs b
  old.stNum == 0 || gooseValues old.members != gooseValues (gooseMembers s h b)

/-- Send every enabled block that has changed (R710, R711). -/
def gooseScan (s : State) (h : HalfId) : State :=
  (List.range 32).foldl (fun s b =>
    if leaderPublishes s h && gooseOn s h 0 b && gooseChanged s h b then gooseSend s h b true else s) s

/-- GOOSE_RETRANSMIT (R710): the interval of block `b` expires. -/
def execGooseRetransmit (h : HalfId) (block : Nat) (s : State) : Host.Outcome State Fault Refusal :=
  .next (if leaderPublishes s h && gooseOn s h 0 block && decide (block < 32) then
      gooseSend s h block (gooseChanged s h block)
    else s)

end Sys2Proof.Machine
end

