-- ==== Sys2Proof/Machine/Settings.lean ====
section
/-!
DEFINITION. Settings and image look-ups: the active group's slot words (R110), the functions an image places,
the chains it defines, and the change of the parts of a half that the deciding chapters keep.
-/

namespace Sys2Proof.Machine

open Sys2Proof (Byte HalfId)

/-! ### Changing parts of a half -/

def modFe (s : State) (h : HalfId) (f : FrontEnd → FrontEnd) : State :=
  let x := half s h
  setHalf s h { x with fe := f x.fe }

def modDec (s : State) (h : HalfId) (f : Decide → Decide) : State :=
  let x := half s h
  setHalf s h { x with dec := f x.dec }

def modLge (s : State) (h : HalfId) (f : Logic → Logic) : State :=
  let x := half s h
  setHalf s h { x with lge := f x.lge }

def modIo (s : State) (f : FieldIo → FieldIo) : State := { s with field := { s.field with io := f s.field.io } }

/-! ### Settings -/

/-- The contents of setting group `g` of a half. -/
def groupOf (s : State) (h : HalfId) (g : Nat) : SetGroup := sget (fun _ => default) (half s h).groups g

/-- The active group's number. -/
def activeGroup (s : State) (h : HalfId) : Nat := rd s h Reg.SET_ACTIVE_ACTIVE

/-- Word `w` of slot `slot` in the active group (R110). -/
def slotWord (s : State) (h : HalfId) (slot w : Nat) : Nat :=
  nget (groupOf s h (activeGroup s h)).words (slot * 16 + w)

/-- Field `hi:lo` of a setting word. -/
def slotF (s : State) (h : HalfId) (slot w hi lo : Nat) : Nat := bits (slotWord s h slot w) hi lo

/-- ENABLE of a slot (R110). -/
def slotOn (s : State) (h : HalfId) (slot : Nat) : Bool := bit (slotWord s h slot 0) 31

/-! ### The image -/

/-- The FAST_TILES record of fast function `f` (slot 192 + f). -/
def fastRec (s : State) (h : HalfId) (f : Nat) : Option FastTileRec :=
  match (half s h).image with
  | some i => i.fast.find? fun r => r.slot == 192 + f
  | none => none

/-- The fast function placed on tile `t`, if one is. -/
def tileFn (s : State) (h : HalfId) (t : Nat) : Option Nat :=
  match (half s h).image with
  | some i => match i.fast.find? fun r => r.tile == t && r.slot != 0xFF with
    | some r => some (r.slot - 192)
    | none => none
  | none => none

/-- The SIG function that restrains IOC function `f` (R274). -/
def restraintOf (s : State) (h : HalfId) (f : Nat) : Option Nat :=
  match fastRec s h f with
  | some r => if r.type = 0x21 ∧ r.restraint ≠ 0xFF then tileFn s h r.restraint else none
  | none => none

/-- Fast functions of the image, ascending. -/
def fastFns (s : State) (h : HalfId) : List Nat := (List.range 48).filter fun f => (fastRec s h f).isSome

/-- The IOC functions that SIG function `g` restrains. -/
def restrainedBy (s : State) (h : HalfId) (g : Nat) : List Nat :=
  (fastFns s h).filter fun f => restraintOf s h f == some g

/-- The GENERAL_TILES record of slot `k`. -/
def genRec (s : State) (h : HalfId) (k : Nat) : Option GenTileRec :=
  match (half s h).image with
  | some i => i.general.find? fun r => r.slot == k
  | none => none

/-- The INPUT_ROUTE record of chain `c`. -/
def chainRec (s : State) (h : HalfId) (c : Nat) : Option ChainRec :=
  match (half s h).image with
  | some i => i.chains.find? fun r => r.chain == c
  | none => none

/-- S of the SYSTEM section; 64 where no image is loaded. -/
def samplesPerCycle (s : State) (h : HalfId) : Nat :=
  match (half s h).image with
  | some i => i.sys.samples
  | none => 64

/-! ### Ledger entries at most once per second (R309) -/

/-- Write an event of source `src` at most once per second; `mk` takes the edges not written since. -/
def ledgerOnce (s : State) (h : HalfId) (src ev : Nat) (mk : Nat → List Byte) : State :=
  let e := sget (fun _ => (0, 0)) (half s h).dec.once src
  if e.1 = 0 ∨ e.1 + 125000000 ≤ s.ticks + 1 then
    ledger (modDec s h fun d => { d with once := sset (fun _ => (0, 0)) d.once src (s.ticks + 1, 0) }) h src ev (mk e.2)
  else modDec s h fun d => { d with once := sset (fun _ => (0, 0)) d.once src (e.1, e.2 + 1) }

/-- Set or clear bit `i` of a group of 32-bit registers: register `i / 32`, bit `i % 32`. -/
def putBank (s : State) (h : HalfId) (f : Nat → Fld) (i : Nat) (b : Bool) : State := wrBit s h (f (i / 32)) (i % 32) b

/-- Bit `i` of such a group. -/
def getBank (s : State) (h : HalfId) (f : Nat → Fld) (i : Nat) : Bool := rdBit s h (f (i / 32)) (i % 32)

/-- Two registers, low and high, as such a group. -/
def loHi (lo hi : Fld) (k : Nat) : Fld := if k = 0 then lo else hi

end Sys2Proof.Machine
end

