-- ==== Sys2Proof/Machine/Outputs.lean ====
section
/-!
DEFINITION. The way from decisions to outputs (chapter 11): output values and their diagnostics, vote cells,
the fast matrix, the general trip matrix and what a change of a trip group publishes.
-/

namespace Sys2Proof.Machine

open Sys2Proof (Byte HalfId)

/-! ### Output values and their diagnostics (R434 to R439) -/

/-- Both halves that the variant has. -/
def halves (s : State) : List HalfId := if twoHalves s then [.a, .b] else [.a]

/-- Set (code ≠ 0) or remove a cause of subsystem `k` in every half. -/
def tallyAll (s : State) (k cause code ev : Nat) : State :=
  (halves s).foldl (fun s h => tallySet s h k cause code ev) s

/-- The diagnostic flag `k` of DO `n`: 0 OVERLOAD, 1 OPEN_ON, 2 OPEN_OFF, 3 OVERTEMP, 4 OT_LATCHED (R452). -/
def doFlag (k n : Nat) : Fld := ⟨(Reg.DIO_DOSTAT_OVERLOAD n).key, k, k⟩

/-- Set or clear a diagnostic condition of DO `n`: the flag, the summary bit, the Tally cause (R436). -/
def doDiag (s : State) (n k : Nat) (on : Bool) : State :=
  let s1 := wrB s .a (doFlag k n) on
  let any := (List.range 5).any fun j => rdB s1 .a (doFlag j n)
  let s2 := wrBit s1 .a Reg.DIO_DO_FAULT_FAULT n any
  tallyAll s2 6 (1000 + n * 8 + k) (if on then (if k = 4 then 2 else 1) else 0) (if k = 0 then 0x0C03 else if k ≤ 2 then 0x0C04 else 0x0C05)

/-- Ledger fields of a set or clear of a DO condition (R453). -/
def doLedger (s : State) (n k : Nat) (on : Bool) : State :=
  if k = 0 then ledgerField s 0x0C03 (p4s [n, rd s .a (Reg.DIO_DOCUR_CURRENT n), if on then 1 else 2])
  else if k ≤ 2 then ledgerField s 0x0C04 (p4s [n, k, if on then 1 else 2])
  else ledgerField s 0x0C05 (p4s [n, k - 2, rd s .a (Reg.DIO_DOSTAT_RETRIES n)])

/-- Clear a condition that is present, with its Ledger entry. -/
def doClear (s : State) (n k : Nat) : State :=
  if rdB s .a (doFlag k n) then doLedger (doDiag s n k false) n k false else s

/-- The output group of DO `n` is GOOD (R426, R427). -/
def groupGood (s : State) (g : Nat) : Bool := !rdBit s .a Reg.DIO_SUP_MISSING g && !rdBit s .a Reg.DIO_SUP_LOW g

/-- Level at the ball of DO `n`: its value, unless shut down or without supply (R429, R436). -/
def doBall (s : State) (n : Nat) : State :=
  wrBit s .a Reg.DIO_DO_OUT_OUT n
    (rdBit s .a Reg.DIO_DO_VAL_VAL n && !rdB s .a (doFlag 3 n) && !rdB s .a (doFlag 4 n)
      && !rdBit s .a Reg.DIO_SUP_MISSING (n / 8))

/-- Give DO `n` the value `v` (R434): a change counts in both halves, ends the conditions of the old state
(R436), and a fall cancels a pending retry and resets the shutdown count (R437). -/
def setDo (s : State) (n : Nat) (v : Bool) : State :=
  if rdBit s .a Reg.DIO_DO_VAL_VAL n == v then s
  else
    let s1 := wrB (wrBit s .a Reg.DIO_DO_VAL_VAL n v) .a (Reg.DIO_DOSTAT_VAL n) v
    let s2 := (halves s1).foldl (fun s h => count s h (0x184 + n)) s1
    let s3 := if v then doClear s2 n 2
      else
        let s := doClear (doClear s2 n 0) n 1
        let s := if rdB s .a (doFlag 3 n) then doDiag s n 3 false else s
        wr (modIo s fun x => { x with retry := nset x.retry n 0, offAt := nset x.offAt n (s.ticks + 1) }) .a (Reg.DIO_DOSTAT_RETRIES n) 0
    doBall (modIo s3 fun x => { x with openOff := nset x.openOff n 0 }) n

/-- Give every DO of a mask its bit of `v`. -/
def setDos (s : State) (mask v : Nat) : State :=
  (List.range 32).foldl (fun s n => if bit mask n then setDo s n (bit v n) else s) s

/-! ### Vote cells (R412 to R414) -/

/-- Is the vote input of a half absent? -/
def absent (s : State) : HalfId → Bool
  | .a => rdB s .a Reg.TRM_CELL_STAT_A_ABSENT
  | .b => rdB s .a Reg.TRM_CELL_STAT_B_ABSENT

/-- R413 over a mask of cells: the first matching row decides. -/
def voteCell (lockout hold aAbs bAbs : Bool) (andM lock a b : Nat) : Nat :=
  if lockout then lock
  else if hold then 0
  else if aAbs && bAbs then 0
  else if aAbs then b
  else if bAbs then a
  else ((a &&& b) &&& andM) ||| ((a ||| b) &&& (andM ^^^ 0xFFFFFFFF))

/-- A rise of FTO pins at the balls counts in both halves (R656). -/
def countFto (s : State) (rise : Nat) : State :=
  (List.range 16).foldl (fun s n => if bit rise n then (halves s).foldl (fun s h => count s h (0x1B4 + n)) s else s) s

/-- Evaluate every vote cell from the levels last signalled. -/
def cells (s : State) : State :=
  let aAbs := absent s .a
  let bAbs := absent s .b
  let io := s.field.io
  let lock := rdB s .a Reg.TRM_CELL_STAT_LOCKOUT
  let hold := rdB s .a Reg.TRM_CELL_STAT_BOOT_HOLD
  let trip := rd s .a Reg.TRM_CLASS_DO_TRIP
  let fa := if aAbs then 0 else io.voteA
  let fb := if bAbs then 0 else io.voteB
  let da := if aAbs then 0 else io.doA &&& trip
  let db := if bAbs then 0 else io.doB &&& trip
  let s1 := wr (wr s .a Reg.TRM_FTO_IN_A fa) .a Reg.TRM_FTO_IN_B fb
  let s2 := wr (wr s1 .a Reg.TRM_DO_IN_A_IN da) .a Reg.TRM_DO_IN_B_IN db
  let fto := voteCell lock hold aAbs bAbs (rd s .a Reg.TRM_VOTE_FTO_AND) (rd s .a Reg.TRM_VOTE_FTO_LOCK) fa fb
  let out := voteCell lock hold aAbs bAbs (rd s .a Reg.TRM_VOTE_DO_AND) (rd s .a Reg.TRM_LOCK_DO_LOCK) da db &&& trip
  let old := rd s2 .a Reg.TRM_FTO_OUT_NOW
  let s3 := wr (wr s2 .a Reg.TRM_FTO_OUT_NOW fto) .a Reg.TRM_FTO_OUT_HIST (rd s2 .a Reg.TRM_FTO_OUT_HIST ||| fto)
  let s4 := countFto s3 (fto &&& (old ^^^ 0xFFFF))
  setDos (wr s4 .a Reg.TRM_DO_OUT_OUT out) trip out

/-- The AND cells of the module. -/
def anyAnd (s : State) : Bool :=
  rd s .a Reg.TRM_VOTE_FTO_AND != 0 || rd s .a Reg.TRM_VOTE_DO_AND &&& rd s .a Reg.TRM_CLASS_DO_TRIP != 0

/-- A half's vote input becomes absent (R412, R413): one VOTE_DEGRADED with its cause, except on the PK9620
and for the power-down step of LAYUP (`record` false). -/
def voteAbsent (s : State) (h : HalfId) (cause : Nat) (record_ : Bool) : State :=
  if absent s h then s
  else
    let f := match h with | .a => Reg.TRM_CELL_STAT_A_ABSENT | .b => Reg.TRM_CELL_STAT_B_ABSENT
    let s1 := cells (wrB s .a f true)
    if record_ && twoHalves s && anyAnd s then
      let s2 := modIo s1 fun x => match h with
        | .a => { x with degradedA := s1.ticks + 1 }
        | .b => { x with degradedB := s1.ticks + 1 }
      ledgerField s2 0x0B02 (p4s [halfNo h, cause])
    else s1

/-- A half's vote input is present again: VOTE_RESTORED where its absence was recorded (R413). -/
def votePresent (s : State) (h : HalfId) : State :=
  if !absent s h then s
  else
    let f := match h with | .a => Reg.TRM_CELL_STAT_A_ABSENT | .b => Reg.TRM_CELL_STAT_B_ABSENT
    let s1 := cells (wrB s .a f false)
    let at_ := match h with | .a => s.field.io.degradedA | .b => s.field.io.degradedB
    if at_ = 0 then s1
    else
      let s2 := modIo s1 fun x => match h with
        | .a => { x with degradedA := 0 }
        | .b => { x with degradedB := 0 }
      ledgerField s2 0x0B03 (p4s [halfNo h, (s.ticks + 1 - at_) / 125000])

/-- Presence follows the overall state (R412, R516): withdrawn while it is failed, signalled again afterwards. -/
def presence (s : State) (h : HalfId) : State :=
  let failed := booted s h && rd s h Reg.TLY_OVERALL_OVERALL == 2
  if (half s h).gav.withdrawn == failed then s
  else
    let x := half s h
    let s1 := setHalf s h { x with gav := { x.gav with withdrawn := failed } }
    if failed then voteAbsent s1 h 3 true else votePresent s1 h

/-- A cause of a subsystem that can make the overall state failed (R524): presence follows. -/
def tallyVital (s : State) (h : HalfId) (k cause code ev : Nat) : State := presence (tallySet s h k cause code ev) h

/-! ### Inputs of the matrices (R288, R405 to R407) -/

/-- Bit `n` of the published image: Q, M or P by the word offset of the area in the logic window (R455, R474). -/
def pubBit (s : State) (h : HalfId) (base n : Nat) : Bool := bit (nget (half s h).lge.pub (base + n / 32)) (n % 32)

def areaQ : Nat := 0x800
def areaM : Nat := 0x10000
def areaP : Nat := 0x2000

/-- Fast function `f` as it runs. -/
def fastFn (s : State) (h : HalfId) (f : Nat) : FastFn := sget (fun _ => default) (half s h).dec.fastFn f
def genFn (s : State) (h : HalfId) (k : Nat) : GenFn := sget (fun _ => default) (half s h).dec.gen k
def arcElem (s : State) (h : HalfId) (n : Nat) : ArcElem := sget (fun _ => default) (half s h).dec.arc n

/-- VALID of a fast function's output (R275). -/
def fastOutValid (s : State) (h : HalfId) (f : Nat) : Bool :=
  !slotOn s h (192 + f) || ((fastFn s h f).seen && (fastFn s h f).valid)

/-- Value and quality byte of the input that a source record names (R405 to R407). -/
def sourceBit (s : State) (h : HalfId) (src : Nat) : Bool × Nat :=
  let kind := src % 256
  let sel := src / 256 % 256
  let i := src / 65536
  if kind = 1 then
    (getBank s h (if sel = 0 then Reg.FAB_OP_OP else Reg.FAB_PU_PU) i,
     (genFn s h i).qual % 128 + 128 * b2n (!getBank s h Reg.FAB_INV_INV i))
  else if kind = 2 then
    (getBank s h (if sel = 0 then loHi Reg.FST_OP_LO_OP Reg.FST_OP_HI_OP else loHi Reg.FST_PU_LO_PU Reg.FST_PU_HI_PU) i,
     64 * b2n (slotOn s h (192 + i) && (fastFn s h i).ovr) + 128 * b2n (fastOutValid s h i))
  else if kind = 3 then
    (if sel = 0 then rdBit s h Reg.ARC_ELEM_OP i else (arcElem s h i).pu, 128 * b2n (!rdBit s h Reg.ARC_ELEM_INV i))
  else if kind = 4 then (rdBit s h Reg.FST_FTI_STATE i, 128 * b2n (!rdBit s h Reg.FST_FTI_FAULT i))
  else if kind = 5 then (pubBit s h areaQ i, 128)
  else if kind = 6 then (pubBit s h areaM i, 128)
  else if kind = 7 then
    let w := pointWord (pointState s h i)
    (decide (w / 256 ≠ 0) && bit w 7 && !bit w 1, w % 256)
  else (false, 128)

/-- The fast-matrix inputs as an 80-bit mask (R288, R694). -/
def fastInputs (s : State) (h : HalfId) : Nat :=
  let ops := rd s h Reg.FST_OP_LO_OP + 2 ^ 32 * rd s h Reg.FST_OP_HI_OP
  let pts := ((ardCfg s h).subs.zipIdx).foldl (fun m e =>
    if e.1.fast && (sourceBit s h (7 + 65536 * e.2)).1 then m ||| 2 ^ e.1.n else m) 0
  ops + 2 ^ 48 * (rd s h Reg.FST_FTI_STATE ||| pts) + 2 ^ 64 * rd s h Reg.ARC_ELEM_OP

/-- The fast matrix of a half: 16 outputs, before mode gating (R288). -/
def fastMatrix (s : State) (h : HalfId) : Nat :=
  match (half s h).image with
  | some i => ((i.fastMatrix.zipIdx).foldl (fun m e => if bit (fastInputs s h) e.2 then m ||| e.1 else m) 0) % 65536
  | none => 0

/-! ### Publication of points (R687 to R691) -/

/-- Value word of chain output `des` (a designator of R233); a detector is valid only with the main output (R257). -/
def chainWord (s : State) (h : HalfId) (des : Nat) : Nat :=
  let c := sget (fun _ => default) (half s h).fe.chains (des % 256)
  let o := des / 256 % 8
  let held := fun (q : Nat) => q % 128 + min (q / 128) (c.q / 128) * 128
  if o = 0 then ofSigned 24 c.re * 256 + c.q
  else if o = 1 then c.pk % 2 ^ 24 * 256 + (c.pkQ ||| c.q) % 128 + c.q / 128 * 128
  else if o = 2 then c.rmsNow % 2 ^ 24 * 256 + held c.rmsQ
  else c.env % 2 ^ 24 * 256 + held c.envQ

/-- Is trip group `g` masked in TEST: one of its trip-class destinations is masked (log entry 21). -/
def groupMasked (s : State) (h : HalfId) (g : Nat) : Bool :=
  match (half s h).image with
  | some i => match i.tripDest[g]? with
    | some d => d.fto &&& (half s h).mode.maskFto != 0 || d.dos &&& (half s h).mode.maskDo != 0
    | none => false
  | none => false

/-- A C0 point of group `g` is sent with value 0 (R68, R691). -/
def c0Blocked (s : State) (h : HalfId) (g : Nat) : Bool :=
  (modeOf s h == mCOMMISSION && rdB s h Reg.SYS_MODE_C0_BLOCK) || (modeOf s h == mTEST && groupMasked s h g)

/-- Bits 6:0 of the quality byte of trip group `g`: the OR over its connected inputs (R407). -/
def groupQual (s : State) (h : HalfId) (g : Nat) : Nat :=
  match (half s h).image with
  | some i =>
    let row := i.tripRows.getD g 0
    (i.tripSrc.zipIdx).foldl (fun q e => if bit row e.2 && e.1 % 256 != 0 then q ||| (sourceBit s h e.1).2 % 128 else q) 0
  | none => 0

/-- Value word of a publication (R688, R696). -/
def pubWord (s : State) (h : HalfId) (r : PubRec) : Nat :=
  let kind := r.src % 256
  let i := r.src / 65536
  if kind = 8 then
    let act := getBank s h (loHi Reg.TRM_GRP_LO_ACT Reg.TRM_GRP_HI_ACT) i
    let inv := getBank s h (loHi Reg.TRM_GRP_INV_LO_INV Reg.TRM_GRP_INV_HI_INV) i
    256 * b2n (act && !(r.cls == 0 && c0Blocked s h i)) + 128 * b2n (!inv) + groupQual s h i
  else if kind = 0x10 then chainWord s h i
  else if kind = 0x12 then 256 * b2n (pubBit s h areaP i) + 128
  else
    let b := sourceBit s h r.src
    256 * b2n b.1 + b.2

/-- One UPDATE entry (R677): ID, TEST, CHANGE, USED, the value word and the change instant. -/
def updateEntry (s : State) (h : HalfId) (r : PubRec) (w : Nat) (changed : Bool) : List Byte :=
  le 4 (r.id + 2 ^ 20 * b2n (modeOf s h == mTEST) + 2 ^ 21 * b2n changed + 2 ^ 31) ++ le 4 w ++
    le 4 (nsOf (now s)) ++ le 4 (secOf (now s))

/-- May this half send points of the class now (R68, R416, R689)? -/
def mayPublish (s : State) (h : HalfId) (cls : Nat) : Bool :=
  if cls = 0 then modeOf s h != mBOOT && modeOf s h != mLOCKOUT else leaderPublishes s h

/-- Send publication `k` with word `w`; `at_` is the instant that a C0 frame carries. -/
def sendPoint (s : State) (h : HalfId) (r : PubRec) (w : Nat) (changed : Bool) (at_ : Nat) : State :=
  if !mayPublish s h r.cls then s
  else if r.cls = 0 then
    sendFrame s h 0 1 0x3FFF
      (le 4 (r.id + 2 ^ 24 * b2n (decide (w / 256 ≠ 0)) + 2 ^ 25 * b2n changed) ++ timeBytes at_)
  else sendFrame s h 2 1 0x3FFF (le 4 0 ++ updateEntry s h r w changed ++ List.replicate 16 0)

/-- Send publication `k` with its present value word (R677, R688); a changed C0 point has two repeats to come (R691). -/
def publish (s : State) (h : HalfId) (k : Nat) (changed : Bool) : State :=
  match (ardCfg s h).pubs[k]? with
  | none => s
  | some r =>
    let w := pubWord s h r
    let s1 := modArd s h fun d => { d with
      published := nset d.published k w
      repeats := if r.cls = 0 && changed then nset d.repeats k 2 else d.repeats
      changeAt := if changed then nset d.changeAt k (now s) else d.changeAt }
    let s2 := sendPoint s1 h r w changed (now s)
    if changed then gooseScan s2 h else s2

/-- A publication has changed: its value word, and a C0 point, which carries no quality, its value (R688, R691). -/
def pubChanged (r : PubRec) (old new : Nat) : Bool := if r.cls = 0 then old / 256 != new / 256 else old != new

/-- Send every publication whose source satisfies `p` and that has changed (R688). -/
def publishChanges (s : State) (h : HalfId) (p : PubRec → Bool) : State :=
  ((ardCfg s h).pubs.zipIdx).foldl (fun s e =>
    if p e.1 && pubChanged e.1 (nget (half s h).ard.published e.2) (pubWord s h e.1) then publish s h e.2 true else s) s

/-- Publications whose source is logic: Q, M or P (R688). -/
def pubLogic (r : PubRec) : Bool := r.src % 256 == 5 || r.src % 256 == 6 || r.src % 256 == 0x12

/-! ### The general trip matrix (R404 to R409) -/

/-- Masks of the inputs that are 1 and of those whose VALID is 0 (R406, R407). -/
def matrixInputs (s : State) (h : HalfId) (src : List Nat) : Nat × Nat :=
  (src.zipIdx).foldl (fun m e =>
    if e.1 % 256 = 0 then m
    else
      let b := sourceBit s h e.1
      (if b.1 then m.1 + 2 ^ e.2 else m.1, if bit b.2 7 then m.2 else m.2 + 2 ^ e.2)) (0, 0)

/-- Masks of the 64 groups that are active and that are not VALID (R404, R407). -/
def groupMasks (s : State) (h : HalfId) : Nat × Nat :=
  match (half s h).image with
  | some i =>
    let m := matrixInputs s h i.tripSrc
    (i.tripRows.zipIdx).foldl (fun g e =>
      (if e.1 &&& m.1 ≠ 0 then g.1 + 2 ^ e.2 else g.1, if e.1 &&& m.2 ≠ 0 then g.2 + 2 ^ e.2 else g.2)) (0, 0)
  | none => (0, 0)

/-- The first input of group `g` found active. -/
def firstActive (s : State) (h : HalfId) (g : Nat) : Nat :=
  match (half s h).image with
  | some i =>
    let m := i.tripRows.getD g 0 &&& (matrixInputs s h i.tripSrc).1
    ((List.range 512).find? fun k => bit m k).getD 0
  | none => 0

/-- OR of the FTO or DO destinations of the active groups. -/
def groupDest (s : State) (h : HalfId) (act : Nat) (f : TripDest → Nat) : Nat :=
  match (half s h).image with
  | some i => (i.tripDest.zipIdx).foldl (fun m e => if bit act e.2 then m ||| f e.1 else m) 0
  | none => 0

/-- This half's vote inputs after the gating of its mode (R61, R68, R70, R91). -/
def gateVote (s : State) (h : HalfId) (fto dos : Nat) : Nat × Nat :=
  let m := modeOf s h
  if m = mBOOT then (0, 0)
  else if m = mCOMMISSION then
    (fto &&& (rd s h Reg.SYS_BLOCK_FTO_BLOCK ^^^ 0xFFFF), dos &&& (rd s h Reg.SYS_BLOCK_DO_BLOCK ^^^ 0xFFFFFFFF))
  else if m = mTEST then
    (fto &&& ((half s h).mode.maskFto ^^^ 0xFFFF), dos &&& ((half s h).mode.maskDo ^^^ 0xFFFFFFFF))
  else (fto, dos)

/-- Signal a half's vote inputs to the field die and evaluate the cells. -/
def signalVote (s : State) (h : HalfId) : State :=
  let act := rd s h Reg.TRM_GRP_LO_ACT + 2 ^ 32 * rd s h Reg.TRM_GRP_HI_ACT
  let v := gateVote s h (rd s h Reg.FST_MTX_NOW ||| groupDest s h act TripDest.fto) (groupDest s h act TripDest.dos)
  cells (modIo s fun x => match h with
    | .a => { x with voteA := v.1 % 65536, doA := v.2 % 2 ^ 32 }
    | .b => { x with voteB := v.1 % 65536, doB := v.2 % 2 ^ 32 })

/-- What the rise of trip group `g` records (R408, R425, R547): its count, TRIP_GROUP, queue item, and the
trigger on its way to the recorder areas it names. -/
def groupRise (s : State) (h : HalfId) (g : Nat) : State :=
  let s1 := count s h (0x104 + g)
  let first := firstActive s1 h g
  let s2 := ledgerOnce s1 h (0x500 + g) 0x0B01 fun m => p4s [g, first] ++ timeBytes (now s1) ++ p4 m
  let s3 := qPush s2 h 3 (qItem s2 h (0x500 + g) 0x0B01 (p4s [g, first]))
  let areas := match (half s h).image with
    | some i => match i.tripDest[g]? with | some d => d.areas | none => 0
    | none => 0
  if areas = 0 then s3 else modDec s3 h fun d => { d with due := d.due ++ [(areas, 1, g, now s3)] }

/-- Evaluate the fast matrix, the trip matrix and everything that follows a change (R288, R404, R409). -/
def decideOut (s : State) (h : HalfId) : State :=
  let mtx := fastMatrix s h
  let s1 := wr (wr s h Reg.FST_MTX_NOW mtx) h Reg.FST_MTX_HIST (rd s h Reg.FST_MTX_HIST ||| mtx)
  let old := rd s1 h Reg.TRM_GRP_LO_ACT + 2 ^ 32 * rd s1 h Reg.TRM_GRP_HI_ACT
  let g := groupMasks s1 h
  let s2 := wr (wr s1 h Reg.TRM_GRP_LO_ACT (g.1 % 2 ^ 32)) h Reg.TRM_GRP_HI_ACT (g.1 / 2 ^ 32)
  let s3 := wr (wr s2 h Reg.TRM_GRP_INV_LO_INV (g.2 % 2 ^ 32)) h Reg.TRM_GRP_INV_HI_INV (g.2 / 2 ^ 32)
  let s4 := wr s3 h Reg.TRM_GRP_HIST_LO_HIST (rd s3 h Reg.TRM_GRP_HIST_LO_HIST ||| g.1 % 2 ^ 32)
  let s5 := wr s4 h Reg.TRM_GRP_HIST_HI_HIST (rd s4 h Reg.TRM_GRP_HIST_HI_HIST ||| g.1 / 2 ^ 32)
  let s6 := (List.range 64).foldl (fun s k => if bit g.1 k && !bit old k then groupRise s h k else s) s5
  signalVote (publishChanges s6 h fun r => !pubLogic r && r.src % 256 != 0x10) h

/-! ### Arc elements (R388, R389) -/

/-- The settings word of arc channel `n`: slot 240 + n div 4, word 1 + 3j + i. -/
def arcF (s : State) (h : HalfId) (n i hi lo : Nat) : Nat := slotF s h (240 + n / 4) (1 + 3 * (n % 4) + i) hi lo

/-- Fast function `f` operates (R388); 0xFF names none. -/
def fastOp (s : State) (h : HalfId) (f : Nat) : Bool := f != 0xFF && (fastFn s h f).op

/-- Output VALID of arc element `n` (R389). -/
def arcValid (s : State) (h : HalfId) (n : Nat) : Bool :=
  let a := arcF s h n 1 23 16
  let b := arcF s h n 1 31 24
  let named := [a, b].filter fun f => f != 0xFF
  !(rdBit s .a Reg.ARC_SUP_FAIL n || rdBit s .a Reg.ARC_SUP_OBSC n) &&
    !(arcF s h n 0 31 30 == 1 && !named.isEmpty && named.all fun f => !fastOutValid s h f)

/-- Evaluate arc element `n` of a half (R388, R389). -/
def arcEval (s : State) (h : HalfId) (n : Nat) : State :=
  let e := arcElem s h n
  let on := slotOn s h (240 + n / 4)
  let mode := if on then arcF s h n 0 31 30 else 0
  let light := rdBit s .a Reg.ARC_LIGHT_LIGHT n
  let lightQ := rdBit s .a Reg.ARC_LIGHT_LIGHTQ n
  let cur := fastOp s h (arcF s h n 1 23 16) || e.aExt || fastOp s h (arcF s h n 1 31 24) || e.bExt
  let op := if mode = 1 then (light || e.lightExt) && cur else if mode = 2 then lightQ || e.qExt else false
  let pu := if mode = 1 then light else if mode = 2 then lightQ else false
  let e1 := { e with op := op, pu := pu, start := if pu && !e.pu then now s else e.start }
  let s1 := modDec s h fun d => { d with arc := sset (fun _ => default) d.arc n e1 }
  let s2 := wrBit (wrBit s1 h Reg.ARC_ELEM_OP n op) h Reg.ARC_ELEM_INV n (!arcValid s1 h n)
  if op && !e.op then
    let s3 := count s2 h (0x0F4 + n)
    let s4 := ledgerOnce s3 h (0x400 + n) 0x0A01 fun m => p4s [n, mode] ++ timeBytes e1.start ++ p4 m
    qPush s4 h 2 (qItem s4 h (0x400 + n) 0x0A01 (p4s [n, mode]))
  else s2

/-- Start the STRETCH of the elements of a half whose current function `f` has fallen (R388). -/
def arcStretch (s : State) (h : HalfId) (f : Nat) : State :=
  modDec s h fun d => { d with arc := (List.range 16).foldl (fun m n =>
    let e := sget (fun _ => default) m n
    let ext := arcF s h n 1 15 8 != 0
    sset (fun _ => default) m n { e with
      aExt := e.aExt || (ext && arcF s h n 1 23 16 == f), bExt := e.bExt || (ext && arcF s h n 1 31 24 == f) }) d.arc }

/-- Evaluate every arc element of a half, where the variant has arc. -/
def arcEvalAll (s : State) (h : HalfId) : State :=
  if hasArc s then (List.range 16).foldl (fun s n => arcEval s h n) s else s

end Sys2Proof.Machine
end

