-- ==== Sys2Proof/Machine/Recorder.lean ====
section
/-!
DEFINITION. The disturbance recorder (R536 to R574): areas, sample storage, triggers, segments, measurements.
The commit job, which compresses through Crate, stands in Commit.lean.
-/

namespace Sys2Proof.Machine

open Sys2Proof (Byte HalfId)

/-- Change the recorder of a half. -/
def modAcq (s : State) (h : HalfId) (f : Recorder → Recorder) : State :=
  let x := half s h
  setHalf s h { x with acq := f x.acq }

/-- The image's record of area `a`, where it defines one. -/
def areaRec (s : State) (h : HalfId) (a : Nat) : Option AreaRec :=
  match (half s h).image with
  | some i => match i.areas[a]? with
    | some r => if r.kind = 0 then none else some r
    | none => none
  | none => none

/-- The running state of area `a`. -/
def areaRun (s : State) (h : HalfId) (a : Nat) : AreaRun := sget (fun _ => default) (half s h).acq.runs a

/-- Replace it. -/
def setRun (s : State) (h : HalfId) (a : Nat) (r : AreaRun) : State :=
  modAcq s h fun q => { q with runs := sset (fun _ => default) q.runs a r }

/-- The image response of a chain of an image. -/
def chainResp (i : Image) (c : Nat) : Nat :=
  match i.chains.find? fun r => r.chain == c with
  | some r => r.resp
  | none => 0xFF

/-- Bytes of one entry at a sample instant (R537): fast word, sample word, or phasor pair. -/
def entrySize (i : Image) (r : AreaRec) (e : Nat) : Nat :=
  if r.kind = 1 then 2
  else
    let resp := chainResp i (e % 256)
    if e / 256 % 8 = 0 ∧ 6 ≤ resp ∧ resp ≤ 13 then 8 else 4

/-- W, the bytes per sample instant (R537). -/
def instW (i : Image) (r : AreaRec) : Nat :=
  (if r.kind = 3 then 4 else 0) + (r.entries.map (entrySize i r)).foldl (· + ·) 0

/-- Byte offset of entry `k` inside a sample instant. -/
def entryOff (i : Image) (r : AreaRec) (k : Nat) : Nat :=
  (if r.kind = 3 then 4 else 0) + ((r.entries.take k).map (entrySize i r)).foldl (· + ·) 0

/-- DATA_OFFSET and MEAS_OFFSET (R551). -/
def dataOffset (r : AreaRec) : Nat := 256 + 80 * r.c
def measOffset (r : AreaRec) : Nat := 256 + 16 * r.c

/-- The banks of an area, ascending. -/
def areaBanks (r : AreaRec) : List Nat := (List.range 4).filter fun k => bit r.banks k

/-- Acquisition-memory address of byte `o` of a segment slot: 64-bit words striped over the banks (R551). -/
def slotAddr (r : AreaRec) (slot o : Nat) : Nat :=
  let n := max 1 (areaBanks r).length
  let w := o / 8
  (areaBanks r).getD (w % n) 0 * 0x400000 + r.base + slot * (r.slotBytes / n) + w / n * 8 + o % 8

/-- Store bytes at offset `o` of a segment slot. -/
def slotPut (m : List (Nat × Byte)) (r : AreaRec) (slot o : Nat) : List Byte → List (Nat × Byte)
  | [] => m
  | b :: t => slotPut (putByte m (slotAddr r slot o) b) r slot (o + 1) t

/-- Read bytes at offset `o` of a segment slot. -/
def slotGet (m : List (Nat × Byte)) (r : AreaRec) (slot o n : Nat) : List Byte :=
  (List.range n).map fun i => byteAt m (slotAddr r slot (o + i))

/-- Sample period in ps of an area (R552); 0 for a tracked one. -/
def periodPs (i : Image) (r : AreaRec) : Nat :=
  if r.kind = 1 then 50000
  else if r.kind = 2 then
    match chainResp i (r.entries.headD 0 % 256) with
    | 0 => 3906250
    | 1 => 31250000
    | 2 => 125000000
    | _ => 250000000
  else 0

/-! ### Arming and segments not committed (R544, R545) -/

/-- A segment of area `a` counts as not committed: the counts, the Tally cause, and REC_NOT_COMMITTED at most
once per second per area (cause 1 overwrite, 2 commit failure, 3 power-fail). -/
def notCommitted (s : State) (h : HalfId) (a cause : Nat) : State :=
  let s1 := satAdd (satAdd s h (Reg.ACQ_ALOST_NOT_COMMITTED a) 1) h Reg.ACQ_LOST_NOT_COMMITTED 1
  let s2 := tallySet (count s1 h (0x23C + 3 * a + 2)) h 12 1 1 0x0F01
  let r := areaRun s2 h a
  if r.lostAt = 0 ∨ r.lostAt + 125000000 ≤ s.ticks + 1 then
    let s3 := setRun s2 h a { r with lostSince := 0, lostAt := s.ticks + 1 }
    ledger s3 h (0x600 + a) 0x0F01 (p4s [a, r.lostSince + 1, cause])
  else setRun s2 h a { r with lostSince := r.lostSince + 1 }

/-- Is the slot of a commit job's segment being read (R545)? -/
def slotRead (s : State) (h : HalfId) (a slot : Nat) : Bool :=
  match (half s h).acq.job with
  | some (ja, js) => (half s h).acq.segs.any fun g => g.area == ja && g.seq == js && ja == a && g.slot == slot
  | none => false

/-- The next slot in ring order, skipping one a commit job reads. -/
def nextSlot (s : State) (h : HalfId) (a segs slot : Nat) : Nat :=
  let n := (slot + 1) % max 1 segs
  if slotRead s h a n then (n + 1) % max 1 segs else n

/-- Bytes 0 to 123 of the segment header in acquisition memory (R552); STATE 0 armed, 1 triggered, 2 closed. -/
def headerBody (s : State) (h : HalfId) (i : Image) (ar : AreaRec) (a : Nat) (r : AreaRun) (st : Nat) : List Byte :=
  [0x53, 0x45, 0x47, 0x31, 0x01].map (BitVec.ofNat 8) ++
    [BitVec.ofNat 8 a, BitVec.ofNat 8 (halfNo h), BitVec.ofNat 8 ar.kind] ++ le 2 r.flags ++
    [BitVec.ofNat 8 ar.c, BitVec.ofNat 8 st] ++ le 4 r.seq ++ le 4 r.preActual ++ le 4 r.postDone ++ le 4 ar.pre ++
    le 4 (periodPs i ar) ++ timeBytes r.tFirst ++ timeBytes r.tTrig ++ timeBytes r.tLast ++ le 2 r.timeQ ++
    le 4 r.trigCount ++ [BitVec.ofNat 8 r.trigs.length, BitVec.ofNat 8 r.mode, BitVec.ofNat 8 r.group, 0] ++
    le 4 i.serial ++ i.hash.take 8 ++ le 4 (dataOffset ar) ++ le 4 (ceilDiv (ar.maxLen * instW i ar) 8 * 8) ++
    le 4 (measOffset ar) ++ le 2 ar.measMask ++ le 2 (instW i ar) ++ le 4 r.ringStart ++
    le 4 (half s h).acq.runId ++ le 4 s.store.pcycle ++ List.replicate 12 0

/-- The native form of those bytes (R552, R556): DATA_LENGTH of `n` sample instants, RING_START 0. -/
def nativeHead (b : List Byte) (n w : Nat) : List Byte :=
  b.take 88 ++ le 4 (ceilDiv (n * w) 8 * 8) ++ (b.drop 92).take 8 ++ le 4 0 ++ (b.drop 104).take 20

/-- The header of a closed segment, HDR_CRC over its native form. -/
def headerBytes (s : State) (h : HalfId) (i : Image) (ar : AreaRec) (a : Nat) (r : AreaRun) : List Byte :=
  let b := headerBody s h i ar a r 2
  b ++ le 4 (crc32 (nativeHead b (r.preActual + r.postDone) (instW i ar)))

/-- Write the header of the slot of a segment that is not closed: HDR_CRC 0. -/
def openHeader (s : State) (h : HalfId) (a st : Nat) : State :=
  match areaRec s h a, (half s h).image with
  | some ar, some i =>
    let r := areaRun s h a
    modAcq s h fun q => { q with mem := slotPut q.mem ar r.slot 0 (headerBody s h i ar a r st ++ le 4 0) }
  | _, _ => s

/-- Arm an area in its next slot, overwriting what the slot holds (R545). -/
def armArea (s : State) (h : HalfId) (a : Nat) : State :=
  match areaRec s h a with
  | none => s
  | some ar =>
    let r := areaRun s h a
    let slot := nextSlot s h a ar.segs r.slot
    let lost := (half s h).acq.segs.any fun g => g.area == a && g.slot == slot && g.pending
    let s1 := modAcq s h fun q => { q with segs := q.segs.filter fun g => !(g.area == a && g.slot == slot) }
    let s2 := if lost && bit ar.flags 0 then notCommitted s1 h a 1 else s1
    let s3 := setRun s2 h a { areaRun s2 h a with
      state := 1, stopped := 0, slot := slot, n := 0, ring := [], newest := [], preActual := 0, postDone := 0
      postLeft := 0, ringStart := 0, trigs := [], trigCount := 0, flags := 0, changes := [], timeQ := 0 }
    openHeader s3 h a 0

/-- Note in every armed or triggered area a change of what the entries that `p` selects show (R554). -/
def noteChange (s : State) (h : HalfId) (p : AreaRec → Nat → Bool) (what old : Nat) : State :=
  (List.range 8).foldl (fun s a =>
    match areaRec s h a with
    | some ar =>
      let r := areaRun s h a
      let new := ((ar.entries.zipIdx).filter fun e => p ar e.1).map fun e => (e.2, what, now s, old)
      if r.state = 0 ∨ new.isEmpty = true then s else setRun s h a { r with changes := new ++ r.changes }
    | none => s) s

/-- Changes of entry `k` during the segment, newest first: the values before them. -/
def changesOf (r : AreaRun) (k what : Nat) : List Nat :=
  (r.changes.filter fun c => c.1 == k && c.2.1 == what && decide (r.tFirst ≤ c.2.2.1)).map fun c => c.2.2.2

/-- The value of what entry `k` shows at T_FIRST. -/
def atFirst (r : AreaRun) (k what cur : Nat) : Nat := ((changesOf r k what).getLast?).getD cur

/-- CFLAGS of entry `k` naming `e` (R554). -/
def entryFlags (s : State) (h : HalfId) (i : Image) (ar : AreaRec) (r : AreaRun) (k e : Nat) : Nat :=
  if ar.kind = 1 then b2n (!(changesOf r k 0).isEmpty || !(changesOf r k 1).isEmpty)
  else
    let resps := rd s h (Reg.PCV_FLT_CFG_RESP_NOW (e % 256)) :: changesOf r k 2
    2 * b2n (resps.any fun v => v != chainResp i (e % 256))

/-- One channel-table entry (R554). -/
def channelBytes (s : State) (h : HalfId) (i : Image) (ar : AreaRec) (r : AreaRun) (k e : Nat) : List Byte :=
  let fast := ar.kind = 1
  let src := match i.chains.find? fun c => c.chain == e % 256 with
    | some c => c.src
    | none => 0
  let resp := atFirst r k 2 (rd s h (Reg.PCV_FLT_CFG_RESP_NOW (e % 256)))
  le 2 e ++ [BitVec.ofNat 8 (if fast then 0x80 + e else src),
    BitVec.ofNat 8 (if fast then 0xFF else resp),
    BitVec.ofNat 8 (match entrySize i ar e with | 2 => 0 | 4 => 1 | _ => 2),
    BitVec.ofNat 8 (entryFlags s h i ar r k e), 0, 0] ++
  le 2 (if fast then atFirst r k 0 (rd s h (Reg.FCV_OFF_OFFSET e)) else 0) ++
  le 2 (if fast then atFirst r k 1 (rd s h (Reg.FCV_GAIN_GAIN e)) else 0) ++ [0, 0, 0, 0]

/-- One trigger-list entry (R555). -/
def trigBytes (t0 : Nat) (t : TrigEntry) : List Byte :=
  [BitVec.ofNat 8 t.kind, 0] ++ le 2 t.index ++ le 4 t.tseq ++ leInt 4 ((t.time : Int) - t0) ++ le 4 t.sample

/-- Close the triggered segment of an area (R544): header, channel table and trigger list are written, the
segment is held, and pending when the area commits. -/
def closeSegment (s : State) (h : HalfId) (a extra : Nat) : State :=
  match areaRec s h a, (half s h).image with
  | some ar, some i =>
    let r0 := areaRun s h a
    let cf := (ar.entries.zipIdx).foldl (fun f e => f ||| entryFlags s h i ar r0 e.2 e.1) 0
    let n := r0.preActual + r0.postDone
    let per := periodPs i ar
    let r := { r0 with
      flags := r0.flags ||| extra ||| (if bit cf 0 then 32 else 0) ||| (if bit cf 1 then 64 else 0)
      tLast := if per = 0 then r0.tLast else r0.tFirst + (n - 1) * per / 1000
      timeQ := putBit r0.timeQ 1 (synced s) }
    let hdr := headerBytes s h i ar a r
    let tab := ((ar.entries.zipIdx).map fun e => channelBytes s h i ar r e.2 e.1).flatten
    let trg := (r.trigs.map (trigBytes r.tTrig)).flatten
    let s1 := modAcq s h fun q => { q with
      mem := slotPut (slotPut (slotPut q.mem ar r.slot 0 hdr) ar r.slot 128 tab) ar r.slot (measOffset ar - 128)
        (trg ++ List.replicate (128 - trg.length) 0)
      segs := q.segs ++ [{ area := a, slot := r.slot, seq := r.seq, pre := r.preActual, post := r.postDone
                           ringStart := r.ringStart, tTrig := r.tTrig, tClose := r.tLast, flags := r.flags
                           measured := false, pending := bit ar.flags 0, retried := false }] }
    let s2 := wr (wr s1 h (Reg.ACQ_ALAST_FLAGS a) r.flags) h (Reg.ACQ_ALAST_SLOT a) r.slot
    let s3 := count (wr s2 h (Reg.ACQ_ASEQ_SEQ a) r.seq) h (0x23C + 3 * a + 1)
    let s4 := qPush s3 h 4 (qItem s3 h (0x600 + a) 0 (p4s [a, r.seq, r.flags]))
    setRun s4 h a { areaRun s4 h a with seq := (r.seq + 1) % 2 ^ 32, state := 0 }
  | _, _ => s

/-- Bits of FLAGS (R553) and the states that stop an area. -/
def fPOWERFAIL : Nat := 2
def fTRUNCATED : Nat := 16

/-- Stop an area (R544): an armed slot is discarded, a triggered segment closes with the flags `extra`. -/
def stopArea (s : State) (h : HalfId) (a by_ extra : Nat) : State :=
  let s1 := if (areaRun s h a).state = 2 then closeSegment s h a extra else s
  if (areaRun s h a).state = 0 ∧ (areaRun s h a).stopped = 1 then s1
  else setRun s1 h a { areaRun s1 h a with state := 0, stopped := by_, ring := [], newest := [], n := 0 }

/-- Areas 0 to 7 that the image defines. -/
def definedAreas (s : State) (h : HalfId) : List Nat := (List.range 8).filter fun a => (areaRec s h a).isSome

/-- Arm every area that no STOP holds, from a fresh ring position at boot (R563). -/
def armAll (s : State) (h : HalfId) (only : AreaRec → Bool) : State :=
  (definedAreas s h).foldl (fun s a =>
    match areaRec s h a with
    | some ar => if only ar && (areaRun s h a).stopped != 1 && (areaRun s h a).state == 0 then armArea s h a else s
    | none => s) s

/-- Boot step 11: every area arms, its first slot being slot 0 (R563). -/
def recorderStart (s : State) (h : HalfId) : State :=
  let s1 := (definedAreas s h).foldl (fun s a =>
    match areaRec s h a with
    | some ar => setRun s h a { (default : AreaRun) with slot := ar.segs - 1 }
    | none => s) s
  armAll s1 h fun _ => true

/-! ### Samples -/

/-- Store one whole sample instant: in the ring while armed, after the trigger sample while triggered. -/
def storeInstant (s : State) (h : HalfId) (i : Image) (ar : AreaRec) (a inst : Nat) (bs : List Byte) : State :=
  let r := areaRun s h a
  let w := instW i ar
  if r.state = 1 then
    let r1 := { r with n := r.n + 1, ring := ((inst, bs) :: r.ring).take (ar.pre + 1), tLast := inst }
    let s1 := setRun s h a r1
    if ar.pre = 0 then s1
    else modAcq s1 h fun q => { q with mem := slotPut q.mem ar r.slot (dataOffset ar + r.n % ar.pre * w) bs }
  else if r.state = 2 ∧ 0 < r.postLeft ∧ r.preActual + r.postDone < ar.maxLen then
    let r1 := { r with n := r.n + 1, postDone := r.postDone + 1, postLeft := r.postLeft - 1, tLast := inst
                       tFirst := if r.preActual + r.postDone = 0 then inst else r.tFirst }
    modAcq (setRun s h a r1) h fun q => { q with
      mem := slotPut q.mem ar r.slot (dataOffset ar + (ar.pre + r.postDone) * w) bs }
  else s

/-- Does entry `e` run below its area's rate, its chain's response being switched (R252, R253, R554)? -/
def entrySlow (s : State) (h : HalfId) (i : Image) (ar : AreaRec) (e : Nat) : Bool :=
  ar.kind == 2 && decide (chainResp i (e % 256) < rd s h (Reg.PCV_FLT_CFG_RESP_NOW (e % 256)))

/-- The entry whose arrival ends a sample instant: the last one at the area's rate, else the last (log entry 14). -/
def lastEntry (s : State) (h : HalfId) (i : Image) (ar : AreaRec) : Nat :=
  match (ar.entries.zipIdx.filter fun e => !entrySlow s h i ar e.1).getLast? with
  | some e => e.2
  | none => ar.entries.length - 1

/-- The bytes of a sample instant from the newest bytes of every entry, the time offset of a TRACKED area first. -/
def instantBytes (i : Image) (ar : AreaRec) (r : AreaRun) (inst : Nat) : List Byte :=
  let off := if r.state = 1 then (match r.ring.getLast? with | some e => inst - e.1 | none => 0) else inst - r.tFirst
  (if ar.kind = 3 then le 4 off else []) ++ ((ar.entries.zipIdx).map fun e =>
    let bs := sget (fun _ => []) r.newest e.2
    (bs ++ List.replicate (entrySize i ar e.1) 0).take (entrySize i ar e.1)).flatten

/-- Instants between the last one stored and `inst` that an area of slowed chains alone repeats (R554). -/
def repeatInstants (s : State) (h : HalfId) (a inst : Nat) : State :=
  match areaRec s h a, (half s h).image with
  | some ar, some i =>
    let r := areaRun s h a
    let per := periodPs i ar
    if (ar.entries.all fun e => entrySlow s h i ar e) && r.n != 0 && per != 0 then
      (List.range (min 64 (((inst - r.tLast) * 1000 + per / 2) / per) - 1)).foldl (fun s j =>
        let t := r.tLast + (j + 1) * per / 1000
        storeInstant s h i ar a t (instantBytes i ar (areaRun s h a) t)) s
    else s
  | _, _ => s

/-- One entry of an area arrives: the instant is stored when the last entry at the area's rate has arrived, and a slower
entry repeats its newest bytes. -/
def recordEntry (s : State) (h : HalfId) (a k inst : Nat) (bs : List Byte) : State :=
  match areaRec s h a, (half s h).image with
  | some ar, some i =>
    if (areaRun s h a).state = 0 then s
    else
      let last := k == lastEntry s h i ar
      let s1 := if last then repeatInstants s h a inst else s
      let r := areaRun s1 h a
      let r1 := { r with newest := sset (fun _ => []) r.newest k bs }
      let s2 := setRun s1 h a r1
      if last then storeInstant s2 h i ar a inst (instantBytes i ar r1 inst) else s2
  | _, _ => s

/-- Give an arriving entry to every area of a kind that lists it. -/
def recordSample (s : State) (h : HalfId) (p : AreaRec → Nat → Bool) (inst : Nat) (bs : List Byte) : State :=
  (definedAreas s h).foldl (fun s a =>
    match areaRec s h a with
    | some ar => (ar.entries.zipIdx).foldl (fun s e => if p ar e.1 then recordEntry s h a e.2 inst bs else s) s
    | none => s) s

/-! ### Triggers (R547 to R550) -/

/-- Held samples newer than the trigger instant. -/
def newerCount (ring : List (Nat × List Byte)) (inst : Nat) : Nat := (ring.takeWhile fun e => inst < e.1).length

/-- Turn the armed segment into a triggered one (R543, R550). -/
def startTrigger (s : State) (h : HalfId) (i : Image) (ar : AreaRec) (a inst : Nat) (t : TrigEntry) (fl : Nat) : State :=
  let r := areaRun s h a
  let k0 := newerCount r.ring inst
  let m := r.ring.length
  -- no held sample at or before the instant: the oldest held is the trigger sample
  let k := if k0 = m then m - 1 else k0
  let posts0 := (r.ring.take (k + 1)).reverse
  let pres0 := ((r.ring.drop (k + 1)).take ar.pre).reverse
  let w := instW i ar
  let pre := pres0.length
  let ringStart := 0
  let tFirst := match pres0, posts0 with
    | p :: _, _ => p.1
    | [], p :: _ => p.1
    | [], [] => inst
  -- the time offset of a TRACKED area counts from the first sample of the segment
  let mend := fun (e : Nat × List Byte) => if ar.kind = 3 then (e.1, le 4 (e.1 - tFirst) ++ e.2.drop 4) else e
  let pres := pres0.map mend
  let posts := posts0.map mend
  let mem1 := (pres.zipIdx).foldl (fun m e => slotPut m ar r.slot (dataOffset ar + e.2 * w) e.1.2) (half s h).acq.mem
  let mem2 := (posts.zipIdx).foldl (fun m e => slotPut m ar r.slot (dataOffset ar + (ar.pre + e.2) * w) e.1.2) mem1
  let flags := fl ||| (if pre < ar.pre ∨ k0 = m then 1 else 0) |||
    (if modeOf s h = mTEST then 4 else 0) ||| (if modeOf s h = mLAYUP then 256 else 0)
  let s1 := modAcq s h fun q => { q with mem := mem2 }
  setRun s1 h a { r with
    state := 2, preActual := pre, postDone := posts.length, postLeft := ar.post - posts.length
    ringStart := ringStart, trigs := [{ t with sample := pre }], trigCount := 1, flags := flags
    mode := modeOf s h, group := rd s h Reg.SET_ACTIVE_ACTIVE, tFirst := tFirst, tTrig := inst
    tLast := (match r.ring with | e :: _ => e.1 | [] => inst)
    timeQ := putBit r.timeQ 0 (synced s), tseq := (r.tseq + 1) % 2 ^ 32, ring := [] }

/-- Index in a triggered segment of the latest sample with its instant at or before `inst` (R550), at the area's period
or by the time offsets that a TRACKED area stores. -/
def sampleIndex (s : State) (h : HalfId) (i : Image) (ar : AreaRec) (r : AreaRun) (inst : Nat) : Nat :=
  let total := r.preActual + r.postDone
  let pos := fun (n : Nat) => if n < r.preActual then n else ar.pre + (n - r.preActual)
  let before := fun (n : Nat) => decide (r.tFirst +
    unLe (slotGet (half s h).acq.mem ar r.slot (dataOffset ar + pos n * instW i ar) 4) ≤ inst)
  if ar.kind = 3 then ((List.range total).filter before).length - 1
  else min (total - 1) ((inst - r.tFirst) * 1000 / max 1 (periodPs i ar))

/-- A further trigger of a triggered segment: counted and listed; with EXTEND the post-trigger count restarts at its
sample (R544). -/
def moreTrigger (s : State) (h : HalfId) (i : Image) (ar : AreaRec) (a : Nat) (t : TrigEntry) : State :=
  let r := areaRun s h a
  let k := sampleIndex s h i ar r t.time
  let trigs := if r.trigs.length < 8 then r.trigs ++ [{ t with sample := k }] else r.trigs
  let r1 := { r with trigs := trigs, trigCount := r.trigCount + 1, tseq := (r.tseq + 1) % 2 ^ 32 }
  setRun s h a (if bit ar.flags 2 then
    { r1 with postLeft := max r.postLeft (ar.post + k - (r.preActual + r.postDone)), flags := r1.flags ||| 8 } else r1)

/-- A trigger reaches area `a` (R549, R550); discarded while the area is stopped or after power-fail. -/
def triggerArea (s : State) (h : HalfId) (a kind index inst fl : Nat) : State :=
  match areaRec s h a, (half s h).image with
  | some ar, some i =>
    let r := areaRun s h a
    if r.state = 0 ∨ rdB s h Reg.PWR_PF_STAT_PF = true then s
    else
      let t : TrigEntry := { kind := kind, index := index, tseq := r.tseq, time := inst, sample := 0 }
      let s1 := if r.state = 1 then openHeader (startTrigger s h i ar a inst t fl) h a 1 else moreTrigger s h i ar a t
      evBump (count s1 h (0x23C + 3 * a)) h (0x600 + a)
  | _, _ => s

/-- A trigger for every area of a mask. -/
def triggerAreas (s : State) (h : HalfId) (mask kind index inst fl : Nat) : State :=
  (List.range 8).foldl (fun s a => if bit mask a then triggerArea s h a kind index inst fl else s) s

/-- RECORDER_TRIGGER (R547, R550): the waiting trigger of this kind and index arrives with its own areas and
instant; where none waits, the one the command gives. -/
def execRecorderTrigger (h : HalfId) (areas kind index inst : Nat) (s : State) : Host.Outcome State Fault Refusal :=
  let due := (half s h).dec.due
  .next (match due.find? fun d => d.2.1 == kind && d.2.2.1 == index with
    | some d => triggerAreas (modDec s h fun x => { x with due := due.erase d }) h d.1 kind index d.2.2.2 0
    | none => triggerAreas s h areas kind index inst 0)

/-- SEGMENT_CLOSE: with POST samples taken the segment closes and the area arms again (R543, R544). -/
def execSegmentClose (h : HalfId) (area : Nat) (s : State) : Host.Outcome State Fault Refusal :=
  let r := areaRun s h area
  .next (if r.state = 2 ∧ r.postLeft = 0 then armArea (closeSegment s h area 0) h area else s)

/-- SEGMENT_MAX_LEN: a segment of MAX_LEN samples closes TRUNCATED (R544). -/
def execSegmentMaxLen (h : HalfId) (area : Nat) (s : State) : Host.Outcome State Fault Refusal :=
  let r := areaRun s h area
  let lim := match areaRec s h area with | some ar => ar.maxLen | none => 0
  .next (if r.state = 2 ∧ lim ≤ r.preActual + r.postDone then armArea (closeSegment s h area fTRUNCATED) h area else s)

/-! ### Measurements (R557, R558) -/

/-- Position of native sample `n` of a segment in acquisition memory (R556). -/
def nativePos (ar : AreaRec) (g : Segment) (n : Nat) : Nat :=
  if n < g.pre then (g.ringStart + n) % max 1 ar.pre else ar.pre + (n - g.pre)

/-- Bytes of native sample `n`, entry `k`. -/
def sampleBytes (q : Recorder) (i : Image) (ar : AreaRec) (g : Segment) (k e n : Nat) : List Byte :=
  slotGet q.mem ar g.slot (dataOffset ar + nativePos ar g n * instW i ar + entryOff i ar k) (entrySize i ar e)

/-- The corrected value y of a fast sample word (R138, R139): x = 4 · CODE, p = (x + OFFSET) · GAIN,
y = ⌊(p + 8,192) ÷ 16,384⌋ saturated; full scale by the sign of CODE where OVR is 1. -/
def fastCorrect (off gain w : Nat) : Int :=
  let x := toSigned 16 (w / 4 * 4)
  if w / 2 % 2 = 1 then (if 0 ≤ x then 32767 else -32768)
  else satSigned 16 (((x + toSigned 16 off) * (gain : Int) + 8192) / 16384)

/-- Value and quality byte of an entry's bytes (R557): 256 · y for a fast word under the OFFSET and GAIN of its
channel-table entry `tab`, the value bits of a word, |X| for a phasor pair. -/
def entryValue (fast : Bool) (tab bs : List Byte) : Int × Nat :=
  let w := unLe (bs.take 4)
  if fast then
    (256 * fastCorrect (unLe ((tab.drop 8).take 2)) (unLe ((tab.drop 10).take 2)) w, 128 * (w % 2) + 64 * (w / 2 % 2))
  else
    let re := toSigned 24 (w / 256)
    if bs.length < 8 then (re, w % 256)
    else ((magnitude re (toSigned 24 (unLe ((bs.drop 4).take 4) / 256)) : Nat), w % 256)

/-- Instant of native sample `n` after T_FIRST, in ps: at the area's period, or as a TRACKED area stored it (R552). -/
def sampleAt (q : Recorder) (i : Image) (ar : AreaRec) (g : Segment) (n : Nat) : Nat :=
  if ar.kind = 3 then 1000 * unLe (slotGet q.mem ar g.slot (dataOffset ar + nativePos ar g n * instW i ar) 4)
  else n * periodPs i ar

/-- ⌊log₂ (n ÷ d)⌋ of a positive quotient. -/
def log2Quot (n d : Nat) : Int :=
  if d ≤ n then (Nat.log2 (n / d) : Int)
  else
    let c := (d + n - 1) / n
    Int.negOfNat (if c ≤ 1 then 0 else Nat.log2 (c - 1) + 1)

/-- The IEEE 754 binary32 word of n ÷ d, in the range of normal numbers. -/
def binary32 (n : Int) (d : Nat) : Nat :=
  let m := n.natAbs
  if m = 0 ∨ d = 0 then 0
  else
    let e := log2Quot m d
    let f := if e < 0 then quotient (m * 2 ^ (23 + (-e).toNat)) d else quotient (m * 2 ^ 23) (d * 2 ^ e.toNat)
    (if n < 0 then 2 ^ 31 else 0) + (e + 127).toNat * 2 ^ 23 + (f - 2 ^ 23)

/-- The pairs of neighbours of a list. -/
def pairsOf {α : Type} (l : List α) : List (α × α) := l.zip (l.drop 1)

/-- Where the straight line through two points crosses zero from below, as a quotient: points are a value, of any
scale, and an instant. -/
def crossAt (e : (Int × Nat) × (Int × Nat)) : Nat × Nat :=
  let d := (e.2.1 - e.1.1).toNat
  (e.1.2 * d + (e.2.2 - e.1.2) * (-e.1.1).toNat, d)

/-- The rising zero crossings of a list of points (R557). -/
def crossings (l : List (Int × Nat)) : List (Nat × Nat) :=
  ((pairsOf l).filter fun e => decide (e.1.1 < 0) && decide (0 ≤ e.2.1)).map crossAt

/-- PERIOD in ns of points (value, instant in ps): crossings of v − MEAN; 0 with fewer than two of them. -/
def periodNs (l : List (Int × Nat)) : Nat :=
  let total := (l.map fun p => p.1).foldl (· + ·) 0
  let cs := crossings (l.map fun p => ((l.length : Int) * p.1 - total, p.2))
  match cs.head?, cs.getLast? with
  | some a, some b =>
    if cs.length < 2 then 0 else quotient (b.1 * a.2 - a.1 * b.2) (a.2 * b.2 * 1000 * (cs.length - 1))
  | _, _ => 0

/-- b of R557 as a quotient: the mean of the valid pre-trigger samples, or sample 0 where there are none. -/
def baseOf (good : List (Int × Nat)) (pre : Nat) (v0 : Int) : Int × Nat :=
  let ps := good.filter fun p => decide (p.2 < pre)
  if ps.isEmpty then (v0, 1) else ((ps.map fun p => p.1).foldl (· + ·) 0, ps.length)

/-- p of R557: the first valid sample at or after the trigger with the largest |v − b|. -/
def peakOf (good : List (Int × Nat)) (pre : Nat) (b : Int × Nat) : Option (Int × Nat) :=
  (good.filter fun p => decide (pre ≤ p.2)).foldl (fun m p => match m with
    | some x => if (x.1 * b.2 - b.1).natAbs < (p.1 * b.2 - b.1).natAbs then some p else m
    | none => some p) none

/-- RISE in ns of points (value, instant in ps) up to p: from the last crossing of b + 0.1 (p − b) to the first following
crossing of b + 0.9 (p − b); none where the 10 % level is never crossed. -/
def riseNs (l : List (Int × Nat)) (b : Int × Nat) (p : Int) : Option Nat :=
  let size := p * b.2 - b.1
  let sign : Int := if size < 0 then -1 else 1
  let at_ := fun (j : Int) => l.map fun x => (sign * (10 * (x.1 * b.2 - b.1) - j * size), x.2)
  let low := (pairsOf ((at_ 1).zip (at_ 9))).filter fun e => decide (e.1.1.1 < 0) && decide (0 ≤ e.2.1.1)
  match low.getLast? with
  | none => none
  | some e =>
    let a := crossAt (e.1.1, e.2.1)
    match (crossings ((at_ 9).filter fun x => decide (e.1.1.2 ≤ x.2))).head? with
    | some c => some (quotient (c.1 * a.2 - a.1 * c.2) (a.2 * c.2 * 1000))
    | none => none

/-- DIDT_MAX of points (value, instant in ps), in full scale per µs; among differences of one magnitude the choice is
free, as is the word where there is no difference. -/
def didtMax (l : List (Int × Nat)) (free : Nat) : Nat :=
  let ds := ((pairsOf l).map fun e => (e.2.1 - e.1.1, e.2.2 - e.1.2)).filter fun d => d.2 != 0
  let top := ds.foldl (fun m d => max m d.1.natAbs) 0
  let best := ds.filter fun d => d.1.natAbs == top
  match best[free % max 1 best.length]? with
  | some d => binary32 (d.1 * 1000000) (2 ^ 23 * d.2)
  | none => free % 2 ^ 32

/-- The sixteen measurement words of one entry (R557). -/
def measureEntry (s : State) (h : HalfId) (i : Image) (ar : AreaRec) (g : Segment) (k e : Nat) : List Nat :=
  let q := (half s h).acq
  let tab := slotGet q.mem ar g.slot (128 + 16 * k) 16
  let total := g.pre + g.post
  let vs := (List.range total).map fun n => entryValue (ar.kind == 1) tab (sampleBytes q i ar g k e n)
  let good := (vs.zipIdx).filterMap fun v => if 128 ≤ v.1.2 then some (v.1.1, v.2) else none
  let pts := good.map fun p => (p.1, sampleAt q i ar g p.2)
  let qual := (vs.foldl (fun b v => b ||| v.2 % 128) 0) + (if vs.all fun v => 128 ≤ v.2 then 128 else 0)
  let n := good.length
  let hi := good.foldl (fun m v => max m v.1) (-(2 ^ 23 : Int))
  let lo := good.foldl (fun m v => min m v.1) (2 ^ 23 - 1)
  let b := baseOf good g.pre ((vs.headD (0, 0)).1)
  let p := peakOf good g.pre b
  let wide := fun (j : Nat) (x : Nat) => if x < 2 ^ 32 then x else Config.measure j good g.pre % 2 ^ 32
  let q23 := fun (j : Nat) (x : Int) =>
    (if good.isEmpty ∨ x < -(2 ^ 23) ∨ 2 ^ 23 ≤ x then Config.measure j good g.pre % 2 ^ 24 else ofSigned 24 x) * 256 + qual
  (List.range 16).map fun m =>
    if m = 10 then n
    else if m = 11 then qual
    else if 12 ≤ m then 0
    else if !bit ar.measMask m then 0
    else if m = 0 then q23 0 hi
    else if m = 1 then q23 1 lo
    else if m = 2 then q23 2 (rootOf ((good.map fun v => v.1.natAbs * v.1.natAbs).foldl (· + ·) 0) (max 1 n) : Nat)
    else if m = 3 then q23 3 (quotientInt ((good.map fun v => v.1).foldl (· + ·) 0) (max 1 n))
    else if m = 4 then q23 4 (quotientInt (hi - lo) 2)
    else if m = 5 then wide 5 (periodNs pts)
    else if m = 6 then
      match p with
      | some x =>
        if x.1 * b.2 = b.1 then 0
        else match riseNs ((good.filter fun v => decide (v.2 ≤ x.2)).map fun v => (v.1, sampleAt q i ar g v.2)) b x.1 with
          | some t => wide 6 t
          | none => Config.measure 6 good g.pre % 2 ^ 32
      | none => Config.measure 6 good g.pre % 2 ^ 32
    else if m = 7 then didtMax pts (Config.measure 7 good g.pre)
    else if m = 8 then
      let part := fun (v : Int × Nat) =>
        let dt := if v.2 + 1 < total then sampleAt q i ar g (v.2 + 1) - sampleAt q i ar g v.2 else periodPs i ar
        v.1.natAbs * v.1.natAbs * dt
      binary32 (((good.filter fun v => decide (g.pre ≤ v.2)).map part).foldl (· + ·) 0 : Nat) (2 ^ 46 * 10 ^ 12)
    else
      match p with
      | some x =>
        let hd := slotGet q.mem ar g.slot 32 10
        let first := unLe (hd.take 4) + 1000000000 * unLe (hd.drop 4)
        let t := quotientInt (((1000 * first + sampleAt q i ar g x.2 : Nat) : Int) - (1000 * g.tTrig : Nat)) 1000
        if t < -(2 ^ 31) ∨ 2 ^ 31 ≤ t then Config.measure 9 good g.pre % 2 ^ 32 else ofSigned 32 t
      | none => Config.measure 9 good g.pre % 2 ^ 32

/-- The latest closed segment of an area still without measurements. -/
def unmeasured (s : State) (h : HalfId) (a : Nat) : Option Segment :=
  (half s h).acq.segs.reverse.find? fun g => g.area == a && !g.measured

/-- Measurements complete: the block is written, MEAS_VALID sets, the words are available (R558). -/
def measureSegment (s : State) (h : HalfId) (a : Nat) : State :=
  match areaRec s h a, (half s h).image, unmeasured s h a with
  | some ar, some i, some g =>
    let words := ((ar.entries.zipIdx).map fun e => (e.2, measureEntry s h i ar g e.2 e.1))
    let bs := (words.map fun e => (e.2.map (le 4)).flatten).flatten
    let w := instW i ar
    let hb := slotGet (half s h).acq.mem ar g.slot 0 8 ++ le 2 (g.flags ||| 128) ++ slotGet (half s h).acq.mem ar g.slot 10 114
    let head := hb ++ le 4 (crc32 (nativeHead hb (g.pre + g.post) w))
    modAcq s h fun q => { q with
      mem := slotPut (slotPut q.mem ar g.slot (measOffset ar) bs) ar g.slot 0 head
      segs := q.segs.map fun x => if x.area = a ∧ x.seq = g.seq then { x with measured := true, flags := x.flags ||| 128 } else x
      meas := words.foldl (fun t e => (e.2.zipIdx).foldl (fun t v => nset t (a * 512 + e.1 * 16 + v.2) v.1) t) q.meas
      measSeq := nset q.measSeq a (g.seq + 1) }
  | _, _, _ => s

def execMeasurementsDone (h : HalfId) (area : Nat) (s : State) : Host.Outcome State Fault Refusal :=
  .next (measureSegment s h area)

/-- Latch ACQ_MSEQ and ACQ_MDATA0–15 of the selected area and entry (R570). -/
def latchMeas (s : State) (h : HalfId) : State :=
  let a := rd s h Reg.ACQ_MSEL_AREA
  let e := rd s h Reg.ACQ_MSEL_ENTRY
  let q := (half s h).acq
  let c := match areaRec s h a with | some ar => ar.c | none => 0
  let ok := nget q.measSeq a != 0 && decide (e < c)
  let s1 := wr s h Reg.ACQ_MSEQ_SEQ (if ok then nget q.measSeq a - 1 else 0)
  (List.range 16).foldl (fun s m => wr s h (Reg.ACQ_MDATA_VALUE m) (if ok then nget q.meas (a * 512 + e * 16 + m) else 0)) s1

def execAcqMselWrite (h : HalfId) (v : Nat) (s : State) : Host.Outcome State Fault Refusal :=
  .next (access s h (latchMeas (wr (wr s h Reg.ACQ_MSEL_AREA (bits v 10 8)) h Reg.ACQ_MSEL_ENTRY (bits v 4 0)) h))


/-! ### ACQ_CMD (R566) -/

/-- Status of an ACQ_CMD command. -/
def acqStatus (s : State) (h : HalfId) (code areas : Nat) : Nat :=
  if code = 0 ∨ 3 < code ∨ areas = 0 then 0x10
  else if modeOf s h = mBOOT then 0x11
  else if (List.range 8).any (fun a => bit areas a && (areaRec s h a).isNone) then 0x23
  else 0x02

/-- START of an area: one that STOP or a power-fail stopped arms again (R544, R563). -/
def startArea (s : State) (h : HalfId) (a : Nat) : State :=
  let r := areaRun s h a
  if r.state ≠ 0 then s
  else
    let s1 := setRun s h a { r with stopped := 2 }
    let lay := match areaRec s h a with | some ar => bit ar.flags 1 | none => false
    if modeOf s h = mLAYUP ∧ lay = false then s1 else armArea s1 h a

/-- A write of ACQ_CMD. -/
def acqCmd (s : State) (h : HalfId) (code areas : Nat) : State :=
  let st := acqStatus s h code areas
  let s1 := result s h Reg.ACQ_RESULT_SEQ Reg.ACQ_RESULT_CMD Reg.ACQ_RESULT_STATUS code st
  if st ≠ 0x02 then s1
  else if code = 1 then triggerAreas s1 h areas 3 0 (now s1) 512
  else
    let s2 := (List.range 8).foldl (fun s a => if bit areas a then
      (if code = 2 then stopArea s h a 1 fTRUNCATED else startArea s h a) else s) s1
    ledgerH s2 h 0x0F04 (p4s [areas, code - 1])

def execTrigger (h : HalfId) (areas : Nat) (s : State) : Host.Outcome State Fault Refusal := .next (access s h (acqCmd s h 1 areas))
def execAcqStop (h : HalfId) (areas : Nat) (s : State) : Host.Outcome State Fault Refusal := .next (access s h (acqCmd s h 2 areas))
def execAcqStart (h : HalfId) (areas : Nat) (s : State) : Host.Outcome State Fault Refusal := .next (access s h (acqCmd s h 3 areas))

/-- RECORDER's Tally code changes: the degraded cause ends, or failed begins (R573). -/
def execRecorderHealthWindow (h : HalfId) (refused : Bool) (s : State) : Host.Outcome State Fault Refusal :=
  .next (if refused then tallySet s h 12 2 2 0x0F03 else tallySet s h 12 1 0 0x0F01)

/-- A restart from boot step 5 discards every armed and pending segment (R562): cause 1 activation,
2 EXIT_LOCKOUT. -/
def discardSegments (s : State) (h : HalfId) (cause : Nat) : State :=
  let n := ((half s h).acq.segs.filter fun g => g.pending).length
  let s1 := (List.range 8).foldl (fun s a =>
    let k := ((half s h).acq.segs.filter fun g => g.pending && g.area == a).length
    satAdd (satAdd s h (Reg.ACQ_ALOST_NOT_COMMITTED a) k) h Reg.ACQ_LOST_NOT_COMMITTED k) s
  let s2 := satAdd s1 h Reg.ACQ_LOST_DISCARDED n
  let s3 := ledgerH s2 h 0x0F02 (p4s [n, cause])
  modAcq s3 h fun q => { q with segs := [], runs := [], job := none }

end Sys2Proof.Machine
end

