-- ==== Sys2Proof/Machine/Fast.lean ====
section
/-!
DEFINITION. Fast converters and the fast trip path: fast samples (R134 to R140), IOC, DIDT and SIG functions
and restraint (R273 to R297), fast trip inputs (R287), the FST window registers (R302 to R307).
-/

namespace Sys2Proof.Machine

open Sys2Proof (Byte HalfId)

/-! ### Reference buffer and validity (R132, R136) -/

/-- Samples of the die are VALID as far as the reference buffer goes (R132, R133). -/
def refGood (s : State) (h : HalfId) : Bool := rdB s h Reg.PCV_REF_EN && !rdB s h Reg.PCV_REF_STAT_FAULT

/-- Samples of the die carry REF_SETTLING (R132, R133). -/
def refSettling (s : State) (h : HalfId) : Bool := !rdB s h Reg.PCV_REF_EN || (half s h).fe.settling

/-- FCn is present in the variant (R1). -/
def fastPresent (s : State) (n : Nat) : Bool := decide (n < fastCount s)

/-- VALID of a fast sample (R136, R202, R213): converter on, channel present, reference settled, conversion
complete, not frozen, PLL locked, no calibration. -/
def fastValid (s : State) (h : HalfId) (n : Nat) (incomplete : Bool) : Bool :=
  !asleep s h && fastPresent s n && refGood s h && !refSettling s h && !incomplete
    && !rdB s h (Reg.FCV_STAT_FROZEN n) && rdB s h Reg.SMP_CLK_STAT_FAST_LOCK && !rdB s .a Reg.TIME_STAT_UNLOCK && (half s h).fe.cal == 0

/-- The runtime of fast channel `n`. -/
def fastChan (s : State) (h : HalfId) (n : Nat) : FastChan := sget (fun _ => default) (half s h).fe.fast n

/-! ### Fast functions -/

/-- Store fast function `f`. -/
def setFn (s : State) (h : HalfId) (f : Nat) (x : FastFn) : State :=
  modDec s h fun d => { d with fastFn := sset (fun _ => default) d.fastFn f x }

/-- A field of word `w` of fast function `f`'s slot (R294). -/
def fnF (s : State) (h : HalfId) (f w hi lo : Nat) : Nat := slotF s h (192 + f) w hi lo

/-- Signed threshold THRESH or RATE of an IOC or DIDT (R294). -/
def fnThresh (s : State) (h : HalfId) (f : Nat) : Int := toSigned 16 (fnF s h f 1 15 0)

/-- Does a value exceed a threshold, in the sense of R278? -/
def exceedsLevel (abs_ : Bool) (t y : Int) : Bool :=
  if abs_ then decide (t.natAbs ≤ y.natAbs) else if 0 < t then decide (t ≤ y) else decide (y ≤ t)

/-- Does an over-range sample exceed the threshold (R276): in ABS mode, or on the side it saturated towards? -/
def exceedsOvr (abs_ : Bool) (t : Int) (p : Smp) : Bool := p.ovr && (abs_ || decide (0 < t) == decide (0 ≤ p.y))

/-- The value a function compares: y for an IOC, y[k] − y[k − SPAN] for a DIDT (R278, R279). -/
def fnValue (s : State) (h : HalfId) (f type : Nat) (hist : List Smp) : Int :=
  let p := hist.headD default
  if type = 0x22 then p.y - ((hist.drop (fnF s h f 1 29 24)).headD default).y else p.y

/-- Does the latest sample exceed (R275, R276, R278, R279)? -/
def fnExceeds (s : State) (h : HalfId) (f type : Nat) (hist : List Smp) : Bool :=
  let p := hist.headD default
  let b := (hist.drop (fnF s h f 1 29 24)).headD default
  let ab := fnF s h f 1 16 16 == 1
  let t := fnThresh s h f
  let v := fnValue s h f type hist
  let lvl := type == 0x21 || decide (fnF s h f 3 15 0 ≤ p.y.natAbs)
  p.valid && (exceedsOvr ab t p || (exceedsLevel ab t v && lvl && (type == 0x21 || b.valid)))

/-- Does the latest sample reach the dropout level THRESH × DR ÷ 32,768 in the direction of THRESH (R278)? -/
def fnHolds (s : State) (h : HalfId) (f type : Nat) (hist : List Smp) : Bool :=
  let p := hist.headD default
  let b := (hist.drop (fnF s h f 1 29 24)).headD default
  let t := fnThresh s h f
  let lvl := (t * (fnF s h f 2 31 16 : Int)).tdiv 32768
  let ab := fnF s h f 1 16 16 == 1
  let v := fnValue s h f type hist
  p.valid && (exceedsOvr ab t p || ((type == 0x21 || b.valid) &&
    (if ab then decide (lvl.natAbs ≤ v.natAbs) else if 0 < t then decide (lvl ≤ v) else decide (v ≤ lvl))))

/-- The bit of OVR that the latest decision used (R275). -/
def fnOvr (s : State) (h : HalfId) (f type : Nat) (hist : List Smp) : Bool :=
  (hist.headD default).ovr || (type == 0x22 && ((hist.drop (fnF s h f 1 29 24)).headD default).ovr)

/-- Pickup, confirmation and dropout of an IOC or DIDT at one sample with instant `inst` (R278). -/
def fnStep (s : State) (h : HalfId) (f type inst : Nat) (hist : List Smp) (x : FastFn) : FastFn :=
  let ex := fnExceeds s h f type hist
  let x := { x with seen := true, valid := (hist.headD default).valid, ovr := fnOvr s h f type hist }
  if x.conf then
    if fnHolds s h f type hist then { x with drop := 0 }
    else if fnF s h f 2 15 8 ≤ x.drop + 1 then { x with conf := false, pu := false, n := 0, drop := 0 }
    else { x with drop := x.drop + 1 }
  else if ex then
    let n := x.n + 1
    { x with n := n, pu := true, drop := 0, conf := decide (fnF s h f 2 3 0 ≤ n), start := if x.pu then x.start else inst }
  else { x with n := 0, pu := false }

/-- Does a classification release the restraint: FAULT, or UNKNOWN with UNK_OP = 1 (R285)? -/
def releases (cls : Nat) (unkOp : Bool) : Bool := cls == 1 || (cls == 3 && unkOp)

/-- Next state of a restraint (R285) for the classification held (`none`: idle or window open): 0 IDLE,
1 WAIT, 2 BLOCKED, 3 OPERATED. -/
def restraintNext (rstate : Nat) (conf : Bool) (held : Option Nat) (unkOp : Bool) : Nat :=
  if !conf then 0
  else match rstate, held with
    | 3, _ => 3
    | r, some c => if releases c unkOp then 3 else if r = 0 ∨ r = 1 then 2 else r
    | 0, none => 1
    | r, none => r

/-- The classification a SIG function holds. -/
def heldClass (x : FastFn) : Option Nat := if x.sig = 2 then some x.cls else none

/-- Output of a function after its own condition: gated by the restraint where one is linked (R285). -/
def fnGate (s : State) (h : HalfId) (f : Nat) (x : FastFn) : FastFn :=
  match restraintOf s h f with
  | none => { x with op := x.conf }
  | some g =>
    let held := heldClass (fastFn s h g)
    let r := restraintNext x.rstate x.conf held (fnF s h f 3 0 0 == 1)
    { x with rstate := r, op := r == 3, rsince := if x.rstate = 0 ∧ r ≠ 0 then s.ticks else x.rsince
             last := match held with | some c => if r = 0 then x.last else c | none => x.last }

/-- Arm a SIG function at the latest sample of its channel (R280): the window starts PRE samples back, and
positions before the history count as invalid samples. -/
def sigArm (s : State) (h : HalfId) (g : Nat) (hist : List Smp) (x : FastFn) : FastFn :=
  let n := fnF s h g 1 20 16 + 1
  let got := (hist.take n).reverse
  { x with sig := 1, win := List.replicate (n - got.length) default ++ got }

/-- Does the latest sample of its channel arm SIG function `g` (R280)? -/
def sigLevel (s : State) (h : HalfId) (g : Nat) (hist : List Smp) : Bool :=
  let p := hist.headD default
  p.valid && decide (fnF s h g 1 15 0 ≤ p.y.natAbs)

/-- The registers of fast function `f` after its state has become `x` (R298, R305). -/
def fnRegs (s : State) (h : HalfId) (f : Nat) (x : FastFn) : State :=
  let s1 := putBank s h (loHi Reg.FST_OP_LO_OP Reg.FST_OP_HI_OP) f x.op
  let s2 := putBank s1 h (loHi Reg.FST_PU_LO_PU Reg.FST_PU_HI_PU) f x.pu
  let type := match fastRec s h f with | some r => r.type | none => 0
  let restr := (restraintOf s h f).isSome
  let s3 := wrB (wr (wr s2 h (Reg.FST_FSTAT_TYPE f) type) h (Reg.FST_FSTAT_VALID f) (b2n x.valid)) h (Reg.FST_FSTAT_EN f) (slotOn s h (192 + f))
  let cls := if type = 0x23 then (if x.sig = 2 then x.cls else 0) else if restr then x.last else 0
  let s4 := wr (wr s3 h (Reg.FST_FSTAT_CLASS f) cls) h (Reg.FST_FSTAT_RSTATE f) (if restr then x.rstate else 0)
  let s5 := wr (wr (wr s4 h (Reg.FST_FSTAT_TPL1 f) x.tpl1) h (Reg.FST_FSTAT_TPL2 f) x.tpl2) h (Reg.FST_FSTAT_CAUSE f) x.cause
  wrB (wrB s5 h (Reg.FST_FSTAT_PU f) x.pu) h (Reg.FST_FSTAT_OP f) x.op

/-- Put the new state of fast function `f` in place with its registers, and record a rising OPERATE: its
count, FAST_OPERATE (R309) and its queue item; a fall starts the STRETCH of arc elements it feeds. -/
def fnPut (s : State) (h : HalfId) (f : Nat) (x : FastFn) : State :=
  let old := fastFn s h f
  let s1 := fnRegs (setFn s h f x) h f x
  if x.op && !old.op then
    let type := match fastRec s h f with | some r => r.type | none => 0
    let s2 := count s1 h (4 + f)
    let s3 := ledgerOnce s2 h (0x300 + f) 0x0701 fun m => p4s [f, type] ++ timeBytes x.start ++ p4 m
    qPush s3 h 2 (qItem s3 h (0x300 + f) 0x0701 (p4s [f, type]))
  else if old.op && !x.op then arcStretch s1 h f
  else s1

/-- One IOC or DIDT function at a sample of its channel (R275, R278, R279, R285). -/
def fnSample (s : State) (h : HalfId) (f type inst : Nat) (hist : List Smp) : State :=
  if slotOn s h (192 + f) then
    fnPut s h f (fnGate s h f (fnStep s h f type inst hist (fastFn s h f)))
  else fnPut s h f { fastFn s h f with
    pu := false, op := false, conf := false, n := 0, drop := 0, rstate := 0, seen := true, valid := true, ovr := false }

/-- One SIG function: it collects an open window, or arms (R280). -/
def sigSample (s : State) (h : HalfId) (g : Nat) (hist : List Smp) (own : Bool) : State :=
  let x := fastFn s h g
  let x1 := { x with seen := true, valid := (hist.headD default).valid }
  if !slotOn s h (192 + g) then fnPut s h g { x1 with sig := 0, win := [], valid := true }
  else if x.sig = 1 then
    fnPut s h g (if own && decide (x.win.length < 32) then { x1 with win := x.win ++ [hist.headD default] } else x1)
  else
    let confirms := (restrainedBy s h g).any fun f => (fastFn s h f).rstate == 1
    if x.sig = 0 ∧ ((own && sigLevel s h g hist) || confirms) then fnPut s h g (sigArm s h g hist x1)
    else fnPut s h g x1

/-- Every fast function of a half that reads channel `n`, then the SIG functions (R278 to R283), at the latest
sample of the channel. -/
def fastEval (s : State) (h : HalfId) (n inst : Nat) : State :=
  let hist := (fastChan s h n).hist
  let s1 := (fastFns s h).foldl (fun s f => match fastRec s h f with
    | some r => if r.src = n ∧ r.type ≠ 0x23 then fnSample s h f r.type inst hist else s
    | none => s) s
  (fastFns s1 h).foldl (fun s g => match fastRec s h g with
    | some r =>
      if r.type ≠ 0x23 then s
      else if r.src = n then sigSample s h g hist true
      else if (restrainedBy s h g).any fun f => (match fastRec s h f with | some q => q.src == n | none => false) then
        sigSample s h g (fastChan s h r.src).hist false
      else s
    | none => s) s1

/-- What follows a change of fast functions: arc elements, the fast matrix, the trip matrix, the votes. -/
def afterFast (s : State) (h : HalfId) : State := decideOut (arcEvalAll s h) h

/-! ### The fast sample (R134 to R140, R167 to R173) -/

/-- The fast sample word (R134). -/
def fastWord (code : Nat) (ovr valid : Bool) : Nat := code % 16384 * 4 + 2 * b2n ovr + b2n valid

/-- FCV_STATn.FAULT and its bit in FCV_FAULT_SUM (R168, R172). -/
def fastFault (s : State) (h : HalfId) (n : Nat) (b : Bool) : State :=
  wrBit (wrB s h (Reg.FCV_STAT_FAULT n) b) h Reg.FCV_FAULT_SUM_FAULT n b

/-- The frozen-code monitor at one sample (R137): an over-range or full-scale sample is ignored. -/
def frozenStep (s : State) (h : HalfId) (n code : Nat) (ovr : Bool) : State :=
  let c := fastChan s h n
  if ovr || code == 8191 || code == 8192 then s
  else if c.code = code ∧ c.run ≠ 0 then
    modFe s h fun x => { x with fast := sset (fun _ => default) x.fast n { c with run := c.run + 1 } }
  else
    wrB (modFe s h fun x => { x with fast := sset (fun _ => default) x.fast n { c with code := code, run := 1 } })
      h (Reg.FCV_STAT_FROZEN n) false

/-- Registers of the latest fast sample, and the sample into the channel's history (R167 to R173). -/
def fastStore (s : State) (h : HalfId) (n code : Nat) (ovr incomplete : Bool) : State :=
  let s0 := frozenStep s h n code ovr
  let valid := fastValid s0 h n incomplete
  let w := fastWord code ovr valid
  let y := fastCorrect (rd s0 h (Reg.FCV_OFF_OFFSET n)) (rd s0 h (Reg.FCV_GAIN_GAIN n)) w
  let s1 := wr (wr s0 h (Reg.FCV_SAMP_CORR n) (ofSigned 16 y)) h (Reg.FCV_SAMP_RAW n) w
  let s2 := wrB s1 h (Reg.FCV_STAT_OVR_NOW n) ovr
  let s3 := if incomplete then wrB s2 h (Reg.FCV_STAT_INCOMPLETE n) true else s2
  let s4 := fastFault s3 h n (incomplete || rdB s3 h (Reg.FCV_STAT_FROZEN n))
  let s5 := if ovr then
      count (satAdd (wrBit s4 h Reg.FCV_OVR_SUM_OVR n true) h (Reg.FCV_OVRCNT_COUNT n) 1) h (0x1C4 + n)
    else s4
  let c := fastChan s5 h n
  let c1 := { c with hist := ({ y := y, valid := valid, ovr := ovr } :: c.hist).take 33 }
  modFe s5 h fun x => { x with fast := sset (fun _ => default) x.fast n c1 }

/-- Trigger function `t` fires (R547, R568): HIST, and the trigger on its way to its areas. -/
def fireTrigger (s : State) (h : HalfId) (t inst : Nat) : State :=
  modDec (wrBit s h Reg.ACQ_TRG_HIST t true) h fun d => { d with
    due := d.due ++ [(slotF s h (248 + t / 4) (1 + 3 * (t % 4)) 7 0, 2, t, inst)] }

/-- The trigger functions of R548 with source kind 0x11 and channel `n`, at its latest sample (R549): a
condition that changes from false to true sends a trigger on its way to the recorder. -/
def condition (s : State) (h : HalfId) (t : Nat) (b : Bool) (inst : Nat) : State :=
  let slot := 248 + t / 4
  let was := sget (fun _ => false) (half s h).acq.cond t
  let s1 := modAcq s h fun q => { q with cond := sset (fun _ => false) q.cond t b }
  if b && !was && slotOn s h slot then
    fireTrigger s1 h t inst
  else s1

/-- Above, below and slope conditions of trigger function `t` over a history of values, newest first (R549). -/
def levelCond (s : State) (h : HalfId) (t : Nat) (vs : List (Int × Bool × Bool)) : Bool :=
  let slot := 248 + t / 4
  let j := t % 4
  let mode := slotF s h slot (1 + 3 * j) 31 28
  let ab := slotF s h slot (1 + 3 * j) 24 24 == 1
  let lvl := toSigned 24 (slotF s h slot (3 + 3 * j) 23 0)
  let p := vs.headD (0, false, false)
  let b := (vs.drop (slotF s h slot (1 + 3 * j) 20 16)).headD (0, false, false)
  let v := if mode = 3 then p.1 - b.1 else p.1
  let above := if ab then decide (lvl.natAbs ≤ v.natAbs) else decide (lvl ≤ v)
  let under := if ab then decide (v.natAbs ≤ lvl.natAbs) else decide (v ≤ lvl)
  p.2.1 && (p.2.2 ||
    (if mode = 1 then above else if mode = 2 then under
     else if mode = 3 then b.2.1 && exceedsLevel ab lvl v else false))

/-- Evaluate the level and slope trigger functions whose source word is `src`. -/
def levelTriggers (s : State) (h : HalfId) (src : Nat) (vs : List (Int × Bool × Bool)) (inst : Nat) : State :=
  (List.range 16).foldl (fun s t =>
    if slotWord s h (248 + t / 4) (2 + 3 * (t % 4)) = src ∧ slotOn s h (248 + t / 4) = true
    then condition s h t (levelCond s h t vs) inst else s) s

/-- Edge conditions of trigger functions of modes 4 to 6, on signals in the layout of R405 (R549): the
condition holds at the instant of the named edge. -/
def edgeTriggers (s : State) (h : HalfId) : State :=
  (List.range 16).foldl (fun s t =>
    let slot := 248 + t / 4
    let mode := slotF s h slot (1 + 3 * (t % 4)) 31 28
    if slotOn s h slot && decide (4 ≤ mode) && decide (mode ≤ 6) then
      let b := (sourceBit s h (slotWord s h slot (2 + 3 * (t % 4)))).1
      let was := sget (fun _ => false) (half s h).acq.cond t
      let fire := (mode != 5 && b && !was) || (mode != 4 && !b && was)
      let s1 := modAcq s h fun q => { q with cond := sset (fun _ => false) q.cond t b }
      if fire then fireTrigger s1 h t (now s) else s1
    else s) s

def execFastSample (h : HalfId) (ch code : Nat) (ovr incomplete : Bool) (inst : Nat) (s : State) :
    Host.Outcome State Fault Refusal :=
  if fastPresent s ch && present s h then
    let s1 := fastStore s h ch (code % 16384) ovr incomplete
    let w := rd s1 h (Reg.FCV_SAMP_RAW ch)
    let s2 := recordSample s1 h (fun ar e => ar.kind == 1 && e == ch) inst (le 2 w)
    let vs := (fastChan s2 h ch).hist.map fun p => (256 * p.y, p.valid, p.ovr)
    let s3 := levelTriggers s2 h (0x11 + 65536 * ch) vs inst
    .next (edgeTriggers (afterFast (fastEval s3 h ch inst) h) h)
  else .next s

/-- FCV_FROZEN (R137): the run of one code has reached 1,048,576 counted samples. -/
def execFcvFrozen (h : HalfId) (ch : Nat) (s : State) : Host.Outcome State Fault Refusal :=
  if rdB s h (Reg.FCV_CFG_FROZEN_EN ch) && !rdB s h (Reg.FCV_STAT_FROZEN ch) && decide (1048576 ≤ (fastChan s h ch).run) then
    .next (ledgerH (fastFault (wrB s h (Reg.FCV_STAT_FROZEN ch) true) h ch true) h 0x040A (p4s [ch, (fastChan s h ch).code]))
  else .next s

/-! ### SIG classification (R281 to R283) -/

/-- 32,768 · c ÷ √(E_w · E_t), rounded to nearest with ties away from zero, saturated (R281). -/
def sigScore (c : Int) (ew et : Nat) : Int :=
  if ew = 0 ∨ et = 0 then 0
  else
    let n := 32768 * c.natAbs
    let r := (isqrt (4 * n * n / (ew * et)) + 1) / 2
    satSigned 16 (if 0 ≤ c then (r : Int) else -(r : Int))

/-- Σ of products and of squares. -/
def dot (a b : List Int) : Int := ((a.zip b).map fun p => p.1 * p.2).foldl (· + ·) 0

/-- Template `j` of fast function `g` in the active group (R283). -/
def template (s : State) (h : HalfId) (g j : Nat) : List Int :=
  (List.range 32).map fun i => toSigned 16 (nget (groupOf s h (activeGroup s h)).templates ((g * 16 + j) * 32 + i))

/-- Best template and score among those that satisfy `p`; the lowest index wins a tie. -/
def bestOf (scores : List (Nat × Int)) (p : Nat → Bool) : Option (Nat × Int) :=
  scores.foldl (fun b e => if p e.1 then (match b with
    | some x => if x.2 < e.2 then some e else b
    | none => some e) else b) none

/-- The classification of a closed window (R282): class, CAUSE, the two templates and scores. -/
def classify (s : State) (h : HalfId) (g : Nat) (win : List Smp) : Nat × Nat × Nat × Nat × Int × Int :=
  let w0 := (win.headD default).y
  let w := win.map fun p => if fnF s h g 1 24 24 = 1 then p.y - w0 else p.y
  let ew := (dot w w).natAbs
  let ten := fnF s h g 3 31 16
  let inr := fnF s h g 4 15 0
  let scores := ((List.range 16).filter fun j => bit ten j).map fun j =>
    let t := template s h g j
    (j, sigScore (dot w t) ew (dot t t).natAbs)
  let b1 := (bestOf scores fun _ => true).getD (0, -32768)
  let c1 := if bit inr b1.1 then 2 else 1
  let b2 := (bestOf scores fun j => bit inr j != bit inr b1.1).getD (0, -32768)
  let res := if win.any fun p => p.ovr then (1, 2)
    else if win.any fun p => !p.valid then (3, 1)
    else if ew = 0 then (3, 3)
    else if (fnF s h g 2 15 0 : Int) ≤ b1.2 ∧ (fnF s h g 2 31 16 : Int) ≤ b1.2 - b2.2 then (c1, 0)
    else (3, 0)
  (res.1, res.2, b1.1, b2.1, b1.2, b2.2)

/-- A new classification of SIG function `g` acts on the IOC functions it restrains (R285). -/
def releaseRestrained (s : State) (h : HalfId) (g : Nat) : State :=
  (restrainedBy s h g).foldl (fun s f => fnPut s h f (fnGate s h f (fastFn s h f))) s

def execSigHoldEnd (h : HalfId) (f : Nat) (s : State) : Host.Outcome State Fault Refusal :=
  let x := fastFn s h f
  if x.sig = 2 then
    let hist := match fastRec s h f with | some r => (fastChan s h r.src).hist | none => []
    let again := sigLevel s h f hist || (restrainedBy s h f).any fun k => (fastFn s h k).conf
    let x1 := { x with sig := 0, win := [] }
    .next (fnPut s h f (if again && slotOn s h (192 + f) then sigArm s h f hist x1 else x1))
  else .next s

/-! ### Fast trip inputs (R287, R300, R301) -/

/-- Input `n` of a half changes to `b`: state, history, count, and the matrices. -/
def ftiPut (s : State) (h : HalfId) (n : Nat) (b : Bool) : State :=
  if rdBit s h Reg.FST_FTI_STATE n == b then s
  else
    let s1 := wrBit s h Reg.FST_FTI_STATE n b
    let s2 := if b then count (wrBit s1 h Reg.FST_FTI_HIST_ASSERTED n true) h (0x1A4 + n) else s1
    if modeOf s2 h = mBOOT then s2 else edgeTriggers (decideOut s2 h) h

/-- An FTI pair drives both halves (R287). -/
def ftiBoth (s : State) (n : Nat) (b : Bool) : State := (halves s).foldl (fun s h => ftiPut s h n b) s

/-- FTI_EDGE: the pair changes; while its fail-safe fault is present the input stays deasserted. -/
def execFtiEdge (n : Nat) (asserted : Bool) (s : State) : Host.Outcome State Fault Refusal :=
  .next (if decide (n < 16) && !rdBit s .a Reg.FST_FTI_FAULT n then ftiBoth s n asserted else s)

/-- FAULT of input `n` in every half. -/
def ftiFaultAll (s : State) (n : Nat) (b : Bool) : State :=
  (halves s).foldl (fun s h =>
    let s1 := wrBit s h Reg.FST_FTI_FAULT n b
    let s2 := if b then wrBit s1 h Reg.FST_FTI_HIST_FAULT n true else s1
    decideOut s2 h) s

def execFtiFault (n : Nat) (s : State) : Host.Outcome State Fault Refusal :=
  .next (if decide (n < 16) && !rdBit s .a Reg.FST_FTI_FAULT n then
    ledgerField (ftiFaultAll (ftiBoth s n false) n true) 0x0703 (p4s [n, 1]) else s)

/-- FTI_FAULT_CLEAR: the pair is driven properly again, at the level `asserted`. -/
def execFtiFaultClear (n : Nat) (asserted : Bool) (s : State) : Host.Outcome State Fault Refusal :=
  .next (if decide (n < 16) && rdBit s .a Reg.FST_FTI_FAULT n then
    ledgerField (ftiBoth (ftiFaultAll s n false) n asserted) 0x0703 (p4s [n, 2]) else s)

/-! ### FST windows (R284, R302 to R307) -/

/-- Acceptance of a write of group `g`'s store (R111, R284): on the leader, and a group that is neither active,
nor the target of a pending switch, nor being staged. -/
def groupWritable (s : State) (h : HalfId) (g : Nat) : Bool :=
  acts s h && g != activeGroup s h && !(match (half s h).mode.pendSet with | some p => p.group == g | none => false)

/-- The key of the selected template sample. -/
def tplKey (s : State) (h : HalfId) : Nat :=
  (rd s h Reg.FST_TPL_SEL_FUNC * 16 + rd s h Reg.FST_TPL_SEL_TPL) * 32 + rd s h Reg.FST_TPL_SEL_IDX

/-- IDX advances by 1, from 31 to 0 of the next template, from template 15 to 0 (R303). -/
def tplAdvance (s : State) (h : HalfId) : State :=
  let i := rd s h Reg.FST_TPL_SEL_IDX
  if i < 31 then wr s h Reg.FST_TPL_SEL_IDX (i + 1)
  else wr (wr s h Reg.FST_TPL_SEL_IDX 0) h Reg.FST_TPL_SEL_TPL (rd s h Reg.FST_TPL_SEL_TPL + 1)

/-- Write to group `g` of a half; the group is no longer staged in both halves (R111, R126). -/
def modGroup (s : State) (h : HalfId) (g : Nat) (f : SetGroup → SetGroup) : State :=
  let x := half s h
  (halves s).foldl (fun s y => wrBit s y Reg.SET_ACTIVE_STAGED g false)
    (setHalf s h { x with groups := smod (fun _ => default) x.groups g f })

/-- The value a read of FST_TPL_DATA returns. -/
def tplRead (s : State) (h : HalfId) : Nat :=
  if rd s h Reg.FST_TPL_SEL_FUNC < 48 then
    nget (groupOf s h (rd s h Reg.FST_TPL_SEL_GROUP)).templates (tplKey s h)
  else 0

/-- An access to FST_TPL_DATA: a read returns the selected sample in the data register, a write stores it. -/
def tplAccess (s : State) (h : HalfId) (w : Option Nat) : State :=
  let sel := decide (rd s h Reg.FST_TPL_SEL_FUNC < 48)
  let g := rd s h Reg.FST_TPL_SEL_GROUP
  match w with
  | none =>
    let s1 := wr s h Reg.FST_TPL_DATA_SAMPLE (tplRead s h)
    if sel then tplAdvance s1 h else s1
  | some v =>
    if sel && groupWritable s h g then
      tplAdvance (modGroup s h g fun x => { x with templates := nset x.templates (tplKey s h) (v % 65536) }) h
    else wrB s h Reg.SET_ACTIVE_WRITE_REFUSED true


/-- A read of FST_FSTATf latches the start time and scores of the same function (R304). -/
def fstLatch (s : State) (h : HalfId) (f : Nat) : State :=
  let x := fastFn s h f
  let sig := match fastRec s h f with | some r => r.type == 0x23 | none => false
  let s1 := wr (wr s h (Reg.FST_FSTART_NS_NS f) (nsOf x.start)) h (Reg.FST_FSTART_SEC_SEC f) (secOf x.start)
  wr (wr s1 h (Reg.FST_FSIG_SCORE1 f) (if sig then ofSigned 16 x.s1 else 0)) h (Reg.FST_FSIG_SCORE2 f)
    (if sig then ofSigned 16 x.s2 else 0)


end Sys2Proof.Machine
end

