-- ==== Sys2Proof/Machine/General.lean ====
section
/-!
DEFINITION. General functions: the common semantics (R310 to R317), TOC, DTOC, THM, UV, OV, UF, OF, ROCOF
(R319 to R329), DIR, DIFF, BF, EF (R348 to R369) and ARC (R393), with the FAB registers they show.
-/

namespace Sys2Proof.Machine

open Sys2Proof (Byte HalfId)

/-! ### Inputs (R233, R312, R314) -/

/-- One input of a general function as it reads it at an evaluation: phasor or signed value, Q, quality. -/
structure GenIn where
  re : Int
  im : Int
  phasor : Bool
  q : Nat
  qual : Nat
  inst : Nat
  deriving DecidableEq, Repr, Inhabited

/-- A chain as it runs. -/
def chainRun (s : State) (h : HalfId) (c : Nat) : ChainRun := sget (fun _ => default) (half s h).fe.chains c

/-- The image response of a chain is a phasor response (6 to 13). -/
def isPhasor (s : State) (h : HalfId) (c : Nat) : Bool :=
  match chainRec s h c with
  | some r => decide (6 ≤ r.resp) && decide (r.resp ≤ 13)
  | none => false

/-- The input that a chain designator names (R233, R312). -/
def genIn (s : State) (h : HalfId) (des : Nat) : GenIn :=
  let c := des % 256
  let x := chainRun s h c
  let o := des / 256 % 8
  let ph := isPhasor s h c
  if o = 0 then
    { re := x.re, im := x.im, phasor := ph, q := if ph then magnitude x.re x.im else x.re.natAbs, qual := x.q, inst := x.inst }
  else
    let w := chainWord s h des
    { re := (w / 256 : Nat), im := 0, phasor := false, q := w / 256, qual := w % 256, inst := x.inst }

/-- A usable sample (R314, R23): VALID, without SETTLING, REF_SETTLING or STALE. -/
def usableQ (q : Nat) : Bool := bit q 7 && !bit q 5 && !bit q 3 && !bit q 1

/-- A setting field of slot `k`. -/
def gF (s : State) (h : HalfId) (k w hi lo : Nat) : Nat := slotF s h k w hi lo

/-- Index and value of the largest Q of a list; the lowest index wins a tie. -/
def largestQ (ins : List GenIn) : Nat × GenIn :=
  (ins.zipIdx).foldl (fun b e => if b.2.q < e.1.q then (e.2, e.1) else b) (0, ins.headD default)

/-! ### Delays (R323) and pickup (R313) -/

/-- Pickup, delay and dropout with instantaneous reset: `pick` and `drop` are the type's conditions at this
sample, `inst` its instant, `dt` the ns since the previous evaluation, `delay` in ns. -/
def delayStep (x : GenFn) (pick drop : Bool) (delay dt inst start input : Nat) : GenFn :=
  if !x.pu then
    if pick then { x with pu := true, start := start, input := input, elapsed := inst - start, op := decide (delay ≤ inst - start) } else x
  else if drop then { x with pu := false, op := false, elapsed := 0 }
  else { x with elapsed := x.elapsed + dt, op := x.op || decide (delay ≤ x.elapsed + dt) }

/-- DELAY of word 3 in ns. -/
def delayNs (s : State) (h : HalfId) (k : Nat) : Nat := gF s h k 3 31 0 * 1000

/-! ### TOC (R319 to R322) -/

/-- Constants k and c of curves 0 to 6 in 0.1 ms (R319). -/
def curveK (c : Nat) : Nat := [1400, 135000, 800000, 1200000, 515, 196100, 282000].getD c 0
def curveC (c : Nat) : Nat := [0, 0, 0, 0, 1140, 4910, 1217].getD c 0

/-- M^α − 1 of curves 0 to 6 as a ratio, M being n ÷ d. -/
def curvePower (c n d : Nat) : Nat × Nat :=
  if c = 1 ∨ c = 3 then (n - d, d)
  else if c = 0 ∨ c = 4 then (max 1 (Config.power002 n d - 2 ^ 40), 2 ^ 40)
  else (n * n - d * d, d * d)

/-- The word of point `p` of user curve `c` of the active group. -/
def curvePoint (s : State) (h : HalfId) (c p : Nat) : Nat := nget (groupOf s h (activeGroup s h)).curves (c * 64 + p)

/-- Multiple in 1/1,024 and time in 10 µs of a curve point (R322). -/
def pointM (w : Nat) : Nat := w / 65536
def pointT (w : Nat) : Nat := w % 4096 * 2 ^ (w / 4096 % 16)

/-- Time of user curve `c` at M = n ÷ d as a ratio in 10 µs, linear in M between points (R322). -/
def userTime (s : State) (h : HalfId) (c n d : Nat) : Nat × Nat :=
  let ps := ((List.range 64).map (curvePoint s h c)).filter fun w => w != 0
  let below := ps.filter fun w => decide (pointM w * d ≤ n * 1024)
  let above := ps.filter fun w => decide (n * 1024 < pointM w * d)
  match below.getLast?, above.head? with
  | some a, some b =>
    let span := (pointM b - pointM a) * d
    (pointT a * span - (pointT a - pointT b) * (n * 1024 - pointM a * d), span)
  | none, some b => (pointT b, 1)
  | some a, none => (pointT a, 1)
  | none, none => (1, 1)

/-- Increment of G in units of 2^-32 for Δt ns at multiple n ÷ d (R320): M clamped to 1.1–MAX_M, or to
1.0–MAX_M for user curves. -/
def tocInc (s : State) (h : HalfId) (k n d dt : Nat) : Nat :=
  let c := gF s h k 2 15 8
  let tms := gF s h k 3 31 16
  let maxM := gF s h k 5 7 0
  let m := if maxM * d < n then (maxM, 1) else if c < 8 ∧ 10 * n < 11 * d then (11, 10) else (n, d)
  if c < 8 then
    let p := curvePower c m.1 m.2
    quotient (dt * p.1 * 2 ^ 32) (100 * tms * (curveK c * p.2 + curveC c * p.1))
  else
    let t := userTime s h (c - 8) m.1 m.2
    quotient (dt * t.2 * 2 ^ 32) (10 * tms * t.1)

/-- Decrement of G in disc emulation (R321). -/
def discDec (s : State) (h : HalfId) (k n d dt : Nat) : Nat :=
  quotient (dt * 2 ^ 32 * (d * d - n * n)) (gF s h k 3 31 16 * gF s h k 4 15 0 * 10000 * d * d)

/-- One usable sample of a TOC function (R320, R321). -/
def tocStep (s : State) (h : HalfId) (k dt : Nat) (ins : List GenIn) (x : GenFn) : GenFn :=
  let (i, v) := largestQ ins
  let lvl := gF s h k 1 23 0
  let reset := gF s h k 2 1 0
  let x := { x with qty := v.q, qtyQ := v.qual }
  let up := decide (lvl ≤ v.q)
  let drop := decide (v.q * 32768 < lvl * gF s h k 2 31 16)
  if x.pu && drop then
    let x1 := { x with pu := false, op := false, elapsed := 0 }
    if reset = 0 then { x1 with g := 0 }
    else if reset = 1 then { x1 with resetting := true }
    else { x1 with g := x1.g - discDec s h k v.q lvl dt }
  else
    let x1 := if !x.pu && up then { x with pu := true, start := v.inst, input := i, resetting := false } else x
    if x1.pu then
      let g := if up then min (2 ^ 32) (x1.g + tocInc s h k v.q lvl dt) else x1.g
      let op := x1.op || (decide (2 ^ 32 ≤ g) && decide (gF s h k 3 15 0 * 1000000 ≤ v.inst - x1.start))
      { x1 with g := g, op := op }
    else if reset = 2 then { x1 with g := x1.g - discDec s h k v.q lvl dt }
    else x1

/-! ### DTOC, THM, UV, OV (R323 to R326) -/

/-- One usable sample of a DTOC function (R323). -/
def dtocStep (s : State) (h : HalfId) (k dt : Nat) (ins : List GenIn) (x : GenFn) : GenFn :=
  let (i, v) := largestQ ins
  let lvl := gF s h k 1 23 0
  let x := { x with qty := v.q, qtyQ := v.qual }
  let delay := delayNs s h k
  if !x.pu then
    if lvl ≤ v.q then
      let held := if x.resetting then x.elapsed else 0
      { x with pu := true, start := if x.resetting then x.start else v.inst, input := i, elapsed := held
               resetting := false, op := decide (delay ≤ held) }
    else x
  else if v.q * 32768 < lvl * gF s h k 2 31 16 then
    if gF s h k 2 15 0 = 0 then { x with pu := false, op := false, elapsed := 0 }
    else { x with pu := false, op := false, resetting := true }
  else { x with elapsed := x.elapsed + dt, op := x.op || decide (delay ≤ x.elapsed + dt) }

/-- One usable sample of a THM function (R324, R325). -/
def thmStep (s : State) (h : HalfId) (k dt : Nat) (ins : List GenIn) (x : GenFn) : GenFn :=
  let v := ins.headD default
  let ib := gF s h k 1 23 0
  let t0 := if x.thetaSet then x.theta else gF s h k 4 15 0 * 32768
  let tau := if v.q * 32768 < gF s h k 4 31 16 * ib then gF s h k 3 15 0 else gF s h k 3 31 16
  let aim := quotient (v.q * v.q * 2 ^ 30) (ib * ib)
  let t := min (2 ^ 32 - 1) (between t0 aim (Config.thetaStep t0 v.q ib tau dt))
  let alarm := gF s h k 2 31 16
  let rst := gF s h k 2 15 0
  let pu := if x.pu then decide (alarm * rst ≤ t) else decide (alarm * 32768 ≤ t)
  let op := if x.op then decide (rst * 32768 ≤ t) else decide (2 ^ 30 ≤ t)
  { x with theta := t, thetaSet := true, pu := pu, op := op, qty := v.q, qtyQ := v.qual
           start := if pu && !x.pu then v.inst else x.start }

/-- Inputs that satisfy a condition: how many, and the lowest-numbered one. -/
def countIns (ins : List GenIn) (p : GenIn → Bool) : Nat × Nat :=
  let l := (ins.zipIdx).filter fun e => p e.1
  (l.length, (l.head?.map fun e => e.2).getD 0)

/-- One usable sample of a UV or OV function (R326). -/
def voltStep (s : State) (h : HalfId) (k type dt : Nat) (ins : List GenIn) (x : GenFn) : GenFn :=
  let lvl := gF s h k 1 23 0
  let dr := gF s h k 2 31 16
  let n := gF s h k 2 9 8
  let under := type == 4
  let picked := countIns ins fun v => if under then decide (v.q ≤ lvl) else decide (lvl ≤ v.q)
  let kept := countIns ins fun v => if under then decide (v.q * 32768 ≤ lvl * dr) else decide (lvl * dr ≤ v.q * 32768)
  let block := gF s h k 4 23 0
  let dead := under && block != 0 && ins.all fun v => decide (v.q < block)
  let v := ins.getD picked.2 default
  delayStep { x with qty := v.q, qtyQ := v.qual } (decide (n ≤ picked.1) && !dead) (decide (kept.1 < n) || dead)
    (delayNs s h k) dt v.inst v.inst picked.2

/-! ### Directional and earth fault (R351 to R354, R367) -/

/-- Wrap an angle of 0.01° to (−18,000, 18,000]. -/
def wrapAngle (a : Int) : Int := let r := (a + 17999) % 36000; r - 17999

/-- Direction of δ: 1 forward, 2 reverse, 0 undecided, with MARGIN in degrees (R351). -/
def direction (d : Int) (margin : Nat) : Nat :=
  if d.natAbs ≤ 9000 - 100 * margin then 1 else if 9000 + 100 * margin ≤ d.natAbs then 2 else 0

/-- δ = arg(I) − arg(V) − RCA in 0.01° (R351). -/
def angleTo (s : State) (h : HalfId) (k : Nat) (i v : Int × Int) : Int :=
  wrapAngle (angleOf i.1 i.2 - angleOf v.1 v.2 - toSigned 16 (gF s h k 4 31 16) * 100)

/-- The opposite of the direction wanted. -/
def opposite (d : Nat) : Nat := if d = 1 then 2 else if d = 2 then 1 else 3

/-- The voltage history and the memory voltage of a DIR at one sample (R352). -/
def memoryStep (s : State) (h : HalfId) (k : Nat) (v : GenIn) (x : GenFn) : GenFn :=
  let n := 2 * samplesPerCycle s h
  if gF s h k 5 23 0 ≤ v.q then { x with volts := ((v.re, v.im) :: x.volts).take n, mem := none, memLeft := 1 }
  else
    let can := x.memLeft == 1 && gF s h k 4 7 0 != 0 && rd s h Reg.SMP_TRK_STAT_STATE != 2
    { x with volts := ((v.re, v.im) :: x.volts).take n, memLeft := 0
             mem := if can then x.volts[n - 1]? else x.mem
             memCycles := if can then gF s h k 4 7 0 else x.memCycles }

/-- One usable sample of a DIR function (R351 to R354). -/
def dirStep (s : State) (h : HalfId) (k dt : Nat) (ins : List GenIn) (x : GenFn) : GenFn :=
  let i := ins.headD default
  let lvl := gF s h k 1 23 0
  let want := gF s h k 1 25 24
  let low := decide (i.q * 32768 < lvl * gF s h k 2 31 16)
  if ins.length = 2 then
    let v := ins.getD 1 default
    let x1 := memoryStep s h k v x
    let pol := if gF s h k 5 23 0 ≤ v.q then some (v.re, v.im)
      else if rd s h Reg.SMP_TRK_STAT_STATE = 2 then none else x1.mem
    let d := match pol with | some p => angleTo s h k (i.re, i.im) p | none => 0
    let dir := if low || pol.isNone then 0 else direction d (gF s h k 2 15 8)
    let vp := match pol with | some p => magnitude p.1 p.2 | none => 0
    let x2 := { x1 with dir := dir, angle := d, vpol := vp, qty := i.q, qtyQ := i.qual }
    delayStep x2 (decide (lvl ≤ i.q) && dir == want) (low || dir == opposite want) (delayNs s h k) dt i.inst i.inst 0
  else
    let v := if gF s h k 1 26 26 = 1 then -i.re else i.re
    let c := if (lvl : Int) ≤ v then 1 else if v ≤ -(lvl : Int) then 2 else 0
    let candAt := if c = x.cand then x.candAt else i.inst
    let dir := if c ≠ 0 ∧ gF s h k 6 15 0 * 1000 ≤ i.inst - candAt then c else x.dir
    let x1 := { x with cand := c, candAt := candAt, dir := dir, qty := i.q, qtyQ := i.qual, angle := 0, vpol := 0 }
    let x2 := delayStep x1 (decide (lvl ≤ i.q) && dir == want) (low || dir == opposite want) (delayNs s h k) dt i.inst candAt 0
    if x.pu && !x2.pu then { x2 with dir := 0 } else x2

/-- One usable sample of an EF function (R367). -/
def efStep (s : State) (h : HalfId) (k dt : Nat) (ins : List GenIn) (x : GenFn) : GenFn :=
  let a := ins.headD default
  let n := ins.length
  let ph := a.phasor
  let parts := if ph then (if n ≤ 2 then ins.take 1 else ins.take 3) else ins.take 2
  let re := (parts.map fun v => v.re).foldl (· + ·) 0
  let im := (parts.map fun v => v.im).foldl (· + ·) 0
  let q := if ph then (if n ≤ 2 then a.q else magnitude re im) else re.natAbs
  let lvl := gF s h k 1 23 0
  let want := gF s h k 1 25 24
  let low := decide (q * 32768 < lvl * gF s h k 2 31 16)
  let v0 := ins.getD (n - 1) default
  let pol := ph && want != 0 && decide (gF s h k 5 23 0 ≤ v0.q)
  let d := if pol then angleTo s h k (re, im) (v0.re, v0.im) else 0
  let dir := if low || !pol then 0 else direction d (gF s h k 2 15 8)
  let x1 := { x with dir := dir, angle := d, vpol := if pol then v0.q else 0, qty := q, qtyQ := a.qual }
  delayStep x1 (decide (lvl ≤ q) && (want == 0 || dir == want)) (low || (want != 0 && dir == opposite want))
    (delayNs s h k) dt a.inst a.inst 0

/-! ### Breaker failure and ARC (R364, R365, R393) -/

/-- Trip group `g` is active in this half; 0xFF names none. -/
def groupActive (s : State) (h : HalfId) (g : Nat) : Bool :=
  g != 0xFF && getBank s h (loHi Reg.TRM_GRP_LO_ACT Reg.TRM_GRP_HI_ACT) g

/-- One usable sample of a BF function (R364, R365); `conf` is 1 while it times. -/
def bfStep (s : State) (h : HalfId) (k dt : Nat) (ins : List GenIn) (x : GenFn) : GenFn :=
  let (i, v) := largestQ ins
  let lvl := gF s h k 1 23 0
  let above := decide (lvl * gF s h k 2 31 16 ≤ v.q * 32768)
  let checkAt := if above then v.inst else x.checkAt
  let check := if x.check then above || decide (v.inst - x.checkAt ≤ gF s h k 5 15 0 * 1000) && gF s h k 5 15 0 != 0
    else decide (lvl ≤ v.q)
  let st := groupActive s h (gF s h k 2 15 8) || groupActive s h (gF s h k 2 7 0)
  let sealed_ := gF s h k 1 24 24 == 1 && check && (x.startOn || st)
  let on := (st || sealed_) && check
  let x1 := { x with check := check, checkAt := checkAt, startOn := sealed_, qty := v.q, qtyQ := v.qual, input := i }
  if !on then { x1 with conf := 0, pu := false, op := false, elapsed := 0 }
  else
    let e := if x.conf = 0 then 0 else x.elapsed + dt
    { x1 with conf := 1, elapsed := e, start := if x.conf = 0 then v.inst else x.start
              pu := decide (gF s h k 3 31 0 * 1000 ≤ e), op := decide (gF s h k 4 31 0 * 1000 ≤ e) }

/-- One usable sample of an ARC function (R393). -/
def arcFnStep (s : State) (h : HalfId) (k dt : Nat) (ins : List GenIn) (x : GenFn) : GenFn :=
  let (i, v) := largestQ ins
  let lvl := gF s h k 1 23 0
  let light := x.light || rd s .a Reg.ARC_LIGHT_LIGHT &&& gF s h k 2 15 0 != 0
  delayStep { x with light := false, qty := v.q, qtyQ := v.qual } (light && decide (lvl ≤ v.q))
    (!light || decide (v.q * 32768 < lvl * gF s h k 2 31 16)) (delayNs s h k) dt v.inst v.inst i

/-! ### Differential (R355 to R363) -/

/-- SCALE of input `j`, signed Q2.14. -/
def diffScale (s : State) (h : HalfId) (k j : Nat) : Int := toSigned 16 (gF s h k (8 + j / 2) (16 * (j % 2) + 15) (16 * (j % 2)))

/-- Output rate of a preset in outputs per second (R235). -/
def rateOf (p : Nat) : Nat := presetRate p

/-- Window length of a DIFF in instants: AVG, or R ÷ f_T rounded (R360). -/
def diffWindow (s : State) (h : HalfId) (k preset : Nat) : Nat :=
  if gF s h k 1 24 24 = 0 then max 1 (gF s h k 6 7 0)
  else (2 * rateOf preset * 1000000 + (half s h).fe.fT) / (2 * max 1 (half s h).fe.fT)

/-- Id, Ir, H2 as numerators over one denominator, from a window of scaled inputs, newest first (R360). -/
def diffQuantities (ac : Bool) (win : List (List Int)) : Nat × Nat × Nat × Nat :=
  let ds := win.map fun w => w.foldl (· + ·) 0
  let m := ((win.headD []).length)
  if ac then
    (2 * Config.harmonicRms 1 ds,
     ((List.range m).map fun j => Config.harmonicRms 1 (win.map fun w => w.getD j 0)).foldl (· + ·) 0,
     2 * Config.harmonicRms 2 ds, 2 ^ 15)
  else
    (2 * (ds.foldl (· + ·) 0).natAbs, (win.map fun w => (w.map Int.natAbs).foldl (· + ·) 0).foldl (· + ·) 0, 0,
     2 ^ 15 * max 1 win.length)

/-- B(Ir) times 2^14 over the same denominator (R361). -/
def diffBias (s : State) (h : HalfId) (k ir den : Nat) : Nat :=
  let irb := gF s h k 3 23 0 * den
  let s1 := gF s h k 2 31 16
  if ir ≤ irb then s1 * ir else s1 * irb + gF s h k 2 15 0 * (ir - irb)

/-- One usable instant of a DIFF function (R360 to R363). -/
def diffStep (s : State) (h : HalfId) (k preset inst qual : Nat) (xs : List Int) (x : GenFn) : GenFn :=
  let ac := gF s h k 1 24 24 == 1
  let scaled := (xs.zipIdx).map fun e => diffScale s h k e.2 * e.1
  let win := (scaled :: x.win).take (diffWindow s h k preset)
  let (id, ir, h2, den) := diffQuantities ac win
  let b := diffBias s h k ir den
  let idmin := gF s h k 1 23 0 * den
  let idhi := gF s h k 4 23 0
  let restr := decide (idmin ≤ id) && decide (b ≤ id * 2 ^ 14)
  let unre := idhi != 0 && decide (idhi * den ≤ id)
  let h2b := ac && gF s h k 5 31 16 != 0 && decide (gF s h k 5 31 16 * id ≤ h2 * 32768)
  let conf := if restr then x.conf + 1 else 0
  let confd := decide (gF s h k 5 3 0 ≤ conf) && restr
  let sig := gF s h k 5 15 8
  let bySig := !ac && sig != 0xFF
  let held := heldClass (fastFn s h sig)
  let rs := if bySig then restraintNext x.rstate confd held (gF s h k 1 25 25 == 1) else 0
  let drop := decide (id * 2 ^ 29 < gF s h k 6 31 16 * max (idmin * 2 ^ 14) b) && (idhi == 0 || decide (id < idhi * den))
  let x1 := { x with win := win, id := id, ir := ir, h2 := h2, den := den, restrained := restr, unrestrained := unre
                     h2block := h2b, conf := conf, rstate := rs, qty := (quotient id den : Nat), qtyQ := qual
                     rsince := if x.rstate = 0 ∧ rs ≠ 0 then s.ticks else x.rsince
                     last := match held with | some c => c | none => x.last }
  if x.pu && drop then { x1 with pu := false, op := false, conf := 0, rstate := 0 }
  else
    let go := unre || (confd && !h2b && (!bySig || rs == 3))
    let pu := x.pu || restr || unre
    { x1 with pu := pu, start := if pu && !x.pu then inst else x.start, op := pu && (x.op || go) }

/-! ### Registers and records of a general function (R337, R343, R347) -/

/-- The type the image gives slot `k`. -/
def genType (s : State) (h : HalfId) (k : Nat) : Nat := match genRec s h k with | some r => r.type | none => 0

/-- Store general function `k`, show it in the FAB registers, and record a rising OPERATE. -/
def genPut (s : State) (h : HalfId) (k : Nat) (x : GenFn) : State :=
  let old := genFn s h k
  let type := genType s h k
  let s1 := modDec s h fun d => { d with gen := sset (fun _ => default) d.gen k x }
  let s2 := putBank (putBank s1 h Reg.FAB_OP_OP k x.op) h Reg.FAB_PU_PU k x.pu
  let s3 := putBank s2 h Reg.FAB_INV_INV k (!x.valid)
  let s4 := if x.op then putBank s3 h Reg.FAB_OPH_OPH k true else s3
  let s5 := wr (wrB s4 h (Reg.FAB_FSTAT_EN k) (slotOn s h k)) h (Reg.FAB_FSTAT_TYPE k) type
  let s6 := wrB (wrB s5 h (Reg.FAB_FSTAT_VALID k) x.valid) h (Reg.FAB_FSTAT_FROZEN k) x.frozen
  let s7 := wr (wrB (wrB s6 h (Reg.FAB_FSTAT_PU k) x.pu) h (Reg.FAB_FSTAT_OP k) x.op) h (Reg.FAB_FSTAT_INPUT k) x.input
  if x.op && !old.op then
    let s8 := count s7 h (0x34 + k)
    let s9 := ledgerOnce s8 h (0x200 + k) 0x0801 fun m => p4s [k, type] ++ timeBytes x.start ++ p4s [x.input, m]
    qPush s9 h 2 (qItem s9 h (0x200 + k) 0x0801 (p4s [k, type]))
  else s7

/-- The dropout state with timing state zero (R315, R118); θ of a THM is kept. -/
def genDrop (x : GenFn) : GenFn :=
  { x with pu := false, op := false, elapsed := 0, g := 0, resetting := false, conf := 0, rstate := 0, dir := 0, cand := 0
           startOn := false, check := false, win := [], frozen := false, frozenAt := 0 }

/-- A function counts as picked up for R315: PICKUP, a BF that times (R365). -/
def timing (type : Nat) (x : GenFn) : Bool := x.pu || (type == 0xB && x.conf != 0)

/-- An unusable sample instant (R315, R316). -/
def genUnusable (s : State) (h : HalfId) (k type inst : Nat) (x : GenFn) : State :=
  let x1 := { x with valid := false, lastInst := inst, arrived := 0, freqs := [], phase := none }
  genPut s h k (if timing type x ∧ type ≠ 3 then
    { x1 with frozen := true, frozenAt := if x.frozen then x.frozenAt else s.ticks + 1 } else x1)

/-- A usable evaluation of a function (R313, R316): the type's step, VALID and the OR of its quality bits. -/
def genUsable (s : State) (h : HalfId) (k _type inst : Nat) (quals : List Nat) (step : Nat → GenFn → GenFn) : State :=
  let x := genFn s h k
  let dt := if x.lastInst = 0 then 0 else inst - x.lastInst
  let q := quals.foldl (fun b v => b ||| v % 128) 0
  let x1 := step dt { x with frozen := false, frozenAt := 0 }
  genPut s h k { x1 with
    valid := true, started := true, qual := q, arrived := 0, lastInst := inst
    subst := x.subst || (modeOf s h == mTEST && bit q 0) }

/-- A function whose ENABLE is 0 (R316, R325). -/
def genOff (s : State) (h : HalfId) (k : Nat) : State :=
  genPut s h k { genDrop (genFn s h k) with valid := true, qual := 0, arrived := 0 }

/-- The step of a level type at one usable sample. -/
def levelStep (s : State) (h : HalfId) (k type dt : Nat) (ins : List GenIn) (x : GenFn) : GenFn :=
  if type = 1 then tocStep s h k dt ins x
  else if type = 2 then dtocStep s h k dt ins x
  else if type = 3 then thmStep s h k dt ins x
  else if type = 4 ∨ type = 5 then voltStep s h k type dt ins x
  else if type = 9 then dirStep s h k dt ins x
  else if type = 0xB then bfStep s h k dt ins x
  else if type = 0xC then efStep s h k dt ins x
  else if type = 0xD then arcFnStep s h k dt ins x
  else x

/-! ### Frequency functions (R327 to R329) -/

/-- f_k in mHz from the angle change (0.01°) over a cycle of `t` ns (R327). -/
def freqMilli (d : Int) (t : Nat) : Nat := quotient ((36000 + d).toNat * 10 ^ 12) (36000 * t)

/-- UF, OF and ROCOF at a usable boundary (R328, R329): `fs` holds f_k and T_k, newest first. -/
def freqStep (s : State) (h : HalfId) (k type dt inst : Nat) (fs : List (Nat × Nat)) (q : Nat) (x : GenFn) : GenFn :=
  let f := (fs.headD (0, 0)).1
  let fr := gF s h k 1 23 0
  if type = 6 then
    delayStep { x with qty := f, qtyQ := q, freqs := fs } (decide (f ≤ fr)) (decide (fr + gF s h k 2 15 0 < f)) (delayNs s h k) dt inst inst 0
  else if type = 7 then
    delayStep { x with qty := f, qtyQ := q, freqs := fs } (decide (fr ≤ f)) (decide (f + gF s h k 2 15 0 < fr)) (delayNs s h k) dt inst inst 0
  else
    let w := gF s h k 2 7 0
    let d : Int := (f : Int) - ((fs.getD w (0, 0)).1 : Int)
    let t := ((fs.take w).map fun e => e.2).foldl (· + ·) 0
    let dir := gF s h k 1 25 24
    let v : Int := if dir = 0 then d.natAbs else if dir = 1 then d else -d
    let r : Int := (quotient (d.natAbs * 10 ^ 9) t : Nat)
    delayStep { x with qty := if d < 0 then -r else r, qtyQ := q, freqs := fs }
      (decide ((fr : Int) * t ≤ v * 10 ^ 9)) (decide (v * 10 ^ 9 * 32768 < (fr : Int) * gF s h k 2 31 16 * t))
      (delayNs s h k) dt inst inst 0

/-- A frequency function at the phasor of a tracked-cycle boundary whose cycle took `cyc` ns (R327). -/
def freqEval (s : State) (h : HalfId) (k type cyc : Nat) (v : GenIn) : State :=
  let x := genFn s h k
  let good := usableQ v.qual && decide (gF s h k 4 23 0 ≤ v.q)
  let a := angleOf v.re v.im
  match x.phase, good with
  | some p, true =>
    let d := wrapAngle (a - p)
    let f := freqMilli d cyc
    let fs := ((f, cyc) :: x.freqs).take 51
    let enough := type != 8 || decide (gF s h k 2 7 0 < fs.length)
    if d.natAbs < 9000 ∧ rd s h Reg.SMP_TRK_STAT_STATE ≠ 2 ∧ enough = true then
      genUsable s h k type v.inst [v.qual] fun dt x => { freqStep s h k type dt v.inst fs v.qual x with phase := some a }
    else
      let s1 := genUnusable s h k type v.inst x
      genPut s1 h k { genFn s1 h k with
        phase := some a, freqs := if d.natAbs < 9000 ∧ rd s h Reg.SMP_TRK_STAT_STATE ≠ 2 then fs else [] }
  | none, true =>
    let s1 := genUnusable s h k type v.inst x
    genPut s1 h k { genFn s1 h k with phase := some a }
  | _, false => genUnusable s h k type v.inst x

/-! ### Alignment of DIFF inputs (R355 to R359) -/

/-- Stream inputs of an input list: position and designator. -/
def streamIns (ins : List Nat) : List (Nat × Nat) := ((ins.zipIdx).filter fun e => bit e.1 15).map fun e => (e.2, e.1)
def localIns (ins : List Nat) : List (Nat × Nat) := ((ins.zipIdx).filter fun e => !bit e.1 15).map fun e => (e.2, e.1)

/-- The preset of a DIFF: of its local chains, or of its stream subscription. -/
def diffPreset (s : State) (h : HalfId) (ins : List Nat) : Nat :=
  match (localIns ins).head? with
  | some e => match chainRec s h (e.2 % 256) with | some r => r.resp | none => 0
  | none => match (streamIns ins).head? with
    | some e => match (ardCfg s h).ssubs[e.2 / 16 % 256]? with | some q => q.preset | none => 0
    | none => 0

/-- Half an output period of a preset in ns, rounded down. -/
def halfPeriod (p : Nat) : Nat := 500000000 / rateOf p

/-- The held sample of stream input `j` for local instant `t` (R355). -/
def matchHeld (x : GenFn) (p j t : Nat) : Option (Nat × Nat × Nat × Bool) :=
  x.held.find? fun e => e.1 == j && decide (e.2.1 ≤ t + halfPeriod p) && decide (t ≤ e.2.1 + halfPeriod p)

/-- Missing and present runs of a stream input (R359). -/
def streamRun (s : State) (h : HalfId) (k j sub : Nat) (here : Bool) : State :=
  let x := genFn s h k
  let m := if here then 0 else nget x.missRun j + 1
  let g := if here then nget x.goodRun j + 1 else 0
  let lost := nget x.lost j
  let s1 := modDec s h fun d => { d with gen := sset (fun _ => default) d.gen k { x with
    missRun := nset x.missRun j m, goodRun := nset x.goodRun j g
    lost := nset x.lost j (if lost = 0 ∧ m = 64 then s.ticks + 1 else if lost ≠ 0 ∧ g = 64 then 0 else lost) } }
  if lost = 0 ∧ m = 64 then ledgerH s1 h 0x0901 (p4s [k, j, sub])
  else if lost ≠ 0 ∧ g = 64 then ledgerH s1 h 0x0902 (p4s [k, j, (s.ticks + 1 - lost) / 125000])
  else s1

/-- DIFF_SYNC_LOST (R357, R373): the time base, `cause` 1 local or 2 sender, is no longer or again synchronised. -/
def syncNote (s : State) (h : HalfId) (k cause : Nat) (lost : Bool) : State :=
  let x := genFn s h k
  let was := if cause = 1 then x.unsyncLocal else x.unsyncSender
  if was == lost then s
  else
    let x1 := if cause = 1 then { x with unsyncLocal := lost } else { x with unsyncSender := lost }
    ledgerH (modDec s h fun d => { d with gen := sset (fun _ => default) d.gen k x1 }) h 0x0903 (p4s [k, cause, if lost then 1 else 2])

/-- The synchronisation of a DIFF's time base and of its senders at an instant with samples `found`. -/
def syncNotes (s : State) (h : HalfId) (k : Nat) (found : List (Option (Nat × Nat × Nat × Bool))) : State :=
  if found.isEmpty then s
  else
    let s1 := syncNote s h k 1 (!synced s)
    if found.all (·.isNone) then s1
    else syncNote s1 h k 2 (found.any fun e => match e with | some q => !q.2.2.2 | none => false)

/-- Evaluate the oldest waiting instant of a DIFF (R355 to R357): a missing input counts and makes the instant
unusable; so does an unsynchronised time base or sender where a stream is used. -/
def diffHead (s : State) (h : HalfId) (k : Nat) (ins : List Nat) : State :=
  let x := genFn s h k
  let p := diffPreset s h ins
  match x.waits with
  | [] => s
  | w :: rest =>
    let streams := streamIns ins
    let found := streams.map fun e => (e, matchHeld x p e.1 w.inst)
    let miss := (found.filter fun e => e.2.isNone).length
    let s1 := satAdd s h Reg.FAB_ALIGN_MISSING miss
    let s2 := syncNotes (found.foldl (fun s e => streamRun s h k e.1.1 (e.1.2 / 16 % 256) e.2.isSome) s1) h k (found.map fun e => e.2)
    let vals := (ins.zipIdx).map fun e =>
      if bit e.1 15 then (match matchHeld x p e.2 w.inst with
        | some q => (toSigned 24 (q.2.2.1 / 256), q.2.2.1 % 256, q.2.2.2)
        | none => (0, 0, true))
      else match w.locals.find? fun l => l.1 == e.2 with
        | some l => (l.2.1, l.2.2, true)
        | none => (0, 0, true)
    let unsync := !streams.isEmpty && (!synced s || vals.any fun v => !v.2.2)
    let x2 := { genFn s2 h k with
      waits := rest, missing := miss != 0, lastInst := w.inst
      held := x.held.filter fun e => decide (w.inst + halfPeriod p < e.2.1) }
    let s3 := modDec s2 h fun d => { d with gen := sset (fun _ => default) d.gen k x2 }
    if !slotOn s h k then genOff s3 h k
    else if miss ≠ 0 ∨ unsync = true ∨ (vals.any fun v => !usableQ v.2.1) = true then genUnusable s3 h k 0xA w.inst x2
    else
      let q := vals.foldl (fun b v => b ||| v.2.1 % 128) 128
      genUsable s3 h k 0xA w.inst (vals.map fun v => v.2.1) fun _ x => diffStep s h k p w.inst q (vals.map fun v => v.1) x

/-- Evaluate waiting instants in order while every stream sample of the oldest one has arrived. -/
def diffReady (s : State) (h : HalfId) (k : Nat) (ins : List Nat) : Nat → State
  | 0 => s
  | n + 1 =>
    let x := genFn s h k
    match x.waits with
    | [] => s
    | w :: _ =>
      if (streamIns ins).all fun e => (matchHeld x (diffPreset s h ins) e.1 w.inst).isSome
      then diffReady (diffHead s h k ins) h k ins n else s

/-- The local outputs of an instant have arrived: it waits for its streams (R356). -/
def diffLocal (s : State) (h : HalfId) (k : Nat) (ins : List Nat) : State :=
  let x := genFn s h k
  let ls := (localIns ins).map fun e => let v := genIn s h e.2; (e.1, v.re, v.qual)
  let inst := match (localIns ins).head? with | some e => (genIn s h e.2).inst | none => 0
  let x1 := { x with arrived := 0, waits := x.waits ++ [{ inst := inst, locals := ls }] }
  let s1 := modDec s h fun d => { d with gen := sset (fun _ => default) d.gen k x1 }
  diffReady s1 h k ins x1.waits.length

/-- A stream sample for input `j` of DIFF `k` (R350, R356): late where its instant has been evaluated. -/
def diffStream (s : State) (h : HalfId) (k j inst word_ : Nat) (sync : Bool) (ins : List Nat) : State :=
  let x := genFn s h k
  let late := x.lastInst != 0 && decide (inst ≤ x.lastInst + halfPeriod (diffPreset s h ins))
  if late then satAdd s h Reg.FAB_ALIGN_LATE 1
  else
    let x1 := { x with held := x.held ++ [(j, inst, word_, sync)] }
    let x2 := if (localIns ins).isEmpty && !(x.waits.any fun w => w.inst == inst) then
      { x1 with waits := x1.waits ++ [{ inst := inst, locals := [] }] } else x1
    let s1 := modDec s h fun d => { d with gen := sset (fun _ => default) d.gen k x2 }
    diffReady s1 h k ins (x2.waits.length)

/-! ### Evaluation at a chain output (R313, R317) -/

/-- Function `k` at an output of chain `c`: it evaluates when all its inputs have delivered (R310, R317). -/
def genChain (s : State) (h : HalfId) (r : GenTileRec) (c : Nat) (cyc : Option Nat) : State :=
  let k := r.slot
  let hit := ((r.inputs.zipIdx).filter fun e => !bit e.1 15 && e.1 % 256 == c).foldl (fun m e => m + 2 ^ e.2) 0
  let need := (localIns r.inputs).foldl (fun m e => m + 2 ^ e.1) 0
  if hit = 0 then s
  else
    let x := genFn s h k
    let got := x.arrived ||| hit
    let s1 := modDec s h fun d => { d with gen := sset (fun _ => default) d.gen k { x with arrived := got } }
    if got ≠ need then s1
    else if r.type = 0xA then diffLocal s1 h k r.inputs
    else if !slotOn s h k then
      let at_ := (genIn s1 h (r.inputs.headD 0)).inst
      genOff (modDec s1 h fun d => { d with gen := sset (fun _ => default) d.gen k { genFn s1 h k with lastInst := at_ } }) h k
    else
      let ins := r.inputs.map (genIn s1 h)
      let inst := (ins.headD default).inst
      if 6 ≤ r.type ∧ r.type ≤ 8 then
        match cyc with
        | some t => freqEval s1 h k r.type t (ins.headD default)
        | none => modDec s1 h fun d => { d with gen := sset (fun _ => default) d.gen k { genFn s1 h k with arrived := 0 } }
      else if ins.all fun v => usableQ v.qual then
        genUsable s1 h k r.type inst (ins.map fun v => v.qual) fun dt x => levelStep s1 h k r.type dt ins x
      else genUnusable s1 h k r.type inst (genFn s1 h k)

/-- Every general function of a half that lists chain `c`, in slot order of the image's records. -/
def generalEval (s : State) (h : HalfId) (c : Nat) (cyc : Option Nat) : State :=
  match (half s h).image with
  | some i => i.general.foldl (fun s r => if r.slot < 192 then genChain s h r c cyc else s) s
  | none => s

/-! ### Timer commands of general functions -/

/-- FREEZE_DROP (R315): a frozen function drops out with its timing state zeroed. -/
def execFreezeDrop (h : HalfId) (slot : Nat) (s : State) : Host.Outcome State Fault Refusal :=
  let x := genFn s h slot
  if x.frozen then
    let q := match genRec s h slot with
      | some r => (r.inputs.map fun d => if bit d 15 then 0 else (genIn s h d).qual).foldl (fun b v => b ||| v % 128) 0
      | none => 0
    let s1 := genPut s h slot { genDrop x with valid := false }
    .next (decideOut (ledgerH s1 h 0x0807 (p4s [slot, genType s h slot, q])) h)
  else .next s

/-- DEFINITE_RESET_EXPIRY (R321, R323): the held integration and elapsed time become 0. -/
def execDefiniteResetExpiry (h : HalfId) (slot : Nat) (s : State) : Host.Outcome State Fault Refusal :=
  let x := genFn s h slot
  .next (if x.resetting && !x.pu then genPut s h slot { x with resetting := false, g := 0, elapsed := 0 } else s)

/-- ALIGN_WAIT_EXPIRY (R356): the oldest waiting instant of a DIFF is evaluated without its missing inputs. -/
def execAlignWaitExpiry (h : HalfId) (slot : Nat) (s : State) : Host.Outcome State Fault Refusal :=
  match genRec s h slot with
  | some r =>
    if r.type = 0xA ∧ (genFn s h slot).waits ≠ [] then
      let s1 := diffHead s h slot r.inputs
      .next (edgeTriggers (decideOut (diffReady s1 h slot r.inputs ((genFn s1 h slot).waits.length)) h) h)
    else .next s
  | none => .next s

/-! ### Restraint by SIG: IOC and DIFF together (R281 to R286, R363) -/

/-- DIFF slots restrained by SIG function `g`. -/
def diffsOf (s : State) (h : HalfId) (g : Nat) : List Nat :=
  match (half s h).image with
  | some i => (i.general.filter fun r => r.type == 0xA && decide (r.slot < 192) && slotOn s h r.slot
      && gF s h r.slot 1 24 24 == 0 && gF s h r.slot 5 15 8 == g).map fun r => r.slot
  | none => []

/-- A classification acts on a DIFF in WAIT or BLOCKED (R285, R363). -/
def diffRelease (s : State) (h : HalfId) (k g : Nat) : State :=
  let x := genFn s h k
  let held := heldClass (fastFn s h g)
  if x.rstate = 0 then s
  else
    let r := restraintNext x.rstate true held (gF s h k 1 25 25 == 1)
    genPut s h k { x with rstate := r, op := x.op || (r == 3 && x.pu), last := match held with | some c => c | none => x.last }

/-- SIG_WINDOW_CLOSE (R281 to R283): the window of 32 samples is classified and the result is held. -/
def execSigWindowClose (h : HalfId) (f : Nat) (s : State) : Host.Outcome State Fault Refusal :=
  let x := fastFn s h f
  if x.sig = 1 ∧ x.win.length = 32 then
    let (cls, cause, t1, t2, s1, s2) := classify s h f x.win
    let x1 := { x with sig := 2, cls := cls, cause := cause, tpl1 := t1, tpl2 := t2, s1 := s1, s2 := s2, win := [] , ovr := x.win.any fun p => p.ovr }
    let st := count (fnPut s h f x1) h (0x1DC + f)
    let st := releaseRestrained st h f
    .next (edgeTriggers (afterFast ((diffsOf st h f).foldl (fun s k => diffRelease s h k f) st) h) h)
  else .next s

/-- MAXR_EXPIRY (R286, R363): a restrained IOC, or DIFF, in WAIT or BLOCKED operates under MAXR. -/
def execMaxrExpiry (h : HalfId) (diff : Bool) (k : Nat) (s : State) : Host.Outcome State Fault Refusal :=
  if diff then
    let x := genFn s h k
    if x.rstate = 1 ∨ x.rstate = 2 then
      let g := gF s h k 5 15 8
      let s1 := genPut s h k { x with rstate := 3, op := x.pu }
      let cls := match heldClass (fastFn s h g) with | some c => c | none => 0
      .next (edgeTriggers (decideOut (ledgerH s1 h 0x0702 (p4s [k, g, cls, (s.ticks - x.rsince) / 125])) h) h)
    else .next s
  else
    let x := fastFn s h k
    if x.rstate = 1 ∨ x.rstate = 2 then
      let g := (restraintOf s h k).getD 0
      let s1 := wrB (fnPut s h k { x with rstate := 3, op := true }) h (Reg.FST_FSTAT_MAXR k) true
      let cls := match heldClass (fastFn s h g) with | some c => c | none => 0
      .next (edgeTriggers (afterFast (ledgerH s1 h 0x0702 (p4s [k, g, cls, (s.ticks - x.rsince) / 125])) h) h)
    else .next s

/-! ### FAB windows (R342 to R346, R371) -/

/-- PROGRESS of R344 and R371. -/
def progress (s : State) (h : HalfId) (k : Nat) (x : GenFn) : Nat :=
  let type := genType s h k
  if type = 1 then x.g / 2 ^ 17
  else if type = 3 then min 0xFFFF (x.theta / 2 ^ 15)
  else if type = 0xA then 0
  else
    let d := if type = 0xB then gF s h k 4 31 0 * 1000 else delayNs s h k
    if d ≤ x.elapsed then (if x.pu then 0x8000 else 0) else min 0x8000 (quotient (x.elapsed * 32768) d)

/-- FAB_FCMP0 and FAB_FCMP1 (R371). -/
def compareWords (s : State) (h : HalfId) (k : Nat) (x : GenFn) : Nat × Nat :=
  let type := genType s h k
  if type = 9 ∨ type = 0xC then
    (ofSigned 16 x.angle * 65536 + x.dir + 4 * b2n (type == 9 && x.mem.isSome && x.memLeft == 0 && rd s h Reg.SMP_TRK_STAT_STATE != 2), x.vpol % 2 ^ 24 * 256)
  else if type = 0xA then
    let den := max 1 x.den
    (quotient x.id den % 2 ^ 24 * 256 + b2n x.restrained + 2 * b2n x.unrestrained + 4 * b2n x.h2block
       + 8 * b2n (x.rstate == 1 || x.rstate == 2) + 16 * x.rstate + 64 * b2n x.missing,
     quotient x.ir den % 2 ^ 24 * 256 + (if x.id = 0 then 0 else min 255 (quotient (x.h2 * 100) x.id)))
  else if type = 0xB then
    ((if x.conf = 0 then 0 else if x.op then 3 else if x.pu then 2 else 1)
      + 4 * b2n (x.startOn || groupActive s h (gF s h k 2 15 8) || groupActive s h (gF s h k 2 7 0)) + 8 * b2n x.check, 0)
  else (0, 0)

/-- A read of FAB_FSTAT latches the other registers of the selected function (R342). -/
def fabLatch (s : State) (h : HalfId) : State :=
  let k := rd s h Reg.FAB_FSEL_SLOT
  let on := decide (k < 192)
  let x := genFn s h k
  let v := fun (n : Nat) => if on then n else 0
  let s1 := wr (wr s h Reg.FAB_FSTART_NS_NS (v (nsOf x.start))) h Reg.FAB_FSTART_SEC_SEC (v (secOf x.start))
  let s2 := wr (wr s1 h Reg.FAB_FQTY_VALUE (v (ofSigned 24 x.qty))) h Reg.FAB_FQTY_QUALITY (v x.qtyQ)
  let s3 := wr s2 h Reg.FAB_FSTATE_PROGRESS (v (progress s h k x))
  let c := compareWords s h k x
  wr (wr s3 h Reg.FAB_FCMP0_WORD (v c.1)) h Reg.FAB_FCMP1_WORD (v c.2)


/-- The key of the selected user-curve point in its group. -/
def curveKey (s : State) (h : HalfId) : Nat := rd s h Reg.FAB_UC_SEL_CURVE * 64 + rd s h Reg.FAB_UC_SEL_POINT

/-- POINT advances by 1, from 63 to 0 of the next curve (R346). -/
def curveAdvance (s : State) (h : HalfId) : State :=
  let p := rd s h Reg.FAB_UC_SEL_POINT
  if p < 63 then wr s h Reg.FAB_UC_SEL_POINT (p + 1)
  else wr (wr s h Reg.FAB_UC_SEL_POINT 0) h Reg.FAB_UC_SEL_CURVE (rd s h Reg.FAB_UC_SEL_CURVE + 1)

/-- An access to FAB_UC_DATA: a read shows the selected point, an accepted write stores it (R346). -/
def curveAccess (s : State) (h : HalfId) (w : Option Nat) : State :=
  let g := rd s h Reg.FAB_UC_SEL_GROUP
  match w with
  | none => curveAdvance (setWord s h Reg.FAB_UC_DATA_M.key (nget (groupOf s h g).curves (curveKey s h))) h
  | some v =>
    if groupWritable s h g then
      curveAdvance (modGroup s h g fun x => { x with curves := nset x.curves (curveKey s h) (v % 2 ^ 32) }) h
    else wrB s h Reg.SET_ACTIVE_WRITE_REFUSED true


end Sys2Proof.Machine
end

