-- ==== Sys2Proof/Machine/Chains.lean ====
section
/-!
DEFINITION. Filter chains (R229 to R272): quality of the source, restart and settling, substitution, TEST
injection, detectors, what an output feeds, response switches and the chain and injection registers.
-/

namespace Sys2Proof.Machine

open Sys2Proof (Byte HalfId)

/-! ### Quality of a source channel (R131, R136, R154, R163) -/

def setChain (s : State) (h : HalfId) (c : Nat) (x : ChainRun) : State :=
  modFe s h fun f => { f with chains := sset (fun _ => default) f.chains c x }

/-- The image's precision subset for LAYUP holds channel code `k` (R253). -/
def inSubset (s : State) (h : HalfId) (k : Nat) : Bool :=
  match (half s h).image with
  | some i => i.sys.subset.contains k
  | none => false

/-- FAILED of precision channel `n` (R148). -/
def pcFailed (s : State) (h : HalfId) (n : Nat) : Bool := rdB s h (Reg.PCV_STAT_FAILED n)

/-- Quality byte of the latest sample of a channel code before any chain (R163, with R141 and R253). -/
def channelQual (s : State) (h : HalfId) (k : Nat) : Nat :=
  let settle := 8 * b2n (refSettling s h)
  let awake := !asleep s h || inSubset s h k
  if k < 0x40 then
    settle + 128 * b2n (refGood s h && awake && !pcFailed s h k && decide (k < precCount s) && rdB s h Reg.SMP_CLK_STAT_MOD_LOCK)
  else if k < 0x80 then
    128 * b2n (awake && decide (k - 0x40 < bsiCount s) && !rdB s h (Reg.BSI_STAT_FAULT (k - 0x40)))
  else if k < 0xC0 then
    let w := rd s h (Reg.FCV_SAMP_RAW (k - 0x80))
    settle + 128 * b2n (bit w 0 && !asleep s h) + 64 * b2n (bit w 1)
  else
    settle + 128 * b2n (refGood s h && !rdB s h Reg.HKA_STAT_SELFCHECK && rdBit s h Reg.HKA_CTRL_EN (k - 0xC0)
      && !bit (half s h).fe.hkFailed (k - 0xC0) && !(!hasArc s && decide (0xDC ≤ k)))

/-- The same with VALID 0 on every channel while TB_CLK is unlocked (R202, R645). -/
def channelQ (s : State) (h : HalfId) (k : Nat) : Nat :=
  if rdB s .a Reg.TIME_STAT_UNLOCK then channelQual s h k % 128 else channelQual s h k

/-! ### Settling (R234, R244) -/

/-- Settle length of a response: outputs, and ticks of its BALANCED part (R234). -/
def settleOf (src resp : Nat) : Nat × Nat :=
  if 0xC0 ≤ src then (1, 0)
  else if resp < 4 then ([4, 8, 24, 16].getD resp 0, 0)
  else ([8, 16, 72, 40, 144, 80, 72, 144, 72, 144].getD (resp - 4) 0, 31250)

/-- The response in force. -/
def respNow (s : State) (h : HalfId) (c : Nat) : Nat := rd s h (Reg.PCV_FLT_CFG_RESP_NOW c)

/-- The response in force of chain `c` changes; the recorder's channel tables show it (R554). -/
def putResp (s : State) (h : HalfId) (c resp : Nat) : State :=
  let old := respNow s h c
  let s1 := wr s h (Reg.PCV_FLT_CFG_RESP_NOW c) resp
  if old = resp then s1 else noteChange s1 h (fun ar e => ar.kind != 1 && e % 256 == c) 2 old

/-- Ticks of 3.6 s, the settle length of conditioning (R234). -/
def condTicks : Nat := 450000000

/-- Restart of a chain (R244, R250, R257): flushed state, detectors at 0, the settle length begins. -/
def restartChain (s : State) (h : HalfId) (c : Nat) : State :=
  match chainRec s h c with
  | none => s
  | some r =>
    let x := chainRun s h c
    let (n, b) := settleOf r.src (respNow s h c)
    let cond := if r.det / 2 ^ 30 = 0 then 0 else s.ticks + condTicks
    let s1 := setChain s h c { x with
      flushed := false, settleOut := n, settleBase := if b = 0 then 0 else s.ticks + b, settleCond := cond
      pk := 0, pkQ := 0, env := 0, envQ := 0, outs := 0, bitAt := [], rmsWin := [], rmsQ := x.rmsQ ||| 32, hist := [] }
    satAdd (wrBit s1 h (Reg.PCV_FLT_SETTLING_SETTLING (c / 32)) (c % 32) true) h (Reg.PCV_FLT_STAT_RESTARTS c) 1

/-- Restart every chain of a half whose record satisfies `p`. -/
def restartChains (s : State) (h : HalfId) (p : ChainRec → Bool) : State :=
  match (half s h).image with
  | some i => i.chains.foldl (fun s r => if p r then restartChain s h r.chain else s) s
  | none => s

/-- One output's step of a settle count: whether it settles, and the count after it. -/
def settleStep (ticks out base cond : Nat) : Bool × Nat :=
  if ticks < base then (true, out)
  else if 0 < out then (true, out - 1)
  else (decide (ticks < cond), 0)

/-! ### Substitution and injection (R145, R146, R245 to R249) -/

/-- Tracked phase accumulator at the present tick (R203). -/
def phaseNow (s : State) (h : HalfId) : Nat :=
  let f := (half s h).fe
  (f.acc + (s.ticks - f.accTick) * (f.fT + f.fOff).toNat * 2 ^ 32 / (125000000 * 1000000)) % 2 ^ 32

/-- The output one tracked cycle earlier (R146), or the oldest held. -/
def cycleAgo (s : State) (h : HalfId) (x : ChainRun) : Int × Int :=
  let t := (half s h).fe.cycleNs / 8
  match x.hist.find? fun e => decide (e.1 + t ≤ s.ticks) with
  | some e => (e.2.1, e.2.2.1)
  | none => match x.hist.getLast? with | some e => (e.2.1, e.2.2.1) | none => (x.re, x.im)

/-- Word `w` of injection set `n` (R246). -/
def injWord (s : State) (h : HalfId) (n w : Nat) : Nat := nget (half s h).fe.injStore (n * 256 + w)

/-- The entry of set `n` that names chain `c`, if one does. -/
def injEntry (s : State) (h : HalfId) (n c : Nat) : Option Nat :=
  (List.range (injWord s h n 0 % 32)).find? fun e => injWord s h n (1 + 8 * e) % 256 == c

/-- Limit of an injected value to Q0.23 (R248). -/
def satQ (v : Int) : Int := satSigned 24 v

/-- The injected value of chain `c` by entry `e` of set `n`, `t` ns after S_I; `none` once both parts have run. -/
def injValue (s : State) (h : HalfId) (n e c t : Nat) : Option (Int × Int) :=
  let w := fun k => injWord s h n (1 + 8 * e + k)
  let pre := w 1 * 1000
  let stop := pre + w 2 * 1000
  if stop ≤ t then none
  else
    let fault := decide (pre ≤ t)
    let d := toSigned 24 (if fault then w 5 else w 3)
    let a := if fault then w 6 else w 4
    let ph := toSigned 16 (if fault then w 7 % 65536 else w 7 / 65536)
    let freq := w 0 / 65536
    match chainRec s h c with
    | none => none
    | some r =>
      let hn : Nat := if r.resp = 10 ∨ r.resp = 11 then 2 else if r.resp = 12 ∨ r.resp = 13 then 5 else 1
      if 0xC0 ≤ r.src then some (satQ d, 0)
      else if 6 ≤ r.resp then
        let df : Int := if freq = 0 then 0 else (freq : Int) * 10000 - (hn * (half s h).fe.fT : Nat)
        let v := Config.injectPhasor a df t ph
        some (satQ v.1, satQ v.2)
      else if freq = 0 then some (satQ (Config.injectTracked d a (phaseNow s h) ph), 0)
      else some (satQ (Config.injectWave d a freq t ph), 0)

/-- Set `n` ends in a half (R249): its chains return, INJ_END with the cause (1 run complete, 2 STOP, 3 TEST
ended, 4 power-fail). -/
def injEnd (s : State) (h : HalfId) (cause : Nat) : State :=
  match (half s h).fe.inj with
  | none => s
  | some r =>
    let s1 := wrB (modFe s h fun f => { f with inj := none }) h Reg.PCV_INJ_STAT_ACTIVE false
    let s2 := wr (wrapInc s1 h Reg.PCV_INJ_STAT_SEQ) h Reg.PCV_INJ_STAT_STATUS 0x02
    ledgerH s2 h 0x0605 (p4s [r.set, cause])

/-- The injected value for chain `c` now, and the half after an entry that has run to its end (R249). -/
def injectNow (s : State) (h : HalfId) (c : Nat) : Option (Int × Int) × State :=
  match (half s h).fe.inj with
  | none => (none, s)
  | some r =>
    if !r.chains.contains c || decide (s.ticks < r.tick) then (none, s)
    else
      match injEntry s h r.set c with
      | none => (none, s)
      | some e =>
        match injValue s h r.set e c ((s.ticks - r.tick) * 8) with
        | some v => (some v, s)
        | none =>
          let left := r.chains.filter fun k => k != c
          let s1 := modFe s h fun f => { f with inj := some { r with chains := left } }
          (none, if left.isEmpty then injEnd s1 h 1 else s1)

/-! ### Detectors (R254 to R257) -/

/-- Output period of a preset in ps. -/
def presetPs (p : Nat) : Nat := [3906250, 31250000, 125000000, 250000000].getD p 250000000

/-- Output period of a chain in ps; of a tracked one from f_T and S. -/
def chainPs (s : State) (h : HalfId) (c : Nat) : Nat :=
  let r := respNow s h c
  if r < 4 then presetPs r else 10 ^ 18 / max 1 ((half s h).fe.fT * samplesPerCycle s h)

/-- The peak detector at one output of magnitude `m` and quality `q`; the quality of the output that set P is kept
(R254, R257). -/
def peakStep (ticks period det m q : Nat) (x : ChainRun) : ChainRun :=
  if !bit det 29 then x
  else if x.pkReset || decide (x.pk ≤ m) then
    { x with pk := m, pkAt := ticks, pkReset := false, pkQ := q }
  else if ticks < x.pkAt + 2 ^ bits det 27 24 * 125000 then x
  else { x with pk := between m x.pk (Config.peakDecay m x.pk (bits det 23 20) period) }

/-- Value and quality of the RMS detector over a window (R255, R257). -/
def rmsOf (win : List (Nat × Nat)) (q : Nat) (full : Bool) : Nat × Nat :=
  let bitsOr := (win.foldl (fun b e => b ||| e.2 % 128) 0) ||| (if full then 0 else 32)
  let valid := decide (128 ≤ q) && win.all fun e => decide (128 ≤ e.2)
  (rootOf ((win.map fun e => e.1 * e.1).foldl (· + ·) 0) win.length, bitsOr + 128 * b2n valid)

/-- The RMS detector at one output; in mode 10 the cycle's outputs only collect (R255). -/
def rmsStep (det m q : Nat) (x : ChainRun) : ChainRun :=
  let mode := bits det 11 10
  if mode = 1 then
    let n := bits det 9 0 + 1
    let win := ((m, q) :: x.rmsWin).take n
    let v := rmsOf win q (decide (win.length = n))
    { x with rmsWin := win, rmsNow := v.1, rmsQ := v.2 }
  else if mode = 2 then { x with rmsWin := (m, q) :: x.rmsWin }
  else x

/-- The RMS of the cycle that ends at a tracked-cycle boundary (R255); a cycle that a restart fell in leaves the window
short (R257). -/
def rmsBoundary (det : Nat) (x : ChainRun) : ChainRun :=
  if bits det 11 10 = 2 then
    let v := rmsOf x.rmsWin x.q (decide (x.rmsWin.length < x.outs))
    { x with rmsWin := [], rmsNow := v.1, rmsQ := v.2 }
  else x

/-- The envelope detector at one output (R256, R257). -/
def envStep (det m q : Nat) (x : ChainRun) : ChainRun :=
  let n := x.outs + 1
  let at_ := (List.range 7).foldl (fun t b => if bit q b then nset t b n else t) x.bitAt
  if !bit det 28 then { x with outs := n, bitAt := at_ }
  else
    let e := between x.env m (Config.envelopeStep x.env m (if x.env < m then bits det 19 16 else bits det 15 12))
    let span := 12 * 2 ^ bits det 15 12
    let old := (List.range 7).foldl (fun v b => if nget at_ b ≠ 0 ∧ n < nget at_ b + span then v + 2 ^ b else v) 0
    let settling := if n ≤ 12 * 2 ^ bits det 19 16 then 32 else 0
    { x with env := e, outs := n, bitAt := at_, envQ := (old ||| settling) + q / 128 * 128 }

/-! ### A chain output (R230, R236, R242 to R245) -/

/-- Correction of a precision or bitstream value (R142): OFFSET signed, GAIN Q2.22, rounded, saturated. -/
def correct24 (off gain : Nat) (x : Int) : Int :=
  satSigned 24 (((x + toSigned 24 off) * (gain : Int) + 2097152) / 4194304)

/-- The corrected output of the decimation stage for channel code `k` (R142, R230). -/
def correctCode (s : State) (h : HalfId) (k : Nat) (x : Int) : Int :=
  if k < 0x40 then correct24 (rd s h (Reg.PCV_OFF_OFFSET k)) (rd s h (Reg.PCV_GAIN_GAIN k)) x
  else if k < 0x80 then correct24 (rd s h (Reg.BSI_OFF_OFFSET (k - 0x40))) (rd s h (Reg.BSI_GAIN_GAIN (k - 0x40))) x
  else if k < 0xC0 then satSigned 24 x
  else sget (fun _ => 0) (half s h).fe.hk k

/-- A channel's corrected output at or above the test permit level (R144). -/
def noteHigh (s : State) (h : HalfId) (k : Nat) (x : Int) : State :=
  if rd s h Reg.PCV_PERMIT_LEVEL ≤ x.natAbs then
    modFe s h fun f => { f with highAt := nset f.highAt k (s.ticks + 1) }
  else s

/-- The sample registers of a channel's monitor decimator, shown from a BALANCED chain (log entry 23). -/
def monitorShow (s : State) (h : HalfId) (k : Nat) (x : Int) (q : Nat) : State :=
  if k < 0x40 then wr (wr s h (Reg.PCV_SAMP_VALUE k) (ofSigned 24 x)) h (Reg.PCV_SAMP_QUALITY k) q
  else if k < 0x80 then wr (wr s h (Reg.BSI_SAMP_VALUE (k - 0x40)) (ofSigned 24 x)) h (Reg.BSI_SAMP_QUALITY (k - 0x40)) q
  else s

/-- Is the chain's channel under substitution at this output (R145, R213, R245)? -/
def substituted (s : State) (h : HalfId) (r : ChainRec) (x : ChainRun) : Bool :=
  (match (half s h).fe.test with
    | some t => t.code == r.src && (t.step == 1 || (t.step == 2 && (settleStep s.ticks x.subOut x.subBase x.subCond).1))
    | none => false)
  || ((half s h).fe.cal != 0 && decide (r.src < 0x40))

/-- The main output of chain `r` for stage values `re`, `im`: quality, settling, substitution, injection.
`older` holds bits 6:0 of the earlier samples of the span (R242). -/
def chainMain (s : State) (h : HalfId) (r : ChainRec) (re im : Int) (older inst : Nat) : ChainRun × State :=
  let c := r.chain
  let iq := channelQ s h r.src
  let s0 := if iq < 128 then setChain s h c { chainRun s h c with flushed := true }
    else if (chainRun s h c).flushed then restartChain s h c else s
  let x := chainRun s0 h c
  let st := settleStep s0.ticks x.settleOut x.settleBase x.settleCond
  let track := 4 ≤ r.resp && (rd s0 h Reg.SMP_TRK_STAT_STATE == 1
    || (rd s0 h Reg.SMP_TRK_STAT_STATE == 2 && (match (half s h).image with
        | some i => (half s0 h).fe.fT != i.sys.nominal * 10000 | none => true)))
  let q := (if iq < 128 then 0 else 128) +
    ((iq ||| older) % 128 ||| (if iq < 128 then 0 else 32 * b2n st.1) ||| 4 * b2n track)
  let x1 := { x with settleOut := if iq < 128 then x.settleOut else st.2, inst := inst }
  let (v, q1) := if substituted s0 h r x then
      let cyc := r.src < 0x40 && rd s0 h (Reg.PCV_CFG_SUBST r.src) == 1 && (half s0 h).fe.cal == 0
      let valid := match (half s0 h).fe.test with | some t => t.valid | none => decide (128 ≤ x.q)
      (if cyc then cycleAgo s0 h x else (x.re, x.im), q % 128 ||| 16 + 128 * b2n valid)
    else ((re, im), q)
  let (inj, s1) := injectNow s0 h c
  let (w, q2) := match inj with | some i => (i, 129) | none => (v, q1)
  let subOut := (settleStep s0.ticks x.subOut x.subBase x.subCond).2
  let keep := (half s0 h).fe.cycleNs / 8 + 1
  ({ x1 with re := w.1, im := w.2, q := q2, subOut := subOut
             hist := ((s0.ticks, w.1, w.2, q2) :: x.hist).filter fun e => decide (s0.ticks ≤ e.1 + keep) }, s1)

/-- Send the streams whose last quantity is the main output of chain `c` (R677, R689). -/
def sendStreams (s : State) (h : HalfId) (c inst : Nat) : State :=
  (ardCfg s h).spubs.foldl (fun s p =>
    let items := p.items.take p.count
    if items.getLast? = some c ∧ mayPublish s h 0 = true then
      let words := items.map fun d => chainWord s h d
      (List.range (ceilDiv p.count 6)).foldl (fun s k =>
        let ws := (words.drop (6 * k)).take 6
        sendFrame s h 1 1 0x3FFF (le 1 p.stream ++ le 1 (16 * (6 * k) + (ws.length - 1)) ++ timeBytes inst ++ (ws.map (le 4)).flatten)) s
    else s) s

/-- Record the outputs of chain `c` (R537): main, peak, RMS and envelope entries. -/
def recordChain (s : State) (h : HalfId) (c inst : Nat) : State :=
  (List.range 4).foldl (fun s o =>
    let w := chainWord s h (o * 256 + c)
    let x := chainRun s h c
    let bs := if o = 0 ∧ isPhasor s h c = true then le 4 w ++ le 4 (ofSigned 24 x.im * 256 + x.q) else le 4 w
    recordSample s h (fun ar e => ar.kind != 1 && e % 2048 == o * 256 + c) inst bs) s

/-- Level triggers on the outputs of chain `c` (R548, R549), with the main output's history as the span. -/
def chainTriggers (s : State) (h : HalfId) (c inst : Nat) : State :=
  let x := chainRun s h c
  let main := x.hist.map fun e => (e.2.1, decide (128 ≤ e.2.2.2), false)
  (List.range 4).foldl (fun s o =>
    let w := chainWord s h (o * 256 + c)
    levelTriggers s h (0x10 + 65536 * (o * 256 + c)) (if o = 0 then main else [((w / 256 : Nat), bit w 7, false)]) inst) s

/-- Everything an output of chain `c` feeds: recorder, triggers, streams, points, general functions and the
decisions they make. -/
def chainFeed (s : State) (h : HalfId) (c inst : Nat) (cyc : Option Nat) : State :=
  let s1 := chainTriggers (recordChain s h c inst) h c inst
  let s2 := sendStreams s1 h c inst
  let s3 := publishChanges s2 h fun r => r.src % 256 == 0x10 && r.src / 65536 % 256 == c
  edgeTriggers (decideOut (generalEval s3 h c cyc) h) h

/-- CHAIN_OUTPUT (R236): `x` is the decimation stage's output before correction; `re`, `im` the output after
the conditioning, resampler and window stages, used where the chain has one of them; `older` bits 6:0 of
earlier samples of the span; `cyc` the length in ns of the cycle that ends at the sample instant, when that
instant is a tracked-cycle boundary; `sat` whether ROGI stands at full scale. -/
def execChainOutput (h : HalfId) (c : Nat) (x re im : Int) (older inst : Nat) (cyc : Option Nat) (sat : Bool) (s : State) :
    Host.Outcome State Fault Refusal :=
  match chainRec s h c with
  | none => .next s
  | some r =>
    let y := correctCode s h r.src x
    let plain := respNow s h c < 4 && r.resp < 4 && r.det / 2 ^ 30 == 0
    let s1 := noteHigh s h r.src y
    let full := r.det / 2 ^ 30 == 2 && sat && !rdBit s1 h (Reg.PCV_FLT_SAT_SAT (c / 32)) (c % 32)
    let s2 := if full then ledgerH (wrBit s1 h (Reg.PCV_FLT_SAT_SAT (c / 32)) (c % 32) true) h 0x0603 (p4s [c]) else s1
    let (z, s3) := chainMain s2 h r (if plain then y else satSigned 24 re) (if plain then 0 else satSigned 24 im) older inst
    let m := if 6 ≤ r.resp ∧ r.resp ≤ 13 then magnitude z.re z.im else z.re.natAbs
    let z1 := envStep r.det m z.q (rmsStep r.det m z.q (peakStep s.ticks (chainPs s h c) r.det m z.q z))
    let s4 := wrBit (setChain s3 h c z1) h (Reg.PCV_FLT_SETTLING_SETTLING (c / 32)) (c % 32) (bit z1.q 5)
    let s5 := if plain && r.resp == 1 then monitorShow s4 h r.src z1.re z1.q else s4
    .next (chainFeed s5 h c inst cyc)

/-! ### Response switches (R251 to R253, R266, R267) -/

/-- Report in PCV_FLT_RESULT. -/
def fltResult (s : State) (h : HalfId) (c resp st : Nat) (seq : Bool) : State :=
  let s1 := if seq then wrapInc s h Reg.PCV_FLT_RESULT_SEQ else s
  wr (wr (wr s1 h Reg.PCV_FLT_RESULT_CHAIN c) h Reg.PCV_FLT_RESULT_RESP resp) h Reg.PCV_FLT_RESULT_STATUS st

/-- Ask for a switch of chain `c`; it replaces a pending one (R251). -/
def askSwitch (s : State) (h : HalfId) (c resp kind mode : Nat) : State :=
  setChain s h c { chainRun s h c with pend := some resp, pendKind := kind, pendMode := mode }

/-- Status of SWITCH (R252). -/
def switchStatus (s : State) (h : HalfId) (c resp : Nat) : Nat :=
  match chainRec s h c with
  | none => 0x10
  | some r =>
    if 3 < resp ∨ 3 < r.resp then 0x10
    else if modeOf s h ≠ mCOMMISSION ∧ modeOf s h ≠ mTEST then 0x11
    else if resp < r.resp then 0x1F
    else 0x01

/-- PCV_FLT_CMD (R252, R266). -/
def fltCmd (s : State) (h : HalfId) (code c resp : Nat) : State :=
  if code = 1 then
    let st := switchStatus s h c resp
    let s1 := fltResult s h c resp st true
    if st = 0x01 then askSwitch s1 h c resp 1 0 else s1
  else if code = 2 then
    let st := match chainRec s h c with
      | none => 0x10
      | some r => if !bit r.det 29 then 0x10 else if modeOf s h = mBOOT then 0x11 else 0x02
    let s1 := fltResult s h c resp st true
    if st = 0x02 then setChain s1 h c { chainRun s1 h c with pkReset := true } else s1
  else fltResult s h c resp 0x10 true

def execFltSwitch (h : HalfId) (chain resp : Nat) (s : State) : Host.Outcome State Fault Refusal :=
  .next (access s h (fltCmd s h 1 chain resp))

def execPeakReset (h : HalfId) (chain : Nat) (s : State) : Host.Outcome State Fault Refusal :=
  .next (access s h (fltCmd s h 2 chain 0))

/-- RESPONSE_SWITCH_BOUNDARY (R251, R252): the pending response takes effect and the chain restarts. -/
def execResponseSwitchBoundary (h : HalfId) (chain : Nat) (s : State) : Host.Outcome State Fault Refusal :=
  let x := chainRun s h chain
  match x.pend, chainRec s h chain with
  | some resp, some r =>
    let old := respNow s h chain
    let s1 := setChain s h chain { x with pend := none, pendKind := 0 }
    let s2 := if r.resp < 4 then putResp s1 h chain resp else s1
    let s3 := restartChain (wrB s2 h (Reg.PCV_FLT_STAT_SWITCHED chain) (x.pendKind == 1 && resp != r.resp)) h chain
    .next (if x.pendKind = 2 then ledgerH (fltResult s3 h chain resp 0x02 true) h 0x0602 (p4s [chain, r.resp, x.pendMode])
      else if x.pendKind = 1 then ledgerH (fltResult s3 h chain resp 0x02 false) h 0x0601 (p4s [chain, old, resp, 1])
      else ledgerH s3 h 0x0601 (p4s [chain, old, resp, 2]))
  | _, _ => .next s

/-- The mode leaves COMMISSION or TEST: every switched chain returns at its next boundary (R252). -/
def revertChains (s : State) (h : HalfId) (mode : Nat) : State :=
  match (half s h).image with
  | some i => i.chains.foldl (fun s r =>
      if r.resp < 4 ∧ respNow s h r.chain ≠ r.resp then askSwitch s h r.chain r.resp 2 mode
      else if (chainRun s h r.chain).pendKind = 1 then setChain s h r.chain { chainRun s h r.chain with pend := none, pendKind := 0 }
      else s) s
  | none => s

/-! ### Chain registers (R258 to R265) -/

/-- Outputs until SETTLING clears (R265). -/
def settleRemain (s : State) (h : HalfId) (c : Nat) : Nat :=
  let x := chainRun s h c
  let per := max 1 (chainPs s h c)
  let base := ceilDiv ((x.settleBase - s.ticks) * 8000) per
  let cond := ceilDiv ((x.settleCond - s.ticks) * 8000) per
  min 65535 (max (base + x.settleOut) cond)

/-- Latch the output registers of the selected chain (R258). -/
def fltLatch (s : State) (h : HalfId) : State :=
  let c := rd s h Reg.PCV_FLT_SEL_CHAIN
  match chainRec s h c with
  | none => s
  | some r =>
    let x := chainRun s h c
    let put := fun (s : State) (v q : Fld) (w : Nat) => wr (wr s h v (w / 256)) h q (w % 256)
    let ph := 6 ≤ r.resp && r.resp ≤ 13
    let s1 := put s (Reg.PCV_FLT_OUT_VALUE c) (Reg.PCV_FLT_OUT_QUALITY c) (chainWord s h c)
    let s2 := put s1 (Reg.PCV_FLT_OUT2_VALUE c) (Reg.PCV_FLT_OUT2_QUALITY c) (if ph then ofSigned 24 x.im * 256 + x.q else 0)
    let s3 := put s2 (Reg.PCV_FLT_PEAK_VALUE c) (Reg.PCV_FLT_PEAK_QUALITY c) (if bit r.det 29 then chainWord s h (256 + c) else 0)
    let s4 := put s3 (Reg.PCV_FLT_RMS_VALUE c) (Reg.PCV_FLT_RMS_QUALITY c) (if bits r.det 11 10 = 0 then 0 else chainWord s h (512 + c))
    let s5 := put s4 (Reg.PCV_FLT_ENV_VALUE c) (Reg.PCV_FLT_ENV_QUALITY c) (if bit r.det 28 then chainWord s h (768 + c) else 0)
    wr s5 h (Reg.PCV_FLT_STAT_SETTLE_REMAIN c) (settleRemain s h c)

def execPcvFltSelWrite (h : HalfId) (v : Nat) (s : State) : Host.Outcome State Fault Refusal :=
  .next (access s h (fltLatch (wr s h Reg.PCV_FLT_SEL_CHAIN v) h))


/-! ### The injection store and its commands (R246, R247, R269, R270) -/

/-- |D| + A within full scale. -/
def injLevels (d a : Nat) : Bool := decide (d < 2 ^ 24) && decide (a < 2 ^ 24) && decide ((toSigned 24 d).natAbs + a ≤ 0x7FFFFF)

/-- Signed phase −18,000 to +17,999. -/
def injPhase (p : Nat) : Bool := let v := toSigned 16 p; decide (-18000 ≤ v) && decide (v ≤ 17999)

/-- Does entry `e` of set `n` obey R246? -/
def injEntryOk (s : State) (h : HalfId) (n e : Nat) : Bool :=
  let w := fun k => injWord s h n (1 + 8 * e + k)
  let c := w 0 % 256
  match chainRec s h c with
  | none => false
  | some r =>
    (w 0 / 256 % 256 == 0) && !((List.range e).any fun k => injWord s h n (1 + 8 * k) % 256 == c)
      && decide (w 1 ≤ 60000000) && decide (1 ≤ w 2) && decide (w 2 ≤ 60000000)
      && injLevels (w 3) (w 4) && injLevels (w 5) (w 6)
      && (decide (r.src < 0xC0) || (w 4 == 0 && w 6 == 0))
      && injPhase (w 7 / 65536) && injPhase (w 7 % 65536)

/-- Entry `e` of set `n` is all 0, as one beyond the count must be (R246). -/
def injEntryZero (s : State) (h : HalfId) (n e : Nat) : Bool := (List.range 8).all fun k => injWord s h n (1 + 8 * e + k) == 0

/-- Status and DETAIL of a start of set `n` (R247). -/
def injStatus (s : State) (h : HalfId) (n : Nat) : Nat × Nat :=
  let m := injWord s h n 0 % 32
  if 15 < n then (0x10, 0)
  else if modeOf s h ≠ mTEST then (0x11, 0)
  else if (half s h).fe.inj.isSome then (0x14, 0)
  else if m = 0 then (0x23, 0)
  else if 16 < m ∨ injWord s h n 0 / 32 ≠ 0 then (0x1A, 0)
  else match (List.range 16).find? fun e => !(if e < m then injEntryOk s h n e else injEntryZero s h n e) with
    | some e => (0x1A, e)
    | none => (0x01, 0)

/-- Start injection set `n` at tick `tick`, time `t` (R247); origin 1 command, 2 schedule entry. -/
def injStart (s : State) (h : HalfId) (n tick t origin entry : Nat) : State :=
  let (st, d) := injStatus s h n
  let s1 := wr (wr (wrapInc s h Reg.PCV_INJ_STAT_SEQ) h Reg.PCV_INJ_STAT_STATUS st) h Reg.PCV_INJ_STAT_DETAIL d
  if st ≠ 0x01 then s1
  else
    let cs := (List.range (injWord s h n 0 % 32)).map fun e => injWord s h n (1 + 8 * e) % 256
    let s2 := modFe s1 h fun f => { f with inj := some { set := n, tick := tick, time := t, chains := cs } }
    let s3 := wr (wrB s2 h Reg.PCV_INJ_STAT_ACTIVE true) h Reg.PCV_INJ_STAT_SET n
    ledgerH s3 h 0x0604 (p4 n ++ timeBytes t ++ pAlt origin entry)

/-- PCV_INJ_CMD (R247, R270). -/
def injCmd (s : State) (h : HalfId) (code n : Nat) : State :=
  if code = 1 then injStart s h n (s.ticks + 1) (now s + 8) 1 1
  else if code = 2 then
    let st := if modeOf s h = mBOOT then 0x11 else if (half s h).fe.inj.isNone then 0x23 else 0x01
    let s1 := wr (wr (wrapInc s h Reg.PCV_INJ_STAT_SEQ) h Reg.PCV_INJ_STAT_STATUS st) h Reg.PCV_INJ_STAT_DETAIL 0
    if st = 0x01 then injEnd s1 h 2 else s1
  else wr (wr (wrapInc s h Reg.PCV_INJ_STAT_SEQ) h Reg.PCV_INJ_STAT_STATUS 0x10) h Reg.PCV_INJ_STAT_DETAIL 0

def execInjStart (h : HalfId) (set : Nat) (s : State) : Host.Outcome State Fault Refusal := .next (access s h (injCmd s h 1 set))
def execInjStop (h : HalfId) (s : State) : Host.Outcome State Fault Refusal := .next (access s h (injCmd s h 2 0))

/-- WORD advances by 1, from 128 to word 0 of the next set (R269). -/
def injAdvance (s : State) (h : HalfId) : State :=
  let w := rd s h Reg.PCV_INJ_SEL_WORD
  if w < 128 then wr s h Reg.PCV_INJ_SEL_WORD (w + 1)
  else wr (wr s h Reg.PCV_INJ_SEL_WORD 0) h Reg.PCV_INJ_SEL_SET (rd s h Reg.PCV_INJ_SEL_SET + 1)

/-- An access to PCV_INJ_DATA (R247, R269). -/
def injAccess (s : State) (h : HalfId) (w : Option Nat) : State :=
  let k := rd s h Reg.PCV_INJ_SEL_WORD
  let n := rd s h Reg.PCV_INJ_SEL_SET
  if 128 < k then wr s h Reg.PCV_INJ_DATA_DATA 0
  else match w with
    | none => injAdvance (wr s h Reg.PCV_INJ_DATA_DATA (injWord s h n k)) h
    | some v =>
      if (match (half s h).fe.inj with | some r => r.set == n | none => false) then
        wrB s h Reg.PCV_INJ_STAT_WRITE_REFUSED true
      else
        injAdvance (modFe s h fun f => { f with injStore := nset f.injStore (n * 256 + k) (v % 2 ^ 32) }) h


end Sys2Proof.Machine
end

