-- ==== Sys2Proof/Machine/Inputs.lean ====
section
/-!
DEFINITION. Analogue inputs beside the fast path (chapter 4): the reference buffer, injection tests, bitstream
supervision and modulator clocks.
-/

namespace Sys2Proof.Machine

open Sys2Proof (Byte HalfId)

/-! ### Reference buffer (R132) -/

/-- A write of PCV_REF.EN: from 0 to 1 the buffer starts to settle; 0 switches it off (R132). -/
def refWrite (s : State) (h : HalfId) (en : Bool) : State :=
  let was := rdB s h Reg.PCV_REF_EN
  let s1 := wrB s h Reg.PCV_REF_EN en
  if en && !was then
    wrB (modFe s1 h fun f => { f with settling := true, refAt := s.ticks + 1 }) h Reg.PCV_REF_STAT_SETTLED false
  else if !en then wrB (modFe s1 h fun f => { f with settling := false, refAt := 0 }) h Reg.PCV_REF_STAT_SETTLED false
  else s1

/-- t_REFSET has passed (R132, R133). -/
def refElapsed (s : State) (h : HalfId) : State :=
  if rdB s h Reg.PCV_REF_EN && (half s h).fe.settling then
    wrB (modFe s h fun f => { f with settling := false }) h Reg.PCV_REF_STAT_SETTLED true
  else s

/-- PCV_REF_STAT.ELAPSED (R176): ms since EN last became 1. -/
def refMs (s : State) (h : HalfId) : Nat :=
  let at_ := (half s h).fe.refAt
  if at_ = 0 then 0 else min 65535 ((s.ticks + 1 - at_) / 125000)

def execRefBufferEnable (h : HalfId) (s : State) : Host.Outcome State Fault Refusal := .next (access s h (refWrite s h true))
def execRefsetElapsed (h : HalfId) (s : State) : Host.Outcome State Fault Refusal := .next (refElapsed s h)

/-! ### Injection tests (R143 to R150) -/

/-- Is channel code `k` in the test schedule (R143)? -/
def testEnabled (s : State) (h : HalfId) (k : Nat) : Bool :=
  if k < 0x30 then rdB s h (Reg.PCV_CFG_TEST_EN k) && decide (k < precCount s)
  else 0xC0 ≤ k && k < 0xD0 && rdBit s h Reg.HKA_TEST_EN_TEST_EN (k - 0xC0)

/-- Tally reports the partner present and not failed, or ALONE is 1 (R144, R150). -/
def partnerOk (s : State) (h : HalfId) : Bool :=
  (twoHalves s && rd s h (tlySub 10) != 2 && rd s h (tlySub 10) != 3) || rdB s h Reg.PCV_TEST_CFG_ALONE

/-- A mode in which tests run (R144). -/
def testMode (m : Nat) : Bool := m == mCOMMISSION || m == mSERVICE || m == mTEST

/-- Injection tests are suspended (R150). -/
def suspended (s : State) (h : HalfId) : Bool := !partnerOk s h || !testMode (modeOf s h)

/-- Bring SUSPENDED up to date (R150): a suspension that begins in COMMISSION, SERVICE or TEST writes
TEST_SUSPENDED with the partner's Tally code as cause; Tally FRONT_END is degraded until tests resume. -/
def suspendUpdate (s : State) (h : HalfId) : State :=
  let now_ := suspended s h
  if rdB s h Reg.PCV_TEST_STAT_SUSPENDED == now_ then s
  else
    let s1 := wrB s h Reg.PCV_TEST_STAT_SUSPENDED now_
    if now_ && testMode (modeOf s h) then
      tallySet (ledgerH s1 h 0x0405 (p4s [rd s h (tlySub 10)])) h 0 1 1 0x0405
    else if now_ then s1 else tallySet s1 h 0 1 0 0x0405

/-- A general function fed from channel code `k` is picked up in this half (R144). -/
def tileBusy (s : State) (h : HalfId) (k : Nat) : Bool :=
  match (half s h).image with
  | some i => i.general.any fun r => (genFn s h r.slot).pu && r.inputs.any fun d =>
      !bit d 15 && (match chainRec s h (d % 256) with | some c => c.src == k | none => false)
  | none => false

/-- The conditions of R144 for channel code `k`; one test runs at a time, since a die has one test DAC. -/
def testReady (s : State) (h : HalfId) (k : Nat) : Bool :=
  let f := (half s h).fe
  rdB s h Reg.PCV_TEST_CFG_EN && !suspended s h && f.test.isNone && !f.partnerTests.contains k
    && (nget f.highAt k == 0 || decide (nget f.highAt k + 2500000 ≤ s.ticks + 1)) && !tileBusy s h k

/-- Start the test of `k` (R145 step 1). -/
def testStart (s : State) (h : HalfId) (k : Nat) : State :=
  let t : InjTest := { code := k, step := 1, valid := decide (128 ≤ channelQ s h k), aborted := false, failed := false
                       dev := 0, point := 0, conv := 0 }
  let s1 := modFe s h fun f => { f with test := some t, defers := nset f.defers k 0, retests := f.retests.filter fun c => c != k }
  wr (wrB s1 h Reg.PCV_TEST_STAT_ACTIVE true) h Reg.PCV_TEST_STAT_CHANNEL k

/-- A test of `k` falls due: it starts, or is deferred (R144). -/
def testDue (s : State) (h : HalfId) (k : Nat) : State :=
  if testReady s h k then testStart s h k
  else if nget (half s h).fe.defers k < 60 then modFe s h fun f => { f with defers := nset f.defers k (nget f.defers k + 1) }
  else satAdd (modFe s h fun f => { f with defers := nset f.defers k 0 }) h Reg.PCV_TEST_STAT_SKIPPED 1

def execInjectionTestSlot (h : HalfId) (code : Nat) (s : State) : Host.Outcome State Fault Refusal :=
  .next (if testEnabled s h code && nget (half s h).fe.defers code == 0 then testDue s h code else s)

def execInjectionTestDefer (h : HalfId) (code : Nat) (s : State) : Host.Outcome State Fault Refusal :=
  .next (if nget (half s h).fe.defers code == 0 then s else testDue s h code)

/-- FAILED of a tested channel. -/
def testFailed (s : State) (h : HalfId) (k : Nat) : Bool :=
  if k < 0x40 then rdB s h (Reg.PCV_STAT_FAILED k) else bit (half s h).fe.hkFailed (k - 0xC0)

def execInjectionRetest (h : HalfId) (code : Nat) (s : State) : Host.Outcome State Fault Refusal :=
  .next (if ((half s h).fe.retests.contains code || testFailed s h code) && nget (half s h).fe.defers code == 0 then testDue s h code else s)

/-- Reconnect the channel: substitution goes on for its chains' settle lengths, for housekeeping for one
conversion (R145 steps 4 and 5). -/
def testReconnect (s : State) (h : HalfId) (t : InjTest) : State :=
  let s1 := modFe s h fun f => { f with test := some { t with step := 2, conv := 1 } }
  match (half s h).image with
  | some i => i.chains.foldl (fun s r =>
      if r.src = t.code then
        let (n, b) := settleOf r.src (respNow s h r.chain)
        setChain s h r.chain { chainRun s h r.chain with
          subOut := n, subBase := if b = 0 then 0 else s.ticks + b
          subCond := if r.det / 2 ^ 30 = 0 then 0 else s.ticks + condTicks }
      else s) s1
  | none => s1

/-- The largest of three deviations by magnitude, with its point; the first wins a tie (R147, R185). -/
def largestDev (d0 d1 d2 : Int) : Int × Nat :=
  if d1.natAbs ≤ d0.natAbs ∧ d2.natAbs ≤ d0.natAbs then (d0, 0) else if d2.natAbs ≤ d1.natAbs then (d1, 1) else (d2, 2)

/-- TEST_POINTS_DONE (R145, R147): the deviations of the three points. -/
def execTestPointsDone (h : HalfId) (d0 d1 d2 : Int) (s : State) : Host.Outcome State Fault Refusal :=
  match (half s h).fe.test with
  | some t =>
    let (d, p) := largestDev d0 d1 d2
    .next (if t.step = 1 then
      testReconnect s h { t with dev := d, point := p, failed := decide (rd s h Reg.PCV_TEST_CFG_TOL * 839 < d.natAbs) }
      else s)
  | none => .next s

/-- Abort a running test (R149): cause 1 the partner's pickup, 2 a mode change, 3 power-fail. -/
def testAbort (s : State) (h : HalfId) (cause : Nat) : State :=
  match (half s h).fe.test with
  | some t =>
    if t.step = 1 then
      let s1 := testReconnect s h { t with aborted := true }
      let s2 := if t.code < 0x40 then wr s1 h (Reg.PCV_STAT_LAST_RESULT t.code) 3 else s1
      ledgerH s2 h 0x0404 (p4s [t.code, cause])
    else s
  | none => s

def execTilePickup (h : HalfId) (code : Nat) (s : State) : Host.Outcome State Fault Refusal :=
  .next (match (half s h).fe.test with
    | some t => if t.code = code then testAbort s h 1 else s
    | none => s)

/-- Mark or unmark FAILED of a tested channel. -/
def putFailed (s : State) (h : HalfId) (k : Nat) (b : Bool) : State :=
  if k < 0x40 then
    let s1 := wrB s h (Reg.PCV_STAT_FAILED k) b
    if k < 32 then wrBit s1 h Reg.PCV_FAILED_LO_FAILED k b else wrBit s1 h Reg.PCV_FAILED_HI_FAILED (k - 32) b
  else modFe s h fun f => { f with hkFailed := putBit f.hkFailed (k - 0xC0) b }

/-- RETEST of a precision channel. -/
def putRetest (s : State) (h : HalfId) (k : Nat) (b : Bool) : State :=
  if k < 0x40 then wrB s h (Reg.PCV_STAT_RETEST k) b else s

/-- The result of a completed test (R147, R148). -/
def testResult (s : State) (h : HalfId) (t : InjTest) : State :=
  let k := t.code
  let was := testFailed s h k
  let first := !was && !(half s h).fe.retests.contains (k + 0x100)
  let mark := fun (s : State) (r : Nat) => if k < 0x40 then
      wr (wr (wr s h (Reg.PCV_STAT_LAST_RESULT k) r) h (Reg.PCV_TEST_DEV k) (ofSigned 24 (satSigned 24 t.dev))) h (Reg.PCV_TEST_POINT k) t.point
    else s
  let unq := fun (s : State) => modFe s h fun f => { f with retests := f.retests.filter fun c => c % 0x100 != k }
  if !t.failed then
    let s1 := unq (putRetest (mark s 1) h k false)
    if was then tallySet (ledgerH (putFailed s1 h k false) h 0x0403 (p4s [k])) h 0 (256 + k) 0 0x0403 else s1
  else
    let s1 := satAdd (mark s 2) h Reg.PCV_TEST_STAT_FAILS 1
    if was then s1
    else if first then
      let s2 := modFe (putRetest s1 h k true) h fun f => { f with retests := k :: (k + 0x100) :: f.retests }
      ledgerH s2 h 0x0401 (p4s [k, t.point] ++ leInt 4 t.dev ++ p4 1)
    else
      let s2 := unq (putFailed (putRetest s1 h k false) h k true)
      tallySet (ledgerH s2 h 0x0402 (p4 k ++ leInt 4 t.dev)) h 0 (256 + k) 1 0x0402

/-- The substitution span of the tested channel has ended for every chain that takes it (R145). -/
def spanOver (s : State) (h : HalfId) (t : InjTest) : Bool :=
  (decide (t.code < 0xC0) || t.conv == 0) &&
  match (half s h).image with
  | some i => i.chains.all fun r => r.src != t.code ||
      (let x := chainRun s h r.chain
       !(settleStep s.ticks x.subOut x.subBase x.subCond).1)
  | none => true

/-- SUBSTITUTION_END (R145 step 6). -/
def execSubstitutionEnd (h : HalfId) (s : State) : Host.Outcome State Fault Refusal :=
  match (half s h).fe.test with
  | some t =>
    .next (if t.step = 2 && spanOver s h t then
      let s1 := wrB (modFe s h fun f => { f with test := none }) h Reg.PCV_TEST_STAT_ACTIVE false
      if t.aborted then s1 else testResult s1 h t
    else s)
  | none => .next s

/-- TEST_START (R144): half `h` learns that its partner is testing the channel. -/
def execTestStart (h : HalfId) (code : Nat) (s : State) : Host.Outcome State Fault Refusal :=
  .next (modFe s h fun f => { f with partnerTests := code :: f.partnerTests.filter fun c => c != code })

/-- TEST_END (R144): half `h` learns that its partner's substitution span has ended. -/
def execTestEnd (h : HalfId) (code : Nat) (s : State) : Host.Outcome State Fault Refusal :=
  .next (modFe s h fun f => { f with partnerTests := f.partnerTests.filter fun c => c != code })

/-! ### Bitstream inputs (R151 to R155) -/

/-- A field of BSI_MCLK_STAT for clock `k`: bit 7 FAULT, 5 DRIVER, 4 CFG_REFUSED (R188). -/
def mclkBit (k b : Nat) : Fld := ⟨Reg.BSI_MCLK_STAT_FAULT.key, 8 * k + b, 8 * k + b⟩

/-- The bitstream inputs assigned to clock `k` in a half. -/
def onClock (s : State) (h : HalfId) (k : Nat) (r : ChainRec) : Bool :=
  decide (0x40 ≤ r.src) && decide (r.src < 0x80) && rd s h (Reg.BSI_CFG_CLK (r.src - 0x40)) == k

/-- MCLK_FREQ_WRITE (R151): code 1 is refused; a change restarts the chains on the clock. -/
def mclkWrite (s : State) (h : HalfId) (k freq : Nat) : State :=
  if freq = 1 then wrB s h (mclkBit k 4) true
  else if rd s h (Reg.BSI_MCLK_FREQ k) = freq then s
  else restartChains (wr s h (Reg.BSI_MCLK_FREQ k) freq) h (onClock s h k)

def execMclkFreqWrite (h : HalfId) (k freq : Nat) (s : State) : Host.Outcome State Fault Refusal :=
  .next (access s h (if k < 4 then mclkWrite s h k (freq % 8) else s))

/-- The field die moves every modulator clock driven by half `h` to the other half (R152). -/
def mclkMove (s : State) (h : HalfId) : State :=
  if !twoHalves s then s
  else (List.range 4).foldl (fun s k =>
    if rd s .a (mclkBit k 5) = halfNo h then
      let n := halfNo (other h)
      let s1 := (halves s).foldl (fun s g => restartChains (wr s g (mclkBit k 5) n) g (onClock s g k)) s
      ledgerField s1 0x0408 (p4s [k, n])
    else s) s

/-- A condition field of BSI_STATn: 0 CLK_FAULT, 1 DENSITY, 2 NO_EDGE, 3 OPEN (R192). -/
def bsiBit (n b : Nat) : Fld := ⟨(Reg.BSI_STAT_FAULT n).key, b, b⟩

/-- A supervision condition of input `n` appears or clears (R154, R155). -/
def bsiCond (s : State) (h : HalfId) (n b : Nat) (on : Bool) : State :=
  if bsiCount s ≤ n then s
  else
    let was := rdB s h (Reg.BSI_STAT_FAULT n)
    let s1 := wrB s h (bsiBit n b) on
    let s2 := if on then wrBit s1 h (Reg.BSI_STAT_HIST n) b true else s1
    let conds := word s2 h (Reg.BSI_STAT_FAULT n).key % 16
    if conds ≠ 0 ∧ was = false then
      let s3 := modFe (wrB s2 h (Reg.BSI_STAT_FAULT n) true) h fun f => { f with bsiAt := nset f.bsiAt n (s.ticks + 1) }
      ledgerH (count s3 h (0x274 + n)) h 0x0406 (p4s [n, conds])
    else if conds = 0 ∧ was = true then
      let s3 := wrB s2 h (Reg.BSI_STAT_FAULT n) false
      let s4 := ledgerH s3 h 0x0407 (p4s [n, (s.ticks + 1 - nget (half s h).fe.bsiAt n) / 125000])
      restartChains s4 h fun r => r.src == 0x40 + n
    else s2

/-- Is a clock measured at `hz` absent or more than 0.1 % from the half's FREQ, or FREQ 0 (R154)? -/
def clockBad (freq hz : Nat) : Bool :=
  freq == 0 || decide (2560000 * freq < ((hz : Int) - (2560000 * freq : Nat)).natAbs * 1000)

/-- BSI_CLOCK_MEASURE (R154): clock `k` measured at `hz` Hz. -/
def clockMeasure (s : State) (h : HalfId) (k hz : Nat) : State :=
  let bad := clockBad (rd s h (Reg.BSI_MCLK_FREQ k)) hz
  let s1 := wrB s h (mclkBit k 7) bad
  (List.range (bsiCount s)).foldl (fun s n =>
    if rd s h (Reg.BSI_CFG_CLK n) = k then bsiCond s h n 0 bad else s) s1

def execBsiClockMeasure (h : HalfId) (k hz : Nat) (s : State) : Host.Outcome State Fault Refusal :=
  .next (if k < 4 then clockMeasure s h k hz else s)

def execBsiOpenDetect (h : HalfId) (n : Nat) (on : Bool) (s : State) : Host.Outcome State Fault Refusal :=
  .next (bsiCond s h n 3 on)

def execBsiNoEdge (h : HalfId) (n : Nat) (s : State) : Host.Outcome State Fault Refusal := .next (bsiCond s h n 2 true)

/-- BSI_DENSITY (R154): ones among the last 4,096 bits. -/
def execBsiDensity (h : HalfId) (n ones : Nat) (s : State) : Host.Outcome State Fault Refusal :=
  .next (bsiCond s h n 1 (decide (ones * 100 < 2 * 4096) || decide (98 * 4096 < ones * 100)))

def execBsiTransition (h : HalfId) (n : Nat) (s : State) : Host.Outcome State Fault Refusal := .next (bsiCond s h n 2 false)

end Sys2Proof.Machine
end

