-- ==== Sys2Proof/Machine/Timing.lean ====
section
/-!
DEFINITION. Sample timing (chapter 5): PLL lock, the tracked resampler, SYNC_OUT and skew calibration.
-/

namespace Sys2Proof.Machine

open Sys2Proof (Byte HalfId)

/-! ### PLL lock (R202) -/

/-- Lock bit and unlock history of PLL `p`: 0 fast, 1 modulator. -/
def pllLock (p : Nat) : Fld := if p = 0 then Reg.SMP_CLK_STAT_FAST_LOCK else Reg.SMP_CLK_STAT_MOD_LOCK
def pllHist (p : Nat) : Fld := if p = 0 then Reg.SMP_CLK_STAT_FAST_UNLOCK_HIST else Reg.SMP_CLK_STAT_MOD_UNLOCK_HIST

/-- PLL_UNLOCK (R202): every sample on the clock is invalid from now on. -/
def execPllUnlock (h : HalfId) (pll : Nat) (s : State) : Host.Outcome State Fault Refusal :=
  .next (if 1 < pll ∨ rdB s h (pllLock pll) = false then s
    else
      let s1 := wrB (wrB s h (pllLock pll) false) h (pllHist pll) true
      let s2 := modFe s1 h fun f => { f with pllAt := nset f.pllAt pll (s.ticks + 1) }
      tallyVital (ledgerH s2 h 0x0501 (p4s [pll + 1, 1, 0])) h 0 (16 + pll) 2 0x0501)

/-- PLL_RELOCK (R202): locked again for 1 ms. -/
def execPllRelock (h : HalfId) (pll : Nat) (s : State) : Host.Outcome State Fault Refusal :=
  .next (if 1 < pll ∨ nget (half s h).fe.pllAt pll = 0 then s
    else
      let us := (s.ticks + 1 - nget (half s h).fe.pllAt pll) / 125
      let s1 := modFe (wrB s h (pllLock pll) true) h fun f => { f with pllAt := nset f.pllAt pll 0 }
      tallyVital (ledgerH s1 h 0x0501 (p4s [pll + 1, 2, us])) h 0 (16 + pll) 0 0x0501)

/-! ### The tracker (R203 to R206, R769) -/

/-- The nominal frequency of SYSTEM in µHz. -/
def nominalF (s : State) (h : HalfId) : Nat :=
  match (half s h).image with
  | some i => i.sys.nominal * 10000
  | none => 50000000

/-- Load the phase accumulator, once, at start (R769). -/
def trackerLoad (s : State) (h : HalfId) (acc fT tick : Nat) (off : Int) : State :=
  wr (modFe s h fun f => { f with tracking := true, fT := fT, fOff := off, acc := acc, accTick := tick, boundary := 0 })
    h Reg.SMP_TRK_FREQ_TRACKED (fT / 10000)

/-- TRK_STATE (R769): the half that boots alone takes its partner's accumulator and f_T. -/
def execTrkState (h : HalfId) (s : State) : Host.Outcome State Fault Refusal :=
  let p := (half s (other h)).fe
  .next (if (half s h).fe.tracking || !p.tracking || !twoHalves s then s
    else trackerLoad s h p.acc p.fT p.accTick p.fOff)

/-- f_M from the sources (R204): the value, which source gave it, 2 where both are unusable. -/
def pickSource (s : State) (h : HalfId) (f1 f2 : Option Nat) : Option Nat × Nat :=
  let ok := fun k => decide (128 ≤ channelQ s h k)
  let src2 := rd s h Reg.SMP_TRK_CFG_SRC2
  match (if ok (rd s h Reg.SMP_TRK_CFG_SRC) then f1 else none) with
  | some f => (some f, 0)
  | none => match (if src2 ≠ 0xFF ∧ ok src2 = true then f2 else none) with
    | some f => (some f, 1)
    | none => (none, 2)

/-- f_T moved towards a target by at most 2 % (R205). -/
def stepF (fT target : Nat) : Nat :=
  let d := fT * 2 / 100
  if fT ≤ target then min target (fT + d) else max target (fT - d)

/-- The offset of f_T once it equals its target (R205), at most 0.5 %. -/
def offsetF (fT : Nat) (phi : Int) : Int :=
  let lim : Int := (fT * 5 / 1000 : Nat)
  max (-lim) (min lim (Config.phaseOffset phi fT))

/-- The state of the tracker after a boundary (R204, R206): 0 locked, 1 re-locking, 2 fallback. -/
def trackState (s : State) (h : HalfId) (fm : Option Nat) (used : Nat) (phi : Int) : State :=
  let f := (half s h).fe
  let st := rd s h Reg.SMP_TRK_STAT_STATE
  let leave := fun (s : State) => if st = 0 then satAdd s h Reg.SMP_TRK_STAT_RELOCKS 1 else s
  let good := match fm with | some m => decide (10000000 ≤ m) && decide (m ≤ 100000000) | none => false
  if !good then
    let s1 := modFe s h fun f => { f with goodFm := 0, inLimit := 0 }
    if st = 2 then s1
    else
      let s2 := wr (wr (leave s1) h Reg.SMP_TRK_STAT_STATE 2) h Reg.SMP_TRK_STAT_SRC_USED 2
      let s3 := modFe s2 h fun f => { f with fallAt := s.ticks + 1 }
      ledgerH s3 h 0x0502 (p4s [f.lastFm / 10000, if fm.isNone then 1 else 2])
  else if st = 2 then
    if f.goodFm + 1 < 3 then modFe s h fun f => { f with goodFm := f.goodFm + 1 }
    else
      let s1 := modFe s h fun f => { f with goodFm := 0, inLimit := 0 }
      let s2 := wr (wr s1 h Reg.SMP_TRK_STAT_STATE 1) h Reg.SMP_TRK_STAT_SRC_USED used
      ledgerH s2 h 0x0503 (p4s [used, (s.ticks + 1 - f.fallAt) / 125000])
  else
    let within := (match fm with | some m => decide (((m : Int) - f.fT).natAbs * 2000 ≤ f.fT) | none => false)
      && decide (phi.natAbs ≤ 1000)
    let s1 := wr s h Reg.SMP_TRK_STAT_SRC_USED used
    if !within then wr (modFe (leave s1) h fun f => { f with inLimit := 0 }) h Reg.SMP_TRK_STAT_STATE 1
    else if st = 1 ∧ 2 ≤ f.inLimit + 1 then wr (modFe s1 h fun f => { f with inLimit := 0 }) h Reg.SMP_TRK_STAT_STATE 0
    else modFe s1 h fun f => { f with inLimit := f.inLimit + 1 }

/-- The new f_T and its offset (R205). -/
def trackSteer (s : State) (h : HalfId) (fm : Option Nat) (phi : Int) : State :=
  let fall := rd s h Reg.SMP_TRK_STAT_STATE == 2
  let target := if fall then nominalF s h else match fm with | some m => m | none => nominalF s h
  let fT := stepF (half s h).fe.fT target
  let off := if fall || fT != target then 0 else offsetF fT phi
  let s1 := modFe s h fun f => { f with fT := fT, fOff := off, lastFm := fm.getD f.lastFm }
  wr (wr s1 h Reg.SMP_TRK_FREQ_TRACKED (fT / 10000)) h Reg.SMP_TRK_FREQ_MEASURED
    (match fm with | some m => m / 10000 | none => 0)

/-- N × f_T is above F_SYNC_MAX (R209): f_T in µHz, F_SYNC_MAX in Hz. -/
def syncOver (f : FrontEnd) (fmax : Nat) : Bool := decide (fmax * 1000000 < f.syncN * f.fT)

/-- SYNC_OUT clamps while N × f_T is above F_SYNC_MAX (R209); a clamp ends in SYNC_PULSE. -/
def syncClamp (s : State) (h : HalfId) : State :=
  let target := (half s h).fe.syncN * (half s h).fe.fT
  let max_ := rd s h Reg.SMP_SYNC_MAX_FMAX
  if syncOver (half s h).fe max_ && !rdB s h Reg.SMP_SYNC_STAT_CLAMP then
    ledgerH (wrB s h Reg.SMP_SYNC_STAT_CLAMP true) h 0x0504 (p4s [target / 1000000, max_, 1])
  else s

/-- A memory voltage loses one tracked cycle. -/
def dirForget (x : GenFn) : GenFn :=
  { x with memCycles := x.memCycles - 1, mem := if x.memCycles ≤ 1 then none else x.mem }

/-- The memory voltages of DIR functions lose one tracked cycle (R352); DIR_MEMORY_EXPIRED where one ends
with the function not picked up. -/
def memoryCycle (s : State) (h : HalfId) : State :=
  match (half s h).image with
  | some i => i.general.foldl (fun s r =>
      let x := genFn s h r.slot
      if r.type = 9 ∧ x.mem.isSome = true then
        let s1 := modDec s h fun d => { d with gen := sset (fun _ => default) d.gen r.slot (dirForget x) }
        if x.memCycles ≤ 1 ∧ x.pu = false then ledgerH s1 h 0x0904 (p4s [r.slot, r.type]) else s1
      else s) s
  | none => s

/-- RMS detectors in tracked-cycle mode end their cycle (R255). -/
def rmsCycle (s : State) (h : HalfId) : State :=
  match (half s h).image with
  | some i => i.chains.foldl (fun s r =>
      if bits r.det 11 10 = 2 then setChain s h r.chain (rmsBoundary r.det (chainRun s h r.chain)) else s) s
  | none => s

/-- TRACKED_CYCLE_BOUNDARY (R203 to R206, R208): f_M of the two sources in µHz, `none` where one has too low
an RMS; `phi` the phase error of the source used, in 0.001°. -/
def execTrackedCycleBoundary (h : HalfId) (f1 f2 : Option Nat) (phi : Int) (s : State) :
    Host.Outcome State Fault Refusal :=
  if !(half s h).fe.tracking then .next s
  else
    let (fm, used) := pickSource s h f1 f2
    let s1 := trackSteer (trackState s h fm used phi) h fm phi
    let f := (half s h).fe
    let ns := if f.boundary = 0 then 10 ^ 15 / max 1 f.fT else (s.ticks + 1 - f.boundary) * 8
    let s2 := modFe s1 h fun f => { f with
      acc := 0, accTick := s.ticks, boundary := s.ticks + 1, cycleNs := ns, syncN := rd s h Reg.SMP_SYNC_CFG_N }
    .next (publishChanges (memoryCycle (rmsCycle (syncClamp s2 h) h) h) h fun r => r.src % 256 == 0x10)

/-! ### SYNC_OUT (R208 to R212) -/

/-- Would a pulse now follow the previous one at the balls by less than 1 ÷ (1.005 × F_SYNC_MAX) (R210)? -/
def syncTooSoon (s : State) (h : HalfId) : Bool :=
  s.field.io.syncAt != 0 &&
    decide ((s.ticks + 1 - s.field.io.syncAt) * 1005 * rd s h Reg.SMP_SYNC_MAX_FMAX < 125000000000)

/-- SYNC_OUT's clamp ends where the generator is locked and N × f_T is no longer above F_SYNC_MAX (R209). -/
def syncUnclamp (s : State) (h : HalfId) (locked : Bool) : State :=
  let f := (half s h).fe
  let max_ := rd s h Reg.SMP_SYNC_MAX_FMAX
  if rdB s h Reg.SMP_SYNC_STAT_CLAMP && locked && !syncOver f max_ then
    ledgerH (wrB s h Reg.SMP_SYNC_STAT_CLAMP false) h 0x0504 (p4s [f.syncN * f.fT / 1000000, max_, 2])
  else s

/-- One pulse at the balls, unless the train is off or follows its previous pulse too soon (R208, R210). -/
def syncSend (s : State) (h : HalfId) : State :=
  if !rdB s h Reg.SMP_SYNC_CFG_EN || modeOf s h == mBOOT || rd s h Reg.SMP_SYNC_STAT_DRIVER != halfNo h then s
  else if syncTooSoon s h then satAdd s h Reg.SMP_SYNC_STAT_SUPPRESSED 1
  else modIo s fun x => { x with syncAt := s.ticks + 1 }

/-- SYNC_PULSE (R208 to R210): a pulse of half `h`'s train; `locked` says that the generator's pulses lie on
the tracked grid. -/
def execSyncPulse (h : HalfId) (locked : Bool) (s : State) : Host.Outcome State Fault Refusal :=
  .next (syncSend (syncUnclamp (syncClamp s h) h locked) h)

/-! ### Skew calibration (R213 to R216) -/

/-- CAL (R216, R224): status 3 ILLEGAL, 4 WRONG_MODE, 1 running. -/
def calCmd (s : State) (h : HalfId) (code : Nat) : State :=
  if code ≠ 1 then wr s h Reg.SMP_CAL_STAT_STATUS 3
  else if modeOf s h ≠ mCOMMISSION then wr s h Reg.SMP_CAL_STAT_STATUS 4
  else modFe (wr s h Reg.SMP_CAL_STAT_STATUS 1) h fun f => { f with cal := 2 }

def execCal (h : HalfId) (s : State) : Host.Outcome State Fault Refusal := .next (access s h (calCmd s h 1))

/-- Set the aperture trim of fast channel `n`, in 0.25 ns (R214, R226). -/
def putAperture (s : State) (h : HalfId) (n : Nat) (v : Int) : State :=
  let f := Reg.SMP_AP_TRIM_TRIM0 (n / 4)
  let t := max (-64) (min 64 v)
  let s1 := wr s h ⟨f.key, 8 * (n % 4) + 7, 8 * (n % 4)⟩ (ofSigned 8 t)
  wrBit s1 h Reg.SMP_CAL_STAT_RANGE n (decide (t ≠ v))

/-- Set the delay of precision or bitstream channel `k` (0 to 79), in 1/256 periods (R214, R227). -/
def putDelay (s : State) (h : HalfId) (k : Nat) (v : Int) : State :=
  let f := Reg.SMP_FD_TRIM_FRAC (k / 2)
  let t := max 0 (min 0x7FFF v)
  wr s h ⟨f.key, 16 * (k % 2) + 15, 16 * (k % 2)⟩ (t.toNat + if t = v then 0 else 0x8000)

/-- A trim beyond its range: SKEW_RANGE and Tally (R215). -/
def skewRange (s : State) (h : HalfId) (code : Nat) (v : Int) : State :=
  tallySet (ledgerH s h 0x0505 (p4 code ++ leInt 4 v)) h 0 32 1 0x0505

/-- The end of a calibration (R213 to R216): the trims that the channels need, fast in 0.25 ns and precision and
bitstream in 1/256 periods, in the order of R226 and R227; every chain restarts. -/
def calibrated (s : State) (h : HalfId) (fast delays : List Int) : State :=
  let origin := (half s h).fe.cal
  let s0 := tallySet s h 0 32 0 0x0506
  let s1 := (List.range 24).foldl (fun s n =>
    let v := fast.getD n 0
    let s1 := putAperture s h n v
    if v < -64 ∨ 64 < v then skewRange s1 h (0x80 + n) v else s1) s0
  let s2 := (List.range 80).foldl (fun s k =>
    let v := delays.getD k 0
    let s1 := putDelay s h k v
    if v < 0 ∨ 0x7FFF < v then skewRange s1 h (if k < 48 then k else 0x40 + (k - 48)) v else s1) s1
  let n := (((List.range 24).map fun n => fast.getD n 0).filter fun v => decide (v < -64) || decide (64 < v)).length
    + (((List.range 80).map fun k => delays.getD k 0).filter fun v => decide (v < 0) || decide (0x7FFF < v)).length
  let s3 := modFe (wr s2 h Reg.SMP_CAL_STAT_STATUS 2) h fun f => { f with cal := 0 }
  restartChains (ledgerH s3 h 0x0506 (p4s [origin, n])) h fun _ => true

end Sys2Proof.Machine
end

