-- ==== Sys2Proof/Machine/Rotation.lean ====
section
/-!
DEFINITION. Spare-tile rotation (R331 to R335) of general and fast tiles: handover, comparison, known-answer
test, late passes, and the registers that show them.
-/

namespace Sys2Proof.Machine

open Sys2Proof (Byte HalfId)

/-- Rotation of one kind of tile. -/
def rotOf (s : State) (h : HalfId) (fast : Bool) : Rotation :=
  if fast then (half s h).dec.rotFast else (half s h).dec.rotGen

def modRot (s : State) (h : HalfId) (fast : Bool) (f : Rotation → Rotation) : State :=
  modDec s h fun d => if fast then { d with rotFast := f d.rotFast } else { d with rotGen := f d.rotGen }

/-- Kind number of R768: 1 general, 2 fast; Tally subsystem of the kind. -/
def rotKind (fast : Bool) : Nat := if fast then 2 else 1
def rotTally (fast : Bool) : Nat := if fast then 1 else 2

/-- Failed-tile map of the kind. -/
def tileFailed (s : State) (h : HalfId) (fast : Bool) (t : Nat) : Bool :=
  getBank s h (if fast then Reg.FAB_FTFAIL_FAIL else Reg.FAB_TFAIL_FAIL) t

/-- Configured functions of the kind, ascending (slots for general functions). -/
def rotFns (s : State) (h : HalfId) (fast : Bool) : List Nat :=
  if fast then fastFns s h else (List.range 192).filter fun k => (genRec s h k).isSome

/-- Bring FAB_SUM, FAB_ROT_STAT and the tile registers up to date (R336, R339, R343, R345). -/
def rotShow (s : State) (h : HalfId) : State :=
  let g := rotOf s h false
  let f := rotOf s h true
  let s1 := wr (wr (wr s h Reg.FAB_SUM_SPARES g.idle.length) h Reg.FAB_SUM_FAST_SPARES f.idle.length)
    h Reg.FAB_SUM_FUNCS (rotFns s h false).length
  let s2 := wr s1 h Reg.FAB_SUM_FAILED ((List.range 208).filter fun t => tileFailed s1 h false t).length
  let s3 := wr (wr s2 h Reg.FAB_ROT_STAT_GEN_PROG g.covered) h Reg.FAB_ROT_STAT_FAST_PROG f.covered
  wrB (wrB s3 h Reg.FAB_ROT_STAT_ACTIVE (g.now.isSome || f.now.isSome)) h Reg.FAB_ROT_STAT_NO_SPARE (g.noSpare || f.noSpare)

/-- Role and function of a tile in FST_TMAP or FAB_TINFO (R308, R345): 0 active, 1 idle, 2 comparing, 3 under
test; an all-ones number names no function. -/
def tileRole (s : State) (h : HalfId) (fast : Bool) (t role slot : Nat) : State :=
  let key := (Reg.FST_TMAP_ROLE0 (t / 4)).key
  let b := 8 * (t % 4)
  if fast then wr (wr s h ⟨key, b + 7, b + 6⟩ role) h ⟨key, b + 5, b⟩ slot
  else wr (wr s h (Reg.FAB_TINFO_ROLE t) role) h (Reg.FAB_TINFO_SLOT t) slot

/-- Placement at boot step 6 (R331): every tile without a function is an idle spare, in ascending order. -/
def rotInit (s : State) (h : HalfId) (fast : Bool) : State :=
  let host : List (Nat × Nat) := match (half s h).image with
    | some i => if fast then (i.fast.filter fun r : FastTileRec => r.slot != 0xFF).map fun r : FastTileRec => (r.slot - 192, r.tile)
      else i.general.map fun r : GenTileRec => (r.slot, r.tile)
    | none => []
  let used := host.map fun e => e.2
  let idle := (List.range (if fast then 52 else 208)).filter fun t => !used.contains t && !tileFailed s h fast t
  let s1 := modRot s h fast fun _ =>
    { host := host.foldl (fun m e => nset m e.1 (e.2 + 1)) [], idle := idle, now := none, kat := [], covered := 0, next := 0
      passAt := 0, late := false, noSpare := false, disabled := false }
  let s2 := idle.foldl (fun s t => tileRole s h fast t 1 0xFF) s1
  let s3 := host.foldl (fun s e =>
    let s1 := tileRole s h fast e.2 0 e.1
    if fast then s1 else wr s1 h (Reg.FAB_FSTAT_TILE e.1) e.2) s2
  rotShow s3 h

/-- Is a SIG function concerned busy, so that a fast handover waits (R297)? -/
def sigBusy (s : State) (h : HalfId) (f : Nat) : Bool :=
  (fastFn s h f).sig != 0 || (match restraintOf s h f with | some g => (fastFn s h g).sig != 0 | none => false)

/-- A handover of function `f` does not start, or is postponed (R334). -/
def rotHeld (s : State) (h : HalfId) (fast : Bool) (f : Nat) : Bool :=
  (match (half s h).mode.pendSet with | some p => p.switch | none => false)
    || (if fast then sigBusy s h f else (genFn s h f).frozen)

/-- Rotation runs in this mode (R335). -/
def rotRuns (s : State) (h : HalfId) : Bool :=
  let m := modeOf s h
  booted s h && (m == mCOMMISSION || m == mSERVICE || m == mTEST || m == mLAYUP)

/-- No idle spare remains (R335). -/
def rotEmpty (s : State) (h : HalfId) (fast : Bool) : State :=
  if (rotOf s h fast).noSpare then s
  else
    let s1 := modRot s h fast fun r => { r with noSpare := true, now := none }
    rotShow (tallySet (ledgerH s1 h 0x0805 (p4s [rotKind fast])) h (rotTally fast) 1 1 0x0805) h

/-- EN of FAB_ROT_CTRL takes effect at the next step 1 (R335): both kinds stop or run again. -/
def rotEnable (s : State) (h : HalfId) : State :=
  let off := !rdB s h Reg.FAB_ROT_CTRL_EN
  if (rotOf s h false).disabled == off then s
  else
    let s1 := modRot (modRot s h false fun r => { r with disabled := off }) h true fun r => { r with disabled := off }
    let s2 := ledgerH s1 h 0x0806 (p4s [if off then 2 else 1])
    let c := if off then 1 else 0
    tallyVital (tallyVital s2 h 1 2 c 0x0806) h 2 2 c 0x0806

/-- The function next in ascending order from `n`. -/
def rotNext (fns : List Nat) (n : Nat) : Option Nat :=
  match fns.find? fun f => n ≤ f with
  | some f => some f
  | none => fns.head?

/-- Begin a comparison of function `f` with the spare idle longest (R331 steps 1 and 2). -/
def rotBegin (s : State) (h : HalfId) (fast : Bool) (f : Nat) : State :=
  match (rotOf s h fast).idle with
  | [] => rotEmpty s h fast
  | t :: rest =>
    let s1 := modRot s h fast fun r => { r with
      idle := rest, now := some (f, t, false), next := f + 1, passAt := if r.passAt = 0 then s.ticks + 1 else r.passAt }
    rotShow (tileRole s1 h fast t 2 f) h

/-- ROTATION_HANDOVER_START (R331, R332). -/
def execRotationHandoverStart (h : HalfId) (fast : Bool) (s : State) : Host.Outcome State Fault Refusal :=
  if !rotRuns s h then .next s
  else
    let s1 := rotEnable s h
    let r := rotOf s1 h fast
    .next (if r.disabled || r.now.isSome then s1
      else match rotNext (rotFns s1 h fast) r.next with
        | none => s1
        | some f => if rotHeld s1 h fast f then s1 else rotBegin s1 h fast f)

/-- Mark tile `t` failed (R333): TILE_FAILED with its cause, 1 disagreement or 2 test. -/
def rotFail (s : State) (h : HalfId) (fast : Bool) (t cause vector : Nat) : State :=
  let s1 := putBank s h (if fast then Reg.FAB_FTFAIL_FAIL else Reg.FAB_TFAIL_FAIL) t true
  let s2 := if fast then s1 else wrB s1 h (Reg.FAB_TINFO_FAILED t) true
  let s3 := if cause = 2 then satAdd s2 h Reg.FAB_ROT_ERR_KAT_FAIL 1 else s2
  let s4 := ledgerH (tileRole s3 h fast t 0 0xFF) h 0x0803 (p4s [rotKind fast, t, cause, vector])
  tallySet s4 h (rotTally fast) (16 + t) 1 0x0803

/-- One more function covered; a pass ends with the last (R332, R340). -/
def rotCovered (s : State) (h : HalfId) (fast : Bool) : State :=
  let r := rotOf s h fast
  if r.covered + 1 < (rotFns s h fast).length then modRot s h fast fun r => { r with covered := r.covered + 1 }
  else
    let sec := (s.ticks + 1 - r.passAt) / 125000000
    let s1 := modRot s h fast fun r => { r with covered := 0, next := 0, passAt := 0, late := false }
    let s2 := satAdd s1 h (if fast then Reg.FAB_ROT_PASS_FAST else Reg.FAB_ROT_PASS_GEN) 1
    let s3 := wr s2 h (if fast then Reg.FAB_ROT_LAST_FAST_SEC else Reg.FAB_ROT_LAST_GEN_SEC) (min sec 65535)
    if sec ≤ 900 then tallySet s3 h (rotTally fast) 3 0 0x0804 else s3

/-- The spare takes the function over (R331 step 4); the freed tile answers `fails` or goes to its test. -/
def rotTake (s : State) (h : HalfId) (fast : Bool) (f spare : Nat) (fails : Bool) : State :=
  let old := nget (rotOf s h fast).host f - 1
  let s1 := modRot s h fast fun r => { r with
    host := nset r.host f (spare + 1), now := none, kat := if fails then r.kat else nset r.kat old 1 }
  let s2 := tileRole s1 h fast spare 0 f
  let s3 := if fast then s2 else wr s2 h (Reg.FAB_FSTAT_TILE f) spare
  let s4 := if fails then rotFail s3 h fast old 1 0 else tileRole s3 h fast old 3 0xFF
  rotShow (rotCovered s4 h fast) h

/-- COMPARISON_COMPLETE (R331, R333): `none` is agreement throughout t_CMP, otherwise the first item that
differs. -/
def execComparisonComplete (h : HalfId) (fast : Bool) (differs : Option Nat) (s : State) :
    Host.Outcome State Fault Refusal :=
  let r := rotOf s h fast
  match r.now with
  | none => .next s
  | some (f, spare, again) =>
    if nget r.kat spare ≠ 0 then .next s
    else match differs with
      | none => .next (if rotHeld s h fast f then s else rotTake s h fast f spare false)
      | some item =>
        .next (if again then rotTake s h fast f spare true
          else
            let s1 := modRot s h fast fun r => { r with kat := nset r.kat spare 2 }
            let s2 := satAdd (tileRole s1 h fast spare 3 f) h Reg.FAB_ROT_ERR_DISAGREE 1
            ledgerH s2 h 0x0802 (p4s [rotKind fast, f, nget r.host f - 1, spare, item]))

/-- KAT_COMPLETE (R331 steps 5 and 6, R333): the known-answer test of a tile ends; `vector` the one that failed. -/
def execKatComplete (h : HalfId) (fast : Bool) (tile : Nat) (ok : Bool) (vector : Nat) (s : State) :
    Host.Outcome State Fault Refusal :=
  let r := rotOf s h fast
  let why := nget r.kat tile
  if why = 0 then .next s
  else
    let s1 := modRot s h fast fun r => { r with kat := nset r.kat tile 0 }
    if why = 1 then
      .next (rotShow (if ok then
          let s2 := modRot s1 h fast fun r => { r with idle := r.idle ++ [tile], noSpare := false }
          let s3 := if r.noSpare then tallySet s2 h (rotTally fast) 1 0 0x0805 else s2
          tileRole s3 h fast tile 1 0xFF
        else rotFail s1 h fast tile 2 vector) h)
    else match r.now with
      | some (f, _, _) =>
        .next (if ok then
            tileRole (modRot s1 h fast fun r => { r with now := some (f, tile, true) }) h fast tile 2 f
          else rotBegin (modRot (rotFail s1 h fast tile 2 vector) h fast fun r => { r with now := none }) h fast f)
      | none => .next s1

/-- ROT_LATE (R332): the pass has run for more than 900 s. -/
def execRotLate (h : HalfId) (fast : Bool) (s : State) : Host.Outcome State Fault Refusal :=
  let r := rotOf s h fast
  .next (if r.passAt = 0 ∨ r.late = true ∨ s.ticks + 1 ≤ r.passAt + 112500000000 then s
    else
      let s1 := wrB (modRot s h fast fun r => { r with late := true }) h Reg.FAB_ROT_STAT_LATE true
      tallySet (ledgerH s1 h 0x0804 (p4s [rotKind fast, (s.ticks + 1 - r.passAt) / 125000000])) h (rotTally fast) 3 1 0x0804)

end Sys2Proof.Machine
end

