-- ==== Sys2Proof/Machine/ArcLight.lean ====
section
/-!
DEFINITION. Arc light (chapter 10): receivers, ambient light, supervision codes, the arc elements' timers and
the ARC commands.  The light registers are the field die's, so they are read through half A's view.
-/

namespace Sys2Proof.Machine

open Sys2Proof (Byte HalfId)

/-! ### Applied receiver settings (R394, R395) -/

/-- A field of the applied settings word `1 + 3j + i` of channel `n`. -/
def rxF (s : State) (n i hi lo : Nat) : Nat :=
  bits (nget s.field.io.applied ((240 + n / 4) * 16 + 1 + 3 * (n % 4) + i)) hi lo

/-- ENABLE of the applied slot of channel `n`, once the settings are loaded. -/
def rxOn (s : State) (n : Nat) : Bool :=
  s.field.io.arcLoaded && bit (nget s.field.io.applied ((240 + n / 4) * 16)) 31

def rxThresh (s : State) (n : Nat) : Nat := rxF s n 0 17 0
def rxRef (s : State) (n : Nat) : Nat := rxF s n 2 17 0

/-- Receiver `n` beside its registers. -/
def arcRx (s : State) (n : Nat) : ArcRx := sget (fun _ => default) s.field.io.rx n

def modRx (s : State) (n : Nat) (f : ArcRx → ArcRx) : State :=
  modIo s fun x => { x with rx := smod (fun _ => default) x.rx n f }

/-- The bits of ARC_CSTATn (R402): 0 CODE_BRIGHT, 1 AMBIENT_HIGH, 2 SENSOR_OBSCURED, 3 SENSOR_FAIL, 4 LED_SHORT,
5 LED_OPEN. -/
def cstatBit (n b : Nat) : Fld := ⟨(Reg.ARC_CSTAT_OBSC_RUN n).key, b, b⟩

/-- Set or clear a flag of ARC_CSTATn; ARC_SUP and ARC_AMB follow, and Tally ARC is degraded while SENSOR_FAIL,
SENSOR_OBSCURED, CODE_BRIGHT, LED_OPEN or LED_SHORT is set (R387). -/
def putFlag (s : State) (n b : Nat) (on : Bool) : State :=
  let s1 := wrB s .a (cstatBit n b) on
  let s2 := if b = 3 then wrBit s1 .a Reg.ARC_SUP_FAIL n on
    else if b = 2 then wrBit s1 .a Reg.ARC_SUP_OBSC n on
    else if b = 1 then wrBit s1 .a Reg.ARC_AMB_AMB n on else s1
  let ev := if b = 3 then 0x0A02 else if b = 2 then 0x0A03 else if b = 0 then 0x0A05 else 0x0A06
  if b = 1 then s2 else tallyAll s2 5 (n * 8 + b) (b2n on) ev

/-- A change of light: the arc elements of both halves evaluate, then their matrices (R388, R389). -/
def lightChange (s : State) : State :=
  (halves s).foldl (fun s h =>
    if modeOf s h = mBOOT then s else edgeTriggers (decideOut (arcEvalAll s h) h) h) s

/-- The general ARC functions of each half note the light of channel `n` (R393). -/
def noteLight (s : State) (n : Nat) : State :=
  (halves s).foldl (fun s h => match (half s h).image with
    | some i => i.general.foldl (fun s r =>
        if r.type = 0xD ∧ bit (gF s h r.slot 2 15 0) n = true then
          modDec s h fun d => { d with gen := smod (fun _ => default) d.gen r.slot fun x => { x with light := true } }
        else s) s
    | none => s) s

/-! ### Light (R375 to R378) -/

/-- AMBIENT_HIGH sets or clears (R378); cause 1 rise, 2 baseline. -/
def ambient (s : State) (n cause us : Nat) (on : Bool) : State :=
  if rdB s .a (cstatBit n 1) == on then s
  else ledgerField (putFlag s n 1 on) 0x0A04 (p4s [n, cause, us, if on then 1 else 2])

/-- Elements in whose stretch a return to light falls: the light of element `n` is still extended (R377). -/
def inStretch (s : State) (n : Nat) : Bool := (halves s).any fun h => (arcElem s h n).qExt

/-- The gate pairs that disagree at this event (R389): ARC_ELEM_FAULT and Tally failed until half reset. -/
def elemFaults (s : State) (n : Nat) (hs : List HalfId) : State :=
  hs.foldl (fun s h =>
    if (arcElem s h n).fault || !present s h then s
    else
      let s1 := modDec s h fun d => { d with arc := smod (fun _ => default) d.arc n fun e => { e with fault := true } }
      tallySet (ledgerH s1 h 0x0A07 (p4s [n])) h 5 (512 + n) 2 0x0A07) s

/-- LIGHT_RISE (R375, R377, R378): the comparator of channel `n` crosses THRESH (or SAT rises) after `rise` µs;
`disagree` names the halves whose gate pair of element `n` disagrees. -/
def execLightRise (n rise : Nat) (sat : Bool) (disagree : List HalfId) (s : State) : Host.Outcome State Fault Refusal :=
  if !hasArc s || decide (15 < n) || !s.field.io.arcLoaded || rdBit s .a Reg.ARC_LIGHT_LIGHT n then .next s
  else
    let fast := decide (rise ≤ rxF s n 2 31 20)
    let qual := fast && !rdB s .a (cstatBit n 1) && !inStretch s n
    let s1 := wrBit (wrBit s .a Reg.ARC_LIGHT_LIGHT n true) .a Reg.ARC_LIGHT_HIST_LIGHT n true
    let s2 := if qual then wrBit (wrBit s1 .a Reg.ARC_LIGHT_LIGHTQ n true) .a Reg.ARC_LIGHT_HIST_LIGHTQ n true else s1
    let s3 := wr (wrB s2 .a (Reg.ARC_RISE_QUAL n) qual) .a (Reg.ARC_RISE_RISE n) (min rise 65535)
    let s4 := if sat then wrBit s3 .a Reg.ARC_AMB_SAT n true else s3
    let s5 := if fast then s4 else ambient s4 n 1 rise true
    .next (lightChange (noteLight (elemFaults s5 n disagree) n))

/-- LIGHT falls at channel `n`: STRETCH begins in the elements (R375, R377, R388). -/
def lightFall (s : State) (n : Nat) : State :=
  let q := rdBit s .a Reg.ARC_LIGHT_LIGHTQ n
  let s1 := wrBit (wrBit s .a Reg.ARC_LIGHT_LIGHT n false) .a Reg.ARC_LIGHT_LIGHTQ n false
  let s2 := (halves s1).foldl (fun s h =>
    if arcF s h n 1 15 8 = 0 then s
    else modDec s h fun d => { d with arc := smod (fun _ => default) d.arc n fun e =>
      { e with lightExt := true, qExt := e.qExt || q } }) s1
  lightChange (modRx s2 n fun x => { x with frozenTill := s.ticks + 125000 })

/-- LIGHT_FALL (R375). -/
def execLightFall (n : Nat) (s : State) : Host.Outcome State Fault Refusal :=
  .next (if rdBit s .a Reg.ARC_LIGHT_LIGHT n && !rdBit s .a Reg.ARC_AMB_SAT n then lightFall s n else s)

/-- SAT rises with LIGHT at 0: LIGHT rises, unqualified (R375, R377). -/
def satRise (s : State) (n : Nat) : State :=
  if !s.field.io.arcLoaded || rdBit s .a Reg.ARC_LIGHT_LIGHT n then s
  else lightChange (noteLight (wrBit (wrBit s .a Reg.ARC_LIGHT_LIGHT n true) .a Reg.ARC_LIGHT_HIST_LIGHT n true) n)

/-- LIGHT_LEVEL_SAMPLE (R374, R376, R378): a digitiser sample of channel `n`; a saturated one reads 0x3_FFFF. -/
def execLightLevelSample (n level : Nat) (sat : Bool) (s : State) : Host.Outcome State Fault Refusal :=
  if !hasArc s || decide (15 < n) then .next s
  else
    let lv := if sat then 0x3FFFF else min level 0x3FFFF
    let x := arcRx s n
    let bl := rd s .a (Reg.ARC_BASE_BASE n)
    let frozen := rdBit s .a Reg.ARC_LIGHT_LIGHT n || x.code != 0 || decide (s.ticks < x.frozenTill)
    let bl1 := if !x.started then lv else if frozen then bl else between bl lv (Config.baseline bl lv)
    let s1 := wr (wr s .a (Reg.ARC_LEVEL_LEVEL n) lv) .a (Reg.ARC_BASE_BASE n) bl1
    let s2 := modRx (wrBit s1 .a Reg.ARC_AMB_SAT n sat) n fun x => { x with started := true }
    let s3 := if s.field.io.arcLoaded && rxThresh s n != 0 && decide (rxThresh s n ≤ 2 * bl1) then ambient s2 n 2 0 true else s2
    .next (if sat then satRise s3 n else s3)

/-- AMBIENT_RESETTLED (R378): re-settled for 250 ms. -/
def execAmbientResettled (n : Nat) (s : State) : Host.Outcome State Fault Refusal :=
  let t := rxThresh s n
  let bl := rd s .a (Reg.ARC_BASE_BASE n)
  let lv := rd s .a (Reg.ARC_LEVEL_LEVEL n)
  .next (if lv < t ∧ 2 * bl < t ∧ ((lv : Int) - bl).natAbs * 10 < t then ambient s n 2 0 false else s)

/-- STRETCH_EXPIRY (R388): part 0 light, 1 qualified light, 2 current function A, 3 current function B. -/
def execStretchExpiry (h : HalfId) (n part : Nat) (s : State) : Host.Outcome State Fault Refusal :=
  let s1 := modDec s h fun d => { d with arc := smod (fun _ => default) d.arc n fun e =>
    if part = 0 then { e with lightExt := false } else if part = 1 then { e with qExt := false }
    else if part = 2 then { e with aExt := false } else if part = 3 then { e with bExt := false } else e }
  .next (if hasArc s && decide (n < 16) then edgeTriggers (decideOut (arcEval s1 h n) h) h else s)

/-! ### Supervision codes (R379 to R387) -/

/-- Channel `n` sends codes now (R380, R385, R395). -/
def codeOn (s : State) (n : Nat) : Bool := rxOn s n && rxF s n 0 29 29 == 1 && !rdB s .a (cstatBit n 0)

/-- The module's receivers run codes: some half is past BOOT (R380). -/
def codesRun (s : State) : Bool := hasArc s && (halves s).any fun h => booted s h

/-- A scheduled cycle starts (R380): every enabled channel not in back-off sends its code. -/
def codeCycle (s : State) : State :=
  if codesRun s then
    (List.range 16).foldl (fun s n => if codeOn s n && !(arcRx s n).backoff then modRx s n fun x => { x with code := 1 } else s) s
  else s

def execCodeCycle (s : State) : Host.Outcome State Fault Refusal := .next (codeCycle s)

/-- CODE_RETRY (R380, R383): the channel sends its code alone. -/
def execCodeRetry (n : Nat) (s : State) : Host.Outcome State Fault Refusal :=
  .next (if codesRun s && codeOn s n && (arcRx s n).backoff then modRx s n fun x => { x with code := 2 } else s)

/-- The result of a code (R382): 1 PASS, 2 OBSCURED, 3 WEAK, 4 STRONG, 5 CROSSED, 6 LED_FAULT. -/
def codeResult (ref spread : Nat) (own oth : Int) (sat led : Bool) : Nat :=
  if sat ∨ ref < 4 * spread then 2
  else if led then 6
  else if (ref : Int) ≤ 2 * oth ∧ 2 * own - ref ≤ 2 * oth then 5
  else if 2 * own < ref then 3
  else if 2 * (ref : Int) < own then 4
  else 1

/-- An LED flag (bit 5 open, bit 4 short) after a code (R386). -/
def ledFlag (s : State) (n b : Nat) (on : Bool) : State :=
  if rdB s .a (cstatBit n b) == on then s
  else ledgerField (putFlag s n b on) 0x0A06 (p4s [n, if b = 5 then 1 else 2, if on then 1 else 2])

/-- SENSOR_OBSCURED (R383). -/
def obscured (s : State) (n : Nat) (on : Bool) : State :=
  if rdB s .a (cstatBit n 2) == on then s else ledgerField (putFlag s n 2 on) 0x0A03 (p4s [n, if on then 1 else 2])

/-- SENSOR_FAIL (R384), with the result and the channel seen. -/
def sensorFail (s : State) (n result seen : Nat) (on : Bool) : State :=
  if rdB s .a (cstatBit n 3) == on then s
  else ledgerField (putFlag s n 3 on) 0x0A02 (p4s [n, result, seen, if on then 1 else 2])

/-- An obscured code (R383): the run counts, and the next attempt is a retry. -/
def codeObscured (s : State) (n : Nat) : State :=
  let k := rd s .a (Reg.ARC_CSTAT_OBSC_RUN n) + 1
  let s1 := satAdd (satAdd s .a (Reg.ARC_CSTAT_OBSC_RUN n) 1) .a (Reg.ARC_CNT_OBSC n) 1
  let s2 := modRx s1 n fun x => { x with backoff := true }
  if k = 30 then obscured s2 n true else s2

/-- A clean code (R383 to R385). -/
def codeClean (s : State) (n result seen : Nat) (own : Int) : State :=
  let s1 := obscured (wr s .a (Reg.ARC_CSTAT_OBSC_RUN n) 0) n false
  let s2 := if result = 1 then
      modRx (sensorFail (wr (satAdd s1 .a (Reg.ARC_CNT_PASS n) 1) .a (Reg.ARC_CSTAT_FAIL_RUN n) 0) n result seen false) n
        fun x => { x with backoff := false }
    else
      let k := rd s .a (Reg.ARC_CSTAT_FAIL_RUN n) + 1
      let s2 := modRx (satAdd s1 .a (Reg.ARC_CSTAT_FAIL_RUN n) 1) n fun x => { x with backoff := decide (k < 3) }
      if k = 3 then sensorFail s2 n result seen true else s2
  let bl := rd s .a (Reg.ARC_BASE_BASE n)
  if (rxThresh s n : Int) - bl ≤ 2 * own ∧ rdB s .a (cstatBit n 0) = false then
    ledgerField (putFlag s2 n 0 true) 0x0A05 (p4 n ++ leInt 4 own ++ p4 bl)
  else s2

/-- CODE_COMPLETE (R381 to R387): amplitude of the channel's own code and the largest of the others with its
channel, spread, whether a sample saturated, and the LED checks. -/
def execCodeComplete (n : Nat) (own oth : Int) (seen spread : Nat) (sat ledOpen ledShort : Bool) (s : State) :
    Host.Outcome State Fault Refusal :=
  if !hasArc s || decide (15 < n) || (arcRx s n).code == 0 then .next s
  else
    let r := codeResult (rxRef s n) spread own oth sat (ledOpen || ledShort)
    let s1 := ledFlag (ledFlag s n 5 ledOpen) n 4 ledShort
    let s2 := wr (wr s1 .a (Reg.ARC_CODE_RESULT n) r) .a (Reg.ARC_CODE_SEEN n) seen
    let s3 := wr s2 .a (Reg.ARC_CODE_AMP n) (min own.toNat 0x3FFFF)
    let s4 := modRx s3 n fun x => { x with code := 0, frozenTill := s.ticks + 125000 }
    let s5 := if r = 2 then codeObscured s4 n else codeClean s4 n r seen own
    .next (lightChange s5)

/-! ### ARC_CMD (R398, R399) -/

/-- Status of a field-die command by its checks: unknown code, BOOT, not the holder (R53, R398, R447). -/
def fieldStatus (s : State) (h : HalfId) (known : Bool) : Nat :=
  if !known then 0x10 else if modeOf s h = mBOOT then 0x11 else if !holds s h then 0x20 else 0x02

/-- SYS_ERR.NOT_HOLDER where the status says so (R53). -/
def holderErr (s : State) (h : HalfId) (st : Nat) : State :=
  if st = 0x20 then wrB s h Reg.SYS_ERR_NOT_HOLDER true else s

/-- A write of ARC_CMD. -/
def arcCmd (s : State) (h : HalfId) (code mask : Nat) : State :=
  let st := fieldStatus s h (decide (1 ≤ code) && decide (code ≤ 3))
  let s1 := holderErr (result s h Reg.ARC_RESULT_SEQ Reg.ARC_RESULT_CMD Reg.ARC_RESULT_STATUS code st) h st
  if st ≠ 0x02 then s1
  else if code = 1 then codeCycle s1
  else (List.range 16).foldl (fun s n =>
    if bit mask n then
      (if code = 2 then wr (wr s .a (Reg.ARC_CNT_PASS n) 0) .a (Reg.ARC_CNT_OBSC n) 0
       else if rdB s .a (cstatBit n 0) then putFlag s n 0 false else s)
    else s) s1

def execCodeNow (h : HalfId) (mask : Nat) (s : State) : Host.Outcome State Fault Refusal := .next (unitAccess s h (hasArc s) (arcCmd s h 1 mask))
def execClrCounts (h : HalfId) (mask : Nat) (s : State) : Host.Outcome State Fault Refusal := .next (unitAccess s h (hasArc s) (arcCmd s h 2 mask))
def execResume (h : HalfId) (mask : Nat) (s : State) : Host.Outcome State Fault Refusal := .next (unitAccess s h (hasArc s) (arcCmd s h 3 mask))

end Sys2Proof.Machine
end

