-- ==== Sys2Proof/Machine/Crate.lean ====
section
/-!
DEFINITION. Crate (chapter 16): the block format with its coder and decoder, and the jobs of the host channel.
The commit channel stands in Commit.lean.
-/

namespace Sys2Proof.Machine

open Sys2Proof (Byte HalfId)

/-- Change Crate of a half. -/
def modCrt (s : State) (h : HalfId) (f : CrateRun → CrateRun) : State :=
  let x := half s h
  setHalf s h { x with crt := f x.crt }

/-! ### The block header (R576, R577) -/

/-- The 16-byte header of a block. -/
def blockHeader (kind flags order wsize nch ulen clen lead : Nat) (data : List Byte) : List Byte :=
  [0xC7, BitVec.ofNat 8 kind, BitVec.ofNat 8 flags, BitVec.ofNat 8 order, BitVec.ofNat 8 wsize, BitVec.ofNat 8 nch] ++
    le 2 (ulen - 1) ++ le 2 (clen - 1) ++ le 2 lead ++ le 4 (crc32 data)

/-- A RAW block of the data (R577). -/
def rawBlock (flags wsize nch : Nat) (data : List Byte) : List Byte :=
  blockHeader 3 flags 0 wsize nch data.length data.length 0 data ++ data

/-! ### SAMPLE coding (R578 to R581) -/

/-- Word `c` of row `k` of a block's data. -/
def rowWord (data : List Byte) (lead wsize nch k c : Nat) : Nat :=
  unLe ((data.drop (lead + (k * nch + c) * wsize)).take wsize)

/-- The prediction of row `k` at an order, from the words before it, newest first (R579). -/
def predict (order k : Nat) (prev : List Nat) (b : Nat) : Nat :=
  let o := min order k
  if o = 0 then 0
  else if o = 1 then prev.getD 0 0
  else (2 * prev.getD 0 0 + 2 ^ b - prev.getD 1 0) % 2 ^ b

/-- The unsigned value of a residual of `b` bits (R579), and its inverse. -/
def zigzag (b r : Nat) : Nat := if r < 2 ^ (b - 1) then 2 * r else 2 * (2 ^ b - r) - 1
def unzigzag (b u : Nat) : Nat := if u % 2 = 0 then u / 2 else 2 ^ b - (u + 1) / 2

/-- The residual values of one channel at an order. -/
def residuals (b order : Nat) : Nat → List Nat → List Nat → List Nat
  | _, _, [] => []
  | k, prev, x :: t => zigzag b ((x + 2 ^ b - predict order k prev b) % 2 ^ b) :: residuals b order (k + 1) (x :: prev.take 1) t

/-- Bits of a partition's codes with parameter `k` (R580). -/
def codeCost (b k : Nat) (us : List Nat) : Nat :=
  us.foldl (fun n u => n + if k = 15 then b else u / 2 ^ k + 1 + k) 0

/-- The cheapest parameter, the smaller one on a tie (R581). -/
def bestK (b : Nat) (us : List Nat) : Nat :=
  ((List.range 16).foldl (fun (m : Nat × Nat) k => let c := codeCost b k us; if c < m.2 then (k, c) else m) (0, codeCost b 0 us)).1

/-- A bit string, least significant bit first, as a number and its length. -/
def emit (a : Nat × Nat) (v n : Nat) : Nat × Nat := (a.1 + v % 2 ^ n * 2 ^ a.2, a.2 + n)

/-- Code one partition. -/
def codePart (b : Nat) (a : Nat × Nat) (us : List Nat) : Nat × Nat :=
  let k := bestK b us
  us.foldl (fun a u =>
    if k = 15 then emit a u b
    else emit (emit a (2 ^ (u / 2 ^ k) - 1) (u / 2 ^ k + 1)) (u % 2 ^ k) k) (emit a k 4)

/-- Cut a list into pieces of 32; the first argument bounds the pieces. -/
def parts32 : Nat → List Nat → List (List Nat)
  | 0, _ => []
  | n + 1, us => if us.isEmpty then [] else us.take 32 :: parts32 n (us.drop 32)

/-- The SAMPLE payload of a block's data at one order (R580). -/
def samplePayload (data : List Byte) (lead wsize nch order : Nat) : List Byte :=
  let b := 8 * wsize
  let n := (data.length - lead) / (nch * wsize)
  let a := (List.range nch).foldl (fun a c =>
    let us := residuals b order 0 [] ((List.range n).map fun k => rowWord data lead wsize nch k c)
    (parts32 (n + 1) us).foldl (codePart b) a) (0, 0)
  data.take lead ++ le (ceilDiv a.2 8) a.1

/-- The shorter of two coded payloads with their orders, the earlier one on a tie. -/
def shorter (x y : Nat × List Byte) : Nat × List Byte := if y.2.length < x.2.length then y else x

/-- A SAMPLE block; order 3 is AUTO; RAW with FALLBACK where the code does not shrink it (R577, R581). -/
def sampleBlock (data : List Byte) (lead wsize nch order flags : Nat) : List Byte :=
  let p := fun o => (o, samplePayload data lead wsize nch o)
  let best := if order = 3 then shorter (shorter (p 0) (p 1)) (p 2) else p order
  if data.length ≤ best.2.length then rawBlock (flags + 1) wsize nch data
  else blockHeader 1 flags best.1 wsize nch data.length best.2.length lead data ++ best.2

/-! ### Decoding (R582 to R584)

A decoder answers its status (0, or the code of R596), the payload byte it has come to, and the decoded bytes. -/

/-- Decoded bytes so far, newest first, after a match of `n` bytes at distance `d` (R582). -/
def copyMatch : Nat → Nat → List Byte → List Byte
  | 0, _, o => o
  | n + 1, d, o => copyMatch n d (o.getD (d - 1) 0 :: o)

/-- The tokens of a BYTE payload: control bits and how many are left, position, payload, output newest first. -/
def byteLoop (lim ulen : Nat) : Nat → Nat → Nat → Nat → List Byte → List Byte → Nat × Nat × List Byte
  | 0, _, _, pos, _, out => (0x33, pos, out)
  | f + 1, ctrl, left, pos, p, out =>
    if out.length = ulen then ((if p.isEmpty ∧ ctrl = 0 then 0 else 0x33), pos, out)
    else if left = 0 then
      match p with
      | [] => (0x33, pos, out)
      | c :: t => byteLoop lim ulen f c.toNat 8 (pos + 1) t out
    else if ctrl % 2 = 0 then
      match p with
      | [] => (0x33, pos, out)
      | c :: t => if lim ≤ out.length then (0x34, pos, out) else byteLoop lim ulen f (ctrl / 2) (left - 1) (pos + 1) t (c :: out)
    else
      match p with
      | a :: b :: t =>
        let w := a.toNat + 256 * b.toNat
        let d := w % 4096 + 1
        if w / 4096 = 15 ∧ t.isEmpty = true then (0x33, pos, out)
        else
          let n := if w / 4096 = 15 then 18 + (t.headD 0).toNat else 3 + w / 4096
          let k := if w / 4096 = 15 then 1 else 0
          if out.length < d then (0x33, pos, out)
          else if lim < out.length + n then (0x34, pos, out)
          else byteLoop lim ulen f (ctrl / 2) (left - 1) (pos + 2 + k) (t.drop k) (copyMatch n d out)
      | _ => (0x33, pos, out)

/-- Decode a BYTE payload. -/
def byteDecode (p : List Byte) (ulen lim : Nat) : Nat × Nat × List Byte :=
  let r := byteLoop lim ulen (2 * p.length + 2) 0 0 0 p []
  (r.1, r.2.1, r.2.2.reverse)

/-- Length of the run of one-bits at `pos`, counted up to the end of the stream. -/
def onesAt (bs : Nat) : Nat → Nat → Nat
  | 0, _ => 0
  | f + 1, pos => if bit bs pos then onesAt bs f (pos + 1) + 1 else 0

/-- One channel: rows left, row number, parameter of the partition, position, words before, newest first.  `bs` holds
`total` bits; `room k` says whether row `k` of this channel still lies inside the limit. -/
def chanLoop (b order bs total : Nat) (room : Nat → Bool) : Nat → Nat → Nat → Nat → List Nat → Nat × Nat × List Nat
  | 0, _, _, pos, ws => (0, pos, ws)
  | n + 1, k, par, pos, ws =>
    let fresh := k % 32 == 0
    let par := if fresh then bs / 2 ^ pos % 16 else par
    let pos := if fresh then pos + 4 else pos
    let q := if par = 15 then 0 else onesAt bs (total - pos) pos
    let size := if par = 15 then b else q + 1 + par
    let u := if par = 15 then bs / 2 ^ pos % 2 ^ b else q * 2 ^ par + bs / 2 ^ (pos + q + 1) % 2 ^ par
    if total < pos + size then (0x33, pos, ws)
    else if !room k then (0x34, pos, ws)
    else if par < 15 ∧ 2 ^ (b - par) ≤ q then (0x33, pos, ws)
    else chanLoop b order bs total room n (k + 1) par (pos + size) ((unzigzag b u + predict order k ws b) % 2 ^ b :: ws)

/-- All channels in turn: status, position, and the words of each channel. -/
def chansLoop (b order bs total rows : Nat) (room : Nat → Nat → Bool) : List Nat → Nat → Nat × Nat × List (List Nat)
  | [], pos => (0, pos, [])
  | c :: t, pos =>
    let r := chanLoop b order bs total (room c) rows 0 0 pos []
    if r.1 ≠ 0 then (r.1, r.2.1, [])
    else
      let q := chansLoop b order bs total rows room t r.2.1
      (q.1, q.2.1, r.2.2.reverse :: q.2.2)

/-- Decode a SAMPLE payload. -/
def sampleDecode (p : List Byte) (order wsize nch lead ulen lim : Nat) : Nat × Nat × List Byte :=
  if lim < lead then (0x34, lim, [])
  else if p.length < lead then (0x33, p.length, [])
  else
    let wr := nch * wsize
    let rows := (ulen - lead) / wr
    let r := chansLoop (8 * wsize) order (unLe (p.drop lead)) (8 * (p.length - lead)) rows
      (fun c k => decide (lead + k * wr + (c + 1) * wsize ≤ lim)) (List.range nch) 0
    if r.1 ≠ 0 then (r.1, lead + r.2.1 / 8, [])
    else if ceilDiv r.2.1 8 ≠ p.length - lead then (0x33, lead + r.2.1 / 8, [])
    else (0, p.length, p.take lead ++
      ((List.range rows).map fun k => (r.2.2.map fun ch => le wsize (ch.getD k 0)).flatten).flatten)

/-- The fields of a header at the start of the bytes. -/
def hdr (bs : List Byte) (i n : Nat) : Nat := unLe ((bs.drop i).take n)

/-- ULEN and CLEN of a header. -/
def hdrUlen (bs : List Byte) : Nat := hdr bs 6 2 + 1
def hdrClen (bs : List Byte) : Nat := hdr bs 8 2 + 1

/-- The header checks of R584 before NEED_SPACE: 0, BAD_HEADER or SRC_SHORT; `bs` are the source's remaining bytes. -/
def headerCheck (bs : List Byte) : Nat :=
  let kind := hdr bs 1 1
  let wsize := hdr bs 4 1 % 16
  let nch := hdr bs 5 1
  let lead := hdr bs 10 2 % 4096
  let u := hdrUlen bs
  let c := hdrClen bs
  if bs.length < 16 then 0x36
  else if hdr bs 0 1 ≠ 0xC7 ∨ kind = 0 ∨ 3 < kind then 0x32
  else if kind = 1 ∧ (2 < hdr bs 3 1 % 4 ∨ (wsize ≠ 2 ∧ wsize ≠ 4) ∨ nch = 0 ∨ 128 < nch ∨ u < lead
      ∨ (u - lead) % (nch * wsize) ≠ 0) then 0x32
  else if bs.length < 16 + c then 0x36
  else if (kind = 3 ∧ c ≠ u) ∨ (kind ≠ 3 ∧ u ≤ c) then 0x32
  else 0

/-- Decode the block at the start of the bytes, whose header is good: status, offset, bytes. -/
def decodeBlock (bs : List Byte) (lim : Nat) : Nat × Nat × List Byte :=
  let u := hdrUlen bs
  let p := (bs.drop 16).take (hdrClen bs)
  let r := if hdr bs 1 1 = 3 then (if lim < u then (0x34, lim, []) else (0, p.length, p))
    else if hdr bs 1 1 = 2 then byteDecode p u lim
    else sampleDecode p (hdr bs 3 1 % 4) (hdr bs 4 1 % 16) (hdr bs 5 1) (hdr bs 10 2 % 4096) u lim
  if r.1 = 0 ∧ crc32 r.2.2 ≠ hdr bs 12 4 then (0x35, r.2.1, r.2.2) else r

/-- A BYTE block with the payload the compressor chose (R583): a payload that does not decode to the data, or does not
shrink it, gives way to RAW with FALLBACK. -/
def byteBlock (data choice : List Byte) (wsize nch flags : Nat) : List Byte :=
  let r := byteDecode choice data.length data.length
  if data.length ≤ choice.length ∨ r.1 ≠ 0 ∨ r.2.2 ≠ data then rawBlock (flags + 1) wsize nch data
  else blockHeader 2 flags 0 1 1 data.length choice.length 0 data ++ choice

/-! ### Cutting (R587) -/

/-- Length of the next block of a compress job with `left` source bytes, of which `lead` leading bytes at the start. -/
def cutLen (kind wsize nch lead left : Nat) (first : Bool) : Nat :=
  if kind ≠ 1 then min left 65536
  else
    let wr := max 1 (nch * wsize)
    let l := if first then lead else 0
    l + min ((left - l) / wr * wr) ((65536 - l) / wr * wr)

/-- One block of a compress job: flags get FINAL on the last. -/
def codeBlock (kind order wsize nch lead : Nat) (first last : Bool) (data choice : List Byte) : List Byte :=
  let fl := 2 * b2n last
  if kind = 1 then sampleBlock data (if first then lead else 0) wsize nch order fl
  else if kind = 2 then byteBlock data choice wsize nch fl
  else rawBlock fl wsize nch data

/-! ### Spaces (R586) -/

/-- Pages of a unit with a payload of `n` bytes (R603). -/
def unitPages (n : Nat) : Nat := ceilDiv (n + 80) 4096

/-- The bytes of a REC unit (R603). -/
def recUnitBytes (h : HalfId) (u : RecUnit) : List Byte :=
  let head := [0x55, 0x4E, 0x49, 0x54, 3, BitVec.ofNat 8 (halfNo h), 1, 0] ++ le 4 u.unitSeq ++ le 4 u.payload.length ++
    List.replicate 48 0
  let body := head ++ u.payload
  let pad := unitPages u.payload.length * 4096 - body.length - 16
  body ++ List.replicate pad 0 ++ le 4 (crc32 body) ++ le 4 u.unitSeq ++ [0, 0, 0, 0, 0x3C, 0xC3, 0xA5, 0x5A]

/-- A byte of a half's REC; bytes outside its valid units read 0. -/
def recByte (s : State) (h : HalfId) (a : Nat) : Byte :=
  match (recUnits s h).find? fun u => decide (u.page * 4096 ≤ a) && decide (a < (u.page + unitPages u.payload.length) * 4096) with
  | some u => (recUnitBytes h u).getD (a - u.page * 4096) 0
  | none => 0

/-- Bytes of a space. -/
def spaceBytes (s : State) (h : HalfId) (space a n : Nat) : List Byte :=
  if space = 0 then bytesAt (half s h).acq.mem a n
  else if space = 1 then (List.range n).map fun i => recByte s h (a + i)
  else bytesAt (half s h).crt.sram a n

/-- Write bytes into a space. -/
def spacePut (s : State) (h : HalfId) (space a : Nat) (bs : List Byte) : State :=
  if space = 0 then modAcq s h fun q => { q with mem := putBytes q.mem a bs }
  else if space = 2 then modCrt s h fun c => { c with sram := putBytes c.sram a bs }
  else s

/-- Size of a space in bytes (R57, R58, R586). -/
def spaceSize (space : Nat) : Nat := if space = 0 then 0x1000000 else if space = 1 then 47 * 0x100000 else 0x200000

/-! ### Host jobs (R585 to R589) -/

/-- Report a Crate command or a job end (command 0). -/
def crtResult (s : State) (h : HalfId) (c st : Nat) : State :=
  result s h Reg.CRT_RESULT_SEQ Reg.CRT_RESULT_CMD Reg.CRT_RESULT_STATUS c st

/-- Is an address range inside its space? -/
def inSpace (space a n : Nat) : Bool := decide (a + n ≤ spaceSize space)

/-- The destination of a job is allowed (R586): a writable space, inside it, not over the source. -/
def dstOk (firmware : Bool) (j : CrateJob) : Bool :=
  (j.dstSpace == 0 || (j.dstSpace == 2 && firmware)) && inSpace j.dstSpace j.dst j.cap &&
    !(j.dstSpace == j.srcSpace && decide (j.dst < j.src + j.len) && decide (j.src < j.dst + j.cap))

/-- START's own checks (R586, R597, R598). -/
def jobOk (firmware : Bool) (j : CrateJob) : Bool :=
  1 ≤ j.op && (j.srcSpace ≤ 1 || (j.srcSpace == 2 && firmware)) && inSpace j.srcSpace j.src j.len &&
    1 ≤ j.limit && j.limit ≤ 65536 && j.order ≤ 3 && (j.wsize == 2 || j.wsize == 4) &&
    (j.op == 3 || dstOk firmware j) &&
    (j.op != 1 || (j.len != 0 && j.kind != 0 && (j.kind != 1 ||
      (1 ≤ j.nch && j.nch ≤ 128 && j.lead ≤ j.len && (j.len - j.lead) % (j.nch * j.wsize) == 0))))

/-- The job that the descriptor registers name. -/
def jobOf (s : State) (h : HalfId) : CrateJob :=
  { op := rd s h Reg.CRT_JOP_OP, kind := rd s h Reg.CRT_JOP_KIND, order := rd s h Reg.CRT_JOP_ORDER
    wsize := rd s h Reg.CRT_JOP_WSIZE, nch := rd s h Reg.CRT_JOP_NCH, lead := rd s h Reg.CRT_JLEAD_LEAD
    srcSpace := rd s h Reg.CRT_JSPACE_SRC, src := rd s h Reg.CRT_JSRC_ADDR, len := rd s h Reg.CRT_JLEN_LEN
    dstSpace := rd s h Reg.CRT_JSPACE_DST, dst := rd s h Reg.CRT_JDST_ADDR, cap := rd s h Reg.CRT_JCAP_CAP
    limit := rd s h Reg.CRT_OUT_LIMIT_LIMIT, consumed := 0, produced := 0, blocks := 0, aborting := false }

/-- The job's source bytes from the next block on, as far as one block can reach. -/
def jobSource (s : State) (h : HalfId) (j : CrateJob) : List Byte :=
  spaceBytes s h j.srcSpace (j.src + j.consumed) (min (j.len - j.consumed) 65552)

/-- Length of the next block of a compress job. -/
def jobCut (j : CrateJob) : Nat := cutLen j.kind j.wsize j.nch j.lead (j.len - j.consumed) (j.consumed == 0)

/-- Before a block: its destination lacks room (R588). -/
def needSpace (s : State) (h : HalfId) (j : CrateJob) : Bool :=
  if j.op = 3 ∨ j.len ≤ j.consumed then false
  else if j.op = 1 then decide (j.cap < j.produced + jobCut j + 16)
  else
    let bs := jobSource s h j
    headerCheck bs == 0 && decide (j.cap < j.produced + min (hdrUlen bs) j.limit)

/-- The job's progress as its registers show it (R599). -/
def jobShow (s : State) (h : HalfId) (j : CrateJob) : State :=
  modCrt (wr (wr s h Reg.CRT_IN_CONSUMED_COUNT j.consumed) h Reg.CRT_OUT_PRODUCED_COUNT j.produced) h
    fun c => { c with job := some j }

/-- The job ends with a status (R595, R596). -/
def jobEnd (s : State) (h : HalfId) (st : Nat) : State :=
  crtResult (wr (modCrt s h fun c => { c with job := none }) h Reg.CRT_STAT_HSTATE 3) h 0 st

/-- At a block boundary: the job is done, ended by ABORT, stopped for space, or goes on. -/
def jobBoundary (s : State) (h : HalfId) (j : CrateJob) : State :=
  let s1 := jobShow s h j
  if j.len ≤ j.consumed then jobEnd s1 h 0x02
  else if j.aborting then jobEnd s1 h 0x19
  else if needSpace s1 h j then crtResult (wr s1 h Reg.CRT_STAT_HSTATE 2) h 0 0x30
  else wr s1 h Reg.CRT_STAT_HSTATE 1

/-- A job fails at its block (R584): ERRPOS, and the destination bytes of the block are undefined. -/
def jobFail (s : State) (h : HalfId) (j : CrateJob) (st off n : Nat) : State :=
  let s1 := wr (wr s h Reg.CRT_ERRPOS_BLOCK j.blocks) h Reg.CRT_ERRPOS_OFFSET off
  let s2 := if j.op = 2 ∧ 0 < n then
      spacePut { s1 with free := s1.free + 1 } h j.dstSpace (j.dst + j.produced) (le n (Config.freeValue s1.free))
    else s1
  jobEnd s2 h st

/-- One block of a compress job. -/
def compressBlock (s : State) (h : HalfId) (j : CrateJob) (choice : List Byte) : State :=
  let n := jobCut j
  let data := (jobSource s h j).take n
  let out := codeBlock j.kind j.order j.wsize j.nch j.lead (j.consumed == 0) (decide (j.len ≤ j.consumed + n)) data choice
  let s1 := spacePut s h j.dstSpace (j.dst + j.produced) out
  jobBoundary s1 h { j with consumed := j.consumed + n, produced := j.produced + out.length, blocks := j.blocks + 1 }

/-- One block of a decompress or verify job. -/
def decompressBlock (s : State) (h : HalfId) (j : CrateJob) : State :=
  let bs := jobSource s h j
  let c := headerCheck bs
  if c ≠ 0 then jobFail s h j c 0 0
  else
    let lim := min (hdrUlen bs) j.limit
    let r := decodeBlock bs lim
    if r.1 ≠ 0 then jobFail s h j r.1 (r.2.1 % 65536) lim
    else
      let s1 := if j.op = 2 then spacePut s h j.dstSpace (j.dst + j.produced) r.2.2 else s
      jobBoundary s1 h { j with
        consumed := j.consumed + 16 + hdrClen bs, produced := j.produced + r.2.2.length, blocks := j.blocks + 1 }

/-- The host job's block completes; `memErr`: a source read had an uncorrectable error (R591). -/
def hostBlock (s : State) (h : HalfId) (choice : List Byte) (memErr : Bool) : State :=
  match (half s h).crt.job with
  | none => s
  | some j =>
    if rd s h Reg.CRT_STAT_HSTATE ≠ 1 then s
    else if memErr then jobFail s h j 0x37 0 0
    else if j.op = 1 then compressBlock s h j choice
    else decompressBlock s h j

/-- The host channel stops at power-fail (R591). -/
def hostPowerFail (s : State) (h : HalfId) : State :=
  match (half s h).crt.job with
  | some _ => jobEnd s h 0x38
  | none => s

/-- The status of a CRT_CMD command (R595); `firmware`: written by management firmware. -/
def crtStatus (s : State) (h : HalfId) (c : Nat) (firmware : Bool) : Nat :=
  let st := rd s h Reg.CRT_STAT_HSTATE
  let running := st == 1 || st == 2
  if c = 0 ∨ 3 < c then 0x10
  else if modeOf s h = mBOOT ∨ rdB s h Reg.PWR_PF_STAT_PF = true then 0x11
  else if c = 1 then (if running then 0x14 else if jobOk firmware (jobOf s h) then 0x01 else 0x31)
  else if c = 2 then
    (if st ≠ 2 then 0x23
     else match (half s h).crt.job with
      | some j => if j.op == 3 || dstOk firmware { j with dst := rd s h Reg.CRT_JDST_ADDR, cap := rd s h Reg.CRT_JCAP_CAP } then 0x01 else 0x31
      | none => 0x23)
  else if running then 0x01 else 0x23

/-- A write of CRT_CMD: 1 START, 2 RESUME, 3 ABORT. -/
def crtCmd (s : State) (h : HalfId) (c : Nat) (firmware : Bool) : State :=
  if !hasCrate s then s
  else
    let st := crtStatus s h c firmware
    let s1 := crtResult s h c st
    if st ≠ 0x01 then s1
    else if c = 1 then jobBoundary (wr (wr s1 h Reg.CRT_ERRPOS_BLOCK 0) h Reg.CRT_ERRPOS_OFFSET 0) h (jobOf s h)
    else match (half s h).crt.job with
      | none => s1
      | some j =>
        if c = 2 then
          jobBoundary s1 h { j with dst := rd s h Reg.CRT_JDST_ADDR, cap := rd s h Reg.CRT_JCAP_CAP, produced := 0 }
        else if rd s h Reg.CRT_STAT_HSTATE = 2 then jobEnd s1 h 0x19
        else modCrt s1 h fun x => { x with job := some { j with aborting := true } }

def execCrtStart (h : HalfId) (firmware : Bool) (s : State) : Host.Outcome State Fault Refusal := .next (unitAccess s h (hasCrate s) (crtCmd s h 1 firmware))
def execCrtResume (h : HalfId) (firmware : Bool) (s : State) : Host.Outcome State Fault Refusal := .next (unitAccess s h (hasCrate s) (crtCmd s h 2 firmware))
def execCrtAbort (h : HalfId) (s : State) : Host.Outcome State Fault Refusal := .next (unitAccess s h (hasCrate s) (crtCmd s h 3 false))

end Sys2Proof.Machine
end

