-- ==== Sys2Proof/Machine/FieldOut.lean ====
section
/-!
DEFINITION. Field inputs and outputs (chapters 11 and 12): settings the field die takes, disagreement, trip-circuit
supervision and the housekeeping scan that feeds it, supply groups, digital inputs, output diagnostics, the
leader-class refresh and DIO_CMD.
-/

namespace Sys2Proof.Machine

open Sys2Proof (Byte HalfId)

/-! ### Settings of the field die (R395, R411, R445) -/

/-- An applied settings field of slot 244 + k; the defaults of R444 until the first load. -/
def ioWord (s : State) (k w : Nat) : Nat :=
  if s.field.io.ioLoaded then nget s.field.io.applied ((244 + k) * 16 + w)
  else if w = 0 then 2 ^ 31 else if w ≤ 8 then 30 + 30 * 65536 else if w = 9 then 2 + 2 * 65536 else 0

def ioOn (s : State) (k : Nat) : Bool := bit (ioWord s k 0) 31

/-- DEB of input `n` in 100 µs, and its WB (R444). -/
def diDeb (s : State) (n : Nat) : Nat :=
  if ioOn s (n / 16) then bits (ioWord s (n / 16) (1 + n % 16 / 2)) (16 * (n % 2) + 7) (16 * (n % 2)) else 1
def diWb (s : State) (n : Nat) : Bool := ioOn s (n / 16) && bit (ioWord s (n / 16) (1 + n % 16 / 2)) (16 * (n % 2) + 8)

/-- T_S of group `g` in µs (R444). -/
def diPeriod (s : State) (g : Nat) : Nat := 125 * 2 ^ min 4 (bits (ioWord s (g / 2) 9) (16 * (g % 2) + 3) (16 * (g % 2) + 1))

/-- k of R431. -/
def diK (s : State) (n : Nat) : Nat := max 1 (ceilDiv (diDeb s n * 100) (diPeriod s (n / 8)))

/-- OL_ON and OL_OFF of DO `n`. -/
def olOn (s : State) (n : Nat) : Bool := ioOn s (n / 8) && bit (ioWord s (n / 8) 10) (8 + n % 8)
def olOff (s : State) (n : Nat) : Bool := ioOn s (n / 8) && bit (ioWord s (n / 8) 10) (n % 8)

/-- VALID of input `n` (R429, R433). -/
def diValid (s : State) (n : Nat) : Bool :=
  !rdBit s .a Reg.DIO_SUP_MISSING (n / 8) && !rdB s .a (Reg.DIO_DISTAT_WIRE_BREAK n)

/-- The registers that show VALID of input `n`; a change is dated for the input images (R431). -/
def diShow (s : State) (n : Nat) : State :=
  let v := diValid s n
  let s1 := wrB (putBank s .a (loHi Reg.DIO_DI_INV_LO_INV Reg.DIO_DI_INV_HI_INV) n (!v)) .a (Reg.DIO_DISTAT_VALID n) v
  if rdB s .a (Reg.DIO_DISTAT_VALID n) == v then s1 else modIo s1 fun x => { x with invAt := nset x.invAt n (s.ticks + 1) }

/-- WIRE_BREAK of input `n` without a record. -/
def putWb (s : State) (n : Nat) (on : Bool) : State :=
  let s1 := wrB (putBank s .a (loHi Reg.DIO_DI_WB_LO_WB Reg.DIO_DI_WB_HI_WB) n on) .a (Reg.DIO_DISTAT_WIRE_BREAK n) on
  tallyAll (diShow s1 n) 6 (100 + n) (b2n on) 0x0C02

/-- Checks that the applied settings switch off clear their flags (R445). -/
def dropChecks (s : State) : State :=
  let s1 := (List.range 64).foldl (fun s n =>
    if !diWb s n && rdB s .a (Reg.DIO_DISTAT_WIRE_BREAK n) then putWb s n false else s) s
  (List.range 32).foldl (fun s n =>
    let s1 := if !olOn s n then doClear s n 1 else s
    if !olOff s1 n then doClear s1 n 2 else s1) s1

/-- The field die takes slots 240 to 247 of half `h`'s active group (R395, R445); a changed THRESH or CODE_REF
ends CODE_BRIGHT (R385). -/
def fieldApply (s : State) (h : HalfId) : State :=
  let g := groupOf s h (activeGroup s h)
  let words := (List.range 128).foldl (fun m k => nset m (3840 + k) (nget g.words (3840 + k))) []
  let s1 := modIo s fun x => { x with applied := words, arcLoaded := hasArc s, ioLoaded := true }
  let s2 := (List.range 16).foldl (fun s1 n =>
    if rdB s1 .a (cstatBit n 0) && (rxThresh s n != rxThresh s1 n || rxRef s n != rxRef s1 n) then putFlag s1 n 0 false else s1) s1
  dropChecks s2

/-- The trip-class settings of the image of half `h` (R410, R411, R422): classes, vote modes, lockout actions,
safe values and timeouts. -/
def fieldClasses (s : State) (h : HalfId) : State :=
  match (half s h).image with
  | none => s
  | some i =>
    let mask := fun (lo : Nat) (p : OutRec → Bool) => i.outputs.foldl (fun m r =>
      if lo ≤ r.code ∧ r.code < lo + 32 ∧ p r = true then m ||| 2 ^ (r.code - lo) else m) 0
    let two := twoHalves s
    let s1 := wr (wr s .a Reg.TRM_VOTE_FTO_LOCK (mask 0 fun r => r.lock == 1)) .a Reg.TRM_VOTE_FTO_AND
      (mask 0 fun r => two && r.vote == 1)
    let s2 := wr s1 .a Reg.TRM_CLASS_DO_TRIP (mask 32 fun r => r.cls == 2)
    let s3 := wr (wr s2 .a Reg.TRM_VOTE_DO_AND (mask 32 fun r => two && r.cls == 2 && r.vote == 1)) .a Reg.TRM_LOCK_DO_LOCK
      (mask 32 fun r => r.cls == 2 && r.lock == 1)
    let cls := i.outputs.foldl (fun m r => if 32 ≤ r.code then nset m (r.code - 32) r.cls else m) []
    let tmo := i.outputs.foldl (fun m r => if 32 ≤ r.code then nset m (r.code - 32) r.timeout else m)
      ((List.range 32).map fun n => (n, 20))
    let s4 := modIo s3 fun x => { x with doClass := cls, doSafe := mask 32 fun r => r.safe == 1, doTimeout := tmo }
    (List.range 32).foldl (fun s n => wr s .a (Reg.DIO_DOSTAT_CLASS n) (nget cls n)) s4

/-! ### Disagreement (R415) -/

/-- The disagreement bit of output code `c` (0x00 to 0x0F FTO, 0x20 to 0x3F DO). -/
def disBit (c : Nat) : Fld × Nat :=
  if c < 16 then (Reg.TRM_DISAGREE_FTO, c) else if c < 48 then (Reg.TRM_DISAGREE_DO, c - 32) else (Reg.TRM_DISAGREE_HI_DO_HI, c - 48)

/-- The two vote inputs of output code `c`. -/
def voteInputs (s : State) (c : Nat) : Bool × Bool :=
  if c < 16 then (rdBit s .a Reg.TRM_FTO_IN_A c, rdBit s .a Reg.TRM_FTO_IN_B c)
  else (rdBit s .a Reg.TRM_DO_IN_A_IN (c - 32), rdBit s .a Reg.TRM_DO_IN_B_IN (c - 32))

/-- VOTE_DISAGREE_TIMER (R415): the inputs of the output have differed, or agreed, for 10 ms. -/
def execVoteDisagreeTimer (code : Nat) (s : State) : Host.Outcome State Fault Refusal :=
  let known := decide (code < 16) || (decide (32 ≤ code) && decide (code < 64) && rdBit s .a Reg.TRM_CLASS_DO_TRIP (code - 32))
  if !known || !twoHalves s || absent s .a || absent s .b then .next s
  else
    let (f, b) := disBit code
    let v := voteInputs s code
    let differ := v.1 != v.2
    .next (if differ == rdBit s .a f b then s
      else ledgerField (wrBit s .a f b differ) 0x0B04
        (p4s [code, if differ && !v.1 then 1 else 0, if differ then 1 else 2]))

/-! ### Trip-circuit supervision (R417, R418) and the housekeeping scan (R159 to R161) -/

/-- TCSk pauses (R418): its DO is on or turned off less than 20 ms ago, HK(24 + k) is invalid, or the supply
group is not GOOD. -/
def tcsPaused (s : State) (h : HalfId) (k : Nat) : Bool :=
  let n := rd s .a (Reg.TRM_TCS_CFG_DO k)
  rdBit s .a Reg.DIO_DO_VAL_VAL n || (nget s.field.io.offAt n != 0 && decide (s.ticks + 1 < nget s.field.io.offAt n + 2500000))
    || decide (channelQ s h (0xC0 + 24 + k) < 128) || !groupGood s (n / 8)

/-- A reading of TCSk: voltage in 10 mV, OPEN, PAUSED, SUPPLY_INVALID (R417, R418, R424). -/
def tcsRead (s : State) (h : HalfId) (k : Nat) (v : Int) : State :=
  if !rdB s .a (Reg.TRM_TCS_CFG_EN k) then s
  else
    let mv := (v.toNat * 5000) / 8388608
    let s1 := wr (wrB s .a (Reg.TRM_TCS_STAT_OPEN k) (decide (rd s .a (Reg.TRM_TCS_CFG_LEVEL k) < mv))) .a (Reg.TRM_TCS_STAT_VOLTS k) mv
    wrB (wrB s1 .a (Reg.TRM_TCS_STAT_PAUSED k) (tcsPaused s h k)) .a (Reg.TRM_TCS_STAT_SUPPLY_INVALID k)
      (!groupGood s (rd s .a (Reg.TRM_TCS_CFG_DO k) / 8))

/-- TCS_FAIL_TIMER (R417): open for DELAY × 100 ms, or not open for 100 ms; a pause holds both. -/
def execTcsFailTimer (k : Nat) (s : State) : Host.Outcome State Fault Refusal :=
  let open_ := rdB s .a (Reg.TRM_TCS_STAT_OPEN k)
  .next (if decide (3 < k) || !rdB s .a (Reg.TRM_TCS_CFG_EN k) || rdB s .a (Reg.TRM_TCS_STAT_PAUSED k)
      || rdB s .a (Reg.TRM_TCS_STAT_FAIL k) == open_ then s
    else
      let s1 := wrB s .a (Reg.TRM_TCS_STAT_FAIL k) open_
      let s2 := ledgerField s1 0x0B05
        (p4s [k, rd s .a (Reg.TRM_TCS_CFG_DO k), rd s .a (Reg.TRM_TCS_STAT_VOLTS k), if open_ then 1 else 2])
      tallyAll s2 6 (2000 + k) (b2n open_) 0x0B05)

/-- The half whose housekeeping converter serves trip-circuit supervision: the leader's, or half A's where none
leads (log entry 24). -/
def tcsHalf (s : State) : HalfId := (leader s).getD .a

/-- HK21 against 1.25 V ± 0.5 % (R133): REF_FAULT after three scans out of tolerance, cleared after three within. -/
def refCheck (s : State) (h : HalfId) (v : Int) : State :=
  let f := (half s h).fe
  let ok := decide ((v - 4194304).natAbs ≤ 20971)
  let s1 := modFe s h fun f => { f with refBad := if ok then 0 else f.refBad + 1, refGood := if ok then f.refGood + 1 else 0 }
  if !ok && decide (3 ≤ f.refBad + 1) && !rdB s h Reg.PCV_REF_STAT_FAULT then
    tallyVital (ledgerH (wrB s1 h Reg.PCV_REF_STAT_FAULT true) h 0x0409 (leInt 4 v ++ p4 1)) h 0 2 2 0x0409
  else if ok && decide (3 ≤ f.refGood + 1) && rdB s h Reg.PCV_REF_STAT_FAULT then
    let s2 := modFe (wrB s1 h Reg.PCV_REF_STAT_FAULT false) h fun f => { f with settling := true }
    tallyVital (ledgerH s2 h 0x0409 (leInt 4 v ++ p4 2)) h 0 2 0 0x0409
  else s1

/-- HKA_ALARM of channel `n` (R161): three conversions in a row beyond a limit. -/
def hkAlarm (s : State) (h : HalfId) (n : Nat) (v : Int) : State :=
  let hi := decide (toSigned 16 (rd s h (Reg.HKA_LIM_HIGH n)) * 256 < v)
  let lo := decide (v < toSigned 16 (rd s h (Reg.HKA_LIM_LOW n)) * 256)
  let k := if hi || lo then nget (half s h).fe.hkOver n + 1 else 0
  let s1 := modFe s h fun f => { f with hkOver := nset f.hkOver n (min k 3) }
  if 3 ≤ k ∧ rdBit s h Reg.HKA_ALARM_ALARM n = false then
    ledgerH (wrBit s1 h Reg.HKA_ALARM_ALARM n true) h 0x040B (p4 n ++ leInt 4 v ++ p4 (if hi then 1 else 2))
  else s1

/-- Substitution of a housekeeping result during a test of its channel (R145, R162). -/
def hkSubst (s : State) (h : HalfId) (k : Nat) : Bool :=
  match (half s h).fe.test with
  | some t => t.code == k && (t.step == 1 || t.conv != 0)
  | none => false

/-- One conversion of housekeeping channel `n` (R142, R159 to R162). -/
def hkConvert (s : State) (h : HalfId) (n code : Nat) : State :=
  let k := 0xC0 + n
  let q := channelQ s h k
  let sub := hkSubst s h k
  let raw := correct24 (rd s h (Reg.HKA_CORR_OFF_OFFSET n)) (rd s h (Reg.HKA_CORR_GAIN_GAIN n)) ((code % 4096 * 2048 : Nat) : Int)
  let v := if sub then sget (fun _ => 0) (half s h).fe.hk k else raw
  let valid := match (half s h).fe.test with | some t => if sub then t.valid else decide (128 ≤ q) | none => decide (128 ≤ q)
  let q1 := q % 128 + 16 * b2n sub + 128 * b2n valid
  let s1 := modFe (count s h (0x254 + n)) h fun f => { f with
    hk := sset (fun _ => 0) f.hk k v
    test := f.test.map fun t => if t.code = k ∧ t.step = 2 then { t with conv := t.conv - 1 } else t }
  let s2 := hkAlarm (noteHigh s1 h k v) h n v
  let s3 := if n = 21 then refCheck s2 h v else s2
  let s4 := if 24 ≤ n ∧ n < 28 ∧ h = tcsHalf s then tcsRead s3 h (n - 24) v else s3
  if rdBit s4 h Reg.HKA_DMASK_DMASK n then
    let s5 := if rdB s4 h Reg.HKA_DATA_NEW then satAdd (wrB s4 h Reg.HKA_STAT_OVERRUN true) h Reg.HKA_LOST_COUNT 1 else s4
    let s6 := wr (wr s5 h Reg.HKA_DATA_VALUE (ofSigned 24 v / 256)) h Reg.HKA_DATA_CH n
    wrB (wr s6 h Reg.HKA_DATA_QUALITY q1) h Reg.HKA_DATA_NEW true
  else s4

/-- HK_SCAN (R159): codes of channels 0 to 31 by number, and of the self-check position. -/
def execHkScan (h : HalfId) (codes : List Nat) (self : Nat) (s : State) : Host.Outcome State Fault Refusal :=
  let s1 := (List.range 32).foldl (fun s n =>
    if rdBit s h Reg.HKA_CTRL_EN n && (hasArc s || decide (n < 28)) then hkConvert s h n (codes.getD n 0) else s) s
  .next (wrB s1 h Reg.HKA_STAT_SELFCHECK (decide (self + 8 < 2048) || decide (2048 + 8 < self)))

/-! ### Supply groups (R426 to R429) -/

/-- The band of a measurement in mV seen from a state: 1 MISSING, 2 LOW, 3 GOOD. -/
def supplyBand (cur mv : Nat) : Nat :=
  if cur = 1 then (if mv < 13000 then 1 else if mv < 19000 then 2 else 3)
  else if mv < 12000 then 1
  else if cur = 2 then (if mv < 19000 then 2 else 3)
  else if mv < 18000 then 2 else 3

/-- State of group `g`. -/
def supplyState (s : State) (g : Nat) : Nat :=
  if rdBit s .a Reg.DIO_SUP_MISSING g then 1 else if rdBit s .a Reg.DIO_SUP_LOW g then 2 else 3

/-- The mask of a group's diagnostics begins (R428): flags clear without a record; OT_LATCHED stays (R437). -/
def maskGroup (s : State) (g : Nat) : State :=
  let s1 := (List.range 8).foldl (fun s j =>
    let n := 8 * g + j
    if rdB s .a (Reg.DIO_DISTAT_WIRE_BREAK n) then putWb s n false else s) s
  if 4 ≤ g then s1
  else (List.range 8).foldl (fun s j =>
    let n := 8 * g + j
    let s1 := (List.range 4).foldl (fun s k => if rdB s .a (doFlag k n) then doDiag s n k false else s) s
    modIo s1 fun x => { x with openOff := nset x.openOff n 0, retry := nset x.retry n 0 }) s1

/-- Group `g` takes a new state (R428, R429). -/
def supplyChange (s : State) (g new mv : Nat) : State :=
  let old := supplyState s g
  let s1 := wrBit (wrBit s .a Reg.DIO_SUP_MISSING g (new == 1)) .a Reg.DIO_SUP_LOW g (new == 2)
  let s2 := (List.range 8).foldl (fun s j => diShow (wrB s .a (Reg.DIO_DISTAT_SUPPLY_INVALID (8 * g + j)) (new != 3)) (8 * g + j)) s1
  let s3 := if new ≠ 3 ∧ old = 3 then maskGroup s2 g else s2
  let s4 := if g < 4 then (List.range 8).foldl (fun s j =>
      doBall (wrB s .a (Reg.DIO_DOSTAT_SUPPLY_INVALID (8 * g + j)) (new != 3)) (8 * g + j)) s3 else s3
  tallyAll (ledgerField s4 0x0C01 (p4s [g, old, new, mv])) 6 (16 + g) (b2n (new != 3)) 0x0C01

/-- SUPPLY_MEASURE (R427): L+ of group `g` in mV. -/
def execSupplyMeasure (g mv : Nat) (s : State) : Host.Outcome State Fault Refusal :=
  if 7 < g then .next s
  else
    let cur := supplyState s g
    let b := supplyBand cur mv
    let n := if b = cur then 0 else if nget s.field.io.supBand g = b then nget s.field.io.supN g + 1 else 1
    let v := Reg.DIO_SUPV_V_EVEN (g / 2)
    let s1 := wr s .a ⟨v.key, 16 * (g % 2) + 15, 16 * (g % 2)⟩ (min 65535 (mv / 10))
    let s2 := modIo s1 fun x => { x with supN := nset x.supN g (if n < 10 then n else 0), supBand := nset x.supBand g b }
    .next (if 10 ≤ n then supplyChange s2 g b mv else s2)

/-! ### Digital inputs (R430 to R433) -/

/-- Input `n` changes state (R431), with the start of the first window of the run as timestamp. -/
def diChange (s : State) (n : Nat) (on : Bool) (inst : Nat) : State :=
  let s1 := wrB (putBank s .a (loHi Reg.DIO_DI_LO_STATE Reg.DIO_DI_HI_STATE) n on) .a (Reg.DIO_DISTAT_STATE n) on
  let s2 := wrapInc (evBump s1 .a (0x100 + n)) .a (Reg.DIO_DISEQ_SEQ n)
  let s3 := (halves s2).foldl (fun s h => count s h (0x144 + n)) s2
  modIo s3 fun x => { x with
    diWait := x.diWait ++ [(n, if twoHalves s then 3 else 1, s.ticks, inst, rd s3 .a (Reg.DIO_DISEQ_SEQ n), on)] }

/-- Wire-break detection of an input that is OFF (R433). -/
def diWire (s : State) (n cur k : Nat) (on : Bool) : State :=
  let r := sget (fun _ => default) s.field.io.di n
  let wb := rdB s .a (Reg.DIO_DISTAT_WIRE_BREAK n)
  let low := if !on && decide (cur < 10) then r.wbLow + 1 else 0
  let high := if decide (20 ≤ cur) then r.wbHigh + 1 else 0
  let s1 := modIo s fun x => { x with di := smod (fun _ => default) x.di n fun r => { r with wbLow := min low 65535, wbHigh := min high 65535 } }
  if diWb s n && !on && !wb && decide (k ≤ low) then ledgerField (putWb s1 n true) 0x0C02 (p4s [n, cur, 1])
  else if wb && (on || decide (k ≤ high)) then ledgerField (putWb s1 n false) 0x0C02 (p4s [n, cur, 2])
  else s1

/-- DI_WINDOW (R430, R431, R433): input `n` seen ON or OFF with a current in 0.05 mA, in a window that started at
`inst` ns. -/
def execDiWindow (n : Nat) (level : Bool) (current inst : Nat) (s : State) : Host.Outcome State Fault Refusal :=
  if 63 < n ∨ rdBit s .a Reg.DIO_SUP_MISSING (n / 8) = true then .next s
  else
    let k := diK s n
    let r := sget (fun _ => default) s.field.io.di n
    let state := rdB s .a (Reg.DIO_DISTAT_STATE n)
    let s1 := wr s .a (Reg.DIO_DISTAT_CURRENT n) (min current 255)
    let m := if level == state then 0 else r.n + 1
    let first := if r.n = 0 then inst else r.first
    let s2 := modIo s1 fun x => { x with
      di := smod (fun _ => default) x.di n fun r => { r with n := if k ≤ m then 0 else m, first := first } }
    let s3 := if k ≤ m then diChange s2 n level first else s2
    .next (if groupGood s (n / 8) then diWire s3 n current k (rdB s3 .a (Reg.DIO_DISTAT_STATE n)) else s3)

/-! ### Output diagnostics (R435 to R439) -/

/-- DO `n` is ON at its ball. -/
def doOn (s : State) (n : Nat) : Bool := rdBit s .a Reg.DIO_DO_OUT_OUT n

/-- Set a condition that is not present yet, with its entry. -/
def doSet (s : State) (n k : Nat) : State :=
  if rdB s .a (doFlag k n) then s else doLedger (doDiag s n k true) n k true

/-- DO_OVERLOAD (R436): 2 ms in current limit, or 10 ms out of it. -/
def execDoOverload (n : Nat) (on : Bool) (current : Nat) (s : State) : Host.Outcome State Fault Refusal :=
  if 31 < n ∨ groupGood s (n / 8) = false then .next s
  else
    let s1 := wr s .a (Reg.DIO_DOCUR_CURRENT n) (min current 65535)
    .next (if on then (if doOn s n then doSet s1 n 0 else s1) else doClear s1 n 0)

/-- DO_OPEN_ON (R436): the current of an ON output over 20 ms, in mA. -/
def execDoOpenOn (n current : Nat) (s : State) : Host.Outcome State Fault Refusal :=
  if 31 < n ∨ groupGood s (n / 8) = false then .next s
  else
    let s1 := wr s .a (Reg.DIO_DOCUR_CURRENT n) (min current 65535)
    .next (if current < 5 then (if doOn s n && olOn s n then doSet s1 n 1 else s1) else doClear s1 n 1)

/-- Trip-circuit supervision is enabled on DO `n` (R438). -/
def tcsOn (s : State) (n : Nat) : Bool :=
  (List.range 4).any fun k => rdB s .a (Reg.TRM_TCS_CFG_EN k) && rd s .a (Reg.TRM_TCS_CFG_DO k) == n

/-- DO_OPEN_OFF_CHECK (R436, R438): one check of an OFF output, above 0.5 × L+ or not. -/
def execDoOpenOffCheck (n : Nat) (above : Bool) (s : State) : Host.Outcome State Fault Refusal :=
  let off := nget s.field.io.offAt n
  .next (if decide (31 < n) || !groupGood s (n / 8) || rdBit s .a Reg.DIO_DO_VAL_VAL n || !olOff s n || tcsOn s n
      || (off != 0 && decide (s.ticks + 1 < off + 2500000)) then s
    else if above then
      let k := nget s.field.io.openOff n + 1
      let s1 := modIo s fun x => { x with openOff := nset x.openOff n (min k 3) }
      if 3 ≤ k then doSet s1 n 2 else s1
    else doClear (modIo s fun x => { x with openOff := nset x.openOff n 0 }) n 2)

/-- A thermal shutdown of DO `n` (R436): the first of a run is recorded, the eighth latches. -/
def overtemp (s : State) (n : Nat) : State :=
  let at_ := nget s.field.io.otAt n
  let s0 := if at_ ≠ 0 ∧ at_ + 125000000 ≤ s.ticks + 1 then wr s .a (Reg.DIO_DOSTAT_RETRIES n) 0 else s
  let k := rd s0 .a (Reg.DIO_DOSTAT_RETRIES n) + 1
  let s1 := wr s0 .a (Reg.DIO_DOSTAT_RETRIES n) (min k 8)
  if 8 ≤ k then
    let s2 := modIo (doDiag (doDiag s1 n 4 true) n 3 false) fun x => { x with retry := nset x.retry n 0 }
    doBall (ledgerField s2 0x0C05 (p4s [n, 2, 8])) n
  else
    let s2 := modIo (doDiag s1 n 3 true) fun x => { x with retry := nset x.retry n 1 }
    doBall (if k = 1 then ledgerField s2 0x0C05 (p4s [n, 1, k]) else s2) n

/-- DO_OVERTEMP (R436, R437). -/
def execDoOvertemp (n : Nat) (s : State) : Host.Outcome State Fault Refusal :=
  .next (if decide (n < 32) && groupGood s (n / 8) && doOn s n then overtemp s n else s)

/-- DO_OVERTEMP_RETRY (R436): the retry succeeds, or the switch shuts down again. -/
def execDoOvertempRetry (n : Nat) (ok : Bool) (s : State) : Host.Outcome State Fault Refusal :=
  if nget s.field.io.retry n = 0 then .next s
  else
    let s1 := modIo s fun x => { x with retry := nset x.retry n 0 }
    .next (if ok then doBall (modIo (doDiag s1 n 3 false) fun x => { x with otAt := nset x.otAt n (s.ticks + 1) }) n
      else overtemp s1 n)

/-- GRP_OVERCURRENT (R435): the summed current of group `g` over 100 ms, in mA. -/
def execGrpOvercurrent (g current : Nat) (s : State) : Host.Outcome State Fault Refusal :=
  let on := decide (3300 < current)
  .next (if 3 < g ∨ rdBit s .a Reg.DIO_SUP_GRP_OC g = on then s
    else tallyAll (ledgerField (wrBit s .a Reg.DIO_SUP_GRP_OC g on) 0x0C07 (p4s [g, current, if on then 1 else 2])) 6 (32 + g) (b2n on) 0x0C07)

/-! ### Leader-class outputs (R416, R440 to R443) -/

/-- Mask of the leader-class DO. -/
def leaderDos (s : State) : Nat := rd s .a Reg.TRM_CLASS_DO_TRIP ^^^ 0xFFFFFFFF

/-- Mask of the leader-class DO of class S. -/
def classS (s : State) : Nat :=
  (List.range 32).foldl (fun m n => if nget s.field.io.doClass n = 0 then m + 2 ^ n else m) 0

/-- The image's safe values of the DO, as half `h` holds them (R440). -/
def imageSafe (s : State) (h : HalfId) : Nat :=
  match (half s h).image with
  | some i => i.outputs.foldl (fun m r => if 32 ≤ r.code ∧ r.safe = 1 then m ||| 2 ^ (r.code - 32) else m) 0
  | none => 0

/-- Leader-class outputs follow the refresh (R443): not in BOOT hold, LOCKOUT or leader-class lockout. -/
def refreshable (s : State) : Bool :=
  !rdB s .a Reg.TRM_CELL_STAT_BOOT_HOLD && !rdB s .a Reg.TRM_CELL_STAT_LOCKOUT && !s.field.io.lclOut

/-- µs since the last accepted refresh (R449). -/
def refreshAge (s : State) : Nat :=
  if s.field.io.refreshAt = 0 then 65535 else min 65535 ((s.ticks + 1 - s.field.io.refreshAt) / 125)

/-- LEADER_REFRESH (R440 to R442): the values are the published Q-area bits, or safe values while the logic is stopped. -/
def execLeaderRefresh (h : HalfId) (s : State) : Host.Outcome State Fault Refusal :=
  if !holds s h then .next (satAdd s .a Reg.DIO_REFRESH_DISCARDED 1)
  else
    let v := if rdB s h Reg.LGE_STAT_RUN then nget (half s h).lge.pub areaQ else imageSafe s h
    let s1 := if refreshable s then setDos s (leaderDos s) v else s
    let late := rd s .a Reg.DIO_DO_TMO_TMO
    let age := refreshAge s
    let s2 := modIo s1 fun x => { x with refreshAt := s.ticks + 1, tmoStopped := false }
    .next (if late = 0 then s2
      else
        let s3 := (List.range 32).foldl (fun s n => wrB s .a (Reg.DIO_DOSTAT_TIMEOUT n) false) (wr s2 .a Reg.DIO_DO_TMO_TMO 0)
        ledgerField s3 0x0C06 (p4s [late, 2, age]))

/-- DO_REFRESH_TIMEOUT (R441, R442): the timers of the masked outputs expire, unless they are stopped. -/
def execDoRefreshTimeout (mask : Nat) (s : State) : Host.Outcome State Fault Refusal :=
  let m := mask % 2 ^ 32 &&& leaderDos s &&& (rd s .a Reg.DIO_DO_TMO_TMO ^^^ 0xFFFFFFFF)
  if s.field.io.tmoStopped || m == 0 || s.field.io.refreshAt == 0 then .next s
  else
    let s1 := if refreshable s then setDos s (m &&& classS s) s.field.io.doSafe else s
    let s2 := (List.range 32).foldl (fun s n => if bit m n then wrB s .a (Reg.DIO_DOSTAT_TIMEOUT n) true else s)
      (wr s1 .a Reg.DIO_DO_TMO_TMO (rd s .a Reg.DIO_DO_TMO_TMO ||| m))
    .next (ledgerField s2 0x0C06 (p4s [m, 1, refreshAge s]))

/-- Close commands switch off (R416): class S with safe value 0. -/
def closeCommandsOff (s : State) : State :=
  setDos s (leaderDos s &&& classS s &&& (s.field.io.doSafe ^^^ 0xFFFFFFFF)) 0

/-- Leader-class outputs take their safe values (R416, R443). -/
def leaderSafe (s : State) : State := setDos s (leaderDos s) s.field.io.doSafe

/-! ### DIO_CMD (R447) -/

/-- Clear OT_LATCHED of DO `n` and its shutdown count. -/
def unlatchDo (s : State) (n : Nat) : State :=
  doBall (wr (if rdB s .a (doFlag 4 n) then doDiag s n 4 false else s) .a (Reg.DIO_DOSTAT_RETRIES n) 0) n

/-- A write of DIO_CMD: 1 UNLATCH, 2 UNLATCH_ALL. -/
def dioCmd (s : State) (h : HalfId) (code index : Nat) : State :=
  let st := fieldStatus s h (code == 1 || code == 2)
  let s1 := holderErr (result s h Reg.DIO_RESULT_SEQ Reg.DIO_RESULT_CMD Reg.DIO_RESULT_STATUS code st) h st
  if st ≠ 0x02 then s1
  else if code = 1 then ledgerField (unlatchDo s1 (index % 32)) 0x0C08 (pAlt 1 (index % 32))
  else ledgerField ((List.range 32).foldl unlatchDo s1) 0x0C08 (pAlt 2 0)

def execUnlatch (h : HalfId) (index : Nat) (s : State) : Host.Outcome State Fault Refusal := .next (access s h (dioCmd s h 1 index))
def execUnlatchAll (h : HalfId) (s : State) : Host.Outcome State Fault Refusal := .next (access s h (dioCmd s h 2 0))

end Sys2Proof.Machine
end

