-- ==== Sys2Proof/Machine/LogicOps.lean ====
section
/-!
DEFINITION. The scheme logic's memory (R454 to R459, R478), stops (R480), the lay-up permit (R469), the live set
and signature (R103, R511), retentive sets (R483, R607) and trace snapshots (R730).
-/

namespace Sys2Proof.Machine

open Sys2Proof (Byte HalfId)

/-! ### The logic memory by word offset (R455) -/

def areaI : Nat := 0
def areaB : Nat := 0x1000
def areaBQ : Nat := 0x1800
def areaT : Nat := 0x4000
def areaC : Nat := 0x8000
def areaExec : Nat := 0x20000
def areaProg : Nat := 0x40000
/-- The image of priority level `l`: I, then B and BQ. -/
def areaImg (l : Nat) : Nat := 0x80000 + 0x2000 * l

/-- A word of a half's logic memory. -/
def lw (s : State) (h : HalfId) (off : Nat) : Nat := nget (half s h).lge.mem off

/-- Is a word retentive: M0 to M4,095, a C record, a T record last scanned by TONR (R483, R485)? -/
def retentive (l : Logic) (off : Nat) : Bool :=
  (decide (0x10000 ≤ off) && decide (off < 0x10080)) || (decide (0x8000 ≤ off) && decide (off < 0x9000))
    || (decide (0x4000 ≤ off) && decide (off < 0x5000) && nget l.tonr ((off - 0x4000) / 4) == 1)

/-- Write a word of logic memory; a changed retentive word awaits its commit (R485). -/
def lput (s : State) (h : HalfId) (off v : Nat) : State :=
  modLge s h fun l => { l with
    mem := nset l.mem off (v % 2 ^ 32)
    retDirty := l.retDirty || (retentive l off && nget l.mem off != v % 2 ^ 32) }

/-- The word of the logic window at a word offset (R455, R456): a program word from the image; reserved offsets read 0. -/
def windowWord (s : State) (h : HalfId) (off : Nat) : Nat :=
  if areaProg ≤ off ∧ off < 0x80000 then
    match (half s h).image with
    | some i => i.program.getD (off - areaProg) 0
    | none => 0
  else lw s h off

/-! ### The image's tasks and program -/

/-- The task records of the running image. -/
def taskRecs (s : State) (h : HalfId) : List TaskRec :=
  match (half s h).image with
  | some i => i.tasks
  | none => []

/-- The record of task `t`. -/
def taskRec (s : State) (h : HalfId) (t : Nat) : Option TaskRec := (taskRecs s h).find? fun r => r.task == t

/-- Instruction count n of the program: the words before the 2,048 presets (R463). -/
def progCount (s : State) (h : HalfId) : Nat :=
  match (half s h).image with
  | some i => i.program.length - 2048
  | none => 0

/-- Preset `k`: timers 0 to 1,023, then counters (R463). -/
def preset (s : State) (h : HalfId) (k : Nat) : Nat :=
  match (half s h).image with
  | some i => i.program.getD (progCount s h + k) 0
  | none => 0

/-- State of task `t`: 0 idle, 1 ready, 2 running, 3 pre-empted. -/
def taskState (s : State) (h : HalfId) (t : Nat) : Nat := nget (half s h).lge.tasks t

/-- The running task. -/
def runningTask (s : State) (h : HalfId) : Option TaskRec := (taskRecs s h).find? fun r => taskState s h r.task == 2

/-! ### Execution state (R478) -/

/-- Word `w` of the execution state of level `l`. -/
def execWord (l w : Nat) : Nat := areaExec + 4 * l + w

def pcOf (s : State) (h : HalfId) (l : Nat) : Nat := bits (lw s h (execWord l 0)) 17 0
def depthOf (s : State) (h : HalfId) (l : Nat) : Nat := bits (lw s h (execWord l 0)) 28 24
def accOf (s : State) (h : HalfId) (l : Nat) : Bool := bit (lw s h (execWord l 0)) 30

def putPc (s : State) (h : HalfId) (l v : Nat) : State := lput s h (execWord l 0) (putField (lw s h (execWord l 0)) 17 0 v)
def putDepth (s : State) (h : HalfId) (l v : Nat) : State := lput s h (execWord l 0) (putField (lw s h (execWord l 0)) 28 24 v)
def putAcc (s : State) (h : HalfId) (l : Nat) (b : Bool) : State := lput s h (execWord l 0) (putBit (lw s h (execWord l 0)) 30 b)

/-! ### Stops (R480) -/

/-- The write of a trace snapshot (R730): 15 slots in ring order; reason 1 stop, 2 command, 3 lay-up. -/
def traceSnapshot (s : State) (h : HalfId) (reason : Nat) : State :=
  let old := match h with | .a => s.store.trcA | .b => s.store.trcB
  let seq := match old.head? with | some x => (x.seq + 1) % 2 ^ 32 | none => 1
  let snap : TraceSnap := { seq := seq, reason := reason, time := now s, bytes := (half s h).trace.buffer.flatten }
  modStore s fun t => match h with
    | .a => { t with trcA := (snap :: t.trcA).take 15 }
    | .b => { t with trcB := (snap :: t.trcB).take 15 }

/-- The logic stops (R480): no instruction executes, the running task is abandoned, and the cause (1 to 6 a fault, 7
RESTART, 8 NO_PROGRAM, 9 MODE), task and instruction index are recorded.  A fault writes LOGIC_STOP. -/
def logicHalt (s : State) (h : HalfId) (cause task pc : Nat) : State :=
  let s1 := wr (wr (wrB s h Reg.LGE_STAT_RUN false) h Reg.LGE_STAT_CAUSE cause) h Reg.LGE_STAT_TASK task
  let s2 := modLge (wr s1 h Reg.LGE_STOP_PC_PC pc) h fun l => { l with tasks := [], live := false, written := [] }
  if cause ≤ 6 then
    let s3 := ledgerH s2 h 0x0D01 (p4s [cause, task, pc, rd s h Reg.LGE_CYCLE_COUNT])
    let s4 := irq (tallySet s3 h 4 1 2 0x0D01) h 4
    if rdB s4 h Reg.TRC_CFG_STORE then traceSnapshot s4 h 1 else s4
  else s2

/-- The logic stops without a fault, at whatever task runs. -/
def logicEnd (s : State) (h : HalfId) (cause : Nat) : State :=
  match runningTask s h with
  | some r => logicHalt s h cause r.task (pcOf s h r.prio)
  | none => logicHalt s h cause 0 0

/-- The logic of a half runs tasks. -/
def logicRuns (s : State) (h : HalfId) : Bool := rdB s h Reg.LGE_STAT_RUN

/-- The lay-up permit (R469, R474, R480): the published bit that the SYSTEM section names. -/
def layupPermit (s : State) (h : HalfId) : Bool :=
  match (half s h).image with
  | some i =>
    let p := i.sys.permit
    logicRuns s h && p != 0xFFFFFFFF && pubBit s h (if p / 2 ^ 19 % 8 = 1 then areaQ else areaM) (p % 65536)
  | none => false

/-! ### The live set (R103, R511) -/

/-- A word that both halves compare: Q, M, P, T, C and the execution state. -/
def inScope (o : Nat) : Bool :=
  (decide (0x800 ≤ o) && decide (o < 0x1000)) || (decide (0x2000 ≤ o) && decide (o < 0x2080))
    || (decide (0x4000 ≤ o) && decide (o < 0x5000)) || (decide (0x8000 ≤ o) && decide (o < 0x9000))
    || (decide (0x10000 ≤ o) && decide (o < 0x10800)) || (decide (0x20000 ≤ o) && decide (o < 0x20040))

/-- The LIVENESS ranges whose condition holds while `on` says which slots are enabled. -/
def liveRanges (i : Image) (on : Nat → Bool) : List LiveRec := i.live.filter fun r => r.cond == 0xFFFF || on r.cond

/-- A word lies in one of the ranges. -/
def coveredBy (rs : List LiveRec) (o : Nat) : Bool := rs.any fun r => decide (r.start ≤ o) && decide (o < r.start + r.count)

/-- The words of a list of ranges that are compared, each once. -/
def rangeWords : List LiveRec → List Nat
  | [] => []
  | r :: t => (((List.range r.count).map fun k => r.start + k).filter fun o => inScope o && !coveredBy t o) ++ rangeWords t

/-- The live words of a half under setting group `g` (R103). -/
def liveWords (s : State) (h : HalfId) (g : Nat) : List Nat :=
  match (half s h).image with
  | some i => rangeWords (liveRanges i fun k => bit (nget (groupOf s h g).words (k * 16)) 31)
  | none => []

/-- Is a word live now? -/
def isLive (s : State) (h : HalfId) (o : Nat) : Bool :=
  match (half s h).image with
  | some i => coveredBy (liveRanges i fun k => slotOn s h k) o
  | none => false

/-- The live signature (R511): XOR of the CRC-32 of offset and value of every live word that is not pending-copy. -/
def liveSig (s : State) (h : HalfId) : Nat :=
  (liveWords s h (activeGroup s h)).foldl (fun x o =>
    if (half s h).lge.copyPend.contains o then x else x ^^^ crc32 (le 4 o ++ le 4 (lw s h o))) 0

/-- Word `k` of the comparison scope, as the sweep goes through it (R512). -/
def scopeWord (k : Nat) : Nat :=
  if k < 2048 then 0x800 + k
  else if k < 2176 then 0x2000 + (k - 2048)
  else if k < 6272 then 0x4000 + (k - 2176)
  else if k < 10368 then 0x8000 + (k - 6272)
  else if k < 12416 then 0x10000 + (k - 10368)
  else 0x20000 + (k - 12416)

def scopeSize : Nat := 12480

/-! ### Retentive sets (R483, R485, R607) -/

/-- The retentive set of a half as it stands. -/
def retSet (s : State) (h : HalfId) (seq : Nat) : RetUnit :=
  let l := (half s h).lge
  let part := fun (lo hi : Nat) => (l.mem.filter fun e => decide (lo ≤ e.1) && decide (e.1 < hi)).map fun e => (e.1 - lo, e.2)
  { unitSeq := seq, hash := (match (half s h).image with | some i => i.hash | none => [])
    bitsM := part 0x10000 0x10080, recsC := part 0x8000 0x9000
    recsT := (part 0x4000 0x5000).filter fun e => nget l.tonr (e.1 / 4) == 1 }

/-- The commit sequence number of the newest set of a half; 0 where it has none. -/
def retSeq (s : State) (h : HalfId) : Nat := match (retUnits s h).head? with | some u => u.unitSeq | none => 0

/-- The sets that a warm start may load (R483): those stamped with the hash of the running image. -/
def warmSets (s : State) (h : HalfId) : List RetUnit :=
  let mine := match (half s h).image with | some i => i.hash | none => []
  (retUnits s .a ++ retUnits s .b).filter fun u => u.hash == mine

/-- The set with the higher commit sequence number. -/
def newestSet : List RetUnit → Option RetUnit
  | [] => none
  | u :: t => match newestSet t with
    | some v => if v.unitSeq ≤ u.unitSeq then some u else some v
    | none => some u

/-- Logic memory with every area and record zero and the presets loaded (R484). -/
def coldMemory (s : State) (h : HalfId) : List (Nat × Nat) :=
  let t := (List.range 1024).foldl (fun m k => nset m (areaT + 4 * k + 1) (preset s h k)) []
  (List.range 1024).foldl (fun m k => nset m (areaC + 4 * k + 1) (preset s h (1024 + k) % 65536)) t

/-- Put a retentive set over the cold memory: SCANNED is 0, PT and PV are the presets (R483). -/
def warmMemory (m : List (Nat × Nat)) (u : RetUnit) : List (Nat × Nat) :=
  let m1 := u.bitsM.foldl (fun m e => nset m (0x10000 + e.1) e.2) m
  let m2 := u.recsC.foldl (fun m e => if e.1 % 4 = 1 then m else nset m (areaC + e.1) e.2) m1
  u.recsT.foldl (fun m e =>
    if e.1 % 4 = 1 then m else nset m (areaT + e.1) (if e.1 % 4 = 0 then putBit e.2 29 false else e.2)) m2

/-- Logic as a start leaves it (R482 to R484): I stays, everything else is loaded; `warm` is the set to restore. -/
def logicLoad (s : State) (h : HalfId) (warm : Option RetUnit) : State :=
  let m0 := coldMemory s h
  let m := match warm with | some u => warmMemory m0 u | none => m0
  let keep := (half s h).lge.mem.filter fun e => decide (e.1 < 0x800) || (decide (0x1000 ≤ e.1) && decide (e.1 < 0x2000))
  let tonr := match warm with | some u => u.recsT.foldl (fun t e => nset t (e.1 / 4) 1) [] | none => []
  let s1 := modLge s h fun l => { l with
    mem := keep ++ m, next := [], written := [], tasks := [], relCycle := [], relTick := [], firstDone := []
    signal := [], missed := [], imgs := [], tonr := tonr, retDirty := false, copyPend := [], copySent := []
    sigs := [], got := 0, images := [], ends := 0, sweep := 0, sweepMsg := none }
  wrB s1 h Reg.LGE_STAT_WARM warm.isSome

/-- Load the logic warm where some set qualifies, else cold with RET_INVALID (R80, R483): reason 1 missing,
2 incomplete, 3 other hash. -/
def warmLoad (s : State) (h : HalfId) : State :=
  match newestSet (warmSets s h) with
  | some u => logicLoad s h (some u)
  | none =>
    let why := if (retUnits s .a).isEmpty ∧ (retUnits s .b).isEmpty then 1 else 3
    ledgerH (logicLoad s h none) h 0x0D03 (p4s [retSeq s .a, retSeq s .b, why])

end Sys2Proof.Machine
end

