-- ==== Sys2Proof/Machine/ModeOps.lean ====
section
/-!
DEFINITION. What a change of mode does in one half (R62 to R71, R91), results and refusals of mode and setting
commands, abandoned changes (R64, R117), and the trigger of the LAYUP exit (R83).
-/

namespace Sys2Proof.Machine

open Sys2Proof (Byte HalfId)

/-! ### Results (R89, R95) -/

/-- Report a mode command or an automatic transition (command 0) in SYS_MODE_RESULT. -/
def modeResult (s : State) (h : HalfId) (c st : Nat) : State :=
  result s h Reg.SYS_MODE_RESULT_SEQ Reg.SYS_MODE_RESULT_CMD Reg.SYS_MODE_RESULT_STATUS c st

/-- The status of the command reported last changes. -/
def modeStatus (s : State) (h : HalfId) (st : Nat) : State := wr s h Reg.SYS_MODE_RESULT_STATUS st

/-- A refused mode command: its status, and MODE_CMD_REFUSED. -/
def modeRefuse (s : State) (h : HalfId) (c st : Nat) : State :=
  ledgerH (modeResult s h c st) h 0x0202 (p4s [c, st])

/-- The partner takes part in handshakes: there is one, and Tally reports it neither failed nor absent (R62, R115). -/
def partnerIn (s : State) (h : HalfId) : Bool :=
  twoHalves s && rd s h (tlySub 10) != 2 && rd s h (tlySub 10) != 3

/-- Does half `h` write the module's records: the leader does, and each running half where none leads? -/
def speaks (s : State) (h : HalfId) : Bool := match leader s with | some l => l == h | none => true

/-! ### Pending changes (R64, R117) -/

/-- Put a change into a half (R62): PEND and TARGET show it. -/
def setPend (s : State) (h : HalfId) (p : PendMode) : State :=
  wr (wrB (modMode s h fun m => { m with pend := some p }) h Reg.SYS_MODE_PEND true) h Reg.SYS_MODE_TARGET p.target

/-- Remove it. -/
def clearPend (s : State) (h : HalfId) : State :=
  wr (wrB (modMode s h fun m => { m with pend := none }) h Reg.SYS_MODE_PEND false) h Reg.SYS_MODE_TARGET 0

/-- A change waits in half `h`. -/
def pendIn (s : State) (h : HalfId) : Bool := (half s h).mode.pend.isSome

/-- Abandon the pending change of both halves; each reports ABORTED (R64). -/
def pendAbort (s : State) : State :=
  (halves s).foldl (fun s h => match (half s h).mode.pend with
    | some p =>
      if p.cmd = 0x100 then wr (clearPend s h) h Reg.IMG_STAT_CMD_STATUS 0x19
      else modeStatus (clearPend s h) h 0x19
    | none => s) s

/-- End a schedule entry with a status: STATE 10 executed, 11 ended unexecuted (R665). -/
def schedEnd (s : State) (h : HalfId) (e state st : Nat) : State :=
  let s1 := wr (wr s h (Reg.TIME_SCH_STAT_STATE e) state) h (Reg.TIME_SCH_STAT_STATUS e) st
  wrB s1 h (Reg.TIME_SCH_CFG_ARM e) false

/-- The staging or switch of a half ends with a status (R113, R114, R653). -/
def setEnd (s : State) (h : HalfId) (st : Nat) : State :=
  match (half s h).mode.pendSet with
  | none => s
  | some p =>
    let s1 := wr (wrB (modMode s h fun m => { m with pendSet := none, crcReply := none, failReply := none }) h
      Reg.SET_ACTIVE_PEND false) h Reg.SET_ACTIVE_TARGET 0
    let s2 := wr s1 h Reg.SET_RESULT_STATUS st
    match p.entry with
    | some e => schedEnd s2 h e 2 st
    | none => s2

/-- Abandon stagings and switches of both halves with ABORTED; a switch writes SET_SWITCH_ABORTED (R117). -/
def setAbort (s : State) : State :=
  (halves s).foldl (fun s h => match (half s h).mode.pendSet with
    | some p =>
      let s1 := setEnd s h 0x19
      if p.switch && speaks s h then ledgerH s1 h 0x0306 (p4s [p.group, 0x19]) else s1
    | none => s) s

/-! ### Leaving TEST and COMMISSION (R70, R252) -/

/-- Every general function that received a SUBSTITUTED sample returns to its dropout state (R70). -/
def dropSubst (s : State) (h : HalfId) : State :=
  match (half s h).image with
  | some i => i.general.foldl (fun s r =>
      let x := genFn s h r.slot
      if x.subst then genPut s h r.slot { genDrop x with subst := false } else s) s
  | none => s

/-- TEST ends in a half: the masks go, the test time is 0, a running injection ends (R70, R93, R249). -/
def leaveTest (s : State) (h : HalfId) : State :=
  let s1 := dropSubst (injEnd s h 3) h
  wr (modMode s1 h fun m => { m with maskFto := 0, maskDo := 0 }) h Reg.SYS_TEST_TIME_REMAIN 0

/-! ### Blocks (R91) -/

/-- Mask of the trip-class DO. -/
def tripDos (s : State) : Nat := rd s .a Reg.TRM_CLASS_DO_TRIP

/-- The blocks that entry to mode `m` sets: all in COMMISSION, none in SERVICE; other entries leave them. -/
def putBlocks (s : State) (h : HalfId) (m : Nat) : State :=
  if m = mCOMMISSION then
    wrB (wr (wr s h Reg.SYS_BLOCK_FTO_BLOCK 0xFFFF) h Reg.SYS_BLOCK_DO_BLOCK (tripDos s)) h Reg.SYS_MODE_C0_BLOCK true
  else if m = mSERVICE then
    wrB (wr (wr s h Reg.SYS_BLOCK_FTO_BLOCK 0) h Reg.SYS_BLOCK_DO_BLOCK 0) h Reg.SYS_MODE_C0_BLOCK false
  else s

/-! ### LAYUP in one half (R81, R83, R253, R563) -/

/-- The response in force of a preset chain, its restart, and FLT_SWITCH with origin LAYUP. -/
def layupResp (s : State) (h : HalfId) (r : ChainRec) (resp : Nat) : State :=
  let old := respNow s h r.chain
  let s1 := if r.resp < 4 ∧ old ≠ resp then
      ledgerH (putResp s h r.chain resp) h 0x0601 (p4s [r.chain, old, resp, 2])
    else s
  restartChain s1 h r.chain

/-- LAYUP entry: the chains on subset channels switch to METERING (R253). -/
def layupChains (s : State) (h : HalfId) : State :=
  match (half s h).image with
  | some i => i.chains.foldl (fun s r => if inSubset s h r.src then layupResp s h r 3 else s) s
  | none => s

/-- LAYUP exit: every chain is back at its image response (R83, R250). -/
def wakeChains (s : State) (h : HalfId) : State :=
  match (half s h).image with
  | some i => i.chains.foldl (fun s r => layupResp s h r r.resp) s
  | none => s

/-- Every area leaves its state under R544, and those that `p` selects arm again (R563). -/
def rearmAreas (s : State) (h : HalfId) (leave arm : AreaRec → Bool) : State :=
  let s1 := (definedAreas s h).foldl (fun s a => match areaRec s h a with
    | some ar => if leave ar then stopArea s h a 2 fTRUNCATED else s
    | none => s) s
  armAll s1 h arm

/-- The LAYUP flag of an area. -/
def layupArea (ar : AreaRec) : Bool := bit ar.flags 1

/-! ### The change itself -/

/-- Debug access locks again on entry to SERVICE, LAYUP or LOCKOUT (R731). -/
def debugRelock (s : State) (h : HalfId) : State :=
  if rdB s h Reg.SEC_STAT_DEBUG then ledgerH (wrB s h Reg.SEC_STAT_DEBUG false) h 0x1406 (p4s [2, (half s h).mgmt.expiry]) else s

/-- The logic stops with cause MODE where a mode in which it runs is left for BOOT or LOCKOUT (R477). -/
def modeLogic (s : State) (h : HalfId) (m : Nat) : State :=
  if (m = mBOOT ∨ m = mLOCKOUT) ∧ logicRuns s h = true then logicEnd s h 9 else s

/-- An idle-gated management core runs again (R729). -/
def coreWake (s : State) (h : HalfId) : State :=
  if rd s h Reg.ETH_CORE_STATE = 2 then wr (traceGap s h false 14 0) h Reg.ETH_CORE_STATE 0 else s

/-- Half `h` takes mode `m` (R60 to R71): `by_` is the command, or the cause, of MODE_CHANGE. -/
def setMode (s : State) (h : HalfId) (m : Nat) (by_ : List Byte) : State :=
  let old := modeOf s h
  if old = m then s
  else
    let rec_ := speaks s h
    let s0 := testAbort s h 2
    let s1 := if old = mTEST then leaveTest s0 h else if old = mLAYUP then coreWake s0 h else s0
    let s2 := if old = mCOMMISSION ∨ old = mTEST then revertChains s1 h old else s1
    let s3 := irq (putBlocks (wr (modeLogic s2 h m) h Reg.SYS_MODE_MODE m) h m) h 1
    let s4 := if m = mLAYUP then
        rearmAreas (layupChains (modMode s3 h fun x => { x with layupSince := s.ticks + 1, layupExit := 0 }) h) h
          (fun _ => true) layupArea
      else s3
    let s5 := if m = mSERVICE ∨ m = mLAYUP ∨ m = mLOCKOUT then debugRelock s4 h else s4
    let s6 := suspendUpdate s5 h
    let s7 := if rec_ then ledgerH s6 h 0x0201 (p4s [old, m] ++ by_) else s6
    if m = mBOOT then signalVote s7 h else edgeTriggers (decideOut s7 h) h

/-- The fields of MODE_CHANGE: a command, or a cause. -/
def byCmd (c : Nat) : List Byte := pAlt 1 c
def byCause (c : Nat) : List Byte := pAlt 2 c

/-! ### LAYUP exit (R83) -/

/-- Exit is triggered in the leader: 1 the command, 2 LAYUP_REQ, 3 the permit, which writes LAYUP_PERMIT_LOST. -/
def layupTrigger (s : State) (h : HalfId) (why : Nat) : State :=
  let m := (half s h).mode
  if modeOf s h ≠ mLAYUP ∨ 2 ≤ m.layupExit then s
  else
    let s1 := modMode s h fun x => { x with layupExit := if x.layupExit = 1 then 2 else 3 }
    let s2 := wr (wrB s1 h Reg.SYS_MODE_PEND true) h Reg.SYS_MODE_TARGET mSERVICE
    let s3 := if why = 1 then s2 else modeResult s2 h 0 0x01
    if why = 3 then ledgerH s3 h 0x0209 (p4 ((s.ticks + 1 - m.layupSince) / 125000)) else s3

/-- A subsystem code of PARTNER (10) changes; the injection tests' suspension follows (R150).  Causes: 1 absent,
2 hash or boot failure, 3 lost, 4 cross-link down, 5 R84. -/
def tallyPartner (s : State) (h : HalfId) (cause code ev : Nat) : State := suspendUpdate (tallySet s h 10 cause code ev) h

/-- LAYUP exit ends (R83 steps 3 and 4, R84): redundancy is restored or the standby has failed, and the leader `l`
enters SERVICE; a PK9620 has no redundancy to restore. -/
def layupDone (s : State) (l : HalfId) (failed : Bool) : State :=
  let by_ := if rd s l Reg.SYS_MODE_RESULT_CMD = 6 then byCmd 6 else byCause 0
  let s0 := if twoHalves s then ledgerH s l 0x0207 (pAlt (if failed then 2 else 1) (halfNo (other l))) else s
  let s1 := modeStatus s0 l 0x02
  let s2 := modMode (wr (wrB s1 l Reg.SYS_MODE_PEND false) l Reg.SYS_MODE_TARGET 0) l fun x => { x with layupExit := 0 }
  let s3 := setMode s2 l mSERVICE by_
  if !twoHalves s then s3
  else if failed then tallyPartner s3 l 5 2 0x0207
  else setMode (votePresent s3 (other l)) (other l) mSERVICE by_

/-- LAYUP exit has been triggered in half `l` and waits for its standby. -/
def layupWaits (s : State) (l : HalfId) : Bool := modeOf s l == mLAYUP && decide (2 ≤ (half s l).mode.layupExit)

/-- Lockstep resumes (R513 step 5): both halves read 01; at LAYUP exit this is step 3 of R83. -/
def lockstepResume (s : State) : State :=
  let s1 := wr (wr s .a Reg.GAV_LS_STAT_STATE 1) .b Reg.GAV_LS_STAT_STATE 1
  match leader s with
  | some l => if layupWaits s l then layupDone s1 l false else s1
  | none => s1

/-- The exit begins when the permit has become false in LAYUP (R83). -/
def permitCheck (s : State) (h : HalfId) : State :=
  if modeOf s h = mLAYUP ∧ acts s h = true ∧ layupPermit s h = false then layupTrigger s h 3 else s

end Sys2Proof.Machine
end

