-- ==== Sys2Proof/Machine/Logic.lean ====
section
/-!
DEFINITION. The scheme logic engine (chapter 13): the Arcade cycle boundary, releases and dispatch, the start of
the logic, its instructions, and the task registers.
-/

namespace Sys2Proof.Machine

open Sys2Proof (Byte HalfId)

/-! ### The input image (R457, R458) -/

/-- The state of DI0 to DI63 as half `h` may see it: a change waits 10 µs, 1,250 ticks (R431). -/
def diView (s : State) (h : HalfId) (n : Nat) : Bool :=
  match s.field.io.diWait.find? fun e => e.1 == n && bit e.2.1 (halfNo h) && decide (s.ticks < e.2.2.1 + 1250) with
  | some e => !e.2.2.2.2.2
  | none => rdB s .a (Reg.DIO_DISTAT_STATE n)

/-- VALID of an input as the images see it: a change younger than 10 µs does not show yet (R431). -/
def diValidView (s : State) (n : Nat) : Bool :=
  let at_ := nget s.field.io.invAt n
  if at_ ≠ 0 ∧ s.ticks + 1 < at_ + 1250 then !diValid s n else diValid s n

/-- The word that 32 flags make, flag 0 least significant. -/
def flagWord (f : Nat → Bool) : Nat := (List.range 32).foldl (fun w i => if f i then w + 2 ^ i else w) 0

/-- Half `h` and its partner are in lockstep (R457 bit 1,072): the partner is present. -/
def inLockstep (s : State) (h : HalfId) : Bool := partnerIn s h && rd s h Reg.GAV_LS_STAT_STATE == 1

/-- Words 0 to 33 of the I area (R457); FIRST is each task's own. -/
def inputWord (s : State) (h : HalfId) (w : Nat) : Nat :=
  let fOp := rd s h Reg.FST_OP_LO_OP + 2 ^ 32 * rd s h Reg.FST_OP_HI_OP
  let fPu := rd s h Reg.FST_PU_LO_PU + 2 ^ 32 * rd s h Reg.FST_PU_HI_PU
  let fVal := fun k => fastOutValid s h k
  if w < 2 then flagWord fun i => diView s h (32 * w + i)
  else if w < 4 then flagWord fun i => diValidView s (32 * (w - 2) + i)
  else if w < 10 then rd s h (Reg.FAB_OP_OP (w - 4))
  else if w < 16 then rd s h (Reg.FAB_PU_PU (w - 10))
  else if w < 22 then 2 ^ 32 - 1 - rd s h (Reg.FAB_INV_INV (w - 16))
  else if w = 22 then fOp % 2 ^ 32
  else if w = 23 then fOp / 2 ^ 32 % 65536 + fPu % 65536 * 65536
  else if w = 24 then fPu / 65536 % 2 ^ 32
  else if w = 25 then flagWord fVal
  else if w = 26 then flagWord (fun i => decide (i < 16) && fVal (32 + i)) + 65536 * (rd s h Reg.ARC_ELEM_OP % 65536)
  else if w = 27 then flagWord fun i => if i < 16 then (arcElem s h i).pu else !rdBit s h Reg.ARC_ELEM_INV (i - 16)
  else if w = 28 then rd s h Reg.TRM_GRP_LO_ACT
  else if w = 29 then rd s h Reg.TRM_GRP_HI_ACT
  else if w = 30 then rd s h Reg.FST_FTI_STATE % 65536 + 65536 * (rd s .a Reg.TRM_FTO_OUT_NOW % 65536)
  else if w = 31 then rd s .a Reg.DIO_DO_VAL_VAL
  else if w = 32 then rd s .a Reg.DIO_DO_FAULT_FAULT
  else if w = 33 then flagWord fun i =>
    if i < 4 then rdB s .a (Reg.TRM_TCS_STAT_FAIL i)
    else if i < 8 then false
    else if i < 16 then groupGood s (i - 8)
    else if i = 16 then inLockstep s h
    else if i < 21 then modeOf s h == i - 16
    else if i = 21 then synced s
    else i == 23 && rdB s h Reg.LGE_STAT_WARM
  else 0

/-- Word `w` of B (`use` false) or BQ (`use` true): value and usability of the subscribed points (R458). -/
def pointImage (s : State) (h : HalfId) (use : Bool) (w : Nat) : Nat :=
  let n := (ardCfg s h).subs.length
  flagWord fun i =>
    let k := 32 * w + i
    let q := pointWord (pointState s h k)
    decide (k < n) && bit q 7 && !bit q 1 && (use || decide (q / 256 ≠ 0))

/-- Latch I, B and BQ at a boundary (R471 step 3). -/
def latchImage (s : State) (h : HalfId) : State :=
  let nb := ceilDiv (ardCfg s h).subs.length 32
  let put := fun (m : List (Nat × Nat)) (off n : Nat) (f : Nat → Nat) => (List.range n).foldl (fun m w => nset m (off + w) (f w)) m
  let m := (half s h).lge.mem
  let m1 := put (put (put m areaI 34 (inputWord s h)) areaB nb (pointImage s h false)) areaBQ nb (pointImage s h true)
  modLge s h fun l => { l with mem := m1 }

/-- The image that a task released now reads (R474): the latched words, with its own FIRST (R457). -/
def releaseImage (m : List (Nat × Nat)) (first : Bool) : List (Nat × Nat) :=
  let base := (m.filter fun e => decide (e.1 < 0x800) || (decide (0x1000 ≤ e.1) && decide (e.1 < 0x2000))).map fun e =>
    (if e.1 < 0x800 then e.1 else e.1 - 0x800, e.2)
  nset base 33 (putBit (nget base 33) 22 first)

/-! ### Releases and dispatch (R469 to R474) -/

/-- Release task `r` at the boundary of cycle `c` (R470, R493, R494). -/
def releaseAt (s : State) (h : HalfId) (c : Nat) (r : TaskRec) : State :=
  let t := r.task
  let s1 := modLge s h fun l => { l with
    tasks := nset l.tasks t 1, relCycle := nset l.relCycle t c, relTick := nset l.relTick t s.ticks
    imgs := sset (fun _ => []) l.imgs t (releaseImage l.mem (nget l.firstDone t == 0)), firstDone := nset l.firstDone t 1 }
  trace (count (satAdd s1 h (Reg.LGE_TRELS_RELEASES t) 1) h (0x20C + t)) h 0 0x02 (le 1 t ++ le 4 c)

/-- Release task `r` at this boundary. -/
def releaseTask (s : State) (h : HalfId) (r : TaskRec) : State := releaseAt s h (rd s h Reg.LGE_CYCLE_COUNT) r

/-- A release of event task `t` is lost (R473): MISSED, and EVENT_MISSED at most once per second. -/
def missRelease (s : State) (h : HalfId) (t : Nat) : State :=
  let s1 := satAdd s h (Reg.LGE_TRELS_MISSED t) 1
  let e := sget (fun _ => (0, 0)) (half s1 h).lge.missed t
  if e.1 = 0 ∨ e.1 + 125000000 ≤ s.ticks + 1 then
    ledger (modLge s1 h fun l => { l with missed := sset (fun _ => (0, 0)) l.missed t (s.ticks + 1, 0) }) h (0x700 + t) 0x0D02
      (p4s [t, e.2 + 1])
  else modLge s1 h fun l => { l with missed := sset (fun _ => (0, 0)) l.missed t (e.1, e.2 + 1) }

/-- Value of the releasing signal of an event task (R469, R473). -/
def signalNow (s : State) (h : HalfId) (arg : Nat) : Bool :=
  let a := arg / 2 ^ 19 % 8
  let n := arg % 65536
  bit (lw s h ((if a = 0 then areaI else if a = 2 then areaM else areaB) + n / 32)) (n % 32)

/-- Does a change of a signal release: edge 1 rising, 2 falling, 3 both? -/
def edgeHit (edge : Nat) (was now_ : Bool) : Bool := (bit edge 0 && now_ && !was) || (bit edge 1 && was && !now_)

/-- Start a ready task at its level (R462, R474, R478): ACC 0, empty stack, its image in the level's task image. -/
def startTask (s : State) (h : HalfId) (r : TaskRec) : State :=
  let l := r.prio
  let img := sget (fun _ => []) (half s h).lge.imgs r.task
  let s1 := modLge s h fun g => { g with
    mem := img.foldl (fun m e => nset m (areaImg l + e.1) e.2)
      (serase (fun k => decide (areaImg l ≤ k) && decide (k < areaImg (l + 1))) g.mem)
    written := serase (fun k => k / 2 ^ 20 == l) g.written }
  let s2 := lput s1 h (execWord l 0) (r.entry % 2 ^ 18 + 2 ^ 31)
  lput (lput (lput s2 h (execWord l 1) 0) h (execWord l 2) 0) h (execWord l 3) r.task

/-- Does task `a` come before task `b` (R470): the higher priority; at one level the started task, then the lower number? -/
def goesFirst (s : State) (h : HalfId) (a b : TaskRec) : Bool :=
  a.prio < b.prio || (a.prio == b.prio &&
    (let started := fun t => 2 ≤ taskState s h t
     (started a.task && !started b.task) || (started a.task == started b.task && decide (a.task < b.task))))

/-- The task that should run: the first among those ready, running or pre-empted. -/
def nextTask (s : State) (h : HalfId) : Option TaskRec :=
  (taskRecs s h).foldl (fun b r =>
    if taskState s h r.task = 0 then b
    else match b with
      | none => some r
      | some q => if goesFirst s h r q then some r else b) none

/-- Dispatch (R470, R471 step 5): the first task runs; a running task of lower priority is pre-empted. -/
def dispatch (s : State) (h : HalfId) : State :=
  match nextTask s h with
  | none => s
  | some r =>
    if taskState s h r.task = 2 then s
    else
      let s1 := match runningTask s h with
        | some q => modLge s h fun l => { l with tasks := nset l.tasks q.task 3 }
        | none => s
      let s2 := if taskState s1 h r.task = 1 then startTask s1 h r else s1
      modLge s2 h fun l => { l with tasks := nset l.tasks r.task 2 }

/-- A cyclic task is due at cycle `c` (R472). -/
def cyclicDue (s : State) (h : HalfId) (c : Nat) (r : TaskRec) : Bool :=
  r.kind == 0 && (c + 2 ^ 32 - (half s h).lge.s0) % 2 ^ 32 % max 1 r.arg == 0

/-- Releases of a boundary (R471 step 4): the cyclic tasks due, and the event tasks whose edge is seen. -/
def boundaryReleases (s : State) (h : HalfId) : State :=
  let c := rd s h Reg.LGE_CYCLE_COUNT
  (taskRecs s h).foldl (fun s r =>
    if r.kind = 0 then (if cyclicDue s h c r then releaseTask s h r else s)
    else
      let v := signalNow s h r.arg
      let was := nget (half s h).lge.signal r.task == 1
      let s1 := modLge s h fun l => { l with signal := nset l.signal r.task (b2n v) }
      if edgeHit (r.arg / 2 ^ 30) was v then
        (if taskState s1 h r.task = 0 then releaseTask s1 h r else missRelease s1 h r.task)
      else s1) s

/-! ### Publication (R474, R688) -/

/-- The published image takes what ended tasks wrote; logic publications, the matrices and the permit follow. -/
def publishLogic (s : State) (h : HalfId) : State :=
  let l := (half s h).lge
  if l.pub == l.next then s
  else
    let s1 := modLge s h fun l => { l with pub := l.next }
    permitCheck (edgeTriggers (decideOut (publishChanges s1 h pubLogic) h) h) h

/-- The safe image of Q at a start (R482): leader-class DO with safe value 1. -/
def safeQ (s : State) (h : HalfId) : Nat :=
  match (half s h).image with
  | some i => i.outputs.foldl (fun m r =>
      if 32 ≤ r.code ∧ r.cls ≠ 2 ∧ r.safe = 1 then m ||| 2 ^ (r.code - 32) else m) 0 % 2 ^ 32
  | none => 0

/-- The half's own scheduler runs its logic: the acting leader's, where there is a partner (R509, R518). -/
def ownsLogic (s : State) (h : HalfId) : Bool := (half s h).lge.own

/-- The start boundary S0 (R80, R482 to R484): the state is loaded, its image published, and tasks may release. -/
def logicStart (s : State) (h : HalfId) : State :=
  let kind := (half s h).lge.restart
  let s1 := if kind = 1 then warmLoad s h else logicLoad s h none
  let s2 := lput s1 h areaQ (safeQ s h)
  let c := rd s h Reg.LGE_CYCLE_COUNT
  let img := fun (m : List (Nat × Nat)) => m.filter fun e =>
    (decide (areaQ ≤ e.1) && decide (e.1 < areaQ + 0x800)) || (decide (areaP ≤ e.1) && decide (e.1 < areaP + 0x80))
      || (decide (areaM ≤ e.1) && decide (e.1 < areaM + 0x800))
  let s3 := modLge s2 h fun l => { l with next := img l.mem, restart := 0, s0 := c, live := true, retDirty := false }
  let s4 := tallySet (wrB s3 h Reg.LGE_STAT_RUN true) h 4 1 0 0x0D01
  let both := twoHalves s && partnerIn s h && (half s (other h)).lge.live
  if both then wr (wr s4 .a Reg.GAV_LS_STAT_STATE 1) .b Reg.GAV_LS_STAT_STATE 1 else s4

/-- Releases at S0 (R472, R473): every cyclic task; the signals of event tasks are only recorded. -/
def startReleases (s : State) (h : HalfId) : State :=
  (taskRecs s h).foldl (fun s r =>
    if r.kind = 0 then releaseTask s h r
    else modLge s h fun l => { l with signal := nset l.signal r.task (b2n (signalNow s h r.arg)) }) s

/-- An overrun at cycle `c` (R479): a cyclic task due again that has not ended. -/
def overrunning (s : State) (h : HalfId) (c : Nat) : Option TaskRec :=
  (taskRecs s h).find? fun r => cyclicDue s h c r && taskState s h r.task != 0

/-- The next instruction of a task that stops: its entry where it never started. -/
def stopPc (s : State) (h : HalfId) (r : TaskRec) : Nat :=
  if taskState s h r.task = 1 then r.entry else pcOf s h r.prio

/-- Stop for a task that overran, with its trace packet (R479, R728). -/
def overrunStop (s : State) (h : HalfId) (cause : Nat) (r : TaskRec) : State :=
  logicHalt (trace s h 1 0x04 (le 1 r.task ++ le 1 cause)) h cause r.task (stopPc s h r)

/-- Changes of digital inputs at least 10 µs old enter the event queues of a half (R431). -/
def drainDi (s : State) (h : HalfId) : State :=
  let mine := fun (e : Nat × Nat × Nat × Nat × Nat × Bool) => bit e.2.1 (halfNo h) && decide (e.2.2.1 + 1250 ≤ s.ticks)
  let s1 := (s.field.io.diWait.filter mine).foldl (fun s e =>
    qPush s h 0 { source := 0x100 + e.1, event := 0, evSeq := e.2.2.2.2.1, ns := nsOf e.2.2.2.1, sec := secOf e.2.2.2.1
                  payload := p4s [e.1, b2n e.2.2.2.2.2], qseq := 0 }) s
  let left := (s1.field.io.diWait.map fun e => if mine e then (e.1, putBit e.2.1 (halfNo h) false, e.2.2) else e).filter fun e =>
    bit e.2.1 (halfNo h) || (bit e.2.1 (halfNo (other h)) && running s (other h))
  modIo s1 fun x => { x with diWait := left }

/-- Words of I, B and BQ as latched. -/
def latchedWords (s : State) (h : HalfId) : List (Nat × Nat) :=
  (half s h).lge.mem.filter fun e => decide (e.1 < 0x800) || (decide (0x1000 ≤ e.1) && decide (e.1 < 0x2000))

/-- The leader sends LS_IMAGE (R509) while a partner replays it: latched words and tasks released at this boundary. -/
def sendImage (s : State) (h : HalfId) : State :=
  if rd s h Reg.GAV_LS_STAT_STATE = 0 then s
  else
    let c := rd s h Reg.LGE_CYCLE_COUNT
    let new := (taskRecs s h).filter fun r =>
      taskState s h r.task != 0 && nget (half s h).lge.relCycle r.task == c && nget (half s h).lge.relTick r.task == s.ticks
    modLge s h fun l => { l with images := l.images ++ [(c, latchedWords s h, new.map fun r => r.task)] }

/-- The boundary in a half that runs its own scheduler (R471). -/
def boundaryOwn (s : State) (h : HalfId) : State :=
  let c := rd s h Reg.LGE_CYCLE_COUNT
  let l := (half s h).lge
  let ready := l.restart ≠ 0 ∧ decide (l.startAt ≤ c) = true ∧ progCount s h ≠ 0
  if ready then
    let s1 := latchImage (publishLogic (logicStart s h) h) h
    sendImage (dispatch (startReleases s1 h) h) h
  else if !logicRuns s h then latchImage s h
  else match overrunning s h c with
    | some r => overrunStop s h 1 r
    | none => sendImage (dispatch (boundaryReleases (latchImage (publishLogic s h) h) h) h) h

/-- The boundary in a half that replays its leader (R509): only its start is its own; the images come by LS_IMAGE. -/
def boundaryShadow (s : State) (h : HalfId) : State :=
  let l := (half s h).lge
  if l.restart ≠ 0 ∧ decide (l.startAt ≤ rd s h Reg.LGE_CYCLE_COUNT) = true ∧ progCount s h ≠ 0 then logicStart s h else s

/-- ARCADE_CYCLE_BOUNDARY (R464, R471). -/
def execArcadeCycleBoundary (h : HalfId) (s : State) : Host.Outcome State Fault Refusal :=
  if !present s h || !(half s h).mode.powered || (half s h).mode.inReset then .next s
  else
    let s1 := wrapInc s h Reg.LGE_CYCLE_COUNT
    .next (if !running s1 h then s1
      else drainDi (if ownsLogic s1 h then boundaryOwn s1 h else boundaryShadow s1 h) h)

/-- EVENT_TASK_LIMIT (R479): task `t` has not ended 400 boundaries after its release. -/
def execEventTaskLimit (h : HalfId) (t : Nat) (s : State) : Host.Outcome State Fault Refusal :=
  match taskRec s h t with
  | some r =>
    let age := (rd s h Reg.LGE_CYCLE_COUNT + 2 ^ 32 - nget (half s h).lge.relCycle t) % 2 ^ 32
    .next (if logicRuns s h && r.kind == 1 && taskState s h t != 0 && decide (400 ≤ age) then overrunStop s h 2 r else s)
  | none => .next s

/-! ### Lockstep mismatch (R513 step 1) -/

/-- Half `h` starts its lockstep self-test (R513): STATE 11, no result yet, nothing left to compare. -/
def selfTest (s : State) (h : HalfId) : State :=
  let x := half s h
  let s1 := setHalf s h { x with gav := { x.gav with ownTest := 0, partnerTest := 0 } }
  modLge (satAdd (wr s1 h Reg.GAV_LS_STAT_STATE 3) h Reg.GAV_LS_CNT_MISMATCH 1) h fun l => { l with sigs := [], got := 0 }

/-- A live mismatch, a stop of the standby alone, or its logic memory's error: the standby `h` goes to self-test,
sends MISMATCH and writes LOCKSTEP_MISMATCH. -/
def lsMismatch (s : State) (h : HalfId) (task rel off : Nat) : State :=
  if rd s h Reg.GAV_LS_STAT_STATE ≠ 1 then s else ledgerH (selfTest s h) h 0x0E09 (p4s [task, rel, off])

/-! ### Instructions (R460 to R462) -/

/-- One instruction of the running task: `f` is its effect at the task's level; the next instruction follows.
Without a running task there is no instruction to execute. -/
def instr (s : State) (h : HalfId) (f : State → Nat → State) : State :=
  match runningTask s h with
  | none => s
  | some r =>
    let pc := pcOf s h r.prio
    putPc (f s r.prio) h r.prio ((pc + 1) % 2 ^ 18)

/-- A stack fault of the running task (R462, R480, R481): a standby that stops alone has diverged. -/
def stackFault (s : State) (h : HalfId) (r : TaskRec) (cause : Nat) : State :=
  let s1 := logicHalt s h cause r.task (pcOf s h r.prio)
  if !ownsLogic s h && logicRuns s (other h) then lsMismatch s1 h r.task (nget (half s h).lge.relCycle r.task) (execWord r.prio 0) else s1

/-- Is an index inside its area (R454)? -/
def indexOk (a n : Nat) : Bool := if a = 4 then decide (n < 4096) else if a = 5 ∨ a = 6 then decide (n < 1024) else decide (n < 65536)

/-- The operand value before negation (R461): I, B and BQ from the level's image; a record's Q bit. -/
def operandBit (s : State) (h : HalfId) (l a n : Nat) : Bool :=
  if !indexOk a n then false
  else if a = 5 then bit (lw s h (areaT + 4 * n)) 31
  else if a = 6 then bit (lw s h (areaC + 4 * n)) 31
  else
    let base := if a = 0 then areaImg l else if a = 1 then areaQ else if a = 2 then areaM
      else if a = 3 then areaImg l + 0x800 else if a = 4 then areaP else areaImg l + 0x1000
    bit (lw s h (base + n / 32)) (n % 32)

/-- v of R461. -/
def operand (s : State) (h : HalfId) (l a n : Nat) (neg : Bool) : Bool := operandBit s h l a n != neg

/-- Write a bit of Q, M or P, and note it as written since the release (R474). -/
def writeBit (s : State) (h : HalfId) (l a n : Nat) (b : Bool) : State :=
  if !indexOk a n || !(a == 1 || a == 2 || a == 4) then s
  else
    let o := (if a = 1 then areaQ else if a = 2 then areaM else areaP) + n / 32
    let s1 := lput s h o (putBit (lw s h o) (n % 32) b)
    modLge s1 h fun g => { g with written := nset g.written (l * 2 ^ 20 + o) (nget g.written (l * 2 ^ 20 + o) ||| 2 ^ (n % 32)) }

/-- Combine two bits by a stack operator: 1 AND, 2 OR, 3 XOR. -/
def combine (op : Nat) (a b : Bool) : Bool := if op = 1 then a && b else if op = 2 then a || b else a != b

/-- Stack of level `l` as one number (R478). -/
def stackOf (s : State) (h : HalfId) (l : Nat) : Nat := lw s h (execWord l 1) + 2 ^ 32 * lw s h (execWord l 2)

def putStack (s : State) (h : HalfId) (l v : Nat) : State :=
  lput (lput s h (execWord l 1) (v % 2 ^ 32)) h (execWord l 2) (v / 2 ^ 32)

/-- LD, AND, OR, XOR (R461): `op` 0 loads. -/
def bitOp (s : State) (h : HalfId) (op a n : Nat) (neg : Bool) : State :=
  instr s h fun s l =>
    let v := operand s h l a n neg
    putAcc s h l (if op = 0 then v else combine op (accOf s h l) v)

/-- The push instructions (R461, R462). -/
def pushOp (s : State) (h : HalfId) (op a n : Nat) (neg : Bool) : State :=
  match runningTask s h with
  | none => s
  | some r =>
    let l := r.prio
    let d := depthOf s h l
    if 16 ≤ d then stackFault s h r 3
    else instr s h fun s l =>
      let v := operand s h l a n neg
      let e := b2n (accOf s h l) + 2 * op
      putAcc (putDepth (putStack s h l (putField (stackOf s h l) (3 * d + 2) (3 * d) e)) h l (d + 1)) h l v

/-- ")" (R461, R462). -/
def popOp (s : State) (h : HalfId) : State :=
  match runningTask s h with
  | none => s
  | some r =>
    let l := r.prio
    let d := depthOf s h l
    if d = 0 then stackFault s h r 4
    else instr s h fun s l =>
      let e := bits (stackOf s h l) (3 * (d - 1) + 2) (3 * (d - 1))
      let s1 := putStack s h l (putField (stackOf s h l) (3 * (d - 1) + 2) (3 * (d - 1)) 0)
      putAcc (putDepth s1 h l (d - 1)) h l (combine (e / 2) (bit e 0) (accOf s h l))

def execNop (h : HalfId) (s : State) : Host.Outcome State Fault Refusal := .next (instr s h fun s _ => s)
def execLd (h : HalfId) (a n : Nat) (neg : Bool) (s : State) : Host.Outcome State Fault Refusal := .next (bitOp s h 0 a n neg)
def execAnd (h : HalfId) (a n : Nat) (neg : Bool) (s : State) : Host.Outcome State Fault Refusal := .next (bitOp s h 1 a n neg)
def execOr (h : HalfId) (a n : Nat) (neg : Bool) (s : State) : Host.Outcome State Fault Refusal := .next (bitOp s h 2 a n neg)
def execXor (h : HalfId) (a n : Nat) (neg : Bool) (s : State) : Host.Outcome State Fault Refusal := .next (bitOp s h 3 a n neg)
def execAndPush (h : HalfId) (a n : Nat) (neg : Bool) (s : State) : Host.Outcome State Fault Refusal := .next (pushOp s h 1 a n neg)
def execOrPush (h : HalfId) (a n : Nat) (neg : Bool) (s : State) : Host.Outcome State Fault Refusal := .next (pushOp s h 2 a n neg)
def execXorPush (h : HalfId) (a n : Nat) (neg : Bool) (s : State) : Host.Outcome State Fault Refusal := .next (pushOp s h 3 a n neg)
def execPop (h : HalfId) (s : State) : Host.Outcome State Fault Refusal := .next (popOp s h)

def execSt (h : HalfId) (a n : Nat) (neg : Bool) (s : State) : Host.Outcome State Fault Refusal :=
  .next (instr s h fun s l => writeBit s h l a n (accOf s h l != neg))

/-- SET (R461): a bit, or CV ← PV of a counter. -/
def execSet (h : HalfId) (a n : Nat) (s : State) : Host.Outcome State Fault Refusal :=
  .next (instr s h fun s l =>
    if !accOf s h l then s
    else if a = 6 then (if indexOk 6 n then lput s h (areaC + 4 * n + 2) (lw s h (areaC + 4 * n + 1) % 65536) else s)
    else writeBit s h l a n true)

/-- RST (R461, R468): a bit; ET, Q and SCANNED of a timer; CV of a counter. -/
def execRst (h : HalfId) (a n : Nat) (s : State) : Host.Outcome State Fault Refusal :=
  .next (instr s h fun s l =>
    if !accOf s h l then s
    else if a = 5 then
      if indexOk 5 n then
        let w := lw s h (areaT + 4 * n)
        lput (lput s h (areaT + 4 * n) (putBit (putBit w 31 false) 29 false)) h (areaT + 4 * n + 2) 0
      else s
    else if a = 6 then (if indexOk 6 n then lput s h (areaC + 4 * n + 2) 0 else s)
    else writeBit s h l a n false)

/-- PEDGE and NEDGE (R461) on marker `n`. -/
def edgeOp (s : State) (h : HalfId) (n : Nat) (rising : Bool) : State :=
  instr s h fun s l =>
    let acc := accOf s h l
    let e := operandBit s h l 2 n
    putAcc (writeBit s h l 2 n acc) h l (if rising then acc && !e else !acc && e)

def execPedge (h : HalfId) (n : Nat) (s : State) : Host.Outcome State Fault Refusal := .next (edgeOp s h n true)
def execNedge (h : HalfId) (n : Nat) (s : State) : Host.Outcome State Fault Refusal := .next (edgeOp s h n false)

/-! ### Timers and counters (R464 to R468) -/

/-- Q and ET after a scan (R467): kind 0 TON, 1 TOF, 2 TP, 3 TONR. -/
def timerNext (kind : Nat) (inp prev q : Bool) (et dt pt : Nat) : Bool × Nat :=
  let run := min (et + dt) pt
  if kind = 0 then
    if inp then (let e := if prev then run else 0; (decide (pt ≤ e), e)) else (false, 0)
  else if kind = 1 then
    if inp then (true, 0) else (let e := if prev then 0 else run; (q && decide (e < pt), e))
  else if kind = 2 then
    if q then (decide (run < pt), run)
    else if inp then (if prev then (false, et) else (decide (0 < pt), 0))
    else (false, 0)
  else
    if inp then (let e := if prev then run else et; (decide (pt ≤ e), e)) else (q, et)

/-- A timer scan (R465, R467) of record `n`. -/
def timerScan (s : State) (h : HalfId) (kind n : Nat) : State :=
  match runningTask s h with
  | none => s
  | some r => instr s h fun s l =>
    if !indexOk 5 n then s
    else
      let o := areaT + 4 * n
      let rel := nget (half s h).lge.relCycle r.task
      let w := lw s h o
      let dt := if bit w 29 then (rel + 2 ^ 32 - lw s h (o + 3)) % 2 ^ 32 else 0
      let inp := accOf s h l
      let (q, et) := timerNext kind inp (bit w 30) (bit w 31) (lw s h (o + 2)) dt (lw s h (o + 1))
      let s1 := modLge s h fun g => { g with tonr := nset g.tonr n (b2n (kind == 3)) }
      let s2 := lput s1 h o (putBit (putBit (putBit w 29 true) 30 inp) 31 q)
      putAcc (lput (lput s2 h (o + 2) et) h (o + 3) rel) h l q

/-- A counter scan (R468) of record `n`. -/
def counterScan (s : State) (h : HalfId) (up : Bool) (n : Nat) : State :=
  instr s h fun s l =>
    if !indexOk 6 n then s
    else
      let o := areaC + 4 * n
      let w := lw s h o
      let inp := accOf s h l
      let cv := lw s h (o + 2)
      let c := if inp && !bit w 30 then (if up then min (cv + 1) 65535 else cv - 1) else cv
      let q := if up then decide (lw s h (o + 1) ≤ c) else c == 0
      putAcc (lput (lput s h o (putBit (putBit w 30 inp) 31 q)) h (o + 2) c) h l q

def execTon (h : HalfId) (n : Nat) (s : State) : Host.Outcome State Fault Refusal := .next (timerScan s h 0 n)
def execTof (h : HalfId) (n : Nat) (s : State) : Host.Outcome State Fault Refusal := .next (timerScan s h 1 n)
def execTp (h : HalfId) (n : Nat) (s : State) : Host.Outcome State Fault Refusal := .next (timerScan s h 2 n)
def execTonr (h : HalfId) (n : Nat) (s : State) : Host.Outcome State Fault Refusal := .next (timerScan s h 3 n)
def execCtu (h : HalfId) (n : Nat) (s : State) : Host.Outcome State Fault Refusal := .next (counterScan s h true n)
def execCtd (h : HalfId) (n : Nat) (s : State) : Host.Outcome State Fault Refusal := .next (counterScan s h false n)

/-! ### Jumps and END (R461, R462, R473, R474) -/

/-- A jump: taken where `p` holds of ACC; a taken jump needs an empty stack, and is traced (R728). -/
def jumpOp (s : State) (h : HalfId) (target : Nat) (p : Bool → Bool) : State :=
  match runningTask s h with
  | none => s
  | some r =>
    let l := r.prio
    if !p (accOf s h l) then instr s h fun s _ => s
    else if depthOf s h l ≠ 0 then stackFault s h r 5
    else trace (putPc s h l (target % 2 ^ 18)) h 2 0x05 (le 1 r.task ++ le 3 (pcOf s h l) ++ le 3 target)

def execJmp (h : HalfId) (target : Nat) (s : State) : Host.Outcome State Fault Refusal := .next (jumpOp s h target fun _ => true)
def execJmpc (h : HalfId) (target : Nat) (s : State) : Host.Outcome State Fault Refusal := .next (jumpOp s h target fun a => a)
def execJmpcn (h : HalfId) (target : Nat) (s : State) : Host.Outcome State Fault Refusal := .next (jumpOp s h target fun a => !a)

/-- What a task that ends makes publishable (R474): each bit it wrote, at its value now. -/
def mergeWritten (l : Logic) (prio : Nat) : Logic :=
  { l with
    next := l.written.foldl (fun m e =>
      if e.1 / 2 ^ 20 = prio then
        let o := e.1 % 2 ^ 20
        nset m o ((nget m o &&& (e.2 ^^^ 0xFFFFFFFF)) ||| (nget l.mem o &&& e.2))
      else m) l.next
    written := serase (fun k => k / 2 ^ 20 == prio) l.written }

/-- Retentive changes are queued for commit (R485), one unit at a time; PENDING shows those not committed. -/
def retCommit (s : State) (h : HalfId) : State :=
  let l := (half s h).lge
  if !l.retDirty then s
  else if (firstJob s h 2).isSome then wrB s h Reg.LGE_RET_PENDING true
  else
    let s1 := startCommit s h (.ret (retSet s h (retSeq s h + 1)))
    wrB (modLge s1 h fun l => { l with retDirty := false }) h Reg.LGE_RET_PENDING true

/-- The leader sends up to 4,096 pending-copy words at an END (R119). -/
def copySend (s : State) (h : HalfId) : State :=
  let l := (half s h).lge
  if l.copyPend.isEmpty || !l.copySent.isEmpty then s
  else modLge s h fun l => { l with copySent := (l.copyPend.take 4096).map fun o => (o, nget l.mem o) }

/-- The leader's sweep reads its next 60 words at an END (R512). -/
def sweepSend (s : State) (h : HalfId) : State :=
  let l := (half s h).lge
  if l.sweep = 0 ∨ l.sweepMsg.isSome = true then s
  else
    let k := l.sweep - 1
    let ws := ((List.range 60).map fun i => k + i).filter fun i => decide (i < scopeSize)
    modLge s h fun l => { l with
      sweep := if k + 60 < scopeSize then k + 61 else 0
      sweepMsg := some (l.ends, ws.map fun i => (scopeWord i, nget l.mem (scopeWord i))) }

/-- Signatures at the same END (R511, R513 step 5): unequal ones are a live mismatch; the first equal one after a
reload resumes lockstep. -/
def lsEqual (s : State) (h : HalfId) (e f : Nat × Nat × Nat) : State :=
  if e.2.2 = f.2.2 then
    if rd s h Reg.GAV_LS_STAT_STATE = 2 then lockstepResume s else s
  else lsMismatch s h e.1 e.2.1 0

/-- The standby `h` compares the oldest END of which it has both its own signature and the leader's LS_END. -/
def lsCompare (s : State) (h : HalfId) : State :=
  match (half s (other h)).lge.sigs, (half s h).lge.sigs with
  | e :: es, f :: fs =>
    if (half s h).lge.got = 0 then s
    else lsEqual (modLge (modLge s (other h) fun l => { l with sigs := es }) h fun l => { l with sigs := fs, got := l.got - 1 }) h e f
  | _, _ => s

/-- What lockstep does at an END of half `h`: LSIG, LS_END and the copies in the leader, the comparison in the standby. -/
def lsAtEnd (s : State) (h : HalfId) (task : Nat) : State :=
  let sig := liveSig s h
  let on := rd s h Reg.GAV_LS_STAT_STATE == 1 || rd s h Reg.GAV_LS_STAT_STATE == 2
  let s1 := modLge s h fun l => { l with
    ends := l.ends + 1
    sigs := if on then l.sigs ++ [(task, nget l.relCycle task, sig)] else [] }
  if !on then s1 else if ownsLogic s1 h then sweepSend (copySend s1 h) h else lsCompare s1 h

/-- END of the running task (R462, R473, R474, R494, R511). -/
def taskEnd (s : State) (h : HalfId) (r : TaskRec) : State :=
  let us := min 65535 ((s.ticks - nget (half s h).lge.relTick r.task) / 125)
  let s1 := modLge s h fun l => { mergeWritten l r.prio with tasks := nset l.tasks r.task 0 }
  let s2 := lput s1 h (execWord r.prio 0) (putBit (lw s1 h (execWord r.prio 0)) 31 false)
  let s3 := wr s2 h (Reg.LGE_TEXEC_LAST r.task) us
  let s4 := wr s3 h (Reg.LGE_TEXEC_MAX r.task) (max us (rd s3 h (Reg.LGE_TEXEC_MAX r.task)))
  let s5 := retCommit (trace s4 h 0 0x03 (le 1 r.task ++ le 4 us)) h
  dispatch (lsAtEnd s5 h r.task) h

def execEndTask (h : HalfId) (s : State) : Host.Outcome State Fault Refusal :=
  match runningTask s h with
  | none => .next s
  | some r => .next (if depthOf s h r.prio ≠ 0 then stackFault s h r 6 else taskEnd s h r)

/-! ### Task registers (R492 to R494) -/

/-- LGE_TINFO of task `t` as it stands. -/
def taskInfo (s : State) (h : HalfId) (t : Nat) : Nat :=
  match taskRec s h t with
  | some r => 2 ^ 31 + 2 ^ 30 * r.kind + 2 ^ 24 * r.prio + 2 ^ 20 * taskState s h t +
      (if r.kind = 1 then 2 ^ 18 * (r.arg / 2 ^ 30) else r.arg % 65536)
  | none => 0

/-- A read of LGE_TINFO latches the three registers of the selected task; they are kept as task 48 (R492). -/
def taskLatch (s : State) (h : HalfId) : State :=
  let t := rd s h Reg.LGE_TSEL_TASK
  let on := decide (t < 48)
  let s1 := setWord s h (Reg.LGE_TINFO_DEFINED 48).key (if on then taskInfo s h t else 0)
  let s2 := setWord s1 h (Reg.LGE_TEXEC_MAX 48).key (if on then word s h (Reg.LGE_TEXEC_MAX t).key else 0)
  setWord s2 h (Reg.LGE_TRELS_MISSED 48).key (if on then word s h (Reg.LGE_TRELS_MISSED t).key else 0)


end Sys2Proof.Machine
end

