-- ==== Sys2Proof/Machine/Gavel.lean ====
section
/-!
DEFINITION. The cross-link's health (R500, R501), the Gavel (R502 to R508), loss of the leader and switchover
(R516 to R519): who acts as leader, and what the module does while nobody does.
-/

namespace Sys2Proof.Machine

open Sys2Proof (Byte HalfId)

/-- Change what a half keeps about its partner and the Gavel. -/
def modGav (s : State) (h : HalfId) (f : GavelRun → GavelRun) : State :=
  let x := half s h
  setHalf s h { x with gav := f x.gav }

/-- Change the leader rounds of the module. -/
def modRounds (s : State) (f : GavelRounds → GavelRounds) : State :=
  { s with field := { s.field with gavel := f s.field.gavel } }

/-- Put GAVEL_MON (R502). -/
def putMon (s : State) (m : Nat) : State := { s with field := { s.field with mon := m } }

/-- GAVEL_MON's code for a half. -/
def monOf : HalfId → Nat
  | .a => 1
  | .b => 2

/-- The halves that run past step 11. -/
def runningHalves (s : State) : List HalfId := (halves s).filter fun h => running s h

/-- The home half of the image in half `h` (R99, R505). -/
def isHome (s : State) (h : HalfId) : Bool :=
  match (half s h).image with
  | some i => i.sys.home == halfNo h
  | none => false

/-- Some cause makes the half's overall state failed (R524), before step 11 too. -/
def vitalFailed (s : State) (h : HalfId) : Bool := [0, 1, 2, 7].any fun k => tallyCode (half s h).tally k == 2

/-- The partner is absent: none is fitted, or Tally knows it as absent (R74, R506). -/
def partnerAbsent (s : State) (h : HalfId) : Bool := !twoHalves s || tallyCode (half s h).tally 10 == 3

/-- A half has reached boot step 10: steps up to 9 are complete. -/
def atStepTen (s : State) (h : HalfId) : Bool := alive s h && decide (9 ≤ rd s h Reg.SYS_MODE_BOOT_STEP)

/-- R504; a DEGRADED half is eligible only through TAKEOVER. -/
def eligible (s : State) (h : HalfId) : Bool :=
  atStepTen s h && !(half s h).mode.hashMismatch && !vitalFailed s h && !rdB s h Reg.GAV_STAT_FAILED_LEAD
    && !rdB s h Reg.GAV_STAT_LCL && (!rdB s h Reg.GAV_LS_STAT_DEGRADED || (half s h).gav.takeover)

/-- ROLE of a half's heartbeat (R501, R506): 1 leader, 2 standby, 0 none. -/
def roleOf (s : State) (h : HalfId) : Nat :=
  if acts s h then 1
  else if atStepTen s h && !rdB s h Reg.GAV_STAT_GRANT && s.field.mon == monOf (other h) then 2 else 0

/-- The three conditions of R506. -/
def mayAct (s : State) (h : HalfId) : Bool :=
  alive s h && rdB s h Reg.GAV_STAT_GRANT && holds s h &&
    (rd s h Reg.GAV_STAT_PARTNER_ROLE == 2 || partnerAbsent s h || (half s h).gav.lost)

/-- Boot step 10 is complete in a half (R72). -/
def stepTen (s : State) (h : HalfId) : State :=
  if rd s h Reg.SYS_MODE_BOOT_STEP = 9 then wr s h Reg.SYS_MODE_BOOT_STEP 10 else s

/-- A Gavel packet of the trace (R728): GAV_STAT bits 31:16 and the cause. -/
def traceGavel (s : State) (h : HalfId) (cause : Nat) : State :=
  trace s h 4 0x07 (le 2 (word s h Reg.GAV_STAT_ACTING.key / 65536) ++ le 1 cause)

/-! ### Coming to act and ceasing to (R506, R517, R518) -/

/-- µs from the moment nobody acted to the next Arcade boundary, at which the new leader refreshes (R517). -/
def leaderGap (s : State) : Nat :=
  let g := s.field.gavel
  if g.gapAt = 0 then 0
  else min 65535 ((s.ticks + 1 - g.gapAt) / 125 + (250000 - now s % 250000) / 1000)

/-- The logic of a half that takes over without lockstep (R518): a warm start at least 10 ms later. -/
def takeoverLogic (s : State) (h : HalfId) : State :=
  let c := s.field.gavel.cause
  let faulted := !logicRuns s h && decide (1 ≤ rd s h Reg.LGE_STAT_CAUSE) && decide (rd s h Reg.LGE_STAT_CAUSE ≤ 6)
  if !booted s h || (half s h).lge.own || rd s h Reg.GAV_LS_STAT_STATE == 1 || progCount s h == 0 || faulted
      || c == 2 || c == 3 || c == 4 then s
  else
    let s1 := modLge (logicEnd s h 7) h fun l => { l with restart := 1, startAt := (rd s h Reg.LGE_CYCLE_COUNT + 41) % 2 ^ 32 }
    ledgerH s1 h 0x020A (p4s [1, 0])

/-- The new leader's port answers the service address and sends three gratuitous ARP messages for it (R709). -/
def announce (s : State) (h : HalfId) : State :=
  let x := half s h
  setHalf s h { x with mgmt := { x.mgmt with arps := x.mgmt.arps + 3 } }

/-- Half `h` comes to act as leader: the no-leader state ends, its scheduler runs the logic, and its cause and gap
are recorded. -/
def becomeLeader (s : State) (h : HalfId) : State :=
  let g := s.field.gavel
  let cause := if g.cause = 0 then 5 else g.cause
  let gap := leaderGap s
  let s1 := takeoverLogic s h
  let s2 := if (half s h).gav.lost then wr s1 h Reg.GAV_LS_STAT_STATE 0 else s1
  let s3 := (halves s2).foldl (fun s x =>
    let s1 := wrB s x Reg.GAV_STAT_NO_LEADER false
    let s2 := wr (wr s1 x Reg.GAV_LAST_GAP gap) x Reg.GAV_LAST_CAUSE cause
    let s3 := if cause = 1 then satAdd s2 x Reg.GAV_COUNT_SWITCHOVERS 1 else s2
    modLge s3 x fun l => { l with own := x == h }) (wrB s2 h Reg.GAV_STAT_ACTING true)
  let s4 := modRounds (wrB s3 .a Reg.TRM_CELL_STAT_NO_LEADER false) fun g => { g with since := 0, gapAt := 0, cause := 0 }
  let s5 := announce (modGav s4 h fun x => { x with takeover := false }) h
  traceGavel (ledgerH (stepTen s5 h) h 0x0E01 (p4s [halfNo h, cause, gap])) h cause

/-- A half ceases to act: its open image slot, and changes and switches not yet in force, are abandoned (R64, R117,
R611). -/
def loseLeader (s : State) (h : HalfId) : State :=
  if !acts s h then s
  else
    let s1 := setAbort (pendAbort (imgAbort s h))
    traceGavel (modRounds (wrB s1 h Reg.GAV_STAT_ACTING false) fun g => { g with gapAt := s.ticks + 1 }) h 0

/-- Bring a half's acting in line with R506. -/
def actUpdate (s : State) (h : HalfId) : State :=
  if mayAct s h then (if acts s h then s else becomeLeader s h) else loseLeader s h

/-! ### No leader, rounds, leader-class lockout (R416, R507, R508) -/

/-- The no-leader state begins by case `c` of R507: recorded by the halves that detect it.  Leader-class lockout
starts no round. -/
def noLeader (s : State) (c : Nat) (by_ : List HalfId) : State :=
  if s.field.io.lclOut then s else
  let s1 := (halves s).foldl (fun s x => wrB s x Reg.GAV_STAT_NO_LEADER true) (wrB s .a Reg.TRM_CELL_STAT_NO_LEADER true)
  let s2 := modIo (modRounds s1 fun g => { g with since := s.ticks + 1 }) fun x => { x with tmoStopped := false }
  by_.foldl (fun s x => ledgerH s x 0x0E02 (p4s [c, s.field.mon])) (closeCommandsOff s2)

/-- A half gives up its request and grant; it ceases to act. -/
def release (s : State) (h : HalfId) : State :=
  let s1 := loseLeader s h
  let s2 := wrB (wrB s1 h Reg.GAV_STAT_REQ false) h Reg.GAV_STAT_GRANT false
  let s3 := modGav s2 h fun x => { x with takeover := false }
  if holds s h then putMon s3 0 else s3

/-- NO_LEADER_TIMEOUT (R416, R507): GAVEL_MON has read 00 or 11 for more than 500 µs after the first boot step 10. -/
def execNoLeaderTimeout (s : State) : Host.Outcome State Fault Refusal :=
  .next (if s.field.gavel.armed && (s.field.mon == 0 || s.field.mon == 3) && s.field.gavel.since == 0
      && !rdB s .a Reg.TRM_CELL_STAT_NO_LEADER && (leader s).isNone then
      noLeader s (if s.field.mon = 3 then 2 else 5) (runningHalves s)
    else s)

/-- GAVEL_DISAGREE (R507): case 1 in half `h` alone, cases 2 to 4 in both halves; in case 2 GAVEL_MON reads 11. -/
def execGavelDisagree (h : HalfId) (case_ : Nat) (s : State) : Host.Outcome State Fault Refusal :=
  if case_ = 0 ∨ 4 < case_ ∨ s.field.gavel.armed = false ∨ (case_ = 1 ∧ alive s h = false) then .next s
  else
    let who := if case_ = 1 then [h] else halves s
    let s0 := if case_ = 2 then (halves s).foldl loseLeader (putMon s 3) else s
    let s1 := who.foldl release s0
    .next (noLeader s1 case_ (if case_ = 1 then [h] else runningHalves s))

/-- Leader-class lockout begins (R508). -/
def lclEnter (s : State) (n : Nat) : State :=
  let s1 := (halves s).foldl (fun s x => wrB (wrB s x Reg.GAV_STAT_LCL true) x Reg.GAV_STAT_REQ false) s
  let s2 := modIo (modRounds s1 fun g => { g with since := 0 }) fun x => { x with lclOut := true }
  (runningHalves s).foldl (fun s x => ledgerH s x 0x0E04 (p4 n)) (closeCommandsOff (leaderSafe s2))

/-- ROUND_TIMEOUT (R508): a round fails, and a new one starts, or leader-class lockout after the third in 10 s. -/
def execRoundTimeout (s : State) : Host.Outcome State Fault Refusal :=
  let g := s.field.gavel
  if g.since = 0 ∨ (leader s).isSome = true then .next s
  else
    let fails := s.ticks :: g.fails.filter fun t => decide (s.ticks < t + 1250000000)
    let s1 := (halves s).foldl (fun s x => satAdd s x Reg.GAV_COUNT_ROUNDS_FAILED 1) s
    let s2 := modRounds s1 fun g => { g with fails := fails.take 3, since := s.ticks + 1 }
    let s3 := (runningHalves s).foldl (fun s x => ledgerH s x 0x0E03 (p4 fails.length)) s2
    .next (if 3 ≤ fails.length ∧ s.field.mon ≠ 3 then lclEnter s3 fails.length else s3)

/-! ### Request, grant, cancellation (R503 to R506) -/

/-- Half `h` raises its request line. -/
def request (s : State) (h : HalfId) (cause : Nat) : State :=
  modRounds (wrB s h Reg.GAV_STAT_REQ true) fun g => { g with cause := cause }

/-- GAVEL_REQUEST_TIMER (R505): at boot step 10 or after a no-leader instant, an eligible half requests a free Gavel. -/
def execGavelRequestTimer (h : HalfId) (s : State) : Host.Outcome State Fault Refusal :=
  .next (if eligible s h && !rdB s h Reg.GAV_LS_STAT_DEGRADED && !rdB s h Reg.GAV_STAT_REQ && s.field.mon == 0
      && (rd s h Reg.SYS_MODE_BOOT_STEP == 9 || s.field.gavel.since != 0) then request s h 5
    else s)

/-- GAVEL_GRANT (R502, R503): the element grants a waiting request while it grants none. -/
def execGavelGrant (h : HalfId) (s : State) : Host.Outcome State Fault Refusal :=
  if !alive s h || !rdB s h Reg.GAV_STAT_REQ || s.field.mon != 0 then .next s
  else
    let s1 := wrB (putMon s (monOf h)) h Reg.GAV_STAT_GRANT true
    .next (actUpdate ((halves s1).foldl (fun s x => wr s x Reg.SMP_SYNC_STAT_DRIVER (halfNo h)) s1) h)

/-- GAVEL_CANCEL (R503): the field die cancels the holder's grant on release, reset, power-down, or a request of the
other half while the holder strobe is missing; a faulty element that reads good again reads 00. -/
def execGavelCancel (s : State) : Host.Outcome State Fault Refusal :=
  if s.field.mon = 3 then
    .next (wr (putMon s 0) .a Reg.SYS_LOCKOUT_PRESENT (putBit (rd s .a Reg.SYS_LOCKOUT_PRESENT) 2 false))
  else if s.field.mon = 0 then .next s
  else
    let h : HalfId := if s.field.mon = 1 then .a else .b
    let cut := rdB s (other h) Reg.GAV_STAT_REQ && !rdB s (other h) Reg.GAV_STAT_HOLDER_STROBE
    .next (if alive s h && rdB s h Reg.GAV_STAT_REQ && !cut then s
      else
        let s1 := wrB (loseLeader s h) h Reg.GAV_STAT_GRANT false
        let s2 := if alive s h then s1 else wrB s1 h Reg.GAV_STAT_REQ false
        modIo (putMon s2 0) fun x => { x with tmoStopped := s.field.gavel.since == 0 })

/-! ### The cross-link (R500, R501) -/

/-- The reload of a standby may start (R513, R515, R519): both halves run, their link is up, and they are not in lockstep. -/
def reloadReady (s : State) (l : HalfId) : Bool :=
  let sb := other l
  acts s l && twoHalves s && running s l && running s sb && rdB s l Reg.GAV_XL_STAT_UP && rdB s sb Reg.GAV_XL_STAT_UP
    && rd s l Reg.GAV_LS_STAT_STATE == 0 && rd s sb Reg.GAV_LS_STAT_STATE == 0 && logicRuns s l
    && !rdB s l Reg.GAV_STAT_FAILED_LEAD && !(half s sb).gav.noReload

/-- Both halves read 10, reloading, and nothing waits to be compared. -/
def startReload (s : State) : State :=
  (halves s).foldl (fun s x => modLge (wr s x Reg.GAV_LS_STAT_STATE 2) x fun l => { l with
    sigs := [], got := 0, images := [], copySent := [], sweep := 0, sweepMsg := none }) s

/-- Lockstep ends without a divergence event (R510, R519). -/
def endLockstep (s : State) : State :=
  (halves s).foldl (fun s x => modLge (wr s x Reg.GAV_LS_STAT_STATE 0) x fun l => { l with
    sigs := [], got := 0, images := [], copySent := [], sweep := 0, sweepMsg := none }) s

/-- Half `h` declares the cross-link down (R500): XLINK_DOWN, and Tally reports CROSS_LINK and PARTNER failed. -/
def linkDown (s : State) (h : HalfId) : State :=
  if !rdB s h Reg.GAV_XL_STAT_UP then s
  else
    let s1 := modGav (wrB s h Reg.GAV_XL_STAT_UP false) h fun x => { x with tries := 0 }
    let s2 := ledgerH s1 h 0x0E0E (p4s [1, rd s h Reg.GAV_XL_STAT_CRC_ERR, rd s h Reg.GAV_XL_STAT_RETRANS])
    endLockstep (tallyPartner (tallySet s2 h 9 1 2 0x0E0E) h 4 2 0x0E0E)

/-- XL_ACK_TIMEOUT (R500). -/
def execXlAckTimeout (h : HalfId) (s : State) : Host.Outcome State Fault Refusal :=
  .next (if alive s h then linkDown s h else s)

/-- Errors of the last second at a half, and Tally's CROSS_LINK degraded above 16 (R500). -/
def linkErrors (s : State) (h : HalfId) (n : Nat) : State :=
  let errs := (List.replicate (min n 32) s.ticks ++ (half s h).gav.errs).filter fun t => decide (s.ticks < t + 125000000)
  tallySet (modGav s h fun x => { x with errs := errs.take 64 }) h 9 2 (b2n (decide (16 < errs.length))) 0x0E0E

/-- XL_RETRANSMIT (R500): a message of half `h` was not acknowledged; `errors` messages arrived damaged at its
partner.  The fifth failed transmission takes the link down. -/
def execXlRetransmit (h : HalfId) (errors : Nat) (s : State) : Host.Outcome State Fault Refusal :=
  if !alive s h || !twoHalves s then .next s
  else
    let g := other h
    let s1 := linkErrors (satAdd s g Reg.GAV_XL_STAT_CRC_ERR errors) g errors
    let n := (half s h).gav.tries + 1
    .next (if 5 ≤ n then linkDown s1 h
      else modGav (satAdd s1 h Reg.GAV_XL_STAT_RETRANS 1) h fun x => { x with tries := n })

/-- XL_UP (R500, R519): after 10 ms of valid heartbeats the link is up; a link that was declared down is recorded. -/
def execXlUp (h : HalfId) (s : State) : Host.Outcome State Fault Refusal :=
  if !alive s h || !twoHalves s || rdB s h Reg.GAV_XL_STAT_UP then .next s
  else
    let was := nget (half s h).tally (9 * 65536 + 1) == 2
    let s1 := wrB s h Reg.GAV_XL_STAT_UP true
    let s2 := if was then
        ledgerH s1 h 0x0E0E (p4s [2, rd s h Reg.GAV_XL_STAT_CRC_ERR, rd s h Reg.GAV_XL_STAT_RETRANS])
      else s1
    let s3 := tallyPartner (tallySet s2 h 9 1 0 0x0E0E) h 4 0 0x0E0E
    .next (match leader s3 with
      | some l => if reloadReady s3 l then startReload s3 else s3
      | none => s3)

/-- The hold-off of automatic return runs (R521): the home half is standby, good, in lockstep, not DEGRADED. -/
def returnReady (s : State) (h : HalfId) : Bool :=
  rdB s h Reg.GAV_CTRL_AUTO_RETURN && isHome s h && running s h && !acts s h && roleOf s h == 2
    && rd s h Reg.TLY_OVERALL_OVERALL == 0 && rd s h Reg.GAV_LS_STAT_STATE == 1 && !rdB s h Reg.GAV_LS_STAT_DEGRADED

/-- The hold-off of the image, in s. -/
def holdoff (s : State) (h : HalfId) : Nat := match (half s h).image with | some i => i.sys.holdoff | none => 0

/-- HOLDOFF_REMAIN follows the continuous hold-off. -/
def holdTick (s : State) (h : HalfId) : State :=
  if returnReady s h then
    let at_ := if (half s h).gav.holdAt = 0 then s.ticks + 1 else (half s h).gav.holdAt
    wr (modGav s h fun x => { x with holdAt := at_ }) h Reg.GAV_RETURN_HOLDOFF_REMAIN
      (holdoff s h - (s.ticks + 1 - at_) / 125000000)
  else wr (modGav s h fun x => { x with holdAt := 0 }) h Reg.GAV_RETURN_HOLDOFF_REMAIN 0

/-- Tally's LOCKSTEP degraded after 100 ms out of lockstep with the partner present (R523). -/
def outTick (s : State) (h : HalfId) : State :=
  let out := running s h && partnerIn s h && running s (other h) && rd s h Reg.GAV_LS_STAT_STATE != 1
  let at_ := if !out then 0 else if (half s h).gav.outAt = 0 then s.ticks + 1 else (half s h).gav.outAt
  let s1 := modGav s h fun x => { x with outAt := at_ }
  tallySet s1 h 11 3 (b2n (at_ != 0 && decide (at_ + 12500000 < s.ticks + 1))) 0

/-- Events of the last 3,600 s. -/
def lastHour (s : State) (l : List Nat) : List Nat := l.filter fun t => decide (s.ticks < t + 450000000000)

/-- REVERSIONS and DIVERGE count the last 3,600 s (R530, R531). -/
def hourTick (s : State) (h : HalfId) : State :=
  let g := (half s h).gav
  wr (wr s h Reg.GAV_RETURN_REVERSIONS (min 3 (lastHour s g.reversions).length)) h Reg.GAV_LS_STAT_DIVERGE
    (min 3 (lastHour s g.diverge).length)

/-- HEARTBEAT_SEND (R501, R503): a 10 µs tick of half `h`, with the holder strobe of the holder; a tick without a
heartbeat of the partner counts. -/
def execHeartbeatSend (h : HalfId) (s : State) : Host.Outcome State Fault Refusal :=
  if !alive s h then .next s
  else
    let s1 := if (half s h).gav.hbSeen || !twoHalves s then s else satAdd s h Reg.GAV_XL_STAT_HB_MISSED 1
    let s2 := modGav s1 h fun x => { x with hbSeen := false }
    let s3 := if holds s h && rdB s h Reg.GAV_STAT_REQ then
        (halves s2).foldl (fun s x => wrB s x Reg.GAV_STAT_HOLDER_STROBE true) s2
      else s2
    .next (linkErrors (hourTick (holdTick (outTick s3 h) h) h) h 0)

/-- HEARTBEAT (R501, R506): half `h` reads its partner's role; `acked` says that every message sent is acknowledged. -/
def execHeartbeat (h : HalfId) (acked : Bool) (s : State) : Host.Outcome State Fault Refusal :=
  if !alive s h || !alive s (other h) then .next s
  else
    let s1 := modGav s h fun x => { x with
      hbAt := s.ticks + 1, hbTime := now s, hbSeen := true, probeAt := 0, replied := false
      tries := if acked then 0 else x.tries, lost := false }
    let s2 := tallyPartner (wr s1 h Reg.GAV_STAT_PARTNER_ROLE (roleOf s (other h))) h 3 0 0x0E06
    let s3 := actUpdate s2 h
    let s4 := if roleOf s3 (other h) = 1 then stepTen s3 h else s3
    .next (if reloadReady s4 h then startReload s4 else s4)

/-! ### Loss of the leader (R517, R519) -/

/-- PARTNER_HEARTBEAT_LOSS (R517 step 2): 80 µs without a heartbeat, a standby starts probing. -/
def execPartnerHeartbeatLoss (h : HalfId) (s : State) : Host.Outcome State Fault Refusal :=
  let g := (half s h).gav
  .next (if alive s h && twoHalves s && !acts s h && !g.lost && g.hbAt != 0 && g.probeAt == 0
      && decide (g.hbAt + 10000 ≤ s.ticks + 1) then
      modGav s h fun x => { x with probeAt := s.ticks + 1, replied := false }
    else s)

/-- PROBE (R517): half `h` answers its partner's probe. -/
def execProbe (h : HalfId) (s : State) : Host.Outcome State Fault Refusal :=
  .next (if alive s h && (half s (other h)).gav.probeAt != 0 then modGav s (other h) fun x => { x with replied := true } else s)

/-- PROBE_REPLY (R517): an answered probe ends the probing of half `h`. -/
def execProbeReply (h : HalfId) (s : State) : Host.Outcome State Fault Refusal :=
  .next (if (half s h).gav.replied then modGav s h fun x => { x with probeAt := 0, replied := false } else s)

/-- LOSS_CONFIRM (R517 steps 3 and 4, R519): no reply; with the holder strobe gone the leader is lost and an eligible
standby requests the Gavel; with the strobe seen the cross-link is down. -/
def execLossConfirm (h : HalfId) (strobe : Bool) (s : State) : Host.Outcome State Fault Refusal :=
  let g := (half s h).gav
  if !alive s h || acts s h || g.probeAt == 0 || g.replied then .next s
  else
    let s1 := modGav (wrB s h Reg.GAV_STAT_HOLDER_STROBE strobe) h fun x => { x with probeAt := 0 }
    if strobe then .next (endLockstep (linkDown s1 h))
    else
      let s2 := wr (modGav s1 h fun x => { x with lost := true }) h Reg.GAV_STAT_PARTNER_ROLE 3
      let s3 := tallyPartner (ledgerH s2 h 0x0E06 (timeBytes g.hbTime ++ p4 0)) h 3 2 0x0E06
      .next (if eligible s3 h && !rdB s3 h Reg.GAV_LS_STAT_DEGRADED then request s3 h 1
        else wr s3 h Reg.GAV_LS_STAT_STATE 0)

/-! ### Commands of the Gavel (R508, R514, R521, R528) -/

/-- Report a Gavel command (R529). -/
def gavResult (s : State) (h : HalfId) (c st : Nat) : State :=
  result s h Reg.GAV_RESULT_SEQ Reg.GAV_RESULT_CMD Reg.GAV_RESULT_STATUS c st

/-- A planned handover is pending in some half. -/
def handoverPending (s : State) : Bool := (half s .a).gav.handover != 0 || (half s .b).gav.handover != 0

/-- The checks of R528. -/
def gavStatus (s : State) (h : HalfId) (c : Nat) : Nat :=
  let g := other h
  let m := modeOf s h
  if c = 0 ∨ 5 < c then 0x10
  else if m = mBOOT ∨ m = mLOCKOUT then 0x11
  else if handoverPending s then 0x14
  else if c = 1 then
    (if !acts s h then 0x12
     else if !eligible s g || rdB s g Reg.GAV_LS_STAT_DEGRADED then 0x21
     else if rd s h Reg.GAV_LS_STAT_STATE ≠ 1 then 0x22 else 0x01)
  else if c = 2 then
    (if rdB s h Reg.GAV_LS_STAT_DEGRADED && !rdB s h Reg.GAV_STAT_FAILED_LEAD && (leader s).isNone then 0x02 else 0x23)
  else if c = 3 then (if rdB s h Reg.GAV_STAT_LCL && s.field.mon != 3 then 0x02 else 0x23)
  else if c = 4 then (if rdB s h Reg.GAV_RETURN_SUSPENDED then 0x02 else 0x23)
  else (if (halves s).any fun x => rdB s x Reg.GAV_LS_STAT_DEGRADED then 0x02 else 0x23)

/-- CLEAR_LCL: leader-class lockout ends, and its acceptance is a no-leader instant (R508). -/
def clearLcl (s : State) (h : HalfId) : State :=
  let s1 := (halves s).foldl (fun s x => wrB s x Reg.GAV_STAT_LCL false) s
  let s2 := modIo (modRounds s1 fun g => { g with since := s.ticks + 1, fails := [] }) fun x => { x with lclOut := false }
  ledgerH s2 h 0x0E05 (p4 1)

/-- DEGRADED ends in half `x` (R514). -/
def clearDegraded (s : State) (x : HalfId) : State :=
  if !rdB s x Reg.GAV_LS_STAT_DEGRADED then s
  else
    let s1 := ledgerH (wrB s x Reg.GAV_LS_STAT_DEGRADED false) x 0x0E0B (p4 2)
    tallySet s1 x 11 1 0 0x0E0B

/-- A write of GAV_CMD: 1 HANDOVER, 2 TAKEOVER, 3 CLEAR_LCL, 4 ACK_RETURN, 5 CLEAR_DEGRADED. -/
def gavCmd (s : State) (h : HalfId) (c : Nat) : State :=
  let st := gavStatus s h c
  let s1 := gavResult s h c st
  if st = 0x01 then modGav s1 h fun x => { x with handover := 2 }
  else if st ≠ 0x02 then s1
  else if c = 2 then request (modGav s1 h fun x => { x with takeover := true }) h 6
  else if c = 3 then clearLcl s1 h
  else if c = 4 then (halves s).foldl (fun s x => wrB s x Reg.GAV_RETURN_SUSPENDED false) s1
  else (halves s).foldl clearDegraded s1

def execHandoverCmd (h : HalfId) (s : State) : Host.Outcome State Fault Refusal := .next (access s h (gavCmd s h 1))
def execTakeover (h : HalfId) (s : State) : Host.Outcome State Fault Refusal := .next (access s h (gavCmd s h 2))
def execClearLcl (h : HalfId) (s : State) : Host.Outcome State Fault Refusal := .next (access s h (gavCmd s h 3))
def execAckReturn (h : HalfId) (s : State) : Host.Outcome State Fault Refusal := .next (access s h (gavCmd s h 4))
def execClearDegraded (h : HalfId) (s : State) : Host.Outcome State Fault Refusal := .next (access s h (gavCmd s h 5))

/-! ### Planned handover and automatic return (R520, R521) -/

/-- HANDOVER (R520): the partner `h` of a leader that hands over requests the Gavel. -/
def execHandover (h : HalfId) (s : State) : Host.Outcome State Fault Refusal :=
  .next (if (half s (other h)).gav.handover ≠ 0 ∧ acts s (other h) = true ∧ eligible s h = true
    then wrB s h Reg.GAV_STAT_REQ true else s)

/-- A return counts as a reversion in both halves (R521); the third within 3,600 s suspends automatic return. -/
def reversion (s : State) (h : HalfId) : State :=
  let n := (lastHour s (s.ticks :: (half s h).gav.reversions)).length
  let s1 := (halves s).foldl (fun s x =>
    let l := lastHour s (s.ticks :: (half s x).gav.reversions)
    wr (modGav s x fun g => { g with reversions := l.take 8 }) x Reg.GAV_RETURN_REVERSIONS (min 3 l.length)) s
  if 3 ≤ n then
    ledgerH ((halves s1).foldl (fun s x => wrB s x Reg.GAV_RETURN_SUSPENDED true) s1) h 0x0E08 (p4 n)
  else s1

/-- HANDOVER_BOUNDARY (R520): at a boundary at which no task is active, the leader `h` publishes and releases. -/
def execHandoverBoundary (h : HalfId) (s : State) : Host.Outcome State Fault Refusal :=
  let cause := (half s h).gav.handover
  let idle := (taskRecs s h).all fun r => taskState s h r.task == 0
  if cause = 0 ∨ acts s h = false ∨ idle = false ∨ rdB s (other h) Reg.GAV_STAT_REQ = false then .next s
  else
    let s1 := publishLogic s h
    let s2 := modGav (if cause = 2 then wr s1 h Reg.GAV_RESULT_STATUS 0x02 else gavResult s1 h 0 0x02) h
      fun x => { x with handover := 0 }
    let s3 := (halves s2).foldl (fun s x => satAdd s x Reg.GAV_COUNT_HANDOVERS 1) s2
    let s4 := ledgerH s3 h 0x0E07 (p4s [halfNo h, halfNo (other h), cause])
    let s5 := if cause = 3 then reversion s4 h else s4
    let s6 := modRounds (release s5 h) fun g => { g with cause := cause }
    let s7 := modIo s6 fun x => { x with tmoStopped := true }
    .next (if cause = 4 then startReload s7 else s7)

/-- The planned handover that `h` leads is abandoned (R509, R520, R613). -/
def handoverAbandon (s : State) (h : HalfId) : State :=
  let cause := (half s h).gav.handover
  if cause = 0 then s
  else
    let s1 := if cause = 2 then wr s h Reg.GAV_RESULT_STATUS 0x19 else gavResult s h 0 0x19
    let s2 := modGav s1 h fun x => { x with handover := 0 }
    let s3 := wrB s2 (other h) Reg.GAV_STAT_REQ false
    modGav s3 (other h) fun x => { x with holdAt := if x.holdAt = 0 then 0 else s.ticks + 1, returning := false }

def execHandoverAbandon (h : HalfId) (s : State) : Host.Outcome State Fault Refusal := .next (handoverAbandon s h)

/-- RETURN_HOLDOFF (R521): the home half's hold-off has passed, and it sends RETURN_REQ. -/
def execReturnHoldoff (h : HalfId) (s : State) : Host.Outcome State Fault Refusal :=
  let at_ := (half s h).gav.holdAt
  .next (if returnReady s h && at_ != 0 && decide (at_ + holdoff s h * 125000000 ≤ s.ticks + 1) then
      modGav s h fun x => { x with returning := true }
    else s)

/-- RETURN_REQ (R521): the leader `h` starts a planned handover, unless automatic return is suspended. -/
def execReturnReq (h : HalfId) (s : State) : Host.Outcome State Fault Refusal :=
  if !(half s (other h)).gav.returning then .next s
  else
    let s1 := modGav s (other h) fun x => { x with returning := false }
    .next (if acts s h && !rdB s h Reg.GAV_RETURN_SUSPENDED && !handoverPending s then
        modGav s1 h fun x => { x with handover := 3 }
      else s1)

end Sys2Proof.Machine
end

