-- ==== Sys2Proof/Machine/Lockstep.lean ====
section
/-!
DEFINITION. Lockstep of the scheme logic (R509 to R515): replay, comparison, sweep, self-test, reload, and the
memory errors of R523.
-/

namespace Sys2Proof.Machine

open Sys2Proof (Byte HalfId)

/-- The lockstep state of one half; nothing is left to compare. -/
def putLs (s : State) (h : HalfId) (st : Nat) : State :=
  modLge (wr s h Reg.GAV_LS_STAT_STATE st) h fun l => { l with sigs := [], got := 0, images := [], copySent := [], sweepMsg := none }

/-- The lockstep state of a half. -/
def lsState (s : State) (h : HalfId) : Nat := rd s h Reg.GAV_LS_STAT_STATE

/-! ### Replay (R509, R510, R481) -/

/-- The standby `h` replays the boundary of cycle `c`: what ended is published inside the half, the leader's words are
latched, the tasks released and dispatched. -/
def replayBoundary (s : State) (h : HalfId) (c : Nat) (words : List (Nat × Nat)) (tasks : List Nat) : State :=
  let s1 := modLge s h fun l => { l with
    pub := l.next
    mem := words.foldl (fun m e => nset m e.1 e.2)
      (serase (fun k => decide (k < 0x800) || (decide (0x1000 ≤ k) && decide (k < 0x2000))) l.mem) }
  let s2 := edgeTriggers (decideOut s1 h) h
  dispatch (((taskRecs s2 h).filter fun r => tasks.contains r.task).foldl (fun s r => releaseAt s h c r) s2) h

/-- LS_IMAGE (R509, R510): the standby `h` takes the oldest boundary of its leader at the position it names; `lag` is
the replay lag in µs. -/
def execLsImage (h : HalfId) (lag : Nat) (s : State) : Host.Outcome State Fault Refusal :=
  if ownsLogic s h || !alive s h || !(lsState s h == 1 || lsState s h == 2) then .next s
  else match (half s (other h)).lge.images with
    | [] => .next s
    | (c, words, tasks) :: rest =>
      let s1 := wr (modLge s (other h) fun l => { l with images := rest }) h Reg.GAV_LS_STAT_LAG (min 65535 lag)
      .next (if logicRuns s1 h then replayBoundary s1 h c words tasks else s1)

/-- LS_END (R511): the standby `h` receives the leader's signature of an END and compares it at the same END. -/
def execLsEnd (h : HalfId) (s : State) : Host.Outcome State Fault Refusal :=
  .next (if !ownsLogic s h && decide ((half s h).lge.got < (half s (other h)).lge.sigs.length) then
      lsCompare (modLge s h fun l => { l with got := l.got + 1 }) h
    else s)

/-- LS_STOP (R481): the standby `h` stops where its leader's logic stopped. -/
def execLsStop (h : HalfId) (s : State) : Host.Outcome State Fault Refusal :=
  let g := other h
  .next (if !ownsLogic s h && logicRuns s h && twoHalves s && !logicRuns s g then
      logicHalt s h (rd s g Reg.LGE_STAT_CAUSE) (rd s g Reg.LGE_STAT_TASK) (rd s g Reg.LGE_STOP_PC_PC)
    else s)

/-- LOCKSTEP_LAG (R510): more than 2 ms behind, lockstep ends and the standby reloads. -/
def execLockstepLag (h : HalfId) (s : State) : Host.Outcome State Fault Refusal :=
  .next (if !ownsLogic s h && lsState s h == 1 then
      (let s1 := endLockstep s
       match leader s1 with
       | some l => if reloadReady s1 l then startReload s1 else s1
       | none => s1)
    else s)

/-! ### Sweep (R512) -/

/-- LATENT_DIVERGE of half `h`, at most once per minute, with the count since the last entry. -/
def latentEntry (s : State) (h : HalfId) (n : Nat) : State :=
  let g := (half s h).gav
  let m := g.latentNew + n
  if m = 0 then s
  else if g.latentAt = 0 ∨ g.latentAt + 7500000000 ≤ s.ticks + 1 then
    ledgerH (modGav s h fun x => { x with latentNew := 0, latentAt := s.ticks + 1 }) h 0x0E0C (p4 m)
  else modGav s h fun x => { x with latentNew := m }

/-- The memory-health warning (R512): more than 16 latent divergences within 3,600 s. -/
def memHealth (s : State) (h : HalfId) : State :=
  let n := (lastHour s (half s h).gav.latent).length
  let on := nget (half s h).tally (7 * 65536 + 3) == 1
  if decide (16 < n) == on then s
  else tallySet (ledgerH s h 0x0E0D (p4s [n, if on then 2 else 1])) h 7 3 (b2n (!on)) 0x0E0D

/-- LS_SWEEP_TIMER (R512): the leader `h` starts a sweep; an entry the standby owes is written. -/
def execLsSweepTimer (h : HalfId) (s : State) : Host.Outcome State Fault Refusal :=
  if !ownsLogic s h || lsState s h != 1 then .next s
  else .next (latentEntry (modLge s h fun l => { l with sweep := 1, sweepMsg := none }) (other h) 0)

/-- One swept word at the standby: the first differing live word, and how many dead ones were overwritten. -/
def sweepWord (s : State) (h : HalfId) (e : Nat × Nat) : State × Option Nat × Nat :=
  if lw s h e.1 = e.2 ∨ (half s h).lge.copyPend.contains e.1 = true then (s, none, 0)
  else if isLive s h e.1 then (s, some e.1, 0)
  else (lput s h e.1 e.2, none, 1)

/-- LS_SWEEP (R512): the standby `h` compares the words of a message at the END it names. -/
def execLsSweep (h : HalfId) (s : State) : Host.Outcome State Fault Refusal :=
  match (half s (other h)).lge.sweepMsg with
  | none => .next s
  | some (tag, words) =>
    if ownsLogic s h || lsState s h != 1 || decide ((half s h).lge.ends < tag) then .next s
    else
      let s1 := modLge s (other h) fun l => { l with sweepMsg := none }
      if (half s h).lge.ends ≠ tag then .next s1
      else
        let r := words.foldl (fun (r : State × Option Nat × Nat) e =>
          let x := sweepWord r.1 h e
          (x.1, (match r.2.1 with | some o => some o | none => x.2.1), r.2.2 + x.2.2)) (s1, none, 0)
        let n := r.2.2
        let s2 := modGav (satAdd r.1 h Reg.GAV_LS_CNT_LATENT n) h fun x => { x with
          latent := (List.replicate n s.ticks ++ lastHour s x.latent).take 64 }
        let s3 := if n = 0 then s2 else memHealth (latentEntry s2 h n) h
        .next (match r.2.1 with
          | some o => lsMismatch s3 h ((runningTask s3 h).map (·.task) |>.getD 0) (rd s3 h Reg.LGE_CYCLE_COUNT) o
          | none => s3)

/-- MEM_HEALTH_CLEAR (R512). -/
def execMemHealthClear (h : HalfId) (s : State) : Host.Outcome State Fault Refusal :=
  .next (if nget (half s h).tally (7 * 65536 + 3) = 1 then memHealth s h else s)

/-! ### Copies and reload (R119, R513 step 4) -/

/-- The standby `h` loads the pending-copy words that its leader sent; the leader writes LIVE_COPIED after the last. -/
def loadCopies (s : State) (h : HalfId) : State :=
  let g := other h
  let sent := (half s g).lge.copySent
  if sent.isEmpty then s
  else
    let left := fun (p : List Nat) => p.filter fun o => !(sent.map fun e => e.1).contains o
    let s1 := modLge s h fun l => { l with mem := sent.foldl (fun m e => nset m e.1 e.2) l.mem, copyPend := left l.copyPend }
    let s2 := modLge s1 g fun l => { l with copyPend := left l.copyPend, copySent := [] }
    let l := (half s2 g).lge
    let s3 := (halves s2).foldl (fun s x => wr s x Reg.SET_ACTIVE_LIVE_PENDING (min l.copyPend.length 4095)) s2
    if l.copyPend.isEmpty then ledgerH s3 g 0x0308 (p4s [l.copyTotal, (s.ticks + 1 - l.copyAt) / 125]) else s3

/-- The reload: the standby takes the comparison scope, the task images and the tasks of its leader as they stand. -/
def reload (s : State) (h : HalfId) : State :=
  let g := other h
  let s1 := modLge s g fun l => { l with images := [], sigs := [], copyPend := [], copySent := [], sweep := 0, sweepMsg := none }
  let src := (half s1 g).lge
  let s2 := modLge s1 h fun l => { src with
    own := false, restart := 0, got := 0, retDirty := l.retDirty || src.mem != l.mem }
  let s3 := wrB (wrB s2 h Reg.LGE_STAT_RUN (logicRuns s g)) h Reg.LGE_STAT_WARM (rdB s g Reg.LGE_STAT_WARM)
  (halves s3).foldl (fun s x => wr s x Reg.SET_ACTIVE_LIVE_PENDING 0) (tallySet s3 h 4 1 0 0x0D01)

/-- LS_COPY (R119, R513): copies in lockstep, the whole state while reloading. -/
def execLsCopy (h : HalfId) (s : State) : Host.Outcome State Fault Refusal :=
  .next (if ownsLogic s h || !twoHalves s || !alive s h then s
    else if lsState s h = 1 then loadCopies s h
    else if lsState s h = 2 ∧ lsState s (other h) = 2 then reload s h
    else s)

/-! ### Self-test (R513, R514) -/

/-- MISMATCH (R513): the leader `h` learns of its standby's mismatch and starts its self-test. -/
def execMismatch (h : HalfId) (s : State) : Host.Outcome State Fault Refusal :=
  .next (if ownsLogic s h && twoHalves s && lsState s (other h) == 3 && lsState s h != 3 then selfTest s h else s)

/-- Half `h` is failed for leadership: Tally reports its LOGIC and LOCKSTEP failed. -/
def failedLead (s : State) (h : HalfId) : State :=
  tallySet (tallySet (wrB s h Reg.GAV_STAT_FAILED_LEAD true) h 4 2 2 0x0E09) h 11 2 2 0x0E09

/-- A divergence event, as half `h` counts it; the standby writes it, and is DEGRADED by the third within 3,600 s. -/
def divergence (s : State) (h : HalfId) : State :=
  let l := lastHour s (s.ticks :: (half s h).gav.diverge)
  let s1 := wr (modGav s h fun x => { x with diverge := l.take 8 }) h Reg.GAV_LS_STAT_DIVERGE (min 3 l.length)
  if ownsLogic s h then s1
  else
    let s2 := ledgerH s1 h 0x0E0A (p4s [0, l.length])
    if 3 ≤ l.length ∧ rdB s2 h Reg.GAV_LS_STAT_DEGRADED = false then
      ledgerH (tallySet (wrB s2 h Reg.GAV_LS_STAT_DEGRADED true) h 11 1 1 0x0E0B) h 0x0E0B (p4 1)
    else s2

/-- The outcome of the self-tests in half `h`, once it knows both results (R513). -/
def testOutcome (s : State) (h : HalfId) : State :=
  let g := (half s h).gav
  if lsState s h ≠ 3 ∨ g.ownTest = 0 ∨ g.partnerTest = 0 then s
  else
    let lead := ownsLogic s h
    let leadFails := if lead then g.ownTest == 2 else g.partnerTest == 2
    let standbyFails := if lead then g.partnerTest == 2 else g.ownTest == 2
    if standbyFails then
      (let s1 := putLs s h 0
       if lead then s1 else failedLead (modGav s1 h fun x => { x with noReload := true }) h)
    else if leadFails then
      (let s1 := putLs s h 0
       if !lead then s1
       else
         let s2 := failedLead s1 h
         if rdB s (other h) Reg.GAV_LS_STAT_DEGRADED || g.handover != 0 then s2 else modGav s2 h fun x => { x with handover := 4 })
    else divergence (putLs s h 2) h

/-- SELFTEST_DONE (R513): half `h` has finished its self-test and sends its result. -/
def execSelftestDone (h : HalfId) (pass : Bool) (s : State) : Host.Outcome State Fault Refusal :=
  .next (if lsState s h = 3 ∧ (half s h).gav.ownTest = 0 then
      (let r := if pass then 1 else 2
       testOutcome (modGav s h fun x => { x with ownTest := r, testMsg := r }) h)
    else s)

/-- SELFTEST_RESULT (R513): half `h` receives its partner's result. -/
def execSelftestResult (h : HalfId) (s : State) : Host.Outcome State Fault Refusal :=
  let r := (half s (other h)).gav.testMsg
  .next (if lsState s h = 3 ∧ r ≠ 0 then
      testOutcome (modGav (modGav s (other h) fun x => { x with testMsg := 0 }) h fun x => { x with partnerTest := r }) h
    else s)

/-! ### Memory errors (R523) -/

/-- ECC_UNCORRECTABLE (R513, R523): region 0 setting tables, template store or tile state, 1 logic memory, 2 any other. -/
def execEccUncorrectable (h : HalfId) (region : Nat) (s : State) : Host.Outcome State Fault Refusal :=
  if !alive s h then .next s
  else if region = 0 then .next (tallyVital s h 7 1 2 0)
  else
    let s1 := tallySet s h 7 2 1 0
    .next (if region = 1 ∧ ownsLogic s h = false then lsMismatch s1 h 0 (rd s h Reg.LGE_CYCLE_COUNT) 0 else s1)

/-- SCRUB_PASS (R523): a pass of the background scrub that corrected `corrected` words ends. -/
def execScrubPass (h : HalfId) (corrected : Nat) (s : State) : Host.Outcome State Fault Refusal :=
  .next (if alive s h then tallySet s h 7 4 (b2n (decide (64 < corrected))) 0 else s)

end Sys2Proof.Machine
end

