-- ==== Sys2Proof/Machine/Commit.lean ====
section
/-!
DEFINITION. Commits to the store: the recorder's commit channel through Crate (R559, R560, R590 to R592), the ends of
commit units (R604, R605), and what waits for them.
-/

namespace Sys2Proof.Machine

open Sys2Proof (Byte HalfId)

/-! ### Segments in native order (R551, R556, R559) -/

/-- The native bytes of a closed segment. -/
def nativeBytes (s : State) (h : HalfId) (i : Image) (ar : AreaRec) (g : Segment) : List Byte :=
  let m := (half s h).acq.mem
  let w := instW i ar
  let hb := nativeHead (slotGet m ar g.slot 0 124) (g.pre + g.post) w
  hb ++ le 4 (crc32 hb) ++ slotGet m ar g.slot 128 (dataOffset ar - 128) ++
    ((List.range (g.pre + g.post)).map fun n => slotGet m ar g.slot (dataOffset ar + nativePos ar g n * w) w).flatten

/-- Word size and channels of an area's commit job (R590). -/
def areaGeometry (i : Image) (ar : AreaRec) : Nat × Nat :=
  if ar.kind = 1 then (2, ar.c)
  else if ar.kind = 2 then (4, ar.c)
  else (4, 1 + ((ar.entries.map (entrySize i ar)).foldl (· + ·) 0) / 4)

/-- The closed segment of the running commit job. -/
def jobSegment (s : State) (h : HalfId) : Option Segment :=
  match (half s h).acq.job with
  | some (a, q) => (half s h).acq.segs.find? fun g => g.area == a && g.seq == q
  | none => none

/-- Does a pending segment come before another: the earlier close, then the lower area? -/
def closesFirst (x y : Segment) : Bool := x.tClose < y.tClose || (x.tClose == y.tClose && decide (x.area < y.area))

/-- The pending segment that the next commit job takes. -/
def nextPending (s : State) (h : HalfId) : Option Segment :=
  ((half s h).acq.segs.filter fun g => g.pending).foldl (fun b g =>
    match b with
    | none => some g
    | some x => if closesFirst g x then some g else some x) none

/-- COMMIT_JOB_START (R559): the earliest pending segment, once it has its measurements. -/
def execCommitJobStart (h : HalfId) (s : State) : Host.Outcome State Fault Refusal :=
  match nextPending s h with
  | none => .next s
  | some g =>
    .next (match areaRec s h g.area, (half s h).image with
      | some ar, some i =>
        if (half s h).acq.job.isSome || !g.measured || g.retried || rdB s h Reg.PWR_PF_STAT_PF || !running s h then s
        else
          let s1 := modAcq s h fun q => { q with job := some (g.area, g.seq) }
          let s2 := modCrt s1 h fun c => { c with seg := nativeBytes s h i ar g, pos := 0, out := [], blocks := 0 }
          if hasCrate s then wrB s2 h Reg.CRT_STAT_CBUSY true else s2
      | _, _ => s)

/-- The next block of a segment's bytes from `pos`: SAMPLE with AUTO, or RAW without Crate (R590, R592). -/
def segmentBlock (crate : Bool) (i : Image) (ar : AreaRec) (seg : List Byte) (pos : Nat) : Nat × List Byte :=
  let g := areaGeometry i ar
  let n := cutLen 1 g.1 g.2 (dataOffset ar) (seg.length - pos) (pos == 0)
  let data := (seg.drop pos).take n
  (n, codeBlock (if crate then 1 else 3) 3 g.1 g.2 (dataOffset ar) (pos == 0) (decide (seg.length ≤ pos + n)) data [])

/-- One block of the commit job is written; its counters follow (R600). -/
def commitBlock (s : State) (h : HalfId) : State :=
  match jobSegment s h, (half s h).image with
  | some g, some i => match areaRec s h g.area with
    | some ar =>
      let c := (half s h).crt
      if c.seg.length ≤ c.pos then s
      else
        let b := segmentBlock (hasCrate s) i ar c.seg c.pos
        let s1 := modCrt s h fun c => { c with pos := c.pos + b.1, out := c.out ++ b.2, blocks := c.blocks + 1 }
        if !hasCrate s then s1
        else
          let s2 := satAdd (satAdd s1 h Reg.CRT_CIN_BYTES b.1) h Reg.CRT_COUT_BYTES b.2.length
          satAdd (satAdd s2 h Reg.CRT_CBLK_BLOCKS 1) h Reg.CRT_CBLK_FALLBACK (hdr b.2 2 1 % 2)
    | none => s
  | _, _ => s

/-- The commit job ends; its segment is no longer pending. -/
def jobDrop (s : State) (h : HalfId) : State :=
  match (half s h).acq.job with
  | none => s
  | some (a, q) =>
    let s1 := modAcq s h fun x => { x with
      job := none, segs := x.segs.map fun g => if g.area = a ∧ g.seq = q then { g with pending := false } else g }
    let s2 := modCrt s1 h fun c => { c with seg := [], pos := 0, out := [], blocks := 0 }
    if hasCrate s then wrB s2 h Reg.CRT_STAT_CBUSY false else s2

/-- An uncorrectable source read ends the commit job (R591): the segment counts as not committed. -/
def commitMemErr (s : State) (h : HalfId) : State :=
  match jobSegment s h with
  | none => s
  | some g =>
    let c := (half s h).crt
    let src := match areaRec s h g.area with | some ar => slotAddr ar g.slot c.pos | none => 0
    let s1 := ledgerH (jobDrop s h) h 0x1001 (p4s [g.area, g.seq, c.blocks, src])
    notCommitted s1 h g.area 2

/-- CRATE_BLOCK_DONE (R584, R588, R591): a block of the commit channel or of the host job completes. -/
def execCrateBlockDone (h : HalfId) (commit memErr : Bool) (choice : List Byte) (s : State) : Host.Outcome State Fault Refusal :=
  .next (if commit then (if memErr then commitMemErr s h else commitBlock s h)
    else if hasCrate s then hostBlock s h choice memErr else s)

/-! ### REC units (R560, R610) -/

/-- Pages of a half's REC. -/
def recPages : Nat := 47 * 256

/-- The page after a unit. -/
def unitEnd (u : RecUnit) : Nat := u.page + unitPages u.payload.length

/-- Where the next unit of `n` pages goes: after the newest unit, at the start of the region where it would run past its end. -/
def recPlace (us : List RecUnit) (n : Nat) : Nat :=
  match us.getLast? with
  | some u => if unitEnd u + n ≤ recPages then unitEnd u else 0
  | none => 0

/-- Release the oldest units until `n` pages at `p` are free (R560). -/
def recRelease (p n : Nat) : List RecUnit → List RecUnit
  | [] => []
  | u :: t => if (u :: t).any fun v => decide (v.page < p + n) && decide (p < unitEnd v) then recRelease p n t else u :: t

/-- A committed segment enters REC (R559, R560): the released units are counted, and USED follows. -/
def recCommit (s : State) (h : HalfId) (a q : Nat) (payload : List Byte) : State :=
  let us := recUnits s h
  let n := unitPages payload.length
  let p := recPlace us n
  let kept := recRelease p n us
  let seq := match us.getLast? with | some u => u.unitSeq + 1 | none => 1
  let new := kept ++ [{ page := p, unitSeq := seq, area := a, segSeq := q, payload := payload }]
  let s1 := satAdd (putRecUnits s h new) h Reg.ACQ_REC_RELEASED (us.length - kept.length)
  let used := (new.map fun u => unitPages u.payload.length).foldl (· + ·) 0
  wr (wr s1 h Reg.ACQ_REC_USED (4 * used)) h (Reg.ACQ_ACOMM_SEQ a) q

/-- The commit job's unit is written, or the store refuses it (R559, R560): a first refusal waits for the retry. -/
def commitEnd (s : State) (h : HalfId) (ok : Bool) (status : Nat) : State :=
  match (half s h).acq.job, jobSegment s h with
  | some (a, q), some g =>
    let c := (half s h).crt
    if c.pos < c.seg.length then s
    else if ok then tallySet (recCommit (jobDrop s h) h a q c.out) h 12 2 0 0x0F03
    else if !g.retried then
      modAcq s h fun x => { x with segs := x.segs.map fun y => if y.area = a ∧ y.seq = q then { y with retried := true } else y }
    else notCommitted (ledgerH (jobDrop s h) h 0x0F03 (p4s [a, q, status])) h a 2
  | _, _ => s

/-- COMMIT_JOB_DONE (R559, R560). -/
def execCommitJobDone (h : HalfId) (ok : Bool) (status : Nat) (s : State) : Host.Outcome State Fault Refusal :=
  .next (match jobSegment s h with
    | some g => if g.retried then s else commitEnd s h ok status
    | none => s)

/-- COMMIT_RETRY (R560). -/
def execCommitRetry (h : HalfId) (ok : Bool) (status : Nat) (s : State) : Host.Outcome State Fault Refusal :=
  .next (match jobSegment s h with
    | some g => if g.retried then commitEnd s h ok status else s
    | none => s)

/-! ### SET and RET units (R485, R604, R607, R608) -/

/-- The staging whose group has become valid in SET ends DONE (R113). -/
def stageDone (s : State) (h : HalfId) (g : Nat) : State :=
  match (half s h).mode.pendSet with
  | some p =>
    if p.switch || p.group != g then s
    else
      let s1 := (halves s).foldl (fun s x =>
        if x = h ∨ partnerIn s h = true then wrBit s x Reg.SET_ACTIVE_STAGED g true else s) s
      setEnd (ledgerH s1 h 0x0304 (p4s [g, rd s h Reg.SET_CRC_CRC])) h 0x02
  | none => s

/-- A commit of partition `part` at half `h` is valid. -/
def commitOk (s : State) (h : HalfId) : CommitJob → State
  | .set u => stageDone (unitValid s h (.set u)) h u.group
  | .ret u =>
    let s1 := wr (unitValid s h (.ret u)) h Reg.LGE_RET_SEQ u.unitSeq
    if (half s1 h).lge.retDirty then retCommit s1 h else wrB s1 h Reg.LGE_RET_PENDING false

/-- A commit fails (R605, R625): a staging ends ABORTED; a retentive set is committed again at the next END. -/
def commitFail (s : State) (h : HalfId) (page : Nat) : CommitJob → State
  | .set u =>
    let s1 := storeError s h 1 page true
    match (half s1 h).mode.pendSet with
    | some p => if p.switch || p.group != u.group then s1 else setEnd s1 h 0x19
    | none => s1
  | .ret _ => modLge (storeError s h 2 page true) h fun l => { l with retDirty := true }

/-- STORE_COMMIT_DONE (R604, R605): the oldest commit of a partition ends; a segment's end is the recorder's. -/
def execStoreCommitDone (h : HalfId) (part : Nat) (ok : Bool) (page : Nat) (s : State) : Host.Outcome State Fault Refusal :=
  .next (if part = 3 then
      (if (half s h).acq.job.isSome then commitEnd (if ok then s else storeError s h 3 page true) h ok 1 else s)
    else match firstJob s h part with
      | none => s
      | some j =>
        let s1 := dropJob s h part
        if ok then commitOk s1 h j else commitFail s1 h page j)

end Sys2Proof.Machine
end

