-- ==== Sys2Proof/Machine/SetChecks.lean ====
section
/-!
DEFINITION. The checks that STAGE applies to a setting group (R110, R113): the words of every slot type with their
ranges (R294, R318, R319, R368, R394, R444, R548), the templates (R284) and the user curves (R322).
-/

namespace Sys2Proof.Machine

/-! ### Slot types (R110) -/

/-- The type the image gives a slot; 0 where it gives none. -/
def slotType (i : Image) (arc : Bool) (k : Nat) : Nat :=
  if k < 192 then (match i.general.find? fun r => r.slot == k with | some r => r.type | none => 0)
  else if k < 240 then (match i.fast.find? fun r => r.slot == k with | some r => r.type | none => 0)
  else if k < 244 then (if arc then 0xF0 else 0)
  else if k < 248 then 0xF1
  else if k < 252 then 0xF2
  else 0

/-- The image places fast function `f` with one of the types `ts`. -/
def fastHolds (i : Image) (ts : List Nat) (f : Nat) : Bool :=
  decide (f < 48) && i.fast.any fun r => r.slot == 192 + f && ts.contains r.type

/-! ### Fields of setting words -/

/-- A field of a setting word: word, bits, and the values the spec allows. -/
abbrev SetField := Nat × Nat × Nat × (Nat → Bool)

/-- A value from `lo` to `hi`. -/
def within (lo hi : Nat) (v : Nat) : Bool := decide (lo ≤ v) && decide (v ≤ hi)

/-- Any value of the field. -/
def anyV (_ : Nat) : Bool := true

/-- Only 0. -/
def only0 (v : Nat) : Bool := v == 0

/-- Words 1 to 15 of a slot keep to a list of fields: each in its range, every other bit 0. -/
def wordsOk (w : Nat → Nat) (fs : List SetField) : Bool :=
  (List.range 15).all fun k =>
    let mine := fs.filter fun f => f.1 == k + 1
    mine.all (fun f => f.2.2.2 (bits (w (k + 1)) f.2.1 f.2.2.1)) &&
      mine.foldl (fun v f => putField v f.2.1 f.2.2.1 0) (w (k + 1)) == 0

/-! ### Fast functions (R294) -/

/-- IOC, restrained or not. -/
def iocFields (restrained : Bool) : List SetField :=
  [(1, 16, 16, anyV), (1, 15, 0, within 1 0xFFFF), (2, 31, 16, within 0x4000 0x7FFF), (2, 15, 8, within 1 255),
   (2, 3, 0, within 1 8), (3, 31, 16, if restrained then within 100 65535 else only0),
   (3, 0, 0, if restrained then anyV else only0)]

def didtFields : List SetField :=
  [(1, 29, 24, within 2 32), (1, 16, 16, anyV), (1, 15, 0, within 1 0xFFFF), (2, 31, 16, within 0x4000 0x7FFF),
   (2, 15, 8, within 1 255), (2, 3, 0, within 1 8), (3, 15, 0, within 0 0x7FFF)]

def sigFields : List SetField :=
  [(1, 24, 24, anyV), (1, 20, 16, within 0 16), (1, 15, 0, within 1 0x7FFF), (2, 31, 16, within 0 0x4000),
   (2, 15, 0, within 0x4000 0x7FFF), (3, 31, 16, within 1 0xFFFF), (3, 15, 0, within 1 10000), (4, 15, 0, anyV)]

/-! ### Timed functions (R318, R319) -/

def levelField : SetField := (1, 23, 0, within 1 0x7FFFFF)
def drField : SetField := (2, 31, 16, within 0x4000 0x7FFF)
def delayField : SetField := (3, 31, 0, within 0 600000000)

/-- A curve code that R319 supports. -/
def curveCode (v : Nat) : Bool := within 0 6 v || within 8 11 v

/-- TOC with its RESET mode. -/
def tocFields (reset : Nat) : List SetField :=
  [levelField, drField, (2, 15, 8, curveCode), (2, 1, 0, within 0 2), (3, 31, 16, within 10 15000),
   (3, 15, 0, within 0 10000), (4, 31, 16, if reset = 1 then within 1 60000 else only0),
   (4, 15, 0, if reset = 2 then within 1 65535 else only0), (5, 7, 0, within 2 40)]

def dtocFields : List SetField := [levelField, drField, (2, 15, 0, within 0 60000), delayField]

def thmFields : List SetField :=
  [levelField, (2, 31, 16, within 0x4000 0x7FFF), (2, 15, 0, within 0x4000 0x7FFF), (3, 31, 16, within 1 65535),
   (3, 15, 0, within 1 65535), (4, 31, 16, within 0 0x2000), (4, 15, 0, within 0 0x7FFF)]

/-- UV with `n` inputs and its LEVEL. -/
def uvFields (n level : Nat) : List SetField :=
  [levelField, (2, 31, 16, within 0x8001 0xA000), (2, 9, 8, within 1 n), delayField, (4, 23, 0, fun v => decide (v < level))]

/-- OV with `n` inputs. -/
def ovFields (n : Nat) : List SetField := [levelField, drField, (2, 9, 8, within 1 n), delayField]

/-- UF and OF. -/
def freqFields : List SetField :=
  [(1, 23, 0, within 10000 100000), (2, 15, 0, within 10 5000), delayField, (4, 23, 0, within 1 0x7FFFFF)]

def rocofFields : List SetField :=
  [(1, 25, 24, within 0 2), (1, 23, 0, within 10 20000), drField, (2, 7, 0, within 2 50), delayField,
   (4, 23, 0, within 1 0x7FFFFF)]

/-! ### Comparison functions (R367, R368) -/

/-- A field of the AC mode only. -/
def acOnly (ac : Bool) (p : Nat → Bool) : Nat → Bool := if ac then p else only0
/-- A field of the DC mode only. -/
def dcOnly (ac : Bool) (p : Nat → Bool) : Nat → Bool := if ac then only0 else p

/-- A signed angle from −180 to +179 degrees. -/
def rcaOk (v : Nat) : Bool := let a := toSigned 16 v; decide (-180 ≤ a) && decide (a ≤ 179)

def dirFields (ac : Bool) : List SetField :=
  [(1, 26, 26, dcOnly ac anyV), (1, 25, 24, within 1 2), levelField, drField, (2, 15, 8, acOnly ac (within 0 30)),
   delayField, (4, 31, 16, acOnly ac rcaOk), (4, 7, 0, acOnly ac (within 0 50)),
   (5, 23, 0, acOnly ac (within 1 0x7FFFFF)), (6, 15, 0, dcOnly ac anyV)]

/-- EF: its mode, whether the image gives it a V0 input, and DIRN. -/
def efFields (ac v0 : Bool) (dirn : Nat) : List SetField :=
  [(1, 25, 24, if ac && v0 then within 0 2 else only0), levelField, drField, (2, 15, 8, acOnly ac (within 0 30)),
   delayField, (4, 31, 16, acOnly ac rcaOk), (5, 23, 0, if ac && dirn != 0 then within 1 0x7FFFFF else only0)]

/-- The SCALE words of a DIFF with `n` inputs. -/
def scaleFields (n : Nat) : List SetField :=
  (List.range 16).map fun j =>
    (8 + j / 2, 16 * (j % 2) + 15, 16 * (j % 2), if j < n then within 1 0xFFFF else only0)

/-- DIFF: mode, inputs, whether one is a stream, and its words. -/
def diffFields (i : Image) (n : Nat) (stream : Bool) (w : Nat → Nat) : List SetField :=
  let ac := bit (w 1) 24
  let sig := !ac && bits (w 5) 15 8 != 0xFF
  [(1, 25, 25, if sig then anyV else only0), (1, 24, 24, anyV), levelField, (2, 31, 16, within 0x0400 0x4000),
   (2, 15, 0, within (w 2 / 65536) 0x6000), (3, 23, 0, within 0 0x7FFFFF),
   (4, 23, 0, fun v => v == 0 || decide (bits (w 1) 23 0 < v)),
   (5, 31, 16, acOnly ac fun v => v == 0 || within 0x0666 0x4000 v),
   (5, 15, 8, dcOnly ac fun v => v == 0xFF || fastHolds i [0x23] v), (5, 3, 0, within 1 8),
   (6, 31, 16, within 0x4000 0x7FFF), (6, 7, 0, dcOnly ac (within 1 64)),
   (7, 31, 16, if sig then within 100 65535 else only0), (7, 15, 0, if stream then within 50 5000 else only0)]
    ++ scaleFields n

/-- A trip group of the image has general function `k` among its inputs (R366). -/
def groupNames (i : Image) (g k : Nat) : Bool :=
  (i.tripSrc.zipIdx).any fun e => bit (i.tripRows.getD g 0) e.2 && e.1 % 256 == 1 && e.1 / 65536 == k

/-- A start group of BF function `k`. -/
def startOk (i : Image) (k g : Nat) : Bool := g == 0xFF || (decide (g < 64) && !groupNames i g k)

def bfFields (i : Image) (k : Nat) (w : Nat → Nat) : List SetField :=
  [(1, 24, 24, anyV), (1, 23, 0, within 1 0x7FFFFF), drField, (2, 15, 8, startOk i k),
   (2, 7, 0, fun v => startOk i k v && !(v == 0xFF && bits (w 2) 15 8 == 0xFF)), (3, 31, 0, within 0 10000000),
   (4, 31, 0, within (w 3) 10000000), (5, 15, 0, within 0 20000)]

/-! ### Arc, field I/O and recorder triggers (R394, R444, R548) -/

def arcFnFields : List SetField := [levelField, drField, (2, 15, 0, within 1 0xFFFF), delayField]

/-- A current function of an arc element. -/
def curOk (i : Image) (v : Nat) : Bool := v == 0xFF || fastHolds i [0x21, 0x22] v

/-- The four channels of an arc slot, and the code period in slot 240. -/
def arcFields (i : Image) (k : Nat) (w : Nat → Nat) : List SetField :=
  ((List.range 4).map fun j =>
    let a := w (1 + 3 * j)
    let b := w (2 + 3 * j)
    let none_ := bits a 31 30 == 1 && bits b 31 24 == 0xFF
    ([(1 + 3 * j, 31, 30, within 0 2), (1 + 3 * j, 29, 29, anyV), (1 + 3 * j, 17, 0, within 1 200000),
      (2 + 3 * j, 31, 24, curOk i), (2 + 3 * j, 23, 16, fun v => curOk i v && !(none_ && v == 0xFF)),
      (2 + 3 * j, 15, 8, within 0 100), (2 + 3 * j, 7, 0, within 0x80 0xF0), (3 + 3 * j, 31, 20, within 10 2000),
      (3 + 3 * j, 17, 0, if bit a 29 then within 1 100000 else only0)] : List SetField)).flatten
    ++ (if k = 240 then [(13, 15, 0, within 500 60000)] else [])

def ioFields : List SetField :=
  ((List.range 16).map fun n =>
    ([(1 + n / 2, 16 * (n % 2) + 7, 16 * (n % 2), within 1 200), (1 + n / 2, 16 * (n % 2) + 8, 16 * (n % 2) + 8, anyV)] :
      List SetField)).flatten
    ++ [(9, 0, 0, anyV), (9, 3, 1, within 0 4), (9, 16, 16, anyV), (9, 19, 17, within 0 4), (10, 15, 8, anyV), (10, 7, 0, anyV)]

/-- A designator of a chain output that the image defines (R233). -/
def chainOutOk (i : Image) (d : Nat) : Bool :=
  decide (d < 2048) && i.chains.any fun r => r.chain == d % 256 && (match d / 256 with
    | 0 => true
    | 1 => bit r.det 29
    | 2 => bits r.det 11 10 != 0
    | 3 => bit r.det 28
    | _ => false)

/-- A matrix source record of R405 that the image defines; a subscribed point that is not in the Bazaar's list is not
defined. -/
def sourceOk (i : Image) (arc : Bool) (v : Nat) : Bool :=
  let kind := v % 256
  let sel := v / 256 % 256
  let idx := v / 65536
  (decide (sel ≤ 1) || decide (3 < kind)) && (decide (kind ≤ 3) || sel == 0) && (match kind with
    | 1 => i.general.any fun r => r.slot == idx && decide (idx < 192)
    | 2 => i.fast.any fun r => r.slot == 192 + idx && decide (idx < 48)
    | 3 => decide (idx < 16) && arc
    | 4 => decide (idx < 16) && arc
    | 5 => true
    | 6 => true
    | 7 => decide (idx < i.arcade.subs.length)
    | _ => false)

/-- The source of a recorder trigger in a mode (R548). -/
def trigSourceOk (i : Image) (arc : Bool) (mode v : Nat) : Bool :=
  if mode = 0 then true
  else if 4 ≤ mode then sourceOk i arc v
  else bits v 15 8 == 0 && ((v % 256 == 0x10 && chainOutOk i (v / 65536))
    || (v % 256 == 0x11 && decide (v / 65536 < 24)))

def trigFields (i : Image) (arc : Bool) (w : Nat → Nat) : List SetField :=
  ((List.range 4).map fun j =>
    let m := bits (w (1 + 3 * j)) 31 28
    ([(1 + 3 * j, 31, 28, within 0 6), (1 + 3 * j, 24, 24, anyV),
      (1 + 3 * j, 20, 16, if m = 3 then within 2 32 else only0),
      (1 + 3 * j, 7, 0, fun v => (m == 0 || v != 0) &&
        (List.range 8).all fun a => !bit v a || (match i.areas[a]? with | some r => r.kind != 0 | none => false)),
      (2 + 3 * j, 31, 0, trigSourceOk i arc m),
      (3 + 3 * j, 23, 0, if m = 0 then anyV else if m ≤ 3 then within 1 0xFFFFFF else only0)] : List SetField)).flatten

/-! ### Templates and user curves (R284, R322) -/

/-- The templates of fast slot `f`: an enabled one of a SIG is not zero, any other slot has none. -/
def templatesOk (g : SetGroup) (f type ten : Nat) : Bool :=
  let own := fun j => (g.templates.any fun e => e.1 / 512 == f && e.1 / 32 % 16 == j && e.2 != 0)
  if type = 0x23 then (List.range 16).all fun j => !bit ten j || own j
  else !(g.templates.any fun e => e.1 / 512 == f && e.2 != 0)

/-- The first `n` points of a curve follow R322. -/
def pointsOk : List Nat → Bool
  | [] => true
  | [p] => decide (1024 ≤ pointM p) && p % 4096 != 0
  | p :: q :: t => decide (1024 ≤ pointM p) && p % 4096 != 0 && decide (pointM p < pointM q) &&
      decide (pointT q ≤ pointT p) && pointsOk (q :: t)

/-- User curve `c` of a group: two or more used points, then only zero words. -/
def curveOk (g : SetGroup) (c : Nat) : Bool :=
  let ps := (List.range 64).map fun p => nget g.curves (c * 64 + p)
  let used := ps.takeWhile (· != 0)
  decide (2 ≤ used.length) && (ps.drop used.length).all (· == 0) && pointsOk used

/-! ### A slot and a group (R113) -/

/-- The inputs of a general slot. -/
def slotInputs (i : Image) (k : Nat) : List Nat :=
  match i.general.find? fun r => r.slot == k with
  | some r => r.inputs
  | none => []

/-- Chain inputs of a DIR or EF come from phasor chains (R348: AC). -/
def phasorInputs (i : Image) (ins : List Nat) : Bool := decide (6 ≤ chainResp i (ins.headD 0 % 256))

/-- The fields of a slot of type `type`. -/
def slotFields (i : Image) (arc : Bool) (k type : Nat) (w : Nat → Nat) : List SetField :=
  let ins := slotInputs i k
  match type with
  | 0x01 => tocFields (bits (w 2) 1 0)
  | 0x02 => dtocFields
  | 0x03 => thmFields
  | 0x04 => uvFields ins.length (bits (w 1) 23 0)
  | 0x05 => ovFields ins.length
  | 0x06 => freqFields
  | 0x07 => freqFields
  | 0x08 => rocofFields
  | 0x09 => dirFields (ins.length == 2)
  | 0x0A => diffFields i ins.length (ins.any fun d => bit d 15) w
  | 0x0B => bfFields i k w
  | 0x0C => efFields (phasorInputs i ins) (ins.length % 2 == 0) (bits (w 1) 25 24)
  | 0x0D => arcFnFields
  | 0x21 => iocFields (i.fast.any fun r => r.slot == k && r.restraint != 0xFF)
  | 0x22 => didtFields
  | 0x23 => sigFields
  | 0xF0 => arcFields i k w
  | 0xF1 => ioFields
  | 0xF2 => trigFields i arc w
  | _ => []

/-- Slot `k` of a group passes the checks. -/
def slotOk (i : Image) (arc : Bool) (g : SetGroup) (k : Nat) : Bool :=
  let w := fun n => nget g.words (k * 16 + n)
  let type := slotType i arc k
  bits (w 0) 30 8 == 0 && w 0 % 256 == type && (type != 0 || w 0 == 0) && wordsOk w (slotFields i arc k type w)
    && (!(type == 1 && decide (8 ≤ bits (w 2) 15 8)) || curveOk g (bits (w 2) 15 8 - 8))
    && (decide (k < 192) || decide (240 ≤ k) || templatesOk g (k - 192) type (w 3 / 65536))

/-- The first slot of a group that fails. -/
def failingSlot (i : Image) (arc : Bool) (g : SetGroup) : Option Nat := (List.range 256).find? fun k => !slotOk i arc g k

/-- The CRC-32 of a group's payload (R113, R608): slot words, templates, user curves. -/
def groupCrc (g : SetGroup) : Nat :=
  crc32 (((List.range 4096).map fun k => le 4 (nget g.words k)).flatten ++
    ((List.range 24576).map fun k => le 2 (nget g.templates k)).flatten ++
    ((List.range 256).map fun k => le 4 (nget g.curves k)).flatten)

end Sys2Proof.Machine
end

