-- ==== Sys2Proof/Machine/ImageParse.lean ====
section
/-!
DEFINITION. The fabric image as bytes (R96 to R99, R101, R103, R104, R232, R538, R539, R696): its header, section table
and records, read from a slot of the store.
-/

namespace Sys2Proof.Machine

open Sys2Proof (Byte HalfId)

/-! ### Header and section table (R97, R98) -/

/-- Bytes of a slot. -/
abbrev Bytes := List (Nat × Byte)

def imgMagic (m : Bytes) : Nat := numAt m 0 4
def imgKind (m : Bytes) : Nat := numAt m 6 1
def imgTotal (m : Bytes) : Nat := numAt m 8 4
def imgSigOff (m : Bytes) : Nat := numAt m 12 4
def imgCount (m : Bytes) : Nat := numAt m 16 2
def imgCaps (m : Bytes) : Nat := numAt m 20 4
def imgSerial (m : Bytes) : Nat := numAt m 24 4

/-- One section-table entry: index, type, format version, start, length, CRC, reserved byte. -/
structure SectEntry where
  idx : Nat
  type : Nat
  sver : Nat
  start : Nat
  len : Nat
  crc : Nat
  res : Nat
  deriving DecidableEq, Repr, Inhabited

/-- The section table. -/
def sections (m : Bytes) : List SectEntry :=
  (List.range (imgCount m)).map fun k =>
    let a := 64 + 16 * k
    { idx := k, type := numAt m a 2, sver := numAt m (a + 2) 1, res := numAt m (a + 3) 1
      start := numAt m (a + 4) 4, len := numAt m (a + 8) 4, crc := numAt m (a + 12) 4 }

/-- The section of a type, if the image has one. -/
def section_ (m : Bytes) (t : Nat) : Option SectEntry := (sections m).find? fun e => e.type == t

/-- The starts of the records of `size` bytes in a section, after `head` bytes. -/
def recordsOf (m : Bytes) (t head size : Nat) : List Nat :=
  match section_ m t with
  | some e => (List.range ((e.len - head) / size)).map fun k => e.start + head + size * k
  | none => []

/-- Start and length of a section; both 0 where the image has none. -/
def sectStart (m : Bytes) (t : Nat) : Nat := match section_ m t with | some e => e.start | none => 0
def sectLen (m : Bytes) (t : Nat) : Nat := match section_ m t with | some e => e.len | none => 0

/-- The image hash (R102): SHA-384 of bytes 0 to SIG_OFFSET − 1. -/
def imageHash (m : Bytes) : List Byte := Config.sha384 (bytesAt m 0 (imgSigOff m))

/-! ### Records (R99) -/

def parseSystem (m : Bytes) : ImgSystem :=
  let a := sectStart m 1
  { home := numAt m a 1, samples := numAt m (a + 1) 1, nominal := numAt m (a + 2) 2, permit := numAt m (a + 4) 4
    subset := (List.range 16).map fun k => numAt m (a + 8 + k) 1
    layupReq := bit (numAt m (a + 24) 1) 0, group := numAt m (a + 25) 1, holdoff := numAt m (a + 26) 2 }

def parseChains (m : Bytes) : List ChainRec :=
  (recordsOf m 2 0 16).map fun a =>
    { chain := numAt m a 2, src := numAt m (a + 2) 1, resp := numAt m (a + 3) 1, det := numAt m (a + 4) 4 }

def parseFast (m : Bytes) : List FastTileRec :=
  (recordsOf m 3 0 8).map fun a =>
    { tile := numAt m a 1, type := numAt m (a + 1) 1, src := numAt m (a + 2) 1, restraint := numAt m (a + 3) 1
      slot := numAt m (a + 4) 1 }

/-- The 208 general records precede the input list. -/
def generalStarts (m : Bytes) : List Nat := (recordsOf m 4 0 16).take 208

/-- Start of the input list. -/
def inputList (m : Bytes) : Nat := sectStart m 4 + 208 * 16

def parseGeneral (m : Bytes) : List GenTileRec :=
  (generalStarts m).map fun a =>
    let first := inputList m + numAt m (a + 4) 4
    { tile := numAt m a 2, type := numAt m (a + 2) 1, slot := numAt m (a + 3) 1
      inputs := (List.range (numAt m (a + 8) 1)).map fun j => numAt m (first + 2 * j) 2 }

def parseDest (m : Bytes) : List TripDest :=
  ((recordsOf m 6 6144 8).take 64).map fun a =>
    { fto := numAt m a 2, dos := numAt m (a + 2) 4, areas := numAt m (a + 6) 1, baz := numAt m (a + 7) 1 }

def parseOutputs (m : Bytes) : List OutRec :=
  (recordsOf m 7 0 8).map fun a =>
    { code := numAt m a 1, cls := numAt m (a + 1) 1, vote := numAt m (a + 2) 1, lock := numAt m (a + 3) 1
      safe := numAt m (a + 4) 1, timeout := numAt m (a + 6) 2 }

def parseTasks (m : Bytes) : List TaskRec :=
  (recordsOf m 9 0 16).map fun a =>
    { task := numAt m a 1, kind := numAt m (a + 1) 1, prio := numAt m (a + 2) 1, arg := numAt m (a + 4) 4
      entry := numAt m (a + 8) 4 }

def parseLive (m : Bytes) : List LiveRec :=
  (recordsOf m 12 0 8).map fun a => { start := numAt m a 4, count := numAt m (a + 4) 2, cond := numAt m (a + 6) 2 }

def parsePaths (m : Bytes) : List PathRec :=
  (recordsOf m 13 16 8).map fun a =>
    { input := numAt m a 2, fto := numAt m (a + 2) 1, kind := numAt m (a + 3) 1, depth := numAt m (a + 4) 2
      budget := numAt m (a + 6) 2 }

/-- The area records and channel lists (R538, R539); an unused area has kind 0. -/
def parseAreas (m : Bytes) : List AreaRec :=
  match section_ m 11 with
  | none => []
  | some e => (List.range 8).map fun k =>
    let a := e.start + 64 * k
    let c := numAt m (a + 1) 1
    { kind := numAt m a 1, c := c, banks := numAt m (a + 2) 1, flags := numAt m (a + 3) 1, pre := numAt m (a + 4) 4
      post := numAt m (a + 8) 4, maxLen := numAt m (a + 12) 4, segs := numAt m (a + 16) 2, measMask := numAt m (a + 18) 2
      base := numAt m (a + 20) 4, size := numAt m (a + 24) 4, slotBytes := numAt m (a + 28) 4, demand := numAt m (a + 32) 4
      entries := (List.range c).map fun j => numAt m (e.start + 0x200 + 64 * k + 2 * j) 2 }

def parsePlan (m : Bytes) : List Nat :=
  match section_ m 11 with
  | none => []
  | some e => (List.range 1024).map fun k => numAt m (e.start + 0x400 + k) 1

/-- The sparse words of `n` little-endian numbers of `w` bytes. -/
def sparseNums (m : Bytes) (a n w : Nat) : List (Nat × Nat) :=
  ((List.range n).map fun k => (k, numAt m (a + w * k) w)).filter fun e => e.2 != 0

/-- Bytes of a group record (R608): slot words, templates, user curves. -/
def groupSize : Nat := 16384 + 49152 + 1024

def parseGroup (m : Bytes) (a : Nat) : SetGroup :=
  { words := sparseNums m a 4096 4, templates := sparseNums m (a + 16384) 24576 2
    curves := sparseNums m (a + 65536) 256 4 }

def parseDefaults (m : Bytes) : List SetGroup := (recordsOf m 14 0 groupSize).map (parseGroup m)

/-! ### ARCADE_BAZAAR (R696) -/

/-- Starts of the record tables after the head: publish, subscribe, stream publish, stream subscribe, forward. -/
def bazCounts (m : Bytes) : Nat × Nat × Nat × Nat × Nat :=
  let a := sectStart m 10
  (numAt m (a + 6) 2, numAt m (a + 8) 4, numAt m (a + 12) 1, numAt m (a + 14) 2, numAt m (a + 16) 4)

/-- Bytes of the section that its counts give. -/
def bazLen (m : Bytes) : Nat :=
  let (p, u, sp, ss, f) := bazCounts m
  32 + 8 * p + 8 * u + 40 * sp + 8 * ss + 8 * f

/-- The i-th record of `size` bytes from a start. -/
def tableOf (start n size : Nat) : List Nat := (List.range n).map fun k => start + size * k

def parseArcade (m : Bytes) : ArcadeCfg :=
  match section_ m 10 with
  | none => { present := false, unit := 0, role := 0, timeRoot := false, ring := 0, pubs := [], subs := [], spubs := [],
              ssubs := [], fwds := [] }
  | some e =>
    let a := e.start
    let (p, u, sp, ss, f) := bazCounts m
    let bU := a + 32 + 8 * p
    let bS := bU + 8 * u
    let bT := bS + 40 * sp
    let bF := bT + 8 * ss
    { present := true, unit := numAt m a 2, role := numAt m (a + 2) 1 % 128, timeRoot := bit (numAt m (a + 2) 1) 7
      ring := numAt m (a + 4) 2
      pubs := (tableOf (a + 32) p 8).map fun r =>
        let w := numAt m r 4
        { id := w % 0x100000, cls := bits w 21 20, kind := bits w 22 22, src := numAt m (r + 4) 4 }
      subs := (tableOf bU u 8).map fun r =>
        let w := numAt m r 4
        { id := w % 0x100000, cls := bits w 21 20, kind := bits w 22 22, n := bits w 27 24, fast := bit w 28
          owner := numAt m (r + 4) 2 }
      spubs := (tableOf bS sp 40).map fun r =>
        { stream := numAt m r 1, count := numAt m (r + 1) 1, preset := numAt m (r + 2) 1
          items := (List.range 16).map fun j => numAt m (r + 4 + 2 * j) 2 }
      ssubs := (tableOf bT ss 8).map fun r =>
        { src := numAt m r 2, stream := numAt m (r + 2) 1, count := numAt m (r + 3) 1, preset := numAt m (r + 4) 1 }
      fwds := (tableOf bF f 8).map fun r =>
        { src := numAt m r 2, type := numAt m (r + 2) 1, dir := numAt m (r + 3) 1, item := numAt m (r + 4) 4 } }

/-- The image that a slot's bytes spell. -/
def parseImage (m : Bytes) : Image :=
  { kind := imgKind m, serial := imgSerial m, hash := imageHash m, sys := parseSystem m, chains := parseChains m
    fast := parseFast m, general := parseGeneral m, fastMatrix := (recordsOf m 5 0 2).map fun a => numAt m a 2
    tripSrc := ((recordsOf m 6 0 4).take 512).map fun a => numAt m a 4
    tripRows := ((recordsOf m 6 2048 64).take 64).map fun a => numAt m a 64
    tripDest := parseDest m, outputs := parseOutputs m, program := (recordsOf m 8 0 4).map fun a => numAt m a 4
    tasks := parseTasks m, arcade := parseArcade m, areas := parseAreas m, slotPlan := parsePlan m, live := parseLive m
    certMin := numAt m (sectStart m 13) 2, paths := parsePaths m, defaults := parseDefaults m }

end Sys2Proof.Machine
end

