-- ==== Sys2Proof/Machine/ImageCheck.lean ====
section
/-!
DEFINITION. What the engine checks of a fabric image after its signature (R106): sections and their CRC, reserved
fields, the variant, the ranges of every record (R231 to R233, R273, R288, R310, R311, R348, R349, R405 to R410, R461 to
R475, R537 to R540, R697), the certificate (R105, R293, R392), the slot plan (R541) and the liveness ranges (R103).
-/

namespace Sys2Proof.Machine

open Sys2Proof (Byte HalfId)

/-! ### SECTION and CRC -/

/-- The mandatory section types of a kind (R99), ascending. -/
def mandatory (kind : Nat) : List Nat := if kind = 2 then [1] else [1, 2, 3, 4, 5, 6, 7, 12, 13, 14]

/-- A section type that an image of this kind may hold. -/
def typeKnown (kind t : Nat) : Bool := if kind = 2 then t == 1 else within 1 14 t

/-- Entry `e` lies wrong beside the header, the table, the signature block, or an earlier entry. -/
def sectionBad (m : Bytes) (all : List SectEntry) (e : SectEntry) : Bool :=
  let tableEnd := 64 + 16 * imgCount m
  !typeKnown (imgKind m) e.type || e.start % 64 != 0 || decide (e.start < tableEnd)
    || decide (imgSigOff m < e.start + e.len)
    || all.any fun x => decide (x.idx < e.idx) &&
        (x.type == e.type || (decide (x.start < e.start + e.len) && decide (e.start < x.start + x.len)))

/-- SECTION: none, or the index of the first section that is wrong, or 0xFE with the first missing type. -/
def sectionCheck (m : Bytes) : Option (Nat × Nat) :=
  let all := sections m
  match all.find? (sectionBad m all) with
  | some e => some (e.idx, 0)
  | none => match (mandatory (imgKind m)).find? fun t => (section_ m t).isNone with
    | some t => some (0xFE, t)
    | none => none

/-- The first section in table order for which a check does not hold. -/
def firstBad (m : Bytes) (ok : SectEntry → Bool) : Option (Nat × Nat) :=
  match (sections m).find? fun e => !ok e with
  | some e => some (e.idx, 0)
  | none => none

def crcCheck (m : Bytes) : Option (Nat × Nat) := firstBad m fun e => crc32 (bytesAt m e.start e.len) == e.crc

/-! ### RESERVED (R13) -/

/-- `n` bytes from `a` are 0. -/
def zeroAt (m : Bytes) (a n : Nat) : Bool := numAt m a n == 0

/-- The reserved fields of a section's records. -/
def sectReserved (m : Bytes) (i : Image) (e : SectEntry) : Bool :=
  let all := fun (head size : Nat) (p : Nat → Bool) => (recordsOf m e.type head size).all p
  e.res == 0 && (match e.type with
    | 1 => bits (numAt m (e.start + 24) 1) 7 1 == 0 && zeroAt m (e.start + 28) 36
    | 2 => all 0 16 fun a => zeroAt m (a + 8) 8
    | 3 => all 0 8 fun a => zeroAt m (a + 5) 3
    | 4 => (generalStarts m).all (fun a => zeroAt m (a + 9) 7) && i.general.all fun r =>
        r.inputs.all fun d => if bit d 15 then bits d 14 12 == 0 else bits d 14 11 == 0
    | 7 => all 0 8 fun a => zeroAt m (a + 5) 1
    | 8 => (i.program.take (i.program.length - 2048)).all fun w => bits w 24 22 == 0
    | 9 => all 0 16 fun a => zeroAt m (a + 3) 1 && zeroAt m (a + 12) 4
    | 10 =>
      let a := e.start
      let (p, u, sp, ss, f) := bazCounts m
      let bU := a + 32 + 8 * p
      let bS := bU + 8 * u
      let bT := bS + 40 * sp
      let bF := bT + 8 * ss
      zeroAt m (a + 3) 1 && zeroAt m (a + 13) 1 && zeroAt m (a + 20) 12
        && (tableOf (a + 32) p 8).all (fun r => bits (numAt m r 4) 31 23 == 0)
        && (tableOf bU u 8).all (fun r => bit (numAt m r 4) 23 == false && bits (numAt m r 4) 31 29 == 0 && zeroAt m (r + 6) 2)
        && (tableOf bS sp 40).all (fun r => zeroAt m (r + 3) 1 && zeroAt m (r + 36) 4)
        && (tableOf bT ss 8).all (fun r => zeroAt m (r + 5) 3)
        && (tableOf bF f 8).all (fun r =>
          let t := numAt m (r + 2) 1
          if t = 0 then bits (numAt m (r + 4) 4) 31 20 == 0 else if t = 1 then zeroAt m (r + 5) 3 else zeroAt m (r + 4) 4)
    | 11 => (List.range 8).all fun k => zeroAt m (e.start + 64 * k + 36) 28
    | 12 => i.live.all fun r => decide (r.start < 0x100000)
    | 13 => zeroAt m (e.start + 6) 10
    | _ => true)

/-- A byte that is not 0 lies in the header, the table, a section or the signature block. -/
def placed (m : Bytes) (a : Nat) : Bool :=
  decide (a < 64 + 16 * imgCount m) || decide (imgSigOff m ≤ a)
    || (sections m).any fun e => decide (e.start ≤ a) && decide (a < e.start + e.len)

/-- The section whose end a padding byte follows; 0xFF before the first one. -/
def paddingAfter (m : Bytes) (a : Nat) : Nat :=
  ((sections m).foldl (fun (b : Nat × Nat) e =>
    if e.start + e.len ≤ a ∧ b.2 ≤ e.start + e.len then (e.idx, e.start + e.len) else b) (0xFF, 0)).1

/-- RESERVED: header and signature block, then the sections, then the padding. -/
def reservedCheck (m : Bytes) (i : Image) : Option (Nat × Nat) :=
  let sig := imgSigOff m
  if !zeroAt m 7 1 || !zeroAt m 18 2 || !zeroAt m 40 24 || bits (imgCaps m) 7 3 != 0 || !zeroAt m (sig + 6) 2
      || !zeroAt m (sig + 108) 20 then some (0xFF, 0)
  else match firstBad m (sectReserved m i) with
    | some r => some r
    | none => match m.find? fun e => e.2 != 0 && !placed m e.1 with
      | some e => some (paddingAfter m e.1, 0)
      | none => none

/-! ### VARIANT (R4, R9) -/

/-- SYS_CAPS of the variant (R5). -/
def capsOf : Variant → Nat
  | .pk9600 => 0x20301807
  | .pk9610 => 0x20301805
  | .pk9620 => 0x20301806
  | .pk9630 => 0x08180801

/-- The variant has the arc receivers. -/
def varArc (v : Variant) : Bool := bit (capsOf v) 1

/-- A channel code (R99) names a channel that some variant has. -/
def channelKnown (c : Nat) : Bool := decide (c < 0x30) || within 0x40 0x5F c || within 0x80 0x97 c || within 0xC0 0xDF c

/-- A known channel that variant `v` lacks. -/
def channelAbsent (v : Variant) (c : Nat) : Bool :=
  if c < 0x30 then decide (bits (capsOf v) 23 16 ≤ c)
  else if within 0x40 0x5F c then decide (bits (capsOf v) 31 24 ≤ c - 0x40)
  else if within 0x80 0x97 c then decide (bits (capsOf v) 15 8 ≤ c - 0x80)
  else within 0xDC 0xDF c && !varArc v

/-- What the image asks for beyond SYS_CAPS. -/
def capsBad (v : Variant) (req : Nat) : Bool :=
  let c := capsOf v
  ((List.range 3).any fun b => bit req b && !bit c b)
    || decide (bits c 15 8 < bits req 15 8) || decide (bits c 23 16 < bits req 23 16) || decide (bits c 31 24 < bits req 31 24)

/-- The records of a section reference units of the variant only. -/
def sectVariant (v : Variant) (i : Image) (e : SectEntry) : Bool :=
  let arc := varArc v
  match e.type with
  | 1 => !(i.sys.home == 1 && !bit (capsOf v) 0) && i.sys.subset.all fun c => !channelAbsent v c
  | 2 => i.chains.all fun r => !channelAbsent v r.src
  | 3 => i.fast.all fun r => r.slot == 0xFF || decide (23 < r.src) || !channelAbsent v (0x80 + r.src)
  | 4 => arc || i.general.all fun r => r.type != 0x0D
  | 5 => arc || (i.fastMatrix.drop 64).all (· == 0)
  | 6 => arc || i.tripSrc.all fun w => w % 256 != 3 && w % 256 != 4
  | 10 => arc || i.arcade.pubs.all fun p => p.src % 256 != 3
  | 11 => i.areas.all fun r => r.kind != 1 || r.entries.all fun c => decide (23 < c) || !channelAbsent v (0x80 + c)
  | _ => true

def variantCheck (m : Bytes) (v : Variant) (i : Image) : Option (Nat × Nat) :=
  if capsBad v (imgCaps m) then some (0xFF, 0) else firstBad m (sectVariant v i)

/-! ### RANGE: structure -/

/-- No value occurs twice. -/
def distinct : List Nat → Bool
  | [] => true
  | a :: t => !t.contains a && distinct t

/-- R99, R469. -/
def systemRange (i : Image) : Bool :=
  let y := i.sys
  within 0 1 y.home && (y.samples == 64 || y.samples == 128) && within 1000 10000 y.nominal && within 0 7 y.group
    && within 10 3600 y.holdoff
    && (y.permit == 0xFFFFFFFF
      || (bits y.permit 31 22 == 0 && bits y.permit 18 16 == 0 && within 1 2 (bits y.permit 21 19)))
    && y.subset.all fun c => c == 0xFF || channelKnown c

/-- R231, R232: one chain. -/
def chainRange (i : Image) (r : ChainRec) : Bool :=
  let cond := bits r.det 31 30
  let rms := bits r.det 11 10
  let hk := decide (0xC0 ≤ r.src)
  decide (r.chain < 160) && channelKnown r.src
    && decide ((i.chains.filter fun x => x.src == r.src).length ≤ 4)
    && (if hk then r.resp == 0 && cond == 0 else decide (r.resp ≤ 13))
    && (!([4, 6, 7, 10, 12].contains r.resp) || i.sys.samples == 64)
    && (!([5, 8, 9, 11, 13].contains r.resp) || i.sys.samples == 128)
    && cond != 3 && rms != 3 && (rms == 0 || decide (r.resp < 6))
    && decide (bits r.det 19 16 ≤ bits r.det 15 12) && (if rms = 1 then bits r.det 9 0 != 0 else bits r.det 9 0 == 0)

def chainsRange (i : Image) : Bool := distinct (i.chains.map (·.chain)) && i.chains.all (chainRange i)

/-- R273. -/
def fastRange (i : Image) : Bool :=
  let used := i.fast.filter fun r => r.slot != 0xFF
  i.fast.length == 52 && distinct (i.fast.map (·.tile)) && distinct (used.map (·.slot))
    && decide (used.length + 4 ≤ 52)
    && i.fast.all fun r => decide (r.tile < 52) &&
      (if r.slot = 0xFF then r.type == 0 && r.restraint == 0xFF
       else within 192 239 r.slot && within 0x21 0x23 r.type && decide (r.src ≤ 23)
        && (r.restraint == 0xFF || (r.type == 0x21 && used.any fun x => x.tile == r.restraint && x.type == 0x23)))

/-! ### RANGE: general functions -/

/-- When the output of a designator comes (R230, R235, R255): the preset, 100 per cycle, 101 housekeeping, 102 tracked. -/
def outputInstants (i : Image) (d : Nat) : Nat :=
  match i.chains.find? fun r => r.chain == d % 256 with
  | some r =>
    if d / 256 % 8 = 2 ∧ bits r.det 11 10 = 2 then 100
    else if 0xC0 ≤ r.src then 101
    else if 4 ≤ r.resp then 102
    else r.resp
  | none => 103

/-- The main output of a phasor chain of the fundamental (responses 6 to 9). -/
def mainPhasor (i : Image) (d : Nat) : Bool := chainOutOk i d && d / 256 == 0 && within 6 9 (chainResp i (d % 256))

/-- The main output of a preset chain. -/
def mainPreset (i : Image) (d : Nat) : Bool := chainOutOk i d && d / 256 == 0 && decide (chainResp i (d % 256) ≤ 3)

/-- An Arcade stream designator that the Bazaar section defines (R349). -/
def streamOk (i : Image) (d : Nat) : Bool :=
  bit d 15 && (match i.arcade.ssubs[bits d 11 4]? with
    | some r => decide (d % 16 < r.count)
    | none => false)

/-- The preset of a DIFF input. -/
def inputPreset (i : Image) (d : Nat) : Nat :=
  if bit d 15 then (match i.arcade.ssubs[bits d 11 4]? with | some r => r.preset | none => 0xFF) else outputInstants i d

/-- The inputs of a function suit its type (R311, R348, R349, R393), and come at the same instants (R310). -/
def inputsRange (i : Image) (type : Nat) (ins : List Nat) : Bool :=
  let n := ins.length
  let any_ := ins.all (chainOutOk i)
  let same := ins.all fun d => outputInstants i d == outputInstants i (ins.headD 0)
  let presets := ins.all fun d => inputPreset i d == inputPreset i (ins.headD 0)
  match type with
  | 0x01 => within 1 3 n && any_ && same
  | 0x02 => within 1 3 n && any_ && same
  | 0x03 => n == 1 && any_
  | 0x04 => within 1 3 n && any_ && same
  | 0x05 => within 1 3 n && any_ && same
  | 0x06 => n == 1 && ins.all (mainPhasor i)
  | 0x07 => n == 1 && ins.all (mainPhasor i)
  | 0x08 => n == 1 && ins.all (mainPhasor i)
  | 0x09 => (n == 1 && ins.all (mainPreset i)) || (n == 2 && ins.all (mainPhasor i))
  | 0x0A => within 2 16 n && presets && ins.all fun d => mainPreset i d || streamOk i d
  | 0x0B => within 1 3 n && any_ && same
  | 0x0C => (within 1 4 n && ins.all (mainPhasor i)) || (within 1 2 n && ins.all (mainPreset i) && same)
  | 0x0D => within 1 3 n && any_ && same
  | _ => false

/-- R310. -/
def generalRange (m : Bytes) (i : Image) : Bool :=
  let used := i.general.filter fun r => r.slot != 0xFF
  i.general.length == 208 && distinct (i.general.map (·.tile)) && distinct (used.map (·.slot))
    && (generalStarts m).all (fun a =>
      numAt m (a + 8) 1 == 0 || decide (208 * 16 + numAt m (a + 4) 4 + 2 * numAt m (a + 8) 1 ≤ sectLen m 4))
    && i.general.all fun r => decide (r.tile < 208) &&
      (if r.slot = 0xFF then r.type == 0 && r.inputs.isEmpty
       else decide (r.slot < 192) && within 1 13 r.type && inputsRange i r.type r.inputs)

/-! ### RANGE: matrices and outputs -/

/-- R288. -/
def fastMatrixRange (i : Image) : Bool :=
  i.fastMatrix.length == 80 && (i.fastMatrix.zipIdx).all fun e => e.1 == 0 || decide (48 ≤ e.2) || fastHolds i [0x21, 0x22] e.2

/-- The output record of a code. -/
def outputRec (i : Image) (c : Nat) : Option OutRec := i.outputs.find? fun r => r.code == c

/-- R405, R408.  Arc and FTI sources were checked against the variant. -/
def tripRange (i : Image) : Bool :=
  i.tripSrc.length == 512 && i.tripRows.length == 64 && i.tripDest.length == 64
    && i.tripSrc.all (fun w => w == 0 || sourceOk i true w)
    && i.tripRows.all (fun r => (i.tripSrc.zipIdx).all fun e => e.1 != 0 || !bit r e.2)
    && i.tripDest.all fun d => decide (d.baz ≤ 1) && (List.range 32).all fun n =>
      !bit d.dos n || (match outputRec i (0x20 + n) with | some r => r.cls == 2 | none => false)

/-- R410, and R106 of the refresh timeout. -/
def outputsRange (i : Image) : Bool :=
  distinct (i.outputs.map (·.code)) && (List.range 16).all (fun n => (outputRec i n).isSome)
    && i.outputs.all fun r =>
      (decide (r.code < 16) || within 0x20 0x3F r.code) && decide (r.cls ≤ 2) && decide (r.vote ≤ 1) && decide (r.lock ≤ 1)
        && decide (r.safe ≤ 1) && (decide (16 ≤ r.code) || r.cls == 2)
        && (if r.cls = 2 then r.safe == 0 && r.timeout == 0 else r.vote == 0 && r.lock == 0 && within 1 1000 r.timeout)

/-! ### RANGE: the program (R454, R460, R461, R463, R475) -/

def opOf (w : Nat) : Nat := w / 0x4000000
def areaOf (w : Nat) : Nat := bits w 21 19
def operandOf (w : Nat) : Nat := w % 0x80000

/-- The opcodes that read an operand. -/
def readsOp (o : Nat) : Bool := within 1 7 o

/-- Areas an opcode may name. -/
def areasOf (o : Nat) : List Nat :=
  if readsOp o then [0, 1, 2, 3, 4, 5, 6, 7]
  else match o with
    | 0x09 => [1, 2, 4]
    | 0x0A => [1, 2, 4, 6]
    | 0x0B => [1, 2, 4, 5, 6]
    | 0x0C => [2]
    | 0x0D => [2]
    | 0x10 => [5]
    | 0x11 => [5]
    | 0x12 => [5]
    | 0x13 => [5]
    | 0x14 => [6]
    | 0x15 => [6]
    | _ => [0]

/-- The index range of an area, with the points that the Bazaar section defines. -/
def operandIndexOk (i : Image) (a n : Nat) : Bool :=
  match a with
  | 3 => decide (n < i.arcade.subs.length)
  | 4 => decide (n < i.arcade.pubs.length)
  | 5 => decide (n < 1024)
  | 6 => decide (n < 1024)
  | 7 => decide (n < i.arcade.subs.length)
  | _ => decide (n < 65536)

def opListed (o : Nat) : Bool := within 0 0x0D o || within 0x10 0x15 o || within 0x18 0x1A o || o == 0x3F

/-- One instruction word of a program of `n` instructions. -/
def instrOk (i : Image) (n w : Nat) : Bool :=
  let o := opOf w
  opListed o && (readsOp o || o == 0x09 || !bit w 25) && (areasOf o).contains (areaOf w)
    && (if within 0x18 0x1A o then decide (operandOf w < n)
        else if o = 0 ∨ o = 8 ∨ o = 0x3F then operandOf w == 0
        else operandIndexOk i (areaOf w) (operandOf w))

/-- The opcodes `os` that name record `k`, without repeats. -/
def opcodesOn (prog : List Nat) (lo hi k : Nat) : List Nat :=
  prog.foldl (fun l w => if within lo hi (opOf w) && operandOf w == k && !l.contains (opOf w) then opOf w :: l else l) []

/-- Where control may go after instruction `k`. -/
def successors (prog : List Nat) (k : Nat) : List Nat :=
  let w := prog.getD k 0
  match opOf w with
  | 0x18 => [operandOf w]
  | 0x19 => [operandOf w, k + 1]
  | 0x1A => [operandOf w, k + 1]
  | 0x3F => []
  | _ => [k + 1]

/-- The instructions reached from a list of places; `fuel` bounds the visits. -/
def reach (prog : List Nat) : Nat → List Nat → List (Nat × Nat) → List (Nat × Nat)
  | 0, _, seen => seen
  | _, [], seen => seen
  | fuel + 1, k :: t, seen =>
    if nget seen k = 1 ∨ prog.length ≤ k then reach prog fuel t seen
    else reach prog fuel (successors prog k ++ t) (nset seen k 1)

/-- What an instruction writes, as a number per word of Q, M and P and per T and C record (R475). -/
def writesOf (w : Nat) : Option Nat :=
  let o := opOf w
  let a := areaOf w
  if o = 9 ∨ o = 0xA ∨ o = 0xB ∨ o = 0xC ∨ o = 0xD then
    some (a * 0x100000 + (if a = 5 ∨ a = 6 then operandOf w else operandOf w / 32))
  else if within 0x10 0x15 o then some (a * 0x100000 + operandOf w)
  else none

/-- What a task writes. -/
def taskWrites (prog : List Nat) (entry : Nat) : List Nat :=
  (reach prog (3 * prog.length + 3) [entry] []).filterMap fun e => writesOf (prog.getD e.1 0)

/-- R475: no word or record is written at two priorities. -/
def writesApart (i : Image) (prog : List Nat) : Bool :=
  let w := i.tasks.map fun t => (t.prio, taskWrites prog t.entry)
  w.all fun x => w.all fun y => x.1 == y.1 || x.2.all fun k => !y.2.contains k

/-- The instruction words of a program section. -/
def progWords (i : Image) : List Nat := i.program.take (i.program.length - 2048)

def programRange (i : Image) : Bool :=
  let prog := progWords i
  let n := prog.length
  let last := opOf (prog.getD (n - 1) 0)
  within 1 262144 n && prog.all (instrOk i n) && (last == 0x3F || last == 0x18)
    && (List.range 1024).all (fun k => decide ((opcodesOn prog 0x10 0x13 k).length ≤ 1)
      && decide ((opcodesOn prog 0x14 0x15 k).length ≤ 1))
    && (i.program.drop (n + 1024)).all (fun v => decide (v < 65536)) && writesApart i prog

/-- R469: one task. -/
def taskRange (i : Image) (t : TaskRec) : Bool :=
  decide (t.prio ≤ 15) && decide (t.entry < (progWords i).length) &&
    (if t.kind = 0 then decide (t.task < 16) && within 1 40000 t.arg
     else t.kind == 1 && within 16 47 t.task && bits t.arg 31 30 != 0 && bits t.arg 29 22 == 0 && bits t.arg 18 16 == 0
      && [0, 2, 3].contains (bits t.arg 21 19))

def tasksRange (m : Bytes) (i : Image) : Bool :=
  (section_ m 8).isSome && distinct (i.tasks.map (·.task)) && i.tasks.all (taskRange i)

/-! ### RANGE: the Bazaar (R673, R696, R697) -/

/-- The source of publish record `k`. -/
def pubSourceOk (i : Image) (k : Nat) (r : PubRec) : Bool :=
  let kind := r.src % 256
  let idx := r.src / 65536
  let sel0 := bits r.src 15 8 == 0
  (match kind with
    | 8 => sel0 && decide (idx < 64)
    | 0x10 => sel0 && chainOutOk i idx
    | 0x12 => sel0 && idx == k
    | 4 => false
    | 7 => false
    | _ => sourceOk i true r.src)
    && (r.cls == 0 || r.cls == 2) && (r.cls != 0 || kind == 8) && (r.kind == 1) == (kind == 0x10)

/-- BAZ flags and C2 publications of trip groups agree. -/
def bazAgree (i : Image) : Bool :=
  (List.range 64).all fun g =>
    ((i.tripDest.getD g default).baz == 1) == i.arcade.pubs.any fun p => p.cls == 2 && p.src == g * 65536 + 8

def arcadeRange (i : Image) : Bool :=
  let c := i.arcade
  decide (c.unit < 0x3FFF) && decide (c.role ≤ 2) && (c.role != 0 || (c.ring == 0 && c.fwds.isEmpty)) && decide (c.ring < 256)
    && decide (c.pubs.length ≤ 4096) && decide (c.subs.length ≤ 65536) && decide (c.spubs.length ≤ 8)
    && decide (c.ssubs.length ≤ 256)
    && (c.pubs.zipIdx).all (fun e => pubSourceOk i e.2 e.1)
    && distinct (c.pubs.map (·.id) ++ c.subs.map (·.id))
    && c.subs.all (fun r => decide (r.owner ≤ 0x3FFF) && r.owner != c.unit && (r.cls == 0 || r.cls == 2)
      && (!r.fast || r.cls == 0))
    && distinct ((c.subs.filter (·.fast)).map (·.n)) && bazAgree i
    && c.spubs.all (fun r => decide (r.stream < 8) && within 1 16 r.count && decide (r.preset ≤ 3)
      && (r.items.take r.count).all (fun d => mainPreset i d && chainResp i (d % 256) == r.preset)
      && (r.items.drop r.count).all (· == 0))
    && c.ssubs.all (fun r => decide (r.src < 0x3FFF) && decide (r.stream < 8) && within 1 16 r.count && decide (r.preset ≤ 3))
    && c.fwds.all fun r => decide (r.type ≤ 2) && decide (r.dir ≤ 1)
      && (if r.type = 2 then decide (r.src < 256) else decide (r.src < 0x3FFF)) && (r.type != 1 || decide (r.item < 8))

/-! ### RANGE and SLOTPLAN: the recorder (R537 to R541) -/

/-- One area record with its channel list. -/
def areaRange (m : Bytes) (i : Image) (a : Nat) (r : AreaRec) : Bool :=
  let n := (areaBanks r).length
  let base := sectStart m 11
  if r.kind = 0 then zeroAt m (base + 64 * a) 64 && zeroAt m (base + 0x200 + 64 * a) 64
  else
    decide (r.kind ≤ 3) && within 1 32 r.c && within 1 15 r.banks && decide (r.flags < 8) && decide (r.pre < r.maxLen)
      && decide (1 ≤ r.post)
      && (if bit r.flags 2 then decide (r.pre + r.post ≤ r.maxLen) else r.maxLen == r.pre + r.post)
      && within 1 4096 r.segs && (!bit r.flags 0 || decide (2 ≤ r.segs)) && decide (r.measMask < 1024)
      && r.base % 4096 == 0 && r.size % 4096 == 0 && r.slotBytes % (8 * n) == 0
      && decide (dataOffset r + ceilDiv (r.maxLen * instW i r) 8 * 8 ≤ r.slotBytes)
      && decide (r.segs * r.slotBytes ≤ r.size * n) && decide (r.base + r.size ≤ 0x400000)
      && zeroAt m (base + 0x200 + 64 * a + 2 * r.c) (64 - 2 * r.c)
      && (if r.kind = 1 then r.entries.all (fun c => decide (c ≤ 23)) && !bit r.flags 1
          else r.entries.all (fun d => chainOutOk i d && outputInstants i d == outputInstants i (r.entries.headD 0)
              && (if r.kind = 2 then decide (chainResp i (d % 256) ≤ 3) else within 4 13 (chainResp i (d % 256))))
            && (!bit r.flags 1 || r.entries.all fun d => match i.chains.find? fun x => x.chain == d % 256 with
              | some x => i.sys.subset.contains x.src
              | none => false))

/-- Two regions share a bank and overlap. -/
def regionsMeet (x y : AreaRec) : Bool :=
  x.kind != 0 && y.kind != 0 && (x.banks &&& y.banks) != 0 && decide (x.base < y.base + y.size)
    && decide (y.base < x.base + x.size)

def recorderRange (m : Bytes) (i : Image) : Bool :=
  let as_ := i.areas.zipIdx
  sectLen m 11 == 2048 && as_.all (fun e => areaRange m i e.2 e.1)
    && as_.all (fun x => as_.all fun y => decide (y.2 ≤ x.2) || !regionsMeet x.1 y.1)
    && i.slotPlan.all fun o => decide (o < 8) || o == 0xFF

/-- R of an area in samples per second (R537), over 1. -/
def areaRate (i : Image) (r : AreaRec) : Nat :=
  if r.kind = 1 then 20000000
  else if r.kind = 2 then presetRate (chainResp i (r.entries.headD 0 % 256))
  else 100 * i.sys.samples

/-- d_a of R541. -/
def areaDemand (i : Image) (r : AreaRec) : Nat :=
  let n := (areaBanks r).length
  ceilDiv (areaRate i r * (instW i r * r.post + 256 + 80 * r.c) * 128) (r.post * 8 * n * 100000000) + 1

/-- R541: demands, sums, owners and the spacing of the slot tables. -/
def slotPlanOk (i : Image) : Bool :=
  let used := (i.areas.zipIdx).filter fun e => e.1.kind != 0
  used.all (fun e => e.1.demand == areaDemand i e.1)
    && (List.range 4).all fun k =>
      let mine := used.filter fun e => bit e.1.banks k
      let tab := (i.slotPlan.drop (256 * k)).take 256
      decide ((mine.map fun e => areaDemand i e.1).foldl (· + ·) 0 ≤ 128)
        && (List.range 8).all (fun a =>
          let owned := (tab.filter (· == a)).length
          match mine.find? fun e => e.2 == a with
          | some e => owned == areaDemand i e.1
          | none => owned == 0)
        && ((tab.zip (tab.drop 1 ++ tab.take 1)).all fun p => p.1 == 0xFF || p.2 == 0xFF)

/-! ### RANGE of a section -/

/-- The lengths that the records of a type need. -/
def lengthOk (m : Bytes) (e : SectEntry) : Bool :=
  match e.type with
  | 1 => e.len == 64
  | 2 => e.len % 16 == 0
  | 3 => e.len == 416
  | 4 => decide (3328 ≤ e.len)
  | 5 => e.len == 160
  | 6 => e.len == 6656
  | 7 => e.len % 8 == 0
  | 8 => e.len % 4 == 0 && decide (4 * 2049 ≤ e.len)
  | 9 => e.len % 16 == 0
  | 10 => decide (32 ≤ e.len) && e.len == bazLen m
  | 11 => e.len == 2048
  | 12 => e.len % 8 == 0
  | 13 => decide (16 ≤ e.len) && e.len == 16 + 8 * numAt m (e.start + 4) 2
  | 14 => e.len == 8 * groupSize
  | _ => true

def sectRange (m : Bytes) (v : Variant) (i : Image) (e : SectEntry) : Bool :=
  e.sver == 1 && lengthOk m e && (match e.type with
    | 1 => systemRange i
    | 2 => chainsRange i
    | 3 => fastRange i
    | 4 => generalRange m i
    | 5 => fastMatrixRange i
    | 6 => tripRange i
    | 7 => outputsRange i
    | 8 => programRange i
    | 9 => tasksRange m i
    | 10 => arcadeRange i
    | 11 => recorderRange m i
    | 12 => i.live.all fun r => within 1 65535 r.count && (r.cond == 0xFFFF || decide (r.cond < 256))
    | 13 => true
    | 14 => i.defaults.all fun g => (failingSlot i (varArc v) g).isNone
    | _ => true)

def rangeCheck (m : Bytes) (v : Variant) (i : Image) : Option (Nat × Nat) := firstBad m (sectRange m v i)

/-! ### CERTIFICATE, SLOTPLAN, LIVENESS -/

/-- The kind that fits a fast-matrix input (R105). -/
def fittingKind (n : Nat) : Nat := if n < 48 then 0 else if n < 64 then 3 else 2

/-- Fast function `f` is an IOC with a restraint link. -/
def restrainedFn (i : Image) (f : Nat) : Bool := i.fast.any fun r => r.slot == 192 + f && r.type == 0x21 && r.restraint != 0xFF

/-- One path record: its kind fits, and its budget is the stated one. -/
def pathOk (i : Image) (p : PathRec) : Bool :=
  decide (p.input < 80) && decide (p.fto < 16) &&
    (if p.kind = 1 then p.budget == 170 && decide (p.input < 48) && restrainedFn i p.input
     else p.kind == fittingKind p.input && p.budget == 70)

/-- The image has a path record of a kind for a connection. -/
def hasPath (i : Image) (n fto kind : Nat) : Bool := i.paths.any fun p => p.input == n && p.fto == fto && p.kind == kind

def certMinOf (i : Image) : Nat := i.paths.foldl (fun b p => max b (ceilDiv (p.depth * 1000) p.budget)) 0

def certOk (m : Bytes) (i : Image) : Bool :=
  i.paths.all (pathOk i) && certMinOf i == i.certMin && decide (i.certMin ≤ 2450)
    && numAt m (sectStart m 13 + 2) 2 == 2450
    && (i.fastMatrix.zipIdx).all fun e => (List.range 16).all fun n =>
      !bit e.1 n || (hasPath i e.2 n (fittingKind e.2) && (!(decide (e.2 < 48) && restrainedFn i e.2) || hasPath i e.2 n 1))

/-- R103: ranges end inside the logic memory window of 4 MiB (R50), and conditions name typed slots. -/
def liveOk (v : Variant) (i : Image) : Bool :=
  i.live.all fun r => decide (r.start + r.count ≤ 0x100000) &&
    (r.cond == 0xFFFF || slotType i (varArc v) r.cond != 0)

/-- The index of a section by type. -/
def indexOf (m : Bytes) (t : Nat) : Nat := match section_ m t with | some e => e.idx | none => 0xFF

/-- The checks after the signature, in the order of R106: code, section index, missing type. -/
def bodyCheck (m : Bytes) (v : Variant) (i : Image) : Option (Nat × Nat × Nat) :=
  let code := fun (c : Nat) (r : Option (Nat × Nat)) (next : Option (Nat × Nat × Nat)) =>
    match r with
    | some e => some (c, e)
    | none => next
  let when_ := fun (ok : Bool) (t : Nat) => if ok then none else some (indexOf m t, 0)
  let prot := imgKind m == 1
  code 7 (sectionCheck m) <| code 8 (crcCheck m) <| code 9 (reservedCheck m i) <| code 0xA (variantCheck m v i) <|
    code 0xB (rangeCheck m v i) <| code 0xC (when_ (!prot || certOk m i) 13) <|
    code 0xD (when_ (!prot || slotPlanOk i) 11) <| code 0xE (when_ (!prot || liveOk v i) 12) none

end Sys2Proof.Machine
end

