-- ==== Sys2Proof/Machine/SetOps.lean ====
section
/-!
DEFINITION. Image verification and activation (R106 to R109, R121 to R123), and the setting groups: window writes, STAGE,
SWITCH, LOAD_DEFAULT and the instant of a switch (R111 to R119, R126 to R129).
-/

namespace Sys2Proof.Machine

open Sys2Proof (Byte HalfId)

/-! ### Verification of a slot (R101, R102, R106) -/

/-- The bytes of a key, little-endian word by word (log entry 30). -/
def keyBytes (ws : List Nat) : List Byte := (ws.map (le 4)).flatten

/-- The public key of an image-signing key slot of a half (R102, R720). -/
def imageKey (s : State) (h : HalfId) (k : Nat) : Option (List Byte) :=
  if k ≤ 3 then (keyWords s h 2 k).map keyBytes else none

/-- SIGNATURE: the block's magic and algorithm, the key slot, its tag, the kind that the slot may sign, and the
signature.  The factory image in slot 2, which nothing can write, verifies under the root key (log entry 31). -/
def signatureOk (s : State) (h : HalfId) (m : Bytes) (slot : Nat) : Bool :=
  let a := imgSigOff m
  let ks := numAt m (a + 4) 1
  let good := fun (key : List Byte) =>
    (Config.sha384 key).take 4 == bytesAt m (a + 8) 4 && Config.ecdsaVerify key (imageHash m) (bytesAt m (a + 12) 96)
  numAt m a 4 == 0x47495350 && numAt m (a + 5) 1 == 1 &&
    (if slot = 2 then ks == 0xFF
     else if ks = 0xFF then imgKind m != 1 && good Config.rootKey
     else imgKind m != 2 && (match imageKey s h ks with | some k => good k | none => false))

/-- KIND. -/
def kindOk (m : Bytes) (slot : Nat) : Bool := if slot = 2 then imgKind m == 2 else imgKind m == 1

/-- Code of R106, section index and missing type for a slot; `fault` says where a store read fails: 0 nowhere, 1 at the
mark or the header, 2 after them. -/
def verifySlot (s : State) (h : HalfId) (slot fault : Nat) : Nat × Nat × Nat :=
  let x := imgSlot s slot
  let m := x.bytes
  if fault = 1 then (0xF, 0xFF, 0)
  else if x.mark = false then (1, 0xFF, 0)
  else if imgMagic m ≠ 0x4D494650 then (2, 0xFF, 0)
  else if numAt m 4 1 ≠ 1 then (3, 0xFF, 0)
  else if 8388608 < imgTotal m ∨ imgSigOff m + 128 ≠ imgTotal m ∨ imgCount m = 0 ∨ 32 < imgCount m then (4, 0xFF, 0)
  else if fault ≠ 0 then (0xF, 0xFF, 0)
  else if signatureOk s h m slot = false then (5, 0xFF, 0)
  else if kindOk m slot = false then (6, 0xFF, 0)
  else (bodyCheck m s.variant (parseImage m)).getD (0, 0, 0)

/-- The IMG_ERR field of a slot. -/
def imgErr (slot : Nat) : Fld :=
  if slot = 0 then Reg.IMG_ERR_SLOT0 else if slot = 1 then Reg.IMG_ERR_SLOT1 else Reg.IMG_ERR_SLOT2

/-- A verdict enters IMG_ERR; a refused image is written to the Ledger (R107, R123). -/
def putVerdict (s : State) (h : HalfId) (slot : Nat) (v : Nat × Nat × Nat) : State :=
  let s1 := wr s h (imgErr slot) v.1
  if v.1 = 0 then s1
  else ledgerH (wr s1 h Reg.IMG_ERR_SECTION v.2.1) h 0x0301 (p4s [slot, v.1, v.2.1, v.2.2])

/-- Some change of mode or image is pending in a half (R65). -/
def changePending (s : State) (h : HalfId) : Bool :=
  pendIn s h || rdB s h Reg.SYS_MODE_PEND || (half s h).mode.pendSet.isSome

/-- NOT_LEADER or NO_LEADER of a command to half `h`; 0 where it leads (R65). -/
def leaderStatus (s : State) (h : HalfId) : Nat :=
  if acts s h then 0 else if (leader s).isSome then 0x12 else 0x13

/-- The status of an IMG_CMD before any verification (R109, R121, R122). -/
def imgStatus (s : State) (h : HalfId) (code slot : Nat) : Nat :=
  let m := modeOf s h
  if code = 0 ∨ 2 < code ∨ 2 < slot then 0x10
  else if m = mBOOT ∨ (code = 2 ∧ m = mLOCKOUT) then 0x11
  else if code = 1 then (if (half s h).mode.verifying.isSome then 0x14 else 1)
  else if leaderStatus s h ≠ 0 then leaderStatus s h
  else if changePending s h || (half s h).mode.verifying.isSome then 0x14
  else 1

/-- The partner need not take part: Tally reports it failed or absent, or the mode is LAYUP (R62, R115). -/
def alone (s : State) (h : HalfId) : Bool := !partnerIn s h || modeOf s h == mLAYUP

/-- The switch instant S (R62): the first 250 µs boundary at least 1 ms from now. -/
def switchInstant (s : State) : Nat := ceilDiv (now s + 1000000) 250000 * 250000

/-- VERIFY is accepted: a slot that is open ends CHANGED (R611). -/
def verifyStart (s : State) (h : HalfId) (slot : Nat) : State :=
  let isOpen := (halves s).any fun x => (half s x).port.openSlot == some slot
  let s1 := wrB (wr s h Reg.IMG_STAT_VERIFY_SLOT slot) h Reg.IMG_STAT_VERIFY_BUSY true
  modMode s1 h fun m => { m with verifying := some slot, verifyTouched := isOpen }

/-- ACTIVATE is accepted: the slot is verified, the active-slot record committed, and the restart waits for S (R109). -/
def activateStart (s : State) (h : HalfId) (slot fault : Nat) : State :=
  let v := verifySlot s h slot fault
  let s1 := putVerdict s h slot v
  if v.1 ≠ 0 then wr s1 h Reg.IMG_STAT_CMD_STATUS 0x1E
  else
    let s2 := if slot < 2 then logPut s1 1 0 [] slot else s1
    setPend s2 h { (default : PendMode) with
      cmd := 0x100, target := mBOOT, inst := switchInstant s, acked := alone s h, slot := slot }

/-- A write of IMG_CMD. -/
def imgCommand (s : State) (h : HalfId) (code slot fault : Nat) : State :=
  let st := imgStatus s h code slot
  let s1 := wr s h Reg.IMG_STAT_CMD_STATUS st
  if st ≠ 1 then s1 else if code = 1 then verifyStart s1 h slot else activateStart s1 h slot fault

def execVerify (h : HalfId) (slot : Nat) (s : State) : Host.Outcome State Fault Refusal := .next (access s h (imgCommand s h 1 slot 0))

def execActivate (h : HalfId) (slot fault : Nat) (s : State) : Host.Outcome State Fault Refusal :=
  .next (access s h (imgCommand s h 2 slot fault))

/-- IMAGE_VERIFY_DONE (R107, R121): VERIFY ends with its code. -/
def execImageVerifyDone (h : HalfId) (fault : Nat) (s : State) : Host.Outcome State Fault Refusal :=
  .next (match (half s h).mode.verifying with
    | none => s
    | some slot =>
      let v := if (half s h).mode.verifyTouched then (0x10, 0xFF, 0) else verifySlot s h slot fault
      let s1 := wrB (putVerdict s h slot v) h Reg.IMG_STAT_VERIFY_BUSY false
      let s2 := wr (wr s1 h Reg.IMG_STAT_VERIFY_RESULT v.1) h Reg.IMG_STAT_CMD_STATUS (if v.1 = 0 then 2 else 0x1E)
      modMode s2 h fun m => { m with verifying := none, verifyTouched := false })

/-! ### The setting window (R110, R111) -/

/-- A write at an address of the setting window: stored in an editable group of the leader, or refused. -/
def windowWrite (s : State) (h : HalfId) (addr v : Nat) : State :=
  let off := addr % 0x20000
  if groupWritable s h (off / 0x4000) then
    modGroup s h (off / 0x4000) fun g => { g with words := nset g.words (off % 0x4000 / 4) (v % 2 ^ 32) }
  else wrB s h Reg.SET_ACTIVE_WRITE_REFUSED true

def execSettingWindowWrite (h : HalfId) (addr v : Nat) (s : State) : Host.Outcome State Fault Refusal :=
  .next (access s h (if within 0x08000000 0x0801FFFF addr then windowWrite s h addr v else s))

/-! ### SET_CMD (R113, R114, R116) -/

/-- The image holds no protection. -/
def safeIdle (s : State) (h : HalfId) : Bool := match (half s h).image with | some i => i.kind == 2 | none => true

/-- The checks of R116. -/
def setStatus (s : State) (h : HalfId) (code g : Nat) : Nat :=
  let m := modeOf s h
  if code = 0 ∨ 3 < code ∨ 7 < g then 0x10
  else if m = mBOOT ∨ m = mLOCKOUT then 0x11
  else if leaderStatus s h ≠ 0 then leaderStatus s h
  else if changePending s h then 0x14
  else if safeIdle s h then 0x18
  else if g = activeGroup s h then 0x1C
  else if code = 2 ∧ rdBit s h Reg.SET_ACTIVE_STAGED g = false then 0x1B
  else 1

/-- Show a staging or switch in a half (R126). -/
def setPendSet (s : State) (h : HalfId) (p : PendSet) : State :=
  wr (wrB (modMode s h fun m => { m with pendSet := some p, crcReply := none, failReply := none }) h Reg.SET_ACTIVE_PEND true)
    h Reg.SET_ACTIVE_TARGET p.group

/-- Remove it without a status, as the standby does. -/
def dropPendSet (s : State) (h : HalfId) : State :=
  wr (wrB (modMode s h fun m => { m with pendSet := none, crcReply := none, failReply := none }) h Reg.SET_ACTIVE_PEND false)
    h Reg.SET_ACTIVE_TARGET 0

/-- Commit a half's group `g` to SET (R608). -/
def setCommit (s : State) (h : HalfId) (g : Nat) : State :=
  let hash := match (half s h).image with | some i => i.hash | none => []
  let n := s.store.setSeq + 1
  startCommit (modStore s fun t => { t with setSeq := n }) h (.set { group := g, unitSeq := n, hash := hash, data := groupOf s h g })

/-- The first failing slot of a half's group `g`. -/
def groupFails (s : State) (h : HalfId) (g : Nat) : Option Nat :=
  match (half s h).image with
  | some i => failingSlot i (hasArc s) (groupOf s h g)
  | none => some 0

/-- STAGE (R113): the leader checks, computes the CRC, and sends the group or, alone, commits it. -/
def stageStart (s : State) (h : HalfId) (g : Nat) : State :=
  match groupFails s h g with
  | some k => wr (wr s h Reg.SET_RESULT_DETAIL k) h Reg.SET_RESULT_STATUS 0x1A
  | none =>
    let s1 := wr s h Reg.SET_CRC_CRC (groupCrc (groupOf s h g))
    let s2 := setPendSet s1 h { switch := false, group := g, acked := alone s h, entry := none }
    if alone s h then setCommit s2 h g else s2

/-- SWITCH (R114), from SET_CMD or from a schedule entry. -/
def switchStart (s : State) (h : HalfId) (g : Nat) (entry : Option Nat) : State :=
  setPendSet s h { switch := true, group := g, acked := alone s h, entry := entry }

/-- LOAD_DEFAULT (R116). -/
def defaultLoad (s : State) (h : HalfId) (g : Nat) : State :=
  match (half s h).image with
  | some i => wr (modGroup s h g fun _ => i.defaults.getD g default) h Reg.SET_RESULT_STATUS 2
  | none => s

/-- A write of SET_CMD. -/
def setCmd (s : State) (h : HalfId) (code g : Nat) : State :=
  let st := setStatus s h code g
  let s1 := wr (result s h Reg.SET_RESULT_SEQ Reg.SET_RESULT_CMD Reg.SET_RESULT_STATUS code st) h Reg.SET_RESULT_DETAIL 0
  if st ≠ 1 then s1
  else if code = 1 then stageStart s1 h g
  else if code = 2 then switchStart s1 h g none
  else defaultLoad s1 h g

def execStage (h : HalfId) (group : Nat) (s : State) : Host.Outcome State Fault Refusal := .next (access s h (setCmd s h 1 group))
def execSwitch (h : HalfId) (group : Nat) (s : State) : Host.Outcome State Fault Refusal := .next (access s h (setCmd s h 2 group))
def execLoadDefault (h : HalfId) (group : Nat) (s : State) : Host.Outcome State Fault Refusal := .next (access s h (setCmd s h 3 group))

/-- SET_STAGE (R113): the standby `h` takes the contents that its leader stages, and replies. -/
def execSetStage (h : HalfId) (s : State) : Host.Outcome State Fault Refusal :=
  let l := other h
  .next (match (half s l).mode.pendSet with
    | none => s
    | some p =>
      if p.switch || p.acked || !alive s h || acts s h then s
      else
        let s1 := modGroup s h p.group fun _ => groupOf s l p.group
        match groupFails s1 h p.group with
        | some k => modMode s1 l fun m => { m with failReply := some k }
        | none =>
          let c := groupCrc (groupOf s1 h p.group)
          modMode (wr s1 h Reg.SET_CRC_CRC c) l fun m => { m with crcReply := some c })

/-- SET_CRC (R113): the leader `h` takes the reply. -/
def execSetCrc (h : HalfId) (s : State) : Host.Outcome State Fault Refusal :=
  let m := (half s h).mode
  .next (match m.pendSet with
    | none => s
    | some p =>
      if p.switch || p.acked then s
      else match m.failReply, m.crcReply with
        | some k, _ => setEnd (wr s h Reg.SET_RESULT_DETAIL k) h 0x1A
        | none, some c =>
          if c = rd s h Reg.SET_CRC_CRC then setCommit (setPendSet s h { p with acked := true }) h p.group else setEnd s h 0x1D
        | none, none => s)

/-- STAGE_TIMEOUT (R113): no reply within t_STAGE. -/
def execStageTimeout (h : HalfId) (s : State) : Host.Outcome State Fault Refusal :=
  .next (match (half s h).mode.pendSet with
    | some p => if p.switch || p.acked then s else setEnd s h 0x16
    | none => s)

/-! ### The switch (R114, R117 to R119) -/

/-- SET_SWITCH (R114): the standby `h` receives the proposal, takes it over and acknowledges. -/
def execSetSwitch (h : HalfId) (s : State) : Host.Outcome State Fault Refusal :=
  .next (match (half s (other h)).mode.pendSet with
    | some p =>
      if p.switch && !p.acked && alive s h && !acts s h && (half s h).mode.pendSet.isNone then
        setPendSet s h { switch := true, group := p.group, acked := true, entry := none }
      else s
    | none => s)

/-- SET_ACK (R114): the leader `h` receives the acknowledgement. -/
def execSetAck (h : HalfId) (s : State) : Host.Outcome State Fault Refusal :=
  .next (match (half s h).mode.pendSet, (half s (other h)).mode.pendSet with
    | some p, some q => if p.switch && q.switch && q.acked && acts s h then setPendSet s h { p with acked := true } else s
    | _, _ => s)

/-- The switch ends unacknowledged: nothing changes in either half. -/
def switchUnacked (s : State) (h : HalfId) (p : PendSet) : State :=
  let s1 := setEnd s h 0x16
  let s2 := if (half s1 (other h)).mode.pendSet.isSome then dropPendSet s1 (other h) else s1
  ledgerH s2 h 0x0306 (p4s [p.group, 0x16])

/-- SWITCH_ACK_TIMEOUT (R114): no acknowledgement within 1 ms of the proposal, or before I. -/
def execSwitchAckTimeout (h : HalfId) (s : State) : Host.Outcome State Fault Refusal :=
  .next (match (half s h).mode.pendSet with
    | some p => if p.switch && !p.acked then switchUnacked s h p else s
    | none => s)

/-- The 16 words of a slot are equal in two groups. -/
def slotSame (a b : SetGroup) (k : Nat) : Bool :=
  (List.range 16).all fun w => nget a.words (k * 16 + w) == nget b.words (k * 16 + w)

/-- The templates of fast slot `f` are equal in two groups. -/
def templatesSame (a b : SetGroup) (f : Nat) : Bool :=
  (a.templates.filter fun e => e.1 / 512 == f) == (b.templates.filter fun e => e.1 / 512 == f)

/-- A general function whose ENABLE goes to 0 returns to its dropout state at once (R118). -/
def generalAtI (s : State) (h : HalfId) (k : Nat) : State :=
  if slotOn s h k then s else genOff s h k

/-- A SIG function whose slot or templates differ discards its window and classification, and its IOC functions that are
not OPERATED wait if confirmed (R295); an IOC or DIDT whose ENABLE goes to 0 drops out. -/
def fastAtI (s : State) (h : HalfId) (f type : Nat) : State :=
  let on := slotOn s h (192 + f)
  if type ≠ 0x23 then
    if on then s
    else fnPut s h f { fastFn s h f with
      pu := false, op := false, conf := false, n := 0, drop := 0, rstate := 0, valid := true, ovr := false }
  else
    let s1 := fnPut s h f { fastFn s h f with sig := 0, win := [], valid := (fastFn s h f).valid || !on }
    (restrainedBy s1 h f).foldl (fun s k =>
      let x := fastFn s h k
      if x.rstate = 3 then s else fnPut s h k { x with rstate := b2n x.conf }) s1

/-- Functions whose slots differ between the groups `a` and `b` (R118, R295), in half `h` with the new group active. -/
def tilesAtI (s : State) (h : HalfId) (a b : SetGroup) : State :=
  match (half s h).image with
  | none => s
  | some i =>
    let s1 := i.general.foldl (fun s r => if r.slot < 192 ∧ slotSame a b r.slot = false then generalAtI s h r.slot else s) s
    i.fast.foldl (fun s r =>
      if within 192 239 r.slot && !(slotSame a b r.slot && templatesSame a b (r.slot - 192)) then fastAtI s h (r.slot - 192) r.type
      else s) s1

/-- Words sorted in ascending order, each once. -/
def ascending (l : List Nat) : List Nat := (l.foldl (fun m o => nset m o 1) []).map fun e => e.1

/-- Copy-on-liven (R119): words that become live are pending-copy while the halves are in lockstep. -/
def liven (s : State) (h : HalfId) (old new : Nat) : State :=
  let was := liveWords s h old
  let is_ := liveWords s h new
  let pend := if rd s h Reg.GAV_LS_STAT_STATE = 1 then
      ascending ((is_.filter fun o => !was.contains o) ++ (half s h).lge.copyPend.filter fun o => is_.contains o)
    else []
  let s1 := modLge s h fun l => { l with
    copyPend := pend, copyTotal := pend.length, copyAt := s.ticks + 1, copySent := [], sweep := 0, sweepMsg := none }
  wr s1 h Reg.SET_ACTIVE_LIVE_PENDING (min pend.length 4095)

/-- Group `g` becomes active in half `h`. -/
def applyGroup (s : State) (h : HalfId) (g : Nat) : State :=
  let old := activeGroup s h
  let a := groupOf s h old
  let s1 := liven s h old g
  let s2 := tilesAtI (wr s1 h Reg.SET_ACTIVE_ACTIVE g) h a (groupOf s h g)
  let s3 := if speaks s h then fieldApply s2 h else s2
  decideOut (arcEvalAll s3 h) h

/-- The leader records the switch: the active-group record and SET_SWITCH (R114, R609). -/
def recordSwitch (s : State) (h : HalfId) (old g : Nat) : State :=
  let hash := match (half s h).image with | some i => i.hash | none => []
  ledgerH (logPut s 2 0 hash g) h 0x0305 (p4s [old, g] ++ timeBytes (now s))

/-- GROUP_SWITCH_INSTANT (R114, R118, R119): the instant I at half `h`. -/
def execGroupSwitchInstant (h : HalfId) (s : State) : Host.Outcome State Fault Refusal :=
  .next (match (half s h).mode.pendSet with
    | none => s
    | some p =>
      if !p.switch then s
      else if !acts s h then applyGroup (dropPendSet s h) h p.group
      else if !p.acked then switchUnacked s h p
      else
        let old := activeGroup s h
        recordSwitch (applyGroup (setEnd s h 2) h p.group) h old p.group)

end Sys2Proof.Machine
end

