-- ==== Sys2Proof/Machine/Boot.lean ====
section
/-!
DEFINITION. Resets and the boot of a half (R18, R72 to R75): power-on, module reset, half reset, slot selection and
load (R109, R112), the exchange of hashes, boot steps 7 to 9, and the entry to LOCKOUT (R76).
-/

namespace Sys2Proof.Machine

open Sys2Proof (Byte HalfId)

/-! ### LOCKOUT (R76, R77) -/

/-- The halves that write a record of the module: the leader, else every half out of reset. -/
def writers (s : State) : List HalfId := match leader s with | some l => [l] | none => (halves s).filter fun h => alive s h

/-- A cause of LOCKOUT, by its bit of R76; `lasting` says that it stays present.  The first one latches LOCKOUT. -/
def lockoutCause (s : State) (c : Nat) (lasting : Bool) : State :=
  let s1 := wrBit s .a Reg.SYS_LOCKOUT_CAUSE c true
  let s2 := if lasting then wrBit s1 .a Reg.SYS_LOCKOUT_PRESENT c true else s1
  if rdB s .a Reg.SYS_LOCKOUT_ACTIVE then s2
  else
    let s3 := wr (wrB s2 .a Reg.SYS_LOCKOUT_ACTIVE true) .a Reg.SYS_LOCKOUT_CAUSE (2 ^ c)
    let s4 := (writers s).foldl (fun s h => ledgerH s h 0x0204 (p4 (2 ^ c))) (setAbort (pendAbort s3))
    let s5 := leaderSafe (cells (wrB s4 .a Reg.TRM_CELL_STAT_LOCKOUT true))
    ((halves s).filter fun h => alive s h).foldl (fun s h => setMode s h mLOCKOUT (byCause (2 ^ c))) s5

/-- No half has an image that verified (R109). -/
def bootFailed (s : State) (h : HalfId) : Bool := alive s h && rd s h Reg.SYS_MODE_BOOT_STEP == 4

/-- A half without liveness strobe: in reset, unpowered, or found silent (R412). -/
def silent (s : State) (h : HalfId) : Bool := !alive s h || (booted s h && absent s h && !(half s h).gav.withdrawn)

/-- BOTH_FAILED (R76): every half of the variant has failed. -/
def bothFailed (s : State) : Bool :=
  (halves s).all fun h => silent s h || bootFailed s h || (booted s h && rd s h Reg.TLY_OVERALL_OVERALL == 2)

/-- SYS_LOCKOUT.PRESENT (R90): causes present now. -/
def lockPresent (s : State) : Nat :=
  putBit (rd s .a Reg.SYS_LOCKOUT_PRESENT) 0 (rdB s .a Reg.SYS_LOCKOUT_ACTIVE && bothFailed s)

/-! ### Resets (R18, R412, R503) -/

/-- Registers of owner `k` (0 Half A, 1 Half B, 2 the field die) return to their reset values. -/
def eraseOwner (s : State) (k : Nat) : State := { s with regs := serase (fun key => key / ownerStride == k) s.regs }

/-- Subsystems that the variant lacks read 3 (R523). -/
def lacking (v : Variant) : List (Nat × Nat) :=
  (if v = .pk9610 ∨ v = .pk9630 then [(5 * 65536, 3)] else []) ++
    (if v = .pk9620 then [(9 * 65536, 3), (10 * 65536, 3), (11 * 65536, 3)] else [])

/-- The committed era of a half (R682). -/
def eraOf (s : State) : HalfId → Nat
  | .a => s.store.eraA
  | .b => s.store.eraB

/-- A half's registers and memories after its reset; it is held in reset. -/
def halfClear (s : State) (h : HalfId) (powered : Bool) : State :=
  let x := Half.reset
  let s1 := setHalf (eraseOwner s (halfNo h)) h { x with mode := { x.mode with powered := powered }, tally := lacking s.variant }
  wr (wrB s1 h Reg.PCV_TEST_CFG_ALONE (!twoHalves s)) h Reg.ARD_ERA_ERA (eraOf s h)

/-- Half reset (R18, R412, R611): the half's part in leadership, changes and image writing ends, and its vote is absent. -/
def halfReset (s : State) (h : HalfId) (powered record_ : Bool) : State :=
  voteAbsent (halfClear (imgAbort (loseLeader s h) h) h powered) h 1 record_

def execHalfReset (h : HalfId) (s : State) : Host.Outcome State Fault Refusal :=
  .next (if present s h && (half s h).mode.powered then halfReset s h true true else s)

/-- Module reset, or power-on with `base` ms of operating time so far: boot step 1 (R18, R72); a Ledger clear leaves its
tombstone (R624). -/
def moduleReset (s : State) (base : Nat) : State :=
  let s1 := { s with regs := [], field := { FieldDie.reset with opBase := base }, store := { s.store with clearing := false } }
  halfClear (halfClear s1 .a true) .b (twoHalves s)

/-- RESET_N (R78, R508): restart at step 1; it ends LOCKOUT and leader-class lockout. -/
def execResetN (s : State) : Host.Outcome State Fault Refusal :=
  if !s.field.supply then .next s
  else
    let s1 := moduleReset s s.field.opBase
    let s2 := if s.field.io.lclOut then (halves s1).foldl (fun s h => ledgerH s h 0x0E05 (p4 2)) s1 else s1
    .next (if rdB s .a Reg.SYS_LOCKOUT_ACTIVE then (halves s2).foldl (fun s h => ledgerH s h 0x0205 (p4 1)) s2 else s2)

/-- Operating time at power-on (R621). -/
def opStored (s : State) : Nat := max s.store.optimeCommitted (match s.store.ledger.head? with | some r => r.optime | none => 0)

/-- The supply is valid (R747), both voltages in 10 mV. -/
def supplyValid (vsup vhold : Nat) : Bool := decide (900 ≤ vsup) && decide (vsup ≤ vhold + 50)

/-- Boot from VSUP valid: step 1 of R72. -/
def powerUp (s : State) (vsup vhold : Nat) : State :=
  let s1 := moduleReset { s with ticks := 0, store := { s.store with recent := [] } } (opStored s)
  wr (wr s1 .a Reg.PWR_VOLT_VSUP vsup) .a Reg.PWR_VOLT_VHOLD vhold

/-- POWER_ON (R72, R747); a power-fail sequence that runs is not withdrawn (R612). -/
def execPowerOn (vsup vhold : Nat) (s : State) : Host.Outcome State Fault Refusal :=
  .next (if supplyValid vsup vhold && !(s.field.supply && rdB s .a Reg.PWR_PF_STAT_PF) then powerUp s vsup vhold else s)

/-! ### Slot selection (R109) -/

/-- The candidates in order: the slot that ACTIVATE named, then those of BOOT_SEL. -/
def candidates (s : State) (h : HalfId) : List Nat :=
  let r := match logGet s 1 0 with | some r => r.value | none => 0
  let base := match s.field.bootSel with
    | 0 => [r, 1 - r, 2]
    | 1 => [0, 2]
    | 2 => [1, 2]
    | _ => [2]
  match (half s h).mode.named with
  | some k => k :: base.filter fun x => x != k
  | none => base

/-- The fault code of a slot's store read in half `h`: slots 0 to 2 of Half A, then of Half B. -/
def slotFault (faults : List Nat) (h : HalfId) (k : Nat) : Nat := faults.getD (3 * halfNo h + k) 0

/-- Verify the candidates in turn, with a verdict for each, up to the first that verifies. -/
def trySlots (s : State) (h : HalfId) (faults : List Nat) : List Nat → State × Option Nat
  | [] => (s, none)
  | k :: t =>
    let v := verifySlot s h k (slotFault faults h k)
    let s1 := putVerdict s h k v
    if v.1 = 0 then (s1, some k) else trySlots s1 h faults t

/-! ### Load (R72 steps 5 and 6, R112) -/

/-- The chain registers of an image (R259, R262, R263). -/
def chainRegs (s : State) (h : HalfId) (i : Image) : State :=
  let s1 := (List.range 160).foldl (fun s c =>
    setWord (setWord s h (Reg.PCV_FLT_CFG_SRC c).key 0) h (Reg.PCV_FLT_DET_DET c).key 0) s
  let s2 := i.chains.foldl (fun s r =>
    let s1 := wr (wrB s h (Reg.PCV_FLT_CFG_PRESENT r.chain) true) h (Reg.PCV_FLT_CFG_COND r.chain) (r.det / 2 ^ 30)
    let s2 := wr (wr s1 h (Reg.PCV_FLT_CFG_RESP_NOW r.chain) r.resp) h (Reg.PCV_FLT_CFG_RESP_IMG r.chain) r.resp
    wr (wr s2 h (Reg.PCV_FLT_CFG_SRC r.chain) r.src) h (Reg.PCV_FLT_DET_DET r.chain) r.det) s1
  wr s2 h Reg.PCV_FLT_SUM_COUNT i.chains.length

/-- Image `i` of slot `k` is the half's image, and its registers show it. -/
def loadImage (s : State) (h : HalfId) (k : Nat) (i : Image) : State :=
  let x := half s h
  let s0 := setHalf s h { x with image := some i }
  let s1 := wr (wr (wr s0 h Reg.SYS_BOOT_SLOT k) h Reg.IMG_STAT_RUN_KIND i.kind) h Reg.IMG_SERIAL_SERIAL i.serial
  let s2 := (List.range 12).foldl (fun s j => wr s h (Reg.IMG_HASH_HASH j) (unLe ((i.hash.drop (4 * j)).take 4))) s1
  let mark := s.store.recordLog.any fun r => r.type == 3 && r.hash == i.hash && r.value == 1
  let s3 := wrB (wr s2 h Reg.SYS_PACE_CERT_CERT_MIN i.certMin) h Reg.SYS_MODE_COMMISSIONED mark
  let s4 := wr (wrB s3 h Reg.GAV_STAT_HOME (i.sys.home == halfNo h)) h Reg.LGE_PROG_COUNT (progCount s0 h)
  let s5 := wr s4 h Reg.LGE_PROG_CYCLIC (i.tasks.filter fun t => t.kind == 0).length
  chainRegs (wr s5 h Reg.LGE_PROG_EVENT (i.tasks.filter fun t => t.kind == 1).length) h i

/-- Setting group `g` from SET, or from SETTINGS_DEFAULT with SET_GROUP_DEFAULTED: reason 1 missing, 2 other hash. -/
def loadGroup (s : State) (h : HalfId) (i : Image) (g : Nat) : State :=
  let put := fun (s : State) (d : SetGroup) =>
    let x := half s h
    setHalf s h { x with groups := sset (fun _ => default) x.groups g d }
  match s.store.setUnits.find? fun u => u.group == g with
  | some u =>
    if u.hash = i.hash then put s u.data
    else modMode (ledgerH (put s (i.defaults.getD g default)) h 0x0307 (p4s [g, 2])) h fun m => { m with defaulted := m.defaulted ++ [g] }
  | none =>
    modMode (ledgerH (put s (i.defaults.getD g default)) h 0x0307 (p4s [g, 1])) h fun m => { m with defaulted := m.defaulted ++ [g] }

/-- The eight groups and the active group; a safe-idle image has no settings. -/
def loadSettings (s : State) (h : HalfId) (i : Image) : State :=
  let s1 := modMode s h fun m => { m with defaulted := [] }
  let s2 := if i.kind = 2 then s1 else (List.range 8).foldl (fun s g => loadGroup s h i g) s1
  let g := match logGet s 2 0 with | some r => if r.hash = i.hash then r.value else i.sys.group | none => i.sys.group
  wr (wr s2 h Reg.SET_ACTIVE_ACTIVE g) h Reg.SET_ACTIVE_STAGED 0xFF

/-- The functions of the image at their dropout states, and the tiles that hold them. -/
def loadTiles (s : State) (h : HalfId) (i : Image) : State :=
  let s1 := (List.range 6).foldl (fun s k => wr (wr (wr s h (Reg.FAB_OP_OP k) 0) h (Reg.FAB_PU_PU k) 0) h (Reg.FAB_INV_INV k) 0) s
  let s2 := wr (wr (wr (wr s1 h Reg.FST_OP_LO_OP 0) h Reg.FST_OP_HI_OP 0) h Reg.FST_PU_LO_PU 0) h Reg.FST_PU_HI_PU 0
  let s3 := i.general.foldl (fun s r => if r.slot < 192 then genPut s h r.slot default else s) s2
  let s4 := i.fast.foldl (fun s r => if within 192 239 r.slot then fnPut s h (r.slot - 192) default else s) s3
  rotInit (rotInit s4 h false) h true

/-- The image-derived loads of the field die, by the half that first completes step 6 (R53, R395, R411, R445). -/
def loadField (s : State) (h : HalfId) : State :=
  if running s (other h) || (half s (other h)).mode.firstLoader then s
  else modMode (closeCommandsOff (fieldApply (fieldClasses s h) h)) h fun m => { m with firstLoader := true }

/-- A half's boot fails: its partner reports it (R109). -/
def bootFails (s : State) (h : HalfId) : State :=
  let x := half s h
  let s1 := setHalf s h { x with image := none }
  if twoHalves s && alive s (other h) then tallyPartner s1 (other h) 2 2 0x0301 else s1

/-- Boot steps 5 and 6 of a half that has completed step 4. -/
def bootImage (s : State) (h : HalfId) (faults : List Nat) : State :=
  let c := candidates s h
  let first := c.headD 2
  let r := trySlots s h faults c
  match r.2 with
  | none => bootFails r.1 h
  | some k =>
    let i := parseImage (imgSlot s k).bytes
    let s1 := wrB r.1 h Reg.SYS_BOOT_FALLBACK (k != first)
    let s2 := if k = first then s1
      else ledgerH s1 h 0x0302 (p4s [first, (verifySlot s h first (slotFault faults h first)).1, k])
    let s3 := loadTiles (loadSettings (loadImage s2 h k i) h i) h i
    loadField (wr s3 h Reg.SYS_MODE_BOOT_STEP 6) h

/-- Boot steps 5 and 6 of several halves; where every half of the module has failed, LOCKOUT (R109). -/
def bootImages (s : State) (hs : List HalfId) (faults : List Nat) : State :=
  let s1 := hs.foldl (fun s h => bootImage s h faults) s
  if !hs.isEmpty && (halves s1).all fun h => bootFailed s1 h then lockoutCause s1 0 false else s1

/-- Boot steps 2 to 4 of a half: release, ROM boot, reference buffer (R72). -/
def releaseReset (s : State) (h : HalfId) : State :=
  let alone := running s (other h) || (half s h).mode.bootAlone
  let s0 := if (half s h).mode.powered then s else traceGap s h false 15 0
  let s1 := modMode s0 h fun m => { m with powered := true, inReset := false, bootAlone := alone }
  let s2 := wrB (wrB (refWrite s1 h true) h Reg.SMP_CLK_STAT_FAST_LOCK true) h Reg.SMP_CLK_STAT_MOD_LOCK true
  wr s2 h Reg.SYS_MODE_BOOT_STEP 4

/-- May the reset of a half be released: it is held with supply, or LAYUP exit powers it up (R83)? -/
def releasable (s : State) (h : HalfId) : Bool :=
  present s h && s.field.supply && (half s h).mode.inReset && ((half s h).mode.powered || layupWaits s (other h))

/-- HALF_RESETS_RELEASED (R72): boot steps 2 to 6. -/
def execHalfResetsReleased (only : Option HalfId) (bootSel : Nat) (faults : List Nat) (s : State) :
    Host.Outcome State Fault Refusal :=
  let hs := (halves s).filter fun h => releasable s h && (match only with | some x => x == h | none => true)
  if hs.isEmpty then .next s
  else
    let s1 := { s with field := { s.field with rails := true, bootSel := bootSel % 4 } }
    .next (bootImages (hs.foldl releaseReset s1) hs faults)

/-! ### Hashes (R74, R75) -/

/-- Step 8 begins: calibration, and the tracker's load in a boot without a running partner (R769): in a module boot at
the same tick as the partner. -/
def startCalibration (s : State) (h : HalfId) : State :=
  let s1 := modFe (wr (wr s h Reg.SYS_MODE_BOOT_STEP 7) h Reg.SMP_CAL_STAT_STATUS 1) h fun f => { f with cal := 1 }
  let p := (half s (other h)).fe
  if (half s h).mode.bootAlone && running s (other h) then s1
  else trackerLoad s1 h 0 (nominalF s1 h) (if p.tracking && !running s (other h) then p.accTick else s.ticks) 0

/-- HASH (R74, R75): equal hashes go on; unequal ones are LOCKOUT, or the half that boots alone fails. -/
def execHash (h : HalfId) (s : State) : Host.Outcome State Fault Refusal :=
  let p := other h
  match (half s h).image, (half s p).image with
  | some i, some j =>
    if !alive s h || !alive s p || rd s h Reg.SYS_MODE_BOOT_STEP != 6 || decide (rd s p Reg.SYS_MODE_BOOT_STEP < 6) then .next s
    else if i.hash = j.hash then .next (startCalibration (wr s h Reg.SYS_BOOT_PARTNER 0) h)
    else
      let s1 := modMode (wr (wr s h Reg.SYS_BOOT_PARTNER 2) h Reg.SYS_MODE_BOOT_STEP 7) h fun m => { m with hashMismatch := true }
      .next (if (half s h).mode.bootAlone then tallyPartner s1 p 2 2 0 else lockoutCause s1 1 false)
  | _, _ => .next s

/-- PARTNER_HASH_TIMEOUT (R74): the half goes on alone, with its partner absent. -/
def execPartnerHashTimeout (h : HalfId) (s : State) : Host.Outcome State Fault Refusal :=
  if !alive s h || rd s h Reg.SYS_MODE_BOOT_STEP != 6 then .next s
  else
    let s1 := tallyPartner (wr s h Reg.SYS_BOOT_PARTNER 1) h 1 3 0
    .next (startCalibration (wr s1 h Reg.GAV_STAT_PARTNER_ROLE 3) h)

/-! ### Steps 8 and 9 (R72, R80, R213) -/

/-- Boot step 9: the logic's start is decided.  It is cold after a new image, warm where a retentive set qualifies, else cold
with RET_INVALID; a half that boots alone beside a leader reloads instead (R75, R83). -/
def bootLogic (s : State) (h : HalfId) : State :=
  if progCount s h = 0 ∨ ((half s h).mode.bootAlone = true ∧ running s (other h) = true) then s
  else if (half s h).mode.named.isSome then modLge s h fun l => { l with restart := 2, startAt := 0 }
  else if (warmSets s h).isEmpty then
    let why := if (retUnits s .a).isEmpty ∧ (retUnits s .b).isEmpty then 1 else 3
    ledgerH (modLge s h fun l => { l with restart := 2, startAt := 0 }) h 0x0D03 (p4s [retSeq s .a, retSeq s .b, why])
  else modLge (wrB s h Reg.SYS_BOOT_WARM true) h fun l => { l with restart := 1, startAt := 0 }

/-- CALIBRATION_DONE (R213 to R216): at boot it completes steps 8 and 9, and no-leader detection begins (R416). -/
def execCalibrationDone (h : HalfId) (fast delays : List Int) (s : State) : Host.Outcome State Fault Refusal :=
  let origin := (half s h).fe.cal
  if origin = 0 ∨ alive s h = false then .next s
  else
    let s1 := calibrated s h fast delays
    .next (if origin = 1 ∧ rd s h Reg.SYS_MODE_BOOT_STEP = 7 then
        modRounds (wr (bootLogic s1 h) h Reg.SYS_MODE_BOOT_STEP 9) fun g => { g with armed := true }
      else s1)

/-! ### A restart at boot step 5 (R66, R78, R109) -/

/-- What a half loses at a restart from step 5: its segments (R562), its grant, its logic and every decision in progress. -/
def restartHalf (s : State) (h : HalfId) (by_ : List Byte) (cause : Nat) : State :=
  let s1 := discardSegments (setMode (injEnd s h 2) h mBOOT by_) h cause
  let s2 := modGav (release s1 h) h fun x => { x with lost := false, noReload := false }
  let s3 := modFe (modDec s2 h fun _ => default) h fun f => { f with test := none, chains := [], tracking := false, cal := 0 }
  let s4 := modArd s3 h fun d => { d with points := [], published := [], repeats := [] }
  let s5 := modMode s4 h fun m => { m with hashMismatch := false, firstLoader := false, bootAlone := false, verifying := none }
  let s6 := modLge (wr (wr s5 h Reg.GAV_LS_STAT_STATE 0) h Reg.GAV_STAT_PARTNER_ROLE 0) h fun l => { l with
    own := false, restart := 0, live := false, copyPend := [] }
  wr (wr s6 h Reg.SYS_BOOT_WARM 0) h Reg.SYS_MODE_BOOT_STEP 4

/-- Both halves restart at step 5 and load again; `hold` puts the BOOT hold on the outputs. -/
def restartBoth (s : State) (hs : List HalfId) (by_ : List Byte) (cause : Nat) (hold : Bool) (faults : List Nat) : State :=
  let s1 := hs.foldl (fun s h => restartHalf s h by_ cause) s
  let s2 := modRounds s1 fun _ => default
  let s3 := hs.foldl (fun s h => wrB s h Reg.GAV_STAT_NO_LEADER false) (wrB s2 .a Reg.TRM_CELL_STAT_NO_LEADER false)
  bootImages (if hold then setDos (cells (wrB s3 .a Reg.TRM_CELL_STAT_BOOT_HOLD true)) (leaderDos s3) 0 else s3) hs faults

end Sys2Proof.Machine
end

