-- ==== Sys2Proof/Machine/Modes.lean ====
section
/-!
DEFINITION. Modes (chapter 2): boot step 11, the mode commands and their change handshake, lay-up, test time, and the
detection of lockout causes.
-/

namespace Sys2Proof.Machine

open Sys2Proof (Byte HalfId)

/-! ### Pins that follow the mode (R68) -/

/-- WD_FAIL is asserted. -/
def wdFail (s : State) : Bool := rdB s .a Reg.TRM_CELL_STAT_BOOT_HOLD || rdB s .a Reg.TRM_CELL_STAT_LOCKOUT

/-- MODULE_OK is high: SERVICE or LAYUP under a leader whose overall state is not failed. -/
def moduleOk (s : State) : Bool :=
  match leader s with
  | some h => (modeOf s h == mSERVICE || modeOf s h == mLAYUP) && rd s h Reg.TLY_OVERALL_OVERALL != 2
  | none => false

/-- PFAIL_N is high (R72, R613). -/
def pfailN (s : State) : Bool := s.field.supply && s.field.rails && !rdB s .a Reg.PWR_PF_STAT_PF

/-- TRC_h_GAP is high: LAYUP keeps the half without power (R729, R758). -/
def trcGap (s : State) (h : HalfId) : Bool := present s h && s.field.supply && !(half s h).mode.powered

/-! ### Boot step 11 (R66, R72, R91, R112, R412) -/

/-- The mode that a boot ends in. -/
def bootMode (s : State) (h : HalfId) : Nat :=
  if rdB s h Reg.SYS_MODE_COMMISSIONED && !safeIdle s h then mSERVICE else mCOMMISSION

/-- The half takes the mode, blocks, masks and test time of a leader that runs already (R60, R61). -/
def followMode (s : State) (h l : HalfId) : State :=
  let s1 := wr (wr s h Reg.SYS_BLOCK_FTO_BLOCK (rd s l Reg.SYS_BLOCK_FTO_BLOCK)) h Reg.SYS_BLOCK_DO_BLOCK (rd s l Reg.SYS_BLOCK_DO_BLOCK)
  let s2 := irq (wr (wrB s1 h Reg.SYS_MODE_C0_BLOCK (rdB s l Reg.SYS_MODE_C0_BLOCK)) h Reg.SYS_MODE_MODE (modeOf s l)) h 1
  let m := (half s l).mode
  suspendUpdate (modMode s2 h fun x => { x with
    maskFto := m.maskFto, maskDo := m.maskDo, testAt := m.testAt, testLimit := m.testLimit }) h

/-- The causes that the field die and the time generator show now, with the codes that they set: arc flags (R387),
trip-circuit supervision (R417), supply groups (R428), wire breaks (R433), group overcurrents (R435), the conditions of
the outputs (R436), an unsynchronised source and an unlocked TB_CLK (R645). -/
def standing (s : State) : List (Nat × Nat) :=
  let on (key code : Nat) (b : Bool) : List (Nat × Nat) := if b then [(key, code)] else []
  ((List.range 16).flatMap fun n => [0, 2, 3, 4, 5].flatMap fun b =>
      on (5 * 65536 + n * 8 + b) 1 (bit (word s .a (Reg.ARC_CSTAT_OBSC_RUN n).key) b)) ++
    ((List.range 4).flatMap fun k => on (6 * 65536 + 2000 + k) 1 (rdB s .a (Reg.TRM_TCS_STAT_FAIL k))) ++
    ((List.range 8).flatMap fun g =>
      on (6 * 65536 + 16 + g) 1 (rdBit s .a Reg.DIO_SUP_MISSING g || rdBit s .a Reg.DIO_SUP_LOW g)) ++
    ((List.range 64).flatMap fun n => on (6 * 65536 + 100 + n) 1 (rdB s .a (Reg.DIO_DISTAT_WIRE_BREAK n))) ++
    ((List.range 4).flatMap fun g => on (6 * 65536 + 32 + g) 1 (rdBit s .a Reg.DIO_SUP_GRP_OC g)) ++
    ((List.range 32).flatMap fun n => (List.range 5).flatMap fun k =>
      on (6 * 65536 + 1000 + n * 8 + k) (if k = 4 then 2 else 1) (rdB s .a (doFlag k n))) ++
    on (14 * 65536 + 1) 1 (rd s .a Reg.TIME_CFG_SRC != 0 && !synced s) ++
    on (14 * 65536 + 2) 2 (rdB s .a Reg.TIME_STAT_UNLOCK)

/-- The standing causes enter the Tally of half `h`, which its reset cleared. -/
def tallyStanding (s : State) (h : HalfId) : State :=
  setHalf s h { half s h with tally := (standing s).foldl (fun l e => nset l e.1 e.2) (half s h).tally }

/-- The codes in force become the first report (R523). -/
def firstReport (s : State) (h : HalfId) : State :=
  let s1 := (List.range 16).foldl (fun s k =>
    let c := tallyCode (half s h).tally k
    wr (wr s h (tlySub k) c) h (Reg.TLY_CAUSE_CODE k) c) s
  wr s1 h Reg.TLY_OVERALL_OVERALL (overallOf s1 h)

/-- The records held during boot enter the Ledger, exempt from its limit (R618). -/
def flushHeld (s : State) (h : HalfId) : State :=
  let rs := (half s h).port.held
  rs.foldl (fun s r => storeAppend s h r) (modPort s h fun p => { p with held := [] })

/-- The management configuration of a half's configuration store: register keys, and from 2^41 upward the words of the
GOOSE tables, with their values (R707). -/
def configOf (s : State) : HalfId → List (Nat × Nat)
  | .a => s.store.cfgA
  | .b => s.store.cfgB

/-- Bytes of the configuration that ETH_CFG_HASH covers: each key in 8 bytes and its value in 4. -/
def configBytes (cfg : List (Nat × Nat)) : List Byte := (cfg.map fun e => le 8 e.1 ++ le 4 e.2).flatten

/-- A key of the management configuration that names a register: port addresses (ETH) and queue settings (EVQ); keys
from 2^41 on are GOOSE tables (R707). -/
def configKey (k : Nat) : Bool := decide (k < 2 ^ 41) && (keyBlock k == 23 || keyBlock k == 21)

/-- The management configuration in force (R707, R732, R733). -/
def loadConfig (s : State) (h : HalfId) : State :=
  let s1 := (configOf s h).foldl (fun s e => if configKey e.1 then setWord s h e.1 e.2 else s) s
  wr s1 h Reg.ETH_CFG_HASH_HASH (crc32 (configBytes (configOf s h)))

/-- The GOOSE tables of the configuration, loaded at boot step 11 (R707, R734). -/
def loadTables (s : State) (h : HalfId) : State :=
  modMgmt s h fun m => { m with
    tables := (configOf s h).foldl (fun t e => if e.1 < 2 ^ 41 then t else nset t (e.1 - 2 ^ 41) e.2) m.tables }

/-- The vote input of a half that has booted is present, unless LAYUP exit is to restore it (R412, R83). -/
def bootVote (s : State) (h : HalfId) : State :=
  if modeOf s h = mLAYUP then s else presence (votePresent s h) h

/-- The hold of BOOT and the latch of LOCKOUT end (R72, R78). -/
def releaseHold (s : State) : State :=
  let s1 := wr (wrB s .a Reg.SYS_LOCKOUT_ACTIVE false) .a Reg.SYS_LOCKOUT_CAUSE 0
  cells (wrB (wrB s1 .a Reg.TRM_CELL_STAT_LOCKOUT false) .a Reg.TRM_CELL_STAT_BOOT_HOLD false)

/-- The partner `p` of a half that has booted no longer reports it absent or failed (R523). -/
def partnerBack (s : State) (p : HalfId) : State := tallyPartner (tallyPartner (tallyPartner s p 1 0 0) p 2 0 0) p 5 0 0

/-- Step 11 of R72, first part: the mode, the step, the management configuration and the first report of Tally. -/
def bootArrive (s : State) (h : HalfId) (ms : Nat) : State :=
  let s1 := match (runningHalves s).find? fun x => x != h && acts s x with
    | some l => followMode s h l
    | none => setMode s h (bootMode s h) (byCause 0)
  let s2 := wr (wr s1 h Reg.SYS_MODE_BOOT_STEP 11) h Reg.SYS_BOOT_DURATION (min ms 65535)
  let s3 := if progCount s h = 0 then wr s2 h Reg.LGE_STAT_CAUSE 8 else s2
  firstReport (tallyStanding (loadTables (loadConfig s3 h) h) h) h

/-- Step 11, second part: the power-cycle count where no other half ran, the defaulted groups, the held Ledger records,
and BOOT_COMPLETE, whose Ledger number is the recorder's RUN_ID. -/
def bootRecord (s : State) (h : HalfId) (first : Bool) : State :=
  let m := (half s h).mode
  let s1 := if first then modStore s fun t => { t with pcycle := t.pcycle + 1 } else s
  let s2 := if m.firstLoader then m.defaulted.foldl (fun s g => setCommit s h g) s1 else s1
  let s3 := flushHeld s2 h
  let s4 := ledgerH s3 h 0x0203 (p4 (word s2 h Reg.SYS_BOOT_SLOT.key))
  if s4.store.ledgerSeq = s3.store.ledgerSeq then s4 else modAcq s4 h fun q => { q with runId := s4.store.ledgerSeq }

/-- Step 11, last part: the vote input, the output hold, the era and the recorder. -/
def bootResume (s : State) (h : HalfId) : State :=
  let s1 := recorderStart (eraBump (releaseHold (bootVote s h)) h 1) h
  modMode s1 h fun m => { m with defaulted := [], firstLoader := false, bootAlone := false, named := none }

/-- BOOT_COMPLETE (R72 step 11): `ms` since VSUP became valid, or since the half's release. -/
def execBootComplete (h : HalfId) (ms : Nat) (s : State) : Host.Outcome State Fault Refusal :=
  if !alive s h || rd s h Reg.SYS_MODE_BOOT_STEP != 10 then .next s
  else
    let p := other h
    let s1 := bootResume (bootRecord (bootArrive s h ms) h (!running s p)) h
    let s2 := if running s p then partnerBack s1 p else s1
    .next (decideOut (suspendUpdate s2 h) h)

/-! ### Mode commands (R65, R66, R88) -/

/-- Modes in which a command is accepted. -/
def modeAllows (c m : Nat) : Bool :=
  if c = 1 ∨ c = 8 ∨ c = 9 then m == mCOMMISSION
  else if c = 2 ∨ c = 5 then m == mSERVICE
  else if c = 3 ∨ c = 4 then m == mTEST
  else if c = 6 then m == mLAYUP
  else if c = 7 then m == mLOCKOUT
  else m == mCOMMISSION || m == mSERVICE || m == mTEST || m == mLAYUP

/-- Code and arguments in range (R88, R93). -/
def modeArgsOk (s : State) (h : HalfId) (c kind index : Nat) : Bool :=
  let lim := rd s h Reg.SYS_TEST_TIME_LIMIT
  1 ≤ c && c ≤ 0xB &&
    (!(c == 2 || c == 4) || (1 ≤ lim && lim ≤ 1440)) &&
    (!(c == 8 || c == 9) || (match kind with
      | 0 => index < 16
      | 1 => index < 32 && bit (tripDos s) index
      | 2 => index == 0
      | _ => false))

/-- The own condition of a command. -/
def modeOwn (s : State) (h : HalfId) (c : Nat) : Nat :=
  if c = 1 ∧ safeIdle s h = true then 0x18
  else if c = 5 ∧ layupPermit s h = false then 0x15
  else if c = 7 ∧ lockPresent s ≠ 0 then 0x17
  else 1

/-- The status of a mode command (R65). -/
def modeStatusOf (s : State) (h : HalfId) (c kind index : Nat) : Nat :=
  let free := c = 7 ∧ modeOf s h = mLOCKOUT
  if modeArgsOk s h c kind index = false then 0x10
  else if ¬ free ∧ leaderStatus s h ≠ 0 then leaderStatus s h
  else if changePending s h then 0x14
  else if modeAllows c (modeOf s h) = false then 0x11
  else modeOwn s h c

/-- The mode that a command leads to. -/
def modeTarget (c m : Nat) : Nat :=
  if c = 1 ∨ c = 3 then mSERVICE else if c = 2 then mTEST else if c = 5 then mLAYUP else m

/-- An accepted change waits for its switch instant (R62); ENTER_SERVICE commits the commissioned mark first. -/
def modeStart (s : State) (h : HalfId) (c kind index : Nat) : State :=
  let s1 := if c = 1 then
      logPut s 3 (rd s h Reg.SYS_BOOT_SLOT) (match (half s h).image with | some i => i.hash | none => []) 1
    else s
  setPend s1 h { cmd := c, target := modeTarget c (modeOf s h), inst := switchInstant s, acked := alone s h, slot := 0
                 arg := kind * 256 + index, maskFto := rd s h Reg.SYS_TEST_MASK_FTO_MASK
                 maskDo := rd s h Reg.SYS_TEST_MASK_DO_MASK, limit := rd s h Reg.SYS_TEST_TIME_LIMIT }

/-- EXIT_LOCKOUT (R78): the running halves restart at step 5, without the BOOT hold. -/
def exitLockout (s : State) (h : HalfId) (faults : List Nat) : State :=
  let hs := (halves s).filter fun x => alive s x
  let s1 := restartBoth (modeStatus s h 0x02) hs (byCmd 7) 2 false faults
  (writers s1).foldl (fun s x => ledgerH s x 0x0205 (p4 2)) s1

/-- A write of SYS_MODE_CMD; `faults` are the store reads that fail in a restart. -/
def modeCmd (s : State) (h : HalfId) (c kind index : Nat) (faults : List Nat) : State :=
  let st := modeStatusOf s h c kind index
  if st ≠ 1 then modeRefuse s h c st
  else
    let s1 := modeResult s h c 1
    if c = 6 then layupTrigger s1 h 1 else if c = 7 then exitLockout s1 h faults else modeStart s1 h c kind index

def execEnterService (h : HalfId) (s : State) : Host.Outcome State Fault Refusal := .next (access s h (modeCmd s h 1 0 0 []))
def execEnterTest (h : HalfId) (s : State) : Host.Outcome State Fault Refusal := .next (access s h (modeCmd s h 2 0 0 []))
def execExitTest (h : HalfId) (s : State) : Host.Outcome State Fault Refusal := .next (access s h (modeCmd s h 3 0 0 []))
def execExtendTest (h : HalfId) (s : State) : Host.Outcome State Fault Refusal := .next (access s h (modeCmd s h 4 0 0 []))
def execEnterLayup (h : HalfId) (s : State) : Host.Outcome State Fault Refusal := .next (access s h (modeCmd s h 5 0 0 []))
def execExitLayup (h : HalfId) (s : State) : Host.Outcome State Fault Refusal := .next (access s h (modeCmd s h 6 0 0 []))
def execExitLockout (h : HalfId) (faults : List Nat) (s : State) : Host.Outcome State Fault Refusal :=
  .next (access s h (modeCmd s h 7 0 0 faults))
def execEnableOutput (h : HalfId) (kind index : Nat) (s : State) : Host.Outcome State Fault Refusal :=
  .next (access s h (modeCmd s h 8 kind index []))
def execDisableOutput (h : HalfId) (kind index : Nat) (s : State) : Host.Outcome State Fault Refusal :=
  .next (access s h (modeCmd s h 9 kind index []))
def execWarmRestart (h : HalfId) (s : State) : Host.Outcome State Fault Refusal := .next (access s h (modeCmd s h 0xA 0 0 []))
def execColdRestart (h : HalfId) (s : State) : Host.Outcome State Fault Refusal := .next (access s h (modeCmd s h 0xB 0 0 []))

/-! ### The change handshake (R62) -/

/-- MODE_PROPOSE: the standby `h` takes over its leader's change and acknowledges. -/
def execModePropose (h : HalfId) (s : State) : Host.Outcome State Fault Refusal :=
  .next (match (half s (other h)).mode.pend with
    | some p => if alive s h && !acts s h && !p.acked && !pendIn s h then setPend s h { p with acked := true } else s
    | none => s)

/-- MODE_ACK: the leader `h` learns that its standby has acknowledged. -/
def execModeAck (h : HalfId) (s : State) : Host.Outcome State Fault Refusal :=
  .next (match (half s h).mode.pend with
    | some p => if acts s h && pendIn s (other h) then setPend s h { p with acked := true } else s
    | none => s)

/-- The blocks of one output change in half `h` (R91). -/
def putBlock (s : State) (h : HalfId) (kind index : Nat) (on : Bool) : State :=
  decideOut (if kind = 0 then wrBit s h Reg.SYS_BLOCK_FTO_BLOCK index on
    else if kind = 1 then wrBit s h Reg.SYS_BLOCK_DO_BLOCK index on
    else wrB s h Reg.SYS_MODE_C0_BLOCK on) h

/-- The masks and the test time of TEST in half `h` (R70, R93). -/
def putTest (s : State) (h : HalfId) (p : PendMode) : State :=
  modMode (wr s h Reg.SYS_TEST_TIME_REMAIN p.limit) h fun m => { m with
    maskFto := p.maskFto, maskDo := p.maskDo, testAt := s.ticks, testLimit := p.limit }

/-- The logic of half `h` stops for a restart; the start boundary is the first at least 10 ms later (R482). -/
def restartLogic (s : State) (h : HalfId) (kind : Nat) : State :=
  if progCount s h = 0 then s
  else modLge (logicEnd s h 7) h fun l => { l with restart := kind, startAt := (rd s h Reg.LGE_CYCLE_COUNT + 41) % 2 ^ 32 }

/-- What change `p` does in half `h` at S. -/
def changeHalf (s : State) (h : HalfId) (p : PendMode) : State :=
  let by_ := byCmd p.cmd
  if p.cmd = 1 then setMode (wrB s h Reg.SYS_MODE_COMMISSIONED true) h mSERVICE by_
  else if p.cmd = 2 then setMode (putTest s h p) h mTEST by_
  else if p.cmd = 3 then setMode s h mSERVICE by_
  else if p.cmd = 4 then decideOut (putTest s h p) h
  else if p.cmd = 5 then setMode s h mLAYUP by_
  else if p.cmd = 8 ∨ p.cmd = 9 then putBlock s h (p.arg / 256) (p.arg % 256) (p.cmd == 9)
  else restartLogic s h (p.cmd - 9)

/-- What the leader records and does for the module at S. -/
def changeModule (s : State) (l : HalfId) (p : PendMode) : State :=
  if p.cmd = 5 ∧ twoHalves s = true then ledgerH s l 0x0206 (p4 (halfNo (other l)))
  else if p.cmd = 0xA ∨ p.cmd = 0xB then leaderSafe (ledgerH s l 0x020A (p4s [p.cmd - 9, p.cmd]))
  else s

/-- The new image takes over at S (R109): both halves restart at step 5; from LAYUP, the standby boots from step 2. -/
def activateNow (s : State) (l : HalfId) (k : Nat) (faults : List Nat) : State :=
  let m := (imgSlot s k).bytes
  let s1 := ledgerH s l 0x0303 (p4 k ++ (imageHash m).take 8 ++ p4 (imgSerial m))
  let hs := (halves s).filter fun x => alive s x
  let s2 := hs.foldl (fun s x => modMode s x fun q => { q with named := some k }) s1
  let p := other l
  let s3 := if twoHalves s && !(half s p).mode.powered then
      traceGap (modMode s2 p fun q => { q with powered := true, inReset := true, bootAlone := true, named := some k }) p false 15 0
    else s2
  restartBoth s3 hs (byCause 0) 1 true faults

/-- The change ends unacknowledged: neither half changes anything (R62). -/
def changeUnacked (s : State) (l : HalfId) (p : PendMode) (st : Nat) : State :=
  let s1 := clearPend (clearPend s l) (other l)
  if p.cmd = 0x100 then wr s1 l Reg.IMG_STAT_CMD_STATUS st
  else if p.cmd ≠ 0 ∧ rd s l Reg.SYS_MODE_RESULT_CMD ≠ p.cmd then modeResult s1 l 0 st else modeStatus s1 l st

/-- MODE_SWITCH_INSTANT (R62 to R64, R79, R81): S of the leader's pending change. -/
def execModeSwitchInstant (faults : List Nat) (s : State) : Host.Outcome State Fault Refusal :=
  match leader s with
  | none => .next s
  | some l =>
    match (half s l).mode.pend with
    | none => .next s
    | some p =>
      if !p.acked then .next (changeUnacked s l p 0x16)
      else
        let hs := (halves s).filter fun h => running s h && pendIn s h
        let s1 := clearPend (clearPend s l) (other l)
        if p.cmd = 0x100 then .next (activateNow s1 l p.slot faults)
        else if !modeAllows p.cmd (modeOf s l) then .next (changeUnacked s l p 0x19)
        else .next (changeModule (modeStatus (hs.foldl (fun s h => changeHalf s h p) s1) l 0x02) l p)

/-! ### Lay-up (R66, R81 to R84, R729) -/

/-- LAYUP_REQ is enabled by the image of half `h`. -/
def layupReqOn (s : State) (h : HalfId) : Bool := match (half s h).image with | some i => i.sys.layupReq | none => false

/-- LAYUP_REQ_HELD (R66): an automatic request for LAYUP. -/
def execLayupReqHeld (s : State) : Host.Outcome State Fault Refusal :=
  .next (match leader s with
    | none => s
    | some l =>
      if modeOf s l ≠ mSERVICE ∨ layupReqOn s l = false then s
      else if changePending s l then modeRefuse s l 0 0x14
      else if layupPermit s l then modeStart (modeResult s l 0 1) l 5 0 0
      else modeRefuse s l 0 0x15)

/-- LAYUP_REQ_FALL (R83). -/
def execLayupReqFall (s : State) : Host.Outcome State Fault Refusal :=
  .next (match leader s with
    | some l => if layupReqOn s l then layupTrigger s l 2 else s
    | none => s)

/-- Retentive data not yet committed become a unit (R485, R613). -/
def retFlush (s : State) (h : HalfId) : State :=
  let s1 := (half s h).port.commits.foldl (fun s j => match j with
    | .ret u => unitValid s h (.ret u)
    | .set _ => s) s
  if (half s1 h).lge.retDirty then unitValid s1 h (.ret (retSet s1 h (retSeq s1 h + 1))) else s1

/-- The standby's step 3: outstanding retentive data are committed, and its trace is drained (R81, R729). -/
def layupFlush (s : State) (h : HalfId) : State :=
  let s1 := traceGap s h true 15 3
  retFlush (if rdB s1 h Reg.TRC_CFG_STORE then traceSnapshot s1 h 3 else s1) h

/-- Fast channels off (R81 step 5): every fast function reads its input with VALID 0. -/
def fastOff (s : State) (h : HalfId) : State :=
  let s1 := (List.range (fastCount s)).foldl (fun s n =>
    let c := sget (fun _ => default) (half s h).fe.fast n
    let c1 := { c with hist := ((c.hist.map fun p => { p with valid := false }).take 33) }
    fastEval (modFe s h fun x => { x with fast := sset (fun _ => default) x.fast n c1 }) h n (now s)) s
  afterFast s1 h

/-- STANDBY_POWER_DOWN (R81 steps 3 to 5). -/
def execStandbyPowerDown (s : State) : Host.Outcome State Fault Refusal :=
  match leader s with
  | none => .next s
  | some l =>
    if modeOf s l ≠ mLAYUP ∨ (half s l).mode.layupExit ≠ 0 then .next s
    else
      let p := other l
      let s1 := if twoHalves s then halfReset (if running s p then layupFlush s p else s) p false false else s
      let s2 := modMode (traceGap (endLockstep s1) l true 14 1) l fun m => { m with layupExit := 1 }
      .next (fastOff (wr s2 l Reg.ETH_CORE_STATE 2) l)

/-- FAST_WAKE_DONE (R83 step 1): the fast converters run again, every channel is back, and the areas arm again; with no
standby to wait for, exit ends. -/
def execFastWakeDone (s : State) : Host.Outcome State Fault Refusal :=
  match leader s with
  | none => .next s
  | some l =>
    if !layupWaits s l then .next s
    else
      let s1 := modMode (wakeChains s l) l fun m => { m with layupExit := 3 }
      let s2 := coreWake (rearmAreas s1 l layupArea fun _ => true) l
      let inLs := running s (other l) && rd s l Reg.GAV_LS_STAT_STATE == 1
      .next (if !twoHalves s || inLs then layupDone s2 l false else s2)

/-- LAYUP_EXIT_TIMEOUT (R84). -/
def execLayupExitTimeout (s : State) : Host.Outcome State Fault Refusal :=
  .next (match leader s with
    | some l => if layupWaits s l then layupDone s l true else s
    | none => s)

/-! ### Test time (R70, R71, R93) -/

/-- TEST_TIMEOUT: every half in TEST returns to SERVICE, with or without a leader. -/
def execTestTimeout (s : State) : Host.Outcome State Fault Refusal :=
  let hs := (runningHalves s).filter fun h => modeOf s h == mTEST
  let s1 := ((writers s).filter fun h => modeOf s h == mTEST).foldl (fun s h =>
    modeResult (ledgerH s h 0x0208 (p4 (half s h).mode.testLimit)) h 0 0x02) s
  .next (hs.foldl (fun s h => setMode s h mSERVICE (byCause 0)) s1)

/-- Minutes of TEST remaining, rounded up (R93). -/
def testRemain (s : State) (h : HalfId) : Nat :=
  if modeOf s h = mTEST then (half s h).mode.testLimit - (s.ticks - (half s h).mode.testAt) / 7500000000 else 0

/-! ### Causes of LOCKOUT (R76) -/

/-- LOCKOUT_REQUEST: half `h` asks for LOCKOUT: 0 BOTH_FAILED, 1 IMAGE_MISMATCH, where that cause exists. -/
def execLockoutRequest (h : HalfId) (cause : Nat) (s : State) : Host.Outcome State Fault Refusal :=
  .next (if alive s h && ((cause == 0 && bothFailed s) || (cause == 1 && (half s h).mode.hashMismatch && !(half s h).mode.bootAlone)) then
      lockoutCause s cause false
    else s)

/-- LIVENESS_TIMEOUT (R76, R412): no strobe of half `h` for 5 ms; none of either half is LOCKOUT. -/
def execLivenessTimeout (h : HalfId) (s : State) : Host.Outcome State Fault Refusal :=
  if !present s h || rdB s .a Reg.TRM_CELL_STAT_BOOT_HOLD then .next s
  else
    let s1 := if running s h then mclkMove (voteAbsent s h 2 true) h else s
    .next (if (halves s1).all fun x => silent s1 x then lockoutCause s1 0 false else s1)

/-- GAVEL_FAULT: GAVEL_MON has read 11 for 100 ms. -/
def execGavelFault (s : State) : Host.Outcome State Fault Refusal := .next (if s.field.mon = 3 then lockoutCause s 2 true else s)

/-- RAIL_FAULT: an internal rail has been out of regulation for more than 10 ms. -/
def execRailFault (s : State) : Host.Outcome State Fault Refusal :=
  .next (if s.field.supply then lockoutCause { s with field := { s.field with rails := false } } 3 true else s)

end Sys2Proof.Machine
end

