-- ==== Sys2Proof/Machine/Power.lean ====
section
/-!
DEFINITION. Pace monitors (R41 to R46), power-fail and its sequence (R612 to R615), the stop of the converter and the
restoration of power (R614).
-/

namespace Sys2Proof.Machine

open Sys2Proof (Byte HalfId)

/-! ### Pace (R41, R43, R766) -/

/-- Put a number into an ascending list. -/
def insertAsc (v : Nat) : List Nat → List Nat
  | [] => [v]
  | x :: t => if v ≤ x then v :: x :: t else x :: insertAsc v t

/-- A list in ascending order. -/
def sortAsc : List Nat → List Nat
  | [] => []
  | x :: t => insertAsc x (sortAsc t)

/-- The monitors excluded from a measurement, as a mask (R41). -/
def paceExcluded (counts : List Nat) : Nat :=
  let o := sortAsc counts
  let lim := o.getD 3 0 + o.getD 4 0
  (List.range 8).foldl (fun m k =>
    let c := counts.getD k 0
    putBit m k (c == 0 || decide (lim < c))) 0

/-- The counts that remain, each with its monitor. -/
def paceKept (counts : List Nat) : List (Nat × Nat) :=
  let m := paceExcluded counts
  ((List.range 8).filter fun k => !bit m k).map fun k => (counts.getD k 0, k)

/-- The smallest remaining count and the lowest monitor that gave it. -/
def paceWorst (kept : List (Nat × Nat)) : Option (Nat × Nat) :=
  kept.foldl (fun (b : Option (Nat × Nat)) e => match b with
    | none => some e
    | some x => if e.1 < x.1 then some e else some x) none

/-- PACE_MON is due: MON_FAIL has changed, and a second has passed since the last one (R766). -/
def paceMon (s : State) (h : HalfId) : State :=
  let m := (half s h).mode
  if m.paceMonDirty && m.paceMonAge == 0 then
    ledgerH (modMode s h fun x => { x with paceMonDirty := false, paceMonAge := 10000 }) h 0x0102
      (p4s [rd s h Reg.SYS_PACE_MON_FAIL, rd s h Reg.SYS_PACE_PACE])
  else s

/-- PACE_LOW sets or clears (R43): 1 set, 2 clear; `few` says that too few monitors remain. -/
def paceLow (s : State) (h : HalfId) (on few : Bool) : State :=
  let s1 := modMode (wrB s h Reg.SYS_PACE_PACE_LOW on) h fun m => { m with paceGood := 0 }
  let s2 := if on then irq s1 h 5 else s1
  let s3 := ledgerH s2 h 0x0101 (p4s [if on then 1 else 2, rd s h Reg.SYS_PACE_PACE, rd s h Reg.SYS_PACE_CERT_CERT_MIN,
    rd s h Reg.SYS_PACE_WORST_MON, if few then 2 else 1])
  tallySet s3 h 3 2 (b2n on) 0x0101

/-- The registers of a measurement: MON_FAIL, PACE with its monitor, LOWEST.  With no monitor left the spec states no
PACE: a free value. -/
def paceShow (s : State) (h : HalfId) (counts : List Nat) : State :=
  let s1 := wr s h Reg.SYS_PACE_MON_FAIL (paceExcluded counts)
  let s2 := match paceWorst (paceKept counts) with
    | some w => wr (wr s1 h Reg.SYS_PACE_PACE (min w.1 65535)) h Reg.SYS_PACE_WORST_MON w.2
    | none =>
      let v := freeVal s1 65536
      wr v.2 h Reg.SYS_PACE_PACE v.1
  wr s2 h Reg.SYS_PACE_LOWEST_LOWEST (min (rd s2 h Reg.SYS_PACE_LOWEST_LOWEST) (rd s2 h Reg.SYS_PACE_PACE))

/-- What a measurement means for Tally and PACE_LOW. -/
def paceJudge (s : State) (h : HalfId) (few : Bool) : State :=
  let fail := rd s h Reg.SYS_PACE_MON_FAIL
  let cert := rd s h Reg.SYS_PACE_CERT_CERT_MIN
  let pace := rd s h Reg.SYS_PACE_PACE
  let good := !few && decide (cert + cert / 64 ≤ pace)
  let s1 := modMode s h fun m => { m with paceGood := if good then m.paceGood + 1 else 0 }
  let s2 := tallySet (tallySet s1 h 3 1 (b2n (fail != 0 && !few)) 0x0102) h 3 3 (if few then 2 else 0) 0x0101
  if (few || decide (pace < cert)) && !rdB s h Reg.SYS_PACE_PACE_LOW then paceLow s2 h true few else s2

/-- PACE_MEASUREMENT (R41, R43): the eight monitor counts of half `h`. -/
def execPaceMeasurement (h : HalfId) (counts : List Nat) (s : State) : Host.Outcome State Fault Refusal :=
  if !alive s h then .next s
  else
    let changed := paceExcluded counts != rd s h Reg.SYS_PACE_MON_FAIL
    let s1 := paceShow (count s h 2) h counts
    let s2 := modMode s1 h fun m => { m with
      paceMonDirty := m.paceMonDirty || changed, paceMonAge := m.paceMonAge - 1 }
    .next (paceMon (paceJudge s2 h (decide ((paceKept counts).length < 6))) h)

/-- PACE_LOW_CLEAR (R43): 10,000 consecutive measurements at the clearing level or above. -/
def execPaceLowClear (h : HalfId) (s : State) : Host.Outcome State Fault Refusal :=
  .next (if alive s h && rdB s h Reg.SYS_PACE_PACE_LOW && decide (10000 ≤ (half s h).mode.paceGood) then
      paceLow s h false false
    else s)

/-! ### Power-fail (R561, R612 to R615) -/

/-- The declaration condition of R612: 1 below 8.3 V or LEVEL, 2 below VHOLD − 0.5 V, 0 none; voltages in 10 mV. -/
def pfCause (s : State) (vsup vhold : Nat) : Nat :=
  if vsup < 830 ∨ vsup < 10 * rd s .a Reg.PWR_PF_CFG_LEVEL then 1
  else if vsup + 50 < vhold then 2
  else 0

/-- The committed bytes of a segment, block by block; `n` bounds the blocks. -/
def packSegment (crate : Bool) (i : Image) (ar : AreaRec) (seg : List Byte) : Nat → Nat → List Byte → List Byte
  | 0, _, out => out
  | n + 1, pos, out =>
    if seg.length ≤ pos then out
    else
      let b := segmentBlock crate i ar seg pos
      packSegment crate i ar seg n (pos + b.1) (out ++ b.2)

/-- The committed form of a closed segment. -/
def packed (s : State) (h : HalfId) (g : Segment) : List Byte :=
  match areaRec s h g.area, (half s h).image with
  | some ar, some i =>
    let seg := nativeBytes s h i ar g
    packSegment (hasCrate s) i ar seg seg.length 0 []
  | _, _ => []

/-- Put a segment into a list by T_TRIG, the most recent first. -/
def insertTrig (g : Segment) : List Segment → List Segment
  | [] => [g]
  | x :: t => if x.tTrig ≤ g.tTrig then g :: x :: t else x :: insertTrig g t

/-- The flush order of the pending segments (R561). -/
def flushOrder (s : State) (h : HalfId) : List Segment :=
  ((half s h).acq.segs.filter fun g => g.pending).foldr insertTrig []

/-- Share the budget: the segments that fit with their bytes, in order, and those skipped. -/
def flushPlan (s : State) (h : HalfId) : Nat → List Segment → List (Segment × List Byte) × List Segment
  | _, [] => ([], [])
  | b, g :: t =>
    let bs := packed s h g
    if bs.length ≤ b then
      let r := flushPlan s h (b - bs.length) t
      ((g, bs) :: r.1, r.2)
    else
      let r := flushPlan s h b t
      (r.1, g :: r.2)

/-- Step 2 in one half: what R613 abandons, and POWER_FAIL. -/
def pfNotify (s : State) (h : HalfId) (cause vsup vhold : Nat) : State :=
  let s1 := (definedAreas s h).foldl (fun s a => stopArea s h a 3 fPOWERFAIL) s
  let s2 := injEnd (testAbort (imgAbort (hostPowerFail (handoverAbandon s1 h) h) h) h 3) h 4
  ledgerH s2 h 0x1102 (p4s [cause, vsup, vhold])

/-- Every segment gets its measurements. -/
def measureAll (s : State) (h : HalfId) : State :=
  ((half s h).acq.segs.filter fun g => !g.measured).foldl (fun s g => measureSegment s h g.area) s

/-- Steps 2 to 6 of one half after its notification: the flush, the operating time and PF_SUMMARY. -/
def pfFlush (s : State) (h : HalfId) (times : List Nat) : State :=
  let s1 := measureAll (modAcq s h fun q => { q with job := none }) h
  let plan := flushPlan s1 h 0x100000 (flushOrder s1 h)
  let s2 := plan.2.foldl (fun s g => notCommitted s h g.area 3) s1
  let s3 := retFlush s2 h
  let s4 := plan.1.foldl (fun s (e : Segment × List Byte) => recCommit s h e.1.area e.1.seq e.2) s3
  let flushed := (plan.1.map fun e => e.2.length).foldl (· + ·) 0
  let steps := ((List.range 7).map fun k => le 2 (min (times.getD k 0) 65535)).flatten
  ledgerH s4 h 0x1103 (steps ++ p4s [flushed, plan.2.length, times.getD 7 0])

/-- Step 7: the halves are held in reset, FTO are driven deasserted, DO are off. -/
def pfHold (s : State) : State :=
  let s1 := (halves s).foldl (fun s h => halfClear s h true) s
  let s2 := { s1 with field := { s1.field with mon := 0 } }
  let s3 := wrB (wrB s2 .a Reg.TRM_CELL_STAT_A_ABSENT true) .a Reg.TRM_CELL_STAT_B_ABSENT true
  setDos (cells (wrB s3 .a Reg.TRM_CELL_STAT_BOOT_HOLD true)) 0xFFFFFFFF 0

/-- Power-fail is declared: its cause and the voltages. -/
def pfDeclare (s : State) (cause vsup vhold : Nat) : State :=
  let s1 := wr (wr s .a Reg.PWR_VOLT_VSUP vsup) .a Reg.PWR_VOLT_VHOLD vhold
  wr (wrB s1 .a Reg.PWR_PF_STAT_PF true) .a Reg.PWR_PF_STAT_CAUSE cause

/-- The sequence of R613 from the declaration to step 7. -/
def pfSequence (s : State) (cause vsup vhold : Nat) (times : List Nat) : State :=
  let hs := (halves s).filter fun h => alive s h && modeOf s h != mBOOT
  let s1 := pfDeclare s cause vsup vhold
  if hs.isEmpty then pfHold s1
  else
    let s2 := hs.foldl (fun s h => pfNotify s h cause vsup vhold) (setAbort (pendAbort s1))
    let s3 := hs.foldl (fun s h => pfFlush s h times) s2
    let s4 := modStore s3 fun t => { t with optimeCommitted := opMs s }
    wr (pfHold s4) .a Reg.PWR_PF_STAT_STEP 7

/-- POWER_FAIL_DECLARE (R612, R613, R615): `times` are the step times in µs, then VHOLD at step 6 in 10 mV. -/
def execPowerFailDeclare (vsup vhold : Nat) (times : List Nat) (s : State) : Host.Outcome State Fault Refusal :=
  let cause := pfCause s vsup vhold
  .next (if s.field.supply && !rdB s .a Reg.PWR_PF_STAT_PF && cause != 0 then pfSequence s cause vsup vhold times else s)

/-- CONVERTER_STOP (R614): every die loses supply; nothing but the store keeps anything. -/
def execConverterStop (s : State) : Host.Outcome State Fault Refusal :=
  if !s.field.supply then .next s
  else
    let s1 := moduleReset s s.field.opBase
    let s2 := halfClear (halfClear s1 .a false) .b false
    .next { s2 with field := { s2.field with supply := false } }

/-- POWER_RESTORE_BOOT (R614): supply has been valid for 10 ms after the sequence, with no condition of R612. -/
def execPowerRestoreBoot (vsup vhold : Nat) (s : State) : Host.Outcome State Fault Refusal :=
  .next (if s.field.supply && rdB s .a Reg.PWR_PF_STAT_PF && supplyValid vsup vhold && pfCause s vsup vhold == 0 then
      powerUp s vsup vhold
    else s)

end Sys2Proof.Machine
end

