-- ==== Sys2Proof/Machine/Schedule.lean ====
section
/-!
DEFINITION. Time commands and sources (R643 to R651), schedule entries (R652, R653), Stocktake commands and the domain
take (R654, R657).
-/

namespace Sys2Proof.Machine

open Sys2Proof (Byte HalfId)

/-! ### Stocktake commands (R654, R657, R666) -/

/-- A time held in NS, SEC_LO and SEC_HI words; bits 2:0 of the nanoseconds are ignored (R663). -/
def wordsTime (ns lo hi : Nat) : Nat := (hi * 2 ^ 32 + lo) * 1000000000 + ns / 8 * 8

/-- The cross-link carries messages to a standby that takes part. -/
def relayReady (s : State) (h : HalfId) : Bool :=
  partnerIn s h && running s (other h) && rdB s h Reg.GAV_XL_STAT_UP

/-- Half `h` broadcasts a domain take on its own plane and receives it itself (R657). -/
def domainSend (s : State) (h : HalfId) (t tag : Nat) : State :=
  armDomain (sendFrame s h 2 2 0x3FFF (domainPayload t tag)) h t tag

/-- The status of an STK_CTRL command (R666); a take completes within its command. -/
def stkStatus (s : State) (h : HalfId) (code : Nat) : Nat :=
  if code = 0 ∨ 2 < code then 0x10
  else if modeOf s h = mBOOT then 0x11
  else if code = 2 ∧ acts s h = false then 0x12
  else if rdB s h Reg.STK_STAT_BUSY then 0x14
  else 0x02

/-- A write of STK_CTRL, or a take of a schedule entry (`origin` 1). -/
def stkCmd (s : State) (h : HalfId) (code origin : Nat) : State :=
  let st := stkStatus s h code
  let s1 := result s h Reg.STK_RESULT_SEQ Reg.STK_RESULT_CMD Reg.STK_RESULT_STATUS code st
  if st ≠ 0x02 then s1
  else if code = 1 then takeStk s1 h origin none
  else
    let t := wordsTime (rd s h Reg.STK_DNS_NS) (rd s h Reg.STK_DSEC_LO_SEC) (rd s h Reg.STK_DSEC_HI_SEC)
    let tag := rd s h Reg.STK_DTAG_TAG
    let s2 := if relayReady s h then
        let x := half s1 h
        setHalf s1 h { x with stk := { x.stk with dRelay := some (t, tag) } }
      else s1
    domainSend s2 h t tag

def execTake (h : HalfId) (s : State) : Host.Outcome State Fault Refusal := .next (access s h (stkCmd s h 1 0))
def execDomainTakeCmd (h : HalfId) (s : State) : Host.Outcome State Fault Refusal := .next (access s h (stkCmd s h 2 0))

/-- DOMAIN_TAKE_RELAY (R657): the standby `h` sends the take of its leader on its own plane. -/
def execDomainTakeRelay (h : HalfId) (s : State) : Host.Outcome State Fault Refusal :=
  let l := other h
  .next (match (half s l).stk.dRelay with
    | some d =>
      let x := half s l
      let s1 := setHalf s l { x with stk := { x.stk with dRelay := none } }
      if running s h then domainSend s1 h d.1 d.2 else s1
    | none => s)

/-- DOMAIN_TAKE_DUE (R657). -/
def execDomainTakeDue (h : HalfId) (s : State) : Host.Outcome State Fault Refusal :=
  .next (if rdB s h Reg.STK_STAT_DPEND && decide ((half s h).stk.dTime ≤ now s) then domainTake s h else s)

/-! ### Schedule entries (R652, R653, R665) -/

/-- The time of an entry. -/
def schedTime (s : State) (h : HalfId) (e : Nat) : Nat :=
  wordsTime (rd s h (Reg.TIME_SCH_NS_NS e)) (rd s h (Reg.TIME_SCH_SEC_LO_SEC e)) (rd s h (Reg.TIME_SCH_SEC_HI_SEC e))

/-- An entry is armed. -/
def schedArmed (s : State) (h : HalfId) (e : Nat) : Bool := rd s h (Reg.TIME_SCH_STAT_STATE e) == 1

/-- A listed action with an argument in its range (R652). -/
def schedArgOk (action arg : Nat) : Bool :=
  match action with
  | 1 => arg == 0
  | 2 => decide (arg < 8)
  | 3 => decide (1 ≤ arg) && decide (arg < 256)
  | 4 => decide (arg < 16)
  | 5 => decide (1 ≤ arg) && decide (arg ≤ 1000000)
  | _ => false

/-- The policy of a past entry: true rejects.  Code 3 is not given: a free value decides. -/
def schedRejects (s : State) (h : HalfId) (e : Nat) : Bool × State :=
  match rd s h (Reg.TIME_SCH_CFG_POLICY e) with
  | 0 => (decide (4 ≤ rd s h (Reg.TIME_SCH_CFG_ACTION e)), s)
  | 1 => (false, s)
  | 2 => (true, s)
  | _ => let v := freeVal s 2; (v.1 == 1, v.2)

/-- REC_TRIGGER: the trigger of ACQ_CMD, of kind scheduled, flagged SCHEDULED, and LATE when late (R547, R553). -/
def schedTrigger (s : State) (h : HalfId) (mask : Nat) (late : Bool) : State × Nat :=
  let st := acqStatus s h 1 mask
  let s1 := result s h Reg.ACQ_RESULT_SEQ Reg.ACQ_RESULT_CMD Reg.ACQ_RESULT_STATUS 1 st
  (if st = 0x02 then triggerAreas s1 h mask 4 0 (now s1) (1024 + 2048 * b2n late) else s1, st)

/-- PULSE: a PPS_OUT pulse of the holder in mode 3. -/
def schedPulse (s : State) (h : HalfId) (us : Nat) : State × Nat :=
  if holds s h && rd s .a Reg.TIME_PPS_MODE == 3 then (modTime s fun g => { g with ppsEnd := s.ticks + 125 * us }, 0x02)
  else (s, 0x23)

/-- SET_SWITCH: SWITCH for a group; its end is reported in the entry too. -/
def schedSwitch (s : State) (h : HalfId) (g e : Nat) : State × Nat :=
  let st := setStatus s h 2 g
  let s1 := wr (result s h Reg.SET_RESULT_SEQ Reg.SET_RESULT_CMD Reg.SET_RESULT_STATUS 2 st) h Reg.SET_RESULT_DETAIL 0
  (if st = 1 then switchStart s1 h g (some e) else s1, st)

/-- The action of an entry, and the status that its command register reports. -/
def schedAct (s : State) (h : HalfId) (e : Nat) (late : Bool) : State × Nat :=
  let arg := rd s h (Reg.TIME_SCH_CFG_ARG e)
  match rd s h (Reg.TIME_SCH_CFG_ACTION e) with
  | 1 => (stkCmd s h 1 1, stkStatus s h 1)
  | 2 => schedSwitch s h arg e
  | 3 => schedTrigger s h arg late
  | 4 =>
    let s1 := injStart s h arg s.ticks (now s) 2 e
    (s1, rd s1 h Reg.PCV_INJ_STAT_STATUS)
  | _ => schedPulse s h arg

/-- Execute an armed entry whose time has come; `late` by how many ns it is past. -/
def schedExecute (s : State) (h : HalfId) (e late : Nat) : State :=
  let act := rd s h (Reg.TIME_SCH_CFG_ACTION e)
  let s1 := if late = 0 then s
    else ledgerH (wr (wrB s h (Reg.TIME_SCH_STAT_LATE e) true) h (Reg.TIME_SCH_LATE_NS e) (min late 0xFFFFFFFF)) h 0x1204
      (p4s [e, act, late])
  let r := schedAct s1 h e (late != 0)
  schedEnd r.1 h e (if r.2 < 0x10 then 2 else 3) r.2

/-- An armed entry at or after its time (R653): a past one by its policy. -/
def schedRun (s : State) (h : HalfId) (e : Nat) : State :=
  let t := schedTime s h e
  let late := now s - t
  if late = 0 then schedExecute s h e 0
  else
    let r := schedRejects s h e
    if r.1 then
      ledgerH (schedEnd r.2 h e 3 0x1E) h 0x1205
        (p4s [e, rd s h (Reg.TIME_SCH_CFG_ACTION e), rd s h (Reg.TIME_SCH_SEC_LO_SEC e)])
    else schedExecute r.2 h e late

/-- A due entry with action `act`. -/
def schedDue (s : State) (h : HalfId) (e act : Nat) : State :=
  if schedArmed s h e && rd s h (Reg.TIME_SCH_CFG_ACTION e) == act && decide (schedTime s h e ≤ now s) then schedRun s h e else s

def execScheduledStocktake (h : HalfId) (entry : Nat) (s : State) : Host.Outcome State Fault Refusal :=
  .next (schedDue s h (entry % 16) 1)
def execScheduledSetSwitch (h : HalfId) (entry : Nat) (s : State) : Host.Outcome State Fault Refusal :=
  .next (schedDue s h (entry % 16) 2)
def execRecTrigger (h : HalfId) (entry : Nat) (s : State) : Host.Outcome State Fault Refusal :=
  .next (schedDue s h (entry % 16) 3)
def execTestInject (h : HalfId) (entry : Nat) (s : State) : Host.Outcome State Fault Refusal :=
  .next (schedDue s h (entry % 16) 4)
def execPulse (h : HalfId) (entry : Nat) (s : State) : Host.Outcome State Fault Refusal :=
  .next (schedDue s h (entry % 16) 5)

/-- Store the fields of TIME_SCH_CFG but ARM. -/
def schedStore (s : State) (h : HalfId) (e w : Nat) : State :=
  let s1 := wr (wr s h (Reg.TIME_SCH_CFG_POLICY e) (bits w 29 28)) h (Reg.TIME_SCH_CFG_ACTION e) (bits w 27 24)
  wr s1 h (Reg.TIME_SCH_CFG_ARG e) (bits w 23 0)

/-- A write of TIME_SCH_CFG of entry `e`. -/
def schedCfg (s : State) (h : HalfId) (e w : Nat) : State :=
  let ok := schedArgOk (bits w 27 24) (bits w 23 0)
  let s1 := if ok then schedStore s h e w else wr s h (Reg.TIME_SCH_STAT_STATUS e) 0x10
  if bit w 31 then
    if !ok then s1
    else
      let s2 := wrB (wr s1 h (Reg.TIME_SCH_STAT_STATE e) 1) h (Reg.TIME_SCH_CFG_ARM e) true
      let s3 := wr (wrB s2 h (Reg.TIME_SCH_STAT_LATE e) false) h (Reg.TIME_SCH_STAT_STATUS e) 0
      if schedTime s3 h e < now s3 then schedRun s3 h e else s3
  else wrB (wr s1 h (Reg.TIME_SCH_STAT_STATE e) 0) h (Reg.TIME_SCH_CFG_ARM e) false

def execScheduleArm (h : HalfId) (entry cfg : Nat) (s : State) : Host.Outcome State Fault Refusal :=
  .next (access s h (schedCfg s h (entry % 16) (putBit (cfg % 2 ^ 32) 31 true)))
def execScheduleDisarm (h : HalfId) (entry cfg : Nat) (s : State) : Host.Outcome State Fault Refusal :=
  .next (access s h (schedCfg s h (entry % 16) (putBit (cfg % 2 ^ 32) 31 false)))

/-- What follows a load or step in its tick (R651, R653): the entries in ascending order, then the domain take. -/
def afterLoad (s : State) : State :=
  let entry := fun (h : HalfId) (s : State) (e : Nat) =>
    if schedArmed s h e && decide (schedTime s h e ≤ now s) then schedRun s h e else s
  let s1 := (halves s).foldl (fun s h => (List.range 16).foldl (entry h) s) s
  (halves s).foldl (fun s h =>
    if rdB s h Reg.STK_STAT_DPEND && decide ((half s h).stk.dTime ≤ now s) then domainTake s h else s) s1

/-! ### TIME_CTRL and TIME_SLEW (R650, R662) -/

/-- The checks of R650. -/
def timeStatus (s : State) (h : HalfId) (code : Nat) : Nat :=
  let pend := rdB s .a Reg.TIME_STAT_PENDING
  if code = 0 ∨ 4 < code then 0x10
  else if modeOf s h = mBOOT then 0x11
  else if !holds s h then 0x20
  else if code ≠ 4 ∧ rdB s .a Reg.TIME_CFG_SERVO = true then 0x25
  else if code ≠ 4 ∧ pend = true then 0x14
  else if code = 4 ∧ pend = false then 0x23
  else if code = 2 then 0x01
  else 0x02

/-- The staged time; nanoseconds above 999,999,999 are not given: a free value. -/
def stagedTime (s : State) : Nat × State :=
  let ns := rd s .a Reg.TIME_SET_NS_NS
  let sec := rd s .a Reg.TIME_SET_SEC_HI_SEC * 2 ^ 32 + rd s .a Reg.TIME_SET_SEC_LO_SEC
  if ns < 1000000000 then (sec * 1000000000 + ns / 8 * 8, s)
  else
    let v := freeVal s 125000000
    (sec * 1000000000 + v.1 * 8, v.2)

/-- COMMIT. -/
def timeCommit (s : State) : State :=
  let t := stagedTime s
  afterLoad (loadBase t.2 t.1 2)

/-- A write of TIME_CTRL. -/
def timeCmd (s : State) (h : HalfId) (code : Nat) : State :=
  let st := timeStatus s h code
  let s1 := holderErr (result s .a Reg.TIME_RESULT_SEQ Reg.TIME_RESULT_CMD Reg.TIME_RESULT_STATUS code st) h st
  if st ≠ 0x01 ∧ st ≠ 0x02 then s1
  else if code = 1 then timeCommit s1
  else if code = 2 then wrB s1 .a Reg.TIME_STAT_PENDING true
  else if code = 3 then afterLoad (loadBase s1 (steppedTime s1 (toSigned 32 (rd s .a Reg.TIME_STEP_NS))) 4)
  else wrB s1 .a Reg.TIME_STAT_PENDING false

def execTimeCommit (h : HalfId) (s : State) : Host.Outcome State Fault Refusal := .next (access s h (timeCmd s h 1))
def execCommitAtPps (h : HalfId) (s : State) : Host.Outcome State Fault Refusal := .next (access s h (timeCmd s h 2))
def execTimeStep (h : HalfId) (s : State) : Host.Outcome State Fault Refusal := .next (access s h (timeCmd s h 3))
def execTimeCancel (h : HalfId) (s : State) : Host.Outcome State Fault Refusal := .next (access s h (timeCmd s h 4))

/-- TIME_LOAD_AT_SECOND (R650): the staged seconds and 0 ns. -/
def execTimeLoadAtSecond (s : State) : Host.Outcome State Fault Refusal :=
  if !rdB s .a Reg.TIME_STAT_PENDING then .next s
  else
    let sec := rd s .a Reg.TIME_SET_SEC_HI_SEC * 2 ^ 32 + rd s .a Reg.TIME_SET_SEC_LO_SEC
    let s1 := wrB (wrB s .a Reg.TIME_STAT_PENDING false) .a Reg.TIME_STAT_TOD_SET true
    let s2 := wr (wr s1 .a Reg.TIME_RESULT_CMD 2) .a Reg.TIME_RESULT_STATUS 0x02
    .next (afterLoad (loadBase s2 (sec * 1000000000) 3))

/-- A write of TIME_SLEW by half `h` (R53, R650, R663). -/
def slewWrite (s : State) (h : HalfId) (v : Nat) : State :=
  let x := toSigned 32 v
  if !holds s h then wrB s h Reg.SYS_ERR_NOT_HOLDER true
  else if 200000 < x.natAbs then wr s .a Reg.TIME_RESULT_STATUS 0x10
  else if rdB s .a Reg.TIME_CFG_SERVO then wr s .a Reg.TIME_RESULT_STATUS 0x25
  else modTime (wr s .a Reg.TIME_SLEW_PPB v) fun g => { g with rhoTarget := x }

def execTimeSlewWrite (h : HalfId) (v : Nat) (s : State) : Host.Outcome State Fault Refusal := .next (access s h (slewWrite s h v))


/-! ### The servo and its sources (R643 to R646, R648) -/

/-- One offset measurement: a step, or a correction of ρ; then R645. -/
def measure (s : State) (off : Int) : State :=
  if !servoRuns s then s
  else
    let s1 := measureBase s off
    trySync (if servoSteps s1 off then afterLoad (loadBase s1 (steppedTime s1 (-off)) 1) else servoSlew s1)

/-- PTP messages of a domain reach the slave clock of the holder's port. -/
def ptpSlave (s : State) (domain : Nat) : Bool :=
  timeSrc s == 1 && domain == rd s .a Reg.TIME_CFG_DOMAIN && !rdB s .a Reg.TIME_CFG_CLOCK && servoRuns s

/-- The time root sends a TIME_SYNC frame on each plane (R695): origin time, correction 0, clock identity (a free value). -/
def rootSync (s : State) : State :=
  let id := freeVal s (2 ^ 64)
  if (halves s).any fun h => (ardCfg s h).timeRoot then
    (halves s).foldl (fun s h => if (ardCfg s h).timeRoot then
      sendFrame s h 2 3 0x3FFF (timeBytes (now s) ++ le 8 0 ++ le 8 id.1) else s) id.2
  else s

/-- PTP_SYNC (R644, R646): from the chosen master; a two-step Sync waits for its Follow_Up. -/
def execPtpSync (domain master : Nat) (offset : Int) (twoStep : Bool) (s : State) : Host.Outcome State Fault Refusal :=
  .next (if !ptpSlave s domain || s.field.time.master != master + 1 then s
    else if twoStep then modTime s fun g => { g with syncWait := some master }
    else rootSync (measure (modTime s fun g => { g with syncWait := none }) offset))

/-- PTP_FOLLOW_UP (R646). -/
def execPtpFollowUp (domain master : Nat) (offset : Int) (s : State) : Host.Outcome State Fault Refusal :=
  .next (if ptpSlave s domain && s.field.time.syncWait == some master then
      rootSync (measure (modTime s fun g => { g with syncWait := none }) offset)
    else s)

/-- PTP_ANNOUNCE (R646): a better sender becomes the master; the master's valid UTC offset is copied. -/
def execPtpAnnounce (domain master : Nat) (better : Bool) (utc : Option Nat) (s : State) : Host.Outcome State Fault Refusal :=
  if !ptpSlave s domain then .next s
  else
    let s1 := if better then modTime s fun g => { g with master := master + 1 } else s
    .next (match utc with
      | some u =>
        if s1.field.time.master = master + 1 then wr (wrB s1 .a Reg.TIME_UTC_VALID true) .a Reg.TIME_UTC_OFFSET u else s1
      | none => s1)

/-- PTP_PDELAY_REQ (R646): the port answers in one or two steps. -/
def execPtpPdelayReq (h : HalfId) (domain : Nat) (s : State) : Host.Outcome State Fault Refusal :=
  let x := half s h
  .next (if alive s h && domain == rd s .a Reg.TIME_CFG_DOMAIN then
      setHalf s h { x with mgmt := { x.mgmt with ptpAnswer := some (domain, rdB s .a Reg.TIME_CFG_TWO_STEP) } }
    else s)

/-- PTP_PDELAY_RESP (R646): the link delay of the holder's port, or of a port of the transparent clock. -/
def execPtpPdelayResp (h : HalfId) (domain delay : Nat) (s : State) : Host.Outcome State Fault Refusal :=
  .next (if alive s h && domain == rd s .a Reg.TIME_CFG_DOMAIN && (holds s h || rdB s .a Reg.TIME_CFG_CLOCK) then
      modTime s fun g => { g with linkDelay := delay }
    else s)

/-- PPS_IN_EDGE (R644, R648): captured; with SRC 3 a measurement. -/
def execPpsInEdge (offset : Int) (s : State) : Host.Outcome State Fault Refusal :=
  if !s.field.supply then .next s
  else
    let s1 := wr (wr s .a Reg.TIME_PPSCAP_NS_NS (nsOf (now s))) .a Reg.TIME_PPSCAP_SEC_SEC (secOf (now s))
    let s2 := wrB s1 .a Reg.TIME_STAT_PPS_IN_OK true
    let s3 := if s.field.time.ppsLost then ledgerField (modTime s2 fun g => { g with ppsLost := false }) 0x1203 (p4 2) else s2
    .next (if timeSrc s = 3 then measure s3 offset else s3)

/-- PPS_IN_LOST (R648). -/
def execPpsInLost (s : State) : Host.Outcome State Fault Refusal :=
  let s1 := wrB s .a Reg.TIME_STAT_PPS_IN_OK false
  .next (if timeSrc s = 3 ∧ s.field.time.ppsLost = false then
      ledgerField (modTime s1 fun g => { g with ppsLost := true }) 0x1203 (p4 1)
    else s1)

/-- HOLDOVER (R645). -/
def execHoldover (s : State) : Host.Outcome State Fault Refusal :=
  if timeSrc s = 0 ∨ s.field.time.measured = false then .next s
  else
    let s1 := modTime s fun g => { g with measured := false, inRange := 0, outRange := 0 }
    .next (setSync (if rdB s .a Reg.TIME_CFG_SERVO then wr s1 .a Reg.TIME_STAT_SERVO_STATE 3 else s1) false)

/-- GRID_SLEW_DONE (R642, R645). -/
def execGridSlewDone (s : State) : Host.Outcome State Fault Refusal :=
  .next (if rdB s .a Reg.TIME_STAT_GRID_SLEW && s.field.time.grid == 0 then
      trySync (wrB s .a Reg.TIME_STAT_GRID_SLEW false)
    else s)

/-- TB_CLK_UNLOCK (R645): TIME failed, and no sample of any channel is valid. -/
def execTbClkUnlock (s : State) : Host.Outcome State Fault Refusal :=
  .next (if rdB s .a Reg.TIME_STAT_UNLOCK then s
    else tallyTime (setSync (wrB s .a Reg.TIME_STAT_UNLOCK true) false) 2 2 0)

/-- TB_CLK_RELOCK (R645). -/
def execTbClkRelock (s : State) : Host.Outcome State Fault Refusal :=
  .next (if rdB s .a Reg.TIME_STAT_UNLOCK then trySync (tallyTime (wrB s .a Reg.TIME_STAT_UNLOCK false) 2 0 0) else s)

/-- High time of PPS_OUT in ms; outside 1 to 500 the spec gives none: a free value. -/
def ppsWidth (s : State) : Nat × State :=
  let w := rd s .a Reg.TIME_PPS_WIDTH
  if 1 ≤ w ∧ w ≤ 500 then (w, s) else freeVal s 65536

/-- PPS_OUT_SECOND (R648). -/
def execPpsOutSecond (s : State) : Host.Outcome State Fault Refusal :=
  let m := rd s .a Reg.TIME_PPS_MODE
  if m = 1 ∨ (m = 2 ∧ synced s = true) then
    let w := ppsWidth s
    .next (modTime w.2 fun g => { g with ppsEnd := s.ticks + 125000 * w.1 })
  else .next s

/-- The level of PPS_OUT (R648). -/
def ppsOut (s : State) : Bool := decide (s.ticks < s.field.time.ppsEnd)

end Sys2Proof.Machine
end

