-- ==== Sys2Proof/Machine/Arcade.lean ====
section
/-!
DEFINITION. Arcade and the Bazaar (chapter 19): what received intertrips, streams, updates and time-sync frames do, the
refresh and the repeats of publications, and points that go stale.
-/

namespace Sys2Proof.Machine

open Sys2Proof (Byte HalfId)

/-- t_STALE in ticks (R690). -/
def staleTicks : Nat := 1500000

/-- A point of class `cls` in a frame of unit `src` (R684): its subscription; not its owner is refused. -/
def pointSub (s : State) (h : HalfId) (id cls : Nat) : Option (Nat × SubRec) :=
  match subOf (ardCfg s h) id with
  | some e => if e.2.cls = cls then some e else none
  | none => none

/-- The queue item of a Bazaar change (R737): the point's ID and its value word. -/
def bazaarItem (s : State) (h : HalfId) (src id w : Nat) : State :=
  let u := 0xC000 + src
  evBump (qPush s h 5 (qItem s h u 0 (p4s [id, w]))) h u

/-- Take a received value of a point (R684, R690). -/
def takePoint (s : State) (h : HalfId) (lane : Nat) (f : List Byte) (id cls w at_ : Nat) (test : Bool) : State :=
  match pointSub s h id cls with
  | none => s
  | some e =>
    if e.2.owner ≠ frSrc f then frameRefuse s h lane f 6
    else
      let old := pointWord (pointState s h e.1)
      let s1 := acceptPoint s h e.1 w staleTicks at_ test
      if pointWord (pointState s1 h e.1) = old then s1 else bazaarItem s1 h (frSrc f) id w

/-- The matrices and triggers after received points. -/
def pointsFeed (s : State) (h : HalfId) : State := edgeTriggers (gooseScan (decideOut s h) h) h

/-- INTERTRIP (R677, R684, R694): a C0 point reaches the trip matrix and, where FAST, the fast matrix. -/
def intertripAct (h : HalfId) (lane : Nat) (f : List Byte) (s : State) : State :=
  let w := frNum f 16 4
  pointsFeed (takePoint s h lane f (w % 2 ^ 20) 0 (256 * (w / 2 ^ 24 % 2) + 128) (frTime f 20) (frTest f)) h

def execIntertrip (h : HalfId) (lane : Nat) (frame : List Byte) (s : State) : Host.Outcome State Fault Refusal :=
  .next (receiveFrame s h lane 0 1 frame (intertripAct h lane frame))

/-- One used entry of an UPDATE at byte `a` (R677). -/
def updateAct (s : State) (h : HalfId) (lane : Nat) (f : List Byte) (a : Nat) : State :=
  let w := frNum f a 4
  if bit w 31 then takePoint s h lane f (w % 2 ^ 20) 2 (frNum f (a + 4) 4) (frNum f (a + 12) 4 * 1000000000 + frNum f (a + 8) 4) (bit w 20) else s

/-- UPDATE (R690). -/
def execUpdate (h : HalfId) (lane : Nat) (frame : List Byte) (s : State) : Host.Outcome State Fault Refusal :=
  .next (receiveFrame s h lane 2 1 frame fun s =>
    pointsFeed (updateAct (updateAct s h lane frame 20) h lane frame 36) h)

/-- Sample word `w` of quantity `q` of stream subscription `n` reaches every DIFF input that names it (R350, R695). -/
def streamWord (s : State) (h : HalfId) (n q inst w : Nat) (sync : Bool) : State :=
  match (half s h).image with
  | none => s
  | some i => i.general.foldl (fun s r =>
      if r.type = 0xA ∧ slotOn s h r.slot = true then
        (streamIns r.inputs).foldl (fun s e =>
          if bits e.2 11 4 = n ∧ bits e.2 3 0 = q then diffStream s h r.slot e.1 inst w sync r.inputs else s) s
      else s) s

/-- STREAM (R677, R684): only from the unit that the subscription names. -/
def streamAct (h : HalfId) (f : List Byte) (s : State) : State :=
  match (ardCfg s h).ssubs.zipIdx.find? fun e => e.1.src == frSrc f && e.1.stream == frNum f 16 1 with
  | none => s
  | some e =>
    let b := frNum f 17 1
    let inst := frTime f 18
    let s1 := (List.range (min 6 (b % 16 + 1))).foldl (fun s k =>
      streamWord s h e.2 (b / 16 + k) inst (frNum f (28 + 4 * k) 4) (frSync f)) s
    pointsFeed s1 h

def execStream (h : HalfId) (lane : Nat) (frame : List Byte) (s : State) : Host.Outcome State Fault Refusal :=
  .next (receiveFrame s h lane 1 1 frame (streamAct h frame))

/-- TIME_SYNC (R643, R695): a measurement where the source is Arcade and this half holds the Gavel. -/
def execTimeSync (h : HalfId) (lane : Nat) (frame : List Byte) (offset : Int) (s : State) : Host.Outcome State Fault Refusal :=
  .next (receiveFrame s h lane 2 3 frame fun s => if timeSrc s = 2 ∧ holds s h = true then measure s offset else s)

/-- P publications pause while the logic is stopped (R480). -/
def pubPaused (s : State) (h : HalfId) (k : Nat) : Bool :=
  match (ardCfg s h).pubs[k]? with
  | some r => r.src % 256 == 0x12 && !logicRuns s h
  | none => true

/-- BAZAAR_REFRESH (R688). -/
def execBazaarRefresh (h : HalfId) (pub : Nat) (s : State) : Host.Outcome State Fault Refusal :=
  .next (if running s h && !pubPaused s h pub then publish s h pub false else s)

/-- INTERTRIP_REPEAT (R691): the change is sent again with its instant and the present value. -/
def execIntertripRepeat (h : HalfId) (pub : Nat) (s : State) : Host.Outcome State Fault Refusal :=
  let n := nget (half s h).ard.repeats pub
  .next (match (ardCfg s h).pubs[pub]? with
    | some r =>
      if n = 0 then s
      else
        let s1 := modArd s h fun d => { d with repeats := nset d.repeats pub (n - 1) }
        sendPoint s1 h r (pubWord s h r) true (nget (half s h).ard.changeAt pub)
    | none => s)

/-- POINT_STALE (R690): the matrices see it too (R406). -/
def execPointStale (h : HalfId) (point : Nat) (s : State) : Host.Outcome State Fault Refusal :=
  .next (if running s h && !(pointState s h point).stale then pointsFeed (pointGoesStale s h point) h else s)

end Sys2Proof.Machine
end

