-- ==== Sys2Proof/Machine/Mgmt.lean ====
section
/-!
DEFINITION. Management (chapter 20): the management core and its sessions, the load governor, elevation and keys, GOOSE
reception, event-queue reads, trace snapshots and debug access.
-/

namespace Sys2Proof.Machine

open Sys2Proof (Byte HalfId)

/-! ### Sessions (R713 to R716, R718) -/

/-- Reservation, cap in cells and requests per second of a role (R714). -/
def roleQuota (role : Nat) : Nat × Nat × Nat :=
  if role = 0 then (16, 64, 20) else if role = 1 then (32, 128, 50) else if role = 2 then (32, 512, 100) else (64, 1024, 200)

/-- The open session with index `k`. -/
def sessionOf (s : State) (h : HalfId) (k : Nat) : Option Session := (half s h).mgmt.sessions.find? fun e => e.index == k

/-- Answer a session. -/
def emp (s : State) (h : HalfId) (e : EmpStatus) : State := modMgmt s h fun m => { m with emp := e }

/-- ETH_CORE.SESSIONS follows the open sessions. -/
def putSessions (s : State) (h : HalfId) (l : List Session) : State :=
  wr (modMgmt s h fun m => { m with sessions := l }) h Reg.ETH_CORE_SESSIONS l.length

/-- Release queue `q` and its items (R706, R718). -/
def queueRelease (s : State) (h : HalfId) (q : Nat) : State :=
  let x := half s h
  let s1 := setHalf s h { x with evq := { x.evq with
    items := sset (fun _ => []) x.evq.items q [], next := nset x.evq.next q 0, active := x.evq.active.filter fun k => k != q } }
  setWord (setWord s1 h (Reg.EVQ_CFG_RES q).key 0) h (Reg.EVQ_STAT_LOST q).key 0

/-- Take queue `q` into use with a reservation and a cap (R714, R724). -/
def queueOpen (s : State) (h : HalfId) (q res cap : Nat) : State :=
  let x := half s h
  wr (wr (setHalf s h { x with evq := { x.evq with active := x.evq.active.filter (fun k => k != q) ++ [q] } }) h (Reg.EVQ_CFG_RES q) res) h (Reg.EVQ_CFG_CAP q) cap

/-- The elevation of an accessor: 0xFF the host port, k session k. -/
def elevationOf (s : State) (h : HalfId) (acc : Nat) : Option Elevation :=
  (half s h).mgmt.elevs.find? fun e => e.acc == acc

/-- SEC_STAT.ELEV and HST_STAT.ELEVATED follow the elevations. -/
def putElevs (s : State) (h : HalfId) (l : List Elevation) : State :=
  wr (modMgmt s h fun m => { m with elevs := l }) h Reg.SEC_STAT_ELEV (l.filter fun e => e.acc != 0xFF).length

/-- Elevation of an accessor ends (R718). -/
def elevationEnd (s : State) (h : HalfId) (acc : Nat) : State :=
  match elevationOf s h acc with
  | none => s
  | some e =>
    ledgerH (putElevs s h ((half s h).mgmt.elevs.filter fun x => x.acc != acc)) h 0x1404 (p4s [acc, e.slot, 2])

/-- A session ends: its queue, elevation and challenge go (R718). -/
def sessionEnd (s : State) (h : HalfId) (k : Nat) : State :=
  match sessionOf s h k with
  | none => s
  | some _ =>
    let s1 := modMgmt (elevationEnd s h k) h fun m => { m with chals := m.chals.filter fun c => c.acc != k }
    queueRelease (putSessions s1 h ((half s1 h).mgmt.sessions.filter fun e => e.index != k)) h (8 + k)

/-- The management core runs. -/
def coreRuns (s : State) (h : HalfId) : Bool := alive s h && rd s h Reg.ETH_CORE_STATE == 0

/-- SESSION_OPEN (R714, R716, R727): refused while the governor refuses handshakes, and with POOL where the reservation
exceeds the unreserved cells. -/
def sessionOpen (s : State) (h : HalfId) (k role : Nat) : State :=
  let q := roleQuota role
  if !coreRuns s h || 256 ≤ k || 4 ≤ role || (sessionOf s h k).isSome then s
  else if rdBit s h Reg.ETH_CORE_GOV 0 then emp s h .refused
  else if 16384 - qReserved s h < q.1 then emp s h .pool
  else
    let m := (half s h).mgmt
    let e : Session := { index := k, role := role, order := m.opened, reqs := 0, since := s.ticks }
    let s1 := putSessions (modMgmt s h fun m => { m with opened := m.opened + 1 }) h (m.sessions ++ [e])
    emp (queueOpen s1 h (8 + k) q.1 q.2.1) h .ok

def execSessionOpen (h : HalfId) (k role : Nat) (s : State) : Host.Outcome State Fault Refusal := .next (sessionOpen s h k role)

def execSessionEnd (h : HalfId) (k : Nat) (s : State) : Host.Outcome State Fault Refusal := .next (sessionEnd s h k)

/-- A request of session `k` counts against its rate (R714): whether it is within the quota, and the state. -/
def sessionRate (s : State) (h : HalfId) (e : Session) : Bool × State :=
  let fresh := decide (e.since + 125000000 ≤ s.ticks)
  let n := if fresh then 0 else e.reqs
  let e1 : Session := { e with reqs := n + 1, since := if fresh then s.ticks else e.since }
  (decide (n < (roleQuota e.role).2.2),
   modMgmt s h fun m => { m with sessions := m.sessions.map fun x => if x.index = e.index then e1 else x })

/-! ### The management core (R706, R727) -/

/-- Restarts of the last 3,600 s. -/
def recentRestarts (s : State) (h : HalfId) : List Nat := (half s h).mgmt.restarts.filter fun t => s.ticks < t + 450000000000

/-- End every session of a half. -/
def sessionsEnd (s : State) (h : HalfId) : State :=
  ((half s h).mgmt.sessions.map Session.index).foldl (fun s k => sessionEnd s h k) s

/-- MGMT_WATCHDOG (R706). -/
def coreRestart (s : State) (h : HalfId) : State :=
  if !alive s h || rd s h Reg.ETH_CORE_STATE == 1 then s
  else
    let lost := (half s h).mgmt.sessions.length
    let rs := s.ticks :: recentRestarts s h
    let s1 := sessionsEnd s h
    let s2 := wr (modMgmt s1 h fun m => { m with restarts := rs, highRuns := 0 }) h Reg.ETH_CORE_STATE 1
    let s3 := ledgerH (wr s2 h Reg.ETH_CORE_RESTARTS (min 7 rs.length)) h 0x1401 (p4s [rs.length, lost])
    let s4 := tallySet s3 h 15 1 1 0x1401
    if 3 ≤ rs.length then tallySet s4 h 15 2 2 0x1401 else s4

def execMgmtWatchdog (h : HalfId) (s : State) : Host.Outcome State Fault Refusal := .next (coreRestart s h)

/-- MGMT_CORE_RESTARTED (R706). -/
def execMgmtCoreRestarted (h : HalfId) (s : State) : Host.Outcome State Fault Refusal :=
  .next (if alive s h && rd s h Reg.ETH_CORE_STATE == 1 then loadConfig (wr s h Reg.ETH_CORE_STATE 0) h else s)

/-- MANAGEMENT_DEGRADED_END (R706). -/
def execManagementDegradedEnd (h : HalfId) (s : State) : Host.Outcome State Fault Refusal :=
  .next (access s h (tallySet s h 15 1 0 0x1401))

/-- The session that the governor drops: the lowest role present, oldest first, never the last Warden (R727). -/
def dropVictim (l : List Session) : Option Session :=
  let low := l.foldl (fun m e => min m e.role) 3
  let ss := l.filter fun e => e.role == low
  if low = 3 ∧ ss.length ≤ 1 then none
  else ss.foldl (fun b e => match b with
    | none => some e
    | some x => if e.order < x.order then some e else some x) none

/-- A governor bit sets above one load and clears below another. -/
def govBit (s : State) (h : HalfId) (i load above below : Nat) : State :=
  if above < load then wrBit s h Reg.ETH_CORE_GOV i true
  else if load < below then wrBit s h Reg.ETH_CORE_GOV i false else s

/-- GOVERNOR_WINDOW (R727): the load of a 100 ms window, in %. -/
def governor (s : State) (h : HalfId) (load : Nat) : State :=
  if !coreRuns s h then s
  else
    let l := min load 100
    let s1 := govBit (govBit (wr s h Reg.ETH_CORE_LOAD l) h 0 l 80 75) h 1 l 90 85
    let n := if 97 < l then (half s h).mgmt.highRuns + 1 else 0
    let s2 := wrBit (modMgmt s1 h fun m => { m with highRuns := n }) h Reg.ETH_CORE_GOV 2 (decide (10 ≤ n))
    if 10 < n then
      match dropVictim (half s2 h).mgmt.sessions with
      | some e => ledgerH (sessionEnd s2 h e.index) h 0x1402 (p4s [e.index, e.role, l])
      | none => s2
    else s2

def execGovernorWindow (h : HalfId) (load : Nat) (s : State) : Host.Outcome State Fault Refusal := .next (governor s h load)

/-- ETH_LINK_CHANGE (R708): the line is up only at 1000 Mb/s full duplex; another speed or duplex is refused. -/
def execEthLinkChange (h : HalfId) (up supported : Bool) (s : State) : Host.Outcome State Fault Refusal :=
  .next (access s h (wrB (wrB s h Reg.ETH_STAT_LINK (up && supported)) h Reg.ETH_STAT_REFUSED (up && !supported)))

/-! ### Elevation (R717 to R719) -/

/-- Does a key slot hold a key? -/
def keyHeld (s : State) (h : HalfId) (kind index : Nat) : Bool := (keyWords s h kind index).isSome

/-- The keys of a half's configuration store. -/
def keysOf (s : State) : HalfId → List KeyEntry
  | .a => s.store.keysA
  | .b => s.store.keysB

/-- Replace them. -/
def putKeys (s : State) (h : HalfId) (l : List KeyEntry) : State :=
  match h with
  | .a => modStore s fun t => { t with keysA := l }
  | .b => modStore s fun t => { t with keysB := l }

/-- No Warden slot holds a key (R719). -/
def virgin (s : State) (h : HalfId) : Bool := !(keysOf s h).any fun k => k.kind == 1

/-- The host port is elevated (R717, R719). -/
def hostElevated (s : State) (h : HalfId) : Bool := virgin s h || (elevationOf s h 0xFF).isSome

/-- SEC_DEVID in bytes. -/
def devIdBytes (s : State) (h : HalfId) : List Byte :=
  le 4 (rd s h Reg.SEC_DEVID_LO_ID) ++ le 4 (rd s h Reg.SEC_DEVID_HI_ID)

/-- Words as bytes, and 16 words as a signature. -/
def wordsBytes (ws : List Nat) : List Byte := (ws.map (le 4)).flatten
def sigBytes (s : State) (h : HalfId) : List Byte := wordsBytes ((List.range 16).map fun i => rd s h (Reg.SEC_SIG_WORD i))

/-- Write bytes into the SIG words. -/
def putSig (s : State) (h : HalfId) (bs : List Byte) : State :=
  (List.range 16).foldl (fun s i => wr s h (Reg.SEC_SIG_WORD i) (unLe ((bs.drop (4 * i)).take 4))) s

/-- 30 s and 60 s in ticks. -/
def ticks30 : Nat := 3750000000
def ticks60 : Nat := 7500000000

/-- CHALLENGE of this accessor returns BUSY (R717). -/
def challengeLocked (s : State) (h : HalfId) (acc : Nat) : Bool :=
  (half s h).mgmt.locked.any fun e => e.1 == acc && decide (s.ticks < e.2 + ticks60)

/-- Report a SEC command. -/
def secResult (s : State) (h : HalfId) (c st : Nat) : State :=
  result s h Reg.SEC_RESULT_SEQ Reg.SEC_RESULT_CMD Reg.SEC_RESULT_STATUS c st

/-- CHALLENGE (R717 step 2): nonce and signature. -/
def challenge (s : State) (h : HalfId) (acc : Nat) : State :=
  let m := (half s h).mgmt
  let cn := (List.range 8).map fun i => rd s h (Reg.SEC_CNONCE_WORD i)
  let nn := (List.range 8).map fun i => Config.nonceWord (2 * m.draws + halfNo h) i % 2 ^ 32
  let s1 := (List.range 8).foldl (fun s i => wr s h (Reg.SEC_NONCE_WORD i) (nn.getD i 0)) s
  let msg := [0x50, 0x4B, 0x44, 0x56] ++ devIdBytes s h ++ wordsBytes cn ++ wordsBytes nn
  let s2 := putSig s1 h (Config.deviceSign (h == .b) (Config.sha256 msg))
  let c : Challenge := { acc := acc, nonce := nn, cnonce := cn, tick := s.ticks }
  modMgmt s2 h fun m => { m with draws := m.draws + 1, chals := c :: m.chals.filter fun x => x.acc != acc }

/-- An AUTH_FAIL of an accessor: ELEV_FAIL; the third within 60 s makes its CHALLENGE return BUSY (R717). -/
def authFail (s : State) (h : HalfId) (acc slot : Nat) : State :=
  let fs := (acc, s.ticks) :: (half s h).mgmt.fails.filter fun e => decide (s.ticks < e.2 + ticks60)
  let three := 3 ≤ (fs.filter fun e => e.1 == acc).length
  let s1 := modMgmt s h fun m =>
    if three then { m with fails := fs.filter fun e => e.1 != acc, locked := (acc, s.ticks) :: m.locked.filter fun e => e.1 != acc }
    else { m with fails := fs }
  ledgerH s1 h 0x1403 (p4s [acc, slot, 0x40])

/-- The Warden signature in SEC_SIG answers a challenge (R717 step 3). -/
def wardenVerifies (s : State) (h : HalfId) (c : Challenge) (slot : Nat) : Bool :=
  match keyWords s h 1 slot with
  | some ws =>
    let msg := [0x50, 0x4B, 0x57, 0x44] ++ devIdBytes s h ++ wordsBytes c.nonce ++ wordsBytes c.cnonce ++ [BitVec.ofNat 8 c.acc]
    Config.ecdsaVerify (wordsBytes ws) (Config.sha256 msg) (sigBytes s h)
  | none => false

/-- RESPOND (R717 step 4, R718): status and state. -/
def respond (s : State) (h : HalfId) (acc slot : Nat) : Nat × State :=
  if 3 < slot then (0x10, s)
  else match (half s h).mgmt.chals.find? fun c => c.acc == acc with
    | none => (0x23, s)
    | some c =>
      let s1 := modMgmt s h fun m => { m with chals := m.chals.filter fun x => x.acc != acc }
      let others := (half s h).mgmt.elevs.filter fun e => e.acc != acc
      if c.tick + ticks30 < s.ticks then (0x41, s1)
      else if acc ≠ 0xFF ∧ 4 ≤ (others.filter fun e => e.acc != 0xFF).length then (0x14, s1)
      else if !wardenVerifies s h c slot then (0x40, authFail s1 h acc slot)
      else (0x02, ledgerH (putElevs s1 h (others ++ [{ acc := acc, slot := slot }])) h 0x1404 (p4s [acc, slot, 1]))

/-- DROP (R718). -/
def elevationDrop (s : State) (h : HalfId) (acc : Nat) : Nat × State :=
  if (elevationOf s h acc).isSome then (0x02, elevationEnd s h acc) else (0x23, s)

/-! ### Keys (R720, R739) -/

/-- Words of a kind of key; 0 for none. -/
def kindWords (kind : Nat) : Nat :=
  if kind = 0 ∨ kind = 1 then 16 else if kind = 2 then 24 else if kind = 3 ∨ kind = 4 then 4 else 0

/-- Indices of a kind. -/
def kindSlots (kind : Nat) : Nat :=
  if kind = 0 then 1 else if kind = 1 ∨ kind = 2 then 4 else if kind = 3 then 2 else if kind = 4 then 32766 else 0

/-- The selection of SEC_KEY_SEL. -/
def selKind (s : State) (h : HalfId) : Nat := rd s h Reg.SEC_KEY_SEL_KIND
def selIndex (s : State) (h : HalfId) : Nat := rd s h Reg.SEC_KEY_SEL_INDEX

/-- Number of a staged word. -/
def stagedKey (kind index word : Nat) : Nat := kind * 2 ^ 20 + index * 32 + word

/-- INSTALL and ERASE name no key, or the device key. -/
def keyIllegal (s : State) (h : HalfId) : Bool := selKind s h == 0 || decide (kindSlots (selKind s h) ≤ selIndex s h)

/-- INSTALL (R720). -/
def keyInstall (s : State) (h : HalfId) (acc : Nat) : Nat × State :=
  let kind := selKind s h
  let index := selIndex s h
  let rest := (keysOf s h).filter fun k => !(k.kind == kind && k.index == index)
  if keyIllegal s h then (0x10, s)
  else if kind = 4 ∧ keyHeld s h 4 index = false ∧ 1024 ≤ ((keysOf s h).filter fun k => k.kind == 4).length then (0x44, s)
  else
    let ws := (List.range (kindWords kind)).map fun w => nget (half s h).mgmt.staged (stagedKey kind index w)
    (0x02, ledgerH (putKeys s h ({ kind := kind, index := index, words := ws } :: rest)) h 0x1405 (p4s [kind, index, 1, acc]))

/-- The image-signing slot that signed the running image (R720). -/
def runningKeySlot (s : State) (h : HalfId) : Option Nat :=
  match runningSlot s h with
  | some n => some (numAt (imgSlot s n).bytes (imgSigOff (imgSlot s n).bytes + 4) 1)
  | none => none

/-- ERASE (R719, R720). -/
def keyErase (s : State) (h : HalfId) (acc : Nat) : Nat × State :=
  let kind := selKind s h
  let index := selIndex s h
  let rest := (keysOf s h).filter fun k => !(k.kind == kind && k.index == index)
  if keyIllegal s h then (0x10, s)
  else if keyHeld s h kind index = false then (0x23, s)
  else if kind = 1 ∧ rest.any (fun k => k.kind == 1) = false then (0x42, s)
  else if kind = 2 ∧ runningKeySlot s h = some index then (0x43, s)
  else (0x02, ledgerH (putKeys s h rest) h 0x1405 (p4s [kind, index, 2, acc]))

/-- USE_GEN (R682, R720): a change of generation increments the era. -/
def useGen (s : State) (h : HalfId) (gen : Nat) : Nat × State :=
  if 1 < gen then (0x10, s)
  else if rd s h Reg.SEC_STAT_GEN = gen then (0x02, s)
  else (0x02, eraBump (wr s h Reg.SEC_STAT_GEN gen) h 3)

/-- A command of SEC_CMD (R738). -/
def secAct (s : State) (h : HalfId) (code acc arg : Nat) : Nat × State :=
  if code = 1 then (if challengeLocked s h acc then (0x14, s) else (0x02, challenge s h acc))
  else if code = 2 then respond s h acc arg
  else if code = 3 then elevationDrop s h acc
  else if code = 4 then keyInstall s h acc
  else if code = 5 then keyErase s h acc
  else if code = 6 then useGen s h arg
  else (0x10, s)

/-- A write of SEC_CMD; an accessor that names a session that is not open is not applicable (log entry 70). -/
def secCmd (s : State) (h : HalfId) (code acc arg : Nat) : State :=
  let known := acc == 0xFF || (sessionOf s h acc).isSome || code == 0 || decide (3 < code)
  let r := if known then secAct s h code acc arg else (0x23, s)
  secResult r.2 h code r.1

def execChallenge (h : HalfId) (acc : Nat) (s : State) : Host.Outcome State Fault Refusal :=
  .next (access s h (secCmd s h 1 acc 0))
def execRespond (h : HalfId) (acc slot : Nat) (s : State) : Host.Outcome State Fault Refusal :=
  .next (access s h (secCmd s h 2 acc slot))
def execDrop (h : HalfId) (acc : Nat) (s : State) : Host.Outcome State Fault Refusal :=
  .next (access s h (secCmd s h 3 acc 0))
def execInstall (h : HalfId) (acc : Nat) (s : State) : Host.Outcome State Fault Refusal :=
  .next (access s h (secCmd s h 4 acc 0))
def execErase (h : HalfId) (acc : Nat) (s : State) : Host.Outcome State Fault Refusal :=
  .next (access s h (secCmd s h 5 acc 0))
def execUseGen (h : HalfId) (acc gen : Nat) (s : State) : Host.Outcome State Fault Refusal :=
  .next (access s h (secCmd s h 6 acc gen))

/-- ELEVATION_TIMEOUT (R718). -/
def execElevationTimeout (h : HalfId) (acc : Nat) (s : State) : Host.Outcome State Fault Refusal :=
  .next (access s h (elevationEnd s h acc))

/-- WORD of SEC_KEY_SEL advances. -/
def keyAdvance (s : State) (h : HalfId) : State := wr s h Reg.SEC_KEY_SEL_WORD (rd s h Reg.SEC_KEY_SEL_WORD + 1)

/-- A read of SEC_KEY_DATA (R720, R739); words that no key has, and empty slots, are free values. -/
def keyDataRead (s : State) (h : HalfId) : Nat × State :=
  let kind := selKind s h
  let w := rd s h Reg.SEC_KEY_SEL_WORD
  let r := if kindSlots kind ≤ selIndex s h ∨ kind = 3 ∨ kind = 4 then (0, s)
    else if kindWords kind ≤ w then freeVal s (2 ^ 32)
    else if kind = 0 then (Config.devicePublic (h == .b) w % 2 ^ 32, s)
    else match keyWords s h kind (selIndex s h) with
      | some ws => (ws.getD w 0, s)
      | none => freeVal s (2 ^ 32)
  (r.1, keyAdvance r.2 h)

/-- A write of SEC_KEY_DATA stages the selected word. -/
def keyDataWrite (s : State) (h : HalfId) (v : Nat) : State :=
  let k := stagedKey (selKind s h) (selIndex s h) (rd s h Reg.SEC_KEY_SEL_WORD)
  keyAdvance (modMgmt s h fun m => { m with staged := nset m.staged k (v % 2 ^ 32) }) h

/-! ### GOOSE tables and reception (R712, R734) -/

/-- The block that an entry of a GOOSE table belongs to, and the table of its blocks; none out of range. -/
def gooseBlock (t e : Nat) : Option (Nat × Nat) :=
  if t = 0 ∧ e < 32 then some (0, e) else if t = 1 ∧ e < 1024 then some (0, e / 32)
  else if t = 2 ∧ e < 128 then some (2, e) else if t = 3 ∧ e < 4096 then some (2, e / 32) else none

/-- WORD of ETH_TSEL advances. -/
def tselAdvance (s : State) (h : HalfId) : State := wr s h Reg.ETH_TSEL_WORD (rd s h Reg.ETH_TSEL_WORD + 1)

/-- A read of ETH_TDATA. -/
def tdataRead (s : State) (h : HalfId) : Nat × State :=
  (gooseWord s h (rd s h Reg.ETH_TSEL_TABLE) (rd s h Reg.ETH_TSEL_ENTRY) (rd s h Reg.ETH_TSEL_WORD), tselAdvance s h)

/-- A disabled block or subscription forgets its counters. -/
def gooseForget (s : State) (h : HalfId) (t e : Nat) : State :=
  modMgmt s h fun m => if t = 0 then { m with gpubs := sset (fun _ => default) m.gpubs e default }
    else { m with gsubs := sset (fun _ => (0, 0)) m.gsubs e (0, 0) }

/-- A write of ETH_TDATA (R734): an enabled block takes only its ENABLE word. -/
def tdataWrite (s : State) (h : HalfId) (v : Nat) : State :=
  let t := rd s h Reg.ETH_TSEL_TABLE
  let e := rd s h Reg.ETH_TSEL_ENTRY
  let w := rd s h Reg.ETH_TSEL_WORD
  let enable := (t == 0 || t == 2) && w == 0
  tselAdvance (match gooseBlock t e with
    | none => s
    | some b =>
      if gooseOn s h b.1 b.2 && !(enable && v % 2 == 0) then wrB s h Reg.ETH_GOOSE_TX_CFG_REFUSED true
      else
        let s1 := modMgmt s h fun m => { m with tables := nset m.tables (gooseKey t e w) (v % 2 ^ 32) }
        if enable then gooseScan (gooseForget s1 h t e) h else s1) h

/-- Is `a` newer than `b`, modulo 2^32? -/
def newer (a b : Nat) : Bool :=
  let d := (a % 2 ^ 32 + 2 ^ 32 - b) % 2 ^ 32
  decide (0 < d) && decide (d ≤ 2 ^ 31)

/-- The value word that a received member gives a point (R711, R712); a value that the spec does not map is free. -/
def gooseValueWord (s : State) (kind type : Nat) (v : Int) (good : Bool) : Nat × State :=
  let fits := (type == 0 && kind == 0) || ((type == 1 || type == 2) && kind == 1)
  let q := 128 * b2n (good && fits)
  if !fits then
    let r := freeVal s (2 ^ 24)
    (r.1 * 256, r.2)
  else if kind = 0 then (256 * b2n (decide (v ≠ 0)) + q, s)
  else if v = toSigned 24 (ofSigned 24 v) then (ofSigned 24 v * 256 + q, s)
  else
    let r := freeVal s (2 ^ 24)
    (r.1 * 256 + q, r.2)

/-- One member of an accepted frame fills its gateway point. -/
def gooseMemberTake (s : State) (h : HalfId) (entry ttl : Nat) (sim : Bool) (v : Nat × Int × Bool) : State :=
  let k := gooseWord s h 3 entry 0 % 2 ^ 17
  match (ardCfg s h).subs[k]? with
  | some r =>
    if r.owner = 0x3FFF ∧ r.cls = 2 then
      let w := gooseValueWord s r.kind v.1 v.2.1 v.2.2
      let old := pointWord (pointState w.2 h k)
      let s1 := acceptPoint w.2 h k w.1 (ttl * 125000) (now s) sim
      if pointWord (pointState s1 h k) = old then s1 else bazaarItem s1 h 0x3FFF r.id w.1
    else s
  | none => s

/-- GOOSE_RX (R710, R712): `sub` is the subscription that APPID, destination MAC, gocbRef, datSet and confRev match. -/
def gooseReceive (s : State) (h : HalfId) (sub stNum sqNum ttl : Nat) (sim : Bool) (values : List (Nat × Int × Bool)) : State :=
  let old : Option (Nat × Nat) := ((half s h).mgmt.gsubs.find? fun e => e.1 == sub).map Prod.snd
  let isNew := match old with
    | none => true
    | some o => newer stNum o.1 || (stNum % 2 ^ 32 == o.1 && newer sqNum o.2)
  if !running s h then s
  else if sub < 128 && gooseOn s h 2 sub && isNew && (!sim || modeOf s h == mTEST) then
    let s1 := modMgmt s h fun m => { m with gsubs := sset (fun _ => (0, 0)) m.gsubs sub (stNum % 2 ^ 32, sqNum % 2 ^ 32) }
    let s2 := (values.zipIdx.take 32).foldl (fun s e => gooseMemberTake s h (sub * 32 + e.2) ttl sim e.1) s1
    pointsFeed (satAdd s2 h Reg.ETH_GOOSE_RX_ACCEPTED 1) h
  else satAdd s h Reg.ETH_GOOSE_RX_REJECTED 1

def execGooseRx (h : HalfId) (sub stNum sqNum ttl : Nat) (sim : Bool) (values : List (Nat × Int × Bool)) (s : State) :
    Host.Outcome State Fault Refusal :=
  .next (gooseReceive s h sub stNum sqNum ttl sim values)

/-! ### Event-queue reads (R737) -/

/-- The 256 bytes of an item (R726). -/
def itemBytes (it : QItem) : List Byte :=
  le 2 it.source ++ le 2 it.event ++ le 4 it.evSeq ++ le 4 it.ns ++ le 6 it.sec ++ le 2 it.payload.length ++
    le 4 it.qseq ++ List.replicate 8 0 ++ it.payload ++ List.replicate (224 - it.payload.length) 0

/-- A read of EVQ_POP. -/
def evqPop (s : State) (h : HalfId) : Nat × State :=
  let q := rd s h Reg.EVQ_SEL_QUEUE
  match qItems s h q with
  | [] => (0xFFFFFFFF, s)
  | it :: t =>
    let x := half s h
    (it.qseq, setHalf s h { x with evq := { x.evq with
      items := sset (fun _ => []) x.evq.items q t, latch := itemBytes it, latchPos := 0 } })

/-- A read of EVQ_IDATA; past word 63, and before the first item, a free value. -/
def evqIdata (s : State) (h : HalfId) : Nat × State :=
  let x := half s h
  let p := x.evq.latchPos
  if 64 ≤ p ∨ x.evq.latch = [] then freeVal s (2 ^ 32)
  else (unLe ((x.evq.latch.drop (4 * p)).take 4), setHalf s h { x with evq := { x.evq with latchPos := p + 1 } })

/-! ### Trace and debug (R730, R731) -/

/-- A write of TRC_CMD (R730, R740). -/
def traceCmd (s : State) (h : HalfId) (code : Nat) : State :=
  if code = 1 ∧ rdB s h Reg.TRC_CFG_STORE = true then traceSnapshot s h 2 else s

def execSnapshot (h : HalfId) (s : State) : Host.Outcome State Fault Refusal :=
  .next (access s h (traceCmd s h 1))

/-- The bytes that a debug token signs (R731). -/
def tokenBytes (s : State) (h : HalfId) (expiry : Nat) : List Byte :=
  devIdBytes s h ++ [BitVec.ofNat 8 (halfNo h)] ++ le 4 expiry

/-- DEBUG_TOKEN (R731). -/
def debugToken (s : State) (h : HalfId) (expiry : Nat) (sig : List Byte) : State :=
  if alive s h && (modeOf s h == mCOMMISSION || modeOf s h == mTEST) && decide (opMs s < expiry * 3600000)
      && Config.ecdsaVerify Config.rootKey (Config.sha384 (tokenBytes s h expiry)) sig then
    ledgerH (modMgmt (wrB s h Reg.SEC_STAT_DEBUG true) h fun m => { m with expiry := expiry }) h 0x1406 (p4s [1, expiry])
  else s

def execDebugToken (h : HalfId) (expiry : Nat) (sig : List Byte) (s : State) : Host.Outcome State Fault Refusal :=
  .next (debugToken s h expiry sig)

/-- DEBUG_RELOCK (R731). -/
def execDebugRelock (h : HalfId) (s : State) : Host.Outcome State Fault Refusal :=
  .next (access s h (debugRelock s h))

end Sys2Proof.Machine
end

