-- ==== Sys2Proof/Machine/Registers.lean ====
section
/-!
DEFINITION. Register accesses of one half (R11, R15, R47 to R56): views, absent units, windows, the registers whose
reads or writes do more than show or store a value, and the values that follow from the rest of the state.
-/

namespace Sys2Proof.Machine

open Sys2Proof (Byte HalfId Accessor)

/-! ### Addresses -/

/-- Block number and offset of a privileged-view address. -/
def blockOf (a : Nat) : Nat := a / 0x10000
def offOf (a : Nat) : Nat := a % 0x10000

/-- The block ID register (R48). -/
def isBlockId (a : Nat) : Bool := offOf a == 0 && decide (blockOf a < 27)

/-- Number of the per-channel register group at a block offset: groups of 32 bytes from 0x100 (R169, R181, R189). -/
def channelNo (o : Nat) : Option Nat := if 0x100 ≤ o ∧ o < 0x1000 then some ((o - 0x100) / 0x20) else none

/-- Does the address belong to a unit that the variant does not contain (R1, R6)? -/
def absentUnit (s : State) (a : Nat) : Bool :=
  let b := blockOf a
  let beyond := fun (n : Nat) => match channelNo (offOf a) with
    | some k => decide (n ≤ k)
    | none => false
  if b = 12 then !hasArc s else if b = 16 then !hasCrate s
  else if b = 5 then beyond (fastCount s) else if b = 6 then beyond (precCount s) else if b = 7 then beyond (bsiCount s) else false

/-- Trip-class settings of the field die (R54, R422). -/
def imageOnly (a : Nat) : Bool := within 0xB8014 0xB8020 a

/-- ARC_CMD, DIO_CMD and TIME_CTRL check the holder themselves (R53). -/
def holderChecksItself (a : Nat) : Bool := a == 0xC0020 || a == 0xD0030 || a == 0x30024

/-- Is a write there a configuration write (R53)? -/
def configWrite (d : RegDesc) (a : Nat) : Bool :=
  sharedKey a && !holderChecksItself a && d.fields.any fun f => f.acc == .rw || f.acc == .w1c || f.acc == .w1s || f.acc == .wo

/-- The key of a register: of the selected bank where a selector banks it; none where the selector selects nothing. -/
def bankKey (s : State) (h : HalfId) (a : Nat) : Option Nat :=
  let bank := fun (n k : Nat) => if k < n then some (a + k * bankStride) else none
  if a = 0x80034 ∨ a = 0x80038 then bank 32 (rd s h Reg.HKA_CORR_SEL_CH)
  else if within 0x61044 0x61060 a then bank 160 (rd s h Reg.PCV_FLT_SEL_CHAIN)
  else if a = 0x90104 then bank 192 (rd s h Reg.FAB_FSEL_SLOT)
  else if a = 0x90124 then bank 208 (rd s h Reg.FAB_TSEL_TILE)
  else if within 0xE0034 0xE003C a then bank 49 48
  else if within 0x30084 0x30098 a then bank 16 (rd s h Reg.TIME_SCH_SEL_ENTRY)
  else if a = 0x150018 ∨ a = 0x15001C then bank 264 (rd s h Reg.EVQ_SEL_QUEUE)
  else some a

/-! ### Values that follow from the rest of the state -/

/-- Put a field into a word. -/
def setF (f : Fld) (v w : Nat) : Nat := putField w f.hi f.lo v

/-- SYS_CAPS (R5). -/
def capsWord (s : State) : Nat :=
  match s.variant with
  | .pk9600 => 0x20301807
  | .pk9610 => 0x20301805
  | .pk9620 => 0x20301806
  | .pk9630 => 0x08180801

/-- The block ID register (R48); the revision is not given. -/
def blockId (s : State) (a : Nat) : Nat :=
  if absentUnit s a then 0 else (blockOf a + 1) * 2 ^ 24 + Config.blockRev (blockOf a) % 256 * 2 ^ 16

/-- SYS_MODE.ROLE (R87): 1 leader, 2 standby, 3 alone, 0 none. -/
def sysRole (s : State) (h : HalfId) : Nat :=
  if acts s h then (if rd s h (tlySub 10) == 2 || rd s h (tlySub 10) == 3 then 3 else 1)
  else if roleOf s h = 2 then 2 else 0

/-- Sum over the areas that use bank `k`, and their mask (R569). -/
def bankSlots (s : State) (h : HalfId) (k : Nat) : Nat :=
  (List.range 8).foldl (fun n a => match areaRec s h a with
    | some r => if bit r.banks k then n + r.demand else n
    | none => n) 0
def bankAreas (s : State) (h : HalfId) (k : Nat) : Nat :=
  (List.range 8).foldl (fun n a => match areaRec s h a with
    | some r => if bit r.banks k then n + 2 ^ a else n
    | none => n) 0

/-- Mask of the areas for which `p` holds. -/
def areaMask (p : Nat → Bool) : Nat := (List.range 8).foldl (fun n a => if p a then n + 2 ^ a else n) 0

/-- ACQ_STAT (R565). -/
def acqStat (s : State) (h : HalfId) : Nat :=
  min 4095 ((half s h).acq.segs.filter fun g => g.pending).length * 2 ^ 20 + b2n (half s h).acq.job.isSome * 2 ^ 16
    + areaMask (fun a => decide ((areaRun s h a).state ≠ 0)) * 2 ^ 8 + areaMask (fun a => (areaRec s h a).isSome)

/-- ACQ_ACFG and ACQ_ASTAT of area `a` (R572). -/
def areaCfg (s : State) (h : HalfId) (a : Nat) : Nat :=
  match areaRec s h a with
  | some r => r.kind * 2 ^ 24 + r.c * 2 ^ 16 + r.flags % 8 * 2 ^ 13 + r.segs
  | none => 0
def areaStat (s : State) (h : HalfId) (a : Nat) : Nat :=
  let r := areaRun s h a
  r.state * 2 ^ 30 + r.stopped * 2 ^ 28 + (if r.state = 0 then 0 else r.slot) * 2 ^ 16

/-- The latched Ledger record's word `m` (R636). -/
def ledgerWord (s : State) (h : HalfId) (m : Nat) : Nat :=
  match (half s h).port.rdata with
  | some r => unLe (((recordBytes r).drop (4 * m)).take 4)
  | none => 0

/-- The latched time of a half (R649). -/
def latched (s : State) : HalfId → Nat
  | .a => s.field.time.latchA
  | .b => s.field.time.latchB

/-- Items held over all queues. -/
def queuedItems (s : State) (h : HalfId) : Nat := ((half s h).evq.items.map fun e => e.2.length).foldl (· + ·) 0

/-- The registers below 0x000F_0000 that show other state: the stored word with those fields replaced. -/
def overlayLow (s : State) (h : HalfId) (a w : Nat) : Nat :=
  if a = 0x4 then capsWord s
  else if a = 0x20 then setF Reg.SYS_MODE_PERMIT (b2n (layupPermit s h)) (setF Reg.SYS_MODE_ROLE (sysRole s h) w)
  else if a = 0x2C then setF Reg.SYS_LOCKOUT_PRESENT (lockPresent s) w
  else if a = 0x40 then setF Reg.SYS_TEST_TIME_REMAIN (testRemain s h) w
  else if a = 0x20010 then setF Reg.GAV_STAT_ELIGIBLE (b2n (eligible s h)) (setF Reg.GAV_STAT_MON s.field.mon w)
  else if a = 0x30010 then nsOf (latched s h)
  else if a = 0x30014 then secOf (latched s h) % 2 ^ 32
  else if a = 0x30018 then secOf (latched s h) / 2 ^ 32
  else if a = 0x30044 then ofSigned 32 s.field.time.rho
  else if a = 0x30048 then ofSigned 32 s.field.time.grid
  else if a = 0x60014 then setF Reg.PCV_REF_STAT_ELAPSED (refMs s h) w
  else if a = 0x900A4 then
    setF Reg.FAB_ROT_STAT_FAST_PROG (half s h).dec.rotFast.covered (setF Reg.FAB_ROT_STAT_GEN_PROG (half s h).dec.rotGen.covered w)
  else if a = 0xD0054 then setF Reg.DIO_REFRESH_AGE (refreshAge s) w
  else w

/-- The same from 0x000F_0000 to 0x0012_FFFF: recorder and Ledger. -/
def overlayMid (s : State) (h : HalfId) (a w : Nat) : Nat :=
  if a = 0xF0010 then acqStat s h
  else if a = 0xF0024 then
    setF Reg.ACQ_TRG_COND ((List.range 16).foldl (fun n t => if sget (fun _ => false) (half s h).acq.cond t then n + 2 ^ t else n) 0) w
  else if within 0xF0030 0xF003C a then bankAreas s h ((a - 0xF0030) / 4) * 2 ^ 8 + bankSlots s h ((a - 0xF0030) / 4)
  else if within 0xF0100 0xF01FF a && a % 0x20 == 0 then areaCfg s h ((a - 0xF0100) / 0x20)
  else if within 0xF0100 0xF01FF a && a % 0x20 == 4 then areaStat s h ((a - 0xF0100) / 0x20)
  else if a = 0x120010 then s.store.ledgerSeq
  else if a = 0x120014 then ledgerTail s
  else if a = 0x120018 then
    setF Reg.LDG_STAT_CLEAR_BUSY (b2n s.store.clearing)
      (setF Reg.LDG_STAT_WRAPPED (b2n (decide (s.store.ledger.length < s.store.ledgerSeq))) w)
  else if a = 0x120030 then opMs s % 2 ^ 32
  else if a = 0x120034 then (half s h).port.optimeHi
  else if a = 0x120038 then s.store.pcycle
  else if within 0x120040 0x12007C a then ledgerWord s h ((a - 0x120040) / 4)
  else w

/-- The same from 0x0013_0000. -/
def overlayHigh (s : State) (h : HalfId) (a w : Nat) : Nat :=
  if a = 0x130014 then
    setF Reg.TLY_OVERALL_FAST_PROG (half s h).dec.rotFast.covered (setF Reg.TLY_OVERALL_GEN_PROG (half s h).dec.rotGen.covered w)
  else if within 0x141000 0x141BFC a then nget (half s h).stk.shadow ((a - 0x141000) / 4)
  else if a = 0x150010 then (16384 - queuedItems s h) * 2 ^ 16 + qReserved s h
  else if a = 0x15001C then setF (Reg.EVQ_STAT_COUNT 0) (qItems s h (rd s h Reg.EVQ_SEL_QUEUE)).length w
  else if a = 0x160010 then setF Reg.ARD_STAT_UNIT (ardCfg s h).unit w
  else if a = 0x160050 then (ardCfg s h).pubs.length
  else if a = 0x160054 then (ardCfg s h).subs.length
  else if a = 0x170010 then
    setF Reg.ETH_STAT_SERVICE (b2n (if s.variant = .pk9620 then h == .a else acts s h)) w
  else if a = 0x170014 then setF Reg.ETH_CORE_RESTARTS (min 7 (recentRestarts s h).length) w
  else if a = 0x180010 then setF Reg.HST_STAT_ELEVATED (b2n (hostElevated s h)) w
  else if a = 0x190010 then setF Reg.SEC_STAT_VIRGIN (b2n (virgin s h)) w
  else if a = 0x1A0014 then setF Reg.TRC_STAT_FILL ((half s h).trace.used / 64) w
  else w

/-- The value that a register shows, from its stored word. -/
def overlay (s : State) (h : HalfId) (a w : Nat) : Nat :=
  if a < 0xF0000 then overlayLow s h a w else if a < 0x130000 then overlayMid s h a w else overlayHigh s h a w

/-! ### Reads -/

/-- What a read latches before it returns (R258, R304, R342, R492, R570, R635, R649). -/
def readLatch (s : State) (h : HalfId) (a : Nat) : State :=
  if a = 0x6104C then fltLatch s h
  else if within 0xA0100 0xA03FF a && a % 0x10 == 0 then fstLatch s h ((a - 0xA0100) / 0x10)
  else if a = 0x90104 then fabLatch s h
  else if a = 0xE0034 then taskLatch s h
  else if a = 0xF0080 then latchMeas s h
  else if a = 0x120030 then optimeLatch s h
  else if a = 0x30010 then latchTime s h
  else s

/-- The RC fields of a register's word return to their reset values (R15). -/
def rcWord (fs : List FieldDesc) (w : Nat) : Nat :=
  fs.foldl (fun w f => if f.acc = .rc then putField w f.hi f.lo f.reset else w) w

/-- Clear the RC fields after a read; LGE_TEXEC and LGE_TRELS clear the selected task's own too (R494). -/
def readClear (s : State) (h : HalfId) (d : RegDesc) (a key : Nat) : State :=
  if !d.fields.any fun f => f.acc == .rc then s
  else
    let clear := fun (s : State) (k : Nat) => setWord s h k (rcWord d.fields (word s h k))
    let s1 := clear s key
    if (a = 0xE0038 ∨ a = 0xE003C) ∧ rd s h Reg.LGE_TSEL_TASK < 48 then clear s1 (a + rd s h Reg.LGE_TSEL_TASK * bankStride) else s1

/-- Registers that count or measure what no command shows: LGE_LOAD, PST_STAT.CORR, ARD_ERR.ABORT, ARD_BZ_PLANE and
ETH_RX_ERR show free values (log entry 72). -/
def unseenRead (s : State) (h : HalfId) (a w : Nat) : Option (Nat × State) :=
  let low := fun (n : Nat) =>
    let r := freeVal s n
    some (w / 2 ^ 16 * 2 ^ 16 + r.1, r.2)
  if a = 0xE001C then
    let p := freeVal s 101
    let l := freeVal p.2 (p.1 + 1)
    some (p.1 * 2 ^ 8 + l.1, l.2)
  else if a = 0x110010 then low (2 ^ 16)
  else if within 0x160030 0x160038 a then low (2 ^ 16)
  else if a = 0x16005C then low (rd s h Reg.ARD_BZ_STALE_COUNT + 1)
  else if a = 0x170058 then some (freeVal s (2 ^ 32))
  else none

/-- Data ports: registers whose read reaches what another register selects. -/
def portRead (s : State) (h : HalfId) (a : Nat) : Option (Nat × State) :=
  if a = 0x61074 then
    let t := injAccess s h none
    some (rd t h Reg.PCV_INJ_DATA_DATA, t)
  else if a = 0x90134 then
    let t := curveAccess s h none
    some (word t h Reg.FAB_UC_DATA_M.key, t)
  else if a = 0xA0034 then
    let t := tplAccess s h none
    some (rd t h Reg.FST_TPL_DATA_SAMPLE, t)
  else if a = 0x150020 then some (evqPop s h)
  else if a = 0x150024 then some (evqIdata s h)
  else if a = 0x170044 then some (tdataRead s h)
  else if a = 0x1900C4 then some (keyDataRead s h)
  else none

/-- A read of a mapped register of a present unit: the value and the state after it. -/
def readReg (s : State) (h : HalfId) (d : RegDesc) (a : Nat) : Nat × State :=
  match portRead s h a with
  | some r => r
  | none =>
    let s1 := readLatch s h a
    match bankKey s1 h a with
    | none => (0, s1)
    | some k =>
      let v := overlay s1 h a (word s1 h k)
      match unseenRead s1 h a v with
      | some r => (r.1, readClear r.2 h d a k)
      | none => (v, readClear s1 h d a k)

/-- Byte offset of the word that holds an address of a memory window. -/
def wordOff (base a : Nat) : Nat := (a - base) / 4 * 4

/-- A read in a memory window (R50); any other address returns 0 (R51).  The cell pool's layout is not given. -/
def windowRead (s : State) (h : HalfId) (a : Nat) : Nat × State :=
  if within 0x08000000 0x0801FFFF a then
    (nget (groupOf s h ((a - 0x08000000) / 0x4000)).words (a % 0x4000 / 4), s)
  else if within 0x10000000 0x10FFFFFF a then (numAt (half s h).acq.mem (wordOff 0x10000000 a) 4, s)
  else if within 0x11000000 0x113FFFFF a then (windowWord s h ((a - 0x11000000) / 4), s)
  else if within 0x11400000 0x117FFFFF a then freeVal s (2 ^ 32)
  else (0, s)

/-- The unprivileged view starts at 0x4000_0000 (R49). -/
def unprivBase : Nat := 0x40000000

/-- A read of half `h` at an address of either view (R49, R51): the value and the state after it. -/
def regRead (s : State) (h : HalfId) (addr : Nat) : Nat × State :=
  let priv := decide (addr < unprivBase)
  let a := if priv then addr else addr - unprivBase
  if isBlockId a then (blockId s a, s)
  else if 0x1B0000 ≤ a then (if priv then windowRead s h a else (0, s))
  else match findReg a with
    | none => (0, s)
    | some d => if (!priv && d.view == .priv) || absentUnit s a then (0, s) else readReg s h d a

/-! ### Writes -/

/-- The word after a write of `v`: RW stores, W1C clears, W1S sets, others stay (R15). -/
def storeFields (v : Nat) (fs : List FieldDesc) (w : Nat) : Nat :=
  fs.foldl (fun w f =>
    let x := bits v f.hi f.lo
    let old := bits w f.hi f.lo
    match f.acc with
    | .rw => putField w f.hi f.lo x
    | .w1c => putField w f.hi f.lo (old - (old &&& x))
    | .w1s => putField w f.hi f.lo (old ||| x)
    | _ => w) w

/-- Store a write in a register; nothing where the selector selects nothing. -/
def storeReg (s : State) (h : HalfId) (d : RegDesc) (a v : Nat) : State :=
  match bankKey s h a with
  | some k => setWord s h k (storeFields v d.fields (word s h k))
  | none => s

/-- Store the write where its values are allowed, else set the flag that says it was refused. -/
def storeIf (s : State) (h : HalfId) (d : RegDesc) (a v : Nat) (ok : Bool) (refused : Fld) : State :=
  if ok then storeReg s h d a v else wrB s h refused true

/-- A write of TIME_CFG (R645, R662). -/
def timeCfg (s : State) (h : HalfId) (d : RegDesc) (v : Nat) : State :=
  if 3 < bits v 2 0 ∨ 60 < bits v 31 24 then wr s .a Reg.TIME_RESULT_STATUS 0x10
  else
    let old := timeSrc s
    let s1 := storeReg s h d 0x30020 v
    let s2 := if timeSrc s1 = old then s1
      else
        let t := modTime (wrB s1 .a Reg.TIME_STAT_TOD_SET false) fun g => { g with inRange := 0, outRange := 0, measured := false }
        setSync t false
    if timeSrc s2 = 0 ∨ rdB s2 .a Reg.TIME_CFG_SERVO = false then wr s2 .a Reg.TIME_STAT_SERVO_STATE 0
    else if rd s2 .a Reg.TIME_STAT_SERVO_STATE = 0 then wr s2 .a Reg.TIME_STAT_SERVO_STATE (if synced s2 then 2 else 1)
    else s2

/-- A time of an armed schedule entry cannot be written (R665). -/
def schedTimeWrite (s : State) (h : HalfId) (d : RegDesc) (a v : Nat) : State :=
  let e := rd s h Reg.TIME_SCH_SEL_ENTRY
  if rd s h (Reg.TIME_SCH_STAT_STATE e) = 1 then wrB s h (Reg.TIME_SCH_STAT_WRITE_REFUSED e) true else storeReg s h d a v

/-- Codes that SMP_TRK_CFG.SRC accepts (R219). -/
def trackSource (s : State) (c : Nat) : Bool :=
  decide (c < precCount s) || (decide (0x40 ≤ c) && decide (c < 0x40 + bsiCount s))

/-- A write of FCV_OFF or FCV_GAIN of channel `n`: recorded segments note the change (R554). -/
def corrWrite (s : State) (h : HalfId) (d : RegDesc) (a v : Nat) : State :=
  let n := (offOf a - 0x100) / 0x20
  let what := if a % 0x20 = 4 then 0 else 1
  let old := word s h a
  let s1 := storeReg s h d a v
  if word s1 h a = old then s1 else noteChange s1 h (fun ar e => ar.kind == 1 && e == n) what old

/-- A write of EVQ_CFG (R724, R737): FILTER of queues 0 and 1 is fixed. -/
def queueCfg (s : State) (h : HalfId) (d : RegDesc) (a v : Nat) : State :=
  let q := rd s h Reg.EVQ_SEL_QUEUE
  let cap := if bits v 12 0 = 0 then 8192 else bits v 12 0
  let res := bits v 25 13
  let x := half s h
  let used := decide (q < 8) || x.evq.active.contains q
  let sum := qReserved s h - (if used then rd s h (Reg.EVQ_CFG_RES q) else 0) + res
  if 264 ≤ q ∨ cap < res ∨ 16384 < sum then s
  else
    let s1 := if used then s else setHalf s h { x with evq := { x.evq with active := x.evq.active ++ [q] } }
    storeReg s1 h d a (if q ≤ 1 then bits v 25 0 else v)

/-- A write of ARD_PSEL latches the selected point (R702). -/
def pointSelect (s : State) (h : HalfId) (d : RegDesc) (v : Nat) : State :=
  let s1 := storeReg s h d 0x160080 v
  let k := rd s1 h Reg.ARD_PSEL_INDEX
  let put := fun (info val age : Nat) => setWord (setWord (setWord s1 h Reg.ARD_PINFO_ID.key info) h Reg.ARD_PVAL_VALUE.key val) h Reg.ARD_PAGE_AGE.key age
  match (ardCfg s1 h).subs[k]? with
  | some r =>
    let p := pointState s1 h k
    put (r.cls * 2 ^ 30 + r.kind * 2 ^ 29 + r.id) (pointWord p) (if p.received then min 0xFFFFFFFF ((s.ticks - p.arrived) / 125) else 0xFFFFFFFF)
  | none => put 0 0 0

/-- Writes of blocks 0 to 6 that do more than store; none where the write only stores. -/
def writeLow (s : State) (h : HalfId) (d : RegDesc) (a v : Nat) : Option State :=
  if a = 0x24 then some (modeCmd s h (bits v 7 0) (bits v 17 16) (bits v 15 8) [])
  else if a = 0x54 then some (imgCommand s h (bits v 7 0) (bits v 9 8) 0)
  else if a = 0x94 then some (setCmd s h (bits v 7 0) (bits v 10 8))
  else if a = 0x10040 then some (storeIf s h d a v (within 83 480 (bits v 15 0)) Reg.PWR_PF_STAT_CFG_REFUSED)
  else if a = 0x20018 then some (gavCmd s h (bits v 7 0))
  else if a = 0x30020 then some (timeCfg s h d v)
  else if a = 0x30024 then some (timeCmd s h (bits v 7 0))
  else if a = 0x3003C then some (slewWrite s h v)
  else if within 0x30084 0x3008C a then some (schedTimeWrite s h d a v)
  else if a = 0x30090 then some (schedCfg s h (rd s h Reg.TIME_SCH_SEL_ENTRY) v)
  else if a = 0x40020 then
    some (storeIf s h d a v (within 1 50 (bits v 23 16) && trackSource s (bits v 7 0)
      && (bits v 15 8 == 0xFF || trackSource s (bits v 15 8))) Reg.SMP_TRK_STAT_CFG_REFUSED)
  else if a = 0x40030 then
    some (storeIf s h d a v (within 1 256 (bits v 8 0) && within 1 100 (bits v 23 16)) Reg.SMP_SYNC_STAT_CFG_REFUSED)
  else if a = 0x40034 then some (storeIf s h d a v (within 1 30000 (bits v 15 0)) Reg.SMP_SYNC_STAT_CFG_REFUSED)
  else if a = 0x40040 then some (calCmd s h (bits v 7 0))
  else if blockOf a = 5 && decide (0x100 ≤ offOf a) && (a % 0x20 == 4 || a % 0x20 == 8) then some (corrWrite s h d a v)
  else if a = 0x60010 then some (refWrite s h (bit v 0))
  else if a = 0x60018 then
    some (suspendUpdate (storeIf s h d a v (within 60 3600 (bits v 31 16) && within 1 100 (bits v 15 8)) Reg.PCV_TEST_STAT_CFG_REFUSED) h)
  else if a = 0x61040 then some (fltLatch (storeReg s h d a v) h)
  else if a = 0x61064 then some (fltCmd s h (bits v 7 0) (bits v 23 16) (bits v 15 8))
  else if a = 0x61074 then some (injAccess s h (some v))
  else if a = 0x61078 then some (injCmd s h (bits v 7 0) (bits v 11 8))
  else none

/-- The same of blocks 7 to 14. -/
def writeMid (s : State) (h : HalfId) (d : RegDesc) (a v : Nat) : Option State :=
  if within 0x70020 0x7002C a then some (mclkWrite s h ((a - 0x70020) / 4) (bits v 2 0))
  else if a = 0x8001C then some (storeIf s h d a v (within 100 10000 (bits v 15 0)) Reg.HKA_STAT_CFG_REFUSED)
  else if within 0x80140 0x8015C a then some s
  else if a = 0x90134 then some (curveAccess s h (some v))
  else if a = 0xA0034 then some (tplAccess s h (some v))
  else if within 0xB8040 0xB805C a && a % 8 == 0 then
    some (storeIf s h d a v (bits v 30 29 == 0 && bits v 23 16 != 0 && decide (bits v 15 0 ≤ 5000))
      (Reg.TRM_TCS_STAT_CFG_REFUSED ((a - 0xB8040) / 8)))
  else if a = 0xC0020 then some (arcCmd s h (bits v 7 0) (bits v 31 16))
  else if a = 0xD0030 then some (dioCmd s h (bits v 7 0) (bits v 12 8))
  else none

/-- The same of blocks 15 to 26; `by_` is who writes. -/
def writeHigh (s : State) (h : HalfId) (d : RegDesc) (a v : Nat) (by_ : Accessor) : Option State :=
  if a = 0xF0014 then some (acqCmd s h (bits v 7 0) (bits v 15 8))
  else if a = 0xF0040 then some (latchMeas (storeReg s h d a v) h)
  else if a = 0x100014 then some (crtCmd s h (bits v 7 0) (by_ == .mgmt))
  else if a = 0x110020 then some (imgCmd s h (bits v 7 0) (bits v 9 8))
  else if a = 0x110028 then some (imgData s h v)
  else if a = 0x12001C then some (ledgerCmd s h (bits v 7 0) (bits v 23 16) by_)
  else if a = 0x120024 then some (ledgerSelect s h v)
  else if a = 0x140010 then some (stkCmd s h (bits v 7 0) 0)
  else if a = 0x150018 then some (queueCfg s h d a v)
  else if a = 0x160080 then some (pointSelect s h d v)
  else if a = 0x170044 then some (tdataWrite s h v)
  else if a = 0x190014 then some (secCmd s h (bits v 7 0) (bits v 15 8) (bits v 23 16))
  else if a = 0x1900C4 then some (keyDataWrite s h v)
  else if a = 0x1A0018 then some (traceCmd s h (bits v 7 0))
  else none

/-- A write that no check refuses. -/
def writeReg (s : State) (h : HalfId) (d : RegDesc) (a v : Nat) (by_ : Accessor) : State :=
  let r := if a < 0x70000 then writeLow s h d a v else if a < 0xF0000 then writeMid s h d a v else writeHigh s h d a v by_
  match r with
  | some t => t
  | none => storeReg s h d a v

/-- Is a write in the unprivileged view let through (R49, R738)? -/
def unprivWritable (d : RegDesc) (a v : Nat) (by_ : Accessor) : Bool :=
  d.view == .both || (a == 0x190014 && by_ == .host && (bits v 7 0 == 1 || bits v 7 0 == 2))

/-- A write in a memory window (R50, R111, R456); elsewhere UNMAPPED (R51).  What a write does in the acquisition
memory is not given: the four bytes take free values. -/
def windowStore (s : State) (h : HalfId) (a v : Nat) : State :=
  if within 0x08000000 0x0801FFFF a then windowWrite s h a v
  else if within 0x10000000 0x10FFFFFF a then
    let r := freeVal s (2 ^ 32)
    modAcq r.2 h fun q => { q with mem := putBytes q.mem (wordOff 0x10000000 a) (le 4 r.1) }
  else if within 0x11000000 0x113FFFFF a then wrB s h Reg.LGE_STAT_WIN_WRITE true
  else if within 0x11400000 0x117FFFFF a then s
  else wrB s h Reg.SYS_ERR_UNMAPPED true

/-- A write of `v` in half `h` at an address of either view, with the checks of R56. -/
def regWrite (s : State) (h : HalfId) (addr v : Nat) (by_ : Accessor) : State :=
  let priv := decide (addr < unprivBase)
  let a := if priv then addr else addr - unprivBase
  let viewErr := wrB s h Reg.SEC_STAT_VIEW_ERR true
  if isBlockId a then (if absentUnit s a then wrB s h Reg.SYS_ERR_ABSENT true else s)
  else if 0x1B0000 ≤ a then (if priv then windowStore s h a v else viewErr)
  else match findReg a with
    | none => if priv then wrB s h Reg.SYS_ERR_UNMAPPED true else viewErr
    | some d =>
      if !priv && !unprivWritable d a v by_ then viewErr
      else if absentUnit s a then wrB s h Reg.SYS_ERR_ABSENT true
      else if imageOnly a then wrB s h Reg.SYS_ERR_IMAGE_ONLY true
      else if configWrite d a && !holds s h then wrB s h Reg.SYS_ERR_NOT_HOLDER true
      else writeReg s h d a (v % 2 ^ 32) by_

/-! ### Accesses as commands -/

/-- A read on a half's bus: the value returned is kept. -/
def busRead (s : State) (h : HalfId) (addr : Nat) : State :=
  let r := regRead s h addr
  access s h (modMgmt r.2 h fun m => { m with bus := r.1 })

/-- A read, or a write of `w`, by the management firmware. -/
def busAccess (s : State) (h : HalfId) (addr : Nat) (w : Option Nat) : State :=
  match w with
  | none => busRead s h addr
  | some v => access s h (regWrite s h addr v .mgmt)

def execRegisterWrite (h : HalfId) (addr v : Nat) (s : State) : Host.Outcome State Fault Refusal :=
  .next (busAccess s h addr (some v))
def execReadClear (h : HalfId) (addr : Nat) (s : State) : Host.Outcome State Fault Refusal := .next (busRead s h addr)
def execHkaDataRead (h : HalfId) (s : State) : Host.Outcome State Fault Refusal := .next (busRead s h 0x80020)
def execPcvFltOutRead (h : HalfId) (s : State) : Host.Outcome State Fault Refusal := .next (busRead s h 0x6104C)
def execPcvInjDataAccess (h : HalfId) (w : Option Nat) (s : State) : Host.Outcome State Fault Refusal :=
  .next (busAccess s h 0x61074 w)
def execFstTplDataAccess (h : HalfId) (w : Option Nat) (s : State) : Host.Outcome State Fault Refusal :=
  .next (busAccess s h 0xA0034 w)
def execFstFstatRead (h : HalfId) (f : Nat) (s : State) : Host.Outcome State Fault Refusal :=
  .next (if f < 48 then busRead s h (0xA0100 + f * 0x10) else s)
def execFabFstatRead (h : HalfId) (s : State) : Host.Outcome State Fault Refusal := .next (busRead s h 0x90104)
def execFabUcDataAccess (h : HalfId) (w : Option Nat) (s : State) : Host.Outcome State Fault Refusal :=
  .next (busAccess s h 0x90134 w)
def execLgeTinfoRead (h : HalfId) (s : State) : Host.Outcome State Fault Refusal := .next (busRead s h 0xE0034)
def execAcqMdataRead (h : HalfId) (s : State) : Host.Outcome State Fault Refusal := .next (busRead s h 0xF0080)
def execLdgOptimeRead (h : HalfId) (s : State) : Host.Outcome State Fault Refusal := .next (busRead s h 0x120030)
def execTimeNsRead (h : HalfId) (s : State) : Host.Outcome State Fault Refusal := .next (busRead s h 0x30010)
def execEvqPopRead (h : HalfId) (s : State) : Host.Outcome State Fault Refusal := .next (busRead s h 0x150020)
def execEvqIdataRead (h : HalfId) (s : State) : Host.Outcome State Fault Refusal := .next (busRead s h 0x150024)
def execEthTdataAccess (h : HalfId) (v : Option Nat) (s : State) : Host.Outcome State Fault Refusal :=
  .next (busAccess s h 0x170044 v)
def execSecKeyDataAccess (h : HalfId) (v : Option Nat) (s : State) : Host.Outcome State Fault Refusal :=
  .next (busAccess s h 0x1900C4 v)

end Sys2Proof.Machine
end

