-- ==== Sys2Proof/Machine/Ports.lean ====
section
/-!
DEFINITION. The accessors of chapter 20: the host port's frames (R721, R722), the proxied requests of sessions (R714,
R715), and the COMTRADE export of a committed segment (R564).
-/

namespace Sys2Proof.Machine

open Sys2Proof (Byte HalfId)

/-! ### The host port -/

/-- A frame collects the response to the one before it, NONE for the first after half reset. -/
def collect (s : State) (h : HalfId) : State :=
  match (half s h).mgmt.resp with
  | some r => modMgmt s h fun m => { m with miso := r }
  | none =>
    let a := freeVal s (2 ^ 32)
    let d := freeVal a.2 (2 ^ 32)
    modMgmt d.2 h fun m => { m with miso := (5, a.1, d.1) }

/-- Keep the response for the next frame. -/
def respondWith (s : State) (h : HalfId) (st addr data : Nat) : State :=
  modMgmt s h fun m => { m with resp := some (st, addr, data) }

/-- A response whose data the spec does not give. -/
def respondOpen (s : State) (h : HalfId) (st addr : Nat) : State :=
  let d := freeVal s (2 ^ 32)
  respondWith d.2 h st addr d.1

/-- Does the port refuse the address with PRIV (R722)? -/
def hostRefused (s : State) (h : HalfId) (addr : Nat) : Bool := decide (addr < unprivBase) && !hostElevated s h

/-- An access of the host port: `v` for a write. -/
def hostAccess (s : State) (h : HalfId) (addr : Nat) (v : Option Nat) : State :=
  let a := addr % 2 ^ 32
  if hostRefused s h a then respondOpen (satAdd (collect s h) h Reg.HST_ERR_PRIV 1) h 3 a
  else
    let s1 := collect s h
    match v with
    | some w => respondWith (regWrite s1 h a w .host) h 0 a (w % 2 ^ 32)
    | none =>
      let r := regRead s1 h a
      respondWith r.2 h 0 a r.1

/-- HOST_NOP: no access. -/
def hostNop (s : State) (h : HalfId) (addr : Nat) : State := respondOpen (collect s h) h 0 (addr % 2 ^ 32)

/-- A discarded frame: 0 wrong length (FRAME), 1 unknown CMD (COMMAND), else wrong CRC (CRC). -/
def hostDiscard (s : State) (h : HalfId) (why : Nat) : State :=
  let s1 := collect s h
  let a := freeVal s1 (2 ^ 32)
  if why = 0 then respondOpen (satAdd a.2 h Reg.HST_ERR_FRAME 1) h 4 a.1
  else if why = 1 then respondOpen a.2 h 2 a.1
  else respondOpen (satAdd a.2 h Reg.HST_ERR_CRC 1) h 1 a.1

def execHostNop (h : HalfId) (addr : Nat) (s : State) : Host.Outcome State Fault Refusal := .next (access s h (hostNop s h addr))
def execHostRead (h : HalfId) (addr : Nat) (s : State) : Host.Outcome State Fault Refusal :=
  .next (access s h (hostAccess s h addr none))
def execHostWrite (h : HalfId) (addr v : Nat) (s : State) : Host.Outcome State Fault Refusal :=
  .next (access s h (hostAccess s h addr (some v)))
def execHostFrameError (h : HalfId) (why : Nat) (s : State) : Host.Outcome State Fault Refusal :=
  .next (access s h (hostDiscard s h why))

/-! ### Sessions -/

/-- Is a request of a role on its allow-list (R714, R715)?  Reads of P+U registers, for a Viewer without RC fields;
writes of LDG_CMD and LDG_RSEL, from the Operator on of P+U registers with a W1C field. -/
def allowed (role a : Nat) (write : Bool) : Bool :=
  if isBlockId a then !write
  else match (if a < 0x1B0000 then findReg a else none) with
    | none => false
    | some d =>
      d.view != .priv &&
        (if write then a == 0x12001C || a == 0x120024 || (decide (1 ≤ role) && d.view == .both && d.fields.any fun f => f.acc == .w1c)
         else decide (1 ≤ role) || !d.fields.any fun f => f.acc == .rc)

/-- The proxied access at an address of the bus, and its answer. -/
def sessionAccess (s : State) (h : HalfId) (k addr : Nat) (v : Option Nat) : State :=
  match v with
  | some w => emp (regWrite s h addr w (.session k)) h .ok
  | none =>
    let r := regRead s h addr
    modMgmt r.2 h fun m => { m with emp := .ok, empData := r.1 }

/-- SESSION_REQUEST: the rate quota, then the elevated Warden's privileged access or the allow-list (R714, R715). -/
def sessionRequest (s : State) (h : HalfId) (k addr : Nat) (v : Option Nat) : State :=
  match sessionOf s h k with
  | none => s
  | some e =>
    let r := sessionRate s h e
    if !coreRuns s h then s
    else if !r.1 then emp r.2 h .busy
    else if (elevationOf s h k).isSome && e.role == 3 then sessionAccess r.2 h k (addr % 2 ^ 32) v
    else
      let a := addr % unprivBase
      if allowed e.role a v.isSome then sessionAccess r.2 h k (unprivBase + a) v else emp r.2 h .denied

def execSessionRequest (h : HalfId) (k addr : Nat) (v : Option Nat) (s : State) : Host.Outcome State Fault Refusal :=
  .next (sessionRequest s h k addr v)

/-! ### COMTRADE export (R564) -/

/-- The bytes that a unit's Crate blocks decode to. -/
def unpackBlocks : Nat → List Byte → List Byte
  | 0, _ => []
  | n + 1, bs => if headerCheck bs ≠ 0 then [] else (decodeBlock bs 65536).2.2 ++ unpackBlocks n (bs.drop (16 + hdrClen bs))

/-- Channel-table entry `k` of a segment, and bytes per sample of its FORMAT (R554). -/
def tableEntry (seg : List Byte) (k : Nat) : List Byte := (seg.drop (128 + 16 * k)).take 16
def formatSize (seg : List Byte) (k : Nat) : Nat :=
  let f := hdr (tableEntry seg k) 4 1
  if f = 0 then 2 else if f = 1 then 4 else 8

/-- The bytes of entry `k` in native sample `n` (R556). -/
def nativeSample (seg : List Byte) (k n : Nat) : List Byte :=
  let lead := if hdr seg 7 1 = 3 then 4 else 0
  let off := ((List.range k).map (formatSize seg)).foldl (· + ·) lead
  (seg.drop (hdr seg 84 4 + n * hdr seg 98 2 + off)).take (formatSize seg k)

/-- The analogue channels of entry `k`: one, or two of a phasor pair. -/
def exportEntry (seg : List Byte) (count k : Nat) : List ExportChannel :=
  let tab := tableEntry seg k
  let size := formatSize seg k
  let at_ := fun (o n : Nat) => unLe (((nativeSample seg k n).drop o).take 4)
  let whole := fun (o n : Nat) => toSigned 24 (at_ o n / 256)
  let good := fun (n : Nat) => if size = 2 then at_ 0 n % 2 == 1 else decide (128 ≤ at_ 0 n % 256)
  let valid := (List.range count).map good
  if size = 2 then
    [{ entry := k, part := 0, fast := true, valid := valid
       values := (List.range count).map fun n => fastCorrect (unLe ((tab.drop 8).take 2)) (unLe ((tab.drop 10).take 2)) (at_ 0 n) }]
  else if size = 4 then [{ entry := k, part := 0, fast := false, valid := valid, values := (List.range count).map (whole 0) }]
  else
    [{ entry := k, part := 1, fast := false, valid := valid, values := (List.range count).map (whole 0) },
     { entry := k, part := 2, fast := false, valid := valid, values := (List.range count).map (whole 4) }]

/-- A 10-byte time of the header in ns (R552). -/
def headerTime (seg : List Byte) (o : Nat) : Nat := hdr seg (o + 4) 6 * 1000000000 + hdr seg o 4

/-- The record of a segment's native bytes; `utc` is TAI minus UTC in s. -/
def exportOf (seg : List Byte) (utc : Int) : ExportRecord :=
  let fast := hdr seg 7 1 == 1
  let tracked := hdr seg 7 1 == 3
  let n := hdr seg 16 4 + hdr seg 20 4
  let stamp := fun (i : Nat) => unLe ((seg.drop (hdr seg 84 4 + i * hdr seg 98 2)).take 4)
  { area := hdr seg 5 1, seq := hdr seg 12 4, binary := fast, nrates := if tracked then 0 else 1, period := hdr seg 28 4
    stamps := if tracked then (List.range n).map stamp else []
    nanos := decide (headerTime seg 52 < headerTime seg 32 + 4000000000)
    start := (headerTime seg 32 : Int) - utc * 1000000000, trig := (headerTime seg 42 : Int) - utc * 1000000000
    tmqGood := hdr seg 62 2 % 4 == 3, trigAt := hdr seg 16 4, header := seg.take 128
    channels := ((List.range (hdr seg 10 1)).map (exportEntry seg n)).flatten }

/-- EXPORT_REQUEST: a session asks for a committed segment of this half by UNIT_SEQ (R564, R610, R714); while the
governor pauses bulk transfers the request waits (R727). -/
def exportRequest (s : State) (h : HalfId) (session seq : Nat) : State :=
  let units := match h with | .a => s.store.recA | .b => s.store.recB
  match sessionOf s h session, units.find? fun u => u.unitSeq == seq with
  | some _, some u =>
    if !coreRuns s h || rdBit s h Reg.ETH_CORE_GOV 1 then s
    else
      let seg := unpackBlocks (u.payload.length / 17 + 1) u.payload
      let r := exportOf seg (toSigned 16 (rd s .a Reg.TIME_UTC_OFFSET))
      modMgmt s h fun m => { m with exported := some r, emp := .ok }
  | _, _ => s

def execExportRequest (h : HalfId) (session seq : Nat) (s : State) : Host.Outcome State Fault Refusal :=
  .next (exportRequest s h session seq)

end Sys2Proof.Machine
end

