-- ==== Sys2Proof/Machine/Dispatch.lean ====
section
/-!
DEFINITION. The effect of every command on everything but the queue: one arm per constructor.
-/

namespace Sys2Proof.Machine

open Sys2Proof (Instr)

def exec (i : Instr) (s : State) : Host.Outcome State Fault Refusal :=
  match i with
  | .registerWrite h addr v => Sys2Proof.Machine.execRegisterWrite h addr v s
  | .readClear h addr => Sys2Proof.Machine.execReadClear h addr s
  | .powerOn vsup vhold => Sys2Proof.Machine.execPowerOn vsup vhold s
  | .resetN => Sys2Proof.Machine.execResetN s
  | .halfReset h => Sys2Proof.Machine.execHalfReset h s
  | .halfResetsReleased only bootSel faults => Sys2Proof.Machine.execHalfResetsReleased only bootSel faults s
  | .hash h => Sys2Proof.Machine.execHash h s
  | .partnerHashTimeout h => Sys2Proof.Machine.execPartnerHashTimeout h s
  | .refsetElapsed h => Sys2Proof.Machine.execRefsetElapsed h s
  | .refBufferEnable h => Sys2Proof.Machine.execRefBufferEnable h s
  | .calibrationDone h fast delays => Sys2Proof.Machine.execCalibrationDone h fast delays s
  | .bootComplete h ms => Sys2Proof.Machine.execBootComplete h ms s
  | .enterService h => Sys2Proof.Machine.execEnterService h s
  | .enterTest h => Sys2Proof.Machine.execEnterTest h s
  | .exitTest h => Sys2Proof.Machine.execExitTest h s
  | .extendTest h => Sys2Proof.Machine.execExtendTest h s
  | .enterLayup h => Sys2Proof.Machine.execEnterLayup h s
  | .exitLayup h => Sys2Proof.Machine.execExitLayup h s
  | .exitLockout h faults => Sys2Proof.Machine.execExitLockout h faults s
  | .enableOutput h kind index => Sys2Proof.Machine.execEnableOutput h kind index s
  | .disableOutput h kind index => Sys2Proof.Machine.execDisableOutput h kind index s
  | .warmRestart h => Sys2Proof.Machine.execWarmRestart h s
  | .coldRestart h => Sys2Proof.Machine.execColdRestart h s
  | .modePropose h => Sys2Proof.Machine.execModePropose h s
  | .modeAck h => Sys2Proof.Machine.execModeAck h s
  | .modeSwitchInstant faults => Sys2Proof.Machine.execModeSwitchInstant faults s
  | .layupReqHeld => Sys2Proof.Machine.execLayupReqHeld s
  | .layupReqFall => Sys2Proof.Machine.execLayupReqFall s
  | .standbyPowerDown => Sys2Proof.Machine.execStandbyPowerDown s
  | .fastWakeDone => Sys2Proof.Machine.execFastWakeDone s
  | .layupExitTimeout => Sys2Proof.Machine.execLayupExitTimeout s
  | .testTimeout => Sys2Proof.Machine.execTestTimeout s
  | .lockoutRequest h cause => Sys2Proof.Machine.execLockoutRequest h cause s
  | .livenessTimeout h => Sys2Proof.Machine.execLivenessTimeout h s
  | .gavelFault => Sys2Proof.Machine.execGavelFault s
  | .railFault => Sys2Proof.Machine.execRailFault s
  | .paceMeasurement h counts => Sys2Proof.Machine.execPaceMeasurement h counts s
  | .paceLowClear h => Sys2Proof.Machine.execPaceLowClear h s
  | .verify h slot => Sys2Proof.Machine.execVerify h slot s
  | .imageVerifyDone h fault => Sys2Proof.Machine.execImageVerifyDone h fault s
  | .activate h slot fault => Sys2Proof.Machine.execActivate h slot fault s
  | .settingWindowWrite h addr v => Sys2Proof.Machine.execSettingWindowWrite h addr v s
  | .stage h group => Sys2Proof.Machine.execStage h group s
  | .setStage h => Sys2Proof.Machine.execSetStage h s
  | .setCrc h => Sys2Proof.Machine.execSetCrc h s
  | .stageTimeout h => Sys2Proof.Machine.execStageTimeout h s
  | .switch h group => Sys2Proof.Machine.execSwitch h group s
  | .loadDefault h group => Sys2Proof.Machine.execLoadDefault h group s
  | .setSwitch h => Sys2Proof.Machine.execSetSwitch h s
  | .setAck h => Sys2Proof.Machine.execSetAck h s
  | .switchAckTimeout h => Sys2Proof.Machine.execSwitchAckTimeout h s
  | .groupSwitchInstant h => Sys2Proof.Machine.execGroupSwitchInstant h s
  | .hkScan h codes self => Sys2Proof.Machine.execHkScan h codes self s
  | .hkaDataRead h => Sys2Proof.Machine.execHkaDataRead h s
  | .fastSample h ch code ovr incomplete inst => Sys2Proof.Machine.execFastSample h ch code ovr incomplete inst s
  | .fcvFrozen h ch => Sys2Proof.Machine.execFcvFrozen h ch s
  | .sigWindowClose h f => Sys2Proof.Machine.execSigWindowClose h f s
  | .sigHoldEnd h f => Sys2Proof.Machine.execSigHoldEnd h f s
  | .maxrExpiry h diff k => Sys2Proof.Machine.execMaxrExpiry h diff k s
  | .ftiEdge n asserted => Sys2Proof.Machine.execFtiEdge n asserted s
  | .ftiFault n => Sys2Proof.Machine.execFtiFault n s
  | .injectionTestSlot h code => Sys2Proof.Machine.execInjectionTestSlot h code s
  | .injectionTestDefer h code => Sys2Proof.Machine.execInjectionTestDefer h code s
  | .testPointsDone h d0 d1 d2 => Sys2Proof.Machine.execTestPointsDone h d0 d1 d2 s
  | .substitutionEnd h => Sys2Proof.Machine.execSubstitutionEnd h s
  | .injectionRetest h code => Sys2Proof.Machine.execInjectionRetest h code s
  | .testStart h code => Sys2Proof.Machine.execTestStart h code s
  | .testEnd h code => Sys2Proof.Machine.execTestEnd h code s
  | .tilePickup h code => Sys2Proof.Machine.execTilePickup h code s
  | .mclkFreqWrite h k freq => Sys2Proof.Machine.execMclkFreqWrite h k freq s
  | .bsiClockMeasure h k hz => Sys2Proof.Machine.execBsiClockMeasure h k hz s
  | .bsiOpenDetect h n on => Sys2Proof.Machine.execBsiOpenDetect h n on s
  | .bsiNoEdge h n => Sys2Proof.Machine.execBsiNoEdge h n s
  | .bsiDensity h n ones => Sys2Proof.Machine.execBsiDensity h n ones s
  | .pllUnlock h pll => Sys2Proof.Machine.execPllUnlock h pll s
  | .pllRelock h pll => Sys2Proof.Machine.execPllRelock h pll s
  | .trackedCycleBoundary h f1 f2 phi => Sys2Proof.Machine.execTrackedCycleBoundary h f1 f2 phi s
  | .trkState h => Sys2Proof.Machine.execTrkState h s
  | .syncPulse h locked => Sys2Proof.Machine.execSyncPulse h locked s
  | .cal h => Sys2Proof.Machine.execCal h s
  | .chainOutput h c x re im older inst cyc sat => Sys2Proof.Machine.execChainOutput h c x re im older inst cyc sat s
  | .responseSwitchBoundary h chain => Sys2Proof.Machine.execResponseSwitchBoundary h chain s
  | .fltSwitch h chain resp => Sys2Proof.Machine.execFltSwitch h chain resp s
  | .peakReset h chain => Sys2Proof.Machine.execPeakReset h chain s
  | .pcvFltSelWrite h v => Sys2Proof.Machine.execPcvFltSelWrite h v s
  | .pcvFltOutRead h => Sys2Proof.Machine.execPcvFltOutRead h s
  | .injStart h set => Sys2Proof.Machine.execInjStart h set s
  | .injStop h => Sys2Proof.Machine.execInjStop h s
  | .pcvInjDataAccess h w => Sys2Proof.Machine.execPcvInjDataAccess h w s
  | .fstTplDataAccess h w => Sys2Proof.Machine.execFstTplDataAccess h w s
  | .fstFstatRead h f => Sys2Proof.Machine.execFstFstatRead h f s
  | .freezeDrop h slot => Sys2Proof.Machine.execFreezeDrop h slot s
  | .definiteResetExpiry h slot => Sys2Proof.Machine.execDefiniteResetExpiry h slot s
  | .alignWaitExpiry h slot => Sys2Proof.Machine.execAlignWaitExpiry h slot s
  | .rotationHandoverStart h fast => Sys2Proof.Machine.execRotationHandoverStart h fast s
  | .comparisonComplete h fast differs => Sys2Proof.Machine.execComparisonComplete h fast differs s
  | .katComplete h fast tile ok vector => Sys2Proof.Machine.execKatComplete h fast tile ok vector s
  | .rotLate h fast => Sys2Proof.Machine.execRotLate h fast s
  | .fabFstatRead h => Sys2Proof.Machine.execFabFstatRead h s
  | .fabUcDataAccess h w => Sys2Proof.Machine.execFabUcDataAccess h w s
  | .lightRise n rise sat disagree => Sys2Proof.Machine.execLightRise n rise sat disagree s
  | .lightFall n => Sys2Proof.Machine.execLightFall n s
  | .lightLevelSample n level sat => Sys2Proof.Machine.execLightLevelSample n level sat s
  | .ambientResettled n => Sys2Proof.Machine.execAmbientResettled n s
  | .stretchExpiry h n part => Sys2Proof.Machine.execStretchExpiry h n part s
  | .codeCycle => Sys2Proof.Machine.execCodeCycle s
  | .codeRetry n => Sys2Proof.Machine.execCodeRetry n s
  | .codeComplete n own oth seen spread sat ledOpen ledShort => Sys2Proof.Machine.execCodeComplete n own oth seen spread sat ledOpen ledShort s
  | .codeNow h mask => Sys2Proof.Machine.execCodeNow h mask s
  | .clrCounts h mask => Sys2Proof.Machine.execClrCounts h mask s
  | .resume h mask => Sys2Proof.Machine.execResume h mask s
  | .voteDisagreeTimer code => Sys2Proof.Machine.execVoteDisagreeTimer code s
  | .tcsFailTimer k => Sys2Proof.Machine.execTcsFailTimer k s
  | .noLeaderTimeout => Sys2Proof.Machine.execNoLeaderTimeout s
  | .supplyMeasure g mv => Sys2Proof.Machine.execSupplyMeasure g mv s
  | .diWindow n level current inst => Sys2Proof.Machine.execDiWindow n level current inst s
  | .doOverload n on current => Sys2Proof.Machine.execDoOverload n on current s
  | .doOpenOn n current => Sys2Proof.Machine.execDoOpenOn n current s
  | .doOpenOffCheck n above => Sys2Proof.Machine.execDoOpenOffCheck n above s
  | .doOvertemp n => Sys2Proof.Machine.execDoOvertemp n s
  | .doOvertempRetry n ok => Sys2Proof.Machine.execDoOvertempRetry n ok s
  | .grpOvercurrent g current => Sys2Proof.Machine.execGrpOvercurrent g current s
  | .leaderRefresh h => Sys2Proof.Machine.execLeaderRefresh h s
  | .doRefreshTimeout mask => Sys2Proof.Machine.execDoRefreshTimeout mask s
  | .unlatch h index => Sys2Proof.Machine.execUnlatch h index s
  | .unlatchAll h => Sys2Proof.Machine.execUnlatchAll h s
  | .arcadeCycleBoundary h => Sys2Proof.Machine.execArcadeCycleBoundary h s
  | .eventTaskLimit h t => Sys2Proof.Machine.execEventTaskLimit h t s
  | .nop h => Sys2Proof.Machine.execNop h s
  | .ld h a n neg => Sys2Proof.Machine.execLd h a n neg s
  | .and h a n neg => Sys2Proof.Machine.execAnd h a n neg s
  | .or h a n neg => Sys2Proof.Machine.execOr h a n neg s
  | .xor h a n neg => Sys2Proof.Machine.execXor h a n neg s
  | .andPush h a n neg => Sys2Proof.Machine.execAndPush h a n neg s
  | .orPush h a n neg => Sys2Proof.Machine.execOrPush h a n neg s
  | .xorPush h a n neg => Sys2Proof.Machine.execXorPush h a n neg s
  | .pop h => Sys2Proof.Machine.execPop h s
  | .st h a n neg => Sys2Proof.Machine.execSt h a n neg s
  | .set h a n => Sys2Proof.Machine.execSet h a n s
  | .rst h a n => Sys2Proof.Machine.execRst h a n s
  | .pedge h n => Sys2Proof.Machine.execPedge h n s
  | .nedge h n => Sys2Proof.Machine.execNedge h n s
  | .ton h n => Sys2Proof.Machine.execTon h n s
  | .tof h n => Sys2Proof.Machine.execTof h n s
  | .tp h n => Sys2Proof.Machine.execTp h n s
  | .tonr h n => Sys2Proof.Machine.execTonr h n s
  | .ctu h n => Sys2Proof.Machine.execCtu h n s
  | .ctd h n => Sys2Proof.Machine.execCtd h n s
  | .jmp h target => Sys2Proof.Machine.execJmp h target s
  | .jmpc h target => Sys2Proof.Machine.execJmpc h target s
  | .jmpcn h target => Sys2Proof.Machine.execJmpcn h target s
  | .endTask h => Sys2Proof.Machine.execEndTask h s
  | .lgeTinfoRead h => Sys2Proof.Machine.execLgeTinfoRead h s
  | .heartbeatSend h => Sys2Proof.Machine.execHeartbeatSend h s
  | .heartbeat h acked => Sys2Proof.Machine.execHeartbeat h acked s
  | .xlRetransmit h errors => Sys2Proof.Machine.execXlRetransmit h errors s
  | .xlUp h => Sys2Proof.Machine.execXlUp h s
  | .probe h => Sys2Proof.Machine.execProbe h s
  | .probeReply h => Sys2Proof.Machine.execProbeReply h s
  | .partnerHeartbeatLoss h => Sys2Proof.Machine.execPartnerHeartbeatLoss h s
  | .lossConfirm h strobe => Sys2Proof.Machine.execLossConfirm h strobe s
  | .gavelRequestTimer h => Sys2Proof.Machine.execGavelRequestTimer h s
  | .gavelGrant h => Sys2Proof.Machine.execGavelGrant h s
  | .gavelCancel => Sys2Proof.Machine.execGavelCancel s
  | .gavelDisagree h case_ => Sys2Proof.Machine.execGavelDisagree h case_ s
  | .roundTimeout => Sys2Proof.Machine.execRoundTimeout s
  | .lsImage h lag => Sys2Proof.Machine.execLsImage h lag s
  | .lsEnd h => Sys2Proof.Machine.execLsEnd h s
  | .lsSweepTimer h => Sys2Proof.Machine.execLsSweepTimer h s
  | .lsSweep h => Sys2Proof.Machine.execLsSweep h s
  | .lsCopy h => Sys2Proof.Machine.execLsCopy h s
  | .lsStop h => Sys2Proof.Machine.execLsStop h s
  | .mismatch h => Sys2Proof.Machine.execMismatch h s
  | .selftestDone h pass => Sys2Proof.Machine.execSelftestDone h pass s
  | .selftestResult h => Sys2Proof.Machine.execSelftestResult h s
  | .lockstepLag h => Sys2Proof.Machine.execLockstepLag h s
  | .handover h => Sys2Proof.Machine.execHandover h s
  | .handoverBoundary h => Sys2Proof.Machine.execHandoverBoundary h s
  | .handoverAbandon h => Sys2Proof.Machine.execHandoverAbandon h s
  | .returnHoldoff h => Sys2Proof.Machine.execReturnHoldoff h s
  | .returnReq h => Sys2Proof.Machine.execReturnReq h s
  | .handoverCmd h => Sys2Proof.Machine.execHandoverCmd h s
  | .takeover h => Sys2Proof.Machine.execTakeover h s
  | .clearLcl h => Sys2Proof.Machine.execClearLcl h s
  | .ackReturn h => Sys2Proof.Machine.execAckReturn h s
  | .clearDegraded h => Sys2Proof.Machine.execClearDegraded h s
  | .eccUncorrectable h region => Sys2Proof.Machine.execEccUncorrectable h region s
  | .recorderTrigger h areas kind index inst => Sys2Proof.Machine.execRecorderTrigger h areas kind index inst s
  | .segmentClose h area => Sys2Proof.Machine.execSegmentClose h area s
  | .segmentMaxLen h area => Sys2Proof.Machine.execSegmentMaxLen h area s
  | .measurementsDone h area => Sys2Proof.Machine.execMeasurementsDone h area s
  | .commitJobStart h => Sys2Proof.Machine.execCommitJobStart h s
  | .commitJobDone h ok status => Sys2Proof.Machine.execCommitJobDone h ok status s
  | .commitRetry h ok status => Sys2Proof.Machine.execCommitRetry h ok status s
  | .trigger h areas => Sys2Proof.Machine.execTrigger h areas s
  | .acqStop h areas => Sys2Proof.Machine.execAcqStop h areas s
  | .acqStart h areas => Sys2Proof.Machine.execAcqStart h areas s
  | .acqMselWrite h v => Sys2Proof.Machine.execAcqMselWrite h v s
  | .acqMdataRead h => Sys2Proof.Machine.execAcqMdataRead h s
  | .crtStart h firmware => Sys2Proof.Machine.execCrtStart h firmware s
  | .crtResume h firmware => Sys2Proof.Machine.execCrtResume h firmware s
  | .crtAbort h => Sys2Proof.Machine.execCrtAbort h s
  | .crateBlockDone h commit memErr choice => Sys2Proof.Machine.execCrateBlockDone h commit memErr choice s
  | .powerFailDeclare vsup vhold times => Sys2Proof.Machine.execPowerFailDeclare vsup vhold times s
  | .converterStop => Sys2Proof.Machine.execConverterStop s
  | .powerRestoreBoot vsup vhold => Sys2Proof.Machine.execPowerRestoreBoot vsup vhold s
  | .storeCommitDone h part ok page => Sys2Proof.Machine.execStoreCommitDone h part ok page s
  | .imgSlotOpen h slot => Sys2Proof.Machine.execImgSlotOpen h slot s
  | .imgSlotClose h slot => Sys2Proof.Machine.execImgSlotClose h slot s
  | .imgSlotAbort h slot => Sys2Proof.Machine.execImgSlotAbort h slot s
  | .pstImgDataWrite h v => Sys2Proof.Machine.execPstImgDataWrite h v s
  | .ledgerAppend h source event fields => Sys2Proof.Machine.execLedgerAppend h source event fields s
  | .ledgerRate => Sys2Proof.Machine.execLedgerRate s
  | .ledgerClear h session by_ => Sys2Proof.Machine.execLedgerClear h session by_ s
  | .ledgerClearDone => Sys2Proof.Machine.execLedgerClearDone s
  | .ldgRselWrite h seq => Sys2Proof.Machine.execLdgRselWrite h seq s
  | .ldgOptimeRead h => Sys2Proof.Machine.execLdgOptimeRead h s
  | .optimeCommit => Sys2Proof.Machine.execOptimeCommit s
  | .scheduleArm h entry cfg => Sys2Proof.Machine.execScheduleArm h entry cfg s
  | .scheduleDisarm h entry cfg => Sys2Proof.Machine.execScheduleDisarm h entry cfg s
  | .scheduledStocktake h entry => Sys2Proof.Machine.execScheduledStocktake h entry s
  | .scheduledSetSwitch h entry => Sys2Proof.Machine.execScheduledSetSwitch h entry s
  | .recTrigger h entry => Sys2Proof.Machine.execRecTrigger h entry s
  | .testInject h entry => Sys2Proof.Machine.execTestInject h entry s
  | .pulse h entry => Sys2Proof.Machine.execPulse h entry s
  | .timeCommit h => Sys2Proof.Machine.execTimeCommit h s
  | .commitAtPps h => Sys2Proof.Machine.execCommitAtPps h s
  | .timeLoadAtSecond => Sys2Proof.Machine.execTimeLoadAtSecond s
  | .timeStep h => Sys2Proof.Machine.execTimeStep h s
  | .timeCancel h => Sys2Proof.Machine.execTimeCancel h s
  | .timeSlewWrite h v => Sys2Proof.Machine.execTimeSlewWrite h v s
  | .timeNsRead h => Sys2Proof.Machine.execTimeNsRead h s
  | .ptpSync domain master offset twoStep => Sys2Proof.Machine.execPtpSync domain master offset twoStep s
  | .ptpAnnounce domain master better utc => Sys2Proof.Machine.execPtpAnnounce domain master better utc s
  | .ppsInEdge offset => Sys2Proof.Machine.execPpsInEdge offset s
  | .ppsInLost => Sys2Proof.Machine.execPpsInLost s
  | .holdover => Sys2Proof.Machine.execHoldover s
  | .take h => Sys2Proof.Machine.execTake h s
  | .domainTakeCmd h => Sys2Proof.Machine.execDomainTakeCmd h s
  | .domainTakeRelay h => Sys2Proof.Machine.execDomainTakeRelay h s
  | .domainTakeDue h => Sys2Proof.Machine.execDomainTakeDue h s
  | .laneUp h lane => Sys2Proof.Machine.execLaneUp h lane s
  | .laneDown h lane => Sys2Proof.Machine.execLaneDown h lane s
  | .intertrip h lane frame => Sys2Proof.Machine.execIntertrip h lane frame s
  | .stream h lane frame => Sys2Proof.Machine.execStream h lane frame s
  | .update h lane frame => Sys2Proof.Machine.execUpdate h lane frame s
  | .domainTake h lane frame => Sys2Proof.Machine.execDomainTake h lane frame s
  | .timeSync h lane frame offset => Sys2Proof.Machine.execTimeSync h lane frame offset s
  | .pdelayReq h lane frame => Sys2Proof.Machine.execPdelayReq h lane frame s
  | .pdelayResp h lane frame delay => Sys2Proof.Machine.execPdelayResp h lane frame delay s
  | .map h lane frame => Sys2Proof.Machine.execMap h lane frame s
  | .bulk h lane frame => Sys2Proof.Machine.execBulk h lane frame s
  | .mapSend h util peak => Sys2Proof.Machine.execMapSend h util peak s
  | .bazaarRefresh h pub => Sys2Proof.Machine.execBazaarRefresh h pub s
  | .intertripRepeat h pub => Sys2Proof.Machine.execIntertripRepeat h pub s
  | .pointStale h point => Sys2Proof.Machine.execPointStale h point s
  | .mgmtWatchdog h => Sys2Proof.Machine.execMgmtWatchdog h s
  | .ethLinkChange h up supported => Sys2Proof.Machine.execEthLinkChange h up supported s
  | .sessionOpen h k role => Sys2Proof.Machine.execSessionOpen h k role s
  | .sessionRequest h k addr v => Sys2Proof.Machine.execSessionRequest h k addr v s
  | .sessionEnd h k => Sys2Proof.Machine.execSessionEnd h k s
  | .gooseRx h sub stNum sqNum ttl sim values => Sys2Proof.Machine.execGooseRx h sub stNum sqNum ttl sim values s
  | .gooseRetransmit h block => Sys2Proof.Machine.execGooseRetransmit h block s
  | .governorWindow h load => Sys2Proof.Machine.execGovernorWindow h load s
  | .challenge h acc => Sys2Proof.Machine.execChallenge h acc s
  | .respond h acc slot => Sys2Proof.Machine.execRespond h acc slot s
  | .drop h acc => Sys2Proof.Machine.execDrop h acc s
  | .install h acc => Sys2Proof.Machine.execInstall h acc s
  | .erase h acc => Sys2Proof.Machine.execErase h acc s
  | .useGen h acc gen => Sys2Proof.Machine.execUseGen h acc gen s
  | .elevationTimeout h acc => Sys2Proof.Machine.execElevationTimeout h acc s
  | .secKeyDataAccess h v => Sys2Proof.Machine.execSecKeyDataAccess h v s
  | .hostNop h addr => Sys2Proof.Machine.execHostNop h addr s
  | .hostRead h addr => Sys2Proof.Machine.execHostRead h addr s
  | .hostWrite h addr v => Sys2Proof.Machine.execHostWrite h addr v s
  | .evqPopRead h => Sys2Proof.Machine.execEvqPopRead h s
  | .evqIdataRead h => Sys2Proof.Machine.execEvqIdataRead h s
  | .ethTdataAccess h v => Sys2Proof.Machine.execEthTdataAccess h v s
  | .snapshot h => Sys2Proof.Machine.execSnapshot h s
  | .debugToken h expiry sig => Sys2Proof.Machine.execDebugToken h expiry sig s
  | .debugRelock h => Sys2Proof.Machine.execDebugRelock h s
  | .xlAckTimeout h => Sys2Proof.Machine.execXlAckTimeout h s
  | .bsiTransition h n => Sys2Proof.Machine.execBsiTransition h n s
  | .ftiFaultClear n asserted => Sys2Proof.Machine.execFtiFaultClear n asserted s
  | .tbClkUnlock => Sys2Proof.Machine.execTbClkUnlock s
  | .tbClkRelock => Sys2Proof.Machine.execTbClkRelock s
  | .gridSlewDone => Sys2Proof.Machine.execGridSlewDone s
  | .ppsOutSecond => Sys2Proof.Machine.execPpsOutSecond s
  | .ptpFollowUp domain master offset => Sys2Proof.Machine.execPtpFollowUp domain master offset s
  | .ptpPdelayReq h domain => Sys2Proof.Machine.execPtpPdelayReq h domain s
  | .ptpPdelayResp h domain delay => Sys2Proof.Machine.execPtpPdelayResp h domain delay s
  | .pdelaySend h => Sys2Proof.Machine.execPdelaySend h s
  | .memHealthClear h => Sys2Proof.Machine.execMemHealthClear h s
  | .managementDegradedEnd h => Sys2Proof.Machine.execManagementDegradedEnd h s
  | .mgmtCoreRestarted h => Sys2Proof.Machine.execMgmtCoreRestarted h s
  | .recorderHealthWindow h refused => Sys2Proof.Machine.execRecorderHealthWindow h refused s
  | .storeHealthWindow h corrected => Sys2Proof.Machine.execStoreHealthWindow h corrected s
  | .arcadeAuthWindow h => Sys2Proof.Machine.execArcadeAuthWindow h s
  | .scrubPass h corrected => Sys2Proof.Machine.execScrubPass h corrected s
  | .hostFrameError h why => Sys2Proof.Machine.execHostFrameError h why s
  | .exportRequest h session seq => Sys2Proof.Machine.execExportRequest h session seq s

end Sys2Proof.Machine
end

