-- ==== Sys2Proof/WellFormed.lean ====
section
/-!
DEFINITION. Well-formed commands: every operand lies in the range that the bus, the frame or the numbering of the
spec gives it.  The meanings are total: a command outside these ranges has a meaning too.
-/

namespace Sys2Proof

/-- A word of 32 bits, where there is one. -/
def fits32 : Option Nat → Bool
  | none => true
  | some v => decide (v < 2 ^ 32)

/-- Is every operand of the command in its range? -/
def wellFormed : Instr → Bool
  | .registerWrite _ addr v => decide (addr < 2 ^ 32) && decide (v < 2 ^ 32)
  | .readClear _ addr => decide (addr < 2 ^ 32)
  | .powerOn vsup vhold => decide (vsup < 65536) && decide (vhold < 65536)
  | .resetN => true
  | .halfReset _ => true
  | .halfResetsReleased _ bootSel _ => decide (bootSel < 4)
  | .hash _ => true
  | .partnerHashTimeout _ => true
  | .refsetElapsed _ => true
  | .refBufferEnable _ => true
  | .calibrationDone _ _ _ => true
  | .bootComplete _ ms => decide (ms < 2 ^ 32)
  | .enterService _ => true
  | .enterTest _ => true
  | .exitTest _ => true
  | .extendTest _ => true
  | .enterLayup _ => true
  | .exitLayup _ => true
  | .exitLockout _ _ => true
  | .enableOutput _ kind index => decide (kind < 4) && decide (index < 256)
  | .disableOutput _ kind index => decide (kind < 4) && decide (index < 256)
  | .warmRestart _ => true
  | .coldRestart _ => true
  | .modePropose _ => true
  | .modeAck _ => true
  | .modeSwitchInstant _ => true
  | .layupReqHeld => true
  | .layupReqFall => true
  | .standbyPowerDown => true
  | .fastWakeDone => true
  | .layupExitTimeout => true
  | .testTimeout => true
  | .lockoutRequest _ cause => decide (cause < 4)
  | .livenessTimeout _ => true
  | .gavelFault => true
  | .railFault => true
  | .paceMeasurement _ counts => counts.length == 8
  | .paceLowClear _ => true
  | .verify _ slot => decide (slot < 4)
  | .imageVerifyDone _ fault => decide (fault < 3)
  | .activate _ slot fault => decide (slot < 4) && decide (fault < 3)
  | .settingWindowWrite _ addr v => decide (addr < 2 ^ 32) && decide (v < 2 ^ 32)
  | .stage _ group => decide (group < 8)
  | .setStage _ => true
  | .setCrc _ => true
  | .stageTimeout _ => true
  | .switch _ group => decide (group < 8)
  | .loadDefault _ group => decide (group < 8)
  | .setSwitch _ => true
  | .setAck _ => true
  | .switchAckTimeout _ => true
  | .groupSwitchInstant _ => true
  | .hkScan _ codes self => codes.length == 32 && decide (self < 2 ^ 12)
  | .hkaDataRead _ => true
  | .fastSample _ ch code _ _ inst => decide (ch < 24) && decide (code < 2 ^ 14) && decide (inst < 2 ^ 79)
  | .fcvFrozen _ ch => decide (ch < 24)
  | .sigWindowClose _ f => decide (f < 48)
  | .sigHoldEnd _ f => decide (f < 48)
  | .maxrExpiry _ _ k => decide (k < 192)
  | .ftiEdge n _ => decide (n < 16)
  | .ftiFault n => decide (n < 16)
  | .injectionTestSlot _ code => decide (code < 256)
  | .injectionTestDefer _ code => decide (code < 256)
  | .testPointsDone _ _ _ _ => true
  | .substitutionEnd _ => true
  | .injectionRetest _ code => decide (code < 256)
  | .testStart _ code => decide (code < 256)
  | .testEnd _ code => decide (code < 256)
  | .tilePickup _ code => decide (code < 256)
  | .mclkFreqWrite _ k freq => decide (k < 4) && decide (freq < 8)
  | .bsiClockMeasure _ k hz => decide (k < 4) && decide (hz < 2 ^ 32)
  | .bsiOpenDetect _ n _ => decide (n < 32)
  | .bsiNoEdge _ n => decide (n < 32)
  | .bsiDensity _ n ones => decide (n < 32) && decide (ones < 4097)
  | .pllUnlock _ pll => decide (pll < 2)
  | .pllRelock _ pll => decide (pll < 2)
  | .trackedCycleBoundary _ _ _ _ => true
  | .trkState _ => true
  | .syncPulse _ _ => true
  | .cal _ => true
  | .chainOutput _ c _ _ _ older inst _ _ => decide (c < 160) && decide (older < 256) && decide (inst < 2 ^ 79)
  | .responseSwitchBoundary _ chain => decide (chain < 256)
  | .fltSwitch _ chain resp => decide (chain < 256) && decide (resp < 256)
  | .peakReset _ chain => decide (chain < 256)
  | .pcvFltSelWrite _ v => decide (v < 2 ^ 32)
  | .pcvFltOutRead _ => true
  | .injStart _ set => decide (set < 16)
  | .injStop _ => true
  | .pcvInjDataAccess _ w => fits32 w
  | .fstTplDataAccess _ w => fits32 w
  | .fstFstatRead _ f => decide (f < 48)
  | .freezeDrop _ slot => decide (slot < 192)
  | .definiteResetExpiry _ slot => decide (slot < 192)
  | .alignWaitExpiry _ slot => decide (slot < 192)
  | .rotationHandoverStart _ _ => true
  | .comparisonComplete _ _ _ => true
  | .katComplete _ _ tile _ vector => decide (tile < 208) && decide (vector < 2 ^ 16)
  | .rotLate _ _ => true
  | .fabFstatRead _ => true
  | .fabUcDataAccess _ w => fits32 w
  | .lightRise n rise _ _ => decide (n < 16) && decide (rise < 2 ^ 16)
  | .lightFall n => decide (n < 16)
  | .lightLevelSample n level _ => decide (n < 16) && decide (level < 2 ^ 18)
  | .ambientResettled n => decide (n < 16)
  | .stretchExpiry _ n part => decide (n < 16) && decide (part < 4)
  | .codeCycle => true
  | .codeRetry n => decide (n < 16)
  | .codeComplete n _ _ seen spread _ _ _ => decide (n < 16) && decide (seen < 16) && decide (spread < 2 ^ 18)
  | .codeNow _ mask => decide (mask < 2 ^ 16)
  | .clrCounts _ mask => decide (mask < 2 ^ 16)
  | .resume _ mask => decide (mask < 2 ^ 16)
  | .voteDisagreeTimer code => decide (code < 64)
  | .tcsFailTimer k => decide (k < 4)
  | .noLeaderTimeout => true
  | .supplyMeasure g mv => decide (g < 8) && decide (mv < 65536)
  | .diWindow n _ current inst => decide (n < 64) && decide (current < 256) && decide (inst < 2 ^ 79)
  | .doOverload n _ current => decide (n < 32) && decide (current < 65536)
  | .doOpenOn n current => decide (n < 32) && decide (current < 65536)
  | .doOpenOffCheck n _ => decide (n < 32)
  | .doOvertemp n => decide (n < 32)
  | .doOvertempRetry n _ => decide (n < 32)
  | .grpOvercurrent g current => decide (g < 8) && decide (current < 65536)
  | .leaderRefresh _ => true
  | .doRefreshTimeout mask => decide (mask < 2 ^ 32)
  | .unlatch _ index => decide (index < 32)
  | .unlatchAll _ => true
  | .arcadeCycleBoundary _ => true
  | .eventTaskLimit _ t => decide (t < 48)
  | .nop _ => true
  | .ld _ a n _ => decide (a < 16) && decide (n < 2 ^ 17)
  | .and _ a n _ => decide (a < 16) && decide (n < 2 ^ 17)
  | .or _ a n _ => decide (a < 16) && decide (n < 2 ^ 17)
  | .xor _ a n _ => decide (a < 16) && decide (n < 2 ^ 17)
  | .andPush _ a n _ => decide (a < 16) && decide (n < 2 ^ 17)
  | .orPush _ a n _ => decide (a < 16) && decide (n < 2 ^ 17)
  | .xorPush _ a n _ => decide (a < 16) && decide (n < 2 ^ 17)
  | .pop _ => true
  | .st _ a n _ => decide (a < 16) && decide (n < 2 ^ 17)
  | .set _ a n => decide (a < 16) && decide (n < 2 ^ 17)
  | .rst _ a n => decide (a < 16) && decide (n < 2 ^ 17)
  | .pedge _ n => decide (n < 2 ^ 17)
  | .nedge _ n => decide (n < 2 ^ 17)
  | .ton _ n => decide (n < 2 ^ 17)
  | .tof _ n => decide (n < 2 ^ 17)
  | .tp _ n => decide (n < 2 ^ 17)
  | .tonr _ n => decide (n < 2 ^ 17)
  | .ctu _ n => decide (n < 2 ^ 17)
  | .ctd _ n => decide (n < 2 ^ 17)
  | .jmp _ target => decide (target < 2 ^ 18)
  | .jmpc _ target => decide (target < 2 ^ 18)
  | .jmpcn _ target => decide (target < 2 ^ 18)
  | .endTask _ => true
  | .lgeTinfoRead _ => true
  | .heartbeatSend _ => true
  | .heartbeat _ _ => true
  | .xlRetransmit _ errors => decide (errors < 2 ^ 16)
  | .xlUp _ => true
  | .probe _ => true
  | .probeReply _ => true
  | .partnerHeartbeatLoss _ => true
  | .lossConfirm _ _ => true
  | .gavelRequestTimer _ => true
  | .gavelGrant _ => true
  | .gavelCancel => true
  | .gavelDisagree _ case_ => decide (case_ < 5)
  | .roundTimeout => true
  | .lsImage _ lag => decide (lag < 2 ^ 16)
  | .lsEnd _ => true
  | .lsSweepTimer _ => true
  | .lsSweep _ => true
  | .lsCopy _ => true
  | .lsStop _ => true
  | .mismatch _ => true
  | .selftestDone _ _ => true
  | .selftestResult _ => true
  | .lockstepLag _ => true
  | .handover _ => true
  | .handoverBoundary _ => true
  | .handoverAbandon _ => true
  | .returnHoldoff _ => true
  | .returnReq _ => true
  | .handoverCmd _ => true
  | .takeover _ => true
  | .clearLcl _ => true
  | .ackReturn _ => true
  | .clearDegraded _ => true
  | .eccUncorrectable _ region => decide (region < 3)
  | .recorderTrigger _ areas kind index inst => decide (areas < 256) && decide (kind < 5) && decide (index < 64) && decide (inst < 2 ^ 79)
  | .segmentClose _ area => decide (area < 8)
  | .segmentMaxLen _ area => decide (area < 8)
  | .measurementsDone _ area => decide (area < 8)
  | .commitJobStart _ => true
  | .commitJobDone _ _ status => decide (status < 256)
  | .commitRetry _ _ status => decide (status < 256)
  | .trigger _ areas => decide (areas < 256)
  | .acqStop _ areas => decide (areas < 256)
  | .acqStart _ areas => decide (areas < 256)
  | .acqMselWrite _ v => decide (v < 2 ^ 32)
  | .acqMdataRead _ => true
  | .crtStart _ _ => true
  | .crtResume _ _ => true
  | .crtAbort _ => true
  | .crateBlockDone _ _ _ _ => true
  | .powerFailDeclare vsup vhold _ => decide (vsup < 65536) && decide (vhold < 65536)
  | .converterStop => true
  | .powerRestoreBoot vsup vhold => decide (vsup < 65536) && decide (vhold < 65536)
  | .storeCommitDone _ part _ page => decide (part < 4) && decide (page < 2 ^ 15)
  | .imgSlotOpen _ slot => decide (slot < 4)
  | .imgSlotClose _ slot => decide (slot < 4)
  | .imgSlotAbort _ slot => decide (slot < 4)
  | .pstImgDataWrite _ v => decide (v < 2 ^ 32)
  | .ledgerAppend _ source event fields => decide (source < 2 ^ 16) && decide (event < 2 ^ 16) && decide (fields.length ≤ 28)
  | .ledgerRate => true
  | .ledgerClear _ session _ => decide (session < 256)
  | .ledgerClearDone => true
  | .ldgRselWrite _ seq => decide (seq < 2 ^ 32)
  | .ldgOptimeRead _ => true
  | .optimeCommit => true
  | .scheduleArm _ entry cfg => decide (entry < 16) && decide (cfg < 2 ^ 32)
  | .scheduleDisarm _ entry cfg => decide (entry < 16) && decide (cfg < 2 ^ 32)
  | .scheduledStocktake _ entry => decide (entry < 16)
  | .scheduledSetSwitch _ entry => decide (entry < 16)
  | .recTrigger _ entry => decide (entry < 16)
  | .testInject _ entry => decide (entry < 16)
  | .pulse _ entry => decide (entry < 16)
  | .timeCommit _ => true
  | .commitAtPps _ => true
  | .timeLoadAtSecond => true
  | .timeStep _ => true
  | .timeCancel _ => true
  | .timeSlewWrite _ v => decide (v < 2 ^ 32)
  | .timeNsRead _ => true
  | .ptpSync domain master _ _ => decide (domain < 256) && decide (master < 2 ^ 80)
  | .ptpAnnounce domain master _ _ => decide (domain < 256) && decide (master < 2 ^ 80)
  | .ppsInEdge _ => true
  | .ppsInLost => true
  | .holdover => true
  | .take _ => true
  | .domainTakeCmd _ => true
  | .domainTakeRelay _ => true
  | .domainTakeDue _ => true
  | .laneUp _ lane => decide (lane < 3)
  | .laneDown _ lane => decide (lane < 3)
  | .intertrip _ lane frame => decide (lane < 3) && frame.length == 64
  | .stream _ lane frame => decide (lane < 3) && frame.length == 64
  | .update _ lane frame => decide (lane < 3) && frame.length == 64
  | .domainTake _ lane frame => decide (lane < 3) && frame.length == 64
  | .timeSync _ lane frame _ => decide (lane < 3) && frame.length == 64
  | .pdelayReq _ lane frame => decide (lane < 3) && frame.length == 64
  | .pdelayResp _ lane frame delay => decide (lane < 3) && frame.length == 64 && decide (delay < 2 ^ 32)
  | .map _ lane frame => decide (lane < 3) && frame.length == 64
  | .bulk _ lane frame => decide (lane < 3) && frame.length == 64
  | .mapSend _ util peak => util.length == 3 && peak.length == 3
  | .bazaarRefresh _ pub => decide (pub < 2 ^ 17)
  | .intertripRepeat _ pub => decide (pub < 2 ^ 17)
  | .pointStale _ point => decide (point < 2 ^ 17)
  | .mgmtWatchdog _ => true
  | .ethLinkChange _ _ _ => true
  | .sessionOpen _ k role => decide (k < 256) && decide (role < 4)
  | .sessionRequest _ k addr v => decide (k < 256) && decide (addr < 2 ^ 32) && fits32 v
  | .sessionEnd _ k => decide (k < 256)
  | .gooseRx _ sub stNum sqNum ttl _ _ => decide (sub < 128) && decide (stNum < 2 ^ 32) && decide (sqNum < 2 ^ 32) && decide (ttl < 2 ^ 32)
  | .gooseRetransmit _ block => decide (block < 32)
  | .governorWindow _ load => decide (load < 101)
  | .challenge _ acc => decide (acc < 256)
  | .respond _ acc slot => decide (acc < 256) && decide (slot < 256)
  | .drop _ acc => decide (acc < 256)
  | .install _ acc => decide (acc < 256)
  | .erase _ acc => decide (acc < 256)
  | .useGen _ acc gen => decide (acc < 256) && decide (gen < 256)
  | .elevationTimeout _ acc => decide (acc < 256)
  | .secKeyDataAccess _ v => fits32 v
  | .hostNop _ addr => decide (addr < 2 ^ 32)
  | .hostRead _ addr => decide (addr < 2 ^ 32)
  | .hostWrite _ addr v => decide (addr < 2 ^ 32) && decide (v < 2 ^ 32)
  | .evqPopRead _ => true
  | .evqIdataRead _ => true
  | .ethTdataAccess _ v => fits32 v
  | .snapshot _ => true
  | .debugToken _ expiry sig => decide (expiry < 2 ^ 32) && sig.length == 96
  | .debugRelock _ => true
  | .xlAckTimeout _ => true
  | .bsiTransition _ n => decide (n < 32)
  | .ftiFaultClear n _ => decide (n < 16)
  | .tbClkUnlock => true
  | .tbClkRelock => true
  | .gridSlewDone => true
  | .ppsOutSecond => true
  | .ptpFollowUp domain master _ => decide (domain < 256) && decide (master < 2 ^ 80)
  | .ptpPdelayReq _ domain => decide (domain < 256)
  | .ptpPdelayResp _ domain delay => decide (domain < 256) && decide (delay < 2 ^ 32)
  | .pdelaySend _ => true
  | .memHealthClear _ => true
  | .managementDegradedEnd _ => true
  | .mgmtCoreRestarted _ => true
  | .recorderHealthWindow _ _ => true
  | .storeHealthWindow _ _ => true
  | .arcadeAuthWindow _ => true
  | .scrubPass _ corrected => decide (corrected < 2 ^ 32)
  | .hostFrameError _ why => decide (why < 3)
  | .exportRequest _ session seq => decide (session < 256) && decide (seq < 2 ^ 32)

end Sys2Proof
end

