-- ==== Sys2Proof/Safety.lean ====
section
/-!
DEFINITION. The terms in which claims about runs are stated: a command completes with a next state that has a
property; the parts of the state a command may change; and the invariant of every step.
-/

namespace Sys2Proof.Machine

open Sys2Proof (HalfId Instr)

/-- The command has its effect: `exec` answers a next state, and that state has property `P`. -/
def Completes (c : Instr) (s : State) (P : State → Prop) : Prop :=
  ∃ t, exec c s = .next t ∧ P t

/-- The parts of the state: the register blocks by their number in R47 (both halves' and the field die's copies
together), the counts of ticks and of free values, the parts of the field die, the store die, and the parts of the
halves (both halves' together). -/
inductive Part
  | block (b : Nat)
  | ticks | free | time | die | fieldSeq | io | rounds | store
  | mode | image | groups | tally | evSeq | port | stk | acq | crt | ard | evq | mgmt | trace | fe | dec | lge | gav
  deriving DecidableEq, Repr

/-- The number of a part in a set of parts. -/
def Part.code : Part → Nat
  | .block b => b
  | .ticks => 28 | .free => 29 | .time => 30 | .die => 31 | .io => 32 | .rounds => 33 | .store => 34
  | .mode => 35 | .image => 36 | .groups => 37 | .tally => 38 | .evSeq => 39 | .port => 40 | .stk => 41
  | .acq => 42 | .crt => 43 | .ard => 44 | .evq => 45 | .mgmt => 46 | .trace => 47 | .fe => 48 | .dec => 49
  | .lge => 50 | .gav => 51 | .fieldSeq => 52

/-- The part is the same in both states.  Block numbers past TRC (26) name no block. -/
def Part.same (s t : State) : Part → Prop
  | .block b => b < 27 → ∀ k, keyBlock k = b → sget mapDefault t.regs k = sget mapDefault s.regs k
  | .ticks => t.ticks = s.ticks
  | .free => t.free = s.free
  | .time => t.field.time = s.field.time
  | .die => t.field.supply = s.field.supply ∧ t.field.rails = s.field.rails ∧ t.field.bootSel = s.field.bootSel ∧
      t.field.opBase = s.field.opBase ∧ t.field.mon = s.field.mon
  | .fieldSeq => t.field.evSeq = s.field.evSeq
  | .io => t.field.io = s.field.io
  | .rounds => t.field.gavel = s.field.gavel
  | .store => t.store = s.store
  | .mode => ∀ h, (half t h).mode = (half s h).mode
  | .image => ∀ h, (half t h).image = (half s h).image
  | .groups => ∀ h, (half t h).groups = (half s h).groups
  | .tally => ∀ h, (half t h).tally = (half s h).tally
  | .evSeq => ∀ h, (half t h).evSeq = (half s h).evSeq
  | .port => ∀ h, (half t h).port = (half s h).port
  | .stk => ∀ h, (half t h).stk = (half s h).stk
  | .acq => ∀ h, (half t h).acq = (half s h).acq
  | .crt => ∀ h, (half t h).crt = (half s h).crt
  | .ard => ∀ h, (half t h).ard = (half s h).ard
  | .evq => ∀ h, (half t h).evq = (half s h).evq
  | .mgmt => ∀ h, (half t h).mgmt = (half s h).mgmt
  | .trace => ∀ h, (half t h).trace = (half s h).trace
  | .fe => ∀ h, (half t h).fe = (half s h).fe
  | .dec => ∀ h, (half t h).dec = (half s h).dec
  | .lge => ∀ h, (half t h).lge = (half s h).lge
  | .gav => ∀ h, (half t h).gav = (half s h).gav

/-- From `s` to `t`: the variant (R1) and the queue of waiting commands stay, the register map keeps its canonical form,
and every part whose number is not in the set `m` (a number's bits) stays as it was. -/
structure Keeps (m : Nat) (s t : State) : Prop where
  variant : t.variant = s.variant
  pending : t.pending = s.pending
  wf : swf mapDefault s.regs = true → swf mapDefault t.regs = true
  parts : ∀ p : Part, m.testBit p.code = false → p.same s t

/-- The set of some parts. -/
def partSet (ps : List Part) : Nat := ps.foldl (fun m p => m ||| 2 ^ p.code) 0

/-! The register blocks by their names in R47. -/
def Part.SYS : Part := .block 0
def Part.PWR : Part := .block 1
def Part.GAV : Part := .block 2
def Part.TIME : Part := .block 3
def Part.SMP : Part := .block 4
def Part.FCV : Part := .block 5
def Part.PCV : Part := .block 6
def Part.BSI : Part := .block 7
def Part.HKA : Part := .block 8
def Part.FAB : Part := .block 9
def Part.FST : Part := .block 10
def Part.TRM : Part := .block 11
def Part.ARC : Part := .block 12
def Part.DIO : Part := .block 13
def Part.LGE : Part := .block 14
def Part.ACQ : Part := .block 15
def Part.CRT : Part := .block 16
def Part.PST : Part := .block 17
def Part.LDG : Part := .block 18
def Part.TLY : Part := .block 19
def Part.STK : Part := .block 20
def Part.EVQ : Part := .block 21
def Part.ARD : Part := .block 22
def Part.ETH : Part := .block 23
def Part.HST : Part := .block 24
def Part.SEC : Part := .block 25
def Part.TRC : Part := .block 26
/-- Every part of the state. -/
def everyPart : List Part :=
  (List.range 28).map Part.block ++
    [.ticks, .free, .time, .die, .fieldSeq, .io, .rounds, .store, .mode, .image, .groups, .tally, .evSeq, .port, .stk,
      .acq, .crt, .ard, .evq, .mgmt, .trace, .fe, .dec, .lge, .gav]

/-- The parts that a Ledger record may reach: the log, the record's copies in the event queues and their counters
(R618, R619, R724), the interrupt bits (R736) and the stocktake that waits for a record. -/
def ledgerParts : List Part := [.LDG, .EVQ, .HST, .store, .evSeq, .port, .stk, .evq, .fieldSeq]

/-- The parts that a change of Tally may reach: Tally and the Ledger (R532 to R538). -/
def tallyParts : List Part := ledgerParts ++ [.TLY, .tally]

/-- The parts that a change of a published point may reach: its frames (R684 to R686) and the Ledger. -/
def publishParts : List Part := ledgerParts ++ [.ARD, .ETH, .ard, .mgmt]

/-- The parts that a new decision may reach: votes, outputs, targets, publications and Tally (R412, R403, R408). -/
def outputParts : List Part := tallyParts ++ [.FST, .TRM, .DIO, .ARD, .ETH, .io, .ard, .mgmt, .dec]

/-- What each command may change: no part outside its list. -/
def touches : Instr → List Part
  | .registerWrite .. | .pcvInjDataAccess .. | .fstTplDataAccess .. | .fabUcDataAccess .. | .sessionRequest ..
  | .secKeyDataAccess .. | .hostRead .. | .hostWrite .. | .ethTdataAccess .. =>
    outputParts ++ [.SYS, .PWR, .GAV, .TIME, .SMP, .FCV, .PCV, .BSI, .HKA, .FAB, .ARC, .LGE, .ACQ, .CRT, .PST,
      .STK, .SEC, .TRC, .free, .time, .die, .rounds, .mode, .image, .groups, .acq, .crt, .trace, .fe, .lge,
      .gav]
  | .readClear .. | .hkaDataRead .. | .pcvFltOutRead .. | .fstFstatRead .. | .fabFstatRead .. | .lgeTinfoRead ..
  | .acqMdataRead .. | .ldgOptimeRead .. | .timeNsRead .. | .evqPopRead .. | .evqIdataRead .. =>
    [.SYS, .PWR, .GAV, .TIME, .SMP, .FCV, .PCV, .BSI, .HKA, .FAB, .FST, .TRM, .ARC, .DIO, .LGE, .ACQ, .CRT,
      .PST, .LDG, .TLY, .STK, .EVQ, .ARD, .ETH, .HST, .SEC, .TRC, .free, .time, .groups, .port, .evq, .mgmt,
      .fe]
  | .powerOn .. | .resetN | .halfReset .. | .standbyPowerDown | .powerFailDeclare .. | .converterStop
  | .powerRestoreBoot .. =>
    everyPart
  | .halfResetsReleased .. =>
    outputParts ++ [.SYS, .GAV, .TIME, .SMP, .PCV, .FAB, .ARC, .LGE, .ACQ, .SEC, .TRC, .die, .mode, .image,
      .groups, .acq, .trace, .fe, .lge]
  | .hash .. =>
    outputParts ++ [.SYS, .TIME, .SMP, .PCV, .FAB, .LGE, .ACQ, .SEC, .TRC, .mode, .acq, .trace, .fe, .lge]
  | .partnerHashTimeout .. =>
    tallyParts ++ [.SYS, .GAV, .SMP, .PCV, .fe]
  | .refsetElapsed .. | .refBufferEnable .. | .injectionTestSlot .. | .injectionTestDefer ..
  | .injectionRetest .. | .fltSwitch .. | .peakReset .. =>
    [.PCV, .fe]
  | .calibrationDone .. =>
    tallyParts ++ [.SYS, .SMP, .PCV, .rounds, .fe, .lge]
  | .bootComplete .. =>
    outputParts ++ [.SYS, .PCV, .FAB, .LGE, .ACQ, .SEC, .TRC, .mode, .acq, .trace, .fe, .lge, .gav]
  | .enterService .. | .enterTest .. | .exitTest .. | .extendTest .. | .enterLayup .. | .exitLayup ..
  | .exitLockout .. | .enableOutput .. | .disableOutput .. | .warmRestart .. | .coldRestart ..
  | .modeSwitchInstant .. =>
    outputParts ++ [.SYS, .GAV, .TIME, .PCV, .FAB, .ARC, .LGE, .ACQ, .PST, .SEC, .TRC, .die, .rounds, .mode,
      .image, .groups, .acq, .trace, .fe, .lge, .gav]
  | .modePropose .. | .modeAck .. | .setSwitch .. | .setAck .. =>
    [.SYS, .mode]
  | .layupReqHeld | .layupReqFall | .verify .. | .imageVerifyDone .. | .activate .. =>
    ledgerParts ++ [.SYS, .mode]
  | .fastWakeDone | .layupExitTimeout | .testTimeout =>
    outputParts ++ [.SYS, .PCV, .FAB, .LGE, .ACQ, .SEC, .TRC, .mode, .acq, .trace, .fe, .lge]
  | .lockoutRequest .. | .gavelFault =>
    outputParts ++ [.SYS, .TIME, .PCV, .FAB, .LGE, .ACQ, .SEC, .TRC, .mode, .acq, .trace, .fe, .lge]
  | .livenessTimeout .. =>
    outputParts ++ [.SYS, .TIME, .PCV, .BSI, .FAB, .LGE, .ACQ, .SEC, .TRC, .mode, .acq, .trace, .fe, .lge]
  | .railFault =>
    outputParts ++ [.SYS, .TIME, .PCV, .FAB, .LGE, .ACQ, .SEC, .TRC, .die, .mode, .acq, .trace, .fe, .lge]
  | .paceMeasurement .. =>
    tallyParts ++ [.SYS, .free, .mode]
  | .paceLowClear .. =>
    tallyParts ++ [.SYS, .mode]
  | .settingWindowWrite .. =>
    [.SYS, .groups]
  | .stage .. | .switch .. | .loadDefault .. =>
    [.SYS, .store, .mode, .groups, .port]
  | .setStage .. =>
    [.SYS, .mode, .groups]
  | .setCrc .. =>
    [.SYS, .TIME, .store, .mode, .port]
  | .stageTimeout .. =>
    [.SYS, .TIME, .mode]
  | .switchAckTimeout .. =>
    ledgerParts ++ [.SYS, .TIME, .mode]
  | .groupSwitchInstant .. =>
    outputParts ++ [.SYS, .GAV, .TIME, .FAB, .ARC, .mode, .lge]
  | .hkScan .. =>
    tallyParts ++ [.PCV, .HKA, .TRM, .DIO, .io, .fe, .gav]
  | .fastSample .. =>
    outputParts ++ [.FCV, .ARC, .ACQ, .acq, .fe]
  | .fcvFrozen .. =>
    ledgerParts ++ [.FCV]
  | .sigWindowClose .. | .maxrExpiry .. =>
    outputParts ++ [.FAB, .ARC, .ACQ, .acq]
  | .sigHoldEnd .. =>
    ledgerParts ++ [.FST, .dec]
  | .ftiEdge .. | .ftiFault .. | .intertrip .. | .update .. | .pointStale .. | .ftiFaultClear .. =>
    outputParts ++ [.ACQ, .acq]
  | .testPointsDone .. | .testStart .. | .testEnd .. =>
    [.fe]
  | .substitutionEnd .. =>
    tallyParts ++ [.PCV, .fe]
  | .tilePickup .. | .injStart .. | .injStop .. =>
    ledgerParts ++ [.PCV, .fe]
  | .mclkFreqWrite .. =>
    [.PCV, .BSI, .fe]
  | .bsiClockMeasure .. | .bsiOpenDetect .. | .bsiNoEdge .. | .bsiDensity .. | .bsiTransition .. =>
    ledgerParts ++ [.PCV, .BSI, .fe]
  | .pllUnlock .. | .pllRelock .. =>
    tallyParts ++ [.SMP, .TRM, .DIO, .io, .fe, .gav]
  | .trackedCycleBoundary .. =>
    publishParts ++ [.SMP, .fe, .dec]
  | .trkState .. | .cal .. =>
    [.SMP, .fe]
  | .syncPulse .. =>
    ledgerParts ++ [.SMP, .io]
  | .chainOutput .. =>
    outputParts ++ [.PCV, .BSI, .FAB, .ACQ, .acq, .fe]
  | .responseSwitchBoundary .. =>
    ledgerParts ++ [.PCV, .acq, .fe]
  | .pcvFltSelWrite .. =>
    [.PCV]
  | .freezeDrop .. =>
    outputParts ++ [.FAB]
  | .definiteResetExpiry .. =>
    ledgerParts ++ [.FAB, .dec]
  | .alignWaitExpiry .. | .stream .. =>
    outputParts ++ [.FAB, .ACQ, .acq]
  | .rotationHandoverStart .. =>
    tallyParts ++ [.FAB, .FST, .TRM, .DIO, .io, .dec, .gav]
  | .comparisonComplete .. | .katComplete .. =>
    tallyParts ++ [.FAB, .FST, .dec]
  | .rotLate .. =>
    tallyParts ++ [.FAB, .dec]
  | .lightRise .. | .lightFall .. | .lightLevelSample .. | .stretchExpiry .. | .codeComplete .. =>
    outputParts ++ [.ARC, .ACQ, .acq]
  | .ambientResettled .. =>
    tallyParts ++ [.ARC]
  | .codeCycle | .codeRetry .. =>
    [.io]
  | .codeNow .. | .clrCounts .. | .resume .. =>
    tallyParts ++ [.SYS, .ARC, .io]
  | .voteDisagreeTimer .. =>
    ledgerParts ++ [.TRM]
  | .tcsFailTimer .. =>
    tallyParts ++ [.TRM]
  | .noLeaderTimeout =>
    tallyParts ++ [.GAV, .TRM, .DIO, .io, .rounds]
  | .supplyMeasure .. | .diWindow .. | .doOpenOffCheck .. | .doOvertemp .. | .doOvertempRetry ..
  | .doRefreshTimeout .. =>
    tallyParts ++ [.DIO, .io]
  | .doOverload .. | .doOpenOn .. | .grpOvercurrent .. =>
    tallyParts ++ [.DIO]
  | .leaderRefresh .. =>
    tallyParts ++ [.DIO, .LGE, .io]
  | .unlatch .. | .unlatchAll .. =>
    tallyParts ++ [.SYS, .DIO]
  | .arcadeCycleBoundary .. =>
    outputParts ++ [.SYS, .GAV, .LGE, .ACQ, .TRC, .mode, .acq, .trace, .lge]
  | .eventTaskLimit .. =>
    tallyParts ++ [.LGE, .TRC, .trace, .lge]
  | .nop .. | .ld .. | .and .. | .or .. | .xor .. | .st .. | .set .. | .rst .. | .pedge .. | .nedge .. | .ton ..
  | .tof .. | .tp .. | .tonr .. | .ctu .. | .ctd .. =>
    [.lge]
  | .andPush .. | .orPush .. | .xorPush .. | .pop .. =>
    tallyParts ++ [.GAV, .LGE, .TRC, .lge, .gav]
  | .jmp .. | .jmpc .. | .jmpcn .. =>
    tallyParts ++ [.GAV, .LGE, .TRC, .trace, .lge, .gav]
  | .endTask .. | .lsEnd .. =>
    outputParts ++ [.SYS, .GAV, .PCV, .FAB, .LGE, .ACQ, .SEC, .TRC, .mode, .acq, .trace, .fe, .lge, .gav]
  | .heartbeatSend .. =>
    tallyParts ++ [.GAV, .gav]
  | .heartbeat .. =>
    tallyParts ++ [.SYS, .GAV, .TIME, .PCV, .TRM, .LGE, .PST, .TRC, .rounds, .mode, .mgmt, .trace, .lge, .gav]
  | .xlRetransmit .. | .xlAckTimeout .. =>
    tallyParts ++ [.GAV, .PCV, .lge, .gav]
  | .xlUp .. =>
    tallyParts ++ [.GAV, .PCV, .lge]
  | .probe .. | .probeReply .. | .partnerHeartbeatLoss .. | .returnHoldoff .. | .returnReq .. =>
    [.gav]
  | .lossConfirm .. =>
    tallyParts ++ [.GAV, .PCV, .rounds, .lge, .gav]
  | .gavelRequestTimer .. =>
    [.GAV, .rounds]
  | .gavelGrant .. =>
    tallyParts ++ [.SYS, .GAV, .TIME, .SMP, .TRM, .LGE, .PST, .TRC, .die, .rounds, .mode, .mgmt, .trace, .lge,
      .gav]
  | .gavelCancel =>
    ledgerParts ++ [.SYS, .GAV, .TIME, .PST, .TRC, .die, .io, .rounds, .mode, .trace]
  | .gavelDisagree .. =>
    tallyParts ++ [.SYS, .GAV, .TIME, .TRM, .DIO, .PST, .TRC, .die, .io, .rounds, .mode, .trace, .gav]
  | .roundTimeout =>
    tallyParts ++ [.GAV, .DIO, .io, .rounds]
  | .lsImage .. =>
    outputParts ++ [.GAV, .LGE, .ACQ, .TRC, .acq, .trace, .lge]
  | .lsSweepTimer .. =>
    ledgerParts ++ [.lge, .gav]
  | .lsSweep .. =>
    tallyParts ++ [.GAV, .LGE, .lge, .gav]
  | .lsCopy .. =>
    tallyParts ++ [.SYS, .LGE, .lge]
  | .lsStop .. =>
    tallyParts ++ [.LGE, .TRC, .lge]
  | .mismatch .. =>
    [.GAV, .lge, .gav]
  | .selftestDone .. | .selftestResult .. =>
    tallyParts ++ [.GAV, .lge, .gav]
  | .lockstepLag .. =>
    [.GAV, .lge]
  | .handover .. =>
    [.GAV]
  | .handoverBoundary .. =>
    outputParts ++ [.SYS, .GAV, .TIME, .ACQ, .PST, .TRC, .die, .rounds, .mode, .acq, .trace, .lge, .gav]
  | .handoverAbandon .. =>
    [.GAV, .gav]
  | .handoverCmd .. | .takeover .. | .clearLcl .. | .ackReturn .. | .clearDegraded .. =>
    tallyParts ++ [.GAV, .io, .rounds, .gav]
  | .eccUncorrectable .. =>
    tallyParts ++ [.GAV, .TRM, .DIO, .io, .lge, .gav]
  | .recorderTrigger .. =>
    [.evSeq, .stk, .acq, .dec, .fieldSeq]
  | .segmentClose .. | .segmentMaxLen .. | .trigger .. | .acqStop .. | .acqStart .. =>
    tallyParts ++ [.ACQ, .acq]
  | .measurementsDone .. =>
    [.acq]
  | .commitJobStart .. =>
    [.PWR, .CRT, .acq, .crt]
  | .commitJobDone .. | .commitRetry .. =>
    tallyParts ++ [.ACQ, .CRT, .acq, .crt]
  | .acqMselWrite .. =>
    [.ACQ]
  | .crtStart .. | .crtResume .. | .crtAbort .. =>
    [.SYS, .CRT, .crt]
  | .crateBlockDone .. =>
    tallyParts ++ [.ACQ, .CRT, .free, .acq, .crt]
  | .storeCommitDone .. =>
    tallyParts ++ [.SYS, .TIME, .LGE, .ACQ, .CRT, .PST, .mode, .acq, .crt, .lge]
  | .imgSlotOpen .. | .imgSlotClose .. | .imgSlotAbort .. =>
    ledgerParts ++ [.PST, .mode]
  | .pstImgDataWrite .. =>
    [.PST, .store, .mode]
  | .ledgerAppend .. =>
    ledgerParts
  | .ledgerRate | .memHealthClear .. | .managementDegradedEnd .. | .recorderHealthWindow ..
  | .storeHealthWindow .. | .arcadeAuthWindow .. | .scrubPass .. =>
    tallyParts
  | .ledgerClear .. =>
    [.LDG, .EVQ, .HST, .store, .evSeq, .stk, .evq, .fieldSeq]
  | .ledgerClearDone =>
    [.LDG, .store]
  | .ldgRselWrite .. =>
    [.LDG, .port]
  | .optimeCommit | .snapshot .. =>
    [.store]
  | .scheduleArm .. | .scheduleDisarm .. | .scheduledStocktake .. | .scheduledSetSwitch .. | .recTrigger ..
  | .testInject .. | .pulse .. =>
    ledgerParts ++ [.SYS, .TIME, .PCV, .LGE, .ACQ, .STK, .ARD, .free, .time, .mode, .acq, .ard, .fe]
  | .timeCommit .. | .commitAtPps .. | .timeLoadAtSecond | .timeStep .. | .timeCancel .. | .ptpSync ..
  | .ppsInEdge .. | .timeSync .. | .ptpFollowUp .. =>
    tallyParts ++ [.SYS, .TIME, .PCV, .LGE, .ACQ, .STK, .ARD, .free, .time, .mode, .acq, .ard, .fe]
  | .timeSlewWrite .. =>
    [.SYS, .TIME, .time]
  | .ptpAnnounce .. =>
    [.TIME, .time]
  | .ppsInLost =>
    ledgerParts ++ [.TIME, .time]
  | .holdover =>
    tallyParts ++ [.TIME, .time]
  | .take .. | .domainTakeCmd .. | .domainTakeRelay .. =>
    ledgerParts ++ [.LGE, .STK, .ARD, .ard]
  | .domainTakeDue .. =>
    ledgerParts ++ [.LGE, .STK]
  | .laneUp .. | .laneDown .. =>
    tallyParts ++ [.ARD]
  | .domainTake .. =>
    tallyParts ++ [.LGE, .STK, .ARD, .ard]
  | .pdelayReq .. | .pdelayResp .. | .map .. | .bulk .. | .mapSend .. =>
    tallyParts ++ [.ARD, .ard]
  | .bazaarRefresh .. =>
    publishParts
  | .intertripRepeat .. | .pdelaySend .. =>
    ledgerParts ++ [.ARD, .ard]
  | .mgmtWatchdog .. =>
    tallyParts ++ [.ETH, .SEC, .mgmt]
  | .ethLinkChange .. =>
    [.ETH]
  | .sessionOpen .. =>
    [.EVQ, .ETH, .evq, .mgmt]
  | .sessionEnd .. | .governorWindow .. =>
    ledgerParts ++ [.ETH, .SEC, .mgmt]
  | .gooseRx .. =>
    outputParts ++ [.ACQ, .free, .acq]
  | .gooseRetransmit .. =>
    [.ETH, .mgmt]
  | .challenge .. | .respond .. | .drop .. | .install .. | .erase .. | .useGen .. =>
    ledgerParts ++ [.ARD, .SEC, .ard, .mgmt]
  | .elevationTimeout .. | .debugToken .. =>
    ledgerParts ++ [.SEC, .mgmt]
  | .hostNop .. =>
    [.free, .mgmt]
  | .debugRelock .. =>
    ledgerParts ++ [.SEC]
  | .tbClkUnlock | .tbClkRelock | .gridSlewDone =>
    tallyParts ++ [.TIME]
  | .ppsOutSecond =>
    [.free, .time]
  | .ptpPdelayReq .. | .exportRequest .. =>
    [.mgmt]
  | .ptpPdelayResp .. =>
    [.time]
  | .mgmtCoreRestarted .. =>
    [.EVQ, .ETH]
  | .hostFrameError .. =>
    [.HST, .free, .mgmt]

/-- From `s` to `t`, no register word changes but those at the listed places of the register map. -/
def OnlyRegs (ks : List Nat) (s t : State) : Prop :=
  ∀ k, k ∉ ks → sget mapDefault t.regs k = sget mapDefault s.regs k

/-- The place in the register map of the word that holds a field, as half `h` reaches it. -/
def placeOf (h : HalfId) (f : Fld) : Nat := regKey h f.key

/-- The invariant of the block: the register map is in its canonical form, and every waiting command is well formed. -/
def Inv (s : State) : Prop :=
  swf mapDefault s.regs = true ∧ ∀ c ∈ s.pending, Sys2Proof.wellFormed c = true

end Sys2Proof.Machine
end

