-- ==== Sys2Proof/Certificates/Slice0/Obligations.lean ====
section
/-!
DEFINITION. The statements for the provers, in the order of OBLIGATIONS.json: the store and the Ledger, registers and
ports, management, the logic engine, the Gavel and lockstep, modes, boot, images and settings, sampling, fast trips,
chains, functions, arc light, inputs and outputs, the recorder and Crate, time, Arcade, pace, frames, and the machine.
-/

section Statements

open Sys2Proof Sys2Proof.Machine

/-- R611, R628: OPEN, CLOSE, ABORT and a data write of the open slot complete with their effects. -/
def Obligations.ImageSlotCommandsComplete : Prop :=
  (∀ h slot s, alive s h = true → slot ≤ 1 → modeOf s h ≠ mBOOT → acts s h = true →
    (half s h).port.openSlot = none → runningSlot s h ≠ some slot → activatingSlot s h ≠ some slot →
    Completes (.imgSlotOpen h slot) s fun t =>
      (half t h).port.openSlot = some slot ∧ (imgSlot t slot).mark = false ∧ rd t h Reg.PST_IMG_PTR_PTR = 0 ∧
      rd t h Reg.PST_IMG_RESULT_CMD = 1 ∧ rd t h Reg.PST_IMG_RESULT_STATUS = 0x02) ∧
  (∀ h slot n s, alive s h = true → slot ≤ 1 → n ≤ 1 → modeOf s h ≠ mBOOT → acts s h = true →
    (half s h).port.openSlot = some n → rd s h Reg.PST_IMG_PTR_PTR ≠ 0 →
    Completes (.imgSlotClose h slot) s fun t =>
      (half t h).port.openSlot = none ∧ (imgSlot t n).mark = true ∧
      (imgSlot t n).len = rd s h Reg.PST_IMG_PTR_PTR ∧ (imgSlot t n).bytes = (imgSlot s n).bytes ∧
      rd t h Reg.PST_IMG_RESULT_CMD = 2 ∧ rd t h Reg.PST_IMG_RESULT_STATUS = 0x02) ∧
  (∀ h slot n s, alive s h = true → slot ≤ 1 → n ≤ 1 → modeOf s h ≠ mBOOT → acts s h = true →
    (half s h).port.openSlot = some n →
    Completes (.imgSlotAbort h slot) s fun t =>
      (half t h).port.openSlot = none ∧ (imgSlot t n).mark = false ∧
      rd t h Reg.PST_IMG_RESULT_CMD = 3 ∧ rd t h Reg.PST_IMG_RESULT_STATUS = 0x02) ∧
  (∀ h v n s, alive s h = true → n ≤ 1 → (half s h).port.openSlot = some n →
    rd s h Reg.PST_IMG_PTR_PTR < 8388608 →
    Completes (.pstImgDataWrite h v) s fun t =>
      rd t h Reg.PST_IMG_PTR_PTR = rd s h Reg.PST_IMG_PTR_PTR + 4 ∧
      (∀ i < 4, byteAt (imgSlot t n).bytes (rd s h Reg.PST_IMG_PTR_PTR + i) = BitVec.ofNat 8 (v / 256 ^ i)) ∧
      (∀ a, a < rd s h Reg.PST_IMG_PTR_PTR ∨ rd s h Reg.PST_IMG_PTR_PTR + 4 ≤ a →
        byteAt (imgSlot t n).bytes a = byteAt (imgSlot s n).bytes a))

/-- R618, R621, R622, R624, R625: the commands of the Ledger and of store health complete with their effects. -/
def Obligations.LedgerCommandsComplete : Prop :=
  (∀ h src ev fields s, booted s h = true → (recentAppends s).length < 32 →
    Completes (.ledgerAppend h src ev fields) s fun t =>
      t.store.ledgerSeq = (if s.store.ledgerSeq + 1 = 2 ^ 32 then 1 else s.store.ledgerSeq + 1) ∧
      ∃ r, t.store.ledger.head? = some r ∧ r.seq = t.store.ledgerSeq ∧ r.source = src ∧ r.event = ev ∧
        r.fields = fields.take 28 ∧ r.mark = true) ∧
  (∀ s, s.store.dropCount ≠ 0 → (recentAppends s).length < 32 →
    Completes .ledgerRate s fun t =>
      ((recentAppends s).length < 31 → t.store.dropCount = 0) ∧
      ∃ r ∈ t.store.ledger, r.event = 0x1104 ∧ r.source = 3 ∧
        r.fields = p4 s.store.dropCount ++ le 6 s.store.dropStart) ∧
  (∀ h session by_ s, alive s h = true → modeOf s h ≠ mBOOT → s.store.clearing = false →
    Completes (.ledgerClear h session by_) s fun t =>
      t.store.clearing = true ∧ t.store.tombstone = t.store.ledgerSeq ∧ rd t h Reg.LDG_RESULT_STATUS = 0x01 ∧
      ∃ r, t.store.ledger.head? = some r ∧ r.seq = t.store.tombstone ∧ r.event = 0x1101 ∧
        r.source = accessorSource h by_) ∧
  (∀ s, s.store.clearing = true →
    Completes .ledgerClearDone s fun t =>
      t.store.clearing = false ∧ ∀ r ∈ t.store.ledger, r.seq < t.store.tombstone → r.mark = false) ∧
  (∀ s, Completes .optimeCommit s fun t => t.store.optimeCommitted = opMs s) ∧
  (∀ h corrected s, Completes (.storeHealthWindow h corrected) s fun t =>
      nget (half t h).tally (8 * 65536 + if corrected then 3 else 2) = 0)

/-- R623, R634: the four cases of a record selection. -/
def Obligations.LedgerSelectLatches : Prop :=
  (∀ h seq s, alive s h = true → seq < 2 ^ 32 → seq ≠ 0 → seq < s.store.tombstone →
    Completes (.ldgRselWrite h seq) s fun t =>
      rd t h Reg.LDG_RSEL_SEQ = seq ∧ rd t h Reg.LDG_RSTAT_STATUS = 1 ∧ (half t h).port.rdata = none) ∧
  (∀ h seq r s, alive s h = true → seq < 2 ^ 32 → (seq = 0 ∨ s.store.tombstone ≤ seq) →
    s.store.ledger.find? (fun r => r.seq == seq) = some r →
    Completes (.ldgRselWrite h seq) s fun t =>
      rd t h Reg.LDG_RSEL_SEQ = seq ∧ rd t h Reg.LDG_RSTAT_STATUS = (if r.mark then 0 else 3) ∧
      (half t h).port.rdata = some r) ∧
  (∀ h seq s, alive s h = true → seq < 2 ^ 32 → (seq = 0 ∨ s.store.tombstone ≤ seq) →
    s.store.ledger.find? (fun r => r.seq == seq) = none →
    Completes (.ldgRselWrite h seq) s fun t =>
      rd t h Reg.LDG_RSEL_SEQ = seq ∧ rd t h Reg.LDG_RSTAT_STATUS = 2 ∧ (half t h).port.rdata = none)

/-- R15: how a write and a read treat one field of each access code. -/
def Obligations.FieldAccessCodes : Prop :=
  (∀ v w hi lo rst, lo ≤ hi → bits (storeFields v [⟨hi, lo, .rw, rst⟩] w) hi lo = bits v hi lo) ∧
  (∀ v w hi lo rst i, lo ≤ hi → i < hi + 1 - lo →
    bit (bits (storeFields v [⟨hi, lo, .w1c, rst⟩] w) hi lo) i =
      (bit (bits w hi lo) i && !bit (bits v hi lo) i)) ∧
  (∀ v w hi lo rst i, lo ≤ hi → i < hi + 1 - lo →
    bit (bits (storeFields v [⟨hi, lo, .w1s, rst⟩] w) hi lo) i =
      (bit (bits w hi lo) i || bit (bits v hi lo) i)) ∧
  (∀ v w hi lo rst acc, (acc = .ro ∨ acc = .wo ∨ acc = .rc) → storeFields v [⟨hi, lo, acc, rst⟩] w = w) ∧
  (∀ w hi lo rst, lo ≤ hi → rst < 2 ^ (hi + 1 - lo) → bits (rcWord [⟨hi, lo, .rc, rst⟩] w) hi lo = rst) ∧
  (∀ w hi lo rst acc, acc ≠ .rc → rcWord [⟨hi, lo, acc, rst⟩] w = w)

/-- A write at `a` by the management firmware has no action of its own: it only stores. -/
def Sys2Proof.Machine.plainWrite (s : State) (h : HalfId) (d : RegDesc) (a v : Nat) : Prop :=
  (if a < 0x70000 then writeLow s h d a v else if a < 0xF0000 then writeMid s h d a v
    else writeHigh s h d a v .mgmt) = none

/-- R15, R53, R56: a plain register write of a half that is powered and out of reset. -/
def Obligations.RegisterWriteStoresFields : Prop :=
  ∀ h addr v d k s, alive s h = true → addr < 0x1B0000 → isBlockId addr = false → findReg addr = some d →
    absentUnit s addr = false → imageOnly addr = false → (configWrite d addr = true → holds s h = true) →
    plainWrite s h d addr (v % 2 ^ 32) → bankKey s h addr = some k →
    Completes (.registerWrite h addr v) s fun t =>
      word t h k = storeFields (v % 2 ^ 32) d.fields (word s h k) % 2 ^ 32 ∧
      (∀ g j, regKey g j ≠ regKey h k → word t g j = word s g j) ∧ (∀ g, half t g = half s g) ∧
      t.field = s.field ∧ t.store = s.store

/-- R5: the value of SYS_CAPS on each part. -/
def Obligations.CapsReadsPart : Prop :=
  ∀ h s, alive s h = true →
    Completes (.readClear h 0x0004) s fun t =>
      (half t h).mgmt.bus = match s.variant with
        | .pk9600 => 0x20301807
        | .pk9610 => 0x20301805
        | .pk9620 => 0x20301806
        | .pk9630 => 0x08180801

/-- R7, R15, R51, R53, R54: the read of an RC field, and the four refusals of a privileged write. -/
def Obligations.ReadClearsAndRefusals : Prop :=
  (∀ h s, alive s h = true →
    Completes (.readClear h 0x120018) s fun t =>
      bits (half t h).mgmt.bus 15 0 = rd s h Reg.LDG_STAT_DROPPED ∧ rd t h Reg.LDG_STAT_DROPPED = 0) ∧
  (∀ h addr v d s, alive s h = true → addr < 0x1B0000 → isBlockId addr = false → findReg addr = some d →
    absentUnit s addr = true →
    Completes (.registerWrite h addr v) s fun t =>
      rdB t h Reg.SYS_ERR_ABSENT = true ∧ ∀ g k, k % 0x100000000 ≠ 0x8 → word t g k = word s g k) ∧
  (∀ h addr v s, alive s h = true → addr < 0x1B0000 → isBlockId addr = false → findReg addr = none →
    Completes (.registerWrite h addr v) s fun t =>
      rdB t h Reg.SYS_ERR_UNMAPPED = true ∧ ∀ g k, k % 0x100000000 ≠ 0x8 → word t g k = word s g k) ∧
  (∀ h addr v d s, alive s h = true → addr < 0x1B0000 → isBlockId addr = false → findReg addr = some d →
    absentUnit s addr = false → imageOnly addr = true →
    Completes (.registerWrite h addr v) s fun t =>
      rdB t h Reg.SYS_ERR_IMAGE_ONLY = true ∧ ∀ g k, k % 0x100000000 ≠ 0x8 → word t g k = word s g k) ∧
  (∀ h addr v d s, alive s h = true → addr < 0x1B0000 → isBlockId addr = false → findReg addr = some d →
    absentUnit s addr = false → imageOnly addr = false → configWrite d addr = true → holds s h = false →
    Completes (.registerWrite h addr v) s fun t =>
      rdB t h Reg.SYS_ERR_NOT_HOLDER = true ∧ ∀ g k, k % 0x100000000 ≠ 0x8 → word t g k = word s g k)

/-- R160, R258, R304, R342, R492: five reads with their latches. -/
def Obligations.MeasuringReadsLatch : Prop :=
  (∀ h s, alive s h = true →
    Completes (.hkaDataRead h) s fun t =>
      (half t h).mgmt.bus = word s h 0x80020 ∧ rd t h Reg.HKA_DATA_NEW = 0 ∧
      rd t h Reg.HKA_DATA_VALUE = rd s h Reg.HKA_DATA_VALUE) ∧
  (∀ h r s, alive s h = true → rd s h Reg.PCV_FLT_SEL_CHAIN < 160 →
    chainRec s h (rd s h Reg.PCV_FLT_SEL_CHAIN) = some r →
    Completes (.pcvFltOutRead h) s fun t =>
      let c := rd s h Reg.PCV_FLT_SEL_CHAIN
      rd t h (Reg.PCV_FLT_OUT_VALUE c) = chainWord s h c / 256 % 2 ^ 24 ∧
      rd t h (Reg.PCV_FLT_OUT_QUALITY c) = chainWord s h c % 256 ∧
      rd t h (Reg.PCV_FLT_STAT_SETTLE_REMAIN c) = settleRemain s h c ∧
      (half t h).mgmt.bus = word t h (Reg.PCV_FLT_OUT_VALUE c).key) ∧
  (∀ h f s, alive s h = true → f < 48 →
    Completes (.fstFstatRead h f) s fun t =>
      (half t h).mgmt.bus = word s h (Reg.FST_FSTAT_TYPE f).key ∧
      rd t h (Reg.FST_FSTART_NS_NS f) = nsOf (fastFn s h f).start ∧
      rd t h (Reg.FST_FSTART_SEC_SEC f) = secOf (fastFn s h f).start % 2 ^ 32) ∧
  (∀ h s, alive s h = true → rd s h Reg.FAB_FSEL_SLOT < 192 →
    Completes (.fabFstatRead h) s fun t =>
      let k := rd s h Reg.FAB_FSEL_SLOT
      (half t h).mgmt.bus = word s h (Reg.FAB_FSTAT_TYPE k).key ∧
      rd t h Reg.FAB_FSTART_NS_NS = nsOf (genFn s h k).start ∧
      rd t h Reg.FAB_FSTART_SEC_SEC = secOf (genFn s h k).start % 2 ^ 32) ∧
  (∀ h s, alive s h = true → rd s h Reg.LGE_TSEL_TASK < 48 →
    Completes (.lgeTinfoRead h) s fun t =>
      let k := rd s h Reg.LGE_TSEL_TASK
      (half t h).mgmt.bus = taskInfo s h k % 2 ^ 32 ∧
      word t h (Reg.LGE_TEXEC_MAX 48).key = word s h (Reg.LGE_TEXEC_MAX k).key ∧
      word t h (Reg.LGE_TRELS_MISSED 48).key = word s h (Reg.LGE_TRELS_MISSED k).key)

/-- R570, R635, R726, R737: four reads with their latches. -/
def Obligations.PortReadsLatch : Prop :=
  (∀ h ar s, alive s h = true → areaRec s h (rd s h Reg.ACQ_MSEL_AREA) = some ar →
    nget (half s h).acq.measSeq (rd s h Reg.ACQ_MSEL_AREA) ≠ 0 → rd s h Reg.ACQ_MSEL_ENTRY < ar.c →
    Completes (.acqMdataRead h) s fun t =>
      let at_ := rd s h Reg.ACQ_MSEL_AREA * 512 + rd s h Reg.ACQ_MSEL_ENTRY * 16
      (half t h).mgmt.bus = nget (half s h).acq.meas at_ % 2 ^ 32 ∧
      rd t h Reg.ACQ_MSEQ_SEQ = (nget (half s h).acq.measSeq (rd s h Reg.ACQ_MSEL_AREA) - 1) % 2 ^ 32 ∧
      ∀ m < 16, rd t h (Reg.ACQ_MDATA_VALUE m) = nget (half s h).acq.meas (at_ + m) % 2 ^ 32) ∧
  (∀ h s, alive s h = true →
    Completes (.ldgOptimeRead h) s fun t =>
      (half t h).mgmt.bus = opMs s % 2 ^ 32 ∧ (half t h).port.optimeHi = opMs s / 2 ^ 32 % 2 ^ 16) ∧
  (∀ h it rest s, alive s h = true → qItems s h (rd s h Reg.EVQ_SEL_QUEUE) = it :: rest →
    Completes (.evqPopRead h) s fun t =>
      (half t h).mgmt.bus = it.qseq ∧ qItems t h (rd s h Reg.EVQ_SEL_QUEUE) = rest ∧
      (half t h).evq.latch = itemBytes it ∧ (half t h).evq.latchPos = 0) ∧
  (∀ h s, alive s h = true → qItems s h (rd s h Reg.EVQ_SEL_QUEUE) = [] →
    Completes (.evqPopRead h) s fun t =>
      (half t h).mgmt.bus = 0xFFFFFFFF ∧ (half t h).evq = (half s h).evq) ∧
  (∀ h s, alive s h = true → (half s h).evq.latch ≠ [] → (half s h).evq.latchPos < 64 →
    Completes (.evqIdataRead h) s fun t =>
      (half t h).mgmt.bus = unLe (((half s h).evq.latch.drop (4 * (half s h).evq.latchPos)).take 4) ∧
      (half t h).evq.latchPos = (half s h).evq.latchPos + 1)

/-- R649: the latch of TIME_NS, one per half. -/
def Obligations.TimeReadLatchesPerHalf : Prop :=
  (∀ h s, alive s h = true →
    Completes (.timeNsRead h) s fun t =>
      (half t h).mgmt.bus = now s % 1000000000 ∧ latched t h = now s ∧ latched t (other h) = latched s (other h) ∧
      now t = now s) ∧
  (∀ h s, alive s h = true →
    Completes (.readClear h 0x30014) s fun t =>
      (half t h).mgmt.bus = secOf (latched s h) % 2 ^ 32 ∧ ∀ g, latched t g = latched s g) ∧
  (∀ h s, alive s h = true →
    Completes (.readClear h 0x30018) s fun t =>
      (half t h).mgmt.bus = secOf (latched s h) / 2 ^ 32 ∧ ∀ g, latched t g = latched s g)

/-- R246, R303, R322, R734, R739: one write and one read through each data port. -/
def Obligations.DataPortsReachTheirStore : Prop :=
  (∀ h v s, alive s h = true → rd s h Reg.PCV_INJ_SEL_WORD < 128 → (half s h).fe.inj = none →
    Completes (.pcvInjDataAccess h (some v)) s fun t =>
      injWord t h (rd s h Reg.PCV_INJ_SEL_SET) (rd s h Reg.PCV_INJ_SEL_WORD) = v % 2 ^ 32 ∧
      rd t h Reg.PCV_INJ_SEL_WORD = rd s h Reg.PCV_INJ_SEL_WORD + 1) ∧
  (∀ h s, alive s h = true → rd s h Reg.PCV_INJ_SEL_WORD < 128 →
    Completes (.pcvInjDataAccess h none) s fun t =>
      (half t h).mgmt.bus = injWord s h (rd s h Reg.PCV_INJ_SEL_SET) (rd s h Reg.PCV_INJ_SEL_WORD) % 2 ^ 32 ∧
      rd t h Reg.PCV_INJ_SEL_WORD = rd s h Reg.PCV_INJ_SEL_WORD + 1) ∧
  (∀ h v s, alive s h = true → rd s h Reg.FST_TPL_SEL_FUNC < 48 → acts s h = true →
    rd s h Reg.FST_TPL_SEL_GROUP ≠ activeGroup s h → (half s h).mode.pendSet = none →
    rd s h Reg.FST_TPL_SEL_IDX < 31 →
    Completes (.fstTplDataAccess h (some v)) s fun t =>
      nget (groupOf t h (rd s h Reg.FST_TPL_SEL_GROUP)).templates (tplKey s h) = v % 65536 ∧
      rd t h Reg.FST_TPL_SEL_IDX = rd s h Reg.FST_TPL_SEL_IDX + 1) ∧
  (∀ h s, alive s h = true → rd s h Reg.FST_TPL_SEL_FUNC < 48 →
    Completes (.fstTplDataAccess h none) s fun t =>
      (half t h).mgmt.bus =
        nget (groupOf s h (rd s h Reg.FST_TPL_SEL_GROUP)).templates (tplKey s h) % 65536 ∧
      (rd s h Reg.FST_TPL_SEL_IDX < 31 → rd t h Reg.FST_TPL_SEL_IDX = rd s h Reg.FST_TPL_SEL_IDX + 1)) ∧
  (∀ h v s, alive s h = true → acts s h = true → rd s h Reg.FAB_UC_SEL_GROUP ≠ activeGroup s h →
    (half s h).mode.pendSet = none → rd s h Reg.FAB_UC_SEL_POINT < 63 →
    Completes (.fabUcDataAccess h (some v)) s fun t =>
      nget (groupOf t h (rd s h Reg.FAB_UC_SEL_GROUP)).curves (curveKey s h) = v % 2 ^ 32 ∧
      rd t h Reg.FAB_UC_SEL_POINT = rd s h Reg.FAB_UC_SEL_POINT + 1) ∧
  (∀ h s, alive s h = true →
    Completes (.fabUcDataAccess h none) s fun t =>
      (half t h).mgmt.bus = nget (groupOf s h (rd s h Reg.FAB_UC_SEL_GROUP)).curves (curveKey s h) % 2 ^ 32 ∧
      (rd s h Reg.FAB_UC_SEL_POINT < 63 → rd t h Reg.FAB_UC_SEL_POINT = rd s h Reg.FAB_UC_SEL_POINT + 1)) ∧
  (∀ h v b s, alive s h = true → gooseBlock (rd s h Reg.ETH_TSEL_TABLE) (rd s h Reg.ETH_TSEL_ENTRY) = some b →
    gooseOn s h b.1 b.2 = false → rd s h Reg.ETH_TSEL_WORD ≠ 0 →
    Completes (.ethTdataAccess h (some v)) s fun t =>
      gooseWord t h (rd s h Reg.ETH_TSEL_TABLE) (rd s h Reg.ETH_TSEL_ENTRY) (rd s h Reg.ETH_TSEL_WORD) = v % 2 ^ 32 ∧
      rd t h Reg.ETH_TSEL_WORD = (rd s h Reg.ETH_TSEL_WORD + 1) % 256) ∧
  (∀ h s, alive s h = true →
    Completes (.ethTdataAccess h none) s fun t =>
      (half t h).mgmt.bus =
        gooseWord s h (rd s h Reg.ETH_TSEL_TABLE) (rd s h Reg.ETH_TSEL_ENTRY) (rd s h Reg.ETH_TSEL_WORD) ∧
      rd t h Reg.ETH_TSEL_WORD = (rd s h Reg.ETH_TSEL_WORD + 1) % 256) ∧
  (∀ h v s, alive s h = true →
    Completes (.secKeyDataAccess h (some v)) s fun t =>
      nget (half t h).mgmt.staged
        (stagedKey (rd s h Reg.SEC_KEY_SEL_KIND) (rd s h Reg.SEC_KEY_SEL_INDEX) (rd s h Reg.SEC_KEY_SEL_WORD)) =
        v % 2 ^ 32 ∧
      rd t h Reg.SEC_KEY_SEL_WORD = (rd s h Reg.SEC_KEY_SEL_WORD + 1) % 32) ∧
  (∀ h s, alive s h = true → rd s h Reg.SEC_KEY_SEL_KIND = 0 → rd s h Reg.SEC_KEY_SEL_INDEX = 0 →
    rd s h Reg.SEC_KEY_SEL_WORD < 16 →
    Completes (.secKeyDataAccess h none) s fun t =>
      (half t h).mgmt.bus = Config.devicePublic (h == .b) (rd s h Reg.SEC_KEY_SEL_WORD) % 2 ^ 32 ∧
      rd t h Reg.SEC_KEY_SEL_WORD = rd s h Reg.SEC_KEY_SEL_WORD + 1)

/-- R721, R722: the frames of the host port. -/
def Obligations.HostFramesAnswer : Prop :=
  (∀ h addr s, alive s h = true →
    Completes (.hostNop h addr) s fun t =>
      (∃ d, (half t h).mgmt.resp = some (0, addr % 2 ^ 32, d)) ∧
      ∀ r, (half s h).mgmt.resp = some r → (half t h).mgmt.miso = r) ∧
  (∀ h addr s, alive s h = true → (unprivBase ≤ addr % 2 ^ 32 ∨ hostElevated s h = true) →
    Completes (.hostRead h addr) s fun t =>
      (half t h).mgmt.resp = some (0, addr % 2 ^ 32, (regRead (collect s h) h (addr % 2 ^ 32)).1)) ∧
  (∀ h addr v s, alive s h = true → (unprivBase ≤ addr % 2 ^ 32 ∨ hostElevated s h = true) →
    Completes (.hostWrite h addr v) s fun t =>
      (half t h).mgmt.resp = some (0, addr % 2 ^ 32, v % 2 ^ 32)) ∧
  (∀ h addr s, alive s h = true → addr % 2 ^ 32 < unprivBase → hostElevated s h = false →
    Completes (.hostRead h addr) s fun t =>
      (∃ d, (half t h).mgmt.resp = some (3, addr % 2 ^ 32, d)) ∧
      rd t h Reg.HST_ERR_PRIV = min (rd s h Reg.HST_ERR_PRIV + 1) (fmax Reg.HST_ERR_PRIV)) ∧
  (∀ h why s, alive s h = true →
    Completes (.hostFrameError h why) s fun t =>
      (∃ a d, (half t h).mgmt.resp = some (if why = 0 then 4 else if why = 1 then 2 else 1, a, d)) ∧
      rd t h Reg.HST_ERR_FRAME =
        (if why = 0 then min (rd s h Reg.HST_ERR_FRAME + 1) (fmax Reg.HST_ERR_FRAME) else rd s h Reg.HST_ERR_FRAME) ∧
      rd t h Reg.HST_ERR_CRC =
        (if 2 ≤ why then min (rd s h Reg.HST_ERR_CRC + 1) (fmax Reg.HST_ERR_CRC) else rd s h Reg.HST_ERR_CRC))

/-- R714, R715, R718, R564: the commands of sessions. -/
def Obligations.SessionsServed : Prop :=
  (∀ h k role s, coreRuns s h = true → k < 256 → role < 4 → sessionOf s h k = none →
    rdBit s h Reg.ETH_CORE_GOV 0 = false → (roleQuota role).1 ≤ 16384 - qReserved s h →
    Completes (.sessionOpen h k role) s fun t =>
      (∃ e, sessionOf t h k = some e ∧ e.role = role) ∧ (half t h).mgmt.emp = .ok ∧
      rd t h (Reg.EVQ_CFG_RES (8 + k)) = (roleQuota role).1 ∧ rd t h (Reg.EVQ_CFG_CAP (8 + k)) = (roleQuota role).2.1) ∧
  (∀ h k e addr s, coreRuns s h = true → sessionOf s h k = some e → (sessionRate s h e).1 = true →
    elevationOf s h k = none → allowed e.role (addr % unprivBase) false = true →
    Completes (.sessionRequest h k addr none) s fun t =>
      (half t h).mgmt.emp = .ok ∧
      (half t h).mgmt.empData = (regRead (sessionRate s h e).2 h (unprivBase + addr % unprivBase)).1) ∧
  (∀ h k e addr v s, coreRuns s h = true → sessionOf s h k = some e → (sessionRate s h e).1 = true →
    elevationOf s h k = none → allowed e.role (addr % unprivBase) true = true →
    Completes (.sessionRequest h k addr (some v)) s fun t =>
      (half t h).mgmt.emp = .ok) ∧
  (∀ h k e s, sessionOf s h k = some e →
    Completes (.sessionEnd h k) s fun t =>
      sessionOf t h k = none ∧ elevationOf t h k = none ∧ qItems t h (8 + k) = []) ∧
  (∀ h k e u seq s, coreRuns s h = true → sessionOf s h k = some e → rdBit s h Reg.ETH_CORE_GOV 1 = false →
    (recUnits s h).find? (fun u => u.unitSeq == seq) = some u →
    Completes (.exportRequest h k seq) s fun t =>
      (half t h).mgmt.emp = .ok ∧
      (half t h).mgmt.exported = some (exportOf (unpackBlocks (u.payload.length / 17 + 1) u.payload)
        (toSigned 16 (rd s .a Reg.TIME_UTC_OFFSET))))

/-- R706, R708, R727: the management core. -/
def Obligations.ManagementCoreCommands : Prop :=
  (∀ h s, alive s h = true → rd s h Reg.ETH_CORE_STATE ≠ 1 →
    Completes (.mgmtWatchdog h) s fun t =>
      rd t h Reg.ETH_CORE_STATE = 1 ∧ (half t h).mgmt.sessions = [] ∧
      rd t h Reg.ETH_CORE_RESTARTS = min 7 ((recentRestarts s h).length + 1)) ∧
  (∀ h s, alive s h = true → rd s h Reg.ETH_CORE_STATE = 1 →
    (∀ e ∈ configOf s h, e.1 % 0x100000000 ≠ 0x170014) →
    Completes (.mgmtCoreRestarted h) s fun t => rd t h Reg.ETH_CORE_STATE = 0) ∧
  (∀ h s, alive s h = true →
    Completes (.managementDegradedEnd h) s fun t => nget (half t h).tally (15 * 65536 + 1) = 0) ∧
  (∀ h load s, coreRuns s h = true →
    Completes (.governorWindow h load) s fun t =>
      rd t h Reg.ETH_CORE_LOAD = min load 100 ∧
      (80 < min load 100 → rdBit t h Reg.ETH_CORE_GOV 0 = true) ∧ (min load 100 < 75 → rdBit t h Reg.ETH_CORE_GOV 0 = false) ∧
      (90 < min load 100 → rdBit t h Reg.ETH_CORE_GOV 1 = true) ∧ (min load 100 < 85 → rdBit t h Reg.ETH_CORE_GOV 1 = false) ∧
      ∀ e, 97 < load → 10 ≤ (half s h).mgmt.highRuns → dropVictim (half s h).mgmt.sessions = some e →
        sessionOf t h e.index = none) ∧
  (∀ h up supported s, alive s h = true →
    Completes (.ethLinkChange h up supported) s fun t =>
      rdB t h Reg.ETH_STAT_LINK = (up && supported) ∧ rdB t h Reg.ETH_STAT_REFUSED = (up && !supported))

/-- R717 to R720: the commands of SEC_CMD. -/
def Obligations.SecurityCommandsComplete : Prop :=
  (∀ h acc s, alive s h = true → (acc = 0xFF ∨ (sessionOf s h acc).isSome = true) → challengeLocked s h acc = false →
    Completes (.challenge h acc) s fun t =>
      rd t h Reg.SEC_RESULT_STATUS = 0x02 ∧
      ∃ c, (half t h).mgmt.chals.head? = some c ∧ c.acc = acc ∧ c.tick = s.ticks ∧
        (∀ i < 8, rd t h (Reg.SEC_NONCE_WORD i) = c.nonce.getD i 0) ∧
        ∀ i < 8, c.cnonce.getD i 0 = rd s h (Reg.SEC_CNONCE_WORD i)) ∧
  (∀ h acc slot c s, alive s h = true → (acc = 0xFF ∨ (sessionOf s h acc).isSome = true) → slot ≤ 3 →
    (half s h).mgmt.chals.find? (fun c => c.acc == acc) = some c → s.ticks ≤ c.tick + ticks30 →
    (acc = 0xFF ∨ (((half s h).mgmt.elevs.filter fun e => e.acc != acc).filter fun e => e.acc != 0xFF).length < 4) →
    Completes (.respond h acc slot) s fun t =>
      (half t h).mgmt.chals.find? (fun c => c.acc == acc) = none ∧
      (wardenVerifies s h c slot = true →
        rd t h Reg.SEC_RESULT_STATUS = 0x02 ∧ ∃ e, elevationOf t h acc = some e ∧ e.slot = slot) ∧
      (wardenVerifies s h c slot = false → rd t h Reg.SEC_RESULT_STATUS = 0x40)) ∧
  (∀ h acc s, alive s h = true → (acc = 0xFF ∨ (sessionOf s h acc).isSome = true) →
    (elevationOf s h acc).isSome = true →
    Completes (.drop h acc) s fun t => rd t h Reg.SEC_RESULT_STATUS = 0x02 ∧ elevationOf t h acc = none) ∧
  (∀ h acc s, alive s h = true → keyIllegal s h = false →
    (selKind s h = 4 → keyHeld s h 4 (selIndex s h) = true ∨ ((keysOf s h).filter fun k => k.kind == 4).length < 1024) →
    Completes (.install h acc) s fun t =>
      rd t h Reg.SEC_RESULT_STATUS = 0x02 ∧
      keyWords t h (selKind s h) (selIndex s h) = some ((List.range (kindWords (selKind s h))).map fun w =>
        nget (half s h).mgmt.staged (stagedKey (selKind s h) (selIndex s h) w))) ∧
  (∀ h acc s, alive s h = true → keyIllegal s h = false → keyHeld s h (selKind s h) (selIndex s h) = true →
    (selKind s h = 1 → ∃ k ∈ keysOf s h, k.kind = 1 ∧ k.index ≠ selIndex s h) →
    (selKind s h = 2 → runningKeySlot s h ≠ some (selIndex s h)) →
    Completes (.erase h acc) s fun t =>
      rd t h Reg.SEC_RESULT_STATUS = 0x02 ∧ keyHeld t h (selKind s h) (selIndex s h) = false) ∧
  (∀ h acc gen s, alive s h = true → gen ≤ 1 → rd s h Reg.SEC_STAT_GEN ≠ gen →
    Completes (.useGen h acc gen) s fun t =>
      rd t h Reg.SEC_RESULT_STATUS = 0x02 ∧ rd t h Reg.SEC_STAT_GEN = gen ∧
      rd t h Reg.ARD_ERA_ERA = (rd s h Reg.ARD_ERA_ERA + 1) % 2 ^ (Reg.ARD_ERA_ERA.hi + 1 - Reg.ARD_ERA_ERA.lo)) ∧
  (∀ h acc s, alive s h = true →
    Completes (.elevationTimeout h acc) s fun t => elevationOf t h acc = none)

/-- R712, R730, R731: unlocking, snapshots and GOOSE reception. -/
def Obligations.DebugTraceGooseComplete : Prop :=
  (∀ h expiry sig s, alive s h = true → (modeOf s h = mCOMMISSION ∨ modeOf s h = mTEST) → opMs s < expiry * 3600000 →
    Completes (.debugToken h expiry sig) s fun t =>
      (Config.ecdsaVerify Config.rootKey (Config.sha384 (tokenBytes s h expiry)) sig = true →
        rdB t h Reg.SEC_STAT_DEBUG = true ∧ (half t h).mgmt.expiry = expiry) ∧
      (Config.ecdsaVerify Config.rootKey (Config.sha384 (tokenBytes s h expiry)) sig = false → t = s)) ∧
  (∀ h s, alive s h = true → Completes (.debugRelock h) s fun t => rdB t h Reg.SEC_STAT_DEBUG = false) ∧
  (∀ h s, alive s h = true → rdB s h Reg.TRC_CFG_STORE = true →
    Completes (.snapshot h) s fun t =>
      ∃ snap : TraceSnap, (match h with | .a => t.store.trcA | .b => t.store.trcB).head? = some snap ∧
        snap.bytes = (half s h).trace.buffer.flatten ∧ snap.time = now s) ∧
  (∀ h sub st sq ttl sim vs s, running s h = true → sub < 128 → gooseOn s h 2 sub = true →
    (half s h).mgmt.gsubs.find? (fun e => e.1 == sub) = none → (sim = true → modeOf s h = mTEST) →
    Completes (.gooseRx h sub st sq ttl sim vs) s fun t =>
      ∃ u, t = pointsFeed u h ∧ sget (fun _ => (0, 0)) (half u h).mgmt.gsubs sub = (st % 2 ^ 32, sq % 2 ^ 32) ∧
        rd u h Reg.ETH_GOOSE_RX_ACCEPTED =
          min (rd s h Reg.ETH_GOOSE_RX_ACCEPTED + 1) (fmax Reg.ETH_GOOSE_RX_ACCEPTED))

/-- R461: NOP, LD, AND, OR, XOR of the running task. -/
def Obligations.LogicLoadsComplete : Prop :=
  ∀ h r s, runningTask s h = some r →
    (Completes (.nop h) s fun t =>
      pcOf t h r.prio = (pcOf s h r.prio + 1) % 2 ^ 18 ∧ accOf t h r.prio = accOf s h r.prio ∧
      ∀ o, o ≠ execWord r.prio 0 → lw t h o = lw s h o) ∧
    ∀ a n neg,
      (Completes (.ld h a n neg) s fun t =>
        pcOf t h r.prio = (pcOf s h r.prio + 1) % 2 ^ 18 ∧ accOf t h r.prio = operand s h r.prio a n neg ∧
        ∀ o, o ≠ execWord r.prio 0 → lw t h o = lw s h o) ∧
      (Completes (.and h a n neg) s fun t =>
        pcOf t h r.prio = (pcOf s h r.prio + 1) % 2 ^ 18 ∧
        accOf t h r.prio = (accOf s h r.prio && operand s h r.prio a n neg) ∧
        ∀ o, o ≠ execWord r.prio 0 → lw t h o = lw s h o) ∧
      (Completes (.or h a n neg) s fun t =>
        pcOf t h r.prio = (pcOf s h r.prio + 1) % 2 ^ 18 ∧
        accOf t h r.prio = (accOf s h r.prio || operand s h r.prio a n neg) ∧
        ∀ o, o ≠ execWord r.prio 0 → lw t h o = lw s h o) ∧
      (Completes (.xor h a n neg) s fun t =>
        pcOf t h r.prio = (pcOf s h r.prio + 1) % 2 ^ 18 ∧
        accOf t h r.prio = (accOf s h r.prio != operand s h r.prio a n neg) ∧
        ∀ o, o ≠ execWord r.prio 0 → lw t h o = lw s h o)

/-- R461, R462: AND(, OR(, XOR( and ) of the running task. -/
def Obligations.LogicStackComplete : Prop :=
  ∀ h r s, runningTask s h = some r →
    (∀ a n neg, depthOf s h r.prio < 16 →
      (Completes (.andPush h a n neg) s fun t =>
        accOf t h r.prio = operand s h r.prio a n neg ∧ depthOf t h r.prio = depthOf s h r.prio + 1 ∧
        bits (stackOf t h r.prio) (3 * depthOf s h r.prio + 2) (3 * depthOf s h r.prio) = b2n (accOf s h r.prio) + 2) ∧
      (Completes (.orPush h a n neg) s fun t =>
        accOf t h r.prio = operand s h r.prio a n neg ∧ depthOf t h r.prio = depthOf s h r.prio + 1 ∧
        bits (stackOf t h r.prio) (3 * depthOf s h r.prio + 2) (3 * depthOf s h r.prio) = b2n (accOf s h r.prio) + 4) ∧
      (Completes (.xorPush h a n neg) s fun t =>
        accOf t h r.prio = operand s h r.prio a n neg ∧ depthOf t h r.prio = depthOf s h r.prio + 1 ∧
        bits (stackOf t h r.prio) (3 * depthOf s h r.prio + 2) (3 * depthOf s h r.prio) = b2n (accOf s h r.prio) + 6)) ∧
    (∀ d, depthOf s h r.prio = d + 1 → d < 16 →
      Completes (.pop h) s fun t =>
        depthOf t h r.prio = d ∧
        accOf t h r.prio = combine (bits (stackOf s h r.prio) (3 * d + 2) (3 * d) / 2)
          (bit (stackOf s h r.prio) (3 * d)) (accOf s h r.prio)) ∧
    (∀ a n neg, 16 ≤ depthOf s h r.prio → ownsLogic s h = true →
      Completes (.andPush h a n neg) s fun t => logicRuns t h = false ∧ rd t h Reg.LGE_STAT_CAUSE = 3) ∧
    (depthOf s h r.prio = 0 → ownsLogic s h = true →
      Completes (.pop h) s fun t => logicRuns t h = false ∧ rd t h Reg.LGE_STAT_CAUSE = 4)

/-- R461, R468: the writing instructions of the running task. -/
def Obligations.LogicWritesComplete : Prop :=
  ∀ h r s, runningTask s h = some r →
    (∀ a n neg, (a = 1 ∨ a = 2 ∨ a = 4) → indexOk a n = true →
      Completes (.st h a n neg) s fun t =>
        operandBit t h r.prio a n = (accOf s h r.prio != neg) ∧ accOf t h r.prio = accOf s h r.prio ∧
        pcOf t h r.prio = (pcOf s h r.prio + 1) % 2 ^ 18) ∧
    (∀ a n, accOf s h r.prio = true → (a = 1 ∨ a = 2 ∨ a = 4) → indexOk a n = true →
      (Completes (.set h a n) s fun t => operandBit t h r.prio a n = true) ∧
      (Completes (.rst h a n) s fun t => operandBit t h r.prio a n = false)) ∧
    (∀ n, accOf s h r.prio = true → n < 1024 →
      (Completes (.set h 6 n) s fun t => lw t h (areaC + 4 * n + 2) = lw s h (areaC + 4 * n + 1) % 65536) ∧
      (Completes (.rst h 6 n) s fun t => lw t h (areaC + 4 * n + 2) = 0) ∧
      (Completes (.rst h 5 n) s fun t =>
        operandBit t h r.prio 5 n = false ∧ lw t h (areaT + 4 * n + 2) = 0 ∧ bit (lw t h (areaT + 4 * n)) 29 = false)) ∧
    (∀ a n, accOf s h r.prio = false →
      (Completes (.set h a n) s fun t => ∀ o, o ≠ execWord r.prio 0 → lw t h o = lw s h o) ∧
      (Completes (.rst h a n) s fun t => ∀ o, o ≠ execWord r.prio 0 → lw t h o = lw s h o)) ∧
    (∀ n, n < 65536 →
      (Completes (.pedge h n) s fun t =>
        accOf t h r.prio = (accOf s h r.prio && !operandBit s h r.prio 2 n) ∧
        operandBit t h r.prio 2 n = accOf s h r.prio) ∧
      (Completes (.nedge h n) s fun t =>
        accOf t h r.prio = (!accOf s h r.prio && operandBit s h r.prio 2 n) ∧
        operandBit t h r.prio 2 n = accOf s h r.prio))

/-- R465, R467: TON, TOF, TP and TONR of the running task. -/
def Obligations.TimerScansComplete : Prop :=
  ∀ h r n s, runningTask s h = some r → n < 1024 →
    let w := lw s h (areaT + 4 * n)
    let inp := accOf s h r.prio
    let prev := bit w 30
    let q := bit w 31
    let et := lw s h (areaT + 4 * n + 2)
    let pt := lw s h (areaT + 4 * n + 1)
    let rel := nget (half s h).lge.relCycle r.task
    let dt := if bit w 29 then (rel + 2 ^ 32 - lw s h (areaT + 4 * n + 3)) % 2 ^ 32 else 0
    let grown := min (et + dt) pt
    let scanned := fun (t : State) (q' : Bool) (et' : Nat) =>
      accOf t h r.prio = q' ∧ lw t h (areaT + 4 * n + 2) = et' % 2 ^ 32 ∧ bit (lw t h (areaT + 4 * n)) 31 = q' ∧
      bit (lw t h (areaT + 4 * n)) 30 = inp ∧ bit (lw t h (areaT + 4 * n)) 29 = true ∧
      lw t h (areaT + 4 * n + 3) = rel % 2 ^ 32
    (Completes (.ton h n) s fun t =>
      if inp then scanned t (decide (pt ≤ if prev then grown else 0)) (if prev then grown else 0) else scanned t false 0) ∧
    (Completes (.tof h n) s fun t =>
      if inp then scanned t true 0
      else scanned t (q && decide ((if prev then 0 else grown) < pt)) (if prev then 0 else grown)) ∧
    (Completes (.tp h n) s fun t =>
      if q then scanned t (decide (grown < pt)) grown
      else if inp then scanned t (!prev && decide (0 < pt)) (if prev then et else 0)
      else scanned t false 0) ∧
    (Completes (.tonr h n) s fun t =>
      if inp then scanned t (decide (pt ≤ if prev then grown else et)) (if prev then grown else et) else scanned t q et)

/-- R468: counter scans, and SET and RST on timer and counter records. -/
def Obligations.CounterScansAndRecordResets : Prop :=
  ∀ h r n s, runningTask s h = some r → n < 1024 →
    let w := lw s h (areaC + 4 * n)
    let inp := accOf s h r.prio
    let pv := lw s h (areaC + 4 * n + 1)
    let cv := lw s h (areaC + 4 * n + 2)
    let rise := inp && !bit w 30
    (cv < 65536 →
      (Completes (.ctu h n) s fun t =>
        let c := if rise then min (cv + 1) 65535 else cv
        lw t h (areaC + 4 * n + 2) = c ∧ bit (lw t h (areaC + 4 * n)) 31 = decide (pv ≤ c) ∧
        bit (lw t h (areaC + 4 * n)) 30 = inp ∧ accOf t h r.prio = decide (pv ≤ c)) ∧
      (Completes (.ctd h n) s fun t =>
        let c := if rise then cv - 1 else cv
        lw t h (areaC + 4 * n + 2) = c ∧ bit (lw t h (areaC + 4 * n)) 31 = decide (c = 0) ∧
        bit (lw t h (areaC + 4 * n)) 30 = inp ∧ accOf t h r.prio = decide (c = 0))) ∧
    (inp = true →
      (Completes (.rst h 5 n) s fun t =>
        lw t h (areaT + 4 * n + 2) = 0 ∧ bit (lw t h (areaT + 4 * n)) 31 = false ∧
        bit (lw t h (areaT + 4 * n)) 29 = false ∧ bit (lw t h (areaT + 4 * n)) 30 = bit (lw s h (areaT + 4 * n)) 30) ∧
      (Completes (.rst h 6 n) s fun t =>
        lw t h (areaC + 4 * n + 2) = 0 ∧ lw t h (areaC + 4 * n) = lw s h (areaC + 4 * n)) ∧
      (Completes (.set h 6 n) s fun t =>
        lw t h (areaC + 4 * n + 2) = pv % 65536 ∧ lw t h (areaC + 4 * n) = lw s h (areaC + 4 * n)))

/-- R461, R462, R471, R473, R479: control flow, END and the boundaries. -/
def Obligations.LogicControlComplete : Prop :=
  (∀ h r target s, runningTask s h = some r →
    (depthOf s h r.prio = 0 →
      (Completes (.jmp h target) s fun t =>
        pcOf t h r.prio = target % 2 ^ 18 ∧ accOf t h r.prio = accOf s h r.prio) ∧
      (Completes (.jmpc h target) s fun t =>
        pcOf t h r.prio = (if accOf s h r.prio then target else pcOf s h r.prio + 1) % 2 ^ 18 ∧
        accOf t h r.prio = accOf s h r.prio) ∧
      (Completes (.jmpcn h target) s fun t =>
        pcOf t h r.prio = (if accOf s h r.prio then pcOf s h r.prio + 1 else target) % 2 ^ 18 ∧
        accOf t h r.prio = accOf s h r.prio)) ∧
    (depthOf s h r.prio ≠ 0 → ownsLogic s h = true →
      Completes (.jmp h target) s fun t => logicRuns t h = false ∧ rd t h Reg.LGE_STAT_CAUSE = 5)) ∧
  (∀ h r s, runningTask s h = some r → depthOf s h r.prio = 0 →
    Completes (.endTask h) s fun t =>
      ∃ u, t = dispatch (lsAtEnd u h r.task) h ∧ taskState u h r.task = 0 ∧
        (half u h).lge.next = (mergeWritten (half s h).lge r.prio).next ∧
        rd u h (Reg.LGE_TEXEC_LAST r.task) = min 65535 ((s.ticks - nget (half s h).lge.relTick r.task) / 125)) ∧
  (∀ h s, alive s h = true → running s h = true → ownsLogic s h = true → logicRuns s h = false →
    (half s h).lge.restart = 0 →
    Completes (.arcadeCycleBoundary h) s fun t =>
      rd t h Reg.LGE_CYCLE_COUNT = (rd s h Reg.LGE_CYCLE_COUNT + 1) % 2 ^ 32 ∧
      lw t h (areaI + 28) = rd s h Reg.TRM_GRP_LO_ACT ∧ lw t h (areaI + 31) = rd s .a Reg.DIO_DO_VAL_VAL) ∧
  (∀ h r s, alive s h = true → running s h = true → ownsLogic s h = true → logicRuns s h = true →
    (half s h).lge.restart = 0 → overrunning s h ((rd s h Reg.LGE_CYCLE_COUNT + 1) % 2 ^ 32) = some r →
    Completes (.arcadeCycleBoundary h) s fun t => logicRuns t h = false ∧ rd t h Reg.LGE_STAT_CAUSE = 1) ∧
  (∀ h k r s, taskRec s h k = some r → r.kind = 1 → logicRuns s h = true → taskState s h k ≠ 0 →
    400 ≤ (rd s h Reg.LGE_CYCLE_COUNT + 2 ^ 32 - nget (half s h).lge.relCycle k) % 2 ^ 32 →
    Completes (.eventTaskLimit h k) s fun t => logicRuns t h = false ∧ rd t h Reg.LGE_STAT_CAUSE = 2)

/-- R502 to R508: request, grant, cancellation, and the leader rounds. -/
def Obligations.GavelLinesAndRounds : Prop :=
  (∀ h s, eligible s h = true → rdB s h Reg.GAV_LS_STAT_DEGRADED = false → rdB s h Reg.GAV_STAT_REQ = false →
    s.field.mon = 0 → (rd s h Reg.SYS_MODE_BOOT_STEP = 9 ∨ s.field.gavel.since ≠ 0) →
    Completes (.gavelRequestTimer h) s fun t => rdB t h Reg.GAV_STAT_REQ = true) ∧
  (∀ h s, alive s h = true → rdB s h Reg.GAV_STAT_REQ = true → s.field.mon = 0 →
    Completes (.gavelGrant h) s fun t =>
      holds t h = true ∧ ∃ u, t = actUpdate u h ∧ rdB u h Reg.GAV_STAT_GRANT = true ∧ holds u h = true) ∧
  (∀ h s, s.field.mon = monOf h → (alive s h = false ∨ rdB s h Reg.GAV_STAT_REQ = false ∨
      (rdB s (other h) Reg.GAV_STAT_REQ = true ∧ rdB s (other h) Reg.GAV_STAT_HOLDER_STROBE = false)) →
    Completes .gavelCancel s fun t => t.field.mon = 0 ∧ rdB t h Reg.GAV_STAT_GRANT = false) ∧
  (∀ s, s.field.mon = 3 → Completes .gavelCancel s fun t => t.field.mon = 0) ∧
  (∀ s, s.field.gavel.armed = true → (s.field.mon = 0 ∨ s.field.mon = 3) → s.field.gavel.since = 0 →
    rdB s .a Reg.TRM_CELL_STAT_NO_LEADER = false → leader s = none → s.field.io.lclOut = false →
    Completes .noLeaderTimeout s fun t =>
      rdB t .a Reg.TRM_CELL_STAT_NO_LEADER = true ∧ t.field.gavel.since = s.ticks + 1) ∧
  (∀ h c s, 1 ≤ c → c ≤ 4 → s.field.gavel.armed = true → (c = 1 → alive s h = true) → s.field.io.lclOut = false →
    Completes (.gavelDisagree h c) s fun t =>
      t.field.gavel.since = s.ticks + 1 ∧ (c = 2 → t.field.mon = 3) ∧ (c ≠ 2 → present s h = true → holds s h = true → t.field.mon = 0)) ∧
  (∀ s, s.field.gavel.since ≠ 0 → leader s = none →
    Completes .roundTimeout s fun t =>
      let fails := s.ticks :: s.field.gavel.fails.filter fun t => decide (s.ticks < t + 1250000000)
      t.field.gavel.fails = fails.take 3 ∧
      t.field.gavel.since = if 3 ≤ fails.length ∧ s.field.mon ≠ 3 then 0 else s.ticks + 1)

/-- R508, R514, R520, R521, R528: GAV_CMD and the planned handover. -/
def Obligations.HandoverCommandsComplete : Prop :=
  (∀ h s, alive s h = true → modeOf s h ≠ mBOOT → modeOf s h ≠ mLOCKOUT → handoverPending s = false →
    (acts s h = true → eligible s (other h) = true → rdB s (other h) Reg.GAV_LS_STAT_DEGRADED = false →
      rd s h Reg.GAV_LS_STAT_STATE = 1 →
      Completes (.handoverCmd h) s fun t =>
        (half t h).gav.handover = 2 ∧ rd t h Reg.GAV_RESULT_CMD = 1 ∧ rd t h Reg.GAV_RESULT_STATUS = 0x01) ∧
    (rdB s h Reg.GAV_LS_STAT_DEGRADED = true → rdB s h Reg.GAV_STAT_FAILED_LEAD = false → leader s = none →
      Completes (.takeover h) s fun t =>
        (half t h).gav.takeover = true ∧ rdB t h Reg.GAV_STAT_REQ = true ∧ rd t h Reg.GAV_RESULT_STATUS = 0x02) ∧
    (rdB s h Reg.GAV_STAT_LCL = true → s.field.mon ≠ 3 →
      Completes (.clearLcl h) s fun t =>
        rdB t h Reg.GAV_STAT_LCL = false ∧ t.field.io.lclOut = false ∧ t.field.gavel.since = s.ticks + 1 ∧
        rd t h Reg.GAV_RESULT_STATUS = 0x02) ∧
    (rdB s h Reg.GAV_RETURN_SUSPENDED = true →
      Completes (.ackReturn h) s fun t =>
        rdB t h Reg.GAV_RETURN_SUSPENDED = false ∧ rd t h Reg.GAV_RESULT_STATUS = 0x02) ∧
    (∀ x, present s x = true → rdB s x Reg.GAV_LS_STAT_DEGRADED = true →
      Completes (.clearDegraded h) s fun t =>
        rdB t x Reg.GAV_LS_STAT_DEGRADED = false ∧ rd t h Reg.GAV_RESULT_STATUS = 0x02)) ∧
  (∀ h s, (half s (other h)).gav.handover ≠ 0 → acts s (other h) = true → eligible s h = true →
    Completes (.handover h) s fun t => rdB t h Reg.GAV_STAT_REQ = true) ∧
  (∀ h s, (half s h).gav.handover ≠ 0 → acts s h = true → holds s h = true →
    (∀ r ∈ taskRecs s h, taskState s h r.task = 0) → rdB s (other h) Reg.GAV_STAT_REQ = true →
    Completes (.handoverBoundary h) s fun t =>
      t.field.mon = 0 ∧ rdB t h Reg.GAV_STAT_GRANT = false ∧ rdB t h Reg.GAV_STAT_REQ = false ∧
      t.field.gavel.cause = (half s h).gav.handover) ∧
  (∀ h s, (half s h).gav.handover ≠ 0 →
    Completes (.handoverAbandon h) s fun t =>
      (half t h).gav.handover = 0 ∧ rdB t (other h) Reg.GAV_STAT_REQ = false ∧ rd t h Reg.GAV_RESULT_STATUS = 0x19) ∧
  (∀ h s, returnReady s h = true → (half s h).gav.holdAt ≠ 0 →
    (half s h).gav.holdAt + holdoff s h * 125000000 ≤ s.ticks + 1 →
    Completes (.returnHoldoff h) s fun t => (half t h).gav.returning = true) ∧
  (∀ h s, (half s (other h)).gav.returning = true → acts s h = true → rdB s h Reg.GAV_RETURN_SUSPENDED = false →
    handoverPending s = false →
    Completes (.returnReq h) s fun t =>
      (half t h).gav.handover = 3 ∧ (half t (other h)).gav.returning = false)

/-- R500, R501, R517, R519: the cross-link and the loss of the leader. -/
def Obligations.CrossLinkAndLossComplete : Prop :=
  (∀ h s, alive s h = true →
    Completes (.heartbeatSend h) s fun t =>
      (half t h).gav.hbSeen = false ∧
      rd t h Reg.GAV_RETURN_REVERSIONS = min 3 (lastHour s (half s h).gav.reversions).length) ∧
  (∀ h acked s, alive s h = true → alive s (other h) = true →
    Completes (.heartbeat h acked) s fun t =>
      ∃ u, (half u h).gav.hbAt = s.ticks + 1 ∧ (half u h).gav.lost = false ∧ (half u h).gav.probeAt = 0 ∧
        rd u h Reg.GAV_STAT_PARTNER_ROLE = roleOf s (other h) ∧
        let a := actUpdate u h
        let b := if roleOf a (other h) = 1 then stepTen a h else a
        t = if reloadReady b h then startReload b else b) ∧
  (∀ h errors s, alive s h = true → twoHalves s = true →
    Completes (.xlRetransmit h errors) s fun t =>
      if 5 ≤ (half s h).gav.tries + 1 then rdB t h Reg.GAV_XL_STAT_UP = false
      else (half t h).gav.tries = (half s h).gav.tries + 1 ∧
        rd t h Reg.GAV_XL_STAT_RETRANS = min (rd s h Reg.GAV_XL_STAT_RETRANS + 1) (fmax Reg.GAV_XL_STAT_RETRANS)) ∧
  (∀ h s, alive s h = true → twoHalves s = true → rdB s h Reg.GAV_XL_STAT_UP = false →
    Completes (.xlUp h) s fun t => rdB t h Reg.GAV_XL_STAT_UP = true) ∧
  (∀ h s, alive s h = true → Completes (.xlAckTimeout h) s fun t => rdB t h Reg.GAV_XL_STAT_UP = false) ∧
  (∀ h s, alive s h = true → twoHalves s = true → acts s h = false → (half s h).gav.lost = false →
    (half s h).gav.hbAt ≠ 0 → (half s h).gav.probeAt = 0 → (half s h).gav.hbAt + 10000 ≤ s.ticks + 1 →
    Completes (.partnerHeartbeatLoss h) s fun t =>
      (half t h).gav.probeAt = s.ticks + 1 ∧ (half t h).gav.replied = false) ∧
  (∀ h s, alive s h = true → (half s (other h)).gav.probeAt ≠ 0 →
    Completes (.probe h) s fun t => (half t (other h)).gav.replied = true) ∧
  (∀ h s, (half s h).gav.replied = true →
    Completes (.probeReply h) s fun t => (half t h).gav.probeAt = 0 ∧ (half t h).gav.replied = false) ∧
  (∀ h s, alive s h = true → acts s h = false → (half s h).gav.probeAt ≠ 0 → (half s h).gav.replied = false →
    (Completes (.lossConfirm h true) s fun t =>
      rdB t h Reg.GAV_XL_STAT_UP = false ∧ rd t h Reg.GAV_LS_STAT_STATE = 0 ∧ (half t h).gav.probeAt = 0) ∧
    (Completes (.lossConfirm h false) s fun t => (half t h).gav.lost = true ∧ (half t h).gav.probeAt = 0))

/-- R119, R481, R509 to R512: lockstep while it runs and while it is restored. -/
def Obligations.LockstepCommandsComplete : Prop :=
  (∀ h lag c words tasks rest s, ownsLogic s h = false → alive s h = true → (lsState s h = 1 ∨ lsState s h = 2) →
    (half s (other h)).lge.images = (c, words, tasks) :: rest →
    Completes (.lsImage h lag) s fun t =>
      ∃ u, rd u h Reg.GAV_LS_STAT_LAG = min 65535 lag ∧ (half u (other h)).lge.images = rest ∧
        t = if logicRuns u h then replayBoundary u h c words tasks else u) ∧
  (∀ h e es f fs s, ownsLogic s h = false → (half s (other h)).lge.sigs = e :: es → (half s h).lge.sigs = f :: fs →
    (half s h).lge.got = 0 → lsState s h = 1 → e.2.2 ≠ f.2.2 →
    Completes (.lsEnd h) s fun t =>
      lsState t h = 3 ∧ rd t h Reg.GAV_LS_CNT_MISMATCH = min (rd s h Reg.GAV_LS_CNT_MISMATCH + 1) (fmax Reg.GAV_LS_CNT_MISMATCH)) ∧
  (∀ h e es f fs s, ownsLogic s h = false → (half s (other h)).lge.sigs = e :: es → (half s h).lge.sigs = f :: fs →
    (half s h).lge.got = 0 → lsState s h = 1 → e.2.2 = f.2.2 →
    Completes (.lsEnd h) s fun t =>
      lsState t h = 1 ∧ (half t h).lge.sigs = fs ∧ (half t (other h)).lge.sigs = es ∧ (half t h).lge.got = 0) ∧
  (∀ h s, ownsLogic s h = false → lsState s h = 1 → present s h = true →
    Completes (.lockstepLag h) s fun t => lsState t h ≠ 1 ∧ (leader s = none → lsState t h = 0)) ∧
  (∀ h s, ownsLogic s h = false → logicRuns s h = true → twoHalves s = true → logicRuns s (other h) = false →
    Completes (.lsStop h) s fun t =>
      logicRuns t h = false ∧ rd t h Reg.LGE_STAT_CAUSE = rd s (other h) Reg.LGE_STAT_CAUSE) ∧
  (∀ h s, ownsLogic s h = true → lsState s h = 1 →
    Completes (.lsSweepTimer h) s fun t => (half t h).lge.sweep = 1 ∧ (half t h).lge.sweepMsg = none) ∧
  (∀ h tag o v s, ownsLogic s h = false → lsState s h = 1 → (half s h).lge.ends = tag →
    (half s (other h)).lge.sweepMsg = some (tag, [(o, v)]) → lw s h o ≠ v → (half s h).lge.copyPend.contains o = false →
    Completes (.lsSweep h) s fun t =>
      (half t (other h)).lge.sweepMsg = none ∧
      if isLive s h o then lsState t h = 3 else lw t h o = v % 2 ^ 32 ∧ lsState t h = 1) ∧
  (∀ h s, ownsLogic s h = false → twoHalves s = true → alive s h = true → lsState s h = 1 →
    (half s (other h)).lge.copySent ≠ [] →
    Completes (.lsCopy h) s fun t =>
      (half t (other h)).lge.copySent = [] ∧
      ∀ e ∈ (half s (other h)).lge.copySent, e.1 ∉ (half t h).lge.copyPend ∧ e.1 ∉ (half t (other h)).lge.copyPend) ∧
  (∀ h s, ownsLogic s h = false → twoHalves s = true → alive s h = true → lsState s h = 2 → lsState s (other h) = 2 →
    Completes (.lsCopy h) s fun t =>
      (half t h).lge.mem = (half s (other h)).lge.mem ∧ (half t h).lge.tasks = (half s (other h)).lge.tasks ∧
      logicRuns t h = logicRuns s (other h))

/-- R512, R513, R523: self-test and memory errors. -/
def Obligations.SelfTestAndMemoryErrors : Prop :=
  (∀ h s, ownsLogic s h = true → twoHalves s = true → lsState s (other h) = 3 → lsState s h ≠ 3 →
    Completes (.mismatch h) s fun t =>
      lsState t h = 3 ∧ (half t h).gav.ownTest = 0 ∧ (half t h).gav.partnerTest = 0) ∧
  (∀ h pass s, lsState s h = 3 → (half s h).gav.ownTest = 0 → (half s h).gav.partnerTest = 0 →
    Completes (.selftestDone h pass) s fun t =>
      (half t h).gav.ownTest = (if pass then 1 else 2) ∧ (half t h).gav.testMsg = (if pass then 1 else 2)) ∧
  (∀ h s, lsState s h = 3 → (half s (other h)).gav.testMsg = 1 → (half s h).gav.ownTest = 1 →
    Completes (.selftestResult h) s fun t =>
      lsState t h = 2 ∧
      rd t h Reg.GAV_LS_STAT_DIVERGE = min 3 (lastHour s (s.ticks :: (half s h).gav.diverge)).length) ∧
  (∀ h s, lsState s h = 3 → (half s (other h)).gav.testMsg ≠ 0 → (half s h).gav.ownTest = 0 →
    Completes (.selftestResult h) s fun t =>
      (half t h).gav.partnerTest = (half s (other h)).gav.testMsg ∧ (half t (other h)).gav.testMsg = 0) ∧
  (∀ h region s, alive s h = true →
    Completes (.eccUncorrectable h region) s fun t =>
      nget (half t h).tally (7 * 65536 + if region = 0 then 1 else 2) = if region = 0 then 2 else 1) ∧
  (∀ h corrected s, alive s h = true →
    Completes (.scrubPass h corrected) s fun t =>
      nget (half t h).tally (7 * 65536 + 4) = if 64 < corrected then 1 else 0) ∧
  (∀ h s, nget (half s h).tally (7 * 65536 + 3) = 1 → (lastHour s (half s h).gav.latent).length ≤ 16 →
    Completes (.memHealthClear h) s fun t => nget (half t h).tally (7 * 65536 + 3) = 0)

/-- R62, R65, R66, R88: the mode commands. -/
def Obligations.ModeCommandsAccepted : Prop :=
  (∀ h kind index s, alive s h = true →
    ∀ e ∈ [(Instr.enterService h, 1, 0, 0), (Instr.enterTest h, 2, 0, 0), (Instr.exitTest h, 3, 0, 0),
        (Instr.extendTest h, 4, 0, 0), (Instr.enterLayup h, 5, 0, 0), (Instr.enableOutput h kind index, 8, kind, index),
        (Instr.disableOutput h kind index, 9, kind, index), (Instr.warmRestart h, 0xA, 0, 0), (Instr.coldRestart h, 0xB, 0, 0)],
      (modeStatusOf s h e.2.1 e.2.2.1 e.2.2.2 = 1 →
        Completes e.1 s fun t =>
          rd t h Reg.SYS_MODE_RESULT_STATUS = 0x01 ∧ rd t h Reg.SYS_MODE_RESULT_CMD = e.2.1 ∧
          rdB t h Reg.SYS_MODE_PEND = true ∧ rd t h Reg.SYS_MODE_TARGET = modeTarget e.2.1 (modeOf s h) ∧
          ∃ p, (half t h).mode.pend = some p ∧ p.cmd = e.2.1 ∧ p.target = modeTarget e.2.1 (modeOf s h) ∧
            p.arg = e.2.2.1 * 256 + e.2.2.2) ∧
      (modeStatusOf s h e.2.1 e.2.2.1 e.2.2.2 ≠ 1 →
        Completes e.1 s fun t =>
          rd t h Reg.SYS_MODE_RESULT_STATUS = modeStatusOf s h e.2.1 e.2.2.1 e.2.2.2 ∧
          rd t h Reg.SYS_MODE_RESULT_CMD = e.2.1 ∧ (half t h).mode.pend = (half s h).mode.pend)) ∧
  (∀ h s, alive s h = true → modeStatusOf s h 6 0 0 = 1 → (half s h).mode.layupExit < 2 →
    Completes (.exitLayup h) s fun t =>
      rd t h Reg.SYS_MODE_RESULT_STATUS = 0x01 ∧ rd t h Reg.SYS_MODE_TARGET = mSERVICE ∧
      (half t h).mode.layupExit = if (half s h).mode.layupExit = 1 then 2 else 3) ∧
  (∀ h faults s, alive s h = true → modeStatusOf s h 7 0 0 = 1 → rdB s .a Reg.SYS_LOCKOUT_ACTIVE = true →
    Completes (.exitLockout h faults) s fun t =>
      ∀ x, alive s x = true →
        modeOf t x = mBOOT ∧ (rd t x Reg.SYS_MODE_BOOT_STEP = 4 ∨ rd t x Reg.SYS_MODE_BOOT_STEP = 6))

/-- R62, R66, R70, R81, R83, R84: the change handshake and the timed transitions. -/
def Obligations.ModeChangesHappen : Prop :=
  (∀ h p s, (half s (other h)).mode.pend = some p → alive s h = true → acts s h = false → p.acked = false →
    (half s h).mode.pend = none →
    Completes (.modePropose h) s fun t =>
      (half t h).mode.pend = some { p with acked := true } ∧ rdB t h Reg.SYS_MODE_PEND = true) ∧
  (∀ h p s, (half s h).mode.pend = some p → acts s h = true → (half s (other h)).mode.pend.isSome = true →
    Completes (.modeAck h) s fun t => (half t h).mode.pend = some { p with acked := true }) ∧
  (∀ l p faults s, leader s = some l → present s l = true → running s l = true → (half s l).mode.pend = some p → p.cmd ≠ 0x100 →
    (p.acked = true → modeAllows p.cmd (modeOf s l) = true →
      Completes (.modeSwitchInstant faults) s fun t =>
        modeOf t l = modeTarget p.cmd (modeOf s l) ∧ rd t l Reg.SYS_MODE_RESULT_STATUS = 0x02 ∧ (half t l).mode.pend = none ∧
        ∀ x, present s x = true → running s x = true → (half s x).mode.pend.isSome = true → p.cmd ∈ [1, 2, 3, 5] →
          modeOf t x = modeTarget p.cmd 0) ∧
    (p.acked = false →
      Completes (.modeSwitchInstant faults) s fun t =>
        (∀ x, modeOf t x = modeOf s x ∧ (half t x).mode.pend = none) ∧ rd t l Reg.SYS_MODE_RESULT_STATUS = 0x16)) ∧
  (∀ l s, leader s = some l → modeOf s l = mSERVICE → layupReqOn s l = true → changePending s l = false → layupPermit s l = true →
    Completes .layupReqHeld s fun t =>
      rd t l Reg.SYS_MODE_RESULT_STATUS = 0x01 ∧ rd t l Reg.SYS_MODE_RESULT_CMD = 0 ∧
      ∃ p, (half t l).mode.pend = some p ∧ p.cmd = 5 ∧ p.target = mLAYUP) ∧
  (∀ l s, leader s = some l → modeOf s l = mLAYUP → layupReqOn s l = true → (half s l).mode.layupExit < 2 →
    Completes .layupReqFall s fun t =>
      rd t l Reg.SYS_MODE_RESULT_STATUS = 0x01 ∧ rd t l Reg.SYS_MODE_TARGET = mSERVICE ∧
      (half t l).mode.layupExit = if (half s l).mode.layupExit = 1 then 2 else 3) ∧
  (∀ l s, leader s = some l → modeOf s l = mLAYUP → (half s l).mode.layupExit = 0 →
    Completes .standbyPowerDown s fun t =>
      (half t l).mode.layupExit = 1 ∧
      (twoHalves s = true → (half t (other l)).mode.powered = false ∧ (half t (other l)).mode.inReset = true)) ∧
  (∀ l s, leader s = some l → layupWaits s l = true →
    (twoHalves s = false ∨ (running s (other l) = true ∧ rd s l Reg.GAV_LS_STAT_STATE = 1) →
      Completes .fastWakeDone s fun t => modeOf t l = mSERVICE ∧ (half t l).mode.layupExit = 0) ∧
    (twoHalves s = true → running s (other l) = false →
      Completes .fastWakeDone s fun t => modeOf t l = mLAYUP ∧ (half t l).mode.layupExit = 3) ∧
    Completes .layupExitTimeout s fun t => modeOf t l = mSERVICE ∧ (half t l).mode.layupExit = 0) ∧
  (∀ h s, present s h = true → running s h = true → modeOf s h = mTEST →
    Completes .testTimeout s fun t => modeOf t h = mSERVICE)

/-- R76, R77: the causes of LOCKOUT. -/
def Obligations.LockoutCausesLatch : Prop :=
  (∀ h c s, alive s h = true → (c = 0 ∧ bothFailed s = true ∨
      c = 1 ∧ (half s h).mode.hashMismatch = true ∧ (half s h).mode.bootAlone = false) →
    Completes (.lockoutRequest h c) s fun t =>
      rdB t .a Reg.SYS_LOCKOUT_ACTIVE = true ∧ (rdB s .a Reg.SYS_LOCKOUT_ACTIVE = false →
        rd t .a Reg.SYS_LOCKOUT_CAUSE = 2 ^ c ∧ ∀ x, alive s x = true → modeOf t x = mLOCKOUT)) ∧
  (∀ s, s.field.mon = 3 →
    Completes .gavelFault s fun t =>
      rdB t .a Reg.SYS_LOCKOUT_ACTIVE = true ∧ (rdB s .a Reg.SYS_LOCKOUT_ACTIVE = false →
        rd t .a Reg.SYS_LOCKOUT_CAUSE = 2 ^ 2 ∧ ∀ x, alive s x = true → modeOf t x = mLOCKOUT)) ∧
  (∀ s, s.field.supply = true →
    Completes .railFault s fun t =>
      t.field.rails = false ∧ rdB t .a Reg.SYS_LOCKOUT_ACTIVE = true ∧ (rdB s .a Reg.SYS_LOCKOUT_ACTIVE = false →
        rd t .a Reg.SYS_LOCKOUT_CAUSE = 2 ^ 3 ∧ ∀ x, alive s x = true → modeOf t x = mLOCKOUT)) ∧
  (∀ h s, present s h = true → running s h = true → (half s h).gav.withdrawn = false →
    rdB s .a Reg.TRM_CELL_STAT_BOOT_HOLD = false →
    Completes (.livenessTimeout h) s fun t =>
      absent t h = true ∧
      ((∀ x, x ≠ h → silent s x = true) → rdB t .a Reg.SYS_LOCKOUT_ACTIVE = true))

/-- R18, R72, R78, R612 to R614: resets, power-on and power-fail. -/
def Obligations.ResetsAndPowerFail : Prop :=
  (∀ vsup vhold s, supplyValid vsup vhold = true → vsup < 65536 →
    ((s.field.supply && rdB s .a Reg.PWR_PF_STAT_PF) = false →
      Completes (.powerOn vsup vhold) s fun t =>
        t.ticks = 0 ∧ t.field.supply = true ∧ rd t .a Reg.PWR_VOLT_VSUP = vsup ∧
        ∀ x, alive t x = false ∧ modeOf t x = mBOOT) ∧
    (s.field.supply = true → rdB s .a Reg.PWR_PF_STAT_PF = true → pfCause s vsup vhold = 0 →
      Completes (.powerRestoreBoot vsup vhold) s fun t =>
        t.ticks = 0 ∧ rdB t .a Reg.PWR_PF_STAT_PF = false ∧ rd t .a Reg.PWR_VOLT_VSUP = vsup ∧
        ∀ x, alive t x = false ∧ modeOf t x = mBOOT)) ∧
  (∀ s, s.field.supply = true →
    Completes .resetN s fun t =>
      t.ticks = s.ticks ∧ t.store.setUnits = s.store.setUnits ∧ rdB t .a Reg.SYS_LOCKOUT_ACTIVE = false ∧
      ∀ x, alive t x = false ∧ modeOf t x = mBOOT) ∧
  (∀ h s, present s h = true → (half s h).mode.powered = true →
    Completes (.halfReset h) s fun t =>
      alive t h = false ∧ modeOf t h = mBOOT ∧ (half t h).image = none ∧ absent t h = true) ∧
  (∀ vsup vhold times s, s.field.supply = true → rdB s .a Reg.PWR_PF_STAT_PF = false → pfCause s vsup vhold ≠ 0 →
    Completes (.powerFailDeclare vsup vhold times) s fun t =>
      rdB t .a Reg.PWR_PF_STAT_PF = true ∧ rd t .a Reg.PWR_PF_STAT_CAUSE = pfCause s vsup vhold ∧
      rdB t .a Reg.TRM_CELL_STAT_BOOT_HOLD = true ∧ (∀ x, alive t x = false) ∧
      ((∃ x, alive s x = true ∧ modeOf s x ≠ mBOOT) → rd t .a Reg.PWR_PF_STAT_STEP = 7)) ∧
  (∀ s, s.field.supply = true →
    Completes .converterStop s fun t =>
      t.field.supply = false ∧ (∀ x, alive t x = false) ∧ t.store = { s.store with clearing := false })

/-- R72, R74, R75, R109, R213: the commands of a half's boot. -/
def Obligations.BootStepsComplete : Prop :=
  (∀ h only sel faults s, releasable s h = true → (only = none ∨ only = some h) →
    Completes (.halfResetsReleased only sel faults) s fun t =>
      (half t h).mode.powered = true ∧ (half t h).mode.inReset = false ∧
      ((rd t h Reg.SYS_MODE_BOOT_STEP = 6 ∧ (half t h).image.isSome = true) ∨
        (rd t h Reg.SYS_MODE_BOOT_STEP = 4 ∧ (half t h).image = none))) ∧
  (∀ h i j s, (half s h).image = some i → (half s (other h)).image = some j → alive s h = true → alive s (other h) = true →
    rd s h Reg.SYS_MODE_BOOT_STEP = 6 → 6 ≤ rd s (other h) Reg.SYS_MODE_BOOT_STEP →
    Completes (.hash h) s fun t =>
      rd t h Reg.SYS_MODE_BOOT_STEP = 7 ∧ rd t h Reg.SYS_BOOT_PARTNER = (if i.hash = j.hash then 0 else 2) ∧
      (i.hash = j.hash → (half t h).fe.cal = 1) ∧
      (i.hash ≠ j.hash → (half s h).mode.bootAlone = false → rdB t .a Reg.SYS_LOCKOUT_ACTIVE = true)) ∧
  (∀ h s, alive s h = true → rd s h Reg.SYS_MODE_BOOT_STEP = 6 →
    Completes (.partnerHashTimeout h) s fun t =>
      rd t h Reg.SYS_MODE_BOOT_STEP = 7 ∧ rd t h Reg.SYS_BOOT_PARTNER = 1 ∧ rd t h Reg.GAV_STAT_PARTNER_ROLE = 3 ∧
      (half t h).fe.cal = 1) ∧
  (∀ h fast delays s, (half s h).fe.cal ≠ 0 → alive s h = true →
    Completes (.calibrationDone h fast delays) s fun t =>
      rd t h Reg.SMP_CAL_STAT_STATUS = 2 ∧ (half t h).fe.cal = 0 ∧
      ((half s h).fe.cal = 1 → rd s h Reg.SYS_MODE_BOOT_STEP = 7 →
        rd t h Reg.SYS_MODE_BOOT_STEP = 9 ∧ t.field.gavel.armed = true)) ∧
  (∀ h ms s, alive s h = true → rd s h Reg.SYS_MODE_BOOT_STEP = 10 →
    Completes (.bootComplete h ms) s fun t =>
      rd t h Reg.SYS_MODE_BOOT_STEP = 11 ∧ rd t h Reg.SYS_BOOT_DURATION = min ms 65535 ∧
      t.store.pcycle = s.store.pcycle + (if running s (other h) = true then 0 else 1) ∧
      ((present s (other h) && running s (other h) && acts s (other h)) = false → modeOf t h = bootMode s h) ∧
      (present s (other h) = true → running s (other h) = true → acts s (other h) = true →
        modeOf t h = modeOf s (other h)))

/-- R485, R605, R608: the ends of SET and RET commits. -/
def Obligations.StoreCommitsEnd : Prop :=
  ∀ h part page s, part ≠ 3 →
    (∀ u, firstJob s h part = some (.set u) →
      Completes (.storeCommitDone h part true page) s fun t =>
        t.store.setUnits.find? (fun v => v.group == u.group) = some u) ∧
    (∀ u, firstJob s h part = some (.ret u) →
      Completes (.storeCommitDone h part true page) s fun t => (retUnits t h).head? = some u) ∧
    (∀ j, firstJob s h part = some j →
      Completes (.storeCommitDone h part false page) s fun t => rdB t h Reg.PST_STAT_UNCORR = true)

/-- R106, R107, R109, R111, R121: image commands and the setting window. -/
def Obligations.ImageCommandsAndWindow : Prop :=
  (∀ h slot s, alive s h = true → imgStatus s h 1 slot = 1 →
    Completes (.verify h slot) s fun t =>
      rd t h Reg.IMG_STAT_CMD_STATUS = 0x01 ∧ rdB t h Reg.IMG_STAT_VERIFY_BUSY = true ∧
      rd t h Reg.IMG_STAT_VERIFY_SLOT = slot ∧ (half t h).mode.verifying = some slot) ∧
  (∀ h fault slot s, (half s h).mode.verifying = some slot →
    Completes (.imageVerifyDone h fault) s fun t =>
      let code := if (half s h).mode.verifyTouched = true then 0x10 else (verifySlot s h slot fault).1
      rd t h Reg.IMG_STAT_VERIFY_RESULT = code % 2 ^ 8 ∧ rd t h Reg.IMG_STAT_CMD_STATUS = (if code = 0 then 0x02 else 0x1E) ∧
      rdB t h Reg.IMG_STAT_VERIFY_BUSY = false ∧ (half t h).mode.verifying = none) ∧
  (∀ h slot fault s, alive s h = true → imgStatus s h 2 slot = 1 →
    ((verifySlot s h slot fault).1 = 0 →
      Completes (.activate h slot fault) s fun t =>
        rd t h Reg.IMG_STAT_CMD_STATUS = 0x01 ∧
        (∃ p, (half t h).mode.pend = some p ∧ p.cmd = 0x100 ∧ p.target = mBOOT ∧ p.slot = slot) ∧
        (slot < 2 → ∃ r, logGet t 1 0 = some r ∧ r.value = slot)) ∧
    ((verifySlot s h slot fault).1 ≠ 0 →
      Completes (.activate h slot fault) s fun t =>
        rd t h Reg.IMG_STAT_CMD_STATUS = 0x1E ∧ (half t h).mode.pend = (half s h).mode.pend)) ∧
  (∀ h addr v s, alive s h = true → 0x08000000 ≤ addr → addr ≤ 0x0801FFFF →
    (groupWritable s h (addr % 0x20000 / 0x4000) = true →
      Completes (.settingWindowWrite h addr v) s fun t =>
        nget (groupOf t h (addr % 0x20000 / 0x4000)).words (addr % 0x4000 / 4) = v % 2 ^ 32) ∧
    (groupWritable s h (addr % 0x20000 / 0x4000) = false →
      Completes (.settingWindowWrite h addr v) s fun t =>
        rdB t h Reg.SET_ACTIVE_WRITE_REFUSED = true ∧ ∀ x, (half t x).groups = (half s x).groups))

/-- R113, R114, R116, R118: the setting-group commands. -/
def Obligations.SettingGroupCommands : Prop :=
  (∀ h g s, alive s h = true → setStatus s h 1 g = 1 →
    (groupFails s h g = none →
      Completes (.stage h g) s fun t =>
        rd t h Reg.SET_RESULT_STATUS = 0x01 ∧ rd t h Reg.SET_CRC_CRC = groupCrc (groupOf s h g) % 2 ^ 32 ∧
        (∃ p, (half t h).mode.pendSet = some p ∧ p.switch = false ∧ p.group = g ∧ p.acked = alone s h) ∧
        (alone s h = true → ∃ u, CommitJob.set u ∈ (half t h).port.commits ∧ u.group = g ∧ u.data = groupOf s h g)) ∧
    (∀ k, groupFails s h g = some k →
      Completes (.stage h g) s fun t =>
        rd t h Reg.SET_RESULT_STATUS = 0x1A ∧ (half t h).mode.pendSet = (half s h).mode.pendSet)) ∧
  (∀ h g s, alive s h = true → setStatus s h 2 g = 1 →
    Completes (.switch h g) s fun t =>
      rd t h Reg.SET_RESULT_STATUS = 0x01 ∧
      ∃ p, (half t h).mode.pendSet = some p ∧ p.switch = true ∧ p.group = g ∧ p.acked = alone s h) ∧
  (∀ h g i s, alive s h = true → setStatus s h 3 g = 1 → (half s h).image = some i →
    Completes (.loadDefault h g) s fun t =>
      rd t h Reg.SET_RESULT_STATUS = 0x02 ∧ groupOf t h g = i.defaults.getD g default) ∧
  (∀ h p s, (half s (other h)).mode.pendSet = some p → p.switch = false → p.acked = false → alive s h = true → acts s h = false →
    Completes (.setStage h) s fun t =>
      groupOf t h p.group = groupOf s (other h) p.group ∧
      (∀ k, groupFails t h p.group = some k → (half t (other h)).mode.failReply = some k) ∧
      (groupFails t h p.group = none →
        (half t (other h)).mode.crcReply = some (groupCrc (groupOf s (other h) p.group)))) ∧
  (∀ h p s, (half s h).mode.pendSet = some p → p.switch = false → p.acked = false →
    (∀ c, (half s h).mode.failReply = none → (half s h).mode.crcReply = some c → c = rd s h Reg.SET_CRC_CRC →
      Completes (.setCrc h) s fun t =>
        (half t h).mode.pendSet = some { p with acked := true } ∧
        ∃ u, CommitJob.set u ∈ (half t h).port.commits ∧ u.group = p.group) ∧
    (∀ c, (half s h).mode.failReply = none → (half s h).mode.crcReply = some c → c ≠ rd s h Reg.SET_CRC_CRC →
      Completes (.setCrc h) s fun t => (half t h).mode.pendSet = none ∧ rd t h Reg.SET_RESULT_STATUS = 0x1D) ∧
    (∀ k, (half s h).mode.failReply = some k →
      Completes (.setCrc h) s fun t => (half t h).mode.pendSet = none ∧ rd t h Reg.SET_RESULT_STATUS = 0x1A) ∧
    Completes (.stageTimeout h) s fun t => (half t h).mode.pendSet = none ∧ rd t h Reg.SET_RESULT_STATUS = 0x16) ∧
  (∀ h p s, (half s (other h)).mode.pendSet = some p → p.switch = true → p.acked = false → alive s h = true → acts s h = false →
    (half s h).mode.pendSet = none →
    Completes (.setSwitch h) s fun t =>
      (half t h).mode.pendSet = some { switch := true, group := p.group, acked := true, entry := none }) ∧
  (∀ h p q s, (half s h).mode.pendSet = some p → (half s (other h)).mode.pendSet = some q → p.switch = true → q.switch = true →
    q.acked = true → acts s h = true →
    Completes (.setAck h) s fun t => (half t h).mode.pendSet = some { p with acked := true }) ∧
  (∀ h p s, (half s h).mode.pendSet = some p → p.switch = true → p.group < 8 →
    (p.acked = false →
      Completes (.switchAckTimeout h) s fun t =>
        (half t h).mode.pendSet = none ∧ rd t h Reg.SET_RESULT_STATUS = 0x16 ∧ activeGroup t h = activeGroup s h) ∧
    (acts s h = false ∨ p.acked = true →
      Completes (.groupSwitchInstant h) s fun t =>
        activeGroup t h = p.group ∧ (half t h).mode.pendSet = none ∧
        (acts s h = true → rd t h Reg.SET_RESULT_STATUS = 0x02)))

/-- R202 to R216, R769: clocks, the tracker, SYNC_OUT and calibration. -/
def Obligations.SampleTimingCommands : Prop :=
  (∀ h pll s, pll ≤ 1 →
    (rdB s h (pllLock pll) = true →
      Completes (.pllUnlock h pll) s fun t => rdB t h (pllLock pll) = false ∧ rdB t h (pllHist pll) = true) ∧
    (nget (half s h).fe.pllAt pll ≠ 0 →
      Completes (.pllRelock h pll) s fun t => rdB t h (pllLock pll) = true ∧ nget (half t h).fe.pllAt pll = 0)) ∧
  (∀ h s, (half s h).fe.tracking = false → (half s (other h)).fe.tracking = true → twoHalves s = true →
    Completes (.trkState h) s fun t =>
      (half t h).fe.tracking = true ∧ (half t h).fe.fT = (half s (other h)).fe.fT ∧ (half t h).fe.acc = (half s (other h)).fe.acc) ∧
  (∀ h f1 f2 phi s, (half s h).fe.tracking = true →
    Completes (.trackedCycleBoundary h f1 f2 phi) s fun t =>
      (half t h).fe.acc = 0 ∧ (half t h).fe.boundary = s.ticks + 1 ∧
      (half t h).fe.fT = stepF (half s h).fe.fT
        (if rd t h Reg.SMP_TRK_STAT_STATE = 2 then nominalF s h else ((pickSource s h f1 f2).1).getD (nominalF s h)) ∧
      (half t h).fe.fT ≤ (half s h).fe.fT + (half s h).fe.fT * 2 / 100 ∧
      (half s h).fe.fT ≤ (half t h).fe.fT + (half s h).fe.fT * 2 / 100) ∧
  (∀ h locked s, rdB s h Reg.SMP_SYNC_CFG_EN = true → modeOf s h ≠ mBOOT → rd s h Reg.SMP_SYNC_STAT_DRIVER = halfNo h →
    (syncTooSoon s h = false → Completes (.syncPulse h locked) s fun t => t.field.io.syncAt = s.ticks + 1) ∧
    (syncTooSoon s h = true →
      Completes (.syncPulse h locked) s fun t =>
        t.field.io.syncAt = s.field.io.syncAt ∧
        rd t h Reg.SMP_SYNC_STAT_SUPPRESSED = min (rd s h Reg.SMP_SYNC_STAT_SUPPRESSED + 1) (fmax Reg.SMP_SYNC_STAT_SUPPRESSED))) ∧
  (∀ h s, alive s h = true →
    (modeOf s h = mCOMMISSION →
      Completes (.cal h) s fun t => rd t h Reg.SMP_CAL_STAT_STATUS = 1 ∧ (half t h).fe.cal = 2) ∧
    (modeOf s h ≠ mCOMMISSION →
      Completes (.cal h) s fun t => rd t h Reg.SMP_CAL_STAT_STATUS = 4 ∧ (half t h).fe.cal = (half s h).fe.cal))

/-- R132, R144 to R149: the reference buffer and injection tests. -/
def Obligations.InjectionTestCommands : Prop :=
  (∀ h s, alive s h = true →
    Completes (.refBufferEnable h) s fun t =>
      rdB t h Reg.PCV_REF_EN = true ∧
      (rdB s h Reg.PCV_REF_EN = false → rdB t h Reg.PCV_REF_STAT_SETTLED = false ∧ (half t h).fe.settling = true)) ∧
  (∀ h s, rdB s h Reg.PCV_REF_EN = true → (half s h).fe.settling = true →
    Completes (.refsetElapsed h) s fun t => rdB t h Reg.PCV_REF_STAT_SETTLED = true ∧ (half t h).fe.settling = false) ∧
  (∀ h code s c, code < 256 →
    ((c = Instr.injectionTestSlot h code ∧ testEnabled s h code = true ∧ nget (half s h).fe.defers code = 0) ∨
      (c = Instr.injectionTestDefer h code ∧ nget (half s h).fe.defers code ≠ 0) ∨
      (c = Instr.injectionRetest h code ∧ testFailed s h code = true ∧ nget (half s h).fe.defers code = 0)) →
    (testReady s h code = true →
      Completes c s fun t =>
        (∃ x, (half t h).fe.test = some x ∧ x.code = code ∧ x.step = 1 ∧ x.aborted = false) ∧
        rdB t h Reg.PCV_TEST_STAT_ACTIVE = true ∧ rd t h Reg.PCV_TEST_STAT_CHANNEL = code) ∧
    (testReady s h code = false →
      Completes c s fun t =>
        (half t h).fe.test = (half s h).fe.test ∧
        (nget (half s h).fe.defers code < 60 → nget (half t h).fe.defers code = nget (half s h).fe.defers code + 1) ∧
        (60 ≤ nget (half s h).fe.defers code → nget (half t h).fe.defers code = 0 ∧
          rd t h Reg.PCV_TEST_STAT_SKIPPED =
            min (rd s h Reg.PCV_TEST_STAT_SKIPPED + 1) (fmax Reg.PCV_TEST_STAT_SKIPPED)))) ∧
  (∀ h x d0 d1 d2 s, (half s h).fe.test = some x → x.step = 1 →
    Completes (.testPointsDone h d0 d1 d2) s fun t =>
      ∃ y, (half t h).fe.test = some y ∧ y.code = x.code ∧ y.step = 2 ∧ (y.dev, y.point) = largestDev d0 d1 d2 ∧
        y.failed = decide (rd s h Reg.PCV_TEST_CFG_TOL * 839 < (largestDev d0 d1 d2).1.natAbs)) ∧
  (∀ h x s, (half s h).fe.test = some x → x.step = 1 →
    Completes (.tilePickup h x.code) s fun t =>
      ∃ y, (half t h).fe.test = some y ∧ y.code = x.code ∧ y.step = 2 ∧ y.aborted = true) ∧
  (∀ h x s, (half s h).fe.test = some x → x.step = 2 → spanOver s h x = true → (x.code < 0x30 ∨ 0xC0 ≤ x.code) →
    Completes (.substitutionEnd h) s fun t =>
      (half t h).fe.test = none ∧ rdB t h Reg.PCV_TEST_STAT_ACTIVE = false ∧
      (x.aborted = false → x.failed = false → testFailed t h x.code = false) ∧
      (x.aborted = false → x.failed = true → testFailed s h x.code = false → (x.code + 0x100) ∉ (half s h).fe.retests →
        x.code ∈ (half t h).fe.retests) ∧
      (x.aborted = false → x.failed = true → testFailed s h x.code = false → (x.code + 0x100) ∈ (half s h).fe.retests →
        testFailed t h x.code = true)) ∧
  (∀ h code s, Completes (.testStart h code) s fun t => code ∈ (half t h).fe.partnerTests) ∧
  (∀ h code s, Completes (.testEnd h code) s fun t => code ∉ (half t h).fe.partnerTests)

/-- R151, R154, R159: modulator clocks, bitstream supervision, housekeeping. -/
def Obligations.BitstreamAndHousekeeping : Prop :=
  (∀ h k freq s, alive s h = true → k < 4 →
    (freq % 8 = 1 → Completes (.mclkFreqWrite h k freq) s fun t =>
      rdB t h (mclkBit k 4) = true ∧ rd t h (Reg.BSI_MCLK_FREQ k) = rd s h (Reg.BSI_MCLK_FREQ k)) ∧
    (freq % 8 ≠ 1 → Completes (.mclkFreqWrite h k freq) s fun t => rd t h (Reg.BSI_MCLK_FREQ k) = freq % 8)) ∧
  (∀ h k hz s, k < 4 →
    Completes (.bsiClockMeasure h k hz) s fun t => rdB t h (mclkBit k 7) = clockBad (rd s h (Reg.BSI_MCLK_FREQ k)) hz) ∧
  (∀ h n ones on s, n < bsiCount s →
    ∀ e ∈ [(Instr.bsiOpenDetect h n on, 3, on), (Instr.bsiNoEdge h n, 2, true), (Instr.bsiTransition h n, 2, false),
        (Instr.bsiDensity h n ones, 1, decide (ones * 100 < 2 * 4096) || decide (98 * 4096 < ones * 100))],
      Completes e.1 s fun t =>
        rdB t h (bsiBit n e.2.1) = e.2.2 ∧ (e.2.2 = true → rdB t h (Reg.BSI_STAT_FAULT n) = true)) ∧
  (∀ h codes self s,
    Completes (.hkScan h codes self) s fun t =>
      rdB t h Reg.HKA_STAT_SELFCHECK = (decide (self + 8 < 2048) || decide (2048 + 8 < self)))

/-- R134, R137, R278 to R287, R300: the fast trip path. -/
def Obligations.FastTripCommands : Prop :=
  (∀ h ch code ovr incomplete inst s, fastPresent s ch = true → present s h = true →
    Completes (.fastSample h ch code ovr incomplete inst) s fun t =>
      ∃ v, rd t h (Reg.FCV_SAMP_RAW ch) = fastWord (code % 16384) ovr v ∧
        rd t h (Reg.FCV_SAMP_CORR ch) =
          ofSigned 16 (fastCorrect (rd s h (Reg.FCV_OFF_OFFSET ch)) (rd s h (Reg.FCV_GAIN_GAIN ch)) (fastWord (code % 16384) ovr v)) ∧
        (incomplete = true ∨ refGood s h = false → v = false)) ∧
  (∀ h ch s, rdB s h (Reg.FCV_CFG_FROZEN_EN ch) = true → rdB s h (Reg.FCV_STAT_FROZEN ch) = false →
    1048576 ≤ (fastChan s h ch).run → ch < 24 →
    Completes (.fcvFrozen h ch) s fun t =>
      rdB t h (Reg.FCV_STAT_FROZEN ch) = true ∧ rdB t h (Reg.FCV_STAT_FAULT ch) = true) ∧
  (∀ h f s, (fastFn s h f).sig = 1 → (fastFn s h f).win.length = 32 →
    Completes (.sigWindowClose h f) s fun t =>
      (fastFn t h f).sig = 2 ∧ (fastFn t h f).cls = (classify s h f (fastFn s h f).win).1 ∧
      (fastFn t h f).s1 = (classify s h f (fastFn s h f).win).2.2.2.2.1) ∧
  (∀ h f s, (fastFn s h f).sig = 2 →
    Completes (.sigHoldEnd h f) s fun t =>
      (fastFn t h f).sig = 0 ∨ ((fastFn t h f).sig = 1 ∧ slotOn s h (192 + f) = true)) ∧
  (∀ h k s, ((fastFn s h k).rstate = 1 ∨ (fastFn s h k).rstate = 2) →
    Completes (.maxrExpiry h false k) s fun t =>
      ∃ u, t = edgeTriggers (afterFast u h) h ∧ (fastFn u h k).rstate = 3 ∧ (fastFn u h k).op = true ∧
        rdB u h (Reg.FST_FSTAT_MAXR k) = true) ∧
  (∀ h k s, ((genFn s h k).rstate = 1 ∨ (genFn s h k).rstate = 2) →
    Completes (.maxrExpiry h true k) s fun t =>
      ∃ u, t = edgeTriggers (decideOut u h) h ∧ (genFn u h k).rstate = 3 ∧ (genFn u h k).op = (genFn s h k).pu) ∧
  (∀ n b s, n < 16 →
    (rdBit s .a Reg.FST_FTI_FAULT n = false →
      Completes (.ftiEdge n b) s fun t => ∀ h, present s h = true → rdBit t h Reg.FST_FTI_STATE n = b) ∧
    (rdBit s .a Reg.FST_FTI_FAULT n = false →
      Completes (.ftiFault n) s fun t =>
        ∀ h, present s h = true → rdBit t h Reg.FST_FTI_STATE n = false ∧ rdBit t h Reg.FST_FTI_FAULT n = true) ∧
    (rdBit s .a Reg.FST_FTI_FAULT n = true →
      Completes (.ftiFaultClear n b) s fun t =>
        ∀ h, present s h = true → rdBit t h Reg.FST_FTI_STATE n = b ∧ rdBit t h Reg.FST_FTI_FAULT n = false))

/-- R236, R247, R251, R252, R258, R266: filter chains and injection. -/
def Obligations.ChainCommands : Prop :=
  (∀ h c r x re im older inst cyc sat s, chainRec s h c = some r → respNow s h c < 4 → r.resp < 4 → r.det / 2 ^ 30 = 0 →
    (half s h).fe.test = none → (half s h).fe.cal = 0 → (half s h).fe.inj = none →
    Completes (.chainOutput h c x re im older inst cyc sat) s fun t =>
      ∃ u, t = chainFeed u h c inst cyc ∧ (chainRun u h c).re = correctCode s h r.src x ∧ (chainRun u h c).im = 0 ∧
        (chainRun u h c).inst = inst) ∧
  (∀ h c resp s, alive s h = true →
    (switchStatus s h c resp = 0x01 →
      Completes (.fltSwitch h c resp) s fun t =>
        rd t h Reg.PCV_FLT_RESULT_STATUS = 0x01 ∧ (chainRun t h c).pend = some resp ∧ (chainRun t h c).pendKind = 1) ∧
    (switchStatus s h c resp ≠ 0x01 →
      Completes (.fltSwitch h c resp) s fun t =>
        rd t h Reg.PCV_FLT_RESULT_STATUS = switchStatus s h c resp ∧ (half t h).fe = (half s h).fe)) ∧
  (∀ h c r s, alive s h = true → chainRec s h c = some r → bit r.det 29 = true → modeOf s h ≠ mBOOT →
    Completes (.peakReset h c) s fun t => rd t h Reg.PCV_FLT_RESULT_STATUS = 0x02 ∧ (chainRun t h c).pkReset = true) ∧
  (∀ h c r resp s, (chainRun s h c).pend = some resp → chainRec s h c = some r → c < 160 →
    Completes (.responseSwitchBoundary h c) s fun t =>
      (chainRun t h c).pend = none ∧ (r.resp < 4 → respNow t h c = resp % 2 ^ 8) ∧
      rdB t h (Reg.PCV_FLT_STAT_SWITCHED c) = ((chainRun s h c).pendKind == 1 && resp != r.resp)) ∧
  (∀ h v s, alive s h = true →
    Completes (.pcvFltSelWrite h v) s fun t =>
      rd t h Reg.PCV_FLT_SEL_CHAIN = v % 2 ^ 8 ∧
      (v < 160 → (chainRec s h v).isSome = true →
        rd t h (Reg.PCV_FLT_OUT_VALUE v) = chainWord s h v / 256 % 2 ^ 24 ∧
        rd t h (Reg.PCV_FLT_OUT_QUALITY v) = chainWord s h v % 256)) ∧
  (∀ h n s, alive s h = true →
    ((injStatus s h n).1 = 0x01 →
      Completes (.injStart h n) s fun t =>
        rd t h Reg.PCV_INJ_STAT_STATUS = 0x01 ∧ rdB t h Reg.PCV_INJ_STAT_ACTIVE = true ∧ rd t h Reg.PCV_INJ_STAT_SET = n ∧
        ∃ r, (half t h).fe.inj = some r ∧ r.set = n) ∧
    ((injStatus s h n).1 ≠ 0x01 →
      Completes (.injStart h n) s fun t =>
        rd t h Reg.PCV_INJ_STAT_STATUS = (injStatus s h n).1 ∧ (half t h).fe.inj = (half s h).fe.inj) ∧
    (modeOf s h ≠ mBOOT → (half s h).fe.inj.isSome = true →
      Completes (.injStop h) s fun t =>
        rd t h Reg.PCV_INJ_STAT_STATUS = 0x02 ∧ rdB t h Reg.PCV_INJ_STAT_ACTIVE = false ∧ (half t h).fe.inj = none))

/-- R331 to R335 and the timers of general functions. -/
def Obligations.GeneralAndRotationCommands : Prop :=
  (∀ h k s, (genFn s h k).frozen = true →
    Completes (.freezeDrop h k) s fun t =>
      (genFn t h k).frozen = false ∧ (genFn t h k).pu = false ∧ (genFn t h k).op = false ∧ (genFn t h k).valid = false) ∧
  (∀ h k s, (genFn s h k).resetting = true → (genFn s h k).pu = false →
    Completes (.definiteResetExpiry h k) s fun t =>
      genFn t h k = { genFn s h k with resetting := false, g := 0, elapsed := 0 }) ∧
  (∀ h k r s, genRec s h k = some r → r.type = 0xA → (genFn s h k).waits ≠ [] →
    Completes (.alignWaitExpiry h k) s fun t => (genFn t h k).waits.length < (genFn s h k).waits.length) ∧
  (∀ h fast f tile rest s, rotRuns s h = true → rdB s h Reg.FAB_ROT_CTRL_EN = true → (rotOf s h false).disabled = false →
    (rotOf s h fast).disabled = false → (rotOf s h fast).now = none → rotNext (rotFns s h fast) (rotOf s h fast).next = some f →
    rotHeld s h fast f = false → (rotOf s h fast).idle = tile :: rest →
    Completes (.rotationHandoverStart h fast) s fun t =>
      (rotOf t h fast).now = some (f, tile, false) ∧ (rotOf t h fast).idle = rest) ∧
  (∀ h fast f spare again s, (rotOf s h fast).now = some (f, spare, again) → nget (rotOf s h fast).kat spare = 0 →
    (rotHeld s h fast f = false →
      Completes (.comparisonComplete h fast none) s fun t =>
        nget (rotOf t h fast).host f = spare + 1 ∧ (rotOf t h fast).now = none ∧
        nget (rotOf t h fast).kat (nget (rotOf s h fast).host f - 1) = 1) ∧
    (∀ item, again = false →
      Completes (.comparisonComplete h fast (some item)) s fun t =>
        nget (rotOf t h fast).kat spare = 2 ∧ (rotOf t h fast).now = some (f, spare, false)) ∧
    (∀ item, again = true →
      Completes (.comparisonComplete h fast (some item)) s fun t =>
        nget (rotOf t h fast).host f = spare + 1 ∧ (rotOf t h fast).now = none)) ∧
  (∀ h fast tile ok vector s, nget (rotOf s h fast).kat tile ≠ 0 →
    Completes (.katComplete h fast tile ok vector) s fun t =>
      nget (rotOf t h fast).kat tile = 0 ∧
      (nget (rotOf s h fast).kat tile = 1 → ok = true → (rotOf t h fast).idle = (rotOf s h fast).idle ++ [tile]) ∧
      (∀ f sp ag, nget (rotOf s h fast).kat tile ≠ 1 → ok = true → (rotOf s h fast).now = some (f, sp, ag) →
        (rotOf t h fast).now = some (f, tile, true))) ∧
  (∀ h fast s, (rotOf s h fast).passAt ≠ 0 → (rotOf s h fast).late = false →
    (rotOf s h fast).passAt + 112500000000 < s.ticks + 1 →
    Completes (.rotLate h fast) s fun t => (rotOf t h fast).late = true ∧ rdB t h Reg.FAB_ROT_STAT_LATE = true)

/-- R374 to R388, R398: arc light. -/
def Obligations.ArcLightCommands : Prop :=
  (∀ n rise sat dis s, hasArc s = true → n ≤ 15 → s.field.io.arcLoaded = true → rdBit s .a Reg.ARC_LIGHT_LIGHT n = false →
    Completes (.lightRise n rise sat dis) s fun t =>
      rdBit t .a Reg.ARC_LIGHT_LIGHT n = true ∧ rd t .a (Reg.ARC_RISE_RISE n) = min rise 65535 ∧
      rdB t .a (Reg.ARC_RISE_QUAL n) =
        (decide (rise ≤ rxF s n 2 31 20) && !rdB s .a (cstatBit n 1) && !inStretch s n)) ∧
  (∀ n s, n ≤ 15 → rdBit s .a Reg.ARC_LIGHT_LIGHT n = true → rdBit s .a Reg.ARC_AMB_SAT n = false →
    Completes (.lightFall n) s fun t =>
      rdBit t .a Reg.ARC_LIGHT_LIGHT n = false ∧ rdBit t .a Reg.ARC_LIGHT_LIGHTQ n = false) ∧
  (∀ n level sat s, hasArc s = true → n ≤ 15 →
    Completes (.lightLevelSample n level sat) s fun t =>
      rd t .a (Reg.ARC_LEVEL_LEVEL n) = (if sat = true then 0x3FFFF else min level 0x3FFFF) ∧
      rdBit t .a Reg.ARC_AMB_SAT n = sat) ∧
  (∀ n s, n ≤ 15 → rd s .a (Reg.ARC_LEVEL_LEVEL n) < rxThresh s n → 2 * rd s .a (Reg.ARC_BASE_BASE n) < rxThresh s n →
    ((rd s .a (Reg.ARC_LEVEL_LEVEL n) : Int) - rd s .a (Reg.ARC_BASE_BASE n)).natAbs * 10 < rxThresh s n →
    Completes (.ambientResettled n) s fun t => rdB t .a (cstatBit n 1) = false) ∧
  (∀ h n part s, hasArc s = true → n < 16 →
    Completes (.stretchExpiry h n part) s fun t =>
      (part = 0 → (arcElem t h n).lightExt = false) ∧ (part = 1 → (arcElem t h n).qExt = false) ∧
      (part = 2 → (arcElem t h n).aExt = false) ∧ (part = 3 → (arcElem t h n).bExt = false)) ∧
  (∀ n s, codesRun s = true → codeOn s n = true → n < 16 →
    ((arcRx s n).backoff = false → Completes .codeCycle s fun t => (arcRx t n).code = 1) ∧
    ((arcRx s n).backoff = true → Completes (.codeRetry n) s fun t => (arcRx t n).code = 2)) ∧
  (∀ n own oth seen spread sat lo ls s, hasArc s = true → n ≤ 15 → (arcRx s n).code ≠ 0 →
    Completes (.codeComplete n own oth seen spread sat lo ls) s fun t =>
      rd t .a (Reg.ARC_CODE_RESULT n) = codeResult (rxRef s n) spread own oth sat (lo || ls) ∧
      rd t .a (Reg.ARC_CODE_SEEN n) = seen % 16 ∧ (arcRx t n).code = 0) ∧
  (∀ h mask s, alive s h = true → hasArc s = true → modeOf s h ≠ mBOOT → holds s h = true →
    Completes (.codeNow h mask) s (fun t =>
      rd t h Reg.ARC_RESULT_STATUS = 0x02 ∧
      ∀ n < 16, codesRun s = true → codeOn s n = true → (arcRx s n).backoff = false → (arcRx t n).code = 1) ∧
    Completes (.clrCounts h mask) s (fun t =>
      rd t h Reg.ARC_RESULT_STATUS = 0x02 ∧
      ∀ n < 16, bit mask n = true → rd t .a (Reg.ARC_CNT_PASS n) = 0 ∧ rd t .a (Reg.ARC_CNT_OBSC n) = 0) ∧
    Completes (.resume h mask) s (fun t =>
      rd t h Reg.ARC_RESULT_STATUS = 0x02 ∧ ∀ n < 16, bit mask n = true → rdB t .a (cstatBit n 0) = false))

/-- R415, R417, R427, R430, R431, R435: field inputs and supervision. -/
def Obligations.FieldInputCommands : Prop :=
  (∀ g mv s, g ≤ 7 →
    Completes (.supplyMeasure g mv) s fun t =>
      rd t .a ⟨(Reg.DIO_SUPV_V_EVEN (g / 2)).key, 16 * (g % 2) + 15, 16 * (g % 2)⟩ = min 65535 (mv / 10) ∧
      (supplyBand (supplyState s g) mv ≠ supplyState s g → nget s.field.io.supBand g = supplyBand (supplyState s g) mv →
        9 ≤ nget s.field.io.supN g → supplyState t g = supplyBand (supplyState s g) mv)) ∧
  (∀ n level current inst s, n ≤ 63 → rdBit s .a Reg.DIO_SUP_MISSING (n / 8) = false →
    Completes (.diWindow n level current inst) s fun t =>
      rd t .a (Reg.DIO_DISTAT_CURRENT n) = min current 255 ∧
      (level ≠ rdB s .a (Reg.DIO_DISTAT_STATE n) → diK s n ≤ (sget (fun _ => default) s.field.io.di n : DiRun).n + 1 →
        rdB t .a (Reg.DIO_DISTAT_STATE n) = level) ∧
      (level ≠ rdB s .a (Reg.DIO_DISTAT_STATE n) → (sget (fun _ => default) s.field.io.di n : DiRun).n + 1 < diK s n →
        rdB t .a (Reg.DIO_DISTAT_STATE n) = rdB s .a (Reg.DIO_DISTAT_STATE n))) ∧
  (∀ code s, twoHalves s = true → absent s .a = false → absent s .b = false →
    (code < 16 ∨ (32 ≤ code ∧ code < 64 ∧ rdBit s .a Reg.TRM_CLASS_DO_TRIP (code - 32) = true)) →
    Completes (.voteDisagreeTimer code) s fun t =>
      rdBit t .a (disBit code).1 (disBit code).2 = ((voteInputs s code).1 != (voteInputs s code).2)) ∧
  (∀ k s, k ≤ 3 → rdB s .a (Reg.TRM_TCS_CFG_EN k) = true → rdB s .a (Reg.TRM_TCS_STAT_PAUSED k) = false →
    Completes (.tcsFailTimer k) s fun t =>
      rdB t .a (Reg.TRM_TCS_STAT_FAIL k) = rdB s .a (Reg.TRM_TCS_STAT_OPEN k)) ∧
  (∀ g current s, g ≤ 3 →
    Completes (.grpOvercurrent g current) s fun t => rdBit t .a Reg.DIO_SUP_GRP_OC g = decide (3300 < current))

/-- R436, R437, R440 to R442, R447: digital outputs. -/
def Obligations.FieldOutputCommands : Prop :=
  (∀ n current s, n ≤ 31 → groupGood s (n / 8) = true →
    (∀ on, (on = true → doOn s n = true) →
      Completes (.doOverload n on current) s fun t =>
        rd t .a (Reg.DIO_DOCUR_CURRENT n) = min current 65535 ∧ rdB t .a (doFlag 0 n) = on) ∧
    ((current < 5 → doOn s n = true ∧ olOn s n = true) →
      Completes (.doOpenOn n current) s fun t =>
        rd t .a (Reg.DIO_DOCUR_CURRENT n) = min current 65535 ∧ rdB t .a (doFlag 1 n) = decide (current < 5)) ∧
    (rdBit s .a Reg.DIO_DO_VAL_VAL n = false → olOff s n = true → tcsOn s n = false → nget s.field.io.offAt n = 0 →
      Completes (.doOpenOffCheck n true) s (fun t => 2 ≤ nget s.field.io.openOff n → rdB t .a (doFlag 2 n) = true) ∧
      Completes (.doOpenOffCheck n false) s (fun t => rdB t .a (doFlag 2 n) = false ∧ nget t.field.io.openOff n = 0)) ∧
    (doOn s n = true →
      Completes (.doOvertemp n) s fun t => rdB t .a (doFlag 3 n) = true ∨ rdB t .a (doFlag 4 n) = true)) ∧
  (∀ n s, n ≤ 31 → nget s.field.io.retry n ≠ 0 →
    Completes (.doOvertempRetry n true) s (fun t => nget t.field.io.retry n = 0 ∧ rdB t .a (doFlag 3 n) = false) ∧
    Completes (.doOvertempRetry n false) s (fun t => rdB t .a (doFlag 3 n) = true ∨ rdB t .a (doFlag 4 n) = true)) ∧
  (∀ h s,
    (holds s h = true →
      Completes (.leaderRefresh h) s fun t =>
        t.field.io.refreshAt = s.ticks + 1 ∧ rd t .a Reg.DIO_DO_TMO_TMO = 0 ∧
        (refreshable s = true → rdB s h Reg.LGE_STAT_RUN = true → ∀ n < 32, bit (leaderDos s) n = true →
          rdBit t .a Reg.DIO_DO_VAL_VAL n = bit (nget (half s h).lge.pub areaQ) n)) ∧
    (holds s h = false →
      Completes (.leaderRefresh h) s fun t =>
        t.field.io = s.field.io ∧
        rd t .a Reg.DIO_REFRESH_DISCARDED = min (rd s .a Reg.DIO_REFRESH_DISCARDED + 1) (fmax Reg.DIO_REFRESH_DISCARDED))) ∧
  (∀ mask n s, n < 32 → s.field.io.tmoStopped = false → s.field.io.refreshAt ≠ 0 →
    bit mask n = true → bit (leaderDos s) n = true → rdBit s .a Reg.DIO_DO_TMO_TMO n = false →
    Completes (.doRefreshTimeout mask) s fun t =>
      rdBit t .a Reg.DIO_DO_TMO_TMO n = true ∧ rdB t .a (Reg.DIO_DOSTAT_TIMEOUT n) = true) ∧
  (∀ h index s, alive s h = true → modeOf s h ≠ mBOOT → holds s h = true →
    Completes (.unlatch h index) s (fun t =>
      rd t h Reg.DIO_RESULT_STATUS = 0x02 ∧ rdB t .a (doFlag 4 (index % 32)) = false ∧
      rd t .a (Reg.DIO_DOSTAT_RETRIES (index % 32)) = 0) ∧
    Completes (.unlatchAll h) s (fun t =>
      rd t h Reg.DIO_RESULT_STATUS = 0x02 ∧
      ∀ n < 32, rdB t .a (doFlag 4 n) = false ∧ rd t .a (Reg.DIO_DOSTAT_RETRIES n) = 0))

/-- R543 to R570: the recorder. -/
def Obligations.RecorderCommands : Prop :=
  (∀ h areas kind index inst a s, a < 8 → (areaRec s h a).isSome = true → (areaRun s h a).state = 1 →
    rdB s h Reg.PWR_PF_STAT_PF = false →
    ((half s h).dec.due.find? (fun d => d.2.1 == kind && d.2.2.1 == index) = none → bit areas a = true →
      Completes (.recorderTrigger h areas kind index inst) s fun t =>
        (areaRun t h a).state = 2 ∧ (areaRun t h a).tTrig = inst) ∧
    (∀ d, (half s h).dec.due.find? (fun d => d.2.1 == kind && d.2.2.1 == index) = some d → bit d.1 a = true →
      Completes (.recorderTrigger h areas kind index inst) s fun t =>
        (areaRun t h a).state = 2 ∧ (areaRun t h a).tTrig = d.2.2.2)) ∧
  (∀ h a ar s, a < 8 → areaRec s h a = some ar → (areaRun s h a).state = 2 → (areaRun s h a).seq < 2 ^ 32 →
    ((areaRun s h a).postLeft = 0 →
      Completes (.segmentClose h a) s fun t =>
        rd t h (Reg.ACQ_ASEQ_SEQ a) = (areaRun s h a).seq ∧ (areaRun t h a).state = 1 ∧
        (areaRun t h a).seq = ((areaRun s h a).seq + 1) % 2 ^ 32) ∧
    (ar.maxLen ≤ (areaRun s h a).preActual + (areaRun s h a).postDone →
      Completes (.segmentMaxLen h a) s fun t =>
        rd t h (Reg.ACQ_ASEQ_SEQ a) = (areaRun s h a).seq ∧ (areaRun t h a).state = 1 ∧
        bit (rd t h (Reg.ACQ_ALAST_FLAGS a)) 4 = true)) ∧
  (∀ h a g s, (areaRec s h a).isSome = true → unmeasured s h a = some g →
    Completes (.measurementsDone h a) s fun t =>
      nget (half t h).acq.measSeq a = g.seq + 1 ∧
      ∀ x ∈ (half t h).acq.segs, x.area = a → x.seq = g.seq → x.measured = true) ∧
  (∀ h areas s, alive s h = true →
    (acqStatus s h 1 areas = 0x02 → rdB s h Reg.PWR_PF_STAT_PF = false →
      Completes (.trigger h areas) s fun t =>
        rd t h Reg.ACQ_RESULT_STATUS = 0x02 ∧
        ∀ a < 8, bit areas a = true → (areaRun s h a).state = 1 → (areaRun t h a).state = 2) ∧
    (acqStatus s h 2 areas = 0x02 →
      Completes (.acqStop h areas) s fun t =>
        rd t h Reg.ACQ_RESULT_STATUS = 0x02 ∧
        ∀ a < 8, bit areas a = true → (areaRun t h a).state = 0 ∧ (areaRun t h a).stopped = 1) ∧
    (acqStatus s h 3 areas = 0x02 → modeOf s h ≠ mLAYUP →
      Completes (.acqStart h areas) s fun t =>
        rd t h Reg.ACQ_RESULT_STATUS = 0x02 ∧
        ∀ a < 8, bit areas a = true → (areaRun s h a).state = 0 → (areaRun t h a).state = 1)) ∧
  (∀ h v s, alive s h = true →
    Completes (.acqMselWrite h v) s fun t =>
      rd t h Reg.ACQ_MSEL_AREA = v / 2 ^ 8 % 8 ∧ rd t h Reg.ACQ_MSEL_ENTRY = v % 2 ^ 5 ∧
      ∀ ar, areaRec s h (v / 2 ^ 8 % 8) = some ar → v % 2 ^ 5 < ar.c → nget (half s h).acq.measSeq (v / 2 ^ 8 % 8) ≠ 0 →
        ∀ m < 16, rd t h (Reg.ACQ_MDATA_VALUE m) =
          nget (half s h).acq.meas ((v / 2 ^ 8 % 8) * 512 + (v % 2 ^ 5) * 16 + m) % 2 ^ 32) ∧
  (∀ h s,
    Completes (.recorderHealthWindow h true) s (fun t => nget (half t h).tally (12 * 65536 + 2) = 2) ∧
    Completes (.recorderHealthWindow h false) s (fun t => nget (half t h).tally (12 * 65536 + 1) = 0))

/-- R559, R560, R585 to R595: the commit job and the host channel. -/
def Obligations.CommitAndCrateCommands : Prop :=
  (∀ h g ar i s, nextPending s h = some g → areaRec s h g.area = some ar → (half s h).image = some i →
    (half s h).acq.job = none → g.measured = true → g.retried = false → rdB s h Reg.PWR_PF_STAT_PF = false → running s h = true →
    Completes (.commitJobStart h) s fun t =>
      (half t h).acq.job = some (g.area, g.seq) ∧ (half t h).crt.seg = nativeBytes s h i ar g ∧ (half t h).crt.pos = 0) ∧
  (∀ h g ar i choice s, jobSegment s h = some g → areaRec s h g.area = some ar → (half s h).image = some i →
    ((half s h).crt.pos < (half s h).crt.seg.length →
      Completes (.crateBlockDone h true false choice) s fun t =>
        let b := segmentBlock (hasCrate s) i ar (half s h).crt.seg (half s h).crt.pos
        (half t h).crt.pos = (half s h).crt.pos + b.1 ∧ (half t h).crt.out = (half s h).crt.out ++ b.2) ∧
    Completes (.crateBlockDone h true true choice) s fun t => (half t h).acq.job = none) ∧
  (∀ h j choice s, hasCrate s = true → (half s h).crt.job = some j → rd s h Reg.CRT_STAT_HSTATE = 1 →
    (j.op = 1 →
      Completes (.crateBlockDone h false false choice) s fun t =>
        rd t h Reg.CRT_IN_CONSUMED_COUNT = (j.consumed + jobCut j) % 2 ^ 32) ∧
    Completes (.crateBlockDone h false true choice) s fun t =>
      (half t h).crt.job = none ∧ rd t h Reg.CRT_RESULT_STATUS = 0x37 ∧ rd t h Reg.CRT_STAT_HSTATE = 3) ∧
  (∀ h a q g status s, a < 8 → q < 2 ^ 32 → (half s h).acq.job = some (a, q) → jobSegment s h = some g →
    (half s h).crt.seg.length ≤ (half s h).crt.pos →
    (∀ c, (c = Instr.commitJobDone h true status ∧ g.retried = false) ∨ (c = Instr.commitRetry h true status ∧ g.retried = true) →
      Completes c s fun t =>
        (half t h).acq.job = none ∧ rd t h (Reg.ACQ_ACOMM_SEQ a) = q ∧
        ∃ u ∈ recUnits t h, u.area = a ∧ u.segSeq = q ∧ u.payload = (half s h).crt.out) ∧
    (g.retried = false →
      Completes (.commitJobDone h false status) s fun t =>
        (half t h).acq.job = some (a, q) ∧ ∀ y ∈ (half t h).acq.segs, y.area = a → y.seq = q → y.retried = true) ∧
    (g.retried = true → Completes (.commitRetry h false status) s fun t => (half t h).acq.job = none)) ∧
  (∀ h fw s, alive s h = true → hasCrate s = true → crtStatus s h 1 fw = 0x01 → 0 < (jobOf s h).len →
    Completes (.crtStart h fw) s fun t =>
      (half t h).crt.job = some (jobOf s h) ∧
      (needSpace s h (jobOf s h) = false → rd t h Reg.CRT_STAT_HSTATE = 1 ∧ rd t h Reg.CRT_RESULT_STATUS = 0x01) ∧
      (needSpace s h (jobOf s h) = true → rd t h Reg.CRT_STAT_HSTATE = 2 ∧ rd t h Reg.CRT_RESULT_STATUS = 0x30)) ∧
  (∀ h fw j s, alive s h = true → hasCrate s = true → crtStatus s h 2 fw = 0x01 → (half s h).crt.job = some j →
    j.consumed < j.len → j.aborting = false →
    Completes (.crtResume h fw) s fun t =>
      (half t h).crt.job =
        some { j with dst := rd s h Reg.CRT_JDST_ADDR, cap := rd s h Reg.CRT_JCAP_CAP, produced := 0 }) ∧
  (∀ h j s, alive s h = true → hasCrate s = true → crtStatus s h 3 false = 0x01 → (half s h).crt.job = some j →
    (rd s h Reg.CRT_STAT_HSTATE = 2 →
      Completes (.crtAbort h) s fun t => (half t h).crt.job = none ∧ rd t h Reg.CRT_RESULT_STATUS = 0x19) ∧
    (rd s h Reg.CRT_STAT_HSTATE ≠ 2 →
      Completes (.crtAbort h) s fun t =>
        (half t h).crt.job = some { j with aborting := true } ∧ rd t h Reg.CRT_RESULT_STATUS = 0x01))

/-- R638 to R650: the time base. -/
def Obligations.TimeBaseCommands : Prop :=
  (∀ h s, alive s h = true →
    (timeStatus s h 1 = 0x02 → rd s .a Reg.TIME_SET_NS_NS < 1000000000 →
      Completes (.timeCommit h) s fun t =>
        now t = (rd s .a Reg.TIME_SET_SEC_HI_SEC * 2 ^ 32 + rd s .a Reg.TIME_SET_SEC_LO_SEC) * 1000000000
          + rd s .a Reg.TIME_SET_NS_NS / 8 * 8 ∧ synced t = false ∧ rd t .a Reg.TIME_RESULT_STATUS = 0x02) ∧
    (timeStatus s h 2 = 0x01 →
      Completes (.commitAtPps h) s fun t => rdB t .a Reg.TIME_STAT_PENDING = true ∧ rd t .a Reg.TIME_RESULT_STATUS = 0x01) ∧
    (timeStatus s h 3 = 0x02 →
      Completes (.timeStep h) s fun t =>
        now t = steppedTime s (toSigned 32 (rd s .a Reg.TIME_STEP_NS)) ∧ synced t = false ∧
        rd t .a Reg.TIME_RESULT_STATUS = 0x02) ∧
    (timeStatus s h 4 = 0x02 →
      Completes (.timeCancel h) s fun t => rdB t .a Reg.TIME_STAT_PENDING = false ∧ rd t .a Reg.TIME_RESULT_STATUS = 0x02)) ∧
  (∀ s, rdB s .a Reg.TIME_STAT_PENDING = true →
    Completes .timeLoadAtSecond s fun t =>
      now t = (rd s .a Reg.TIME_SET_SEC_HI_SEC * 2 ^ 32 + rd s .a Reg.TIME_SET_SEC_LO_SEC) * 1000000000 ∧
      rdB t .a Reg.TIME_STAT_PENDING = false ∧ rdB t .a Reg.TIME_STAT_TOD_SET = true) ∧
  (∀ h v s, alive s h = true →
    (holds s h = true → (toSigned 32 v).natAbs ≤ 200000 → rdB s .a Reg.TIME_CFG_SERVO = false →
      Completes (.timeSlewWrite h v) s fun t =>
        t.field.time.rhoTarget = toSigned 32 v ∧ rd t .a Reg.TIME_SLEW_PPB = v % 2 ^ 32) ∧
    (holds s h = false →
      Completes (.timeSlewWrite h v) s fun t =>
        rdB t h Reg.SYS_ERR_NOT_HOLDER = true ∧ t.field.time = s.field.time)) ∧
  (∀ domain master offset s, ptpSlave s domain = true →
    (s.field.time.master = master + 1 →
      Completes (.ptpSync domain master offset true) s (fun t => t.field.time.syncWait = some master) ∧
      Completes (.ptpSync domain master offset false) s fun t =>
        rd t .a Reg.TIME_OFFSET_NS = ofSigned 32 (satSigned 32 offset)) ∧
    (s.field.time.syncWait = some master →
      Completes (.ptpFollowUp domain master offset) s fun t =>
        rd t .a Reg.TIME_OFFSET_NS = ofSigned 32 (satSigned 32 offset)) ∧
    (∀ u, Completes (.ptpAnnounce domain master true (some u)) s fun t =>
      t.field.time.master = master + 1 ∧ rdB t .a Reg.TIME_UTC_VALID = true ∧ rd t .a Reg.TIME_UTC_OFFSET = u % 2 ^ 16)) ∧
  (∀ h domain delay s, alive s h = true → domain = rd s .a Reg.TIME_CFG_DOMAIN →
    Completes (.ptpPdelayReq h domain) s (fun t =>
      (half t h).mgmt.ptpAnswer = some (domain, rdB s .a Reg.TIME_CFG_TWO_STEP)) ∧
    (holds s h = true ∨ rdB s .a Reg.TIME_CFG_CLOCK = true →
      Completes (.ptpPdelayResp h domain delay) s fun t => t.field.time.linkDelay = delay)) ∧
  (∀ offset s, s.field.supply = true →
    Completes (.ppsInEdge offset) s fun t =>
      rd t .a Reg.TIME_PPSCAP_NS_NS = nsOf (now s) % 2 ^ 32 ∧ rdB t .a Reg.TIME_STAT_PPS_IN_OK = true) ∧
  (∀ s, Completes .ppsInLost s fun t => rdB t .a Reg.TIME_STAT_PPS_IN_OK = false) ∧
  (∀ s, timeSrc s ≠ 0 → s.field.time.measured = true →
    Completes .holdover s fun t =>
      synced t = false ∧ t.field.time.measured = false ∧
      (rdB s .a Reg.TIME_CFG_SERVO = true → rd t .a Reg.TIME_STAT_SERVO_STATE = 3)) ∧
  (∀ s, rdB s .a Reg.TIME_STAT_GRID_SLEW = true → s.field.time.grid = 0 →
    Completes .gridSlewDone s fun t => rdB t .a Reg.TIME_STAT_GRID_SLEW = false) ∧
  (∀ s, rdB s .a Reg.TIME_STAT_UNLOCK = false →
    Completes .tbClkUnlock s fun t => rdB t .a Reg.TIME_STAT_UNLOCK = true ∧ synced t = false) ∧
  (∀ s, rdB s .a Reg.TIME_STAT_UNLOCK = true → Completes .tbClkRelock s fun t => rdB t .a Reg.TIME_STAT_UNLOCK = false) ∧
  (∀ s, (rd s .a Reg.TIME_PPS_MODE = 1 ∨ (rd s .a Reg.TIME_PPS_MODE = 2 ∧ synced s = true)) →
    1 ≤ rd s .a Reg.TIME_PPS_WIDTH → rd s .a Reg.TIME_PPS_WIDTH ≤ 500 →
    Completes .ppsOutSecond s fun t => t.field.time.ppsEnd = s.ticks + 125000 * rd s .a Reg.TIME_PPS_WIDTH)

/-- R652 to R657, R665, R666: Stocktake and schedule entries. -/
def Obligations.StocktakeAndSchedule : Prop :=
  (∀ h s, alive s h = true → stkStatus s h 1 = 0x02 →
    Completes (.take h) s fun t =>
      rd t h Reg.STK_RESULT_STATUS = 0x02 ∧ rd t h Reg.STK_TAKE_NS_NS = nsOf (now s) % 2 ^ 32 ∧ rd t h Reg.STK_STAT_ORIGIN = 0 ∧
      nget (half t h).stk.shadow 0 = s.ticks % 2 ^ 32 ∧
      ∀ i, 2 ≤ i → nget (half t h).stk.shadow i = nget (half s h).stk.counters i) ∧
  (∀ h s, alive s h = true → stkStatus s h 2 = 0x02 → rdB s h Reg.STK_STAT_DPEND = false →
    rd s h Reg.STK_DLAST_TAG ≠ rd s h Reg.STK_DTAG_TAG →
    now s ≤ wordsTime (rd s h Reg.STK_DNS_NS) (rd s h Reg.STK_DSEC_LO_SEC) (rd s h Reg.STK_DSEC_HI_SEC) →
    Completes (.domainTakeCmd h) s fun t =>
      rd t h Reg.STK_RESULT_STATUS = 0x02 ∧ rdB t h Reg.STK_STAT_DPEND = true ∧
      (half t h).stk.dTag = rd s h Reg.STK_DTAG_TAG ∧
      (half t h).stk.dTime =
        wordsTime (rd s h Reg.STK_DNS_NS) (rd s h Reg.STK_DSEC_LO_SEC) (rd s h Reg.STK_DSEC_HI_SEC)) ∧
  (∀ h d s, (half s (other h)).stk.dRelay = some d → running s h = true → rdB s h Reg.STK_STAT_DPEND = false →
    rd s h Reg.STK_DLAST_TAG ≠ d.2 → now s ≤ d.1 →
    Completes (.domainTakeRelay h) s fun t =>
      (half t (other h)).stk.dRelay = none ∧ rdB t h Reg.STK_STAT_DPEND = true ∧
      (half t h).stk.dTag = d.2 ∧ (half t h).stk.dTime = d.1) ∧
  (∀ h s, rdB s h Reg.STK_STAT_DPEND = true → (half s h).stk.dTime ≤ now s →
    Completes (.domainTakeDue h) s fun t =>
      rdB t h Reg.STK_STAT_DPEND = false ∧ rd t h Reg.STK_STAT_ORIGIN = 2 ∧
      rd t h Reg.STK_DLAST_TAG = (half s h).stk.dTag % 2 ^ 32) ∧
  (∀ h e cfg s, alive s h = true → e < 16 →
    (schedArgOk (cfg / 2 ^ 24 % 16) (cfg % 2 ^ 24) = true → now s ≤ schedTime s h e →
      Completes (.scheduleArm h e cfg) s fun t =>
        schedArmed t h e = true ∧ rdB t h (Reg.TIME_SCH_CFG_ARM e) = true ∧
        rd t h (Reg.TIME_SCH_CFG_ACTION e) = cfg / 2 ^ 24 % 16 ∧ rd t h (Reg.TIME_SCH_CFG_ARG e) = cfg % 2 ^ 24) ∧
    (schedArgOk (cfg / 2 ^ 24 % 16) (cfg % 2 ^ 24) = false →
      Completes (.scheduleArm h e cfg) s fun t =>
        rd t h (Reg.TIME_SCH_STAT_STATUS e) = 0x10 ∧ schedArmed t h e = schedArmed s h e) ∧
    Completes (.scheduleDisarm h e cfg) s fun t =>
      schedArmed t h e = false ∧ rdB t h (Reg.TIME_SCH_CFG_ARM e) = false) ∧
  (∀ h e s, e < 16 → schedArmed s h e = true → now s = schedTime s h e →
    (rd s h (Reg.TIME_SCH_CFG_ACTION e) = 1 → stkStatus s h 1 = 0x02 →
      Completes (.scheduledStocktake h e) s fun t =>
        rd t h (Reg.TIME_SCH_STAT_STATE e) = 2 ∧ rd t h Reg.STK_STAT_ORIGIN = 1 ∧
        rd t h Reg.STK_TAKE_NS_NS = nsOf (now s) % 2 ^ 32) ∧
    (rd s h (Reg.TIME_SCH_CFG_ACTION e) = 2 →
      Completes (.scheduledSetSwitch h e) s fun t =>
        rd t h (Reg.TIME_SCH_STAT_STATUS e) = setStatus s h 2 (rd s h (Reg.TIME_SCH_CFG_ARG e)) ∧
        (setStatus s h 2 (rd s h (Reg.TIME_SCH_CFG_ARG e)) = 1 →
          ∃ p, (half t h).mode.pendSet = some p ∧ p.switch = true ∧ p.group = rd s h (Reg.TIME_SCH_CFG_ARG e) ∧ p.entry = some e) ∧
        (setStatus s h 2 (rd s h (Reg.TIME_SCH_CFG_ARG e)) ≠ 1 → rd t h (Reg.TIME_SCH_STAT_STATE e) = 3)) ∧
    (rd s h (Reg.TIME_SCH_CFG_ACTION e) = 3 → acqStatus s h 1 (rd s h (Reg.TIME_SCH_CFG_ARG e)) = 0x02 →
      rdB s h Reg.PWR_PF_STAT_PF = false →
      Completes (.recTrigger h e) s fun t =>
        rd t h (Reg.TIME_SCH_STAT_STATE e) = 2 ∧
        ∀ a < 8, bit (rd s h (Reg.TIME_SCH_CFG_ARG e)) a = true → (areaRun s h a).state = 1 → (areaRun t h a).state = 2) ∧
    (rd s h (Reg.TIME_SCH_CFG_ACTION e) = 4 → (injStatus s h (rd s h (Reg.TIME_SCH_CFG_ARG e))).1 = 0x01 →
      Completes (.testInject h e) s fun t =>
        rd t h (Reg.TIME_SCH_STAT_STATE e) = 2 ∧
        ∃ r, (half t h).fe.inj = some r ∧ r.set = rd s h (Reg.TIME_SCH_CFG_ARG e) ∧ r.tick = s.ticks) ∧
    (rd s h (Reg.TIME_SCH_CFG_ACTION e) = 5 → holds s h = true → rd s .a Reg.TIME_PPS_MODE = 3 →
      Completes (.pulse h e) s fun t =>
        rd t h (Reg.TIME_SCH_STAT_STATE e) = 2 ∧
        t.field.time.ppsEnd = s.ticks + 125 * rd s h (Reg.TIME_SCH_CFG_ARG e)))

/-- R673, R677, R683, R684, R690, R695: frames received. -/
def Obligations.ReceivedFramesAct : Prop :=
  (∀ h lane f e s, ardActive s h = true → rdB s h (laneUpFld lane) = true → frClass f = 0 → frType f = 1 →
    frameCheck s h lane f = 0 → bridgeRefuses s h lane f = false →
    pointSub s h (frNum f 16 4 % 2 ^ 20) 0 = some e → e.2.owner = frSrc f →
    Completes (.intertrip h lane f) s fun t =>
      (pointState t h e.1).value = 256 * (frNum f 16 4 / 2 ^ 24 % 2) + 128 ∧
      (pointState t h e.1).received = true ∧ (pointState t h e.1).stale = false) ∧
  (∀ h lane f e s, ardActive s h = true → rdB s h (laneUpFld lane) = true → frClass f = 2 → frType f = 1 →
    frameCheck s h lane f = 0 → bridgeRefuses s h lane f = false → bit (frNum f 36 4) 31 = true →
    pointSub s h (frNum f 36 4 % 2 ^ 20) 2 = some e → e.2.owner = frSrc f →
    Completes (.update h lane f) s fun t =>
      (pointState t h e.1).value = frNum f 40 4 ∧
      (pointState t h e.1).received = true ∧ (pointState t h e.1).stale = false) ∧
  (∀ h lane f s, ardActive s h = true → rdB s h (laneUpFld lane) = true → frClass f = 1 → frType f = 1 →
    frameCheck s h lane f = 0 → bridgeRefuses s h lane f = false →
    ((ardCfg s h).ssubs.zipIdx.find? fun e => e.1.src == frSrc f && e.1.stream == frNum f 16 1).isSome = true →
    Completes (.stream h lane f) s fun t =>
      ∃ u, t = pointsFeed u h ∧ frSeq f ∈ (sget (fun _ => default) (half u h).ard.replay (scKey f) : Replay).seen) ∧
  (∀ h lane f s, ardActive s h = true → rdB s h (laneUpFld lane) = true → frClass f = 2 → frameCheck s h lane f = 0 →
    bridgeRefuses s h lane f = false →
    (frType f = 2 → rdB s h Reg.STK_STAT_DPEND = false → rd s h Reg.STK_DLAST_TAG ≠ frNum f 26 4 → now s ≤ frTime f 16 →
      Completes (.domainTake h lane f) s fun t =>
        rdB t h Reg.STK_STAT_DPEND = true ∧ (half t h).stk.dTime = frTime f 16 ∧ (half t h).stk.dTag = frNum f 26 4) ∧
    (∀ offset, frType f = 3 → timeSrc s = 2 → holds s h = true → servoRuns s = true →
      Completes (.timeSync h lane f offset) s fun t =>
        rd t .a Reg.TIME_OFFSET_NS = ofSigned 32 (satSigned 32 offset)) ∧
    (frType f = 6 → frSrc f ≠ (ardCfg s h).unit → frSrc f / 64 = (ardCfg s h).unit / 64 →
      Completes (.map h lane f) s fun t =>
        sget (fun _ => (0, 0, 0)) (half t h).ard.map (frSrc f) = (frNum f 16 2, frNum f 18 2, frNum f 20 1)) ∧
    (frType f = 6 → frSrc f = (ardCfg s h).unit → ownFrame s h f = false →
      Completes (.map h lane f) s fun t => rdB t h Reg.ARD_STAT_DUP_ADDR = true)) ∧
  (∀ h lane f delay s, lane < 3 → ardActive s h = true → rdB s h (laneUpFld lane) = true → frClass f = 2 → frameCheck s h lane f = 0 →
    (frType f = 4 → nget (half s h).ard.seqs 2 < 2 ^ 32 →
      Completes (.pdelayReq h lane f) s fun t =>
        nget (half t h).ard.seqs 2 = nget (half s h).ard.seqs 2 + 1 ∧
        ∃ g, (half t h).ard.tx = [(lane, g)] ∧ frClass g = 2 ∧ frType g = 5 ∧ frSeq g = nget (half s h).ard.seqs 2) ∧
    (frType f = 5 →
      Completes (.pdelayResp h lane f delay) s fun t => rd t h (Reg.ARD_LANE_PROP lane) = min delay 0xFFF)) ∧
  (∀ h lane f k s, ardActive s h = true → rdB s h (laneUpFld lane) = true → frClass f = 3 → frType f = 1 →
    frameCheck s h lane f = 0 → bridgeRefuses s h lane f = false → (frDst f = (ardCfg s h).unit ∨ frDst f = 0x3FFF) →
    f.length = 64 → k < 28 →
    Completes (.bulk h lane f) s fun t =>
      byteAt (half t h).ard.bulk (frNum f 16 2 * 2 ^ 32 + frNum f 20 4 + k) = f.getD (24 + k) 0)

/-- R671, R673, R688, R690, R691, R695, R703: lanes, sending and stale points. -/
def Obligations.LanesAndPublications : Prop :=
  (∀ h lane s, present s h = true → lane < 3 →
    Completes (.laneUp h lane) s (fun t => rdB t h (laneUpFld lane) = true) ∧
    Completes (.laneDown h lane) s (fun t => rdB t h (laneUpFld lane) = false)) ∧
  (∀ h util peak s, ardActive s h = true → nget (half s h).ard.seqs 2 < 2 ^ 32 →
    Completes (.mapSend h util peak) s (fun t =>
      nget (half t h).ard.seqs 2 = nget (half s h).ard.seqs 2 + 1 ∧
      ∀ l < 3, rd t h (Reg.ARD_LANE_UTIL l) = min 100 (util.getD l 0)) ∧
    Completes (.pdelaySend h) s fun t =>
      nget (half t h).ard.seqs 2 = nget (half s h).ard.seqs 2 + 1 ∧
      ∀ e ∈ (half t h).ard.tx, rdB s h (laneUpFld e.1) = true ∧ frType e.2 = 4 ∧ frSeq e.2 = nget (half s h).ard.seqs 2) ∧
  (∀ h k r s, running s h = true → pubPaused s h k = false → (ardCfg s h).pubs[k]? = some r →
    Completes (.bazaarRefresh h k) s fun t =>
      nget (half t h).ard.published k = pubWord s h r ∧
      (ardActive s h = true → mayPublish s h r.cls = true → nget (half s h).ard.seqs (if r.cls = 0 then 0 else 2) < 2 ^ 32 →
        nget (half t h).ard.seqs (if r.cls = 0 then 0 else 2) =
          nget (half s h).ard.seqs (if r.cls = 0 then 0 else 2) + 1)) ∧
  (∀ h k r s, nget (half s h).ard.repeats k ≠ 0 → (ardCfg s h).pubs[k]? = some r →
    Completes (.intertripRepeat h k) s fun t =>
      nget (half t h).ard.repeats k = nget (half s h).ard.repeats k - 1 ∧
      (ardActive s h = true → mayPublish s h r.cls = true → nget (half s h).ard.seqs (if r.cls = 0 then 0 else 2) < 2 ^ 32 →
        nget (half t h).ard.seqs (if r.cls = 0 then 0 else 2) =
          nget (half s h).ard.seqs (if r.cls = 0 then 0 else 2) + 1)) ∧
  (∀ h k s, running s h = true → ((ardCfg s h).subs[k]?).isSome = true → (pointState s h k).stale = false →
    Completes (.pointStale h k) s fun t =>
      (pointState t h k).stale = true ∧
      ∃ u, t = pointsFeed u h ∧ rd u h Reg.ARD_BZ_STALE_COUNT =
        (rd s h Reg.ARD_BZ_STALE_COUNT + 1) % 2 ^ (Reg.ARD_BZ_STALE_COUNT.hi + 1 - Reg.ARD_BZ_STALE_COUNT.lo)) ∧
  (∀ h s, Completes (.arcadeAuthWindow h) s fun t => nget (half t h).tally (13 * 65536 + 4) = 0)

/-- R41, R43, R46 and the retransmission of GOOSE blocks (R710). -/
def Obligations.PaceAndRetransmission : Prop :=
  (∀ h counts s, alive s h = true →
    Completes (.paceMeasurement h counts) s fun t =>
      rd t h Reg.SYS_PACE_MON_FAIL = paceExcluded counts ∧
      (∀ w, paceWorst (paceKept counts) = some w →
        rd t h Reg.SYS_PACE_PACE = min w.1 65535 ∧ rd t h Reg.SYS_PACE_WORST_MON = w.2) ∧
      rd t h Reg.SYS_PACE_LOWEST_LOWEST ≤ rd t h Reg.SYS_PACE_PACE ∧
      rd t h Reg.SYS_PACE_CERT_CERT_MIN = rd s h Reg.SYS_PACE_CERT_CERT_MIN ∧
      ((paceKept counts).length < 6 ∨ rd t h Reg.SYS_PACE_PACE < rd t h Reg.SYS_PACE_CERT_CERT_MIN →
        rdB t h Reg.SYS_PACE_PACE_LOW = true)) ∧
  (∀ h s, alive s h = true → rdB s h Reg.SYS_PACE_PACE_LOW = true → 10000 ≤ (half s h).mode.paceGood →
    Completes (.paceLowClear h) s fun t =>
      rdB t h Reg.SYS_PACE_PACE_LOW = false ∧ rd t h Reg.SYS_PACE_PACE = rd s h Reg.SYS_PACE_PACE) ∧
  (∀ h block s, leaderPublishes s h = true → gooseOn s h 0 block = true → block < 32 →
    Completes (.gooseRetransmit h block) s fun t =>
      let g := sget (fun _ => default) (half t h).mgmt.gpubs block
      let old := sget (fun _ => default) (half s h).mgmt.gpubs block
      (gooseChanged s h block = true → g.stNum = gooseNext old.stNum ∧ g.sqNum = 0) ∧
      (gooseChanged s h block = false → g.stNum = old.stNum ∧ g.sqNum = gooseNext old.sqNum) ∧
      g.members = gooseMembers s h block)

/-- The frames of small commands, register by register. -/
def Obligations.SmallCommandFrames : Prop :=
  (∀ h v s t, exec (.acqMselWrite h v) s = .next t →
    OnlyRegs (placeOf h Reg.ACQ_MSEL_AREA :: placeOf h Reg.ACQ_MSEQ_SEQ ::
      (List.range 16).map fun m => placeOf h (Reg.ACQ_MDATA_VALUE m)) s t ∧
    t.store = s.store ∧ t.field = s.field ∧ ∀ g, half t g = half s g) ∧
  (∀ h q s t, exec (.ldgRselWrite h q) s = .next t →
    OnlyRegs [placeOf h Reg.LDG_RSEL_SEQ, placeOf h Reg.LDG_RSTAT_STATUS] s t ∧
    t.store = s.store ∧ t.field = s.field ∧
    ∀ g, half t g = { half s g with port := { (half s g).port with rdata := (half t g).port.rdata } }) ∧
  (∀ h v s t, exec (.pstImgDataWrite h v) s = .next t →
    OnlyRegs [placeOf h Reg.PST_IMG_PTR_PTR] s t ∧ t.field = s.field ∧
    t.store.ledger = s.store.ledger ∧ t.store.setUnits = s.store.setUnits ∧
    ((half s h).port.openSlot = none → t.store = s.store)) ∧
  (∀ h a v s t, exec (.settingWindowWrite h a v) s = .next t →
    OnlyRegs [placeOf .a Reg.SET_ACTIVE_WRITE_REFUSED, placeOf .b Reg.SET_ACTIVE_WRITE_REFUSED] s t ∧ t.store = s.store ∧ t.field = s.field ∧
    ∀ g, half t g = { half s g with groups := (half t g).groups }) ∧
  (∀ h v s t, exec (.timeSlewWrite h v) s = .next t →
    OnlyRegs [placeOf h Reg.SYS_ERR_NOT_HOLDER, placeOf h Reg.TIME_RESULT_STATUS, placeOf h Reg.TIME_SLEW_PPB] s t ∧
    t.store = s.store ∧ t.field = { s.field with time := { s.field.time with rhoTarget := t.field.time.rhoTarget } } ∧
    ∀ g, half t g = half s g) ∧
  (∀ h up ok s t, exec (.ethLinkChange h up ok) s = .next t →
    OnlyRegs [placeOf h Reg.ETH_STAT_LINK] s t ∧ t.store = s.store ∧ t.field = s.field ∧ ∀ g, half t g = half s g) ∧
  (∀ d m b u s t, exec (.ptpAnnounce d m b u) s = .next t →
    OnlyRegs [placeOf .a Reg.TIME_UTC_OFFSET] s t ∧ t.store = s.store ∧
    t.field = { s.field with time := { s.field.time with master := t.field.time.master } } ∧
    ∀ g, half t g = half s g) ∧
  (∀ h s t, exec (.handover h) s = .next t →
    OnlyRegs [placeOf h Reg.GAV_STAT_REQ] s t ∧ t.store = s.store ∧ t.field = s.field ∧ ∀ g, half t g = half s g)

/-- The step and the meaning of the front command. -/
def Obligations.StepRunsFrontCommand : Prop :=
  ∀ (c : Instr) rest (s : State), step { s with pending := c :: rest } = exec c { s with pending := rest }

/-- R638, R639 and log entry 1: the idle step. -/
def Obligations.EmptyQueueStepIsOneTick : Prop :=
  ∀ s, s.pending = [] → ∃ t, step s = .next t ∧ t.ticks = s.ticks + 1 ∧
    t.field.time.now = (s.field.time.now + 8) % (2 ^ 48 * 1000000000) ∧ t.regs = s.regs ∧ t.store = s.store ∧
    t.pending = [] ∧ t.variant = s.variant ∧ (∀ h, half t h = { half s h with
      trace := if alive s h = true ∧ (s.ticks + 1) % 2 = 0 then traceToggle (half s h).trace else (half s h).trace }) ∧
    t.field.mon = s.field.mon ∧ t.field.io = s.field.io

/-- R18: the reset values of the register map. -/
def Obligations.ResetStateHoldsResetValues : Prop :=
  (∀ h addr d, findReg addr = some d → addr < 0x1B0000 →
    ∀ f ∈ d.fields, bits (word State.reset h addr) f.hi f.lo = f.reset) ∧
  (∀ h, rd State.reset h Reg.SYS_PACE_LOWEST_LOWEST = 0xFFFF)

/-- R72: the state right after reset. -/
def Obligations.ResetMeetsInvariant : Prop :=
  Machine.Inv State.reset ∧ State.reset.pending = [] ∧ State.reset.field.mon = 0 ∧ leader State.reset = none ∧
    ∀ h, alive State.reset h = false ∧ modeOf State.reset h = mBOOT ∧ (half State.reset h).image = none

/-- The invariant of every step, from every state that meets it. -/
def Obligations.StepKeepsInvariant : Prop :=
  ∀ s t, Machine.Inv s → step s = .next t → Machine.Inv t

/-- No command of the table stops the block. -/
def Obligations.EveryCommandAnswersNextState : Prop :=
  ∀ (c : Instr) s, ∃ t, exec c s = .next t

/-- The frame of every command. -/
def Obligations.EveryCommandKeepsTheRest : Prop :=
  ∀ (c : Instr) s t, exec c s = .next t → Keeps (partSet (touches c)) s t

/-- R18: the scopes of the reset domains H and M. -/
def Obligations.ResetDomains : Prop :=
  (∀ h s, present s h = true → (half s h).mode.powered = true →
    Completes (.halfReset h) s fun t =>
      (∀ k, k / ownerStride = halfNo h → keyBlock k ∈ [4, 5, 7, 8, 9, 10, 12, 14, 15, 16, 20, 23, 25] →
        sget mapDefault t.regs k = mapDefault k) ∧
      (∀ k, k / ownerStride ≠ halfNo h → keyBlock k ∈ [1, 4, 5, 6, 7, 8, 9, 10, 12, 14, 15, 16, 20, 22, 23, 25] →
        sget mapDefault t.regs k = sget mapDefault s.regs k) ∧
      (half t h).fe = Half.reset.fe ∧ (half t h).lge = Half.reset.lge ∧ (half t h).dec = Half.reset.dec ∧
      (half t h).acq = Half.reset.acq ∧ (half t h).crt = Half.reset.crt ∧ (half t h).image = none ∧
      (half t (other h)).fe = (half s (other h)).fe ∧ (half t (other h)).lge = (half s (other h)).lge ∧
      (half t (other h)).dec = (half s (other h)).dec ∧ (half t (other h)).acq = (half s (other h)).acq ∧
      (half t (other h)).image = (half s (other h)).image ∧ (half t (other h)).groups = (half s (other h)).groups ∧
      t.ticks = s.ticks ∧ t.field.time = s.field.time ∧ t.field.supply = s.field.supply ∧ t.field.mon = s.field.mon) ∧
  (∀ s, s.field.supply = true → rdB s .a Reg.SYS_LOCKOUT_ACTIVE = false →
    Completes .resetN s fun t =>
      (∀ k, k ∉ [placeOf .a Reg.PCV_TEST_CFG_ALONE, placeOf .b Reg.PCV_TEST_CFG_ALONE, placeOf .a Reg.ARD_ERA_ERA,
          placeOf .b Reg.ARD_ERA_ERA] → sget mapDefault t.regs k = mapDefault k) ∧
      t.field = { FieldDie.reset with opBase := s.field.opBase } ∧ t.ticks = s.ticks ∧
      t.store.ledger = s.store.ledger)

end Statements
end

