-- ==== Sys2Proof/Laws/Sparse.lean ====
section
/-!
SUPPORT. The laws of sparse data: reading after writing, other keys untouched, and the canonical form kept.
-/

namespace Sys2Proof.Machine

variable {α : Type}

/-- A key below every listed one reads as the default. -/
theorem sget_of_swfFrom_le [DecidableEq α] (d : Nat → α) (m : List (Nat × α)) (n k : Nat)
    (h : swfFrom d (some n) m = true) (hk : k ≤ n) : sget d m k = d k := by
  cases m with
  | nil => rfl
  | cons e t =>
    obtain ⟨a, x⟩ := e
    simp only [swfFrom, Bool.and_eq_true, decide_eq_true_eq] at h
    simp [sget, show k < a by omega]

/-- Dropping the listings up to `k` keeps what every key above `k` reads. -/
theorem sget_sdrop_of_lt (d : Nat → α) (m : List (Nat × α)) (k j : Nat) (h : k < j) :
    sget d (sdrop m k) j = sget d m j := by
  induction m with
  | nil => rfl
  | cons e t ih =>
    obtain ⟨a, x⟩ := e
    by_cases ha : a ≤ k
    · simp [sdrop, sget, ha, ih, show ¬ j < a by omega, show ¬ j = a by omega]
    · simp [sdrop, ha]

/-- Dropping the listings up to `k` makes keys up to `k` read as the default. -/
theorem sget_sdrop_of_le (d : Nat → α) (m : List (Nat × α)) (k j : Nat) (h : j ≤ k) :
    sget d (sdrop m k) j = d j := by
  induction m with
  | nil => rfl
  | cons e t ih =>
    obtain ⟨a, x⟩ := e
    by_cases ha : a ≤ k
    · simp [sdrop, ha, ih]
    · simp [sdrop, ha, sget, show j < a by omega]

/-- The value just stored reads back. -/
@[simp] theorem sget_sset_same [DecidableEq α] (d : Nat → α) (m : List (Nat × α)) (k : Nat) (v : α) :
    sget d (sset d m k v) k = v := by
  induction m with
  | nil => by_cases hv : v = d k <;> simp [sset, sget, hv]
  | cons e t ih =>
    obtain ⟨a, x⟩ := e
    rcases Nat.lt_trichotomy k a with hk | hk | hk
    · by_cases hv : v = d k <;> simp [sset, sget, hk, hv]
    · subst hk
      by_cases hv : v = d k <;> simp [sset, sget, hv, sget_sdrop_of_le]
    · simp [sset, sget, show ¬ k < a by omega, show ¬ k = a by omega, ih]

/-- Storing at one key leaves what every other key reads. -/
theorem sget_sset_other [DecidableEq α] (d : Nat → α) (m : List (Nat × α)) (k j : Nat) (v : α) (h : j ≠ k) :
    sget d (sset d m k v) j = sget d m j := by
  induction m with
  | nil =>
    by_cases hv : v = d k
    · simp [sset, hv]
    · by_cases hj : j < k <;> simp [sset, sget, hv, hj, h]
  | cons e t ih =>
    obtain ⟨a, x⟩ := e
    rcases Nat.lt_trichotomy k a with hk | hk | hk
    · by_cases hv : v = d k
      · simp [sset, hk, hv]
      · by_cases hj : j < k
        · simp [sset, sget, hk, hv, hj, show j < a by omega]
        · simp [sset, sget, hk, hv, hj, h]
    · subst hk
      by_cases hj : j < k
      · by_cases hv : v = d k <;> simp [sset, sget, hv, hj, sget_sdrop_of_le, Nat.le_of_lt hj]
      · by_cases hv : v = d k <;>
          simp [sset, sget, hv, hj, h, sget_sdrop_of_lt, show k < j by omega]
    · by_cases hj : j < a
      · simp [sset, sget, show ¬ k < a by omega, show ¬ k = a by omega, hj]
      · simp [sset, sget, show ¬ k < a by omega, show ¬ k = a by omega, hj, ih]

/-- A weaker lower bound still holds. -/
theorem swfFrom_mono [DecidableEq α] (d : Nat → α) (m : List (Nat × α)) (i j : Nat) (h : i ≤ j)
    (hm : swfFrom d (some j) m = true) : swfFrom d (some i) m = true := by
  cases m with
  | nil => rfl
  | cons e t =>
    obtain ⟨a, x⟩ := e
    simp only [swfFrom, Bool.and_eq_true, decide_eq_true_eq] at hm ⊢
    exact ⟨⟨by omega, hm.1.2⟩, hm.2⟩

/-- In a canonical list that starts above `k` nothing is dropped. -/
theorem sdrop_of_swfFrom [DecidableEq α] (d : Nat → α) (m : List (Nat × α)) (k : Nat)
    (hm : swfFrom d (some k) m = true) : sdrop m k = m := by
  cases m with
  | nil => rfl
  | cons e t =>
    obtain ⟨a, x⟩ := e
    simp only [swfFrom, Bool.and_eq_true, decide_eq_true_eq] at hm
    simp [sdrop, show ¬ a ≤ k by omega]

/-- A bound that key `k` also meets. -/
def boundOk (lo : Option Nat) (k : Nat) : Bool :=
  match lo with
  | none => true
  | some n => decide (n < k)

/-- Storing keeps the canonical form. -/
theorem swfFrom_sset [DecidableEq α] (d : Nat → α) (m : List (Nat × α)) (lo : Option Nat) (k : Nat) (v : α)
    (hb : boundOk lo k = true) (hm : swfFrom d lo m = true) : swfFrom d lo (sset d m k v) = true := by
  induction m generalizing lo with
  | nil => by_cases hv : v = d k <;> simp_all [sset, swfFrom, boundOk] <;> cases lo <;> simp_all
  | cons e t ih =>
    obtain ⟨a, x⟩ := e
    have ht : swfFrom d (some a) t = true := by
      simp only [swfFrom, Bool.and_eq_true] at hm; exact hm.2
    have hx : x ≠ d a := by
      simp only [swfFrom, Bool.and_eq_true, decide_eq_true_eq] at hm; exact hm.1.2
    rcases Nat.lt_trichotomy k a with hk | hk | hk
    · by_cases hv : v = d k
      · simpa [sset, hk, hv] using hm
      · simp only [sset, hk, hv, if_true, if_false, swfFrom, Bool.and_eq_true, decide_eq_true_eq]
        refine ⟨⟨?_, hv⟩, ⟨trivial, hx⟩, ht⟩
        cases lo <;> simp_all [boundOk]
    · subst hk
      by_cases hv : v = d k
      · simp only [sset, Nat.lt_irrefl, hv, if_true, if_false, sdrop_of_swfFrom d t k ht]
        cases lo with
        | none =>
          cases t with
          | nil => rfl
          | cons e u => simp_all [swfFrom]
        | some n =>
          exact swfFrom_mono d t n k (by simp [boundOk] at hb; omega) ht
      · simp only [sset, Nat.lt_irrefl, hv, if_true, if_false, sdrop_of_swfFrom d t k ht, swfFrom,
          Bool.and_eq_true, decide_eq_true_eq]
        refine ⟨⟨?_, hv⟩, ht⟩
        cases lo <;> simp_all [boundOk]
    · simp only [sset, show ¬ k < a by omega, show ¬ k = a by omega, if_false, swfFrom, Bool.and_eq_true]
      simp only [swfFrom, Bool.and_eq_true] at hm
      exact ⟨hm.1, ih (some a) (by simp [boundOk, hk]) ht⟩

/-- Storing keeps the canonical form of a whole list. -/
theorem swf_sset [DecidableEq α] (d : Nat → α) (m : List (Nat × α)) (k : Nat) (v : α)
    (hm : swf d m = true) : swf d (sset d m k v) = true :=
  swfFrom_sset d m none k v rfl hm

/-- Erasing keys keeps the canonical form. -/
theorem swf_serase [DecidableEq α] (d : Nat → α) (p : Nat → Bool) (m : List (Nat × α))
    (hm : swf d m = true) : swf d (serase p m) = true := by
  have main : ∀ (l : List (Nat × α)) (lo : Option Nat), swfFrom d lo l = true →
      swfFrom d lo (l.filter fun e => !p e.1) = true := by
    intro l
    induction l with
    | nil => intro lo h; exact h
    | cons e t ih =>
      obtain ⟨a, x⟩ := e
      intro lo h
      simp only [swfFrom, Bool.and_eq_true, decide_eq_true_eq] at h
      by_cases hp : p a = true
      · simp only [List.filter, hp, Bool.not_true]
        cases lo with
        | none => cases t with
          | nil => rfl
          | cons e u =>
            refine ih none ?_
            have := h.2
            simp_all [swfFrom]
        | some n => exact ih (some n) (swfFrom_mono d t n a (by have := h.1.1; simp at this; omega) h.2)
      · simp only [List.filter, hp, Bool.not_false, swfFrom, Bool.and_eq_true, decide_eq_true_eq]
        exact ⟨h.1, ih (some a) h.2⟩
  exact main m none hm

end Sys2Proof.Machine
end

