-- ==== Sys2Proof/Laws/State.lean ====
section
/-!
SUPPORT. The laws of State updates: what each of the few ways to change a state leaves of every field.
-/

namespace Sys2Proof.Machine

open Sys2Proof (HalfId)

variable (s : State) (h g : HalfId) (x : Half) (k v : Nat) (f e : Fld)

@[simp] theorem other_other : other (other h) = h := by cases h <;> rfl
theorem other_ne : other h ≠ h := by cases h <;> decide

/-! ### Replacing a half -/

@[simp] theorem setHalf_variant : (setHalf s h x).variant = s.variant := by cases h <;> rfl
@[simp] theorem setHalf_pending : (setHalf s h x).pending = s.pending := by cases h <;> rfl
@[simp] theorem setHalf_regs : (setHalf s h x).regs = s.regs := by cases h <;> rfl
@[simp] theorem setHalf_ticks : (setHalf s h x).ticks = s.ticks := by cases h <;> rfl
@[simp] theorem setHalf_free : (setHalf s h x).free = s.free := by cases h <;> rfl
@[simp] theorem setHalf_field : (setHalf s h x).field = s.field := by cases h <;> rfl
@[simp] theorem setHalf_store : (setHalf s h x).store = s.store := by cases h <;> rfl
@[simp] theorem half_setHalf_same : half (setHalf s h x) h = x := by cases h <;> rfl
theorem half_setHalf_ne (hn : g ≠ h) : half (setHalf s h x) g = half s g := by
  cases h <;> cases g <;> first | rfl | exact absurd rfl hn
@[simp] theorem half_setHalf_other : half (setHalf s h x) (other h) = half s (other h) := by cases h <;> rfl
theorem half_setHalf : half (setHalf s h x) g = if g = h then x else half s g := by
  by_cases hn : g = h
  · subst hn; simp
  · simp [hn, half_setHalf_ne s h g x hn]

/-! ### Writing a register -/

@[simp] theorem setWord_variant : (setWord s h k v).variant = s.variant := rfl
@[simp] theorem setWord_pending : (setWord s h k v).pending = s.pending := rfl
@[simp] theorem setWord_ticks : (setWord s h k v).ticks = s.ticks := rfl
@[simp] theorem setWord_free : (setWord s h k v).free = s.free := rfl
@[simp] theorem setWord_field : (setWord s h k v).field = s.field := rfl
@[simp] theorem setWord_store : (setWord s h k v).store = s.store := rfl
@[simp] theorem half_setWord : half (setWord s h k v) g = half s g := by cases g <;> rfl

@[simp] theorem wr_variant : (wr s h f v).variant = s.variant := rfl
@[simp] theorem wr_pending : (wr s h f v).pending = s.pending := rfl
@[simp] theorem wr_ticks : (wr s h f v).ticks = s.ticks := rfl
@[simp] theorem wr_free : (wr s h f v).free = s.free := rfl
@[simp] theorem wr_field : (wr s h f v).field = s.field := rfl
@[simp] theorem wr_store : (wr s h f v).store = s.store := rfl
@[simp] theorem half_wr : half (wr s h f v) g = half s g := by cases g <;> rfl

@[simp] theorem wrB_variant (b : Bool) : (wrB s h f b).variant = s.variant := rfl
@[simp] theorem wrB_pending (b : Bool) : (wrB s h f b).pending = s.pending := rfl
@[simp] theorem wrB_ticks (b : Bool) : (wrB s h f b).ticks = s.ticks := rfl
@[simp] theorem wrB_free (b : Bool) : (wrB s h f b).free = s.free := rfl
@[simp] theorem wrB_field (b : Bool) : (wrB s h f b).field = s.field := rfl
@[simp] theorem wrB_store (b : Bool) : (wrB s h f b).store = s.store := rfl
@[simp] theorem half_wrB (b : Bool) : half (wrB s h f b) g = half s g := by cases g <;> rfl

@[simp] theorem wrBit_variant (i : Nat) (b : Bool) : (wrBit s h f i b).variant = s.variant := rfl
@[simp] theorem wrBit_pending (i : Nat) (b : Bool) : (wrBit s h f i b).pending = s.pending := rfl
@[simp] theorem wrBit_ticks (i : Nat) (b : Bool) : (wrBit s h f i b).ticks = s.ticks := rfl
@[simp] theorem wrBit_free (i : Nat) (b : Bool) : (wrBit s h f i b).free = s.free := rfl
@[simp] theorem wrBit_field (i : Nat) (b : Bool) : (wrBit s h f i b).field = s.field := rfl
@[simp] theorem wrBit_store (i : Nat) (b : Bool) : (wrBit s h f i b).store = s.store := rfl
@[simp] theorem half_wrBit (i : Nat) (b : Bool) : half (wrBit s h f i b) g = half s g := by cases g <;> rfl

@[simp] theorem word_setHalf : word (setHalf s h x) g k = word s g k := by simp [word]
@[simp] theorem rd_setHalf : rd (setHalf s h x) g f = rd s g f := by simp [rd]
@[simp] theorem rdB_setHalf : rdB (setHalf s h x) g f = rdB s g f := by simp [rdB]

end Sys2Proof.Machine
end

