-- ==== Sys2Proof/Laws/Ops.lean ====
section
/-!
SUPPORT. The laws of register fields: a field written reads back modulo its width, fields at other addresses and
other bits of the same register stay, and a field's value fits its width.
-/

namespace Sys2Proof.Machine

open Sys2Proof (HalfId)

/-- The owner's share of a key does not change its address. -/
theorem regKey_mod (h : HalfId) (k : Nat) : regKey h k % 0x100000000 = k % 0x100000000 := by
  unfold regKey ownerStride
  split
  · omega
  · cases h <;> simp only <;> omega

/-- Keys at different addresses stay different for every owner. -/
theorem regKey_ne (g h : HalfId) (j k : Nat) (hk : j % 0x100000000 ≠ k % 0x100000000) : regKey g j ≠ regKey h k := by
  intro he
  have := congrArg (· % 0x100000000) he
  simp only [regKey_mod] at this
  exact hk this

/-- The block of a register does not depend on the half that reaches it. -/
theorem keyBlock_regKey (h : HalfId) (k : Nat) : keyBlock (regKey h k) = keyBlock k := by
  simp [keyBlock, regKey_mod]

theorem word_lt (s : State) (h : HalfId) (k : Nat) : word s h k < 2 ^ 32 := (sget mapDefault s.regs (regKey h k)).isLt

/-- The word just stored reads back modulo 2^32. -/
@[simp] theorem word_setWord_same (s : State) (h : HalfId) (k v : Nat) : word (setWord s h k v) h k = v % 2 ^ 32 := by
  simp [word, setWord]

/-- Storing at one key leaves the words of the others. -/
theorem word_setWord_ne (s : State) (h g : HalfId) (k j v : Nat) (hk : regKey g j ≠ regKey h k) :
    word (setWord s h k v) g j = word s g j := by
  simp [word, setWord, sget_sset_other _ _ _ _ _ hk]

/-- The parts of a word around a field fit in 32 bits. -/
theorem putField_lt (w hi lo v : Nat) (hw : w < 2 ^ 32) (hl : lo ≤ hi) (hh : hi < 32) : putField w hi lo v < 2 ^ 32 := by
  unfold putField
  have e1 : 2 ^ (hi + 1) = 2 ^ (hi + 1 - lo) * 2 ^ lo := by rw [← Nat.pow_add]; congr 1; omega
  have e2 : 2 ^ 32 = 2 ^ (32 - (hi + 1)) * 2 ^ (hi + 1) := by rw [← Nat.pow_add]; congr 1; omega
  have h1 : w / 2 ^ (hi + 1) < 2 ^ (32 - (hi + 1)) := by
    rw [Nat.div_lt_iff_lt_mul (Nat.two_pow_pos _), ← e2]; exact hw
  have h2 : v % 2 ^ (hi + 1 - lo) < 2 ^ (hi + 1 - lo) := Nat.mod_lt _ (Nat.two_pow_pos _)
  have h3 : w % 2 ^ lo < 2 ^ lo := Nat.mod_lt _ (Nat.two_pow_pos _)
  have h4 : v % 2 ^ (hi + 1 - lo) * 2 ^ lo + w % 2 ^ lo < 2 ^ (hi + 1) := by
    have : (v % 2 ^ (hi + 1 - lo) + 1) * 2 ^ lo ≤ 2 ^ (hi + 1) := by
      rw [e1]; exact Nat.mul_le_mul_right _ h2
    rw [Nat.add_mul] at this; omega
  have h5 : (w / 2 ^ (hi + 1) + 1) * 2 ^ (hi + 1) ≤ 2 ^ 32 := by
    rw [e2]; exact Nat.mul_le_mul_right _ h1
  rw [Nat.add_mul] at h5; omega

/-- The field just put reads back modulo its width. -/
theorem bits_putField_same (w hi lo v : Nat) (hl : lo ≤ hi) : bits (putField w hi lo v) hi lo = v % 2 ^ (hi + 1 - lo) := by
  unfold bits putField
  have e1 : 2 ^ (hi + 1) = 2 ^ (hi + 1 - lo) * 2 ^ lo := by rw [← Nat.pow_add]; congr 1; omega
  have h3 : w % 2 ^ lo < 2 ^ lo := Nat.mod_lt _ (Nat.two_pow_pos _)
  have e2 : w / 2 ^ (hi + 1) * 2 ^ (hi + 1) + v % 2 ^ (hi + 1 - lo) * 2 ^ lo + w % 2 ^ lo
      = w % 2 ^ lo + (w / 2 ^ (hi + 1) * 2 ^ (hi + 1 - lo) + v % 2 ^ (hi + 1 - lo)) * 2 ^ lo := by
    rw [e1, Nat.add_mul, Nat.mul_assoc]; omega
  rw [e2, Nat.add_mul_div_right _ _ (Nat.two_pow_pos _), Nat.div_eq_of_lt h3, Nat.zero_add, Nat.add_comm,
    Nat.add_mul_mod_self_right, Nat.mod_mod]

/-- Bits above a field stay. -/
theorem putField_div_above (w hi lo v : Nat) (hl : lo ≤ hi) :
    putField w hi lo v / 2 ^ (hi + 1) = w / 2 ^ (hi + 1) := by
  unfold putField
  have e1 : 2 ^ (hi + 1) = 2 ^ (hi + 1 - lo) * 2 ^ lo := by rw [← Nat.pow_add]; congr 1; omega
  have h2 : v % 2 ^ (hi + 1 - lo) < 2 ^ (hi + 1 - lo) := Nat.mod_lt _ (Nat.two_pow_pos _)
  have h3 : w % 2 ^ lo < 2 ^ lo := Nat.mod_lt _ (Nat.two_pow_pos _)
  have h4 : v % 2 ^ (hi + 1 - lo) * 2 ^ lo + w % 2 ^ lo < 2 ^ (hi + 1) := by
    have : (v % 2 ^ (hi + 1 - lo) + 1) * 2 ^ lo ≤ 2 ^ (hi + 1) := by
      rw [e1]; exact Nat.mul_le_mul_right _ h2
    rw [Nat.add_mul] at this; omega
  rw [Nat.add_assoc, Nat.add_comm, Nat.add_mul_div_right _ _ (Nat.two_pow_pos _), Nat.div_eq_of_lt h4, Nat.zero_add]

/-- Bits below a field stay. -/
theorem putField_mod_below (w hi lo v : Nat) (hl : lo ≤ hi) : putField w hi lo v % 2 ^ lo = w % 2 ^ lo := by
  unfold putField
  have e1 : 2 ^ (hi + 1) = 2 ^ (hi + 1 - lo) * 2 ^ lo := by rw [← Nat.pow_add]; congr 1; omega
  rw [e1, ← Nat.mul_assoc, ← Nat.add_mul, Nat.add_comm, Nat.add_mul_mod_self_right, Nat.mod_mod]

/-- A field above the one put stays. -/
theorem bits_putField_above (w hi lo v hi' lo' : Nat) (hl : lo ≤ hi) (hd : hi < lo') :
    bits (putField w hi lo v) hi' lo' = bits w hi' lo' := by
  unfold bits
  have e : 2 ^ lo' = 2 ^ (hi + 1) * 2 ^ (lo' - (hi + 1)) := by rw [← Nat.pow_add]; congr 1; omega
  rw [e, ← Nat.div_div_eq_div_mul, ← Nat.div_div_eq_div_mul, putField_div_above _ _ _ _ hl]

/-- A field below the one put stays. -/
theorem bits_putField_below (w hi lo v hi' lo' : Nat) (hl : lo ≤ hi) (hl' : lo' ≤ hi') (hd : hi' < lo) :
    bits (putField w hi lo v) hi' lo' = bits w hi' lo' := by
  unfold bits
  have key : ∀ x : Nat, x / 2 ^ lo' % 2 ^ (hi' + 1 - lo') = x % 2 ^ lo / 2 ^ lo' % 2 ^ (hi' + 1 - lo') := by
    intro x
    have e : 2 ^ lo = 2 ^ lo' * 2 ^ (lo - lo') := by rw [← Nat.pow_add]; congr 1; omega
    rw [e, Nat.mod_mul_right_div_self, Nat.mod_mod_of_dvd]
    exact Nat.pow_dvd_pow 2 (by omega)
  rw [key, key w, putField_mod_below _ _ _ _ hl]

/-- A field reads back modulo its width after it is written. -/
theorem rd_wr_same (s : State) (h : HalfId) (f : Fld) (v : Nat) (hl : f.lo ≤ f.hi) (hh : f.hi < 32) :
    rd (wr s h f v) h f = v % 2 ^ (f.hi + 1 - f.lo) := by
  simp only [rd, wr, word_setWord_same]
  rw [Nat.mod_eq_of_lt (putField_lt _ _ _ _ (word_lt _ _ _) hl hh), bits_putField_same _ _ _ _ hl]

/-- A write leaves every register with another key. -/
theorem word_wr_ne (s : State) (h g : HalfId) (f : Fld) (k v : Nat) (hk : regKey g k ≠ regKey h f.key) :
    word (wr s h f v) g k = word s g k := word_setWord_ne _ _ _ _ _ _ hk

/-- A write leaves every field of a register with another key. -/
theorem rd_wr_ne (s : State) (h g : HalfId) (f e : Fld) (v : Nat) (hk : regKey g e.key ≠ regKey h f.key) :
    rd (wr s h f v) g e = rd s g e := by
  simp only [rd, word_wr_ne _ _ _ _ _ _ hk]

/-- A write leaves every field at another address, of either half. -/
theorem rd_wr_addr (s : State) (h g : HalfId) (f e : Fld) (v : Nat)
    (hk : e.key % 0x100000000 ≠ f.key % 0x100000000) : rd (wr s h f v) g e = rd s g e :=
  rd_wr_ne _ _ _ _ _ _ (regKey_ne _ _ _ _ hk)

/-- A write leaves the other fields of its register. -/
theorem rd_wr_disjoint (s : State) (h : HalfId) (f e : Fld) (v : Nat) (hk : e.key = f.key) (hl : f.lo ≤ f.hi)
    (hl' : e.lo ≤ e.hi) (hh : f.hi < 32) (hd : f.hi < e.lo ∨ e.hi < f.lo) : rd (wr s h f v) h e = rd s h e := by
  simp only [rd, wr, hk, word_setWord_same]
  rw [Nat.mod_eq_of_lt (putField_lt _ _ _ _ (word_lt _ _ _) hl hh)]
  rcases hd with hd | hd
  · exact bits_putField_above _ _ _ _ _ _ hl hd
  · exact bits_putField_below _ _ _ _ _ _ hl hl' hd

/-- A field's value fits its width. -/
theorem rd_lt (s : State) (h : HalfId) (f : Fld) : rd s h f < 2 ^ (f.hi + 1 - f.lo) :=
  Nat.mod_lt _ (Nat.two_pow_pos _)

/-- A one-bit field reads back what was written. -/
theorem rdB_wrB_same (s : State) (h : HalfId) (f : Fld) (b : Bool) (hl : f.lo = f.hi) (hh : f.hi < 32) :
    rdB (wrB s h f b) h f = b := by
  have : f.hi + 1 - f.lo = 1 := by omega
  simp only [rdB, wrB, rd_wr_same s h f (b2n b) (by omega) hh, this]
  cases b <;> decide

/-- The byte just stored reads back, and the other bytes of a byte memory stay. -/
theorem byteAt_putByte (m : List (Nat × Sys2Proof.Byte)) (a i : Nat) (b : Sys2Proof.Byte) :
    byteAt (putByte m a b) i = if i = a then b else byteAt m i := by
  by_cases hi : i = a
  · subst hi; simp [byteAt, putByte]
  · simp [byteAt, putByte, hi, sget_sset_other]

/-- Storing bytes keeps the canonical form of a byte memory. -/
theorem swf_putBytes (bs : List Sys2Proof.Byte) (m : List (Nat × Sys2Proof.Byte)) (a : Nat)
    (hm : swf (fun _ => 0) m = true) : swf (fun _ => 0) (putBytes m a bs) = true := by
  induction bs generalizing m a with
  | nil => exact hm
  | cons b t ih => exact ih _ _ (swf_sset _ _ _ _ hm)

/-- Storing bytes leaves every byte outside them. -/
theorem byteAt_putBytes_outside (bs : List Sys2Proof.Byte) (m : List (Nat × Sys2Proof.Byte)) (a i : Nat)
    (hi : i < a ∨ a + bs.length ≤ i) : byteAt (putBytes m a bs) i = byteAt m i := by
  induction bs generalizing m a with
  | nil => rfl
  | cons b t ih =>
    simp only [List.length_cons] at hi
    rw [putBytes, ih _ _ (by omega), byteAt_putByte, if_neg (by omega)]

/-- What the trace port does in a tick: a running half's port toggles at even ticks, and nothing else changes. -/
theorem tracePort_eq (s : State) (h : HalfId) : tracePort s h = setHalf s h { half s h with
    trace := if alive s h = true ∧ s.ticks % 2 = 0 then traceToggle (half s h).trace else (half s h).trace } := by
  unfold tracePort
  dsimp only
  by_cases h1 : alive s h = true <;> by_cases h2 : s.ticks % 2 = 0 <;> simp [h1, h2] <;> cases h <;> rfl

end Sys2Proof.Machine
end

