-- ==== Sys2Proof/Laws/Keeps.lean ====
section
/-!
SUPPORT. The laws of `Keeps`: reflexive, transitive, monotone in the set of parts, kept by folds and by the few ways
to change a state.
-/

namespace Sys2Proof.Machine

open Sys2Proof (HalfId)

/-- Set inclusion of part sets. -/
def subParts (a b : Nat) : Bool := a &&& b == a

/-- A part outside the larger set is outside the smaller. -/
theorem subParts_out (a b i : Nat) (h : subParts a b = true) (hb : b.testBit i = false) : a.testBit i = false := by
  have h' : a &&& b = a := by simpa [subParts] using h
  rw [← h', Nat.testBit_and, hb, Bool.and_false]

theorem Part.same_refl (p : Part) (s : State) : p.same s s := by
  cases p <;> simp [Part.same]

theorem Part.same_trans (p : Part) (s t u : State) (h1 : p.same s t) (h2 : p.same t u) : p.same s u := by
  cases p <;> simp only [Part.same] at * <;> simp_all

theorem Keeps.refl (m : Nat) (s : State) : Keeps m s s := ⟨rfl, rfl, id, fun p _ => p.same_refl s⟩

theorem Keeps.trans {m : Nat} {s t u : State} (h1 : Keeps m s t) (h2 : Keeps m t u) : Keeps m s u :=
  ⟨h2.variant.trans h1.variant, h2.pending.trans h1.pending, fun h => h2.wf (h1.wf h),
    fun p hp => p.same_trans s t u (h1.parts p hp) (h2.parts p hp)⟩

theorem Keeps.mono {a m : Nat} {s t : State} (h : Keeps a s t) (hm : subParts a m = true) : Keeps m s t :=
  ⟨h.variant, h.pending, h.wf, fun p hp => h.parts p (subParts_out a m _ hm hp)⟩

/-- One more operation: it keeps what a smaller set allows. -/
theorem Keeps.comp {a m : Nat} {r s t : State} (h : Keeps a s t) (hm : subParts a m = true) (hr : Keeps m r s) :
    Keeps m r t := hr.trans (h.mono hm)

theorem keeps_ite {m : Nat} {r s t : State} (c : Prop) {_ : Decidable c} (hs : Keeps m r s) (ht : Keeps m r t) :
    Keeps m r (if c then s else t) := by split <;> assumption

theorem keeps_foldl {m : Nat} {r s : State} {α : Type} (l : List α) (f : State → α → State)
    (hf : ∀ t x, Keeps m r t → Keeps m r (f t x)) (hs : Keeps m r s) : Keeps m r (l.foldl f s) := by
  induction l generalizing s with
  | nil => exact hs
  | cons x t ih => exact ih (hf _ _ hs)

theorem keeps_foldl_fst {m : Nat} {r : State} {α β : Type} (l : List α) (f : State × β → α → State × β) (p : State × β)
    (hf : ∀ q x, Keeps m r q.1 → Keeps m r (f q x).1) (hs : Keeps m r p.1) : Keeps m r (l.foldl f p).1 := by
  induction l generalizing p with
  | nil => exact hs
  | cons x t ih => exact ih _ (hf _ _ hs)

/-- The part of a register block is in the set, or the key is in no block of R47. -/
def fits (m key : Nat) : Bool := decide (27 ≤ keyBlock key) || m.testBit (keyBlock key)

theorem fits_mono {a m : Nat} (k : Nat) (hm : subParts a m = true) (h : fits a k = true) : fits m k = true := by
  simp only [fits, Bool.or_eq_true] at *
  rcases h with h | h
  · exact .inl h
  · refine .inr ?_
    cases hb : m.testBit (keyBlock k) with
    | true => rfl
    | false => rw [subParts_out a m _ hm hb] at h; exact absurd h (by decide)

/-- Banked keys stay in their block. -/
@[simp] theorem keyBlock_bank (a n : Nat) : keyBlock (a + n * 0x100000000) = keyBlock a := by
  simp [keyBlock]

/-- Instances of a register stay in their block. -/
theorem fits_instKey (m b st c n : Nat) (hb : b / 65536 = (b + (c - 1) * st) / 65536)
    (hl : b + (c - 1) * st < 0x100000000) (h : fits m b = true) : fits m (instKey b st c n) = true := by
  unfold instKey
  split
  · rename_i hn
    have h1 : n * st ≤ (c - 1) * st := Nat.mul_le_mul_right _ (by omega)
    have h2 : b / 65536 ≤ (b + n * st) / 65536 := Nat.div_le_div_right (by omega)
    have h3 : (b + n * st) / 65536 ≤ (b + (c - 1) * st) / 65536 := Nat.div_le_div_right (by omega)
    have h4 : keyBlock (b + n * st) = keyBlock b := by
      unfold keyBlock
      rw [Nat.mod_eq_of_lt (by omega), Nat.mod_eq_of_lt (by omega)]; omega
    simpa [fits, h4] using h
  · simp [fits, nowhere, keyBlock]

/-- Keys of banked registers fit where the first bank does. -/
theorem fits_bank (m a n : Nat) : fits m (a + n * 0x100000000) = fits m a := by simp [fits]

theorem fits_ite {m : Nat} (c : Prop) {_ : Decidable c} (a b : Fld) (ha : fits m a.key = true) (hb : fits m b.key = true) :
    fits m (if c then a else b).key = true := by split <;> assumption

theorem fits_ite_fst {m : Nat} {α : Type} (c : Prop) {_ : Decidable c} (a b : Fld × α) (ha : fits m a.1.key = true)
    (hb : fits m b.1.key = true) : fits m (if c then a else b).1.key = true := by split <;> assumption

/-- The second component of a pair-valued operation. -/
theorem Keeps.pair {m : Nat} {r t : State} {α : Type} {p : α × State} {a : α} (he : p = (a, t))
    (hk : Keeps m r p.2) : Keeps m r t := by rw [he] at hk; exact hk

/-- The state after an outcome; the state before it where the machine stops. -/
def after (s : State) : Host.Outcome State Fault Refusal → State
  | .next t => t
  | _ => s

@[simp] theorem after_next (s t : State) : after s (.next t) = t := rfl

theorem Keeps.of_after {m : Nat} {s t : State} {o : Host.Outcome State Fault Refusal} (he : o = .next t)
    (hk : Keeps m s (after s o)) : Keeps m s t := by rw [he] at hk; exact hk

/-- The set of all parts. -/
def allParts : Nat := 0x1FFFFFFFFFFFFF

theorem Keeps.all {r s t : State} (hv : t.variant = s.variant) (hp : t.pending = s.pending)
    (hw : swf mapDefault s.regs = true → swf mapDefault t.regs = true) (hs : Keeps allParts r s) : Keeps allParts r t := by
  refine hs.trans ⟨hv, hp, hw, fun p hm => ?_⟩
  cases p with
  | block b =>
    intro hb
    have : allParts = 2 ^ 53 - 1 := by decide
    rw [this, Part.code, Nat.testBit_two_pow_sub_one] at hm
    simp only [decide_eq_false_iff_not] at hm
    omega
  | _ => exact absurd hm (by decide)

/-- Storing a word changes its block only. -/
theorem keeps_setWord {m : Nat} {r s : State} (h : HalfId) (k v : Nat) (hm : fits m k = true) (hs : Keeps m r s) :
    Keeps m r (setWord s h k v) := by
  refine hs.trans ⟨rfl, rfl, fun hw => swf_sset _ _ _ _ hw, fun p hp => ?_⟩
  cases p with
  | block b =>
    intro hb j hj
    refine sget_sset_other _ _ _ _ _ fun he => ?_
    rw [he, keyBlock_regKey] at hj
    simp only [fits, Bool.or_eq_true, decide_eq_true_eq] at hm
    rcases hm with hm | hm
    · omega
    · rw [hj] at hm; rw [show m.testBit b = false from hp] at hm; exact absurd hm (by decide)
  | _ => simp [Part.same]

theorem keeps_wr {m : Nat} {r s : State} (h : HalfId) (f : Fld) (v : Nat) (hm : fits m f.key = true)
    (hs : Keeps m r s) : Keeps m r (wr s h f v) := keeps_setWord h _ _ hm hs

theorem keeps_wrB {m : Nat} {r s : State} (h : HalfId) (f : Fld) (b : Bool) (hm : fits m f.key = true)
    (hs : Keeps m r s) : Keeps m r (wrB s h f b) := keeps_setWord h _ _ hm hs

theorem keeps_wrBit {m : Nat} {r s : State} (h : HalfId) (f : Fld) (i : Nat) (b : Bool) (hm : fits m f.key = true)
    (hs : Keeps m r s) : Keeps m r (wrBit s h f i b) := keeps_setWord h _ _ hm hs

/-- Parts of a half by their number. -/
def halfSame (x y : Half) : Part → Prop
  | .mode => y.mode = x.mode
  | .image => y.image = x.image
  | .groups => y.groups = x.groups
  | .tally => y.tally = x.tally
  | .evSeq => y.evSeq = x.evSeq
  | .port => y.port = x.port
  | .stk => y.stk = x.stk
  | .acq => y.acq = x.acq
  | .crt => y.crt = x.crt
  | .ard => y.ard = x.ard
  | .evq => y.evq = x.evq
  | .mgmt => y.mgmt = x.mgmt
  | .trace => y.trace = x.trace
  | .fe => y.fe = x.fe
  | .dec => y.dec = x.dec
  | .lge => y.lge = x.lge
  | .gav => y.gav = x.gav
  | _ => True

/-- Replacing a half changes the parts that differ only. -/
theorem keeps_setHalf {m : Nat} {r s : State} (h : HalfId) (x : Half)
    (hx : ∀ p : Part, m.testBit p.code = false → halfSame (half s h) x p) (hs : Keeps m r s) :
    Keeps m r (setHalf s h x) := by
  refine hs.trans ⟨by simp, by simp, by simp, fun p hp => ?_⟩
  have hxp := hx p hp
  cases p <;> simp only [Part.same, halfSame, setHalf_field, setHalf_ticks, setHalf_free, setHalf_store, setHalf_regs,
    and_self, implies_true] at hxp ⊢ <;> intro g <;> rw [half_setHalf] <;> split <;> simp_all

/-! ### What stays, part by part -/

section Stay

variable {m : Nat} {s t : State}

/-- Registers of a block outside the set keep their words. -/
theorem Keeps.word (hk : Keeps m s t) (g : HalfId) (k : Nat) (hb : keyBlock k < 27)
    (hm : m.testBit (keyBlock k) = false) : word t g k = word s g k := by
  unfold Machine.word
  rw [hk.parts (.block (keyBlock k)) hm hb (regKey g k) (keyBlock_regKey g k)]

/-- Fields of a block outside the set keep their values. -/
theorem Keeps.rd (hk : Keeps m s t) (g : HalfId) (f : Fld) (hb : keyBlock f.key < 27)
    (hm : m.testBit (keyBlock f.key) = false) : rd t g f = rd s g f := by
  unfold Machine.rd
  rw [hk.word g f.key hb hm]

theorem Keeps.rdB (hk : Keeps m s t) (g : HalfId) (f : Fld) (hb : keyBlock f.key < 27)
    (hm : m.testBit (keyBlock f.key) = false) : rdB t g f = rdB s g f := by
  unfold Machine.rdB
  rw [hk.rd g f hb hm]

theorem Keeps.rdBit (hk : Keeps m s t) (g : HalfId) (f : Fld) (i : Nat) (hb : keyBlock f.key < 27)
    (hm : m.testBit (keyBlock f.key) = false) : rdBit t g f i = rdBit s g f i := by
  unfold Machine.rdBit
  rw [hk.rd g f hb hm]

theorem Keeps.ticks (hk : Keeps m s t) (hm : m.testBit 28 = false) : t.ticks = s.ticks := hk.parts .ticks hm
theorem Keeps.free (hk : Keeps m s t) (hm : m.testBit 29 = false) : t.free = s.free := hk.parts .free hm
theorem Keeps.time (hk : Keeps m s t) (hm : m.testBit 30 = false) : t.field.time = s.field.time := hk.parts .time hm
theorem Keeps.now (hk : Keeps m s t) (hm : m.testBit 30 = false) : now t = now s := by
  unfold Machine.now; rw [hk.time hm]
theorem Keeps.mon (hk : Keeps m s t) (hm : m.testBit 31 = false) : t.field.mon = s.field.mon := (hk.parts .die hm).2.2.2.2
theorem Keeps.io (hk : Keeps m s t) (hm : m.testBit 32 = false) : t.field.io = s.field.io := hk.parts .io hm
theorem Keeps.rounds (hk : Keeps m s t) (hm : m.testBit 33 = false) : t.field.gavel = s.field.gavel := hk.parts .rounds hm
theorem Keeps.store (hk : Keeps m s t) (hm : m.testBit 34 = false) : t.store = s.store := hk.parts .store hm
theorem Keeps.mode (hk : Keeps m s t) (hm : m.testBit 35 = false) (h : HalfId) : (half t h).mode = (half s h).mode :=
  hk.parts .mode hm h
theorem Keeps.image (hk : Keeps m s t) (hm : m.testBit 36 = false) (h : HalfId) : (half t h).image = (half s h).image :=
  hk.parts .image hm h
theorem Keeps.groups (hk : Keeps m s t) (hm : m.testBit 37 = false) (h : HalfId) : (half t h).groups = (half s h).groups :=
  hk.parts .groups hm h
theorem Keeps.tally (hk : Keeps m s t) (hm : m.testBit 38 = false) (h : HalfId) : (half t h).tally = (half s h).tally :=
  hk.parts .tally hm h
theorem Keeps.evSeq (hk : Keeps m s t) (hm : m.testBit 39 = false) (h : HalfId) : (half t h).evSeq = (half s h).evSeq :=
  hk.parts .evSeq hm h
theorem Keeps.port (hk : Keeps m s t) (hm : m.testBit 40 = false) (h : HalfId) : (half t h).port = (half s h).port :=
  hk.parts .port hm h
theorem Keeps.stk (hk : Keeps m s t) (hm : m.testBit 41 = false) (h : HalfId) : (half t h).stk = (half s h).stk :=
  hk.parts .stk hm h
theorem Keeps.acq (hk : Keeps m s t) (hm : m.testBit 42 = false) (h : HalfId) : (half t h).acq = (half s h).acq :=
  hk.parts .acq hm h
theorem Keeps.crt (hk : Keeps m s t) (hm : m.testBit 43 = false) (h : HalfId) : (half t h).crt = (half s h).crt :=
  hk.parts .crt hm h
theorem Keeps.ard (hk : Keeps m s t) (hm : m.testBit 44 = false) (h : HalfId) : (half t h).ard = (half s h).ard :=
  hk.parts .ard hm h
theorem Keeps.evq (hk : Keeps m s t) (hm : m.testBit 45 = false) (h : HalfId) : (half t h).evq = (half s h).evq :=
  hk.parts .evq hm h
theorem Keeps.mgmt (hk : Keeps m s t) (hm : m.testBit 46 = false) (h : HalfId) : (half t h).mgmt = (half s h).mgmt :=
  hk.parts .mgmt hm h
theorem Keeps.trace (hk : Keeps m s t) (hm : m.testBit 47 = false) (h : HalfId) : (half t h).trace = (half s h).trace :=
  hk.parts .trace hm h
theorem Keeps.fe (hk : Keeps m s t) (hm : m.testBit 48 = false) (h : HalfId) : (half t h).fe = (half s h).fe :=
  hk.parts .fe hm h
theorem Keeps.dec (hk : Keeps m s t) (hm : m.testBit 49 = false) (h : HalfId) : (half t h).dec = (half s h).dec :=
  hk.parts .dec hm h
theorem Keeps.lge (hk : Keeps m s t) (hm : m.testBit 50 = false) (h : HalfId) : (half t h).lge = (half s h).lge :=
  hk.parts .lge hm h
theorem Keeps.gav (hk : Keeps m s t) (hm : m.testBit 51 = false) (h : HalfId) : (half t h).gav = (half s h).gav :=
  hk.parts .gav hm h

end Stay

/-! ### Bits -/

theorem bit_putBit_same (v i : Nat) (b : Bool) : bit (putBit v i b) i = b := by
  have hp : 0 < 2 ^ i := Nat.two_pow_pos i
  unfold putBit
  cases hv : bit v i <;> cases b <;> simp [hv] <;> simp only [bit, beq_iff_eq, beq_eq_false_iff_ne, ne_eq] at *
  · rw [Nat.add_div_right _ hp]; omega
  · have h1 : 2 ^ i ≤ v := by
      refine Nat.le_of_not_lt fun hlt => ?_
      rw [Nat.div_eq_of_lt hlt] at hv; omega
    have h2 : (v - 2 ^ i) / 2 ^ i = v / 2 ^ i - 1 := by
      have h : v / 2 ^ i = (v - 2 ^ i) / 2 ^ i + 1 := by
        rw [← Nat.add_div_right _ hp, Nat.sub_add_cancel h1]
      rw [h, Nat.add_sub_cancel]
    rw [h2]; omega

end Sys2Proof.Machine
end

