-- ==== Sys2Proof/Laws/KeepsBase.lean ====
section
/-!
SUPPORT. `Keeps` for one updated part at a time: each part of a half, of the field die, and the rest of State.
-/

namespace Sys2Proof.Machine

open Sys2Proof (HalfId)

variable {m : Nat} {r s : State}

theorem keeps_half_mode (h : HalfId) (v : ModeState) (hm : m.testBit 35 = true) (hs : Keeps m r s) :
    Keeps m r (setHalf s h ⟨v, (half s h).image, (half s h).groups, (half s h).tally, (half s h).evSeq,
      (half s h).port, (half s h).stk, (half s h).acq, (half s h).crt, (half s h).ard,
      (half s h).evq, (half s h).mgmt, (half s h).trace, (half s h).fe, (half s h).dec,
      (half s h).lge, (half s h).gav⟩) := by
  refine keeps_setHalf h _ (fun p hp => ?_) hs
  cases p <;> first | rfl | exact absurd (hm.symm.trans hp) (by decide) | trivial

theorem keeps_half_image (h : HalfId) (v : Option Image) (hm : m.testBit 36 = true) (hs : Keeps m r s) :
    Keeps m r (setHalf s h ⟨(half s h).mode, v, (half s h).groups, (half s h).tally, (half s h).evSeq,
      (half s h).port, (half s h).stk, (half s h).acq, (half s h).crt, (half s h).ard,
      (half s h).evq, (half s h).mgmt, (half s h).trace, (half s h).fe, (half s h).dec,
      (half s h).lge, (half s h).gav⟩) := by
  refine keeps_setHalf h _ (fun p hp => ?_) hs
  cases p <;> first | rfl | exact absurd (hm.symm.trans hp) (by decide) | trivial

theorem keeps_half_groups (h : HalfId) (v : List (Nat × SetGroup)) (hm : m.testBit 37 = true) (hs : Keeps m r s) :
    Keeps m r (setHalf s h ⟨(half s h).mode, (half s h).image, v, (half s h).tally, (half s h).evSeq,
      (half s h).port, (half s h).stk, (half s h).acq, (half s h).crt, (half s h).ard,
      (half s h).evq, (half s h).mgmt, (half s h).trace, (half s h).fe, (half s h).dec,
      (half s h).lge, (half s h).gav⟩) := by
  refine keeps_setHalf h _ (fun p hp => ?_) hs
  cases p <;> first | rfl | exact absurd (hm.symm.trans hp) (by decide) | trivial

theorem keeps_half_tally (h : HalfId) (v : List (Nat × Nat)) (hm : m.testBit 38 = true) (hs : Keeps m r s) :
    Keeps m r (setHalf s h ⟨(half s h).mode, (half s h).image, (half s h).groups, v, (half s h).evSeq,
      (half s h).port, (half s h).stk, (half s h).acq, (half s h).crt, (half s h).ard,
      (half s h).evq, (half s h).mgmt, (half s h).trace, (half s h).fe, (half s h).dec,
      (half s h).lge, (half s h).gav⟩) := by
  refine keeps_setHalf h _ (fun p hp => ?_) hs
  cases p <;> first | rfl | exact absurd (hm.symm.trans hp) (by decide) | trivial

theorem keeps_half_evSeq (h : HalfId) (v : List (Nat × Nat)) (hm : m.testBit 39 = true) (hs : Keeps m r s) :
    Keeps m r (setHalf s h ⟨(half s h).mode, (half s h).image, (half s h).groups, (half s h).tally, v,
      (half s h).port, (half s h).stk, (half s h).acq, (half s h).crt, (half s h).ard,
      (half s h).evq, (half s h).mgmt, (half s h).trace, (half s h).fe, (half s h).dec,
      (half s h).lge, (half s h).gav⟩) := by
  refine keeps_setHalf h _ (fun p hp => ?_) hs
  cases p <;> first | rfl | exact absurd (hm.symm.trans hp) (by decide) | trivial

theorem keeps_half_port (h : HalfId) (v : StorePort) (hm : m.testBit 40 = true) (hs : Keeps m r s) :
    Keeps m r (setHalf s h ⟨(half s h).mode, (half s h).image, (half s h).groups, (half s h).tally, (half s h).evSeq,
      v, (half s h).stk, (half s h).acq, (half s h).crt, (half s h).ard,
      (half s h).evq, (half s h).mgmt, (half s h).trace, (half s h).fe, (half s h).dec,
      (half s h).lge, (half s h).gav⟩) := by
  refine keeps_setHalf h _ (fun p hp => ?_) hs
  cases p <;> first | rfl | exact absurd (hm.symm.trans hp) (by decide) | trivial

theorem keeps_half_stk (h : HalfId) (v : Stocktake) (hm : m.testBit 41 = true) (hs : Keeps m r s) :
    Keeps m r (setHalf s h ⟨(half s h).mode, (half s h).image, (half s h).groups, (half s h).tally, (half s h).evSeq,
      (half s h).port, v, (half s h).acq, (half s h).crt, (half s h).ard,
      (half s h).evq, (half s h).mgmt, (half s h).trace, (half s h).fe, (half s h).dec,
      (half s h).lge, (half s h).gav⟩) := by
  refine keeps_setHalf h _ (fun p hp => ?_) hs
  cases p <;> first | rfl | exact absurd (hm.symm.trans hp) (by decide) | trivial

theorem keeps_half_acq (h : HalfId) (v : Recorder) (hm : m.testBit 42 = true) (hs : Keeps m r s) :
    Keeps m r (setHalf s h ⟨(half s h).mode, (half s h).image, (half s h).groups, (half s h).tally, (half s h).evSeq,
      (half s h).port, (half s h).stk, v, (half s h).crt, (half s h).ard,
      (half s h).evq, (half s h).mgmt, (half s h).trace, (half s h).fe, (half s h).dec,
      (half s h).lge, (half s h).gav⟩) := by
  refine keeps_setHalf h _ (fun p hp => ?_) hs
  cases p <;> first | rfl | exact absurd (hm.symm.trans hp) (by decide) | trivial

theorem keeps_half_crt (h : HalfId) (v : CrateRun) (hm : m.testBit 43 = true) (hs : Keeps m r s) :
    Keeps m r (setHalf s h ⟨(half s h).mode, (half s h).image, (half s h).groups, (half s h).tally, (half s h).evSeq,
      (half s h).port, (half s h).stk, (half s h).acq, v, (half s h).ard,
      (half s h).evq, (half s h).mgmt, (half s h).trace, (half s h).fe, (half s h).dec,
      (half s h).lge, (half s h).gav⟩) := by
  refine keeps_setHalf h _ (fun p hp => ?_) hs
  cases p <;> first | rfl | exact absurd (hm.symm.trans hp) (by decide) | trivial

theorem keeps_half_ard (h : HalfId) (v : Arcade) (hm : m.testBit 44 = true) (hs : Keeps m r s) :
    Keeps m r (setHalf s h ⟨(half s h).mode, (half s h).image, (half s h).groups, (half s h).tally, (half s h).evSeq,
      (half s h).port, (half s h).stk, (half s h).acq, (half s h).crt, v,
      (half s h).evq, (half s h).mgmt, (half s h).trace, (half s h).fe, (half s h).dec,
      (half s h).lge, (half s h).gav⟩) := by
  refine keeps_setHalf h _ (fun p hp => ?_) hs
  cases p <;> first | rfl | exact absurd (hm.symm.trans hp) (by decide) | trivial

theorem keeps_half_evq (h : HalfId) (v : EventQueues) (hm : m.testBit 45 = true) (hs : Keeps m r s) :
    Keeps m r (setHalf s h ⟨(half s h).mode, (half s h).image, (half s h).groups, (half s h).tally, (half s h).evSeq,
      (half s h).port, (half s h).stk, (half s h).acq, (half s h).crt, (half s h).ard,
      v, (half s h).mgmt, (half s h).trace, (half s h).fe, (half s h).dec,
      (half s h).lge, (half s h).gav⟩) := by
  refine keeps_setHalf h _ (fun p hp => ?_) hs
  cases p <;> first | rfl | exact absurd (hm.symm.trans hp) (by decide) | trivial

theorem keeps_half_mgmt (h : HalfId) (v : Mgmt) (hm : m.testBit 46 = true) (hs : Keeps m r s) :
    Keeps m r (setHalf s h ⟨(half s h).mode, (half s h).image, (half s h).groups, (half s h).tally, (half s h).evSeq,
      (half s h).port, (half s h).stk, (half s h).acq, (half s h).crt, (half s h).ard,
      (half s h).evq, v, (half s h).trace, (half s h).fe, (half s h).dec,
      (half s h).lge, (half s h).gav⟩) := by
  refine keeps_setHalf h _ (fun p hp => ?_) hs
  cases p <;> first | rfl | exact absurd (hm.symm.trans hp) (by decide) | trivial

theorem keeps_half_trace (h : HalfId) (v : Trace) (hm : m.testBit 47 = true) (hs : Keeps m r s) :
    Keeps m r (setHalf s h ⟨(half s h).mode, (half s h).image, (half s h).groups, (half s h).tally, (half s h).evSeq,
      (half s h).port, (half s h).stk, (half s h).acq, (half s h).crt, (half s h).ard,
      (half s h).evq, (half s h).mgmt, v, (half s h).fe, (half s h).dec,
      (half s h).lge, (half s h).gav⟩) := by
  refine keeps_setHalf h _ (fun p hp => ?_) hs
  cases p <;> first | rfl | exact absurd (hm.symm.trans hp) (by decide) | trivial

theorem keeps_half_fe (h : HalfId) (v : FrontEnd) (hm : m.testBit 48 = true) (hs : Keeps m r s) :
    Keeps m r (setHalf s h ⟨(half s h).mode, (half s h).image, (half s h).groups, (half s h).tally, (half s h).evSeq,
      (half s h).port, (half s h).stk, (half s h).acq, (half s h).crt, (half s h).ard,
      (half s h).evq, (half s h).mgmt, (half s h).trace, v, (half s h).dec,
      (half s h).lge, (half s h).gav⟩) := by
  refine keeps_setHalf h _ (fun p hp => ?_) hs
  cases p <;> first | rfl | exact absurd (hm.symm.trans hp) (by decide) | trivial

theorem keeps_half_dec (h : HalfId) (v : Decide) (hm : m.testBit 49 = true) (hs : Keeps m r s) :
    Keeps m r (setHalf s h ⟨(half s h).mode, (half s h).image, (half s h).groups, (half s h).tally, (half s h).evSeq,
      (half s h).port, (half s h).stk, (half s h).acq, (half s h).crt, (half s h).ard,
      (half s h).evq, (half s h).mgmt, (half s h).trace, (half s h).fe, v,
      (half s h).lge, (half s h).gav⟩) := by
  refine keeps_setHalf h _ (fun p hp => ?_) hs
  cases p <;> first | rfl | exact absurd (hm.symm.trans hp) (by decide) | trivial

theorem keeps_half_lge (h : HalfId) (v : Logic) (hm : m.testBit 50 = true) (hs : Keeps m r s) :
    Keeps m r (setHalf s h ⟨(half s h).mode, (half s h).image, (half s h).groups, (half s h).tally, (half s h).evSeq,
      (half s h).port, (half s h).stk, (half s h).acq, (half s h).crt, (half s h).ard,
      (half s h).evq, (half s h).mgmt, (half s h).trace, (half s h).fe, (half s h).dec,
      v, (half s h).gav⟩) := by
  refine keeps_setHalf h _ (fun p hp => ?_) hs
  cases p <;> first | rfl | exact absurd (hm.symm.trans hp) (by decide) | trivial

theorem keeps_half_gav (h : HalfId) (v : GavelRun) (hm : m.testBit 51 = true) (hs : Keeps m r s) :
    Keeps m r (setHalf s h ⟨(half s h).mode, (half s h).image, (half s h).groups, (half s h).tally, (half s h).evSeq,
      (half s h).port, (half s h).stk, (half s h).acq, (half s h).crt, (half s h).ard,
      (half s h).evq, (half s h).mgmt, (half s h).trace, (half s h).fe, (half s h).dec,
      (half s h).lge, v⟩) := by
  refine keeps_setHalf h _ (fun p hp => ?_) hs
  cases p <;> first | rfl | exact absurd (hm.symm.trans hp) (by decide) | trivial

theorem keeps_store (v : Store) (hm : m.testBit 34 = true) (hs : Keeps m r s) :
    Keeps m r ⟨s.variant, s.regs, s.ticks, s.free, s.field, v, s.halfA, s.halfB, s.pending⟩ := by
  refine hs.trans ⟨rfl, rfl, id, fun p hp => ?_⟩
  cases p <;> first | exact absurd (hm.symm.trans hp) (by decide) | simp [Part.same] <;> intro g <;> cases g <;> rfl

theorem keeps_free (v : Nat) (hm : m.testBit 29 = true) (hs : Keeps m r s) :
    Keeps m r ⟨s.variant, s.regs, s.ticks, v, s.field, s.store, s.halfA, s.halfB, s.pending⟩ := by
  refine hs.trans ⟨rfl, rfl, id, fun p hp => ?_⟩
  cases p <;> first | exact absurd (hm.symm.trans hp) (by decide) | simp [Part.same] <;> intro g <;> cases g <;> rfl

theorem keeps_ticks (v : Nat) (hm : m.testBit 28 = true) (hs : Keeps m r s) :
    Keeps m r ⟨s.variant, s.regs, v, s.free, s.field, s.store, s.halfA, s.halfB, s.pending⟩ := by
  refine hs.trans ⟨rfl, rfl, id, fun p hp => ?_⟩
  cases p <;> first | exact absurd (hm.symm.trans hp) (by decide) | simp [Part.same] <;> intro g <;> cases g <;> rfl

theorem keeps_die_time (v : TimeGen) (hm : m.testBit 30 = true) (hs : Keeps m r s) :
    Keeps m r ⟨s.variant, s.regs, s.ticks, s.free, ⟨v, s.field.supply, s.field.rails, s.field.bootSel, s.field.opBase, s.field.mon, s.field.evSeq, s.field.io, s.field.gavel⟩, s.store, s.halfA, s.halfB, s.pending⟩ := by
  refine hs.trans ⟨rfl, rfl, id, fun p hp => ?_⟩
  cases p <;> first | exact absurd (hm.symm.trans hp) (by decide) | simp [Part.same] <;> intro g <;> cases g <;> rfl

theorem keeps_die_io (v : FieldIo) (hm : m.testBit 32 = true) (hs : Keeps m r s) :
    Keeps m r ⟨s.variant, s.regs, s.ticks, s.free, ⟨s.field.time, s.field.supply, s.field.rails, s.field.bootSel, s.field.opBase, s.field.mon, s.field.evSeq, v, s.field.gavel⟩, s.store, s.halfA, s.halfB, s.pending⟩ := by
  refine hs.trans ⟨rfl, rfl, id, fun p hp => ?_⟩
  cases p <;> first | exact absurd (hm.symm.trans hp) (by decide) | simp [Part.same] <;> intro g <;> cases g <;> rfl

theorem keeps_die_gavel (v : GavelRounds) (hm : m.testBit 33 = true) (hs : Keeps m r s) :
    Keeps m r ⟨s.variant, s.regs, s.ticks, s.free, ⟨s.field.time, s.field.supply, s.field.rails, s.field.bootSel, s.field.opBase, s.field.mon, s.field.evSeq, s.field.io, v⟩, s.store, s.halfA, s.halfB, s.pending⟩ := by
  refine hs.trans ⟨rfl, rfl, id, fun p hp => ?_⟩
  cases p <;> first | exact absurd (hm.symm.trans hp) (by decide) | simp [Part.same] <;> intro g <;> cases g <;> rfl

theorem keeps_die_mon (v : Nat) (hm : m.testBit 31 = true) (hs : Keeps m r s) :
    Keeps m r ⟨s.variant, s.regs, s.ticks, s.free, ⟨s.field.time, s.field.supply, s.field.rails, s.field.bootSel, s.field.opBase, v, s.field.evSeq, s.field.io, s.field.gavel⟩, s.store, s.halfA, s.halfB, s.pending⟩ := by
  refine hs.trans ⟨rfl, rfl, id, fun p hp => ?_⟩
  cases p <;> first | exact absurd (hm.symm.trans hp) (by decide) | simp [Part.same] <;> intro g <;> cases g <;> rfl

theorem keeps_die_evSeq (v : List (Nat × Nat)) (hm : m.testBit 52 = true) (hs : Keeps m r s) :
    Keeps m r ⟨s.variant, s.regs, s.ticks, s.free, ⟨s.field.time, s.field.supply, s.field.rails, s.field.bootSel, s.field.opBase, s.field.mon, v, s.field.io, s.field.gavel⟩, s.store, s.halfA, s.halfB, s.pending⟩ := by
  refine hs.trans ⟨rfl, rfl, id, fun p hp => ?_⟩
  cases p <;> first | exact absurd (hm.symm.trans hp) (by decide) | simp [Part.same] <;> intro g <;> cases g <;> rfl

theorem keeps_die_rails (v : Bool) (hm : m.testBit 31 = true) (hs : Keeps m r s) :
    Keeps m r ⟨s.variant, s.regs, s.ticks, s.free, ⟨s.field.time, s.field.supply, v, s.field.bootSel, s.field.opBase, s.field.mon, s.field.evSeq, s.field.io, s.field.gavel⟩, s.store, s.halfA, s.halfB, s.pending⟩ := by
  refine hs.trans ⟨rfl, rfl, id, fun p hp => ?_⟩
  cases p <;> first | exact absurd (hm.symm.trans hp) (by decide) | simp [Part.same] <;> intro g <;> cases g <;> rfl

theorem keeps_die_supply (v : Bool) (hm : m.testBit 31 = true) (hs : Keeps m r s) :
    Keeps m r ⟨s.variant, s.regs, s.ticks, s.free, ⟨s.field.time, v, s.field.rails, s.field.bootSel, s.field.opBase, s.field.mon, s.field.evSeq, s.field.io, s.field.gavel⟩, s.store, s.halfA, s.halfB, s.pending⟩ := by
  refine hs.trans ⟨rfl, rfl, id, fun p hp => ?_⟩
  cases p <;> first | exact absurd (hm.symm.trans hp) (by decide) | simp [Part.same] <;> intro g <;> cases g <;> rfl

theorem keeps_die_railsSel (v : Bool) (n : Nat) (hm : m.testBit 31 = true) (hs : Keeps m r s) :
    Keeps m r ⟨s.variant, s.regs, s.ticks, s.free, ⟨s.field.time, s.field.supply, v, n, s.field.opBase, s.field.mon, s.field.evSeq, s.field.io, s.field.gavel⟩, s.store, s.halfA, s.halfB, s.pending⟩ := by
  refine hs.trans ⟨rfl, rfl, id, fun p hp => ?_⟩
  cases p <;> first | exact absurd (hm.symm.trans hp) (by decide) | simp [Part.same] <;> intro g <;> cases g <;> rfl

end Sys2Proof.Machine
end

