-- ==== Sys2Proof/Laws/KeepsOps.lean ====
section
/-!
SUPPORT. `Keeps` for the operations of Machine/Ops.lean: the parts each may change.
-/

namespace Sys2Proof.Machine

open Sys2Proof (HalfId Instr Byte Word Accessor)

theorem keeps_satAdd {ps : Nat} {s0 s : State} (h : HalfId) (f : Fld) (n : Nat) (hm_ : fits ps f.key = true)
    (hs_ : Keeps ps s0 s) : Keeps ps s0 (satAdd s h f n) := keeps_wr h f _ hm_ hs_

theorem keeps_wrapInc {ps : Nat} {s0 s : State} (h : HalfId) (f : Fld) (hm_ : fits ps f.key = true)
    (hs_ : Keeps ps s0 s) : Keeps ps s0 (wrapInc s h f) := keeps_wr h f _ hm_ hs_

theorem keeps_result {ps : Nat} {s0 s : State} (h : HalfId) (seq cmd status : Fld) (c st : Nat)
    (h1_ : fits ps seq.key = true) (h2_ : fits ps cmd.key = true) (h3_ : fits ps status.key = true)
    (hs_ : Keeps ps s0 s) : Keeps ps s0 (result s h seq cmd status c st) :=
  keeps_wr h _ _ h3_ (keeps_wr h _ _ h2_ (keeps_wrapInc h _ h1_ hs_))

theorem keeps_access {ps : Nat} {s0 s t : State} (h : HalfId) (ht_ : Keeps ps s0 t) (hs_ : Keeps ps s0 s) :
    Keeps ps s0 (access s h t) := keeps_ite _ ht_ hs_

theorem keeps_unitAccess {ps : Nat} {s0 s t : State} (h : HalfId) (b : Bool) (hm_ : subParts 0x1 ps = true)
    (ht_ : Keeps ps s0 t) (hs_ : Keeps ps s0 s) : Keeps ps s0 (unitAccess s h b t) :=
  keeps_access h (keeps_ite _ ht_ (keeps_wrB h _ _ (fits_mono _ hm_ (by decide)) hs_)) hs_

theorem keeps_freeVal {ps : Nat} {s0 s : State} (n : Nat) (hm_ : subParts 0x20000000 ps = true)
    (hs_ : Keeps ps s0 s) : Keeps ps s0 ((freeVal s n)).2 := by
  refine Keeps.comp (a := 0x20000000) ?_ hm_ hs_
  clear hm_ hs_
  unfold freeVal
  try dsimp only
  repeat' first
    | (simp +contextual +decide (maxDischargeDepth := 60) only [Keeps.refl, ↓keeps_free]; done)
    | split

theorem keeps_count {ps : Nat} {s0 s : State} (h : HalfId) (i : Nat) (n : Nat) (hm_ : subParts 0x20000000000 ps = true)
    (hs_ : Keeps ps s0 s) : Keeps ps s0 (count s h i n) := by
  refine Keeps.comp (a := 0x20000000000) ?_ hm_ hs_
  clear hm_ hs_
  unfold count
  try dsimp only
  repeat' first
    | (simp +contextual +decide (maxDischargeDepth := 60) only [Keeps.refl, ↓keeps_half_stk]; done)
    | split

theorem keeps_irq {ps : Nat} {s0 s : State} (h : HalfId) (i : Nat) (hm_ : subParts 0x1000000 ps = true)
    (hs_ : Keeps ps s0 s) : Keeps ps s0 (irq s h i) := by
  refine Keeps.comp (a := 0x1000000) ?_ hm_ hs_
  clear hm_ hs_
  unfold irq
  try dsimp only
  repeat' first
    | (simp +contextual +decide (maxDischargeDepth := 60) only [Keeps.refl, ↓keeps_wrBit, Reg.HST_IRQ_STAT_PEND]; done)
    | split

theorem keeps_evBump {ps : Nat} {s0 s : State} (h : HalfId) (src : Nat) (hm_ : subParts 0x10008000000000 ps = true)
    (hs_ : Keeps ps s0 s) : Keeps ps s0 (evBump s h src) := by
  refine Keeps.comp (a := 0x10008000000000) ?_ hm_ hs_
  clear hm_ hs_
  unfold evBump
  try dsimp only
  repeat' first
    | (simp +contextual +decide (maxDischargeDepth := 60) only [↓keeps_ite, Keeps.refl, ↓keeps_half_evSeq, ↓keeps_die_evSeq]; done)
    | split

theorem keeps_qPut {ps : Nat} {s0 s : State} (h : HalfId) (q : Nat) (it : QItem) (hm_ : subParts 0x200001200000 ps = true)
    (hs_ : Keeps ps s0 s) : Keeps ps s0 (qPut s h q it) := by
  refine Keeps.comp (a := 0x200001200000) ?_ hm_ hs_
  clear hm_ hs_
  unfold qPut
  try dsimp only
  repeat' first
    | (simp +contextual +decide (maxDischargeDepth := 60) only [↓keeps_ite, Keeps.refl, ↓keeps_satAdd, ↓keeps_irq, ↓keeps_half_evq, Reg.EVQ_STAT_LOST, fits_bank]; done)
    | split

theorem keeps_qPush {ps : Nat} {s0 s : State} (h : HalfId) (cls : Nat) (it : QItem) (hm_ : subParts 0x200001200000 ps = true)
    (hs_ : Keeps ps s0 s) : Keeps ps s0 (qPush s h cls it) := by
  refine Keeps.comp (a := 0x200001200000) ?_ hm_ hs_
  clear hm_ hs_
  unfold qPush
  try dsimp only
  repeat' first
    | (simp +contextual +decide (maxDischargeDepth := 60) only [↓keeps_foldl, ↓keeps_ite, Keeps.refl, implies_true, ↓keeps_qPut]; done)
    | split

theorem keeps_storeAppend {ps : Nat} {s0 s : State} (h : HalfId) (r : LedgerRec) (hm_ : subParts 0x220401200000 ps = true)
    (hs_ : Keeps ps s0 s) : Keeps ps s0 (storeAppend s h r) := by
  refine Keeps.comp (a := 0x220401200000) ?_ hm_ hs_
  clear hm_ hs_
  unfold storeAppend
  try dsimp only
  repeat' first
    | (simp +contextual +decide (maxDischargeDepth := 60) only [Keeps.refl, ↓keeps_count, ↓keeps_irq, ↓keeps_qPush, ↓keeps_store]; done)
    | split

theorem keeps_limitedAppend {ps : Nat} {s0 s : State} (h : HalfId) (r : LedgerRec) (hm_ : subParts 0x220401240000 ps = true)
    (hs_ : Keeps ps s0 s) : Keeps ps s0 (limitedAppend s h r) := by
  refine Keeps.comp (a := 0x220401240000) ?_ hm_ hs_
  clear hm_ hs_
  unfold limitedAppend
  try dsimp only
  repeat' first
    | (simp +contextual +decide (maxDischargeDepth := 60) only [↓keeps_ite, Keeps.refl, ↓keeps_satAdd, ↓keeps_storeAppend, ↓keeps_store, Reg.LDG_STAT_DROPPED]; done)
    | split

theorem keeps_ledger {ps : Nat} {s0 s : State} (h : HalfId) (src ev : Nat) (fields : List Byte) (hm_ : subParts 0x10238401240000 ps = true)
    (hs_ : Keeps ps s0 s) : Keeps ps s0 (ledger s h src ev fields) := by
  refine Keeps.comp (a := 0x10238401240000) ?_ hm_ hs_
  clear hm_ hs_
  unfold ledger
  try dsimp only
  repeat' first
    | (simp +contextual +decide (maxDischargeDepth := 60) only [↓keeps_ite, Keeps.refl, ↓keeps_evBump, ↓keeps_limitedAppend, ↓keeps_half_port]; done)
    | split

theorem keeps_ledgerH {ps : Nat} {s0 s : State} (h : HalfId) (ev : Nat) (fields : List Byte) (hm_ : subParts 0x10238401240000 ps = true)
    (hs_ : Keeps ps s0 s) : Keeps ps s0 (ledgerH s h ev fields) := by
  refine Keeps.comp (a := 0x10238401240000) ?_ hm_ hs_
  clear hm_ hs_
  unfold ledgerH
  try dsimp only
  repeat' first
    | (simp +contextual +decide (maxDischargeDepth := 60) only [Keeps.refl, ↓keeps_ledger]; done)
    | split

theorem keeps_ledgerFieldSrc {ps : Nat} {s0 s : State} (src ev : Nat) (fields : List Byte) (hm_ : subParts 0x10238401240000 ps = true)
    (hs_ : Keeps ps s0 s) : Keeps ps s0 (ledgerFieldSrc s src ev fields) := by
  refine Keeps.comp (a := 0x10238401240000) ?_ hm_ hs_
  clear hm_ hs_
  unfold ledgerFieldSrc
  try dsimp only
  repeat' first
    | (simp +contextual +decide (maxDischargeDepth := 60) only [↓keeps_ite, Keeps.refl, ↓keeps_ledger, ↓keeps_ledgerH]; done)
    | split

theorem keeps_ledgerField {ps : Nat} {s0 s : State} (ev : Nat) (fields : List Byte) (hm_ : subParts 0x10238401240000 ps = true)
    (hs_ : Keeps ps s0 s) : Keeps ps s0 (ledgerField s ev fields) := by
  refine Keeps.comp (a := 0x10238401240000) ?_ hm_ hs_
  clear hm_ hs_
  unfold ledgerField
  try dsimp only
  repeat' first
    | (simp +contextual +decide (maxDischargeDepth := 60) only [Keeps.refl, ↓keeps_ledgerFieldSrc]; done)
    | split

theorem keeps_tracePut {ps : Nat} {s0 s : State} (h : HalfId) (pk : List Byte) (hm_ : subParts 0x800004000000 ps = true)
    (hs_ : Keeps ps s0 s) : Keeps ps s0 (tracePut s h pk) := by
  refine Keeps.comp (a := 0x800004000000) ?_ hm_ hs_
  clear hm_ hs_
  unfold tracePut
  try dsimp only
  repeat' first
    | (simp +contextual +decide (maxDischargeDepth := 60) only [↓keeps_foldl, ↓keeps_ite, Keeps.refl, implies_true, ↓keeps_satAdd, ↓keeps_setWord, ↓keeps_wr, ↓keeps_wrB, ↓keeps_wrBit, ↓keeps_half_mode, ↓keeps_half_image, ↓keeps_half_groups, ↓keeps_half_tally, ↓keeps_half_evSeq, ↓keeps_half_port, ↓keeps_half_stk, ↓keeps_half_acq, ↓keeps_half_crt, ↓keeps_half_ard, ↓keeps_half_evq, ↓keeps_half_mgmt, ↓keeps_half_trace, ↓keeps_half_fe, ↓keeps_half_dec, ↓keeps_half_lge, ↓keeps_half_gav, ↓keeps_store, ↓keeps_free, ↓keeps_ticks, ↓keeps_die_time, ↓keeps_die_io, ↓keeps_die_gavel, ↓keeps_die_mon, ↓keeps_die_evSeq, ↓keeps_die_rails, ↓keeps_die_supply, ↓keeps_die_railsSel, Reg.TRC_STAT_DROPPED, fits_instKey, fits_bank]; done)
    | split

theorem keeps_trace {ps : Nat} {s0 s : State} (h : HalfId) (srcBit type : Nat) (payload : List Byte) (hm_ : subParts 0x800004000000 ps = true)
    (hs_ : Keeps ps s0 s) : Keeps ps s0 (trace s h srcBit type payload) := by
  refine Keeps.comp (a := 0x800004000000) ?_ hm_ hs_
  clear hm_ hs_
  unfold trace
  try dsimp only
  repeat' first
    | (simp +contextual +decide (maxDischargeDepth := 60) only [↓keeps_ite, Keeps.refl, ↓keeps_tracePut, Reg.TRC_CFG_SRC]; done)
    | split

theorem keeps_traceGap {ps : Nat} {s0 s : State} (h : HalfId) (open_ : Bool) (src reason : Nat) (hm_ : subParts 0x800004000000 ps = true)
    (hs_ : Keeps ps s0 s) : Keeps ps s0 (traceGap s h open_ src reason) := by
  refine Keeps.comp (a := 0x800004000000) ?_ hm_ hs_
  clear hm_ hs_
  unfold traceGap
  try dsimp only
  repeat' first
    | (simp +contextual +decide (maxDischargeDepth := 60) only [Keeps.refl, ↓keeps_tracePut, ↓keeps_wrBit, Reg.TRC_STAT_GAP]; done)
    | split

theorem keeps_tracePort {ps : Nat} {s0 s : State} (h : HalfId) (hm_ : subParts 0x800000000000 ps = true)
    (hs_ : Keeps ps s0 s) : Keeps ps s0 (tracePort s h) := by
  refine Keeps.comp (a := 0x800000000000) ?_ hm_ hs_
  clear hm_ hs_
  unfold tracePort
  try dsimp only
  repeat' first
    | (simp +contextual +decide (maxDischargeDepth := 60) only [↓keeps_foldl, ↓keeps_ite, Keeps.refl, implies_true, ↓keeps_half_mode, ↓keeps_half_image, ↓keeps_half_groups, ↓keeps_half_tally, ↓keeps_half_evSeq, ↓keeps_half_port, ↓keeps_half_stk, ↓keeps_half_acq, ↓keeps_half_crt, ↓keeps_half_ard, ↓keeps_half_evq, ↓keeps_half_mgmt, ↓keeps_half_trace, ↓keeps_half_fe, ↓keeps_half_dec, ↓keeps_half_lge, ↓keeps_half_gav, ↓keeps_store, ↓keeps_free, ↓keeps_ticks, ↓keeps_die_time, ↓keeps_die_io, ↓keeps_die_gavel, ↓keeps_die_mon, ↓keeps_die_evSeq, ↓keeps_die_rails, ↓keeps_die_supply, ↓keeps_die_railsSel]; done)
    | split

theorem keeps_tallyOverall {ps : Nat} {s0 s : State} (h : HalfId) (hm_ : subParts 0x1080000 ps = true)
    (hs_ : Keeps ps s0 s) : Keeps ps s0 (tallyOverall s h) := by
  refine Keeps.comp (a := 0x1080000) ?_ hm_ hs_
  clear hm_ hs_
  unfold tallyOverall
  try dsimp only
  repeat' first
    | (simp +contextual +decide (maxDischargeDepth := 60) only [Keeps.refl, ↓keeps_irq, ↓keeps_wr, Reg.TLY_OVERALL_OVERALL]; done)
    | split

theorem keeps_tallyUpdate {ps : Nat} {s0 s : State} (h : HalfId) (k ev : Nat) (hm_ : subParts 0x102384012C0000 ps = true)
    (hs_ : Keeps ps s0 s) : Keeps ps s0 (tallyUpdate s h k ev) := by
  refine Keeps.comp (a := 0x102384012C0000) ?_ hm_ hs_
  clear hm_ hs_
  unfold tallyUpdate
  try dsimp only
  repeat' first
    | (simp +contextual +decide (maxDischargeDepth := 60) only [Keeps.refl, ↓keeps_satAdd, ↓keeps_ledgerH, ↓keeps_tallyOverall, ↓keeps_wr, ↓keeps_wrBit, Reg.TLY_CAUSE_CODE, Reg.TLY_CAUSE_EVENT, Reg.TLY_HIST_WORSE, Reg.TLY_OVERALL_CHANGES, Reg.TLY_SUB_SUB0, tlySub, fits_instKey]; done)
    | split

theorem keeps_tallySet {ps : Nat} {s0 s : State} (h : HalfId) (k cause code ev : Nat) (hm_ : subParts 0x1023C4012C0000 ps = true)
    (hs_ : Keeps ps s0 s) : Keeps ps s0 (tallySet s h k cause code ev) := by
  refine Keeps.comp (a := 0x1023C4012C0000) ?_ hm_ hs_
  clear hm_ hs_
  unfold tallySet
  try dsimp only
  repeat' first
    | (simp +contextual +decide (maxDischargeDepth := 60) only [Keeps.refl, ↓keeps_tallyUpdate, ↓keeps_half_tally]; done)
    | split

end Sys2Proof.Machine
end

