-- ==== Sys2Proof/Laws/KeepsStoreOps.lean ====
section
/-!
SUPPORT. `Keeps` for the operations of Machine/StoreOps.lean: the parts each may change.
-/

namespace Sys2Proof.Machine

open Sys2Proof (HalfId Instr Byte Word Accessor)

theorem keeps_modStore {ps : Nat} {s0 s : State} (f : Store → Store) (hm_ : subParts 0x400000000 ps = true)
    (hs_ : Keeps ps s0 s) : Keeps ps s0 (modStore s f) := by
  refine Keeps.comp (a := 0x400000000) ?_ hm_ hs_
  clear hm_ hs_
  unfold modStore
  try dsimp only
  repeat' first
    | (simp +contextual +decide (maxDischargeDepth := 60) only [Keeps.refl, ↓keeps_store]; done)
    | split

theorem keeps_modPort {ps : Nat} {s0 s : State} (h : HalfId) (f : StorePort → StorePort) (hm_ : subParts 0x10000000000 ps = true)
    (hs_ : Keeps ps s0 s) : Keeps ps s0 (modPort s h f) := by
  refine Keeps.comp (a := 0x10000000000) ?_ hm_ hs_
  clear hm_ hs_
  unfold modPort
  try dsimp only
  repeat' first
    | (simp +contextual +decide (maxDischargeDepth := 60) only [Keeps.refl, ↓keeps_half_port]; done)
    | split

theorem keeps_modMode {ps : Nat} {s0 s : State} (h : HalfId) (f : ModeState → ModeState) (hm_ : subParts 0x800000000 ps = true)
    (hs_ : Keeps ps s0 s) : Keeps ps s0 (modMode s h f) := by
  refine Keeps.comp (a := 0x800000000) ?_ hm_ hs_
  clear hm_ hs_
  unfold modMode
  try dsimp only
  repeat' first
    | (simp +contextual +decide (maxDischargeDepth := 60) only [Keeps.refl, ↓keeps_half_mode]; done)
    | split

theorem keeps_modImgSlot {ps : Nat} {s0 s : State} (n : Nat) (f : ImgSlot → ImgSlot) (hm_ : subParts 0x400000000 ps = true)
    (hs_ : Keeps ps s0 s) : Keeps ps s0 (modImgSlot s n f) := by
  refine Keeps.comp (a := 0x400000000) ?_ hm_ hs_
  clear hm_ hs_
  unfold modImgSlot
  try dsimp only
  repeat' first
    | (simp +contextual +decide (maxDischargeDepth := 60) only [↓keeps_ite, Keeps.refl, ↓keeps_modStore]; done)
    | split

theorem keeps_touchVerify {ps : Nat} {s0 s : State} (n : Nat) (hm_ : subParts 0x800000000 ps = true)
    (hs_ : Keeps ps s0 s) : Keeps ps s0 (touchVerify s n) := by
  refine Keeps.comp (a := 0x800000000) ?_ hm_ hs_
  clear hm_ hs_
  unfold touchVerify
  try dsimp only
  repeat' first
    | (simp +contextual +decide (maxDischargeDepth := 60) only [Keeps.refl, ↓keeps_modMode]; done)
    | split

theorem keeps_storeError {ps : Nat} {s0 s : State} (h : HalfId) (part page : Nat) (write : Bool) (hm_ : subParts 0x1023C4012E0000 ps = true)
    (hs_ : Keeps ps s0 s) : Keeps ps s0 (storeError s h part page write) := by
  refine Keeps.comp (a := 0x1023C4012E0000) ?_ hm_ hs_
  clear hm_ hs_
  unfold storeError
  try dsimp only
  repeat' first
    | (simp +contextual +decide (maxDischargeDepth := 60) only [↓keeps_ite, Keeps.refl, ↓keeps_ledger, ↓keeps_tallySet, ↓keeps_wrB, Reg.PST_STAT_UNCORR]; done)
    | split

theorem keeps_logPut {ps : Nat} {s0 s : State} (type index : Nat) (hash : List Byte) (value : Nat) (hm_ : subParts 0x400000000 ps = true)
    (hs_ : Keeps ps s0 s) : Keeps ps s0 (logPut s type index hash value) := by
  refine Keeps.comp (a := 0x400000000) ?_ hm_ hs_
  clear hm_ hs_
  unfold logPut
  try dsimp only
  repeat' first
    | (simp +contextual +decide (maxDischargeDepth := 60) only [Keeps.refl, ↓keeps_modStore]; done)
    | split

theorem keeps_unitValid {ps : Nat} {s0 s : State} (h : HalfId) (job_ : CommitJob) (hm_ : subParts 0x400000000 ps = true)
    (hs_ : Keeps ps s0 s) : Keeps ps s0 (unitValid s h job_) := by
  refine Keeps.comp (a := 0x400000000) ?_ hm_ hs_
  clear hm_ hs_
  unfold unitValid
  try dsimp only
  repeat' first
    | (simp +contextual +decide (maxDischargeDepth := 60) only [Keeps.refl, ↓keeps_modStore]; done)
    | split

theorem keeps_putRecUnits {ps : Nat} {s0 s : State} (h : HalfId) (us : List RecUnit) (hm_ : subParts 0x400000000 ps = true)
    (hs_ : Keeps ps s0 s) : Keeps ps s0 (putRecUnits s h us) := by
  refine Keeps.comp (a := 0x400000000) ?_ hm_ hs_
  clear hm_ hs_
  unfold putRecUnits
  try dsimp only
  repeat' first
    | (simp +contextual +decide (maxDischargeDepth := 60) only [Keeps.refl, ↓keeps_modStore]; done)
    | split

theorem keeps_startCommit {ps : Nat} {s0 s : State} (h : HalfId) (j : CommitJob) (hm_ : subParts 0x10000000000 ps = true)
    (hs_ : Keeps ps s0 s) : Keeps ps s0 (startCommit s h j) := by
  refine Keeps.comp (a := 0x10000000000) ?_ hm_ hs_
  clear hm_ hs_
  unfold startCommit
  try dsimp only
  repeat' first
    | (simp +contextual +decide (maxDischargeDepth := 60) only [Keeps.refl, ↓keeps_modPort]; done)
    | split

theorem keeps_dropJob {ps : Nat} {s0 s : State} (h : HalfId) (part : Nat) (hm_ : subParts 0x10000000000 ps = true)
    (hs_ : Keeps ps s0 s) : Keeps ps s0 (dropJob s h part) := by
  refine Keeps.comp (a := 0x10000000000) ?_ hm_ hs_
  clear hm_ hs_
  unfold dropJob
  try dsimp only
  repeat' first
    | (simp +contextual +decide (maxDischargeDepth := 60) only [Keeps.refl, ↓keeps_modPort]; done)
    | split

theorem keeps_imgOpen {ps : Nat} {s0 s : State} (h : HalfId) (slot : Nat) (hm_ : subParts 0x10C00020000 ps = true)
    (hs_ : Keeps ps s0 s) : Keeps ps s0 (imgOpen s h slot) := by
  refine Keeps.comp (a := 0x10C00020000) ?_ hm_ hs_
  clear hm_ hs_
  unfold imgOpen
  try dsimp only
  repeat' first
    | (simp +contextual +decide (maxDischargeDepth := 60) only [Keeps.refl, ↓keeps_modPort, ↓keeps_modImgSlot, ↓keeps_touchVerify, ↓keeps_wr, ↓keeps_wrB, Reg.PST_IMG_PTR_PTR, Reg.PST_STAT_IMG_OPEN]; done)
    | split

theorem keeps_imgAbort {ps : Nat} {s0 s : State} (h : HalfId) (hm_ : subParts 0x10C00020000 ps = true)
    (hs_ : Keeps ps s0 s) : Keeps ps s0 (imgAbort s h) := by
  refine Keeps.comp (a := 0x10C00020000) ?_ hm_ hs_
  clear hm_ hs_
  unfold imgAbort
  try dsimp only
  repeat' first
    | (simp +contextual +decide (maxDischargeDepth := 60) only [Keeps.refl, ↓keeps_modPort, ↓keeps_modImgSlot, ↓keeps_touchVerify, ↓keeps_wrB, Reg.PST_STAT_IMG_OPEN]; done)
    | split

theorem keeps_imgClose {ps : Nat} {s0 s : State} (h : HalfId) (hm_ : subParts 0x10238C01260000 ps = true)
    (hs_ : Keeps ps s0 s) : Keeps ps s0 (imgClose s h) := by
  refine Keeps.comp (a := 0x10238C01260000) ?_ hm_ hs_
  clear hm_ hs_
  unfold imgClose
  try dsimp only
  repeat' first
    | (simp +contextual +decide (maxDischargeDepth := 60) only [Keeps.refl, ↓keeps_ledgerH, ↓keeps_modPort, ↓keeps_modImgSlot, ↓keeps_touchVerify, ↓keeps_wrB, Reg.PST_IMG_PTR_PTR, Reg.PST_STAT_IMG_OPEN]; done)
    | split

theorem keeps_imgCmd {ps : Nat} {s0 s : State} (h : HalfId) (code slot : Nat) (hm_ : subParts 0x10238C01260000 ps = true)
    (hs_ : Keeps ps s0 s) : Keeps ps s0 (imgCmd s h code slot) := by
  refine Keeps.comp (a := 0x10238C01260000) ?_ hm_ hs_
  clear hm_ hs_
  unfold imgCmd
  try dsimp only
  repeat' first
    | (simp +contextual +decide (maxDischargeDepth := 60) only [↓keeps_ite, Keeps.refl, ↓keeps_result, ↓keeps_imgOpen, ↓keeps_imgAbort, ↓keeps_imgClose, Reg.PST_IMG_RESULT_CMD, Reg.PST_IMG_RESULT_SEQ, Reg.PST_IMG_RESULT_STATUS]; done)
    | split

theorem keeps_imgData {ps : Nat} {s0 s : State} (h : HalfId) (v : Nat) (hm_ : subParts 0xC00020000 ps = true)
    (hs_ : Keeps ps s0 s) : Keeps ps s0 (imgData s h v) := by
  refine Keeps.comp (a := 0xC00020000) ?_ hm_ hs_
  clear hm_ hs_
  unfold imgData
  try dsimp only
  repeat' first
    | (simp +contextual +decide (maxDischargeDepth := 60) only [Keeps.refl, ↓keeps_modImgSlot, ↓keeps_touchVerify, ↓keeps_wr, ↓keeps_wrB, Reg.PST_IMG_PTR_OVERFLOW, Reg.PST_IMG_PTR_PTR]; done)
    | split

theorem keeps_execImgSlotOpen {s : State} (h : HalfId) (slot : Nat) :
    Keeps 0x10238C01260000 s (after s (execImgSlotOpen h slot s)) := by
  unfold execImgSlotOpen
  try dsimp only
  repeat' first
    | (simp +contextual +decide (maxDischargeDepth := 60) only [after_next, Keeps.refl, ↓keeps_access, ↓keeps_imgCmd]; done)
    | simp only [after_next]
    | split

theorem keeps_execImgSlotClose {s : State} (h : HalfId) (slot : Nat) :
    Keeps 0x10238C01260000 s (after s (execImgSlotClose h slot s)) := by
  unfold execImgSlotClose
  try dsimp only
  repeat' first
    | (simp +contextual +decide (maxDischargeDepth := 60) only [after_next, Keeps.refl, ↓keeps_access, ↓keeps_imgCmd]; done)
    | simp only [after_next]
    | split

theorem keeps_execImgSlotAbort {s : State} (h : HalfId) (slot : Nat) :
    Keeps 0x10238C01260000 s (after s (execImgSlotAbort h slot s)) := by
  unfold execImgSlotAbort
  try dsimp only
  repeat' first
    | (simp +contextual +decide (maxDischargeDepth := 60) only [after_next, Keeps.refl, ↓keeps_access, ↓keeps_imgCmd]; done)
    | simp only [after_next]
    | split

theorem keeps_execPstImgDataWrite {s : State} (h : HalfId) (v : Nat) :
    Keeps 0xC00020000 s (after s (execPstImgDataWrite h v s)) := by
  unfold execPstImgDataWrite
  try dsimp only
  repeat' first
    | (simp +contextual +decide (maxDischargeDepth := 60) only [after_next, Keeps.refl, ↓keeps_access, ↓keeps_imgData]; done)
    | simp only [after_next]
    | split

theorem keeps_ledgerSelect {ps : Nat} {s0 s : State} (h : HalfId) (seq : Nat) (hm_ : subParts 0x10000040000 ps = true)
    (hs_ : Keeps ps s0 s) : Keeps ps s0 (ledgerSelect s h seq) := by
  refine Keeps.comp (a := 0x10000040000) ?_ hm_ hs_
  clear hm_ hs_
  unfold ledgerSelect
  try dsimp only
  repeat' first
    | (simp +contextual +decide (maxDischargeDepth := 60) only [Keeps.refl, ↓keeps_modPort, ↓keeps_wr, Reg.LDG_RSEL_SEQ, Reg.LDG_RSTAT_STATUS]; done)
    | split

theorem keeps_ledgerClearStart {ps : Nat} {s0 s : State} (h : HalfId) (session : Nat) (by_ : Accessor) (hm_ : subParts 0x10228401200000 ps = true)
    (hs_ : Keeps ps s0 s) : Keeps ps s0 (ledgerClearStart s h session by_) := by
  refine Keeps.comp (a := 0x10228401200000) ?_ hm_ hs_
  clear hm_ hs_
  unfold ledgerClearStart
  try dsimp only
  repeat' first
    | (simp +contextual +decide (maxDischargeDepth := 60) only [Keeps.refl, ↓keeps_evBump, ↓keeps_storeAppend, ↓keeps_modStore]; done)
    | split

theorem keeps_ledgerCmd {ps : Nat} {s0 s : State} (h : HalfId) (code session : Nat) (by_ : Accessor) (hm_ : subParts 0x10228401240000 ps = true)
    (hs_ : Keeps ps s0 s) : Keeps ps s0 (ledgerCmd s h code session by_) := by
  refine Keeps.comp (a := 0x10228401240000) ?_ hm_ hs_
  clear hm_ hs_
  unfold ledgerCmd
  try dsimp only
  repeat' first
    | (simp +contextual +decide (maxDischargeDepth := 60) only [↓keeps_ite, Keeps.refl, ↓keeps_result, ↓keeps_ledgerClearStart, Reg.LDG_RESULT_CMD, Reg.LDG_RESULT_SEQ, Reg.LDG_RESULT_STATUS]; done)
    | split

theorem keeps_execLedgerAppend {s : State} (h : HalfId) (source event : Nat) (fields : List Byte) :
    Keeps 0x10238401240000 s (after s (execLedgerAppend h source event fields s)) := by
  unfold execLedgerAppend
  try dsimp only
  repeat' first
    | (simp +contextual +decide (maxDischargeDepth := 60) only [after_next, Keeps.refl, ↓keeps_ledger]; done)
    | simp only [after_next]
    | split

theorem keeps_ledgerRateAppend {ps : Nat} {s0 s : State}  (hm_ : subParts 0x1023C4012C0000 ps = true)
    (hs_ : Keeps ps s0 s) : Keeps ps s0 (ledgerRateAppend s) := by
  refine Keeps.comp (a := 0x1023C4012C0000) ?_ hm_ hs_
  clear hm_ hs_
  unfold ledgerRateAppend
  try dsimp only
  repeat' first
    | (simp +contextual +decide (maxDischargeDepth := 60) only [↓keeps_ite, Keeps.refl, ↓keeps_evBump, ↓keeps_storeAppend, ↓keeps_tallySet, ↓keeps_modStore]; done)
    | split

theorem keeps_execLedgerRate {s : State}  :
    Keeps 0x1023C4012C0000 s (after s (execLedgerRate s)) := by
  unfold execLedgerRate
  try dsimp only
  repeat' first
    | (simp +contextual +decide (maxDischargeDepth := 60) only [after_next, Keeps.refl, ↓keeps_ledgerRateAppend]; done)
    | simp only [after_next]
    | split

theorem keeps_execLedgerClear {s : State} (h : HalfId) (session : Nat) (by_ : Accessor) :
    Keeps 0x10228401240000 s (after s (execLedgerClear h session by_ s)) := by
  unfold execLedgerClear
  try dsimp only
  repeat' first
    | (simp +contextual +decide (maxDischargeDepth := 60) only [after_next, Keeps.refl, ↓keeps_access, ↓keeps_ledgerCmd]; done)
    | simp only [after_next]
    | split

theorem keeps_clearReport {ps : Nat} {s0 s : State} (h : HalfId) (hm_ : subParts 0x40000 ps = true)
    (hs_ : Keeps ps s0 s) : Keeps ps s0 (clearReport s h) := by
  refine Keeps.comp (a := 0x40000) ?_ hm_ hs_
  clear hm_ hs_
  unfold clearReport
  try dsimp only
  repeat' first
    | (simp +contextual +decide (maxDischargeDepth := 60) only [Keeps.refl, ↓keeps_wr, Reg.LDG_RESULT_CMD, Reg.LDG_RESULT_STATUS]; done)
    | split

theorem keeps_ledgerClearEnd {ps : Nat} {s0 s : State}  (hm_ : subParts 0x400040000 ps = true)
    (hs_ : Keeps ps s0 s) : Keeps ps s0 (ledgerClearEnd s) := by
  refine Keeps.comp (a := 0x400040000) ?_ hm_ hs_
  clear hm_ hs_
  unfold ledgerClearEnd
  try dsimp only
  repeat' first
    | (simp +contextual +decide (maxDischargeDepth := 60) only [↓keeps_ite, Keeps.refl, ↓keeps_modStore, ↓keeps_clearReport]; done)
    | split

theorem keeps_execLedgerClearDone {s : State}  :
    Keeps 0x400040000 s (after s (execLedgerClearDone s)) := by
  unfold execLedgerClearDone
  try dsimp only
  repeat' first
    | (simp +contextual +decide (maxDischargeDepth := 60) only [after_next, Keeps.refl, ↓keeps_ledgerClearEnd]; done)
    | simp only [after_next]
    | split

theorem keeps_execLdgRselWrite {s : State} (h : HalfId) (seq : Nat) :
    Keeps 0x10000040000 s (after s (execLdgRselWrite h seq s)) := by
  unfold execLdgRselWrite
  try dsimp only
  repeat' first
    | (simp +contextual +decide (maxDischargeDepth := 60) only [after_next, Keeps.refl, ↓keeps_access, ↓keeps_ledgerSelect]; done)
    | simp only [after_next]
    | split

theorem keeps_optimeLatch {ps : Nat} {s0 s : State} (h : HalfId) (hm_ : subParts 0x10000000000 ps = true)
    (hs_ : Keeps ps s0 s) : Keeps ps s0 (optimeLatch s h) := by
  refine Keeps.comp (a := 0x10000000000) ?_ hm_ hs_
  clear hm_ hs_
  unfold optimeLatch
  try dsimp only
  repeat' first
    | (simp +contextual +decide (maxDischargeDepth := 60) only [Keeps.refl, ↓keeps_modPort]; done)
    | split

theorem keeps_execOptimeCommit {s : State}  :
    Keeps 0x400000000 s (after s (execOptimeCommit s)) := by
  unfold execOptimeCommit
  try dsimp only
  repeat' first
    | (simp +contextual +decide (maxDischargeDepth := 60) only [after_next, Keeps.refl, ↓keeps_modStore]; done)
    | simp only [after_next]
    | split

theorem keeps_execStoreHealthWindow {s : State} (h : HalfId) (corrected : Bool) :
    Keeps 0x1023C4012C0000 s (after s (execStoreHealthWindow h corrected s)) := by
  unfold execStoreHealthWindow
  try dsimp only
  repeat' first
    | (simp +contextual +decide (maxDischargeDepth := 60) only [after_next, Keeps.refl, ↓keeps_tallySet]; done)
    | simp only [after_next]
    | split

end Sys2Proof.Machine
end

