-- ==== Sys2Proof/Laws/KeepsSettings.lean ====
section
/-!
SUPPORT. `Keeps` for the operations of Machine/Settings.lean: the parts each may change.
-/

namespace Sys2Proof.Machine

open Sys2Proof (HalfId Instr Byte Word Accessor)

theorem keeps_modFe {ps : Nat} {s0 s : State} (h : HalfId) (f : FrontEnd → FrontEnd) (hm_ : subParts 0x1000000000000 ps = true)
    (hs_ : Keeps ps s0 s) : Keeps ps s0 (modFe s h f) := by
  refine Keeps.comp (a := 0x1000000000000) ?_ hm_ hs_
  clear hm_ hs_
  unfold modFe
  try dsimp only
  repeat' first
    | (simp +contextual +decide (maxDischargeDepth := 60) only [Keeps.refl, ↓keeps_half_fe]; done)
    | split

theorem keeps_modDec {ps : Nat} {s0 s : State} (h : HalfId) (f : Decide → Decide) (hm_ : subParts 0x2000000000000 ps = true)
    (hs_ : Keeps ps s0 s) : Keeps ps s0 (modDec s h f) := by
  refine Keeps.comp (a := 0x2000000000000) ?_ hm_ hs_
  clear hm_ hs_
  unfold modDec
  try dsimp only
  repeat' first
    | (simp +contextual +decide (maxDischargeDepth := 60) only [Keeps.refl, ↓keeps_half_dec]; done)
    | split

theorem keeps_modLge {ps : Nat} {s0 s : State} (h : HalfId) (f : Logic → Logic) (hm_ : subParts 0x4000000000000 ps = true)
    (hs_ : Keeps ps s0 s) : Keeps ps s0 (modLge s h f) := by
  refine Keeps.comp (a := 0x4000000000000) ?_ hm_ hs_
  clear hm_ hs_
  unfold modLge
  try dsimp only
  repeat' first
    | (simp +contextual +decide (maxDischargeDepth := 60) only [Keeps.refl, ↓keeps_half_lge]; done)
    | split

theorem keeps_modIo {ps : Nat} {s0 s : State} (f : FieldIo → FieldIo) (hm_ : subParts 0x100000000 ps = true)
    (hs_ : Keeps ps s0 s) : Keeps ps s0 (modIo s f) := by
  refine Keeps.comp (a := 0x100000000) ?_ hm_ hs_
  clear hm_ hs_
  unfold modIo
  try dsimp only
  repeat' first
    | (simp +contextual +decide (maxDischargeDepth := 60) only [Keeps.refl, ↓keeps_die_io]; done)
    | split

theorem keeps_ledgerOnce {ps : Nat} {s0 s : State} (h : HalfId) (src ev : Nat) (mk : Nat → List Byte) (hm_ : subParts 0x12238401240000 ps = true)
    (hs_ : Keeps ps s0 s) : Keeps ps s0 (ledgerOnce s h src ev mk) := by
  refine Keeps.comp (a := 0x12238401240000) ?_ hm_ hs_
  clear hm_ hs_
  unfold ledgerOnce
  try dsimp only
  repeat' first
    | (simp +contextual +decide (maxDischargeDepth := 60) only [↓keeps_ite, Keeps.refl, ↓keeps_ledger, ↓keeps_modDec]; done)
    | split

theorem keeps_putBank {ps : Nat} {s0 s : State} (h : HalfId) (f : Nat → Fld) (i : Nat) (b : Bool)
    (hm_ : ∀ n, fits ps (f n).key = true) (hs_ : Keeps ps s0 s) : Keeps ps s0 (putBank s h f i b) :=
  keeps_wrBit h _ _ _ (hm_ _) hs_

/-- A field of either of two registers fits where both fit. -/
theorem fits_loHi {m : Nat} (lo hi : Fld) (k : Nat) (h1 : fits m lo.key = true) (h2 : fits m hi.key = true) :
    fits m (loHi lo hi k).key = true := by
  unfold loHi; split <;> assumption

end Sys2Proof.Machine
end

