-- ==== Sys2Proof/Laws/KeepsRecorder.lean ====
section
/-!
SUPPORT. `Keeps` for the operations of Machine/Recorder.lean: the parts each may change.
-/

namespace Sys2Proof.Machine

open Sys2Proof (HalfId Instr Byte Word Accessor)

theorem keeps_modAcq {ps : Nat} {s0 s : State} (h : HalfId) (f : Recorder → Recorder) (hm_ : subParts 0x40000000000 ps = true)
    (hs_ : Keeps ps s0 s) : Keeps ps s0 (modAcq s h f) := by
  refine Keeps.comp (a := 0x40000000000) ?_ hm_ hs_
  clear hm_ hs_
  unfold modAcq
  try dsimp only
  repeat' first
    | (simp +contextual +decide (maxDischargeDepth := 60) only [Keeps.refl, ↓keeps_half_acq]; done)
    | split

theorem keeps_setRun {ps : Nat} {s0 s : State} (h : HalfId) (a : Nat) (r : AreaRun) (hm_ : subParts 0x40000000000 ps = true)
    (hs_ : Keeps ps s0 s) : Keeps ps s0 (setRun s h a r) := by
  refine Keeps.comp (a := 0x40000000000) ?_ hm_ hs_
  clear hm_ hs_
  unfold setRun
  try dsimp only
  repeat' first
    | (simp +contextual +decide (maxDischargeDepth := 60) only [Keeps.refl, ↓keeps_modAcq]; done)
    | split

theorem keeps_notCommitted {ps : Nat} {s0 s : State} (h : HalfId) (a cause : Nat) (hm_ : subParts 0x1027C4012C8000 ps = true)
    (hs_ : Keeps ps s0 s) : Keeps ps s0 (notCommitted s h a cause) := by
  refine Keeps.comp (a := 0x1027C4012C8000) ?_ hm_ hs_
  clear hm_ hs_
  unfold notCommitted
  try dsimp only
  repeat' first
    | (simp +contextual +decide (maxDischargeDepth := 60) only [Keeps.refl, ↓keeps_satAdd, ↓keeps_count, ↓keeps_ledger, ↓keeps_tallySet, ↓keeps_setRun, Reg.ACQ_ALOST_NOT_COMMITTED, Reg.ACQ_LOST_NOT_COMMITTED, fits_instKey]; done)
    | split

theorem keeps_openHeader {ps : Nat} {s0 s : State} (h : HalfId) (a st : Nat) (hm_ : subParts 0x40000000000 ps = true)
    (hs_ : Keeps ps s0 s) : Keeps ps s0 (openHeader s h a st) := by
  refine Keeps.comp (a := 0x40000000000) ?_ hm_ hs_
  clear hm_ hs_
  unfold openHeader
  try dsimp only
  repeat' first
    | (simp +contextual +decide (maxDischargeDepth := 60) only [Keeps.refl, ↓keeps_modAcq]; done)
    | split

theorem keeps_armArea {ps : Nat} {s0 s : State} (h : HalfId) (a : Nat) (hm_ : subParts 0x1027C4012C8000 ps = true)
    (hs_ : Keeps ps s0 s) : Keeps ps s0 (armArea s h a) := by
  refine Keeps.comp (a := 0x1027C4012C8000) ?_ hm_ hs_
  clear hm_ hs_
  unfold armArea
  try dsimp only
  repeat' first
    | (simp +contextual +decide (maxDischargeDepth := 60) only [↓keeps_ite, Keeps.refl, ↓keeps_modAcq, ↓keeps_setRun, ↓keeps_notCommitted, ↓keeps_openHeader]; done)
    | split

theorem keeps_noteChange {ps : Nat} {s0 s : State} (h : HalfId) (p : AreaRec → Nat → Bool) (what old : Nat) (hm_ : subParts 0x40000000000 ps = true)
    (hs_ : Keeps ps s0 s) : Keeps ps s0 (noteChange s h p what old) := by
  refine Keeps.comp (a := 0x40000000000) ?_ hm_ hs_
  clear hm_ hs_
  unfold noteChange
  try dsimp only
  repeat' first
    | (simp +contextual +decide (maxDischargeDepth := 60) only [↓keeps_ite, Keeps.refl, ↓keeps_setRun, *]; done)
    | decide
    | (intro _ _ _; try dsimp only)
    | with_reducible apply keeps_foldl
    | with_reducible apply keeps_setRun
    | split
    | with_reducible apply keeps_ite
  repeat' first
    | (simp +contextual +decide (maxDischargeDepth := 60) only [↓keeps_ite, Keeps.refl, ↓keeps_setRun]; done)
    | split

theorem keeps_closeSegment {ps : Nat} {s0 s : State} (h : HalfId) (a extra : Nat) (hm_ : subParts 0x260001208000 ps = true)
    (hs_ : Keeps ps s0 s) : Keeps ps s0 (closeSegment s h a extra) := by
  refine Keeps.comp (a := 0x260001208000) ?_ hm_ hs_
  clear hm_ hs_
  unfold closeSegment
  try dsimp only
  repeat' first
    | (simp +contextual +decide (maxDischargeDepth := 60) only [Keeps.refl, ↓keeps_count, ↓keeps_qPush, ↓keeps_modAcq, ↓keeps_setRun, ↓keeps_wr, Reg.ACQ_ALAST_FLAGS, Reg.ACQ_ALAST_SLOT, Reg.ACQ_ASEQ_SEQ, fits_instKey]; done)
    | split

theorem keeps_stopArea {ps : Nat} {s0 s : State} (h : HalfId) (a by_ extra : Nat) (hm_ : subParts 0x260001208000 ps = true)
    (hs_ : Keeps ps s0 s) : Keeps ps s0 (stopArea s h a by_ extra) := by
  refine Keeps.comp (a := 0x260001208000) ?_ hm_ hs_
  clear hm_ hs_
  unfold stopArea
  try dsimp only
  repeat' first
    | (simp +contextual +decide (maxDischargeDepth := 60) only [↓keeps_ite, Keeps.refl, ↓keeps_setRun, ↓keeps_closeSegment]; done)
    | split

theorem keeps_armAll {ps : Nat} {s0 s : State} (h : HalfId) (only : AreaRec → Bool) (hm_ : subParts 0x1027C4012C8000 ps = true)
    (hs_ : Keeps ps s0 s) : Keeps ps s0 (armAll s h only) := by
  refine Keeps.comp (a := 0x1027C4012C8000) ?_ hm_ hs_
  clear hm_ hs_
  unfold armAll
  try dsimp only
  repeat' first
    | (simp +contextual +decide (maxDischargeDepth := 60) only [↓keeps_ite, Keeps.refl, ↓keeps_armArea, *]; done)
    | decide
    | (intro _ _ _; try dsimp only)
    | with_reducible apply keeps_foldl
    | with_reducible apply keeps_armArea
    | split
    | with_reducible apply keeps_ite
  repeat' first
    | (simp +contextual +decide (maxDischargeDepth := 60) only [↓keeps_ite, Keeps.refl, ↓keeps_armArea]; done)
    | split

theorem keeps_recorderStart {ps : Nat} {s0 s : State} (h : HalfId) (hm_ : subParts 0x1027C4012C8000 ps = true)
    (hs_ : Keeps ps s0 s) : Keeps ps s0 (recorderStart s h) := by
  refine Keeps.comp (a := 0x1027C4012C8000) ?_ hm_ hs_
  clear hm_ hs_
  unfold recorderStart
  try dsimp only
  repeat' first
    | (simp +contextual +decide (maxDischargeDepth := 60) only [↓keeps_foldl, ↓keeps_ite, Keeps.refl, implies_true, ↓keeps_setRun, ↓keeps_armAll, ↓keeps_store, ↓keeps_free, ↓keeps_ticks, ↓keeps_die_time, ↓keeps_die_io, ↓keeps_die_gavel, ↓keeps_die_mon, ↓keeps_die_evSeq, ↓keeps_die_rails, ↓keeps_die_supply, ↓keeps_die_railsSel, *]; done)
    | decide
    | (intro _ _ _; try dsimp only)
    | with_reducible apply keeps_foldl
    | with_reducible apply keeps_setRun
    | with_reducible apply keeps_armAll
    | split
    | with_reducible apply keeps_ite
  repeat' first
    | (simp +contextual +decide (maxDischargeDepth := 60) only [↓keeps_foldl, ↓keeps_ite, Keeps.refl, implies_true, ↓keeps_setRun, ↓keeps_armAll, ↓keeps_store, ↓keeps_free, ↓keeps_ticks, ↓keeps_die_time, ↓keeps_die_io, ↓keeps_die_gavel, ↓keeps_die_mon, ↓keeps_die_evSeq, ↓keeps_die_rails, ↓keeps_die_supply, ↓keeps_die_railsSel]; done)
    | split

theorem keeps_storeInstant {ps : Nat} {s0 s : State} (h : HalfId) (i : Image) (ar : AreaRec) (a inst : Nat) (bs : List Byte) (hm_ : subParts 0x40000000000 ps = true)
    (hs_ : Keeps ps s0 s) : Keeps ps s0 (storeInstant s h i ar a inst bs) := by
  refine Keeps.comp (a := 0x40000000000) ?_ hm_ hs_
  clear hm_ hs_
  unfold storeInstant
  try dsimp only
  repeat' first
    | (simp +contextual +decide (maxDischargeDepth := 60) only [↓keeps_ite, Keeps.refl, ↓keeps_modAcq, ↓keeps_setRun]; done)
    | split

theorem keeps_repeatInstants {ps : Nat} {s0 s : State} (h : HalfId) (a inst : Nat) (hm_ : subParts 0x40000000000 ps = true)
    (hs_ : Keeps ps s0 s) : Keeps ps s0 (repeatInstants s h a inst) := by
  refine Keeps.comp (a := 0x40000000000) ?_ hm_ hs_
  clear hm_ hs_
  unfold repeatInstants
  try dsimp only
  repeat' first
    | (simp +contextual +decide (maxDischargeDepth := 60) only [↓keeps_foldl, ↓keeps_ite, Keeps.refl, implies_true, ↓keeps_storeInstant]; done)
    | split

theorem keeps_recordEntry {ps : Nat} {s0 s : State} (h : HalfId) (a k inst : Nat) (bs : List Byte) (hm_ : subParts 0x40000000000 ps = true)
    (hs_ : Keeps ps s0 s) : Keeps ps s0 (recordEntry s h a k inst bs) := by
  refine Keeps.comp (a := 0x40000000000) ?_ hm_ hs_
  clear hm_ hs_
  unfold recordEntry
  try dsimp only
  repeat' first
    | (simp +contextual +decide (maxDischargeDepth := 60) only [↓keeps_ite, Keeps.refl, ↓keeps_setRun, ↓keeps_storeInstant, ↓keeps_repeatInstants]; done)
    | split

theorem keeps_recordSample {ps : Nat} {s0 s : State} (h : HalfId) (p : AreaRec → Nat → Bool) (inst : Nat) (bs : List Byte) (hm_ : subParts 0x40000000000 ps = true)
    (hs_ : Keeps ps s0 s) : Keeps ps s0 (recordSample s h p inst bs) := by
  refine Keeps.comp (a := 0x40000000000) ?_ hm_ hs_
  clear hm_ hs_
  unfold recordSample
  try dsimp only
  repeat' first
    | (simp +contextual +decide (maxDischargeDepth := 60) only [↓keeps_foldl, ↓keeps_ite, Keeps.refl, implies_true, ↓keeps_recordEntry, *]; done)
    | decide
    | (intro _ _ _; try dsimp only)
    | with_reducible apply keeps_foldl
    | with_reducible apply keeps_recordEntry
    | split
    | with_reducible apply keeps_ite
  repeat' first
    | (simp +contextual +decide (maxDischargeDepth := 60) only [↓keeps_foldl, ↓keeps_ite, Keeps.refl, implies_true, ↓keeps_recordEntry]; done)
    | split

theorem keeps_startTrigger {ps : Nat} {s0 s : State} (h : HalfId) (i : Image) (ar : AreaRec) (a inst : Nat) (t : TrigEntry) (fl : Nat) (hm_ : subParts 0x40000000000 ps = true)
    (hs_ : Keeps ps s0 s) : Keeps ps s0 (startTrigger s h i ar a inst t fl) := by
  refine Keeps.comp (a := 0x40000000000) ?_ hm_ hs_
  clear hm_ hs_
  unfold startTrigger
  try dsimp only
  repeat' first
    | (simp +contextual +decide (maxDischargeDepth := 60) only [Keeps.refl, ↓keeps_modAcq, ↓keeps_setRun]; done)
    | split

theorem keeps_moreTrigger {ps : Nat} {s0 s : State} (h : HalfId) (i : Image) (ar : AreaRec) (a : Nat) (t : TrigEntry) (hm_ : subParts 0x40000000000 ps = true)
    (hs_ : Keeps ps s0 s) : Keeps ps s0 (moreTrigger s h i ar a t) := by
  refine Keeps.comp (a := 0x40000000000) ?_ hm_ hs_
  clear hm_ hs_
  unfold moreTrigger
  try dsimp only
  repeat' first
    | (simp +contextual +decide (maxDischargeDepth := 60) only [Keeps.refl, ↓keeps_setRun]; done)
    | split

theorem keeps_triggerArea {ps : Nat} {s0 s : State} (h : HalfId) (a kind index inst fl : Nat) (hm_ : subParts 0x10068000000000 ps = true)
    (hs_ : Keeps ps s0 s) : Keeps ps s0 (triggerArea s h a kind index inst fl) := by
  refine Keeps.comp (a := 0x10068000000000) ?_ hm_ hs_
  clear hm_ hs_
  unfold triggerArea
  try dsimp only
  repeat' first
    | (simp +contextual +decide (maxDischargeDepth := 60) only [↓keeps_ite, Keeps.refl, ↓keeps_count, ↓keeps_evBump, ↓keeps_openHeader, ↓keeps_startTrigger, ↓keeps_moreTrigger, Reg.PWR_PF_STAT_PF]; done)
    | split

theorem keeps_triggerAreas {ps : Nat} {s0 s : State} (h : HalfId) (mask kind index inst fl : Nat) (hm_ : subParts 0x10068000000000 ps = true)
    (hs_ : Keeps ps s0 s) : Keeps ps s0 (triggerAreas s h mask kind index inst fl) := by
  refine Keeps.comp (a := 0x10068000000000) ?_ hm_ hs_
  clear hm_ hs_
  unfold triggerAreas
  try dsimp only
  repeat' first
    | (simp +contextual +decide (maxDischargeDepth := 60) only [↓keeps_foldl, ↓keeps_ite, Keeps.refl, implies_true, ↓keeps_triggerArea]; done)
    | split

theorem keeps_execRecorderTrigger {s : State} (h : HalfId) (areas kind index inst : Nat) :
    Keeps 0x12068000000000 s (after s (execRecorderTrigger h areas kind index inst s)) := by
  unfold execRecorderTrigger
  try dsimp only
  repeat' first
    | (simp +contextual +decide (maxDischargeDepth := 60) only [after_next, Keeps.refl, ↓keeps_modDec, ↓keeps_triggerAreas]; done)
    | simp only [after_next]
    | split

theorem keeps_execSegmentClose {s : State} (h : HalfId) (area : Nat) :
    Keeps 0x1027C4012C8000 s (after s (execSegmentClose h area s)) := by
  unfold execSegmentClose
  try dsimp only
  repeat' first
    | (simp +contextual +decide (maxDischargeDepth := 60) only [after_next, ↓keeps_ite, Keeps.refl, ↓keeps_armArea, ↓keeps_closeSegment]; done)
    | simp only [after_next]
    | split

theorem keeps_execSegmentMaxLen {s : State} (h : HalfId) (area : Nat) :
    Keeps 0x1027C4012C8000 s (after s (execSegmentMaxLen h area s)) := by
  unfold execSegmentMaxLen
  try dsimp only
  repeat' first
    | (simp +contextual +decide (maxDischargeDepth := 60) only [after_next, ↓keeps_ite, Keeps.refl, ↓keeps_armArea, ↓keeps_closeSegment]; done)
    | simp only [after_next]
    | split

theorem keeps_measureSegment {ps : Nat} {s0 s : State} (h : HalfId) (a : Nat) (hm_ : subParts 0x40000000000 ps = true)
    (hs_ : Keeps ps s0 s) : Keeps ps s0 (measureSegment s h a) := by
  refine Keeps.comp (a := 0x40000000000) ?_ hm_ hs_
  clear hm_ hs_
  unfold measureSegment
  try dsimp only
  repeat' first
    | (simp +contextual +decide (maxDischargeDepth := 60) only [Keeps.refl, ↓keeps_modAcq]; done)
    | split

theorem keeps_execMeasurementsDone {s : State} (h : HalfId) (area : Nat) :
    Keeps 0x40000000000 s (after s (execMeasurementsDone h area s)) := by
  unfold execMeasurementsDone
  try dsimp only
  repeat' first
    | (simp +contextual +decide (maxDischargeDepth := 60) only [after_next, Keeps.refl, ↓keeps_measureSegment]; done)
    | simp only [after_next]
    | split

theorem keeps_latchMeas {ps : Nat} {s0 s : State} (h : HalfId) (hm_ : subParts 0x8000 ps = true)
    (hs_ : Keeps ps s0 s) : Keeps ps s0 (latchMeas s h) := by
  refine Keeps.comp (a := 0x8000) ?_ hm_ hs_
  clear hm_ hs_
  unfold latchMeas
  try dsimp only
  repeat' first
    | (simp +contextual +decide (maxDischargeDepth := 60) only [↓keeps_foldl, Keeps.refl, implies_true, ↓keeps_wr, Reg.ACQ_MDATA_VALUE, Reg.ACQ_MSEL_AREA, Reg.ACQ_MSEL_ENTRY, Reg.ACQ_MSEQ_SEQ, fits_instKey]; done)
    | split

theorem keeps_execAcqMselWrite {s : State} (h : HalfId) (v : Nat) :
    Keeps 0x8000 s (after s (execAcqMselWrite h v s)) := by
  unfold execAcqMselWrite
  try dsimp only
  repeat' first
    | (simp +contextual +decide (maxDischargeDepth := 60) only [after_next, Keeps.refl, ↓keeps_access, ↓keeps_latchMeas, ↓keeps_wr, Reg.ACQ_MSEL_AREA, Reg.ACQ_MSEL_ENTRY]; done)
    | simp only [after_next]
    | split

theorem keeps_startArea {ps : Nat} {s0 s : State} (h : HalfId) (a : Nat) (hm_ : subParts 0x1027C4012C8000 ps = true)
    (hs_ : Keeps ps s0 s) : Keeps ps s0 (startArea s h a) := by
  refine Keeps.comp (a := 0x1027C4012C8000) ?_ hm_ hs_
  clear hm_ hs_
  unfold startArea
  try dsimp only
  repeat' first
    | (simp +contextual +decide (maxDischargeDepth := 60) only [↓keeps_ite, Keeps.refl, ↓keeps_setRun, ↓keeps_armArea]; done)
    | split

theorem keeps_acqCmd {ps : Nat} {s0 s : State} (h : HalfId) (code areas : Nat) (hm_ : subParts 0x1027C4012C8000 ps = true)
    (hs_ : Keeps ps s0 s) : Keeps ps s0 (acqCmd s h code areas) := by
  refine Keeps.comp (a := 0x1027C4012C8000) ?_ hm_ hs_
  clear hm_ hs_
  unfold acqCmd
  try dsimp only
  repeat' first
    | (simp +contextual +decide (maxDischargeDepth := 60) only [↓keeps_foldl, ↓keeps_ite, Keeps.refl, implies_true, ↓keeps_result, ↓keeps_ledgerH, ↓keeps_stopArea, ↓keeps_triggerAreas, ↓keeps_startArea, Reg.ACQ_RESULT_CMD, Reg.ACQ_RESULT_SEQ, Reg.ACQ_RESULT_STATUS]; done)
    | split

theorem keeps_execTrigger {s : State} (h : HalfId) (areas : Nat) :
    Keeps 0x1027C4012C8000 s (after s (execTrigger h areas s)) := by
  unfold execTrigger
  try dsimp only
  repeat' first
    | (simp +contextual +decide (maxDischargeDepth := 60) only [after_next, Keeps.refl, ↓keeps_access, ↓keeps_acqCmd]; done)
    | simp only [after_next]
    | split

theorem keeps_execAcqStop {s : State} (h : HalfId) (areas : Nat) :
    Keeps 0x1027C4012C8000 s (after s (execAcqStop h areas s)) := by
  unfold execAcqStop
  try dsimp only
  repeat' first
    | (simp +contextual +decide (maxDischargeDepth := 60) only [after_next, Keeps.refl, ↓keeps_access, ↓keeps_acqCmd]; done)
    | simp only [after_next]
    | split

theorem keeps_execAcqStart {s : State} (h : HalfId) (areas : Nat) :
    Keeps 0x1027C4012C8000 s (after s (execAcqStart h areas s)) := by
  unfold execAcqStart
  try dsimp only
  repeat' first
    | (simp +contextual +decide (maxDischargeDepth := 60) only [after_next, Keeps.refl, ↓keeps_access, ↓keeps_acqCmd]; done)
    | simp only [after_next]
    | split

theorem keeps_execRecorderHealthWindow {s : State} (h : HalfId) (refused : Bool) :
    Keeps 0x1023C4012C0000 s (after s (execRecorderHealthWindow h refused s)) := by
  unfold execRecorderHealthWindow
  try dsimp only
  repeat' first
    | (simp +contextual +decide (maxDischargeDepth := 60) only [after_next, ↓keeps_ite, Keeps.refl, ↓keeps_tallySet]; done)
    | simp only [after_next]
    | split

theorem keeps_discardSegments {ps : Nat} {s0 s : State} (h : HalfId) (cause : Nat) (hm_ : subParts 0x10278401248000 ps = true)
    (hs_ : Keeps ps s0 s) : Keeps ps s0 (discardSegments s h cause) := by
  refine Keeps.comp (a := 0x10278401248000) ?_ hm_ hs_
  clear hm_ hs_
  unfold discardSegments
  try dsimp only
  repeat' first
    | (simp +contextual +decide (maxDischargeDepth := 60) only [↓keeps_foldl, Keeps.refl, implies_true, ↓keeps_satAdd, ↓keeps_ledgerH, ↓keeps_modAcq, Reg.ACQ_ALOST_NOT_COMMITTED, Reg.ACQ_LOST_DISCARDED, Reg.ACQ_LOST_NOT_COMMITTED, fits_instKey]; done)
    | split

end Sys2Proof.Machine
end

