-- ==== Sys2Proof/Laws/KeepsCrate.lean ====
section
/-!
SUPPORT. `Keeps` for the operations of Machine/Crate.lean: the parts each may change.
-/

namespace Sys2Proof.Machine

open Sys2Proof (HalfId Instr Byte Word Accessor)

theorem keeps_modCrt {ps : Nat} {s0 s : State} (h : HalfId) (f : CrateRun → CrateRun) (hm_ : subParts 0x80000000000 ps = true)
    (hs_ : Keeps ps s0 s) : Keeps ps s0 (modCrt s h f) := by
  refine Keeps.comp (a := 0x80000000000) ?_ hm_ hs_
  clear hm_ hs_
  unfold modCrt
  try dsimp only
  repeat' first
    | (simp +contextual +decide (maxDischargeDepth := 60) only [Keeps.refl, ↓keeps_half_crt]; done)
    | split

theorem keeps_spacePut {ps : Nat} {s0 s : State} (h : HalfId) (space a : Nat) (bs : List Byte) (hm_ : subParts 0xC0000000000 ps = true)
    (hs_ : Keeps ps s0 s) : Keeps ps s0 (spacePut s h space a bs) := by
  refine Keeps.comp (a := 0xC0000000000) ?_ hm_ hs_
  clear hm_ hs_
  unfold spacePut
  try dsimp only
  repeat' first
    | (simp +contextual +decide (maxDischargeDepth := 60) only [↓keeps_ite, Keeps.refl, ↓keeps_modAcq, ↓keeps_modCrt]; done)
    | split

theorem keeps_crtResult {ps : Nat} {s0 s : State} (h : HalfId) (c st : Nat) (hm_ : subParts 0x10000 ps = true)
    (hs_ : Keeps ps s0 s) : Keeps ps s0 (crtResult s h c st) := by
  refine Keeps.comp (a := 0x10000) ?_ hm_ hs_
  clear hm_ hs_
  unfold crtResult
  try dsimp only
  repeat' first
    | (simp +contextual +decide (maxDischargeDepth := 60) only [Keeps.refl, ↓keeps_result, Reg.CRT_RESULT_CMD, Reg.CRT_RESULT_SEQ, Reg.CRT_RESULT_STATUS]; done)
    | split

theorem keeps_jobShow {ps : Nat} {s0 s : State} (h : HalfId) (j : CrateJob) (hm_ : subParts 0x80000010000 ps = true)
    (hs_ : Keeps ps s0 s) : Keeps ps s0 (jobShow s h j) := by
  refine Keeps.comp (a := 0x80000010000) ?_ hm_ hs_
  clear hm_ hs_
  unfold jobShow
  try dsimp only
  repeat' first
    | (simp +contextual +decide (maxDischargeDepth := 60) only [Keeps.refl, ↓keeps_modCrt, ↓keeps_wr, Reg.CRT_IN_CONSUMED_COUNT, Reg.CRT_OUT_PRODUCED_COUNT]; done)
    | split

theorem keeps_jobEnd {ps : Nat} {s0 s : State} (h : HalfId) (st : Nat) (hm_ : subParts 0x80000010000 ps = true)
    (hs_ : Keeps ps s0 s) : Keeps ps s0 (jobEnd s h st) := by
  refine Keeps.comp (a := 0x80000010000) ?_ hm_ hs_
  clear hm_ hs_
  unfold jobEnd
  try dsimp only
  repeat' first
    | (simp +contextual +decide (maxDischargeDepth := 60) only [Keeps.refl, ↓keeps_modCrt, ↓keeps_crtResult, ↓keeps_wr, Reg.CRT_STAT_HSTATE]; done)
    | split

theorem keeps_jobBoundary {ps : Nat} {s0 s : State} (h : HalfId) (j : CrateJob) (hm_ : subParts 0x80000010000 ps = true)
    (hs_ : Keeps ps s0 s) : Keeps ps s0 (jobBoundary s h j) := by
  refine Keeps.comp (a := 0x80000010000) ?_ hm_ hs_
  clear hm_ hs_
  unfold jobBoundary
  try dsimp only
  repeat' first
    | (simp +contextual +decide (maxDischargeDepth := 60) only [↓keeps_ite, Keeps.refl, ↓keeps_crtResult, ↓keeps_jobShow, ↓keeps_jobEnd, ↓keeps_wr, Reg.CRT_STAT_HSTATE]; done)
    | split

theorem keeps_jobFail {ps : Nat} {s0 s : State} (h : HalfId) (j : CrateJob) (st off n : Nat) (hm_ : subParts 0xC0020010000 ps = true)
    (hs_ : Keeps ps s0 s) : Keeps ps s0 (jobFail s h j st off n) := by
  refine Keeps.comp (a := 0xC0020010000) ?_ hm_ hs_
  clear hm_ hs_
  unfold jobFail
  try dsimp only
  repeat' first
    | (simp +contextual +decide (maxDischargeDepth := 60) only [↓keeps_ite, Keeps.refl, ↓keeps_spacePut, ↓keeps_jobEnd, ↓keeps_wr, ↓keeps_free, Reg.CRT_ERRPOS_BLOCK, Reg.CRT_ERRPOS_OFFSET]; done)
    | split

theorem keeps_compressBlock {ps : Nat} {s0 s : State} (h : HalfId) (j : CrateJob) (choice : List Byte) (hm_ : subParts 0xC0000010000 ps = true)
    (hs_ : Keeps ps s0 s) : Keeps ps s0 (compressBlock s h j choice) := by
  refine Keeps.comp (a := 0xC0000010000) ?_ hm_ hs_
  clear hm_ hs_
  unfold compressBlock
  try dsimp only
  repeat' first
    | (simp +contextual +decide (maxDischargeDepth := 60) only [Keeps.refl, ↓keeps_spacePut, ↓keeps_jobBoundary]; done)
    | split

theorem keeps_decompressBlock {ps : Nat} {s0 s : State} (h : HalfId) (j : CrateJob) (hm_ : subParts 0xC0020010000 ps = true)
    (hs_ : Keeps ps s0 s) : Keeps ps s0 (decompressBlock s h j) := by
  refine Keeps.comp (a := 0xC0020010000) ?_ hm_ hs_
  clear hm_ hs_
  unfold decompressBlock
  try dsimp only
  repeat' first
    | (simp +contextual +decide (maxDischargeDepth := 60) only [↓keeps_ite, Keeps.refl, ↓keeps_spacePut, ↓keeps_jobBoundary, ↓keeps_jobFail]; done)
    | split

theorem keeps_hostBlock {ps : Nat} {s0 s : State} (h : HalfId) (choice : List Byte) (memErr : Bool) (hm_ : subParts 0xC0020010000 ps = true)
    (hs_ : Keeps ps s0 s) : Keeps ps s0 (hostBlock s h choice memErr) := by
  refine Keeps.comp (a := 0xC0020010000) ?_ hm_ hs_
  clear hm_ hs_
  unfold hostBlock
  try dsimp only
  repeat' first
    | (simp +contextual +decide (maxDischargeDepth := 60) only [↓keeps_ite, Keeps.refl, ↓keeps_jobFail, ↓keeps_compressBlock, ↓keeps_decompressBlock, Reg.CRT_STAT_HSTATE]; done)
    | split

theorem keeps_hostPowerFail {ps : Nat} {s0 s : State} (h : HalfId) (hm_ : subParts 0x80000010000 ps = true)
    (hs_ : Keeps ps s0 s) : Keeps ps s0 (hostPowerFail s h) := by
  refine Keeps.comp (a := 0x80000010000) ?_ hm_ hs_
  clear hm_ hs_
  unfold hostPowerFail
  try dsimp only
  repeat' first
    | (simp +contextual +decide (maxDischargeDepth := 60) only [Keeps.refl, ↓keeps_jobEnd]; done)
    | split

theorem keeps_crtCmd {ps : Nat} {s0 s : State} (h : HalfId) (c : Nat) (firmware : Bool) (hm_ : subParts 0x80000010000 ps = true)
    (hs_ : Keeps ps s0 s) : Keeps ps s0 (crtCmd s h c firmware) := by
  refine Keeps.comp (a := 0x80000010000) ?_ hm_ hs_
  clear hm_ hs_
  unfold crtCmd
  try dsimp only
  repeat' first
    | (simp +contextual +decide (maxDischargeDepth := 60) only [↓keeps_ite, Keeps.refl, ↓keeps_modCrt, ↓keeps_crtResult, ↓keeps_jobEnd, ↓keeps_jobBoundary, ↓keeps_wr, Reg.CRT_ERRPOS_BLOCK, Reg.CRT_ERRPOS_OFFSET, Reg.CRT_JCAP_CAP, Reg.CRT_JDST_ADDR, Reg.CRT_STAT_HSTATE]; done)
    | split

theorem keeps_execCrtStart {s : State} (h : HalfId) (firmware : Bool) :
    Keeps 0x80000010001 s (after s (execCrtStart h firmware s)) := by
  unfold execCrtStart
  try dsimp only
  repeat' first
    | (simp +contextual +decide (maxDischargeDepth := 60) only [after_next, Keeps.refl, ↓keeps_unitAccess, ↓keeps_crtCmd]; done)
    | simp only [after_next]
    | split

theorem keeps_execCrtResume {s : State} (h : HalfId) (firmware : Bool) :
    Keeps 0x80000010001 s (after s (execCrtResume h firmware s)) := by
  unfold execCrtResume
  try dsimp only
  repeat' first
    | (simp +contextual +decide (maxDischargeDepth := 60) only [after_next, Keeps.refl, ↓keeps_unitAccess, ↓keeps_crtCmd]; done)
    | simp only [after_next]
    | split

theorem keeps_execCrtAbort {s : State} (h : HalfId) :
    Keeps 0x80000010001 s (after s (execCrtAbort h s)) := by
  unfold execCrtAbort
  try dsimp only
  repeat' first
    | (simp +contextual +decide (maxDischargeDepth := 60) only [after_next, Keeps.refl, ↓keeps_unitAccess, ↓keeps_crtCmd]; done)
    | simp only [after_next]
    | split

end Sys2Proof.Machine
end

