-- ==== Sys2Proof/Laws/KeepsTime.lean ====
section
/-!
SUPPORT. `Keeps` for the operations of Machine/Time.lean: the parts each may change.
-/

namespace Sys2Proof.Machine

open Sys2Proof (HalfId Instr Byte Word Accessor)

theorem keeps_modTime {ps : Nat} {s0 s : State} (f : TimeGen → TimeGen) (hm_ : subParts 0x40000000 ps = true)
    (hs_ : Keeps ps s0 s) : Keeps ps s0 (modTime s f) := by
  refine Keeps.comp (a := 0x40000000) ?_ hm_ hs_
  clear hm_ hs_
  unfold modTime
  try dsimp only
  repeat' first
    | (simp +contextual +decide (maxDischargeDepth := 60) only [Keeps.refl, ↓keeps_die_time]; done)
    | split

theorem keeps_tallyTime {ps : Nat} {s0 s : State} (cause code ev : Nat) (hm_ : subParts 0x1023C4012C0000 ps = true)
    (hs_ : Keeps ps s0 s) : Keeps ps s0 (tallyTime s cause code ev) := by
  refine Keeps.comp (a := 0x1023C4012C0000) ?_ hm_ hs_
  clear hm_ hs_
  unfold tallyTime
  try dsimp only
  repeat' first
    | (simp +contextual +decide (maxDischargeDepth := 60) only [↓keeps_ite, Keeps.refl, ↓keeps_tallySet]; done)
    | split

theorem keeps_tallySync {ps : Nat} {s0 s : State}  (hm_ : subParts 0x1023C4012C0000 ps = true)
    (hs_ : Keeps ps s0 s) : Keeps ps s0 (tallySync s) := by
  refine Keeps.comp (a := 0x1023C4012C0000) ?_ hm_ hs_
  clear hm_ hs_
  unfold tallySync
  try dsimp only
  repeat' first
    | (simp +contextual +decide (maxDischargeDepth := 60) only [Keeps.refl, ↓keeps_tallyTime]; done)
    | split

theorem keeps_setSync {ps : Nat} {s0 s : State} (b : Bool) (hm_ : subParts 0x1023C4012C0008 ps = true)
    (hs_ : Keeps ps s0 s) : Keeps ps s0 (setSync s b) := by
  refine Keeps.comp (a := 0x1023C4012C0008) ?_ hm_ hs_
  clear hm_ hs_
  unfold setSync
  try dsimp only
  repeat' first
    | (simp +contextual +decide (maxDischargeDepth := 60) only [Keeps.refl, ↓keeps_ledgerField, ↓keeps_tallySync, ↓keeps_wr, ↓keeps_wrB, Reg.TIME_CFG_SERVO, Reg.TIME_OFFSET_NS, Reg.TIME_STAT_SERVO_STATE, Reg.TIME_STAT_SYNC]; done)
    | split

theorem keeps_trySync {ps : Nat} {s0 s : State}  (hm_ : subParts 0x1023C4012C0008 ps = true)
    (hs_ : Keeps ps s0 s) : Keeps ps s0 (trySync s) := by
  refine Keeps.comp (a := 0x1023C4012C0008) ?_ hm_ hs_
  clear hm_ hs_
  unfold trySync
  try dsimp only
  repeat' first
    | (simp +contextual +decide (maxDischargeDepth := 60) only [↓keeps_ite, Keeps.refl, ↓keeps_setSync]; done)
    | split

theorem keeps_markStep {ps : Nat} {s0 s : State} (h : HalfId) (hm_ : subParts 0x40000000000 ps = true)
    (hs_ : Keeps ps s0 s) : Keeps ps s0 (markStep s h) := by
  refine Keeps.comp (a := 0x40000000000) ?_ hm_ hs_
  clear hm_ hs_
  unfold markStep
  try dsimp only
  repeat' first
    | (simp +contextual +decide (maxDischargeDepth := 60) only [Keeps.refl, ↓keeps_half_acq]; done)
    | split

theorem keeps_loadBase {ps : Nat} {s0 s : State} (t : Nat) (origin : Nat) (hm_ : subParts 0x1027C4412C0008 ps = true)
    (hs_ : Keeps ps s0 s) : Keeps ps s0 (loadBase s t origin) := by
  refine Keeps.comp (a := 0x1027C4412C0008) ?_ hm_ hs_
  clear hm_ hs_
  unfold loadBase
  try dsimp only
  repeat' first
    | (simp +contextual +decide (maxDischargeDepth := 60) only [Keeps.refl, ↓keeps_ledgerField, ↓keeps_modTime, ↓keeps_setSync, ↓keeps_markStep, ↓keeps_wrB, Reg.TIME_STAT_GRID_SLEW, *]; done)
    | decide
    | (intro _ _ _; try dsimp only)
    | with_reducible apply keeps_foldl
    | with_reducible apply keeps_ledgerField
    | with_reducible apply keeps_modTime
    | with_reducible apply keeps_setSync
    | with_reducible apply keeps_markStep
    | with_reducible apply keeps_wrB
    | split
    | with_reducible apply keeps_ite
  repeat' first
    | (simp +contextual +decide (maxDischargeDepth := 60) only [Keeps.refl, ↓keeps_ledgerField, ↓keeps_modTime, ↓keeps_setSync, ↓keeps_markStep, ↓keeps_wrB, Reg.TIME_STAT_GRID_SLEW]; done)
    | split

theorem keeps_servoCounts {ps : Nat} {s0 s : State} (off : Int) (hm_ : subParts 0x40000000 ps = true)
    (hs_ : Keeps ps s0 s) : Keeps ps s0 (servoCounts s off) := by
  refine Keeps.comp (a := 0x40000000) ?_ hm_ hs_
  clear hm_ hs_
  unfold servoCounts
  try dsimp only
  repeat' first
    | (simp +contextual +decide (maxDischargeDepth := 60) only [Keeps.refl, ↓keeps_modTime]; done)
    | split

theorem keeps_servoSlew {ps : Nat} {s0 s : State}  (hm_ : subParts 0x60000000 ps = true)
    (hs_ : Keeps ps s0 s) : Keeps ps s0 (servoSlew s) := by
  refine Keeps.comp (a := 0x60000000) ?_ hm_ hs_
  clear hm_ hs_
  unfold servoSlew
  try dsimp only
  repeat' first
    | (simp +contextual +decide (maxDischargeDepth := 60) only [Keeps.refl, ↓keeps_freeVal, ↓keeps_modTime]; done)
    | split

theorem keeps_measureBase {ps : Nat} {s0 s : State} (off : Int) (hm_ : subParts 0x1023C4412C0008 ps = true)
    (hs_ : Keeps ps s0 s) : Keeps ps s0 (measureBase s off) := by
  refine Keeps.comp (a := 0x1023C4412C0008) ?_ hm_ hs_
  clear hm_ hs_
  unfold measureBase
  try dsimp only
  repeat' first
    | (simp +contextual +decide (maxDischargeDepth := 60) only [Keeps.refl, ↓keeps_setSync, ↓keeps_servoCounts, ↓keeps_wr, Reg.TIME_OFFSET_NS, Reg.TIME_STAT_SERVO_STATE]; done)
    | split

theorem keeps_latchTime {ps : Nat} {s0 s : State} (h : HalfId) (hm_ : subParts 0x40000000 ps = true)
    (hs_ : Keeps ps s0 s) : Keeps ps s0 (latchTime s h) := by
  refine Keeps.comp (a := 0x40000000) ?_ hm_ hs_
  clear hm_ hs_
  unfold latchTime
  try dsimp only
  repeat' first
    | (simp +contextual +decide (maxDischargeDepth := 60) only [Keeps.refl, ↓keeps_modTime]; done)
    | split

theorem keeps_takeStk {ps : Nat} {s0 s : State} (h : HalfId) (origin : Nat) (late : Option Nat) (hm_ : subParts 0x20000104000 ps = true)
    (hs_ : Keeps ps s0 s) : Keeps ps s0 (takeStk s h origin late) := by
  refine Keeps.comp (a := 0x20000104000) ?_ hm_ hs_
  clear hm_ hs_
  unfold takeStk
  try dsimp only
  repeat' first
    | (simp +contextual +decide (maxDischargeDepth := 60) only [Keeps.refl, ↓keeps_wrapInc, ↓keeps_wr, ↓keeps_wrB, ↓keeps_half_stk, Reg.LGE_CYCLE_COUNT, Reg.STK_EPOCH_EPOCH, Reg.STK_LATE_NS, Reg.STK_STAT_LATE, Reg.STK_STAT_ORIGIN, Reg.STK_STAT_UNSYNC, Reg.STK_TAKE_NS_NS, Reg.STK_TAKE_SEC_SEC]; done)
    | split

theorem keeps_domainTake {ps : Nat} {s0 s : State} (h : HalfId) (hm_ : subParts 0x10238401344000 ps = true)
    (hs_ : Keeps ps s0 s) : Keeps ps s0 (domainTake s h) := by
  refine Keeps.comp (a := 0x10238401344000) ?_ hm_ hs_
  clear hm_ hs_
  unfold domainTake
  try dsimp only
  repeat' first
    | (simp +contextual +decide (maxDischargeDepth := 60) only [Keeps.refl, ↓keeps_ledgerH, ↓keeps_takeStk, ↓keeps_wr, ↓keeps_wrB, Reg.STK_DLAST_TAG, Reg.STK_STAT_DPEND, Reg.STK_STAT_UNSYNC]; done)
    | split

theorem keeps_armDomain {ps : Nat} {s0 s : State} (h : HalfId) (t tag : Nat) (hm_ : subParts 0x10238401344000 ps = true)
    (hs_ : Keeps ps s0 s) : Keeps ps s0 (armDomain s h t tag) := by
  refine Keeps.comp (a := 0x10238401344000) ?_ hm_ hs_
  clear hm_ hs_
  unfold armDomain
  try dsimp only
  repeat' first
    | (simp +contextual +decide (maxDischargeDepth := 60) only [Keeps.refl, ↓keeps_domainTake, ↓keeps_wrB, ↓keeps_half_stk, Reg.STK_DLAST_TAG, Reg.STK_STAT_DPEND, Reg.STK_STAT_ORIGIN]; done)
    | split

theorem keeps_tick {ps : Nat} {s0 s : State}  (hm_ : subParts 0x800050000000 ps = true)
    (hs_ : Keeps ps s0 s) : Keeps ps s0 (tick s) := by
  refine Keeps.comp (a := 0x800050000000) ?_ hm_ hs_
  clear hm_ hs_
  unfold tick
  try dsimp only
  repeat' first
    | (simp +contextual +decide (maxDischargeDepth := 60) only [Keeps.refl, ↓keeps_tracePort, ↓keeps_modTime, ↓keeps_ticks, *]; done)
    | decide
    | (intro _ _ _; try dsimp only)
    | with_reducible apply keeps_foldl
    | with_reducible apply keeps_tracePort
    | with_reducible apply keeps_modTime
    | split
    | with_reducible apply keeps_ite
  repeat' first
    | (simp +contextual +decide (maxDischargeDepth := 60) only [Keeps.refl, ↓keeps_tracePort, ↓keeps_modTime, ↓keeps_ticks]; done)
    | split

end Sys2Proof.Machine
end

