-- ==== Sys2Proof/Laws/KeepsArcadeOps.lean ====
section
/-!
SUPPORT. `Keeps` for the operations of Machine/ArcadeOps.lean: the parts each may change.
-/

namespace Sys2Proof.Machine

open Sys2Proof (HalfId Instr Byte Word Accessor)

theorem keeps_modArd {ps : Nat} {s0 s : State} (h : HalfId) (f : Arcade → Arcade) (hm_ : subParts 0x100000000000 ps = true)
    (hs_ : Keeps ps s0 s) : Keeps ps s0 (modArd s h f) := by
  refine Keeps.comp (a := 0x100000000000) ?_ hm_ hs_
  clear hm_ hs_
  unfold modArd
  try dsimp only
  repeat' first
    | (simp +contextual +decide (maxDischargeDepth := 60) only [Keeps.refl, ↓keeps_half_ard]; done)
    | split

theorem keeps_replayTake {ps : Nat} {s0 s : State} (h : HalfId) (f : List Byte) (hm_ : subParts 0x100000000000 ps = true)
    (hs_ : Keeps ps s0 s) : Keeps ps s0 (replayTake s h f) := by
  refine Keeps.comp (a := 0x100000000000) ?_ hm_ hs_
  clear hm_ hs_
  unfold replayTake
  try dsimp only
  repeat' first
    | (simp +contextual +decide (maxDischargeDepth := 60) only [Keeps.refl, ↓keeps_modArd]; done)
    | split

theorem keeps_policeBump {ps : Nat} {s0 s : State} (h : HalfId) (k : Nat) (hm_ : subParts 0x100000000000 ps = true)
    (hs_ : Keeps ps s0 s) : Keeps ps s0 (policeBump s h k) := by
  refine Keeps.comp (a := 0x100000000000) ?_ hm_ hs_
  clear hm_ hs_
  unfold policeBump
  try dsimp only
  repeat' first
    | (simp +contextual +decide (maxDischargeDepth := 60) only [Keeps.refl, ↓keeps_modArd]; done)
    | split

theorem keeps_policePass {ps : Nat} {s0 s : State} (h : HalfId) (lane : Nat) (f : List Byte) (hm_ : subParts 0x100000000000 ps = true)
    (hs_ : Keeps ps s0 s) : Keeps ps s0 (policePass s h lane f) := by
  refine Keeps.comp (a := 0x100000000000) ?_ hm_ hs_
  clear hm_ hs_
  unfold policePass
  try dsimp only
  repeat' first
    | (simp +contextual +decide (maxDischargeDepth := 60) only [↓keeps_foldl, ↓keeps_ite, Keeps.refl, implies_true, ↓keeps_policeBump]; done)
    | split

theorem keeps_sourceEvent {ps : Nat} {s0 s : State} (h : HalfId) (auth : Bool) (f : List Byte) (hm_ : subParts 0x10338401240000 ps = true)
    (hs_ : Keeps ps s0 s) : Keeps ps s0 (sourceEvent s h auth f) := by
  refine Keeps.comp (a := 0x10338401240000) ?_ hm_ hs_
  clear hm_ hs_
  unfold sourceEvent
  try dsimp only
  repeat' first
    | (simp +contextual +decide (maxDischargeDepth := 60) only [↓keeps_ite, Keeps.refl, ↓keeps_ledgerH, ↓keeps_modArd]; done)
    | split

theorem keeps_frameRefuse {ps : Nat} {s0 s : State} (h : HalfId) (lane : Nat) (f : List Byte) (c : Nat) (hm_ : subParts 0x1033C4016C0000 ps = true)
    (hs_ : Keeps ps s0 s) : Keeps ps s0 (frameRefuse s h lane f c) := by
  refine Keeps.comp (a := 0x1033C4016C0000) ?_ hm_ hs_
  clear hm_ hs_
  unfold frameRefuse
  try dsimp only
  repeat' first
    | (simp +contextual +decide (maxDischargeDepth := 60) only [↓keeps_ite, Keeps.refl, ↓keeps_satAdd, ↓keeps_count, ↓keeps_tallySet, ↓keeps_sourceEvent, Reg.ARD_DROP_NOT_OWNER, Reg.ARD_DROP_POLICED, Reg.ARD_DROP_TEST_DISC, Reg.ARD_DUP_COUNT, Reg.ARD_ERR_CRC, Reg.ARD_SEC_AUTH_FAIL, Reg.ARD_SEC_NO_KEY, fits_instKey]; done)
    | split

theorem keeps_eraBump {ps : Nat} {s0 s : State} (h : HalfId) (cause : Nat) (hm_ : subParts 0x10338401640000 ps = true)
    (hs_ : Keeps ps s0 s) : Keeps ps s0 (eraBump s h cause) := by
  refine Keeps.comp (a := 0x10338401640000) ?_ hm_ hs_
  clear hm_ hs_
  unfold eraBump
  try dsimp only
  repeat' first
    | (simp +contextual +decide (maxDischargeDepth := 60) only [Keeps.refl, ↓keeps_wrapInc, ↓keeps_ledgerH, ↓keeps_modArd, ↓keeps_store, Reg.ARD_ERA_ERA]; done)
    | split

theorem keeps_buildFrame {ps : Nat} {s0 s : State} (h : HalfId) (cls type dst : Nat) (payload : List Byte) (hm_ : subParts 0x10338401640000 ps = true)
    (hs_ : Keeps ps s0 s) : Keeps ps s0 ((buildFrame s h cls type dst payload)).2 := by
  refine Keeps.comp (a := 0x10338401640000) ?_ hm_ hs_
  clear hm_ hs_
  unfold buildFrame
  try dsimp only
  repeat' first
    | (simp +contextual +decide (maxDischargeDepth := 60) only [↓keeps_ite, Keeps.refl, ↓keeps_modArd, ↓keeps_eraBump]; done)
    | split

theorem keeps_putFrames {ps : Nat} {s0 s : State} (h : HalfId) (fs : List (Nat × List Byte)) (hm_ : subParts 0x120000000000 ps = true)
    (hs_ : Keeps ps s0 s) : Keeps ps s0 (putFrames s h fs) := by
  refine Keeps.comp (a := 0x120000000000) ?_ hm_ hs_
  clear hm_ hs_
  unfold putFrames
  try dsimp only
  repeat' first
    | (simp +contextual +decide (maxDischargeDepth := 60) only [↓keeps_foldl, Keeps.refl, implies_true, ↓keeps_count, ↓keeps_modArd]; done)
    | split

theorem keeps_sendFrame {ps : Nat} {s0 s : State} (h : HalfId) (cls type dst : Nat) (payload : List Byte) (hm_ : subParts 0x10338401640000 ps = true)
    (hs_ : Keeps ps s0 s) : Keeps ps s0 (sendFrame s h cls type dst payload) := by
  refine Keeps.comp (a := 0x10338401640000) ?_ hm_ hs_
  clear hm_ hs_
  unfold sendFrame
  try dsimp only
  repeat' first
    | (simp +contextual +decide (maxDischargeDepth := 60) only [↓keeps_ite, Keeps.refl, ↓keeps_buildFrame, ↓keeps_putFrames]; done)
    | split

theorem keeps_forwardFrame {ps : Nat} {s0 s : State} (h : HalfId) (lane : Nat) (f : List Byte) (hm_ : subParts 0x120000000000 ps = true)
    (hs_ : Keeps ps s0 s) : Keeps ps s0 (forwardFrame s h lane f) := by
  refine Keeps.comp (a := 0x120000000000) ?_ hm_ hs_
  clear hm_ hs_
  unfold forwardFrame
  try dsimp only
  repeat' first
    | (simp +contextual +decide (maxDischargeDepth := 60) only [Keeps.refl, ↓keeps_putFrames]; done)
    | split

theorem keeps_receiveFrame {ps : Nat} {s0 s : State} (h : HalfId) (lane cls type : Nat) (f : List Byte)
    (act : State → State) (hm_ : subParts 0x1033C4016C0000 ps = true) (ha_ : ∀ t, Keeps ps s0 t → Keeps ps s0 (act t))
    (hs_ : Keeps ps s0 s) : Keeps ps s0 (receiveFrame s h lane cls type f act) := by
  have hm (m : Nat) (h : subParts m 0x1033C4016C0000 = true) : subParts m ps = true := by
    simp only [subParts, beq_iff_eq] at *
    rw [← h, Nat.and_assoc, hm_]
  unfold receiveFrame
  have h1 := keeps_count h (0x294 + 4 * lane) 1 (hm _ (by decide)) hs_
  generalize count s h (0x294 + 4 * lane) = s1 at h1
  refine keeps_ite _ hs_ (keeps_ite _ (keeps_frameRefuse h lane f 1 (hm _ (by decide)) h1) ?_)
  generalize frameCheck s1 h lane f = c
  have h2 : Keeps ps s0 (if c = 7 ∨ c = 0 then policePass s1 h lane f else s1) :=
    keeps_ite _ (keeps_policePass h lane f (hm _ (by decide)) h1) h1
  dsimp only
  generalize (if c = 7 ∨ c = 0 then policePass s1 h lane f else s1) = s2 at h2
  have h3 := keeps_replayTake h f (hm _ (by decide)) h2
  refine keeps_ite _ (keeps_forwardFrame h lane f (hm _ (by decide)) (keeps_frameRefuse h lane f 2 (hm _ (by decide)) h2))
    (keeps_ite _ (keeps_forwardFrame h lane f (hm _ (by decide)) (keeps_frameRefuse h lane f 7 (hm _ (by decide)) h3))
    (keeps_ite _ (keeps_frameRefuse h lane f c (hm _ (by decide)) h2) ?_))
  exact keeps_ite _ (keeps_frameRefuse h lane f 6 (hm _ (by decide)) h3)
    (ha_ _ (keeps_forwardFrame h lane f (hm _ (by decide)) h3))

theorem keeps_acceptPoint {ps : Nat} {s0 s : State} (h : HalfId) (k value ttl at_ : Nat) (test : Bool) (hm_ : subParts 0x1033C4016C0000 ps = true)
    (hs_ : Keeps ps s0 s) : Keeps ps s0 (acceptPoint s h k value ttl at_ test) := by
  refine Keeps.comp (a := 0x1033C4016C0000) ?_ hm_ hs_
  clear hm_ hs_
  unfold acceptPoint
  try dsimp only
  repeat' first
    | (simp +contextual +decide (maxDischargeDepth := 60) only [↓keeps_ite, Keeps.refl, ↓keeps_tallySet, ↓keeps_modArd, ↓keeps_wr, Reg.ARD_BZ_STALE_COUNT]; done)
    | split

theorem keeps_pointGoesStale {ps : Nat} {s0 s : State} (h : HalfId) (k : Nat) (hm_ : subParts 0x1033C4016C0000 ps = true)
    (hs_ : Keeps ps s0 s) : Keeps ps s0 (pointGoesStale s h k) := by
  refine Keeps.comp (a := 0x1033C4016C0000) ?_ hm_ hs_
  clear hm_ hs_
  unfold pointGoesStale
  try dsimp only
  repeat' first
    | (simp +contextual +decide (maxDischargeDepth := 60) only [Keeps.refl, ↓keeps_ledgerH, ↓keeps_tallySet, ↓keeps_modArd, ↓keeps_wr, Reg.ARD_BZ_STALE_COUNT]; done)
    | split

theorem keeps_ringUpdate {ps : Nat} {s0 s : State} (h : HalfId) (hm_ : subParts 0x1023C4016C0000 ps = true)
    (hs_ : Keeps ps s0 s) : Keeps ps s0 (ringUpdate s h) := by
  refine Keeps.comp (a := 0x1023C4016C0000) ?_ hm_ hs_
  clear hm_ hs_
  unfold ringUpdate
  try dsimp only
  repeat' first
    | (simp +contextual +decide (maxDischargeDepth := 60) only [↓keeps_ite, Keeps.refl, ↓keeps_ledgerH, ↓keeps_tallySet, ↓keeps_wr, Reg.ARD_MAP_BREAKS, Reg.ARD_MAP_INDEX, Reg.ARD_MAP_SIZE, Reg.ARD_STAT_L0_UP, Reg.ARD_STAT_L1_UP, Reg.ARD_STAT_RING]; done)
    | split

theorem keeps_laneChange {ps : Nat} {s0 s : State} (h : HalfId) (lane : Nat) (up : Bool) (hm_ : subParts 0x1023C4016C0000 ps = true)
    (hs_ : Keeps ps s0 s) : Keeps ps s0 (laneChange s h lane up) := by
  refine Keeps.comp (a := 0x1023C4016C0000) ?_ hm_ hs_
  clear hm_ hs_
  unfold laneChange
  try dsimp only
  repeat' first
    | (simp +contextual +decide (maxDischargeDepth := 60) only [↓keeps_ite, Keeps.refl, ↓keeps_ledgerH, ↓keeps_ringUpdate, ↓keeps_wrB, Reg.ARD_STAT_L0_UP, Reg.ARD_STAT_L1_UP, Reg.ARD_STAT_UL_UP, Reg.ARD_STAT_WRAP_E, Reg.ARD_STAT_WRAP_W, laneUpFld, fits_ite, *]; done)
    | decide
    | (intro _ _ _; try dsimp only)
    | with_reducible apply keeps_foldl
    | with_reducible apply keeps_ledgerH
    | with_reducible apply keeps_ringUpdate
    | with_reducible apply keeps_wrB
    | split
    | with_reducible apply keeps_ite
  repeat' first
    | (simp +contextual +decide (maxDischargeDepth := 60) only [↓keeps_ite, Keeps.refl, ↓keeps_ledgerH, ↓keeps_ringUpdate, ↓keeps_wrB, Reg.ARD_STAT_L0_UP, Reg.ARD_STAT_L1_UP, Reg.ARD_STAT_UL_UP, Reg.ARD_STAT_WRAP_E, Reg.ARD_STAT_WRAP_W, laneUpFld, fits_ite]; done)
    | split

theorem keeps_execLaneUp {s : State} (h : HalfId) (lane : Nat) :
    Keeps 0x1023C4016C0000 s (after s (execLaneUp h lane s)) := by
  unfold execLaneUp
  try dsimp only
  repeat' first
    | (simp +contextual +decide (maxDischargeDepth := 60) only [after_next, Keeps.refl, ↓keeps_laneChange]; done)
    | simp only [after_next]
    | split

theorem keeps_execLaneDown {s : State} (h : HalfId) (lane : Nat) :
    Keeps 0x1023C4016C0000 s (after s (execLaneDown h lane s)) := by
  unfold execLaneDown
  try dsimp only
  repeat' first
    | (simp +contextual +decide (maxDischargeDepth := 60) only [after_next, Keeps.refl, ↓keeps_laneChange]; done)
    | simp only [after_next]
    | split

theorem keeps_mapAct {ps : Nat} {s0 s : State} (h : HalfId) (lane : Nat) (f : List Byte) (hm_ : subParts 0x1033C4016C0000 ps = true)
    (hs_ : Keeps ps s0 s) : Keeps ps s0 (mapAct h lane f s) := by
  refine Keeps.comp (a := 0x1033C4016C0000) ?_ hm_ hs_
  clear hm_ hs_
  unfold mapAct
  try dsimp only
  repeat' first
    | (simp +contextual +decide (maxDischargeDepth := 60) only [↓keeps_ite, Keeps.refl, ↓keeps_ledgerH, ↓keeps_tallySet, ↓keeps_modArd, ↓keeps_ringUpdate, ↓keeps_wrB, Reg.ARD_STAT_DUP_ADDR]; done)
    | split

theorem keeps_execMap {s : State} (h : HalfId) (lane : Nat) (frame : List Byte) :
    Keeps 0x1033C4016C0000 s (after s (execMap h lane frame s)) := by
  unfold execMap
  try dsimp only
  repeat' first
    | (simp +contextual +decide (maxDischargeDepth := 60) only [after_next, Keeps.refl, implies_true, ↓keeps_receiveFrame, ↓keeps_mapAct, *]; done)
    | decide
    | (intro _ _ _; try dsimp only)
    | with_reducible apply keeps_foldl
    | with_reducible apply keeps_receiveFrame
    | with_reducible apply keeps_mapAct
    | simp only [after_next]
    | split
    | with_reducible apply keeps_ite
  repeat' first
    | (simp +contextual +decide (maxDischargeDepth := 60) only [after_next, Keeps.refl, implies_true, ↓keeps_receiveFrame, ↓keeps_mapAct]; done)
    | simp only [after_next]
    | split

theorem keeps_sendMap {ps : Nat} {s0 s : State} (h : HalfId) (util peak : List Nat) (hm_ : subParts 0x1033C4016C0000 ps = true)
    (hs_ : Keeps ps s0 s) : Keeps ps s0 (sendMap s h util peak) := by
  refine Keeps.comp (a := 0x1033C4016C0000) ?_ hm_ hs_
  clear hm_ hs_
  unfold sendMap
  try dsimp only
  repeat' first
    | (simp +contextual +decide (maxDischargeDepth := 60) only [↓keeps_foldl, Keeps.refl, implies_true, ↓keeps_tallySet, ↓keeps_sendFrame, ↓keeps_wr, Reg.ARD_LANE_PEAK, Reg.ARD_LANE_UTIL, fits_instKey]; done)
    | split

theorem keeps_execMapSend {s : State} (h : HalfId) (util peak : List Nat) :
    Keeps 0x1033C4016C0000 s (after s (execMapSend h util peak s)) := by
  unfold execMapSend
  try dsimp only
  repeat' first
    | (simp +contextual +decide (maxDischargeDepth := 60) only [after_next, ↓keeps_ite, Keeps.refl, ↓keeps_sendMap]; done)
    | simp only [after_next]
    | split

theorem keeps_sendPdelay {ps : Nat} {s0 s : State} (h : HalfId) (hm_ : subParts 0x10338401640000 ps = true)
    (hs_ : Keeps ps s0 s) : Keeps ps s0 (sendPdelay s h) := by
  refine Keeps.comp (a := 0x10338401640000) ?_ hm_ hs_
  clear hm_ hs_
  unfold sendPdelay
  try dsimp only
  repeat' first
    | (simp +contextual +decide (maxDischargeDepth := 60) only [↓keeps_ite, Keeps.refl, ↓keeps_buildFrame, ↓keeps_putFrames]; done)
    | split

theorem keeps_execPdelaySend {s : State} (h : HalfId) :
    Keeps 0x10338401640000 s (after s (execPdelaySend h s)) := by
  unfold execPdelaySend
  try dsimp only
  repeat' first
    | (simp +contextual +decide (maxDischargeDepth := 60) only [after_next, Keeps.refl, ↓keeps_sendPdelay]; done)
    | simp only [after_next]
    | split

theorem keeps_pdelayAnswer {ps : Nat} {s0 s : State} (h : HalfId) (lane : Nat) (f : List Byte) (hm_ : subParts 0x10338401640000 ps = true)
    (hs_ : Keeps ps s0 s) : Keeps ps s0 (pdelayAnswer s h lane f) := by
  refine Keeps.comp (a := 0x10338401640000) ?_ hm_ hs_
  clear hm_ hs_
  unfold pdelayAnswer
  try dsimp only
  repeat' first
    | (simp +contextual +decide (maxDischargeDepth := 60) only [Keeps.refl, ↓keeps_buildFrame, ↓keeps_putFrames]; done)
    | split

theorem keeps_receiveLocal {ps : Nat} {s0 s : State} (h : HalfId) (lane type : Nat) (f : List Byte)
    (act : State → State) (hm_ : subParts 0x1033C4016C0000 ps = true) (ha_ : ∀ t, Keeps ps s0 t → Keeps ps s0 (act t))
    (hs_ : Keeps ps s0 s) : Keeps ps s0 (receiveLocal s h lane type f act) := by
  have hm (m : Nat) (h : subParts m 0x1033C4016C0000 = true) : subParts m ps = true := by
    simp only [subParts, beq_iff_eq] at *
    rw [← h, Nat.and_assoc, hm_]
  unfold receiveLocal
  have h1 := keeps_count h (0x294 + 4 * lane) 1 (hm _ (by decide)) hs_
  refine keeps_ite _ hs_ (keeps_ite _ (keeps_frameRefuse h lane f 1 (hm _ (by decide)) h1) ?_)
  have h2 := keeps_replayTake h f (hm _ (by decide)) (keeps_policePass h lane f (hm _ (by decide)) h1)
  exact keeps_ite _ (keeps_frameRefuse h lane f 7 (hm _ (by decide)) h2)
    (keeps_ite _ (keeps_frameRefuse h lane f _ (hm _ (by decide)) h1) (ha_ _ h2))

theorem keeps_execPdelayReq {s : State} (h : HalfId) (lane : Nat) (frame : List Byte) :
    Keeps 0x1033C4016C0000 s (after s (execPdelayReq h lane frame s)) := by
  unfold execPdelayReq
  try dsimp only
  repeat' first
    | (simp +contextual +decide (maxDischargeDepth := 60) only [after_next, Keeps.refl, implies_true, ↓keeps_pdelayAnswer, ↓keeps_receiveLocal]; done)
    | simp only [after_next]
    | split

theorem keeps_execPdelayResp {s : State} (h : HalfId) (lane : Nat) (frame : List Byte) (delay : Nat) :
    Keeps 0x1033C4016C0000 s (after s (execPdelayResp h lane frame delay s)) := by
  unfold execPdelayResp
  try dsimp only
  repeat' first
    | (simp +contextual +decide (maxDischargeDepth := 60) only [after_next, Keeps.refl, implies_true, ↓keeps_receiveLocal, ↓keeps_wr, Reg.ARD_LANE_PROP, fits_instKey]; done)
    | simp only [after_next]
    | split

theorem keeps_bulkAct {ps : Nat} {s0 s : State} (h : HalfId) (f : List Byte) (hm_ : subParts 0x100000000000 ps = true)
    (hs_ : Keeps ps s0 s) : Keeps ps s0 (bulkAct h f s) := by
  refine Keeps.comp (a := 0x100000000000) ?_ hm_ hs_
  clear hm_ hs_
  unfold bulkAct
  try dsimp only
  repeat' first
    | (simp +contextual +decide (maxDischargeDepth := 60) only [↓keeps_ite, Keeps.refl, ↓keeps_modArd]; done)
    | split

theorem keeps_execBulk {s : State} (h : HalfId) (lane : Nat) (frame : List Byte) :
    Keeps 0x1033C4016C0000 s (after s (execBulk h lane frame s)) := by
  unfold execBulk
  try dsimp only
  repeat' first
    | (simp +contextual +decide (maxDischargeDepth := 60) only [after_next, Keeps.refl, implies_true, ↓keeps_receiveFrame, ↓keeps_bulkAct, *]; done)
    | decide
    | (intro _ _ _; try dsimp only)
    | with_reducible apply keeps_foldl
    | with_reducible apply keeps_receiveFrame
    | with_reducible apply keeps_bulkAct
    | simp only [after_next]
    | split
    | with_reducible apply keeps_ite
  repeat' first
    | (simp +contextual +decide (maxDischargeDepth := 60) only [after_next, Keeps.refl, implies_true, ↓keeps_receiveFrame, ↓keeps_bulkAct]; done)
    | simp only [after_next]
    | split

theorem keeps_execArcadeAuthWindow {s : State} (h : HalfId) :
    Keeps 0x1023C4012C0000 s (after s (execArcadeAuthWindow h s)) := by
  unfold execArcadeAuthWindow
  try dsimp only
  repeat' first
    | (simp +contextual +decide (maxDischargeDepth := 60) only [after_next, Keeps.refl, ↓keeps_tallySet]; done)
    | simp only [after_next]
    | split

theorem keeps_execDomainTake {s : State} (h : HalfId) (lane : Nat) (frame : List Byte) :
    Keeps 0x1033C4017C4000 s (after s (execDomainTake h lane frame s)) := by
  unfold execDomainTake
  try dsimp only
  repeat' first
    | (simp +contextual +decide (maxDischargeDepth := 60) only [after_next, Keeps.refl, implies_true, ↓keeps_armDomain, ↓keeps_receiveFrame, *]; done)
    | decide
    | (intro _ _ _; try dsimp only)
    | with_reducible apply keeps_foldl
    | with_reducible apply keeps_armDomain
    | with_reducible apply keeps_receiveFrame
    | simp only [after_next]
    | split
    | with_reducible apply keeps_ite
  repeat' first
    | (simp +contextual +decide (maxDischargeDepth := 60) only [after_next, Keeps.refl, implies_true, ↓keeps_armDomain, ↓keeps_receiveFrame]; done)
    | simp only [after_next]
    | split

end Sys2Proof.Machine
end

