-- ==== Sys2Proof/Laws/KeepsGoose.lean ====
section
/-!
SUPPORT. `Keeps` for the operations of Machine/Goose.lean: the parts each may change.
-/

namespace Sys2Proof.Machine

open Sys2Proof (HalfId Instr Byte Word Accessor)

theorem keeps_modMgmt {ps : Nat} {s0 s : State} (h : HalfId) (f : Mgmt → Mgmt) (hm_ : subParts 0x400000000000 ps = true)
    (hs_ : Keeps ps s0 s) : Keeps ps s0 (modMgmt s h f) := by
  refine Keeps.comp (a := 0x400000000000) ?_ hm_ hs_
  clear hm_ hs_
  unfold modMgmt
  try dsimp only
  repeat' first
    | (simp +contextual +decide (maxDischargeDepth := 60) only [Keeps.refl, ↓keeps_half_mgmt]; done)
    | split

theorem keeps_gooseSend {ps : Nat} {s0 s : State} (h : HalfId) (b : Nat) (change : Bool) (hm_ : subParts 0x400000800000 ps = true)
    (hs_ : Keeps ps s0 s) : Keeps ps s0 (gooseSend s h b change) := by
  refine Keeps.comp (a := 0x400000800000) ?_ hm_ hs_
  clear hm_ hs_
  unfold gooseSend
  try dsimp only
  repeat' first
    | (simp +contextual +decide (maxDischargeDepth := 60) only [Keeps.refl, ↓keeps_satAdd, ↓keeps_modMgmt, Reg.ETH_GOOSE_TX_FRAMES]; done)
    | split

theorem keeps_gooseScan {ps : Nat} {s0 s : State} (h : HalfId) (hm_ : subParts 0x400000800000 ps = true)
    (hs_ : Keeps ps s0 s) : Keeps ps s0 (gooseScan s h) := by
  refine Keeps.comp (a := 0x400000800000) ?_ hm_ hs_
  clear hm_ hs_
  unfold gooseScan
  try dsimp only
  repeat' first
    | (simp +contextual +decide (maxDischargeDepth := 60) only [↓keeps_foldl, ↓keeps_ite, Keeps.refl, implies_true, ↓keeps_gooseSend]; done)
    | split

theorem keeps_execGooseRetransmit {s : State} (h : HalfId) (block : Nat) :
    Keeps 0x400000800000 s (after s (execGooseRetransmit h block s)) := by
  unfold execGooseRetransmit
  try dsimp only
  repeat' first
    | (simp +contextual +decide (maxDischargeDepth := 60) only [after_next, ↓keeps_ite, Keeps.refl, ↓keeps_gooseSend]; done)
    | simp only [after_next]
    | split

end Sys2Proof.Machine
end

