-- ==== Sys2Proof/Laws/KeepsOutputs.lean ====
section
/-!
SUPPORT. `Keeps` for the operations of Machine/Outputs.lean: the parts each may change.
-/

namespace Sys2Proof.Machine

open Sys2Proof (HalfId Instr Byte Word Accessor)

theorem keeps_tallyAll {ps : Nat} {s0 s : State} (k cause code ev : Nat) (hm_ : subParts 0x1023C4012C0000 ps = true)
    (hs_ : Keeps ps s0 s) : Keeps ps s0 (tallyAll s k cause code ev) := by
  refine Keeps.comp (a := 0x1023C4012C0000) ?_ hm_ hs_
  clear hm_ hs_
  unfold tallyAll
  try dsimp only
  repeat' first
    | (simp +contextual +decide (maxDischargeDepth := 60) only [↓keeps_foldl, Keeps.refl, implies_true, ↓keeps_tallySet]; done)
    | split

theorem keeps_doDiag {ps : Nat} {s0 s : State} (n k : Nat) (on : Bool) (hm_ : subParts 0x1023C4012C2000 ps = true)
    (hs_ : Keeps ps s0 s) : Keeps ps s0 (doDiag s n k on) := by
  refine Keeps.comp (a := 0x1023C4012C2000) ?_ hm_ hs_
  clear hm_ hs_
  unfold doDiag
  try dsimp only
  repeat' first
    | (simp +contextual +decide (maxDischargeDepth := 60) only [Keeps.refl, ↓keeps_tallyAll, ↓keeps_wrB, ↓keeps_wrBit, Reg.DIO_DOSTAT_OVERLOAD, Reg.DIO_DO_FAULT_FAULT, doFlag, fits_instKey]; done)
    | split

theorem keeps_doLedger {ps : Nat} {s0 s : State} (n k : Nat) (on : Bool) (hm_ : subParts 0x10238401240000 ps = true)
    (hs_ : Keeps ps s0 s) : Keeps ps s0 (doLedger s n k on) := by
  refine Keeps.comp (a := 0x10238401240000) ?_ hm_ hs_
  clear hm_ hs_
  unfold doLedger
  try dsimp only
  repeat' first
    | (simp +contextual +decide (maxDischargeDepth := 60) only [↓keeps_ite, Keeps.refl, ↓keeps_ledgerField]; done)
    | split

theorem keeps_doClear {ps : Nat} {s0 s : State} (n k : Nat) (hm_ : subParts 0x1023C4012C2000 ps = true)
    (hs_ : Keeps ps s0 s) : Keeps ps s0 (doClear s n k) := by
  refine Keeps.comp (a := 0x1023C4012C2000) ?_ hm_ hs_
  clear hm_ hs_
  unfold doClear
  try dsimp only
  repeat' first
    | (simp +contextual +decide (maxDischargeDepth := 60) only [↓keeps_ite, Keeps.refl, ↓keeps_doDiag, ↓keeps_doLedger]; done)
    | split

theorem keeps_doBall {ps : Nat} {s0 s : State} (n : Nat) (hm_ : subParts 0x2000 ps = true)
    (hs_ : Keeps ps s0 s) : Keeps ps s0 (doBall s n) := by
  refine Keeps.comp (a := 0x2000) ?_ hm_ hs_
  clear hm_ hs_
  unfold doBall
  try dsimp only
  repeat' first
    | (simp +contextual +decide (maxDischargeDepth := 60) only [Keeps.refl, ↓keeps_wrBit, Reg.DIO_DOSTAT_OVERLOAD, Reg.DIO_DO_OUT_OUT, Reg.DIO_DO_VAL_VAL, Reg.DIO_SUP_MISSING, doFlag]; done)
    | split

theorem keeps_setDo {ps : Nat} {s0 s : State} (n : Nat) (v : Bool) (hm_ : subParts 0x1023C5012C2000 ps = true)
    (hs_ : Keeps ps s0 s) : Keeps ps s0 (setDo s n v) := by
  refine Keeps.comp (a := 0x1023C5012C2000) ?_ hm_ hs_
  clear hm_ hs_
  unfold setDo
  try dsimp only
  repeat' first
    | (simp +contextual +decide (maxDischargeDepth := 60) only [↓keeps_foldl, ↓keeps_ite, Keeps.refl, implies_true, ↓keeps_count, ↓keeps_modIo, ↓keeps_doDiag, ↓keeps_doClear, ↓keeps_doBall, ↓keeps_wr, ↓keeps_wrB, ↓keeps_wrBit, Reg.DIO_DOSTAT_OVERLOAD, Reg.DIO_DOSTAT_RETRIES, Reg.DIO_DOSTAT_VAL, Reg.DIO_DO_VAL_VAL, doFlag, fits_instKey]; done)
    | split

theorem keeps_setDos {ps : Nat} {s0 s : State} (mask v : Nat) (hm_ : subParts 0x1023C5012C2000 ps = true)
    (hs_ : Keeps ps s0 s) : Keeps ps s0 (setDos s mask v) := by
  refine Keeps.comp (a := 0x1023C5012C2000) ?_ hm_ hs_
  clear hm_ hs_
  unfold setDos
  try dsimp only
  repeat' first
    | (simp +contextual +decide (maxDischargeDepth := 60) only [↓keeps_foldl, ↓keeps_ite, Keeps.refl, implies_true, ↓keeps_setDo]; done)
    | split

theorem keeps_countFto {ps : Nat} {s0 s : State} (rise : Nat) (hm_ : subParts 0x20000000000 ps = true)
    (hs_ : Keeps ps s0 s) : Keeps ps s0 (countFto s rise) := by
  refine Keeps.comp (a := 0x20000000000) ?_ hm_ hs_
  clear hm_ hs_
  unfold countFto
  try dsimp only
  repeat' first
    | (simp +contextual +decide (maxDischargeDepth := 60) only [↓keeps_foldl, ↓keeps_ite, Keeps.refl, implies_true, ↓keeps_count]; done)
    | split

theorem keeps_cells {ps : Nat} {s0 s : State}  (hm_ : subParts 0x1023C5012C2800 ps = true)
    (hs_ : Keeps ps s0 s) : Keeps ps s0 (cells s) := by
  refine Keeps.comp (a := 0x1023C5012C2800) ?_ hm_ hs_
  clear hm_ hs_
  unfold cells
  try dsimp only
  repeat' first
    | (simp +contextual +decide (maxDischargeDepth := 60) only [Keeps.refl, ↓keeps_setDos, ↓keeps_countFto, ↓keeps_wr, Reg.TRM_CELL_STAT_BOOT_HOLD, Reg.TRM_CELL_STAT_LOCKOUT, Reg.TRM_CLASS_DO_TRIP, Reg.TRM_DO_IN_A_IN, Reg.TRM_DO_IN_B_IN, Reg.TRM_DO_OUT_OUT, Reg.TRM_FTO_IN_A, Reg.TRM_FTO_IN_B, Reg.TRM_FTO_OUT_HIST, Reg.TRM_FTO_OUT_NOW, Reg.TRM_LOCK_DO_LOCK, Reg.TRM_VOTE_DO_AND, Reg.TRM_VOTE_FTO_AND, Reg.TRM_VOTE_FTO_LOCK]; done)
    | split

theorem keeps_voteAbsent {ps : Nat} {s0 s : State} (h : HalfId) (cause : Nat) (record_ : Bool) (hm_ : subParts 0x1023C5012C2800 ps = true)
    (hs_ : Keeps ps s0 s) : Keeps ps s0 (voteAbsent s h cause record_) := by
  refine Keeps.comp (a := 0x1023C5012C2800) ?_ hm_ hs_
  clear hm_ hs_
  unfold voteAbsent
  try dsimp only
  repeat' first
    | (simp +contextual +decide (maxDischargeDepth := 60) only [Keeps.refl, ↓keeps_ledgerField, ↓keeps_modIo, ↓keeps_cells, ↓keeps_wrB, Reg.TRM_CELL_STAT_A_ABSENT, Reg.TRM_CELL_STAT_B_ABSENT]; done)
    | split

theorem keeps_votePresent {ps : Nat} {s0 s : State} (h : HalfId) (hm_ : subParts 0x1023C5012C2800 ps = true)
    (hs_ : Keeps ps s0 s) : Keeps ps s0 (votePresent s h) := by
  refine Keeps.comp (a := 0x1023C5012C2800) ?_ hm_ hs_
  clear hm_ hs_
  unfold votePresent
  try dsimp only
  repeat' first
    | (simp +contextual +decide (maxDischargeDepth := 60) only [↓keeps_ite, Keeps.refl, ↓keeps_ledgerField, ↓keeps_modIo, ↓keeps_cells, ↓keeps_wrB, Reg.TRM_CELL_STAT_A_ABSENT, Reg.TRM_CELL_STAT_B_ABSENT]; done)
    | split

theorem keeps_presence {ps : Nat} {s0 s : State} (h : HalfId) (hm_ : subParts 0x1823C5012C2800 ps = true)
    (hs_ : Keeps ps s0 s) : Keeps ps s0 (presence s h) := by
  refine Keeps.comp (a := 0x1823C5012C2800) ?_ hm_ hs_
  clear hm_ hs_
  unfold presence
  try dsimp only
  repeat' first
    | (simp +contextual +decide (maxDischargeDepth := 60) only [↓keeps_ite, Keeps.refl, ↓keeps_voteAbsent, ↓keeps_votePresent, ↓keeps_half_gav]; done)
    | split

theorem keeps_tallyVital {ps : Nat} {s0 s : State} (h : HalfId) (k cause code ev : Nat) (hm_ : subParts 0x1823C5012C2800 ps = true)
    (hs_ : Keeps ps s0 s) : Keeps ps s0 (tallyVital s h k cause code ev) := by
  refine Keeps.comp (a := 0x1823C5012C2800) ?_ hm_ hs_
  clear hm_ hs_
  unfold tallyVital
  try dsimp only
  repeat' first
    | (simp +contextual +decide (maxDischargeDepth := 60) only [Keeps.refl, ↓keeps_tallySet, ↓keeps_presence]; done)
    | split

theorem keeps_sendPoint {ps : Nat} {s0 s : State} (h : HalfId) (r : PubRec) (w : Nat) (changed : Bool) (at_ : Nat) (hm_ : subParts 0x10338401640000 ps = true)
    (hs_ : Keeps ps s0 s) : Keeps ps s0 (sendPoint s h r w changed at_) := by
  refine Keeps.comp (a := 0x10338401640000) ?_ hm_ hs_
  clear hm_ hs_
  unfold sendPoint
  try dsimp only
  repeat' first
    | (simp +contextual +decide (maxDischargeDepth := 60) only [↓keeps_ite, Keeps.refl, ↓keeps_sendFrame]; done)
    | split

theorem keeps_publish {ps : Nat} {s0 s : State} (h : HalfId) (k : Nat) (changed : Bool) (hm_ : subParts 0x10738401E40000 ps = true)
    (hs_ : Keeps ps s0 s) : Keeps ps s0 (publish s h k changed) := by
  refine Keeps.comp (a := 0x10738401E40000) ?_ hm_ hs_
  clear hm_ hs_
  unfold publish
  try dsimp only
  repeat' first
    | (simp +contextual +decide (maxDischargeDepth := 60) only [↓keeps_ite, Keeps.refl, ↓keeps_modArd, ↓keeps_gooseScan, ↓keeps_sendPoint]; done)
    | split

theorem keeps_publishChanges {ps : Nat} {s0 s : State} (h : HalfId) (p : PubRec → Bool) (hm_ : subParts 0x10738401E40000 ps = true)
    (hs_ : Keeps ps s0 s) : Keeps ps s0 (publishChanges s h p) := by
  refine Keeps.comp (a := 0x10738401E40000) ?_ hm_ hs_
  clear hm_ hs_
  unfold publishChanges
  try dsimp only
  repeat' first
    | (simp +contextual +decide (maxDischargeDepth := 60) only [↓keeps_foldl, ↓keeps_ite, Keeps.refl, implies_true, ↓keeps_publish]; done)
    | split

theorem keeps_signalVote {ps : Nat} {s0 s : State} (h : HalfId) (hm_ : subParts 0x1023C5012C2800 ps = true)
    (hs_ : Keeps ps s0 s) : Keeps ps s0 (signalVote s h) := by
  refine Keeps.comp (a := 0x1023C5012C2800) ?_ hm_ hs_
  clear hm_ hs_
  unfold signalVote
  try dsimp only
  repeat' first
    | (simp +contextual +decide (maxDischargeDepth := 60) only [Keeps.refl, ↓keeps_modIo, ↓keeps_cells]; done)
    | split

theorem keeps_groupRise {ps : Nat} {s0 s : State} (h : HalfId) (g : Nat) (hm_ : subParts 0x12238401240000 ps = true)
    (hs_ : Keeps ps s0 s) : Keeps ps s0 (groupRise s h g) := by
  refine Keeps.comp (a := 0x12238401240000) ?_ hm_ hs_
  clear hm_ hs_
  unfold groupRise
  try dsimp only
  repeat' first
    | (simp +contextual +decide (maxDischargeDepth := 60) only [↓keeps_ite, Keeps.refl, ↓keeps_count, ↓keeps_qPush, ↓keeps_modDec, ↓keeps_ledgerOnce]; done)
    | split

theorem keeps_decideOut {ps : Nat} {s0 s : State} (h : HalfId) (hm_ : subParts 0x1273C501EC2C00 ps = true)
    (hs_ : Keeps ps s0 s) : Keeps ps s0 (decideOut s h) := by
  refine Keeps.comp (a := 0x1273C501EC2C00) ?_ hm_ hs_
  clear hm_ hs_
  unfold decideOut
  try dsimp only
  repeat' first
    | (simp +contextual +decide (maxDischargeDepth := 60) only [↓keeps_foldl, ↓keeps_ite, Keeps.refl, implies_true, ↓keeps_publishChanges, ↓keeps_signalVote, ↓keeps_groupRise, ↓keeps_setWord, ↓keeps_wr, ↓keeps_wrB, ↓keeps_wrBit, Reg.FST_MTX_HIST, Reg.FST_MTX_NOW, Reg.TRM_GRP_HIST_HI_HIST, Reg.TRM_GRP_HIST_LO_HIST, Reg.TRM_GRP_HI_ACT, Reg.TRM_GRP_INV_HI_INV, Reg.TRM_GRP_INV_LO_INV, Reg.TRM_GRP_LO_ACT, fits_instKey, fits_bank, *]; done)
    | decide
    | (intro _ _ _; try dsimp only)
    | with_reducible apply keeps_foldl
    | with_reducible apply keeps_publishChanges
    | with_reducible apply keeps_signalVote
    | with_reducible apply keeps_groupRise
    | with_reducible apply keeps_setWord
    | with_reducible apply keeps_wr
    | with_reducible apply keeps_wrB
    | with_reducible apply keeps_wrBit
    | split
    | with_reducible apply keeps_ite
  repeat' first
    | (simp +contextual +decide (maxDischargeDepth := 60) only [↓keeps_foldl, ↓keeps_ite, Keeps.refl, implies_true, ↓keeps_publishChanges, ↓keeps_signalVote, ↓keeps_groupRise, ↓keeps_setWord, ↓keeps_wr, ↓keeps_wrB, ↓keeps_wrBit, Reg.FST_MTX_HIST, Reg.FST_MTX_NOW, Reg.TRM_GRP_HIST_HI_HIST, Reg.TRM_GRP_HIST_LO_HIST, Reg.TRM_GRP_HI_ACT, Reg.TRM_GRP_INV_HI_INV, Reg.TRM_GRP_INV_LO_INV, Reg.TRM_GRP_LO_ACT, fits_instKey, fits_bank]; done)
    | split

theorem keeps_arcEval {ps : Nat} {s0 s : State} (h : HalfId) (n : Nat) (hm_ : subParts 0x12238401241000 ps = true)
    (hs_ : Keeps ps s0 s) : Keeps ps s0 (arcEval s h n) := by
  refine Keeps.comp (a := 0x12238401241000) ?_ hm_ hs_
  clear hm_ hs_
  unfold arcEval
  try dsimp only
  repeat' first
    | (simp +contextual +decide (maxDischargeDepth := 60) only [↓keeps_ite, Keeps.refl, ↓keeps_count, ↓keeps_qPush, ↓keeps_modDec, ↓keeps_ledgerOnce, ↓keeps_wrBit, Reg.ARC_ELEM_INV, Reg.ARC_ELEM_OP, Reg.ARC_LIGHT_LIGHT, Reg.ARC_LIGHT_LIGHTQ]; done)
    | split

theorem keeps_arcStretch {ps : Nat} {s0 s : State} (h : HalfId) (f : Nat) (hm_ : subParts 0x2000000000000 ps = true)
    (hs_ : Keeps ps s0 s) : Keeps ps s0 (arcStretch s h f) := by
  refine Keeps.comp (a := 0x2000000000000) ?_ hm_ hs_
  clear hm_ hs_
  unfold arcStretch
  try dsimp only
  repeat' first
    | (simp +contextual +decide (maxDischargeDepth := 60) only [Keeps.refl, ↓keeps_modDec]; done)
    | split

theorem keeps_arcEvalAll {ps : Nat} {s0 s : State} (h : HalfId) (hm_ : subParts 0x12238401241000 ps = true)
    (hs_ : Keeps ps s0 s) : Keeps ps s0 (arcEvalAll s h) := by
  refine Keeps.comp (a := 0x12238401241000) ?_ hm_ hs_
  clear hm_ hs_
  unfold arcEvalAll
  try dsimp only
  repeat' first
    | (simp +contextual +decide (maxDischargeDepth := 60) only [↓keeps_foldl, ↓keeps_ite, Keeps.refl, implies_true, ↓keeps_arcEval]; done)
    | split

end Sys2Proof.Machine
end

