-- ==== Sys2Proof/Laws/KeepsFast.lean ====
section
/-!
SUPPORT. `Keeps` for the operations of Machine/Fast.lean: the parts each may change.
-/

namespace Sys2Proof.Machine

open Sys2Proof (HalfId Instr Byte Word Accessor)

theorem keeps_setFn {ps : Nat} {s0 s : State} (h : HalfId) (f : Nat) (x : FastFn) (hm_ : subParts 0x2000000000000 ps = true)
    (hs_ : Keeps ps s0 s) : Keeps ps s0 (setFn s h f x) := by
  refine Keeps.comp (a := 0x2000000000000) ?_ hm_ hs_
  clear hm_ hs_
  unfold setFn
  try dsimp only
  repeat' first
    | (simp +contextual +decide (maxDischargeDepth := 60) only [Keeps.refl, ↓keeps_modDec]; done)
    | split

theorem keeps_fnRegs {ps : Nat} {s0 s : State} (h : HalfId) (f : Nat) (x : FastFn) (hm_ : subParts 0x400 ps = true)
    (hs_ : Keeps ps s0 s) : Keeps ps s0 (fnRegs s h f x) := by
  refine Keeps.comp (a := 0x400) ?_ hm_ hs_
  clear hm_ hs_
  unfold fnRegs
  try dsimp only
  repeat' first
    | (simp +contextual +decide (maxDischargeDepth := 60) only [Keeps.refl, implies_true, ↓keeps_putBank, ↓keeps_wr, ↓keeps_wrB, Reg.FST_FSTAT_CAUSE, Reg.FST_FSTAT_CLASS, Reg.FST_FSTAT_EN, Reg.FST_FSTAT_OP, Reg.FST_FSTAT_PU, Reg.FST_FSTAT_RSTATE, Reg.FST_FSTAT_TPL1, Reg.FST_FSTAT_TPL2, Reg.FST_FSTAT_TYPE, Reg.FST_FSTAT_VALID, Reg.FST_OP_HI_OP, Reg.FST_OP_LO_OP, Reg.FST_PU_HI_PU, Reg.FST_PU_LO_PU, fits_loHi, fits_instKey, *]; done)
    | decide
    | (intro _ _ _; try dsimp only)
    | with_reducible apply keeps_foldl
    | with_reducible apply keeps_putBank
    | with_reducible apply keeps_wr
    | with_reducible apply keeps_wrB
    | split
    | with_reducible apply keeps_ite
  repeat' first
    | (simp +contextual +decide (maxDischargeDepth := 60) only [Keeps.refl, implies_true, ↓keeps_putBank, ↓keeps_wr, ↓keeps_wrB, Reg.FST_FSTAT_CAUSE, Reg.FST_FSTAT_CLASS, Reg.FST_FSTAT_EN, Reg.FST_FSTAT_OP, Reg.FST_FSTAT_PU, Reg.FST_FSTAT_RSTATE, Reg.FST_FSTAT_TPL1, Reg.FST_FSTAT_TPL2, Reg.FST_FSTAT_TYPE, Reg.FST_FSTAT_VALID, Reg.FST_OP_HI_OP, Reg.FST_OP_LO_OP, Reg.FST_PU_HI_PU, Reg.FST_PU_LO_PU, fits_loHi, fits_instKey]; done)
    | split

theorem keeps_fnPut {ps : Nat} {s0 s : State} (h : HalfId) (f : Nat) (x : FastFn) (hm_ : subParts 0x12238401240400 ps = true)
    (hs_ : Keeps ps s0 s) : Keeps ps s0 (fnPut s h f x) := by
  refine Keeps.comp (a := 0x12238401240400) ?_ hm_ hs_
  clear hm_ hs_
  unfold fnPut
  try dsimp only
  repeat' first
    | (simp +contextual +decide (maxDischargeDepth := 60) only [↓keeps_ite, Keeps.refl, ↓keeps_count, ↓keeps_qPush, ↓keeps_ledgerOnce, ↓keeps_arcStretch, ↓keeps_setFn, ↓keeps_fnRegs, *]; done)
    | decide
    | (intro _ _ _; try dsimp only)
    | with_reducible apply keeps_foldl
    | with_reducible apply keeps_count
    | with_reducible apply keeps_qPush
    | with_reducible apply keeps_ledgerOnce
    | with_reducible apply keeps_arcStretch
    | with_reducible apply keeps_setFn
    | with_reducible apply keeps_fnRegs
    | split
    | with_reducible apply keeps_ite
  repeat' first
    | (simp +contextual +decide (maxDischargeDepth := 60) only [↓keeps_ite, Keeps.refl, ↓keeps_count, ↓keeps_qPush, ↓keeps_ledgerOnce, ↓keeps_arcStretch, ↓keeps_setFn, ↓keeps_fnRegs]; done)
    | split

theorem keeps_fnSample {ps : Nat} {s0 s : State} (h : HalfId) (f type inst : Nat) (hist : List Smp) (hm_ : subParts 0x12238401240400 ps = true)
    (hs_ : Keeps ps s0 s) : Keeps ps s0 (fnSample s h f type inst hist) := by
  refine Keeps.comp (a := 0x12238401240400) ?_ hm_ hs_
  clear hm_ hs_
  unfold fnSample
  try dsimp only
  repeat' first
    | (simp +contextual +decide (maxDischargeDepth := 60) only [↓keeps_ite, Keeps.refl, ↓keeps_fnPut]; done)
    | split

theorem keeps_sigSample {ps : Nat} {s0 s : State} (h : HalfId) (g : Nat) (hist : List Smp) (own : Bool) (hm_ : subParts 0x12238401240400 ps = true)
    (hs_ : Keeps ps s0 s) : Keeps ps s0 (sigSample s h g hist own) := by
  refine Keeps.comp (a := 0x12238401240400) ?_ hm_ hs_
  clear hm_ hs_
  unfold sigSample
  try dsimp only
  repeat' first
    | (simp +contextual +decide (maxDischargeDepth := 60) only [↓keeps_ite, Keeps.refl, ↓keeps_fnPut]; done)
    | split

theorem keeps_fastEval {ps : Nat} {s0 s : State} (h : HalfId) (n inst : Nat) (hm_ : subParts 0x12238401240400 ps = true)
    (hs_ : Keeps ps s0 s) : Keeps ps s0 (fastEval s h n inst) := by
  refine Keeps.comp (a := 0x12238401240400) ?_ hm_ hs_
  clear hm_ hs_
  unfold fastEval
  try dsimp only
  repeat' first
    | (simp +contextual +decide (maxDischargeDepth := 60) only [↓keeps_ite, Keeps.refl, ↓keeps_fnSample, ↓keeps_sigSample, *]; done)
    | decide
    | (intro _ _ _; try dsimp only)
    | with_reducible apply keeps_foldl
    | with_reducible apply keeps_fnSample
    | with_reducible apply keeps_sigSample
    | split
    | with_reducible apply keeps_ite
  repeat' first
    | (simp +contextual +decide (maxDischargeDepth := 60) only [↓keeps_ite, Keeps.refl, ↓keeps_fnSample, ↓keeps_sigSample]; done)
    | split

theorem keeps_afterFast {ps : Nat} {s0 s : State} (h : HalfId) (hm_ : subParts 0x1273C501EC3C00 ps = true)
    (hs_ : Keeps ps s0 s) : Keeps ps s0 (afterFast s h) := by
  refine Keeps.comp (a := 0x1273C501EC3C00) ?_ hm_ hs_
  clear hm_ hs_
  unfold afterFast
  try dsimp only
  repeat' first
    | (simp +contextual +decide (maxDischargeDepth := 60) only [Keeps.refl, ↓keeps_decideOut, ↓keeps_arcEvalAll]; done)
    | split

theorem keeps_fastFault {ps : Nat} {s0 s : State} (h : HalfId) (n : Nat) (b : Bool) (hm_ : subParts 0x20 ps = true)
    (hs_ : Keeps ps s0 s) : Keeps ps s0 (fastFault s h n b) := by
  refine Keeps.comp (a := 0x20) ?_ hm_ hs_
  clear hm_ hs_
  unfold fastFault
  try dsimp only
  repeat' first
    | (simp +contextual +decide (maxDischargeDepth := 60) only [Keeps.refl, ↓keeps_wrB, ↓keeps_wrBit, Reg.FCV_FAULT_SUM_FAULT, Reg.FCV_STAT_FAULT, fits_instKey]; done)
    | split

theorem keeps_frozenStep {ps : Nat} {s0 s : State} (h : HalfId) (n code : Nat) (ovr : Bool) (hm_ : subParts 0x1000000000020 ps = true)
    (hs_ : Keeps ps s0 s) : Keeps ps s0 (frozenStep s h n code ovr) := by
  refine Keeps.comp (a := 0x1000000000020) ?_ hm_ hs_
  clear hm_ hs_
  unfold frozenStep
  try dsimp only
  repeat' first
    | (simp +contextual +decide (maxDischargeDepth := 60) only [↓keeps_ite, Keeps.refl, ↓keeps_modFe, ↓keeps_wrB, Reg.FCV_STAT_FROZEN, fits_instKey]; done)
    | split

theorem keeps_fastStore {ps : Nat} {s0 s : State} (h : HalfId) (n code : Nat) (ovr incomplete : Bool) (hm_ : subParts 0x1020000000020 ps = true)
    (hs_ : Keeps ps s0 s) : Keeps ps s0 (fastStore s h n code ovr incomplete) := by
  refine Keeps.comp (a := 0x1020000000020) ?_ hm_ hs_
  clear hm_ hs_
  unfold fastStore
  try dsimp only
  repeat' first
    | (simp +contextual +decide (maxDischargeDepth := 60) only [↓keeps_ite, Keeps.refl, ↓keeps_satAdd, ↓keeps_count, ↓keeps_modFe, ↓keeps_fastFault, ↓keeps_frozenStep, ↓keeps_wr, ↓keeps_wrB, ↓keeps_wrBit, Reg.FCV_GAIN_GAIN, Reg.FCV_OFF_OFFSET, Reg.FCV_OVRCNT_COUNT, Reg.FCV_OVR_SUM_OVR, Reg.FCV_SAMP_CORR, Reg.FCV_SAMP_RAW, Reg.FCV_STAT_FROZEN, Reg.FCV_STAT_INCOMPLETE, Reg.FCV_STAT_OVR_NOW, fits_instKey]; done)
    | split

theorem keeps_fireTrigger {ps : Nat} {s0 s : State} (h : HalfId) (t inst : Nat) (hm_ : subParts 0x2000000008000 ps = true)
    (hs_ : Keeps ps s0 s) : Keeps ps s0 (fireTrigger s h t inst) := by
  refine Keeps.comp (a := 0x2000000008000) ?_ hm_ hs_
  clear hm_ hs_
  unfold fireTrigger
  try dsimp only
  repeat' first
    | (simp +contextual +decide (maxDischargeDepth := 60) only [Keeps.refl, ↓keeps_modDec, ↓keeps_wrBit, Reg.ACQ_TRG_HIST]; done)
    | split

theorem keeps_condition {ps : Nat} {s0 s : State} (h : HalfId) (t : Nat) (b : Bool) (inst : Nat) (hm_ : subParts 0x2040000008000 ps = true)
    (hs_ : Keeps ps s0 s) : Keeps ps s0 (condition s h t b inst) := by
  refine Keeps.comp (a := 0x2040000008000) ?_ hm_ hs_
  clear hm_ hs_
  unfold condition
  try dsimp only
  repeat' first
    | (simp +contextual +decide (maxDischargeDepth := 60) only [↓keeps_ite, Keeps.refl, ↓keeps_modAcq, ↓keeps_fireTrigger]; done)
    | split

theorem keeps_levelTriggers {ps : Nat} {s0 s : State} (h : HalfId) (src : Nat) (vs : List (Int × Bool × Bool)) (inst : Nat) (hm_ : subParts 0x2040000008000 ps = true)
    (hs_ : Keeps ps s0 s) : Keeps ps s0 (levelTriggers s h src vs inst) := by
  refine Keeps.comp (a := 0x2040000008000) ?_ hm_ hs_
  clear hm_ hs_
  unfold levelTriggers
  try dsimp only
  repeat' first
    | (simp +contextual +decide (maxDischargeDepth := 60) only [↓keeps_foldl, ↓keeps_ite, Keeps.refl, implies_true, ↓keeps_condition]; done)
    | split

theorem keeps_edgeTriggers {ps : Nat} {s0 s : State} (h : HalfId) (hm_ : subParts 0x2040000008000 ps = true)
    (hs_ : Keeps ps s0 s) : Keeps ps s0 (edgeTriggers s h) := by
  refine Keeps.comp (a := 0x2040000008000) ?_ hm_ hs_
  clear hm_ hs_
  unfold edgeTriggers
  try dsimp only
  repeat' first
    | (simp +contextual +decide (maxDischargeDepth := 60) only [↓keeps_foldl, ↓keeps_ite, Keeps.refl, implies_true, ↓keeps_modAcq, ↓keeps_fireTrigger]; done)
    | split

theorem keeps_execFastSample {s : State} (h : HalfId) (ch code : Nat) (ovr incomplete : Bool) (inst : Nat) :
    Keeps 0x1377C501ECBC20 s (after s (execFastSample h ch code ovr incomplete inst s)) := by
  unfold execFastSample
  try dsimp only
  repeat' first
    | (simp +contextual +decide (maxDischargeDepth := 60) only [after_next, Keeps.refl, ↓keeps_recordSample, ↓keeps_fastEval, ↓keeps_afterFast, ↓keeps_fastStore, ↓keeps_levelTriggers, ↓keeps_edgeTriggers, Reg.FCV_SAMP_RAW]; done)
    | simp only [after_next]
    | split

theorem keeps_execFcvFrozen {s : State} (h : HalfId) (ch : Nat) :
    Keeps 0x10238401240020 s (after s (execFcvFrozen h ch s)) := by
  unfold execFcvFrozen
  try dsimp only
  repeat' first
    | (simp +contextual +decide (maxDischargeDepth := 60) only [after_next, Keeps.refl, ↓keeps_ledgerH, ↓keeps_fastFault, ↓keeps_wrB, Reg.FCV_CFG_FROZEN_EN, Reg.FCV_STAT_FROZEN, fits_instKey]; done)
    | simp only [after_next]
    | split

theorem keeps_releaseRestrained {ps : Nat} {s0 s : State} (h : HalfId) (g : Nat) (hm_ : subParts 0x12238401240400 ps = true)
    (hs_ : Keeps ps s0 s) : Keeps ps s0 (releaseRestrained s h g) := by
  refine Keeps.comp (a := 0x12238401240400) ?_ hm_ hs_
  clear hm_ hs_
  unfold releaseRestrained
  try dsimp only
  repeat' first
    | (simp +contextual +decide (maxDischargeDepth := 60) only [↓keeps_foldl, Keeps.refl, implies_true, ↓keeps_fnPut]; done)
    | split

theorem keeps_execSigHoldEnd {s : State} (h : HalfId) (f : Nat) :
    Keeps 0x12238401240400 s (after s (execSigHoldEnd h f s)) := by
  unfold execSigHoldEnd
  try dsimp only
  repeat' first
    | (simp +contextual +decide (maxDischargeDepth := 60) only [after_next, Keeps.refl, ↓keeps_fnPut]; done)
    | simp only [after_next]
    | split

theorem keeps_ftiPut {ps : Nat} {s0 s : State} (h : HalfId) (n : Nat) (b : Bool) (hm_ : subParts 0x1277C501ECAC00 ps = true)
    (hs_ : Keeps ps s0 s) : Keeps ps s0 (ftiPut s h n b) := by
  refine Keeps.comp (a := 0x1277C501ECAC00) ?_ hm_ hs_
  clear hm_ hs_
  unfold ftiPut
  try dsimp only
  repeat' first
    | (simp +contextual +decide (maxDischargeDepth := 60) only [↓keeps_ite, Keeps.refl, ↓keeps_count, ↓keeps_decideOut, ↓keeps_edgeTriggers, ↓keeps_wrBit, Reg.FST_FTI_HIST_ASSERTED, Reg.FST_FTI_STATE]; done)
    | split

theorem keeps_ftiBoth {ps : Nat} {s0 s : State} (n : Nat) (b : Bool) (hm_ : subParts 0x1277C501ECAC00 ps = true)
    (hs_ : Keeps ps s0 s) : Keeps ps s0 (ftiBoth s n b) := by
  refine Keeps.comp (a := 0x1277C501ECAC00) ?_ hm_ hs_
  clear hm_ hs_
  unfold ftiBoth
  try dsimp only
  repeat' first
    | (simp +contextual +decide (maxDischargeDepth := 60) only [↓keeps_foldl, Keeps.refl, implies_true, ↓keeps_ftiPut]; done)
    | split

theorem keeps_execFtiEdge {s : State} (n : Nat) (asserted : Bool) :
    Keeps 0x1277C501ECAC00 s (after s (execFtiEdge n asserted s)) := by
  unfold execFtiEdge
  try dsimp only
  repeat' first
    | (simp +contextual +decide (maxDischargeDepth := 60) only [after_next, ↓keeps_ite, Keeps.refl, ↓keeps_ftiBoth, Reg.FST_FTI_FAULT]; done)
    | simp only [after_next]
    | split

theorem keeps_ftiFaultAll {ps : Nat} {s0 s : State} (n : Nat) (b : Bool) (hm_ : subParts 0x1273C501EC2C00 ps = true)
    (hs_ : Keeps ps s0 s) : Keeps ps s0 (ftiFaultAll s n b) := by
  refine Keeps.comp (a := 0x1273C501EC2C00) ?_ hm_ hs_
  clear hm_ hs_
  unfold ftiFaultAll
  try dsimp only
  repeat' first
    | (simp +contextual +decide (maxDischargeDepth := 60) only [↓keeps_foldl, ↓keeps_ite, Keeps.refl, implies_true, ↓keeps_decideOut, ↓keeps_wrBit, Reg.FST_FTI_FAULT, Reg.FST_FTI_HIST_FAULT]; done)
    | split

theorem keeps_execFtiFault {s : State} (n : Nat) :
    Keeps 0x1277C501ECAC00 s (after s (execFtiFault n s)) := by
  unfold execFtiFault
  try dsimp only
  repeat' first
    | (simp +contextual +decide (maxDischargeDepth := 60) only [after_next, ↓keeps_ite, Keeps.refl, ↓keeps_ledgerField, ↓keeps_ftiBoth, ↓keeps_ftiFaultAll, Reg.FST_FTI_FAULT]; done)
    | simp only [after_next]
    | split

theorem keeps_execFtiFaultClear {s : State} (n : Nat) (asserted : Bool) :
    Keeps 0x1277C501ECAC00 s (after s (execFtiFaultClear n asserted s)) := by
  unfold execFtiFaultClear
  try dsimp only
  repeat' first
    | (simp +contextual +decide (maxDischargeDepth := 60) only [after_next, ↓keeps_ite, Keeps.refl, ↓keeps_ledgerField, ↓keeps_ftiBoth, ↓keeps_ftiFaultAll, Reg.FST_FTI_FAULT]; done)
    | simp only [after_next]
    | split

theorem keeps_tplAdvance {ps : Nat} {s0 s : State} (h : HalfId) (hm_ : subParts 0x400 ps = true)
    (hs_ : Keeps ps s0 s) : Keeps ps s0 (tplAdvance s h) := by
  refine Keeps.comp (a := 0x400) ?_ hm_ hs_
  clear hm_ hs_
  unfold tplAdvance
  try dsimp only
  repeat' first
    | (simp +contextual +decide (maxDischargeDepth := 60) only [Keeps.refl, ↓keeps_wr, Reg.FST_TPL_SEL_IDX, Reg.FST_TPL_SEL_TPL]; done)
    | split

theorem keeps_modGroup {ps : Nat} {s0 s : State} (h : HalfId) (g : Nat) (f : SetGroup → SetGroup) (hm_ : subParts 0x2000000001 ps = true)
    (hs_ : Keeps ps s0 s) : Keeps ps s0 (modGroup s h g f) := by
  refine Keeps.comp (a := 0x2000000001) ?_ hm_ hs_
  clear hm_ hs_
  unfold modGroup
  try dsimp only
  repeat' first
    | (simp +contextual +decide (maxDischargeDepth := 60) only [↓keeps_foldl, Keeps.refl, implies_true, ↓keeps_wrBit, ↓keeps_half_groups, Reg.SET_ACTIVE_STAGED]; done)
    | split

theorem keeps_tplAccess {ps : Nat} {s0 s : State} (h : HalfId) (w : Option Nat) (hm_ : subParts 0x2000000401 ps = true)
    (hs_ : Keeps ps s0 s) : Keeps ps s0 (tplAccess s h w) := by
  refine Keeps.comp (a := 0x2000000401) ?_ hm_ hs_
  clear hm_ hs_
  unfold tplAccess
  try dsimp only
  repeat' first
    | (simp +contextual +decide (maxDischargeDepth := 60) only [Keeps.refl, ↓keeps_tplAdvance, ↓keeps_modGroup, ↓keeps_wr, ↓keeps_wrB, Reg.FST_TPL_DATA_SAMPLE, Reg.FST_TPL_SEL_FUNC, Reg.FST_TPL_SEL_GROUP, Reg.SET_ACTIVE_WRITE_REFUSED]; done)
    | split

theorem keeps_fstLatch {ps : Nat} {s0 s : State} (h : HalfId) (f : Nat) (hm_ : subParts 0x400 ps = true)
    (hs_ : Keeps ps s0 s) : Keeps ps s0 (fstLatch s h f) := by
  refine Keeps.comp (a := 0x400) ?_ hm_ hs_
  clear hm_ hs_
  unfold fstLatch
  try dsimp only
  repeat' first
    | (simp +contextual +decide (maxDischargeDepth := 60) only [Keeps.refl, ↓keeps_wr, Reg.FST_FSIG_SCORE1, Reg.FST_FSIG_SCORE2, Reg.FST_FSTART_NS_NS, Reg.FST_FSTART_SEC_SEC, fits_instKey]; done)
    | split

end Sys2Proof.Machine
end

