-- ==== Sys2Proof/Laws/KeepsGeneral.lean ====
section
/-!
SUPPORT. `Keeps` for the operations of Machine/General.lean: the parts each may change.
-/

namespace Sys2Proof.Machine

open Sys2Proof (HalfId Instr Byte Word Accessor)

theorem keeps_genPut {ps : Nat} {s0 s : State} (h : HalfId) (k : Nat) (x : GenFn) (hm_ : subParts 0x12238401240200 ps = true)
    (hs_ : Keeps ps s0 s) : Keeps ps s0 (genPut s h k x) := by
  refine Keeps.comp (a := 0x12238401240200) ?_ hm_ hs_
  clear hm_ hs_
  unfold genPut
  try dsimp only
  repeat' first
    | (simp +contextual +decide (maxDischargeDepth := 60) only [↓keeps_ite, Keeps.refl, implies_true, ↓keeps_count, ↓keeps_qPush, ↓keeps_modDec, ↓keeps_ledgerOnce, ↓keeps_putBank, ↓keeps_wr, ↓keeps_wrB, Reg.FAB_FSTAT_EN, Reg.FAB_FSTAT_FROZEN, Reg.FAB_FSTAT_INPUT, Reg.FAB_FSTAT_OP, Reg.FAB_FSTAT_PU, Reg.FAB_FSTAT_TYPE, Reg.FAB_FSTAT_VALID, Reg.FAB_INV_INV, Reg.FAB_OPH_OPH, Reg.FAB_OP_OP, Reg.FAB_PU_PU, fits_instKey, fits_bank]; done)
    | split

theorem keeps_genUnusable {ps : Nat} {s0 s : State} (h : HalfId) (k type inst : Nat) (x : GenFn) (hm_ : subParts 0x12238401240200 ps = true)
    (hs_ : Keeps ps s0 s) : Keeps ps s0 (genUnusable s h k type inst x) := by
  refine Keeps.comp (a := 0x12238401240200) ?_ hm_ hs_
  clear hm_ hs_
  unfold genUnusable
  try dsimp only
  repeat' first
    | (simp +contextual +decide (maxDischargeDepth := 60) only [Keeps.refl, ↓keeps_genPut]; done)
    | split

theorem keeps_genUsable {ps : Nat} {s0 s : State} (h : HalfId) (k _type inst : Nat) (quals : List Nat) (step : Nat → GenFn → GenFn) (hm_ : subParts 0x12238401240200 ps = true)
    (hs_ : Keeps ps s0 s) : Keeps ps s0 (genUsable s h k _type inst quals step) := by
  refine Keeps.comp (a := 0x12238401240200) ?_ hm_ hs_
  clear hm_ hs_
  unfold genUsable
  try dsimp only
  repeat' first
    | (simp +contextual +decide (maxDischargeDepth := 60) only [Keeps.refl, ↓keeps_genPut]; done)
    | split

theorem keeps_genOff {ps : Nat} {s0 s : State} (h : HalfId) (k : Nat) (hm_ : subParts 0x12238401240200 ps = true)
    (hs_ : Keeps ps s0 s) : Keeps ps s0 (genOff s h k) := by
  refine Keeps.comp (a := 0x12238401240200) ?_ hm_ hs_
  clear hm_ hs_
  unfold genOff
  try dsimp only
  repeat' first
    | (simp +contextual +decide (maxDischargeDepth := 60) only [Keeps.refl, ↓keeps_genPut]; done)
    | split

theorem keeps_freqEval {ps : Nat} {s0 s : State} (h : HalfId) (k type cyc : Nat) (v : GenIn) (hm_ : subParts 0x12238401240200 ps = true)
    (hs_ : Keeps ps s0 s) : Keeps ps s0 (freqEval s h k type cyc v) := by
  refine Keeps.comp (a := 0x12238401240200) ?_ hm_ hs_
  clear hm_ hs_
  unfold freqEval
  try dsimp only
  repeat' first
    | (simp +contextual +decide (maxDischargeDepth := 60) only [↓keeps_ite, Keeps.refl, ↓keeps_genPut, ↓keeps_genUnusable, ↓keeps_genUsable, Reg.SMP_TRK_STAT_STATE]; done)
    | split

theorem keeps_streamRun {ps : Nat} {s0 s : State} (h : HalfId) (k j sub : Nat) (here : Bool) (hm_ : subParts 0x12238401240000 ps = true)
    (hs_ : Keeps ps s0 s) : Keeps ps s0 (streamRun s h k j sub here) := by
  refine Keeps.comp (a := 0x12238401240000) ?_ hm_ hs_
  clear hm_ hs_
  unfold streamRun
  try dsimp only
  repeat' first
    | (simp +contextual +decide (maxDischargeDepth := 60) only [↓keeps_ite, Keeps.refl, ↓keeps_ledgerH, ↓keeps_modDec]; done)
    | split

theorem keeps_syncNote {ps : Nat} {s0 s : State} (h : HalfId) (k cause : Nat) (lost : Bool) (hm_ : subParts 0x12238401240000 ps = true)
    (hs_ : Keeps ps s0 s) : Keeps ps s0 (syncNote s h k cause lost) := by
  refine Keeps.comp (a := 0x12238401240000) ?_ hm_ hs_
  clear hm_ hs_
  unfold syncNote
  try dsimp only
  repeat' first
    | (simp +contextual +decide (maxDischargeDepth := 60) only [↓keeps_foldl, ↓keeps_ite, Keeps.refl, implies_true, ↓keeps_ledgerH, ↓keeps_modDec, ↓keeps_store, ↓keeps_free, ↓keeps_ticks, ↓keeps_die_time, ↓keeps_die_io, ↓keeps_die_gavel, ↓keeps_die_mon, ↓keeps_die_evSeq, ↓keeps_die_rails, ↓keeps_die_supply, ↓keeps_die_railsSel]; done)
    | split

theorem keeps_syncNotes {ps : Nat} {s0 s : State} (h : HalfId) (k : Nat) (found : List (Option (Nat × Nat × Nat × Bool))) (hm_ : subParts 0x12238401240000 ps = true)
    (hs_ : Keeps ps s0 s) : Keeps ps s0 (syncNotes s h k found) := by
  refine Keeps.comp (a := 0x12238401240000) ?_ hm_ hs_
  clear hm_ hs_
  unfold syncNotes
  try dsimp only
  repeat' first
    | (simp +contextual +decide (maxDischargeDepth := 60) only [↓keeps_foldl, ↓keeps_ite, Keeps.refl, implies_true, ↓keeps_syncNote, ↓keeps_store, ↓keeps_free, ↓keeps_ticks, ↓keeps_die_time, ↓keeps_die_io, ↓keeps_die_gavel, ↓keeps_die_mon, ↓keeps_die_evSeq, ↓keeps_die_rails, ↓keeps_die_supply, ↓keeps_die_railsSel]; done)
    | split

theorem keeps_diffHead {ps : Nat} {s0 s : State} (h : HalfId) (k : Nat) (ins : List Nat) (hm_ : subParts 0x12238401240200 ps = true)
    (hs_ : Keeps ps s0 s) : Keeps ps s0 (diffHead s h k ins) := by
  refine Keeps.comp (a := 0x12238401240200) ?_ hm_ hs_
  clear hm_ hs_
  unfold diffHead
  try dsimp only
  repeat' first
    | (simp +contextual +decide (maxDischargeDepth := 60) only [↓keeps_foldl, ↓keeps_ite, Keeps.refl, implies_true, ↓keeps_satAdd, ↓keeps_modDec, ↓keeps_genUnusable, ↓keeps_genUsable, ↓keeps_genOff, ↓keeps_streamRun, ↓keeps_syncNotes, Reg.FAB_ALIGN_MISSING]; done)
    | split

theorem keeps_diffReady {ps : Nat} {s0 : State} (n : Nat) {s : State} (h : HalfId) (k : Nat) (ins : List Nat)
    (hm_ : subParts 0x12238401240200 ps = true) (hs_ : Keeps ps s0 s) : Keeps ps s0 (diffReady s h k ins n) := by
  induction n generalizing s with
  | zero => exact hs_
  | succ n ih =>
    unfold diffReady
    dsimp only
    split
    · exact hs_
    · exact keeps_ite _ (ih (keeps_diffHead h k ins hm_ hs_)) hs_

theorem keeps_diffLocal {ps : Nat} {s0 s : State} (h : HalfId) (k : Nat) (ins : List Nat) (hm_ : subParts 0x12238401240200 ps = true)
    (hs_ : Keeps ps s0 s) : Keeps ps s0 (diffLocal s h k ins) := by
  refine Keeps.comp (a := 0x12238401240200) ?_ hm_ hs_
  clear hm_ hs_
  unfold diffLocal
  try dsimp only
  repeat' first
    | (simp +contextual +decide (maxDischargeDepth := 60) only [Keeps.refl, ↓keeps_modDec, ↓keeps_diffReady]; done)
    | split

theorem keeps_diffStream {ps : Nat} {s0 s : State} (h : HalfId) (k j inst word_ : Nat) (sync : Bool) (ins : List Nat) (hm_ : subParts 0x12238401240200 ps = true)
    (hs_ : Keeps ps s0 s) : Keeps ps s0 (diffStream s h k j inst word_ sync ins) := by
  refine Keeps.comp (a := 0x12238401240200) ?_ hm_ hs_
  clear hm_ hs_
  unfold diffStream
  try dsimp only
  repeat' first
    | (simp +contextual +decide (maxDischargeDepth := 60) only [↓keeps_ite, Keeps.refl, ↓keeps_satAdd, ↓keeps_modDec, ↓keeps_diffReady, Reg.FAB_ALIGN_LATE]; done)
    | split

theorem keeps_genChain {ps : Nat} {s0 s : State} (h : HalfId) (r : GenTileRec) (c : Nat) (cyc : Option Nat) (hm_ : subParts 0x12238401240200 ps = true)
    (hs_ : Keeps ps s0 s) : Keeps ps s0 (genChain s h r c cyc) := by
  refine Keeps.comp (a := 0x12238401240200) ?_ hm_ hs_
  clear hm_ hs_
  unfold genChain
  try dsimp only
  repeat' first
    | (simp +contextual +decide (maxDischargeDepth := 60) only [↓keeps_ite, Keeps.refl, ↓keeps_modDec, ↓keeps_genUnusable, ↓keeps_genUsable, ↓keeps_genOff, ↓keeps_freqEval, ↓keeps_diffLocal]; done)
    | split

theorem keeps_generalEval {ps : Nat} {s0 s : State} (h : HalfId) (c : Nat) (cyc : Option Nat) (hm_ : subParts 0x12238401240200 ps = true)
    (hs_ : Keeps ps s0 s) : Keeps ps s0 (generalEval s h c cyc) := by
  refine Keeps.comp (a := 0x12238401240200) ?_ hm_ hs_
  clear hm_ hs_
  unfold generalEval
  try dsimp only
  repeat' first
    | (simp +contextual +decide (maxDischargeDepth := 60) only [↓keeps_foldl, ↓keeps_ite, Keeps.refl, implies_true, ↓keeps_genChain]; done)
    | split

theorem keeps_execFreezeDrop {s : State} (h : HalfId) (slot : Nat) :
    Keeps 0x1273C501EC2E00 s (after s (execFreezeDrop h slot s)) := by
  unfold execFreezeDrop
  try dsimp only
  repeat' first
    | (simp +contextual +decide (maxDischargeDepth := 60) only [after_next, Keeps.refl, ↓keeps_ledgerH, ↓keeps_decideOut, ↓keeps_genPut]; done)
    | simp only [after_next]
    | split

theorem keeps_execDefiniteResetExpiry {s : State} (h : HalfId) (slot : Nat) :
    Keeps 0x12238401240200 s (after s (execDefiniteResetExpiry h slot s)) := by
  unfold execDefiniteResetExpiry
  try dsimp only
  repeat' first
    | (simp +contextual +decide (maxDischargeDepth := 60) only [after_next, ↓keeps_ite, Keeps.refl, ↓keeps_genPut]; done)
    | simp only [after_next]
    | split

theorem keeps_execAlignWaitExpiry {s : State} (h : HalfId) (slot : Nat) :
    Keeps 0x1277C501ECAE00 s (after s (execAlignWaitExpiry h slot s)) := by
  unfold execAlignWaitExpiry
  try dsimp only
  repeat' first
    | (simp +contextual +decide (maxDischargeDepth := 60) only [after_next, Keeps.refl, ↓keeps_decideOut, ↓keeps_edgeTriggers, ↓keeps_diffHead, ↓keeps_diffReady]; done)
    | simp only [after_next]
    | split

theorem keeps_diffRelease {ps : Nat} {s0 s : State} (h : HalfId) (k g : Nat) (hm_ : subParts 0x12238401240200 ps = true)
    (hs_ : Keeps ps s0 s) : Keeps ps s0 (diffRelease s h k g) := by
  refine Keeps.comp (a := 0x12238401240200) ?_ hm_ hs_
  clear hm_ hs_
  unfold diffRelease
  try dsimp only
  repeat' first
    | (simp +contextual +decide (maxDischargeDepth := 60) only [↓keeps_ite, Keeps.refl, ↓keeps_genPut]; done)
    | split

theorem keeps_execSigWindowClose {s : State} (h : HalfId) (f : Nat) :
    Keeps 0x1277C501ECBE00 s (after s (execSigWindowClose h f s)) := by
  unfold execSigWindowClose
  try dsimp only
  repeat' first
    | (simp +contextual +decide (maxDischargeDepth := 60) only [after_next, ↓keeps_foldl, Keeps.refl, implies_true, ↓keeps_count, ↓keeps_fnPut, ↓keeps_afterFast, ↓keeps_edgeTriggers, ↓keeps_releaseRestrained, ↓keeps_diffRelease]; done)
    | simp only [after_next]
    | split

theorem keeps_execMaxrExpiry {s : State} (h : HalfId) (diff : Bool) (k : Nat) :
    Keeps 0x1277C501ECBE00 s (after s (execMaxrExpiry h diff k s)) := by
  unfold execMaxrExpiry
  try dsimp only
  repeat' first
    | (simp +contextual +decide (maxDischargeDepth := 60) only [after_next, Keeps.refl, ↓keeps_ledgerH, ↓keeps_decideOut, ↓keeps_fnPut, ↓keeps_afterFast, ↓keeps_edgeTriggers, ↓keeps_genPut, ↓keeps_wrB, Reg.FST_FSTAT_MAXR, fits_instKey]; done)
    | simp only [after_next]
    | split

theorem keeps_fabLatch {ps : Nat} {s0 s : State} (h : HalfId) (hm_ : subParts 0x200 ps = true)
    (hs_ : Keeps ps s0 s) : Keeps ps s0 (fabLatch s h) := by
  refine Keeps.comp (a := 0x200) ?_ hm_ hs_
  clear hm_ hs_
  unfold fabLatch
  try dsimp only
  repeat' first
    | (simp +contextual +decide (maxDischargeDepth := 60) only [Keeps.refl, ↓keeps_wr, Reg.FAB_FCMP0_WORD, Reg.FAB_FCMP1_WORD, Reg.FAB_FQTY_QUALITY, Reg.FAB_FQTY_VALUE, Reg.FAB_FSEL_SLOT, Reg.FAB_FSTART_NS_NS, Reg.FAB_FSTART_SEC_SEC, Reg.FAB_FSTATE_PROGRESS]; done)
    | split

theorem keeps_curveAdvance {ps : Nat} {s0 s : State} (h : HalfId) (hm_ : subParts 0x200 ps = true)
    (hs_ : Keeps ps s0 s) : Keeps ps s0 (curveAdvance s h) := by
  refine Keeps.comp (a := 0x200) ?_ hm_ hs_
  clear hm_ hs_
  unfold curveAdvance
  try dsimp only
  repeat' first
    | (simp +contextual +decide (maxDischargeDepth := 60) only [Keeps.refl, ↓keeps_wr, Reg.FAB_UC_SEL_CURVE, Reg.FAB_UC_SEL_POINT]; done)
    | split

theorem keeps_curveAccess {ps : Nat} {s0 s : State} (h : HalfId) (w : Option Nat) (hm_ : subParts 0x2000000201 ps = true)
    (hs_ : Keeps ps s0 s) : Keeps ps s0 (curveAccess s h w) := by
  refine Keeps.comp (a := 0x2000000201) ?_ hm_ hs_
  clear hm_ hs_
  unfold curveAccess
  try dsimp only
  repeat' first
    | (simp +contextual +decide (maxDischargeDepth := 60) only [Keeps.refl, ↓keeps_modGroup, ↓keeps_curveAdvance, ↓keeps_setWord, ↓keeps_wrB, Reg.FAB_UC_DATA_M, Reg.FAB_UC_SEL_GROUP, Reg.SET_ACTIVE_WRITE_REFUSED]; done)
    | split

end Sys2Proof.Machine
end

