-- ==== Sys2Proof/Laws/KeepsChains.lean ====
section
/-!
SUPPORT. `Keeps` for the operations of Machine/Chains.lean: the parts each may change.
-/

namespace Sys2Proof.Machine

open Sys2Proof (HalfId Instr Byte Word Accessor)

theorem keeps_setChain {ps : Nat} {s0 s : State} (h : HalfId) (c : Nat) (x : ChainRun) (hm_ : subParts 0x1000000000000 ps = true)
    (hs_ : Keeps ps s0 s) : Keeps ps s0 (setChain s h c x) := by
  refine Keeps.comp (a := 0x1000000000000) ?_ hm_ hs_
  clear hm_ hs_
  unfold setChain
  try dsimp only
  repeat' first
    | (simp +contextual +decide (maxDischargeDepth := 60) only [Keeps.refl, ↓keeps_modFe]; done)
    | split

theorem keeps_putResp {ps : Nat} {s0 s : State} (h : HalfId) (c resp : Nat) (hm_ : subParts 0x40000000040 ps = true)
    (hs_ : Keeps ps s0 s) : Keeps ps s0 (putResp s h c resp) := by
  refine Keeps.comp (a := 0x40000000040) ?_ hm_ hs_
  clear hm_ hs_
  unfold putResp
  try dsimp only
  repeat' first
    | (simp +contextual +decide (maxDischargeDepth := 60) only [↓keeps_ite, Keeps.refl, ↓keeps_noteChange, ↓keeps_wr, Reg.PCV_FLT_CFG_RESP_NOW, fits_bank]; done)
    | split

theorem keeps_restartChain {ps : Nat} {s0 s : State} (h : HalfId) (c : Nat) (hm_ : subParts 0x1000000000040 ps = true)
    (hs_ : Keeps ps s0 s) : Keeps ps s0 (restartChain s h c) := by
  refine Keeps.comp (a := 0x1000000000040) ?_ hm_ hs_
  clear hm_ hs_
  unfold restartChain
  try dsimp only
  repeat' first
    | (simp +contextual +decide (maxDischargeDepth := 60) only [Keeps.refl, ↓keeps_satAdd, ↓keeps_setChain, ↓keeps_wrBit, Reg.PCV_FLT_SETTLING_SETTLING, Reg.PCV_FLT_STAT_RESTARTS, fits_instKey, fits_bank]; done)
    | split

theorem keeps_restartChains {ps : Nat} {s0 s : State} (h : HalfId) (p : ChainRec → Bool) (hm_ : subParts 0x1000000000040 ps = true)
    (hs_ : Keeps ps s0 s) : Keeps ps s0 (restartChains s h p) := by
  refine Keeps.comp (a := 0x1000000000040) ?_ hm_ hs_
  clear hm_ hs_
  unfold restartChains
  try dsimp only
  repeat' first
    | (simp +contextual +decide (maxDischargeDepth := 60) only [↓keeps_foldl, ↓keeps_ite, Keeps.refl, implies_true, ↓keeps_restartChain]; done)
    | split

theorem keeps_injEnd {ps : Nat} {s0 s : State} (h : HalfId) (cause : Nat) (hm_ : subParts 0x11238401240040 ps = true)
    (hs_ : Keeps ps s0 s) : Keeps ps s0 (injEnd s h cause) := by
  refine Keeps.comp (a := 0x11238401240040) ?_ hm_ hs_
  clear hm_ hs_
  unfold injEnd
  try dsimp only
  repeat' first
    | (simp +contextual +decide (maxDischargeDepth := 60) only [Keeps.refl, ↓keeps_wrapInc, ↓keeps_ledgerH, ↓keeps_modFe, ↓keeps_wr, ↓keeps_wrB, Reg.PCV_INJ_STAT_ACTIVE, Reg.PCV_INJ_STAT_SEQ, Reg.PCV_INJ_STAT_STATUS]; done)
    | split

theorem keeps_injectNow {ps : Nat} {s0 s : State} (h : HalfId) (c : Nat) (hm_ : subParts 0x11238401240040 ps = true)
    (hs_ : Keeps ps s0 s) : Keeps ps s0 ((injectNow s h c)).2 := by
  refine Keeps.comp (a := 0x11238401240040) ?_ hm_ hs_
  clear hm_ hs_
  unfold injectNow
  try dsimp only
  repeat' first
    | (simp +contextual +decide (maxDischargeDepth := 60) only [↓keeps_ite, Keeps.refl, ↓keeps_modFe, ↓keeps_injEnd]; done)
    | split

theorem keeps_noteHigh {ps : Nat} {s0 s : State} (h : HalfId) (k : Nat) (x : Int) (hm_ : subParts 0x1000000000000 ps = true)
    (hs_ : Keeps ps s0 s) : Keeps ps s0 (noteHigh s h k x) := by
  refine Keeps.comp (a := 0x1000000000000) ?_ hm_ hs_
  clear hm_ hs_
  unfold noteHigh
  try dsimp only
  repeat' first
    | (simp +contextual +decide (maxDischargeDepth := 60) only [↓keeps_ite, Keeps.refl, ↓keeps_modFe]; done)
    | split

theorem keeps_monitorShow {ps : Nat} {s0 s : State} (h : HalfId) (k : Nat) (x : Int) (q : Nat) (hm_ : subParts 0xC0 ps = true)
    (hs_ : Keeps ps s0 s) : Keeps ps s0 (monitorShow s h k x q) := by
  refine Keeps.comp (a := 0xC0) ?_ hm_ hs_
  clear hm_ hs_
  unfold monitorShow
  try dsimp only
  repeat' first
    | (simp +contextual +decide (maxDischargeDepth := 60) only [↓keeps_ite, Keeps.refl, ↓keeps_wr, Reg.BSI_SAMP_QUALITY, Reg.BSI_SAMP_VALUE, Reg.PCV_SAMP_QUALITY, Reg.PCV_SAMP_VALUE, fits_instKey]; done)
    | split

theorem keeps_chainMain {ps : Nat} {s0 s : State} (h : HalfId) (r : ChainRec) (re im : Int) (older inst : Nat) (hm_ : subParts 0x11238401240040 ps = true)
    (hs_ : Keeps ps s0 s) : Keeps ps s0 ((chainMain s h r re im older inst)).2 := by
  refine Keeps.comp (a := 0x11238401240040) ?_ hm_ hs_
  clear hm_ hs_
  unfold chainMain
  try dsimp only
  repeat' first
    | (simp +contextual +decide (maxDischargeDepth := 60) only [↓keeps_ite, Keeps.refl, ↓keeps_setChain, ↓keeps_restartChain, ↓keeps_injectNow]; done)
    | split

theorem keeps_sendStreams {ps : Nat} {s0 s : State} (h : HalfId) (c inst : Nat) (hm_ : subParts 0x10338401640000 ps = true)
    (hs_ : Keeps ps s0 s) : Keeps ps s0 (sendStreams s h c inst) := by
  refine Keeps.comp (a := 0x10338401640000) ?_ hm_ hs_
  clear hm_ hs_
  unfold sendStreams
  try dsimp only
  repeat' first
    | (simp +contextual +decide (maxDischargeDepth := 60) only [↓keeps_foldl, ↓keeps_ite, Keeps.refl, implies_true, ↓keeps_sendFrame]; done)
    | split

theorem keeps_recordChain {ps : Nat} {s0 s : State} (h : HalfId) (c inst : Nat) (hm_ : subParts 0x40000000000 ps = true)
    (hs_ : Keeps ps s0 s) : Keeps ps s0 (recordChain s h c inst) := by
  refine Keeps.comp (a := 0x40000000000) ?_ hm_ hs_
  clear hm_ hs_
  unfold recordChain
  try dsimp only
  repeat' first
    | (simp +contextual +decide (maxDischargeDepth := 60) only [↓keeps_foldl, Keeps.refl, implies_true, ↓keeps_recordSample]; done)
    | split

theorem keeps_chainTriggers {ps : Nat} {s0 s : State} (h : HalfId) (c inst : Nat) (hm_ : subParts 0x2040000008000 ps = true)
    (hs_ : Keeps ps s0 s) : Keeps ps s0 (chainTriggers s h c inst) := by
  refine Keeps.comp (a := 0x2040000008000) ?_ hm_ hs_
  clear hm_ hs_
  unfold chainTriggers
  try dsimp only
  repeat' first
    | (simp +contextual +decide (maxDischargeDepth := 60) only [↓keeps_foldl, Keeps.refl, implies_true, ↓keeps_levelTriggers]; done)
    | split

theorem keeps_chainFeed {ps : Nat} {s0 s : State} (h : HalfId) (c inst : Nat) (cyc : Option Nat) (hm_ : subParts 0x1277C501ECAE00 ps = true)
    (hs_ : Keeps ps s0 s) : Keeps ps s0 (chainFeed s h c inst cyc) := by
  refine Keeps.comp (a := 0x1277C501ECAE00) ?_ hm_ hs_
  clear hm_ hs_
  unfold chainFeed
  try dsimp only
  repeat' first
    | (simp +contextual +decide (maxDischargeDepth := 60) only [Keeps.refl, ↓keeps_publishChanges, ↓keeps_decideOut, ↓keeps_edgeTriggers, ↓keeps_generalEval, ↓keeps_sendStreams, ↓keeps_recordChain, ↓keeps_chainTriggers]; done)
    | split

theorem keeps_execChainOutput {s : State} (h : HalfId) (c : Nat) (x re im : Int) (older inst : Nat) (cyc : Option Nat) (sat : Bool) :
    Keeps 0x1377C501ECAEC0 s (after s (execChainOutput h c x re im older inst cyc sat s)) := by
  unfold execChainOutput
  try dsimp only
  repeat' first
    | (simp +contextual +decide (maxDischargeDepth := 60) only [after_next, ↓keeps_ite, Keeps.refl, ↓keeps_ledgerH, ↓keeps_setChain, ↓keeps_noteHigh, ↓keeps_monitorShow, ↓keeps_chainMain, ↓keeps_chainFeed, ↓keeps_wrBit, Reg.PCV_FLT_SAT_SAT, Reg.PCV_FLT_SETTLING_SETTLING, fits_instKey]; done)
    | simp only [after_next]
    | split

theorem keeps_fltResult {ps : Nat} {s0 s : State} (h : HalfId) (c resp st : Nat) (seq : Bool) (hm_ : subParts 0x40 ps = true)
    (hs_ : Keeps ps s0 s) : Keeps ps s0 (fltResult s h c resp st seq) := by
  refine Keeps.comp (a := 0x40) ?_ hm_ hs_
  clear hm_ hs_
  unfold fltResult
  try dsimp only
  repeat' first
    | (simp +contextual +decide (maxDischargeDepth := 60) only [↓keeps_ite, Keeps.refl, ↓keeps_wrapInc, ↓keeps_wr, Reg.PCV_FLT_RESULT_CHAIN, Reg.PCV_FLT_RESULT_RESP, Reg.PCV_FLT_RESULT_SEQ, Reg.PCV_FLT_RESULT_STATUS]; done)
    | split

theorem keeps_askSwitch {ps : Nat} {s0 s : State} (h : HalfId) (c resp kind mode : Nat) (hm_ : subParts 0x1000000000000 ps = true)
    (hs_ : Keeps ps s0 s) : Keeps ps s0 (askSwitch s h c resp kind mode) := by
  refine Keeps.comp (a := 0x1000000000000) ?_ hm_ hs_
  clear hm_ hs_
  unfold askSwitch
  try dsimp only
  repeat' first
    | (simp +contextual +decide (maxDischargeDepth := 60) only [Keeps.refl, ↓keeps_setChain]; done)
    | split

theorem keeps_fltCmd {ps : Nat} {s0 s : State} (h : HalfId) (code c resp : Nat) (hm_ : subParts 0x1000000000040 ps = true)
    (hs_ : Keeps ps s0 s) : Keeps ps s0 (fltCmd s h code c resp) := by
  refine Keeps.comp (a := 0x1000000000040) ?_ hm_ hs_
  clear hm_ hs_
  unfold fltCmd
  try dsimp only
  repeat' first
    | (simp +contextual +decide (maxDischargeDepth := 60) only [↓keeps_ite, Keeps.refl, ↓keeps_setChain, ↓keeps_fltResult, ↓keeps_askSwitch]; done)
    | split

theorem keeps_execFltSwitch {s : State} (h : HalfId) (chain resp : Nat) :
    Keeps 0x1000000000040 s (after s (execFltSwitch h chain resp s)) := by
  unfold execFltSwitch
  try dsimp only
  repeat' first
    | (simp +contextual +decide (maxDischargeDepth := 60) only [after_next, Keeps.refl, ↓keeps_access, ↓keeps_fltCmd]; done)
    | simp only [after_next]
    | split

theorem keeps_execPeakReset {s : State} (h : HalfId) (chain : Nat) :
    Keeps 0x1000000000040 s (after s (execPeakReset h chain s)) := by
  unfold execPeakReset
  try dsimp only
  repeat' first
    | (simp +contextual +decide (maxDischargeDepth := 60) only [after_next, Keeps.refl, ↓keeps_access, ↓keeps_fltCmd]; done)
    | simp only [after_next]
    | split

theorem keeps_execResponseSwitchBoundary {s : State} (h : HalfId) (chain : Nat) :
    Keeps 0x11278401240040 s (after s (execResponseSwitchBoundary h chain s)) := by
  unfold execResponseSwitchBoundary
  try dsimp only
  repeat' first
    | (simp +contextual +decide (maxDischargeDepth := 60) only [after_next, ↓keeps_ite, Keeps.refl, ↓keeps_ledgerH, ↓keeps_setChain, ↓keeps_putResp, ↓keeps_restartChain, ↓keeps_fltResult, ↓keeps_wrB, Reg.PCV_FLT_STAT_SWITCHED, fits_bank]; done)
    | simp only [after_next]
    | split

theorem keeps_revertChains {ps : Nat} {s0 s : State} (h : HalfId) (mode : Nat) (hm_ : subParts 0x1000000000000 ps = true)
    (hs_ : Keeps ps s0 s) : Keeps ps s0 (revertChains s h mode) := by
  refine Keeps.comp (a := 0x1000000000000) ?_ hm_ hs_
  clear hm_ hs_
  unfold revertChains
  try dsimp only
  repeat' first
    | (simp +contextual +decide (maxDischargeDepth := 60) only [↓keeps_foldl, ↓keeps_ite, Keeps.refl, implies_true, ↓keeps_setChain, ↓keeps_askSwitch]; done)
    | split

theorem keeps_fltLatch {ps : Nat} {s0 s : State} (h : HalfId) (hm_ : subParts 0x40 ps = true) (hs_ : Keeps ps s0 s) :
    Keeps ps s0 (fltLatch s h) := by
  have w (u : State) (f : Fld) (v : Nat) (hf : fits 0x40 f.key = true) (hu : Keeps ps s0 u) : Keeps ps s0 (wr u h f v) :=
    keeps_wr h f v (fits_mono _ hm_ hf) hu
  unfold fltLatch
  dsimp only
  split
  · exact hs_
  · repeat' first
      | assumption
      | with_reducible apply w
      | (simp only [Reg.PCV_FLT_OUT_VALUE, Reg.PCV_FLT_OUT_QUALITY, Reg.PCV_FLT_OUT2_VALUE, Reg.PCV_FLT_OUT2_QUALITY,
          Reg.PCV_FLT_PEAK_VALUE, Reg.PCV_FLT_PEAK_QUALITY, Reg.PCV_FLT_RMS_VALUE, Reg.PCV_FLT_RMS_QUALITY,
          Reg.PCV_FLT_ENV_VALUE, Reg.PCV_FLT_ENV_QUALITY, Reg.PCV_FLT_STAT_SETTLE_REMAIN, fits_bank]; decide)

theorem keeps_execPcvFltSelWrite {s : State} (h : HalfId) (v : Nat) :
    Keeps 0x40 s (after s (execPcvFltSelWrite h v s)) := by
  unfold execPcvFltSelWrite
  try dsimp only
  repeat' first
    | (simp +contextual +decide (maxDischargeDepth := 60) only [after_next, Keeps.refl, ↓keeps_access, ↓keeps_fltLatch, ↓keeps_wr, Reg.PCV_FLT_SEL_CHAIN]; done)
    | simp only [after_next]
    | split

theorem keeps_injStart {ps : Nat} {s0 s : State} (h : HalfId) (n tick t origin entry : Nat) (hm_ : subParts 0x11238401240040 ps = true)
    (hs_ : Keeps ps s0 s) : Keeps ps s0 (injStart s h n tick t origin entry) := by
  refine Keeps.comp (a := 0x11238401240040) ?_ hm_ hs_
  clear hm_ hs_
  unfold injStart
  try dsimp only
  repeat' first
    | (simp +contextual +decide (maxDischargeDepth := 60) only [↓keeps_ite, Keeps.refl, ↓keeps_wrapInc, ↓keeps_ledgerH, ↓keeps_modFe, ↓keeps_wr, ↓keeps_wrB, Reg.PCV_INJ_STAT_ACTIVE, Reg.PCV_INJ_STAT_DETAIL, Reg.PCV_INJ_STAT_SEQ, Reg.PCV_INJ_STAT_SET, Reg.PCV_INJ_STAT_STATUS]; done)
    | split

theorem keeps_injCmd {ps : Nat} {s0 s : State} (h : HalfId) (code n : Nat) (hm_ : subParts 0x11238401240040 ps = true)
    (hs_ : Keeps ps s0 s) : Keeps ps s0 (injCmd s h code n) := by
  refine Keeps.comp (a := 0x11238401240040) ?_ hm_ hs_
  clear hm_ hs_
  unfold injCmd
  try dsimp only
  repeat' first
    | (simp +contextual +decide (maxDischargeDepth := 60) only [↓keeps_ite, Keeps.refl, ↓keeps_wrapInc, ↓keeps_injEnd, ↓keeps_injStart, ↓keeps_wr, Reg.PCV_INJ_STAT_DETAIL, Reg.PCV_INJ_STAT_SEQ, Reg.PCV_INJ_STAT_STATUS]; done)
    | split

theorem keeps_execInjStart {s : State} (h : HalfId) (set : Nat) :
    Keeps 0x11238401240040 s (after s (execInjStart h set s)) := by
  unfold execInjStart
  try dsimp only
  repeat' first
    | (simp +contextual +decide (maxDischargeDepth := 60) only [after_next, Keeps.refl, ↓keeps_access, ↓keeps_injCmd]; done)
    | simp only [after_next]
    | split

theorem keeps_execInjStop {s : State} (h : HalfId) :
    Keeps 0x11238401240040 s (after s (execInjStop h s)) := by
  unfold execInjStop
  try dsimp only
  repeat' first
    | (simp +contextual +decide (maxDischargeDepth := 60) only [after_next, Keeps.refl, ↓keeps_access, ↓keeps_injCmd]; done)
    | simp only [after_next]
    | split

theorem keeps_injAdvance {ps : Nat} {s0 s : State} (h : HalfId) (hm_ : subParts 0x40 ps = true)
    (hs_ : Keeps ps s0 s) : Keeps ps s0 (injAdvance s h) := by
  refine Keeps.comp (a := 0x40) ?_ hm_ hs_
  clear hm_ hs_
  unfold injAdvance
  try dsimp only
  repeat' first
    | (simp +contextual +decide (maxDischargeDepth := 60) only [Keeps.refl, ↓keeps_wr, Reg.PCV_INJ_SEL_SET, Reg.PCV_INJ_SEL_WORD]; done)
    | split

theorem keeps_injAccess {ps : Nat} {s0 s : State} (h : HalfId) (w : Option Nat) (hm_ : subParts 0x1000000000040 ps = true)
    (hs_ : Keeps ps s0 s) : Keeps ps s0 (injAccess s h w) := by
  refine Keeps.comp (a := 0x1000000000040) ?_ hm_ hs_
  clear hm_ hs_
  unfold injAccess
  try dsimp only
  repeat' first
    | (simp +contextual +decide (maxDischargeDepth := 60) only [↓keeps_ite, Keeps.refl, ↓keeps_modFe, ↓keeps_injAdvance, ↓keeps_wr, ↓keeps_wrB, Reg.PCV_INJ_DATA_DATA, Reg.PCV_INJ_SEL_SET, Reg.PCV_INJ_SEL_WORD, Reg.PCV_INJ_STAT_WRITE_REFUSED]; done)
    | split

end Sys2Proof.Machine
end

