-- ==== Sys2Proof/Laws/KeepsInputs.lean ====
section
/-!
SUPPORT. `Keeps` for the operations of Machine/Inputs.lean: the parts each may change.
-/

namespace Sys2Proof.Machine

open Sys2Proof (HalfId Instr Byte Word Accessor)

theorem keeps_refWrite {ps : Nat} {s0 s : State} (h : HalfId) (en : Bool) (hm_ : subParts 0x1000000000040 ps = true)
    (hs_ : Keeps ps s0 s) : Keeps ps s0 (refWrite s h en) := by
  refine Keeps.comp (a := 0x1000000000040) ?_ hm_ hs_
  clear hm_ hs_
  unfold refWrite
  try dsimp only
  repeat' first
    | (simp +contextual +decide (maxDischargeDepth := 60) only [↓keeps_ite, Keeps.refl, ↓keeps_modFe, ↓keeps_wrB, Reg.PCV_REF_EN, Reg.PCV_REF_STAT_SETTLED]; done)
    | split

theorem keeps_refElapsed {ps : Nat} {s0 s : State} (h : HalfId) (hm_ : subParts 0x1000000000040 ps = true)
    (hs_ : Keeps ps s0 s) : Keeps ps s0 (refElapsed s h) := by
  refine Keeps.comp (a := 0x1000000000040) ?_ hm_ hs_
  clear hm_ hs_
  unfold refElapsed
  try dsimp only
  repeat' first
    | (simp +contextual +decide (maxDischargeDepth := 60) only [Keeps.refl, ↓keeps_modFe, ↓keeps_wrB, Reg.PCV_REF_EN, Reg.PCV_REF_STAT_SETTLED]; done)
    | split

theorem keeps_execRefBufferEnable {s : State} (h : HalfId) :
    Keeps 0x1000000000040 s (after s (execRefBufferEnable h s)) := by
  unfold execRefBufferEnable
  try dsimp only
  repeat' first
    | (simp +contextual +decide (maxDischargeDepth := 60) only [after_next, Keeps.refl, ↓keeps_access, ↓keeps_refWrite]; done)
    | simp only [after_next]
    | split

theorem keeps_execRefsetElapsed {s : State} (h : HalfId) :
    Keeps 0x1000000000040 s (after s (execRefsetElapsed h s)) := by
  unfold execRefsetElapsed
  try dsimp only
  repeat' first
    | (simp +contextual +decide (maxDischargeDepth := 60) only [after_next, Keeps.refl, ↓keeps_refElapsed]; done)
    | simp only [after_next]
    | split

theorem keeps_suspendUpdate {ps : Nat} {s0 s : State} (h : HalfId) (hm_ : subParts 0x1023C4012C0040 ps = true)
    (hs_ : Keeps ps s0 s) : Keeps ps s0 (suspendUpdate s h) := by
  refine Keeps.comp (a := 0x1023C4012C0040) ?_ hm_ hs_
  clear hm_ hs_
  unfold suspendUpdate
  try dsimp only
  repeat' first
    | (simp +contextual +decide (maxDischargeDepth := 60) only [↓keeps_ite, Keeps.refl, ↓keeps_ledgerH, ↓keeps_tallySet, ↓keeps_wrB, Reg.PCV_TEST_STAT_SUSPENDED, Reg.TLY_SUB_SUB0, tlySub]; done)
    | split

theorem keeps_testStart {ps : Nat} {s0 s : State} (h : HalfId) (k : Nat) (hm_ : subParts 0x1000000000040 ps = true)
    (hs_ : Keeps ps s0 s) : Keeps ps s0 (testStart s h k) := by
  refine Keeps.comp (a := 0x1000000000040) ?_ hm_ hs_
  clear hm_ hs_
  unfold testStart
  try dsimp only
  repeat' first
    | (simp +contextual +decide (maxDischargeDepth := 60) only [Keeps.refl, ↓keeps_modFe, ↓keeps_wr, ↓keeps_wrB, Reg.PCV_TEST_STAT_ACTIVE, Reg.PCV_TEST_STAT_CHANNEL]; done)
    | split

theorem keeps_testDue {ps : Nat} {s0 s : State} (h : HalfId) (k : Nat) (hm_ : subParts 0x1000000000040 ps = true)
    (hs_ : Keeps ps s0 s) : Keeps ps s0 (testDue s h k) := by
  refine Keeps.comp (a := 0x1000000000040) ?_ hm_ hs_
  clear hm_ hs_
  unfold testDue
  try dsimp only
  repeat' first
    | (simp +contextual +decide (maxDischargeDepth := 60) only [↓keeps_ite, Keeps.refl, ↓keeps_satAdd, ↓keeps_modFe, ↓keeps_testStart, Reg.PCV_TEST_STAT_SKIPPED]; done)
    | split

theorem keeps_execInjectionTestSlot {s : State} (h : HalfId) (code : Nat) :
    Keeps 0x1000000000040 s (after s (execInjectionTestSlot h code s)) := by
  unfold execInjectionTestSlot
  try dsimp only
  repeat' first
    | (simp +contextual +decide (maxDischargeDepth := 60) only [after_next, ↓keeps_ite, Keeps.refl, ↓keeps_testDue]; done)
    | simp only [after_next]
    | split

theorem keeps_execInjectionTestDefer {s : State} (h : HalfId) (code : Nat) :
    Keeps 0x1000000000040 s (after s (execInjectionTestDefer h code s)) := by
  unfold execInjectionTestDefer
  try dsimp only
  repeat' first
    | (simp +contextual +decide (maxDischargeDepth := 60) only [after_next, ↓keeps_ite, Keeps.refl, ↓keeps_testDue]; done)
    | simp only [after_next]
    | split

theorem keeps_execInjectionRetest {s : State} (h : HalfId) (code : Nat) :
    Keeps 0x1000000000040 s (after s (execInjectionRetest h code s)) := by
  unfold execInjectionRetest
  try dsimp only
  repeat' first
    | (simp +contextual +decide (maxDischargeDepth := 60) only [after_next, ↓keeps_ite, Keeps.refl, ↓keeps_testDue]; done)
    | simp only [after_next]
    | split

theorem keeps_testReconnect {ps : Nat} {s0 s : State} (h : HalfId) (t : InjTest) (hm_ : subParts 0x1000000000000 ps = true)
    (hs_ : Keeps ps s0 s) : Keeps ps s0 (testReconnect s h t) := by
  refine Keeps.comp (a := 0x1000000000000) ?_ hm_ hs_
  clear hm_ hs_
  unfold testReconnect
  try dsimp only
  repeat' first
    | (simp +contextual +decide (maxDischargeDepth := 60) only [↓keeps_foldl, ↓keeps_ite, Keeps.refl, implies_true, ↓keeps_modFe, ↓keeps_setChain]; done)
    | split

theorem keeps_execTestPointsDone {s : State} (h : HalfId) (d0 d1 d2 : Int) :
    Keeps 0x1000000000000 s (after s (execTestPointsDone h d0 d1 d2 s)) := by
  unfold execTestPointsDone
  try dsimp only
  repeat' first
    | (simp +contextual +decide (maxDischargeDepth := 60) only [after_next, ↓keeps_ite, Keeps.refl, ↓keeps_testReconnect, Reg.PCV_TEST_CFG_TOL]; done)
    | simp only [after_next]
    | split

theorem keeps_testAbort {ps : Nat} {s0 s : State} (h : HalfId) (cause : Nat) (hm_ : subParts 0x11238401240040 ps = true)
    (hs_ : Keeps ps s0 s) : Keeps ps s0 (testAbort s h cause) := by
  refine Keeps.comp (a := 0x11238401240040) ?_ hm_ hs_
  clear hm_ hs_
  unfold testAbort
  try dsimp only
  repeat' first
    | (simp +contextual +decide (maxDischargeDepth := 60) only [↓keeps_ite, Keeps.refl, ↓keeps_ledgerH, ↓keeps_testReconnect, ↓keeps_wr, Reg.PCV_STAT_LAST_RESULT, fits_instKey]; done)
    | split

theorem keeps_execTilePickup {s : State} (h : HalfId) (code : Nat) :
    Keeps 0x11238401240040 s (after s (execTilePickup h code s)) := by
  unfold execTilePickup
  try dsimp only
  repeat' first
    | (simp +contextual +decide (maxDischargeDepth := 60) only [after_next, ↓keeps_ite, Keeps.refl, ↓keeps_testAbort]; done)
    | simp only [after_next]
    | split

theorem keeps_putFailed {ps : Nat} {s0 s : State} (h : HalfId) (k : Nat) (b : Bool) (hm_ : subParts 0x1000000000040 ps = true)
    (hs_ : Keeps ps s0 s) : Keeps ps s0 (putFailed s h k b) := by
  refine Keeps.comp (a := 0x1000000000040) ?_ hm_ hs_
  clear hm_ hs_
  unfold putFailed
  try dsimp only
  repeat' first
    | (simp +contextual +decide (maxDischargeDepth := 60) only [↓keeps_ite, Keeps.refl, ↓keeps_modFe, ↓keeps_wrB, ↓keeps_wrBit, Reg.PCV_FAILED_HI_FAILED, Reg.PCV_FAILED_LO_FAILED, Reg.PCV_STAT_FAILED, fits_instKey]; done)
    | split

theorem keeps_putRetest {ps : Nat} {s0 s : State} (h : HalfId) (k : Nat) (b : Bool) (hm_ : subParts 0x40 ps = true)
    (hs_ : Keeps ps s0 s) : Keeps ps s0 (putRetest s h k b) := by
  refine Keeps.comp (a := 0x40) ?_ hm_ hs_
  clear hm_ hs_
  unfold putRetest
  try dsimp only
  repeat' first
    | (simp +contextual +decide (maxDischargeDepth := 60) only [↓keeps_ite, Keeps.refl, ↓keeps_wrB, Reg.PCV_STAT_RETEST, fits_instKey]; done)
    | split

theorem keeps_testResult {ps : Nat} {s0 s : State} (h : HalfId) (t : InjTest) (hm_ : subParts 0x1123C4012C0040 ps = true)
    (hs_ : Keeps ps s0 s) : Keeps ps s0 (testResult s h t) := by
  refine Keeps.comp (a := 0x1123C4012C0040) ?_ hm_ hs_
  clear hm_ hs_
  unfold testResult
  try dsimp only
  repeat' first
    | (simp +contextual +decide (maxDischargeDepth := 60) only [↓keeps_ite, Keeps.refl, ↓keeps_satAdd, ↓keeps_ledgerH, ↓keeps_tallySet, ↓keeps_modFe, ↓keeps_putFailed, ↓keeps_putRetest, ↓keeps_wr, Reg.PCV_STAT_LAST_RESULT, Reg.PCV_TEST_DEV, Reg.PCV_TEST_POINT, Reg.PCV_TEST_STAT_FAILS, fits_instKey]; done)
    | split

theorem keeps_execSubstitutionEnd {s : State} (h : HalfId) :
    Keeps 0x1123C4012C0040 s (after s (execSubstitutionEnd h s)) := by
  unfold execSubstitutionEnd
  try dsimp only
  repeat' first
    | (simp +contextual +decide (maxDischargeDepth := 60) only [after_next, ↓keeps_ite, Keeps.refl, ↓keeps_modFe, ↓keeps_testResult, ↓keeps_wrB, Reg.PCV_TEST_STAT_ACTIVE]; done)
    | simp only [after_next]
    | split

theorem keeps_execTestStart {s : State} (h : HalfId) (code : Nat) :
    Keeps 0x1000000000000 s (after s (execTestStart h code s)) := by
  unfold execTestStart
  try dsimp only
  repeat' first
    | (simp +contextual +decide (maxDischargeDepth := 60) only [after_next, Keeps.refl, ↓keeps_modFe]; done)
    | simp only [after_next]
    | split

theorem keeps_execTestEnd {s : State} (h : HalfId) (code : Nat) :
    Keeps 0x1000000000000 s (after s (execTestEnd h code s)) := by
  unfold execTestEnd
  try dsimp only
  repeat' first
    | (simp +contextual +decide (maxDischargeDepth := 60) only [after_next, Keeps.refl, ↓keeps_modFe]; done)
    | simp only [after_next]
    | split

theorem keeps_mclkWrite {ps : Nat} {s0 s : State} (h : HalfId) (k freq : Nat) (hm_ : subParts 0x10000000000C0 ps = true)
    (hs_ : Keeps ps s0 s) : Keeps ps s0 (mclkWrite s h k freq) := by
  refine Keeps.comp (a := 0x10000000000C0) ?_ hm_ hs_
  clear hm_ hs_
  unfold mclkWrite
  try dsimp only
  repeat' first
    | (simp +contextual +decide (maxDischargeDepth := 60) only [↓keeps_ite, Keeps.refl, ↓keeps_restartChains, ↓keeps_wr, ↓keeps_wrB, Reg.BSI_MCLK_FREQ, Reg.BSI_MCLK_STAT_FAULT, mclkBit, fits_instKey]; done)
    | split

theorem keeps_execMclkFreqWrite {s : State} (h : HalfId) (k freq : Nat) :
    Keeps 0x10000000000C0 s (after s (execMclkFreqWrite h k freq s)) := by
  unfold execMclkFreqWrite
  try dsimp only
  repeat' first
    | (simp +contextual +decide (maxDischargeDepth := 60) only [after_next, ↓keeps_ite, Keeps.refl, ↓keeps_access, ↓keeps_mclkWrite]; done)
    | simp only [after_next]
    | split

theorem keeps_mclkMove {ps : Nat} {s0 s : State} (h : HalfId) (hm_ : subParts 0x112384012400C0 ps = true)
    (hs_ : Keeps ps s0 s) : Keeps ps s0 (mclkMove s h) := by
  refine Keeps.comp (a := 0x112384012400C0) ?_ hm_ hs_
  clear hm_ hs_
  unfold mclkMove
  try dsimp only
  repeat' first
    | (simp +contextual +decide (maxDischargeDepth := 60) only [↓keeps_foldl, Keeps.refl, implies_true, ↓keeps_ledgerField, ↓keeps_restartChains, ↓keeps_wr, Reg.BSI_MCLK_STAT_FAULT, mclkBit, *]; done)
    | decide
    | (intro _ _ _; try dsimp only)
    | with_reducible apply keeps_foldl
    | with_reducible apply keeps_ledgerField
    | with_reducible apply keeps_restartChains
    | with_reducible apply keeps_wr
    | split
    | with_reducible apply keeps_ite
  repeat' first
    | (simp +contextual +decide (maxDischargeDepth := 60) only [↓keeps_foldl, Keeps.refl, implies_true, ↓keeps_ledgerField, ↓keeps_restartChains, ↓keeps_wr, Reg.BSI_MCLK_STAT_FAULT, mclkBit]; done)
    | split

theorem keeps_bsiCond {ps : Nat} {s0 s : State} (h : HalfId) (n b : Nat) (on : Bool) (hm_ : subParts 0x112384012400C0 ps = true)
    (hs_ : Keeps ps s0 s) : Keeps ps s0 (bsiCond s h n b on) := by
  refine Keeps.comp (a := 0x112384012400C0) ?_ hm_ hs_
  clear hm_ hs_
  unfold bsiCond
  try dsimp only
  repeat' first
    | (simp +contextual +decide (maxDischargeDepth := 60) only [↓keeps_ite, Keeps.refl, ↓keeps_count, ↓keeps_ledgerH, ↓keeps_modFe, ↓keeps_restartChains, ↓keeps_wrB, ↓keeps_wrBit, Reg.BSI_STAT_FAULT, Reg.BSI_STAT_HIST, bsiBit, fits_instKey]; done)
    | split

theorem keeps_clockMeasure {ps : Nat} {s0 s : State} (h : HalfId) (k hz : Nat) (hm_ : subParts 0x112384012400C0 ps = true)
    (hs_ : Keeps ps s0 s) : Keeps ps s0 (clockMeasure s h k hz) := by
  refine Keeps.comp (a := 0x112384012400C0) ?_ hm_ hs_
  clear hm_ hs_
  unfold clockMeasure
  try dsimp only
  repeat' first
    | (simp +contextual +decide (maxDischargeDepth := 60) only [↓keeps_ite, Keeps.refl, implies_true, ↓keeps_bsiCond, ↓keeps_wrB, Reg.BSI_CFG_CLK, Reg.BSI_MCLK_FREQ, Reg.BSI_MCLK_STAT_FAULT, mclkBit, *]; done)
    | decide
    | (intro _ _ _; try dsimp only)
    | with_reducible apply keeps_foldl
    | with_reducible apply keeps_bsiCond
    | with_reducible apply keeps_wrB
    | split
    | with_reducible apply keeps_ite
  repeat' first
    | (simp +contextual +decide (maxDischargeDepth := 60) only [↓keeps_ite, Keeps.refl, implies_true, ↓keeps_bsiCond, ↓keeps_wrB, Reg.BSI_CFG_CLK, Reg.BSI_MCLK_FREQ, Reg.BSI_MCLK_STAT_FAULT, mclkBit]; done)
    | split

theorem keeps_execBsiClockMeasure {s : State} (h : HalfId) (k hz : Nat) :
    Keeps 0x112384012400C0 s (after s (execBsiClockMeasure h k hz s)) := by
  unfold execBsiClockMeasure
  try dsimp only
  repeat' first
    | (simp +contextual +decide (maxDischargeDepth := 60) only [after_next, ↓keeps_ite, Keeps.refl, ↓keeps_clockMeasure]; done)
    | simp only [after_next]
    | split

theorem keeps_execBsiOpenDetect {s : State} (h : HalfId) (n : Nat) (on : Bool) :
    Keeps 0x112384012400C0 s (after s (execBsiOpenDetect h n on s)) := by
  unfold execBsiOpenDetect
  try dsimp only
  repeat' first
    | (simp +contextual +decide (maxDischargeDepth := 60) only [after_next, Keeps.refl, ↓keeps_bsiCond]; done)
    | simp only [after_next]
    | split

theorem keeps_execBsiNoEdge {s : State} (h : HalfId) (n : Nat) :
    Keeps 0x112384012400C0 s (after s (execBsiNoEdge h n s)) := by
  unfold execBsiNoEdge
  try dsimp only
  repeat' first
    | (simp +contextual +decide (maxDischargeDepth := 60) only [after_next, Keeps.refl, ↓keeps_bsiCond]; done)
    | simp only [after_next]
    | split

theorem keeps_execBsiDensity {s : State} (h : HalfId) (n ones : Nat) :
    Keeps 0x112384012400C0 s (after s (execBsiDensity h n ones s)) := by
  unfold execBsiDensity
  try dsimp only
  repeat' first
    | (simp +contextual +decide (maxDischargeDepth := 60) only [after_next, Keeps.refl, ↓keeps_bsiCond]; done)
    | simp only [after_next]
    | split

theorem keeps_execBsiTransition {s : State} (h : HalfId) (n : Nat) :
    Keeps 0x112384012400C0 s (after s (execBsiTransition h n s)) := by
  unfold execBsiTransition
  try dsimp only
  repeat' first
    | (simp +contextual +decide (maxDischargeDepth := 60) only [after_next, Keeps.refl, ↓keeps_bsiCond]; done)
    | simp only [after_next]
    | split

end Sys2Proof.Machine
end

