-- ==== Sys2Proof/Laws/KeepsTiming.lean ====
section
/-!
SUPPORT. `Keeps` for the operations of Machine/Timing.lean: the parts each may change.
-/

namespace Sys2Proof.Machine

open Sys2Proof (HalfId Instr Byte Word Accessor)

theorem keeps_execPllUnlock {s : State} (h : HalfId) (pll : Nat) :
    Keeps 0x1923C5012C2810 s (after s (execPllUnlock h pll s)) := by
  unfold execPllUnlock
  try dsimp only
  repeat' first
    | (simp +contextual +decide (maxDischargeDepth := 60) only [after_next, ↓keeps_ite, Keeps.refl, ↓keeps_ledgerH, ↓keeps_modFe, ↓keeps_tallyVital, ↓keeps_wrB, Reg.SMP_CLK_STAT_FAST_LOCK, Reg.SMP_CLK_STAT_FAST_UNLOCK_HIST, Reg.SMP_CLK_STAT_MOD_LOCK, Reg.SMP_CLK_STAT_MOD_UNLOCK_HIST, pllLock, pllHist, fits_ite, *]; done)
    | decide
    | (intro _ _ _; try dsimp only)
    | with_reducible apply keeps_foldl
    | with_reducible apply keeps_ledgerH
    | with_reducible apply keeps_modFe
    | with_reducible apply keeps_tallyVital
    | with_reducible apply keeps_wrB
    | simp only [after_next]
    | split
    | with_reducible apply keeps_ite
  repeat' first
    | (simp +contextual +decide (maxDischargeDepth := 60) only [after_next, ↓keeps_ite, Keeps.refl, ↓keeps_ledgerH, ↓keeps_modFe, ↓keeps_tallyVital, ↓keeps_wrB, Reg.SMP_CLK_STAT_FAST_LOCK, Reg.SMP_CLK_STAT_FAST_UNLOCK_HIST, Reg.SMP_CLK_STAT_MOD_LOCK, Reg.SMP_CLK_STAT_MOD_UNLOCK_HIST, pllLock, pllHist, fits_ite]; done)
    | simp only [after_next]
    | split

theorem keeps_execPllRelock {s : State} (h : HalfId) (pll : Nat) :
    Keeps 0x1923C5012C2810 s (after s (execPllRelock h pll s)) := by
  unfold execPllRelock
  try dsimp only
  repeat' first
    | (simp +contextual +decide (maxDischargeDepth := 60) only [after_next, ↓keeps_ite, Keeps.refl, ↓keeps_ledgerH, ↓keeps_modFe, ↓keeps_tallyVital, ↓keeps_wrB, Reg.SMP_CLK_STAT_FAST_LOCK, Reg.SMP_CLK_STAT_MOD_LOCK, pllLock, fits_ite, *]; done)
    | decide
    | (intro _ _ _; try dsimp only)
    | with_reducible apply keeps_foldl
    | with_reducible apply keeps_ledgerH
    | with_reducible apply keeps_modFe
    | with_reducible apply keeps_tallyVital
    | with_reducible apply keeps_wrB
    | simp only [after_next]
    | split
    | with_reducible apply keeps_ite
  repeat' first
    | (simp +contextual +decide (maxDischargeDepth := 60) only [after_next, ↓keeps_ite, Keeps.refl, ↓keeps_ledgerH, ↓keeps_modFe, ↓keeps_tallyVital, ↓keeps_wrB, Reg.SMP_CLK_STAT_FAST_LOCK, Reg.SMP_CLK_STAT_MOD_LOCK, pllLock, fits_ite]; done)
    | simp only [after_next]
    | split

theorem keeps_trackerLoad {ps : Nat} {s0 s : State} (h : HalfId) (acc fT tick : Nat) (off : Int) (hm_ : subParts 0x1000000000010 ps = true)
    (hs_ : Keeps ps s0 s) : Keeps ps s0 (trackerLoad s h acc fT tick off) := by
  refine Keeps.comp (a := 0x1000000000010) ?_ hm_ hs_
  clear hm_ hs_
  unfold trackerLoad
  try dsimp only
  repeat' first
    | (simp +contextual +decide (maxDischargeDepth := 60) only [Keeps.refl, ↓keeps_modFe, ↓keeps_wr, Reg.SMP_TRK_FREQ_TRACKED]; done)
    | split

theorem keeps_execTrkState {s : State} (h : HalfId) :
    Keeps 0x1000000000010 s (after s (execTrkState h s)) := by
  unfold execTrkState
  try dsimp only
  repeat' first
    | (simp +contextual +decide (maxDischargeDepth := 60) only [after_next, ↓keeps_ite, Keeps.refl, ↓keeps_trackerLoad]; done)
    | simp only [after_next]
    | split

theorem keeps_trackState {ps : Nat} {s0 s : State} (h : HalfId) (fm : Option Nat) (used : Nat) (phi : Int) (hm_ : subParts 0x11238401240010 ps = true)
    (hs_ : Keeps ps s0 s) : Keeps ps s0 (trackState s h fm used phi) := by
  refine Keeps.comp (a := 0x11238401240010) ?_ hm_ hs_
  clear hm_ hs_
  unfold trackState
  try dsimp only
  repeat' first
    | (simp +contextual +decide (maxDischargeDepth := 60) only [↓keeps_ite, Keeps.refl, ↓keeps_satAdd, ↓keeps_ledgerH, ↓keeps_modFe, ↓keeps_wr, Reg.SMP_TRK_STAT_RELOCKS, Reg.SMP_TRK_STAT_SRC_USED, Reg.SMP_TRK_STAT_STATE]; done)
    | split

theorem keeps_trackSteer {ps : Nat} {s0 s : State} (h : HalfId) (fm : Option Nat) (phi : Int) (hm_ : subParts 0x1000000000010 ps = true)
    (hs_ : Keeps ps s0 s) : Keeps ps s0 (trackSteer s h fm phi) := by
  refine Keeps.comp (a := 0x1000000000010) ?_ hm_ hs_
  clear hm_ hs_
  unfold trackSteer
  try dsimp only
  repeat' first
    | (simp +contextual +decide (maxDischargeDepth := 60) only [Keeps.refl, ↓keeps_modFe, ↓keeps_wr, Reg.SMP_TRK_FREQ_MEASURED, Reg.SMP_TRK_FREQ_TRACKED, Reg.SMP_TRK_STAT_STATE]; done)
    | split

theorem keeps_syncClamp {ps : Nat} {s0 s : State} (h : HalfId) (hm_ : subParts 0x10238401240010 ps = true)
    (hs_ : Keeps ps s0 s) : Keeps ps s0 (syncClamp s h) := by
  refine Keeps.comp (a := 0x10238401240010) ?_ hm_ hs_
  clear hm_ hs_
  unfold syncClamp
  try dsimp only
  repeat' first
    | (simp +contextual +decide (maxDischargeDepth := 60) only [Keeps.refl, ↓keeps_ledgerH, ↓keeps_wrB, Reg.SMP_SYNC_MAX_FMAX, Reg.SMP_SYNC_STAT_CLAMP, *]; done)
    | decide
    | (intro _ _ _; try dsimp only)
    | with_reducible apply keeps_foldl
    | with_reducible apply keeps_ledgerH
    | with_reducible apply keeps_wrB
    | split
    | with_reducible apply keeps_ite
  repeat' first
    | (simp +contextual +decide (maxDischargeDepth := 60) only [Keeps.refl, ↓keeps_ledgerH, ↓keeps_wrB, Reg.SMP_SYNC_MAX_FMAX, Reg.SMP_SYNC_STAT_CLAMP]; done)
    | split

theorem keeps_memoryCycle {ps : Nat} {s0 s : State} (h : HalfId) (hm_ : subParts 0x12238401240000 ps = true)
    (hs_ : Keeps ps s0 s) : Keeps ps s0 (memoryCycle s h) := by
  refine Keeps.comp (a := 0x12238401240000) ?_ hm_ hs_
  clear hm_ hs_
  unfold memoryCycle
  try dsimp only
  repeat' first
    | (simp +contextual +decide (maxDischargeDepth := 60) only [↓keeps_foldl, ↓keeps_ite, Keeps.refl, implies_true, ↓keeps_ledgerH, ↓keeps_modDec]; done)
    | split

theorem keeps_rmsCycle {ps : Nat} {s0 s : State} (h : HalfId) (hm_ : subParts 0x1000000000000 ps = true)
    (hs_ : Keeps ps s0 s) : Keeps ps s0 (rmsCycle s h) := by
  refine Keeps.comp (a := 0x1000000000000) ?_ hm_ hs_
  clear hm_ hs_
  unfold rmsCycle
  try dsimp only
  repeat' first
    | (simp +contextual +decide (maxDischargeDepth := 60) only [↓keeps_foldl, ↓keeps_ite, Keeps.refl, implies_true, ↓keeps_setChain]; done)
    | split

theorem keeps_execTrackedCycleBoundary {s : State} (h : HalfId) (f1 f2 : Option Nat) (phi : Int) :
    Keeps 0x13738401E40010 s (after s (execTrackedCycleBoundary h f1 f2 phi s)) := by
  unfold execTrackedCycleBoundary
  try dsimp only
  repeat' first
    | (simp +contextual +decide (maxDischargeDepth := 60) only [after_next, Keeps.refl, ↓keeps_modFe, ↓keeps_publishChanges, ↓keeps_trackState, ↓keeps_trackSteer, ↓keeps_syncClamp, ↓keeps_memoryCycle, ↓keeps_rmsCycle, Reg.SMP_SYNC_CFG_N]; done)
    | simp only [after_next]
    | split

theorem keeps_syncUnclamp {ps : Nat} {s0 s : State} (h : HalfId) (locked : Bool) (hm_ : subParts 0x10238401240010 ps = true)
    (hs_ : Keeps ps s0 s) : Keeps ps s0 (syncUnclamp s h locked) := by
  refine Keeps.comp (a := 0x10238401240010) ?_ hm_ hs_
  clear hm_ hs_
  unfold syncUnclamp
  try dsimp only
  repeat' first
    | (simp +contextual +decide (maxDischargeDepth := 60) only [Keeps.refl, ↓keeps_ledgerH, ↓keeps_wrB, Reg.SMP_SYNC_MAX_FMAX, Reg.SMP_SYNC_STAT_CLAMP]; done)
    | split

theorem keeps_syncSend {ps : Nat} {s0 s : State} (h : HalfId) (hm_ : subParts 0x100000010 ps = true)
    (hs_ : Keeps ps s0 s) : Keeps ps s0 (syncSend s h) := by
  refine Keeps.comp (a := 0x100000010) ?_ hm_ hs_
  clear hm_ hs_
  unfold syncSend
  try dsimp only
  repeat' first
    | (simp +contextual +decide (maxDischargeDepth := 60) only [↓keeps_ite, Keeps.refl, ↓keeps_satAdd, ↓keeps_modIo, Reg.SMP_SYNC_CFG_EN, Reg.SMP_SYNC_STAT_DRIVER, Reg.SMP_SYNC_STAT_SUPPRESSED]; done)
    | split

theorem keeps_execSyncPulse {s : State} (h : HalfId) (locked : Bool) :
    Keeps 0x10238501240010 s (after s (execSyncPulse h locked s)) := by
  have e : execSyncPulse h locked s = .next (syncSend (syncUnclamp (syncClamp s h) h locked) h) := rfl
  rw [e, after_next]
  exact keeps_syncSend h (by decide) (keeps_syncUnclamp h _ (by decide) (keeps_syncClamp h (by decide) (Keeps.refl _ s)))

theorem keeps_calCmd {ps : Nat} {s0 s : State} (h : HalfId) (code : Nat) (hm_ : subParts 0x1000000000010 ps = true)
    (hs_ : Keeps ps s0 s) : Keeps ps s0 (calCmd s h code) := by
  refine Keeps.comp (a := 0x1000000000010) ?_ hm_ hs_
  clear hm_ hs_
  unfold calCmd
  try dsimp only
  repeat' first
    | (simp +contextual +decide (maxDischargeDepth := 60) only [↓keeps_ite, Keeps.refl, ↓keeps_modFe, ↓keeps_wr, Reg.SMP_CAL_STAT_STATUS]; done)
    | split

theorem keeps_execCal {s : State} (h : HalfId) :
    Keeps 0x1000000000010 s (after s (execCal h s)) := by
  unfold execCal
  try dsimp only
  repeat' first
    | (simp +contextual +decide (maxDischargeDepth := 60) only [after_next, Keeps.refl, ↓keeps_access, ↓keeps_calCmd]; done)
    | simp only [after_next]
    | split

theorem keeps_putAperture {ps : Nat} {s0 s : State} (h : HalfId) (n : Nat) (v : Int) (hm_ : subParts 0x10 ps = true)
    (hs_ : Keeps ps s0 s) : Keeps ps s0 (putAperture s h n v) := by
  refine Keeps.comp (a := 0x10) ?_ hm_ hs_
  clear hm_ hs_
  unfold putAperture
  try dsimp only
  repeat' first
    | (simp +contextual +decide (maxDischargeDepth := 60) only [Keeps.refl, ↓keeps_wr, ↓keeps_wrBit, Reg.SMP_AP_TRIM_TRIM0, Reg.SMP_CAL_STAT_RANGE, fits_instKey]; done)
    | split

theorem keeps_putDelay {ps : Nat} {s0 s : State} (h : HalfId) (k : Nat) (v : Int) (hm_ : subParts 0x10 ps = true)
    (hs_ : Keeps ps s0 s) : Keeps ps s0 (putDelay s h k v) := by
  refine Keeps.comp (a := 0x10) ?_ hm_ hs_
  clear hm_ hs_
  unfold putDelay
  try dsimp only
  repeat' first
    | (simp +contextual +decide (maxDischargeDepth := 60) only [Keeps.refl, ↓keeps_wr, Reg.SMP_FD_TRIM_FRAC, fits_instKey]; done)
    | split

theorem keeps_skewRange {ps : Nat} {s0 s : State} (h : HalfId) (code : Nat) (v : Int) (hm_ : subParts 0x1023C4012C0000 ps = true)
    (hs_ : Keeps ps s0 s) : Keeps ps s0 (skewRange s h code v) := by
  refine Keeps.comp (a := 0x1023C4012C0000) ?_ hm_ hs_
  clear hm_ hs_
  unfold skewRange
  try dsimp only
  repeat' first
    | (simp +contextual +decide (maxDischargeDepth := 60) only [Keeps.refl, ↓keeps_ledgerH, ↓keeps_tallySet]; done)
    | split

theorem keeps_calibrated {ps : Nat} {s0 s : State} (h : HalfId) (fast delays : List Int) (hm_ : subParts 0x1123C4012C0050 ps = true)
    (hs_ : Keeps ps s0 s) : Keeps ps s0 (calibrated s h fast delays) := by
  refine Keeps.comp (a := 0x1123C4012C0050) ?_ hm_ hs_
  clear hm_ hs_
  unfold calibrated
  try dsimp only
  repeat' first
    | (simp +contextual +decide (maxDischargeDepth := 60) only [↓keeps_foldl, ↓keeps_ite, Keeps.refl, implies_true, ↓keeps_ledgerH, ↓keeps_tallySet, ↓keeps_modFe, ↓keeps_restartChains, ↓keeps_putAperture, ↓keeps_putDelay, ↓keeps_skewRange, ↓keeps_wr, Reg.SMP_CAL_STAT_STATUS]; done)
    | split

end Sys2Proof.Machine
end

