-- ==== Sys2Proof/Laws/KeepsRotation.lean ====
section
/-!
SUPPORT. `Keeps` for the operations of Machine/Rotation.lean: the parts each may change.
-/

namespace Sys2Proof.Machine

open Sys2Proof (HalfId Instr Byte Word Accessor)

theorem keeps_modRot {ps : Nat} {s0 s : State} (h : HalfId) (fast : Bool) (f : Rotation → Rotation) (hm_ : subParts 0x2000000000000 ps = true)
    (hs_ : Keeps ps s0 s) : Keeps ps s0 (modRot s h fast f) := by
  refine Keeps.comp (a := 0x2000000000000) ?_ hm_ hs_
  clear hm_ hs_
  unfold modRot
  try dsimp only
  repeat' first
    | (simp +contextual +decide (maxDischargeDepth := 60) only [Keeps.refl, ↓keeps_modDec]; done)
    | split

theorem keeps_rotShow {ps : Nat} {s0 s : State} (h : HalfId) (hm_ : subParts 0x200 ps = true)
    (hs_ : Keeps ps s0 s) : Keeps ps s0 (rotShow s h) := by
  refine Keeps.comp (a := 0x200) ?_ hm_ hs_
  clear hm_ hs_
  unfold rotShow
  try dsimp only
  repeat' first
    | (simp +contextual +decide (maxDischargeDepth := 60) only [Keeps.refl, ↓keeps_wr, ↓keeps_wrB, Reg.FAB_ROT_STAT_ACTIVE, Reg.FAB_ROT_STAT_FAST_PROG, Reg.FAB_ROT_STAT_GEN_PROG, Reg.FAB_ROT_STAT_NO_SPARE, Reg.FAB_SUM_FAILED, Reg.FAB_SUM_FAST_SPARES, Reg.FAB_SUM_FUNCS, Reg.FAB_SUM_SPARES]; done)
    | split

theorem keeps_tileRole {ps : Nat} {s0 s : State} (h : HalfId) (fast : Bool) (t role slot : Nat) (hm_ : subParts 0x600 ps = true)
    (hs_ : Keeps ps s0 s) : Keeps ps s0 (tileRole s h fast t role slot) := by
  refine Keeps.comp (a := 0x600) ?_ hm_ hs_
  clear hm_ hs_
  unfold tileRole
  try dsimp only
  repeat' first
    | (simp +contextual +decide (maxDischargeDepth := 60) only [↓keeps_ite, Keeps.refl, ↓keeps_wr, Reg.FAB_TINFO_ROLE, Reg.FAB_TINFO_SLOT, Reg.FST_TMAP_ROLE0, fits_instKey, fits_bank]; done)
    | split

theorem keeps_rotInit {ps : Nat} {s0 s : State} (h : HalfId) (fast : Bool) (hm_ : subParts 0x2000000000600 ps = true)
    (hs_ : Keeps ps s0 s) : Keeps ps s0 (rotInit s h fast) := by
  refine Keeps.comp (a := 0x2000000000600) ?_ hm_ hs_
  clear hm_ hs_
  unfold rotInit
  try dsimp only
  repeat' first
    | (simp +contextual +decide (maxDischargeDepth := 60) only [↓keeps_foldl, ↓keeps_ite, Keeps.refl, implies_true, ↓keeps_modRot, ↓keeps_rotShow, ↓keeps_tileRole, ↓keeps_wr, Reg.FAB_FSTAT_TILE, fits_bank]; done)
    | split

theorem keeps_rotEmpty {ps : Nat} {s0 s : State} (h : HalfId) (fast : Bool) (hm_ : subParts 0x1223C4012C0200 ps = true)
    (hs_ : Keeps ps s0 s) : Keeps ps s0 (rotEmpty s h fast) := by
  refine Keeps.comp (a := 0x1223C4012C0200) ?_ hm_ hs_
  clear hm_ hs_
  unfold rotEmpty
  try dsimp only
  repeat' first
    | (simp +contextual +decide (maxDischargeDepth := 60) only [↓keeps_ite, Keeps.refl, ↓keeps_ledgerH, ↓keeps_tallySet, ↓keeps_modRot, ↓keeps_rotShow]; done)
    | split

theorem keeps_rotEnable {ps : Nat} {s0 s : State} (h : HalfId) (hm_ : subParts 0x1A23C5012C2800 ps = true)
    (hs_ : Keeps ps s0 s) : Keeps ps s0 (rotEnable s h) := by
  refine Keeps.comp (a := 0x1A23C5012C2800) ?_ hm_ hs_
  clear hm_ hs_
  unfold rotEnable
  try dsimp only
  repeat' first
    | (simp +contextual +decide (maxDischargeDepth := 60) only [↓keeps_ite, Keeps.refl, ↓keeps_ledgerH, ↓keeps_tallyVital, ↓keeps_modRot]; done)
    | split

theorem keeps_rotBegin {ps : Nat} {s0 s : State} (h : HalfId) (fast : Bool) (f : Nat) (hm_ : subParts 0x1223C4012C0600 ps = true)
    (hs_ : Keeps ps s0 s) : Keeps ps s0 (rotBegin s h fast f) := by
  refine Keeps.comp (a := 0x1223C4012C0600) ?_ hm_ hs_
  clear hm_ hs_
  unfold rotBegin
  try dsimp only
  repeat' first
    | (simp +contextual +decide (maxDischargeDepth := 60) only [Keeps.refl, ↓keeps_modRot, ↓keeps_rotShow, ↓keeps_tileRole, ↓keeps_rotEmpty]; done)
    | split

theorem keeps_execRotationHandoverStart {s : State} (h : HalfId) (fast : Bool) :
    Keeps 0x1A23C5012C2E00 s (after s (execRotationHandoverStart h fast s)) := by
  unfold execRotationHandoverStart
  try dsimp only
  repeat' first
    | (simp +contextual +decide (maxDischargeDepth := 60) only [after_next, ↓keeps_ite, Keeps.refl, ↓keeps_rotEnable, ↓keeps_rotBegin]; done)
    | simp only [after_next]
    | split

theorem keeps_rotFail {ps : Nat} {s0 s : State} (h : HalfId) (fast : Bool) (t cause vector : Nat) (hm_ : subParts 0x1023C4012C0600 ps = true)
    (hs_ : Keeps ps s0 s) : Keeps ps s0 (rotFail s h fast t cause vector) := by
  refine Keeps.comp (a := 0x1023C4012C0600) ?_ hm_ hs_
  clear hm_ hs_
  unfold rotFail
  try dsimp only
  repeat' first
    | (simp +contextual +decide (maxDischargeDepth := 60) only [Keeps.refl, implies_true, ↓keeps_satAdd, ↓keeps_ledgerH, ↓keeps_tallySet, ↓keeps_putBank, ↓keeps_tileRole, ↓keeps_wrB, Reg.FAB_FTFAIL_FAIL, Reg.FAB_ROT_ERR_KAT_FAIL, Reg.FAB_TFAIL_FAIL, Reg.FAB_TINFO_FAILED, fits_instKey, fits_bank]; done)
    | split

theorem keeps_rotCovered {ps : Nat} {s0 s : State} (h : HalfId) (fast : Bool) (hm_ : subParts 0x1223C4012C0200 ps = true)
    (hs_ : Keeps ps s0 s) : Keeps ps s0 (rotCovered s h fast) := by
  refine Keeps.comp (a := 0x1223C4012C0200) ?_ hm_ hs_
  clear hm_ hs_
  unfold rotCovered
  try dsimp only
  repeat' first
    | (simp +contextual +decide (maxDischargeDepth := 60) only [Keeps.refl, ↓keeps_satAdd, ↓keeps_tallySet, ↓keeps_modRot, ↓keeps_wr, Reg.FAB_ROT_LAST_FAST_SEC, Reg.FAB_ROT_LAST_GEN_SEC, Reg.FAB_ROT_PASS_FAST, Reg.FAB_ROT_PASS_GEN]; done)
    | split

theorem keeps_rotTake {ps : Nat} {s0 s : State} (h : HalfId) (fast : Bool) (f spare : Nat) (fails : Bool) (hm_ : subParts 0x1223C4012C0600 ps = true)
    (hs_ : Keeps ps s0 s) : Keeps ps s0 (rotTake s h fast f spare fails) := by
  refine Keeps.comp (a := 0x1223C4012C0600) ?_ hm_ hs_
  clear hm_ hs_
  unfold rotTake
  try dsimp only
  repeat' first
    | (simp +contextual +decide (maxDischargeDepth := 60) only [↓keeps_ite, Keeps.refl, ↓keeps_modRot, ↓keeps_rotShow, ↓keeps_tileRole, ↓keeps_rotFail, ↓keeps_rotCovered, ↓keeps_wr, Reg.FAB_FSTAT_TILE, fits_bank]; done)
    | split

theorem keeps_execComparisonComplete {s : State} (h : HalfId) (fast : Bool) (differs : Option Nat) :
    Keeps 0x1223C4012C0600 s (after s (execComparisonComplete h fast differs s)) := by
  unfold execComparisonComplete
  try dsimp only
  repeat' first
    | (simp +contextual +decide (maxDischargeDepth := 60) only [after_next, ↓keeps_ite, Keeps.refl, ↓keeps_satAdd, ↓keeps_ledgerH, ↓keeps_modRot, ↓keeps_tileRole, ↓keeps_rotTake, Reg.FAB_ROT_ERR_DISAGREE]; done)
    | simp only [after_next]
    | split

theorem keeps_execKatComplete {s : State} (h : HalfId) (fast : Bool) (tile : Nat) (ok : Bool) (vector : Nat) :
    Keeps 0x1223C4012C0600 s (after s (execKatComplete h fast tile ok vector s)) := by
  unfold execKatComplete
  try dsimp only
  repeat' first
    | (simp +contextual +decide (maxDischargeDepth := 60) only [after_next, ↓keeps_ite, Keeps.refl, ↓keeps_tallySet, ↓keeps_modRot, ↓keeps_rotShow, ↓keeps_tileRole, ↓keeps_rotBegin, ↓keeps_rotFail]; done)
    | simp only [after_next]
    | split

theorem keeps_execRotLate {s : State} (h : HalfId) (fast : Bool) :
    Keeps 0x1223C4012C0200 s (after s (execRotLate h fast s)) := by
  unfold execRotLate
  try dsimp only
  repeat' first
    | (simp +contextual +decide (maxDischargeDepth := 60) only [after_next, ↓keeps_ite, Keeps.refl, ↓keeps_ledgerH, ↓keeps_tallySet, ↓keeps_modRot, ↓keeps_wrB, Reg.FAB_ROT_STAT_LATE]; done)
    | simp only [after_next]
    | split

end Sys2Proof.Machine
end

