-- ==== Sys2Proof/Laws/KeepsArcLight.lean ====
section
/-!
SUPPORT. `Keeps` for the operations of Machine/ArcLight.lean: the parts each may change.
-/

namespace Sys2Proof.Machine

open Sys2Proof (HalfId Instr Byte Word Accessor)

theorem keeps_modRx {ps : Nat} {s0 s : State} (n : Nat) (f : ArcRx → ArcRx) (hm_ : subParts 0x100000000 ps = true)
    (hs_ : Keeps ps s0 s) : Keeps ps s0 (modRx s n f) := by
  refine Keeps.comp (a := 0x100000000) ?_ hm_ hs_
  clear hm_ hs_
  unfold modRx
  try dsimp only
  repeat' first
    | (simp +contextual +decide (maxDischargeDepth := 60) only [Keeps.refl, ↓keeps_modIo]; done)
    | split

theorem keeps_putFlag {ps : Nat} {s0 s : State} (n b : Nat) (on : Bool) (hm_ : subParts 0x1023C4012C1000 ps = true)
    (hs_ : Keeps ps s0 s) : Keeps ps s0 (putFlag s n b on) := by
  refine Keeps.comp (a := 0x1023C4012C1000) ?_ hm_ hs_
  clear hm_ hs_
  unfold putFlag
  try dsimp only
  repeat' first
    | (simp +contextual +decide (maxDischargeDepth := 60) only [↓keeps_ite, Keeps.refl, ↓keeps_tallyAll, ↓keeps_wrB, ↓keeps_wrBit, Reg.ARC_AMB_AMB, Reg.ARC_CSTAT_OBSC_RUN, Reg.ARC_SUP_FAIL, Reg.ARC_SUP_OBSC, cstatBit, fits_instKey]; done)
    | split

theorem keeps_lightChange {ps : Nat} {s0 s : State}  (hm_ : subParts 0x1277C501ECBC00 ps = true)
    (hs_ : Keeps ps s0 s) : Keeps ps s0 (lightChange s) := by
  refine Keeps.comp (a := 0x1277C501ECBC00) ?_ hm_ hs_
  clear hm_ hs_
  unfold lightChange
  try dsimp only
  repeat' first
    | (simp +contextual +decide (maxDischargeDepth := 60) only [↓keeps_foldl, ↓keeps_ite, Keeps.refl, implies_true, ↓keeps_decideOut, ↓keeps_arcEvalAll, ↓keeps_edgeTriggers]; done)
    | split

theorem keeps_noteLight {ps : Nat} {s0 s : State} (n : Nat) (hm_ : subParts 0x2000000000000 ps = true)
    (hs_ : Keeps ps s0 s) : Keeps ps s0 (noteLight s n) := by
  refine Keeps.comp (a := 0x2000000000000) ?_ hm_ hs_
  clear hm_ hs_
  unfold noteLight
  try dsimp only
  repeat' first
    | (simp +contextual +decide (maxDischargeDepth := 60) only [↓keeps_foldl, ↓keeps_ite, Keeps.refl, implies_true, ↓keeps_modDec, *]; done)
    | decide
    | (intro _ _ _; try dsimp only)
    | with_reducible apply keeps_foldl
    | with_reducible apply keeps_modDec
    | split
    | with_reducible apply keeps_ite
  repeat' first
    | (simp +contextual +decide (maxDischargeDepth := 60) only [↓keeps_foldl, ↓keeps_ite, Keeps.refl, implies_true, ↓keeps_modDec]; done)
    | split

theorem keeps_ambient {ps : Nat} {s0 s : State} (n cause us : Nat) (on : Bool) (hm_ : subParts 0x1023C4012C1000 ps = true)
    (hs_ : Keeps ps s0 s) : Keeps ps s0 (ambient s n cause us on) := by
  refine Keeps.comp (a := 0x1023C4012C1000) ?_ hm_ hs_
  clear hm_ hs_
  unfold ambient
  try dsimp only
  repeat' first
    | (simp +contextual +decide (maxDischargeDepth := 60) only [↓keeps_ite, Keeps.refl, ↓keeps_ledgerField, ↓keeps_putFlag]; done)
    | split

theorem keeps_elemFaults {ps : Nat} {s0 s : State} (n : Nat) (hs : List HalfId) (hm_ : subParts 0x1223C4012C0000 ps = true)
    (hs_ : Keeps ps s0 s) : Keeps ps s0 (elemFaults s n hs) := by
  refine Keeps.comp (a := 0x1223C4012C0000) ?_ hm_ hs_
  clear hm_ hs_
  unfold elemFaults
  try dsimp only
  repeat' first
    | (simp +contextual +decide (maxDischargeDepth := 60) only [↓keeps_foldl, ↓keeps_ite, Keeps.refl, implies_true, ↓keeps_ledgerH, ↓keeps_tallySet, ↓keeps_modDec]; done)
    | split

theorem keeps_execLightRise {s : State} (n rise : Nat) (sat : Bool) (disagree : List HalfId) :
    Keeps 0x1277C501ECBC00 s (after s (execLightRise n rise sat disagree s)) := by
  unfold execLightRise
  try dsimp only
  repeat' first
    | (simp +contextual +decide (maxDischargeDepth := 60) only [after_next, ↓keeps_ite, Keeps.refl, ↓keeps_lightChange, ↓keeps_noteLight, ↓keeps_ambient, ↓keeps_elemFaults, ↓keeps_wr, ↓keeps_wrB, ↓keeps_wrBit, Reg.ARC_AMB_SAT, Reg.ARC_CSTAT_OBSC_RUN, Reg.ARC_LIGHT_HIST_LIGHT, Reg.ARC_LIGHT_HIST_LIGHTQ, Reg.ARC_LIGHT_LIGHT, Reg.ARC_LIGHT_LIGHTQ, Reg.ARC_RISE_QUAL, Reg.ARC_RISE_RISE, cstatBit, fits_instKey]; done)
    | simp only [after_next]
    | split

theorem keeps_lightFall {ps : Nat} {s0 s : State} (n : Nat) (hm_ : subParts 0x1277C501ECBC00 ps = true)
    (hs_ : Keeps ps s0 s) : Keeps ps s0 (lightFall s n) := by
  refine Keeps.comp (a := 0x1277C501ECBC00) ?_ hm_ hs_
  clear hm_ hs_
  unfold lightFall
  try dsimp only
  repeat' first
    | (simp +contextual +decide (maxDischargeDepth := 60) only [↓keeps_foldl, ↓keeps_ite, Keeps.refl, implies_true, ↓keeps_modDec, ↓keeps_modRx, ↓keeps_lightChange, ↓keeps_wrBit, Reg.ARC_LIGHT_LIGHT, Reg.ARC_LIGHT_LIGHTQ]; done)
    | split

theorem keeps_execLightFall {s : State} (n : Nat) :
    Keeps 0x1277C501ECBC00 s (after s (execLightFall n s)) := by
  unfold execLightFall
  try dsimp only
  repeat' first
    | (simp +contextual +decide (maxDischargeDepth := 60) only [after_next, ↓keeps_ite, Keeps.refl, ↓keeps_lightFall, Reg.ARC_AMB_SAT, Reg.ARC_LIGHT_LIGHT]; done)
    | simp only [after_next]
    | split

theorem keeps_satRise {ps : Nat} {s0 s : State} (n : Nat) (hm_ : subParts 0x1277C501ECBC00 ps = true)
    (hs_ : Keeps ps s0 s) : Keeps ps s0 (satRise s n) := by
  refine Keeps.comp (a := 0x1277C501ECBC00) ?_ hm_ hs_
  clear hm_ hs_
  unfold satRise
  try dsimp only
  repeat' first
    | (simp +contextual +decide (maxDischargeDepth := 60) only [↓keeps_foldl, ↓keeps_ite, Keeps.refl, implies_true, ↓keeps_lightChange, ↓keeps_noteLight, ↓keeps_setWord, ↓keeps_wr, ↓keeps_wrB, ↓keeps_wrBit, Reg.ARC_LIGHT_HIST_LIGHT, Reg.ARC_LIGHT_LIGHT, fits_instKey, fits_bank]; done)
    | split

theorem keeps_execLightLevelSample {s : State} (n level : Nat) (sat : Bool) :
    Keeps 0x1277C501ECBC00 s (after s (execLightLevelSample n level sat s)) := by
  unfold execLightLevelSample
  try dsimp only
  repeat' first
    | (simp +contextual +decide (maxDischargeDepth := 60) only [after_next, ↓keeps_ite, Keeps.refl, ↓keeps_modRx, ↓keeps_ambient, ↓keeps_satRise, ↓keeps_wr, ↓keeps_wrBit, Reg.ARC_AMB_SAT, Reg.ARC_BASE_BASE, Reg.ARC_LEVEL_LEVEL, Reg.ARC_LIGHT_LIGHT, fits_instKey]; done)
    | simp only [after_next]
    | split

theorem keeps_execAmbientResettled {s : State} (n : Nat) :
    Keeps 0x1023C4012C1000 s (after s (execAmbientResettled n s)) := by
  unfold execAmbientResettled
  try dsimp only
  repeat' first
    | (simp +contextual +decide (maxDischargeDepth := 60) only [after_next, ↓keeps_ite, Keeps.refl, ↓keeps_ambient, Reg.ARC_BASE_BASE, Reg.ARC_LEVEL_LEVEL]; done)
    | simp only [after_next]
    | split

theorem keeps_execStretchExpiry {s : State} (h : HalfId) (n part : Nat) :
    Keeps 0x1277C501ECBC00 s (after s (execStretchExpiry h n part s)) := by
  unfold execStretchExpiry
  try dsimp only
  repeat' first
    | (simp +contextual +decide (maxDischargeDepth := 60) only [after_next, ↓keeps_ite, Keeps.refl, ↓keeps_modDec, ↓keeps_decideOut, ↓keeps_arcEval, ↓keeps_edgeTriggers]; done)
    | simp only [after_next]
    | split

theorem keeps_codeCycle {ps : Nat} {s0 s : State}  (hm_ : subParts 0x100000000 ps = true)
    (hs_ : Keeps ps s0 s) : Keeps ps s0 (codeCycle s) := by
  refine Keeps.comp (a := 0x100000000) ?_ hm_ hs_
  clear hm_ hs_
  unfold codeCycle
  try dsimp only
  repeat' first
    | (simp +contextual +decide (maxDischargeDepth := 60) only [↓keeps_foldl, ↓keeps_ite, Keeps.refl, implies_true, ↓keeps_modRx]; done)
    | split

theorem keeps_execCodeCycle {s : State}  :
    Keeps 0x100000000 s (after s (execCodeCycle s)) := by
  unfold execCodeCycle
  try dsimp only
  repeat' first
    | (simp +contextual +decide (maxDischargeDepth := 60) only [after_next, Keeps.refl, ↓keeps_codeCycle]; done)
    | simp only [after_next]
    | split

theorem keeps_execCodeRetry {s : State} (n : Nat) :
    Keeps 0x100000000 s (after s (execCodeRetry n s)) := by
  unfold execCodeRetry
  try dsimp only
  repeat' first
    | (simp +contextual +decide (maxDischargeDepth := 60) only [after_next, ↓keeps_ite, Keeps.refl, ↓keeps_modRx]; done)
    | simp only [after_next]
    | split

theorem keeps_ledFlag {ps : Nat} {s0 s : State} (n b : Nat) (on : Bool) (hm_ : subParts 0x1023C4012C1000 ps = true)
    (hs_ : Keeps ps s0 s) : Keeps ps s0 (ledFlag s n b on) := by
  refine Keeps.comp (a := 0x1023C4012C1000) ?_ hm_ hs_
  clear hm_ hs_
  unfold ledFlag
  try dsimp only
  repeat' first
    | (simp +contextual +decide (maxDischargeDepth := 60) only [↓keeps_ite, Keeps.refl, ↓keeps_ledgerField, ↓keeps_putFlag]; done)
    | split

theorem keeps_obscured {ps : Nat} {s0 s : State} (n : Nat) (on : Bool) (hm_ : subParts 0x1023C4012C1000 ps = true)
    (hs_ : Keeps ps s0 s) : Keeps ps s0 (obscured s n on) := by
  refine Keeps.comp (a := 0x1023C4012C1000) ?_ hm_ hs_
  clear hm_ hs_
  unfold obscured
  try dsimp only
  repeat' first
    | (simp +contextual +decide (maxDischargeDepth := 60) only [↓keeps_ite, Keeps.refl, ↓keeps_ledgerField, ↓keeps_putFlag]; done)
    | split

theorem keeps_sensorFail {ps : Nat} {s0 s : State} (n result seen : Nat) (on : Bool) (hm_ : subParts 0x1023C4012C1000 ps = true)
    (hs_ : Keeps ps s0 s) : Keeps ps s0 (sensorFail s n result seen on) := by
  refine Keeps.comp (a := 0x1023C4012C1000) ?_ hm_ hs_
  clear hm_ hs_
  unfold sensorFail
  try dsimp only
  repeat' first
    | (simp +contextual +decide (maxDischargeDepth := 60) only [↓keeps_ite, Keeps.refl, ↓keeps_ledgerField, ↓keeps_putFlag]; done)
    | split

theorem keeps_codeObscured {ps : Nat} {s0 s : State} (n : Nat) (hm_ : subParts 0x1023C5012C1000 ps = true)
    (hs_ : Keeps ps s0 s) : Keeps ps s0 (codeObscured s n) := by
  refine Keeps.comp (a := 0x1023C5012C1000) ?_ hm_ hs_
  clear hm_ hs_
  unfold codeObscured
  try dsimp only
  repeat' first
    | (simp +contextual +decide (maxDischargeDepth := 60) only [↓keeps_ite, Keeps.refl, ↓keeps_satAdd, ↓keeps_modRx, ↓keeps_obscured, Reg.ARC_CNT_OBSC, Reg.ARC_CSTAT_OBSC_RUN, fits_instKey]; done)
    | split

theorem keeps_codeClean {ps : Nat} {s0 s : State} (n result seen : Nat) (own : Int) (hm_ : subParts 0x1023C5012C1000 ps = true)
    (hs_ : Keeps ps s0 s) : Keeps ps s0 (codeClean s n result seen own) := by
  refine Keeps.comp (a := 0x1023C5012C1000) ?_ hm_ hs_
  clear hm_ hs_
  unfold codeClean
  try dsimp only
  repeat' first
    | (simp +contextual +decide (maxDischargeDepth := 60) only [↓keeps_ite, Keeps.refl, ↓keeps_satAdd, ↓keeps_ledgerField, ↓keeps_modRx, ↓keeps_putFlag, ↓keeps_obscured, ↓keeps_sensorFail, ↓keeps_wr, Reg.ARC_CNT_PASS, Reg.ARC_CSTAT_FAIL_RUN, Reg.ARC_CSTAT_OBSC_RUN, fits_instKey]; done)
    | split

theorem keeps_execCodeComplete {s : State} (n : Nat) (own oth : Int) (seen spread : Nat) (sat ledOpen ledShort : Bool) :
    Keeps 0x1277C501ECBC00 s (after s (execCodeComplete n own oth seen spread sat ledOpen ledShort s)) := by
  unfold execCodeComplete
  try dsimp only
  repeat' first
    | (simp +contextual +decide (maxDischargeDepth := 60) only [after_next, ↓keeps_ite, Keeps.refl, ↓keeps_modRx, ↓keeps_lightChange, ↓keeps_ledFlag, ↓keeps_codeObscured, ↓keeps_codeClean, ↓keeps_wr, Reg.ARC_CODE_AMP, Reg.ARC_CODE_RESULT, Reg.ARC_CODE_SEEN, fits_instKey]; done)
    | simp only [after_next]
    | split

theorem keeps_holderErr {ps : Nat} {s0 s : State} (h : HalfId) (st : Nat) (hm_ : subParts 0x1 ps = true)
    (hs_ : Keeps ps s0 s) : Keeps ps s0 (holderErr s h st) := by
  refine Keeps.comp (a := 0x1) ?_ hm_ hs_
  clear hm_ hs_
  unfold holderErr
  try dsimp only
  repeat' first
    | (simp +contextual +decide (maxDischargeDepth := 60) only [↓keeps_ite, Keeps.refl, ↓keeps_wrB, Reg.SYS_ERR_NOT_HOLDER]; done)
    | split

theorem keeps_arcCmd {ps : Nat} {s0 s : State} (h : HalfId) (code mask : Nat) (hm_ : subParts 0x1023C5012C1001 ps = true)
    (hs_ : Keeps ps s0 s) : Keeps ps s0 (arcCmd s h code mask) := by
  refine Keeps.comp (a := 0x1023C5012C1001) ?_ hm_ hs_
  clear hm_ hs_
  unfold arcCmd
  try dsimp only
  repeat' first
    | (simp +contextual +decide (maxDischargeDepth := 60) only [↓keeps_ite, Keeps.refl, implies_true, ↓keeps_result, ↓keeps_putFlag, ↓keeps_codeCycle, ↓keeps_holderErr, ↓keeps_wr, Reg.ARC_CNT_OBSC, Reg.ARC_CNT_PASS, Reg.ARC_CSTAT_OBSC_RUN, Reg.ARC_RESULT_CMD, Reg.ARC_RESULT_SEQ, Reg.ARC_RESULT_STATUS, cstatBit, fits_instKey, *]; done)
    | decide
    | (intro _ _ _; try dsimp only)
    | with_reducible apply keeps_foldl
    | with_reducible apply keeps_result
    | with_reducible apply keeps_putFlag
    | with_reducible apply keeps_codeCycle
    | with_reducible apply keeps_holderErr
    | with_reducible apply keeps_wr
    | split
    | with_reducible apply keeps_ite
  repeat' first
    | (simp +contextual +decide (maxDischargeDepth := 60) only [↓keeps_ite, Keeps.refl, implies_true, ↓keeps_result, ↓keeps_putFlag, ↓keeps_codeCycle, ↓keeps_holderErr, ↓keeps_wr, Reg.ARC_CNT_OBSC, Reg.ARC_CNT_PASS, Reg.ARC_CSTAT_OBSC_RUN, Reg.ARC_RESULT_CMD, Reg.ARC_RESULT_SEQ, Reg.ARC_RESULT_STATUS, cstatBit, fits_instKey]; done)
    | split

theorem keeps_execCodeNow {s : State} (h : HalfId) (mask : Nat) :
    Keeps 0x1023C5012C1001 s (after s (execCodeNow h mask s)) := by
  unfold execCodeNow
  try dsimp only
  repeat' first
    | (simp +contextual +decide (maxDischargeDepth := 60) only [after_next, Keeps.refl, ↓keeps_unitAccess, ↓keeps_arcCmd]; done)
    | simp only [after_next]
    | split

theorem keeps_execClrCounts {s : State} (h : HalfId) (mask : Nat) :
    Keeps 0x1023C5012C1001 s (after s (execClrCounts h mask s)) := by
  unfold execClrCounts
  try dsimp only
  repeat' first
    | (simp +contextual +decide (maxDischargeDepth := 60) only [after_next, Keeps.refl, ↓keeps_unitAccess, ↓keeps_arcCmd]; done)
    | simp only [after_next]
    | split

theorem keeps_execResume {s : State} (h : HalfId) (mask : Nat) :
    Keeps 0x1023C5012C1001 s (after s (execResume h mask s)) := by
  unfold execResume
  try dsimp only
  repeat' first
    | (simp +contextual +decide (maxDischargeDepth := 60) only [after_next, Keeps.refl, ↓keeps_unitAccess, ↓keeps_arcCmd]; done)
    | simp only [after_next]
    | split

end Sys2Proof.Machine
end

