-- ==== Sys2Proof/Laws/KeepsFieldOut.lean ====
section
/-!
SUPPORT. `Keeps` for the operations of Machine/FieldOut.lean: the parts each may change.
-/

namespace Sys2Proof.Machine

open Sys2Proof (HalfId Instr Byte Word Accessor)

theorem keeps_diShow {ps : Nat} {s0 s : State} (n : Nat) (hm_ : subParts 0x100002000 ps = true)
    (hs_ : Keeps ps s0 s) : Keeps ps s0 (diShow s n) := by
  refine Keeps.comp (a := 0x100002000) ?_ hm_ hs_
  clear hm_ hs_
  unfold diShow
  try dsimp only
  repeat' first
    | (simp +contextual +decide (maxDischargeDepth := 60) only [↓keeps_ite, Keeps.refl, implies_true, ↓keeps_modIo, ↓keeps_putBank, ↓keeps_wrB, Reg.DIO_DISTAT_VALID, Reg.DIO_DI_INV_HI_INV, Reg.DIO_DI_INV_LO_INV, fits_loHi, fits_instKey]; done)
    | split

theorem keeps_putWb {ps : Nat} {s0 s : State} (n : Nat) (on : Bool) (hm_ : subParts 0x1023C5012C2000 ps = true)
    (hs_ : Keeps ps s0 s) : Keeps ps s0 (putWb s n on) := by
  refine Keeps.comp (a := 0x1023C5012C2000) ?_ hm_ hs_
  clear hm_ hs_
  unfold putWb
  try dsimp only
  repeat' first
    | (simp +contextual +decide (maxDischargeDepth := 60) only [Keeps.refl, implies_true, ↓keeps_putBank, ↓keeps_tallyAll, ↓keeps_diShow, ↓keeps_wrB, Reg.DIO_DISTAT_WIRE_BREAK, Reg.DIO_DI_WB_HI_WB, Reg.DIO_DI_WB_LO_WB, fits_loHi, fits_instKey]; done)
    | split

theorem keeps_dropChecks {ps : Nat} {s0 s : State}  (hm_ : subParts 0x1023C5012C2000 ps = true)
    (hs_ : Keeps ps s0 s) : Keeps ps s0 (dropChecks s) := by
  refine Keeps.comp (a := 0x1023C5012C2000) ?_ hm_ hs_
  clear hm_ hs_
  unfold dropChecks
  try dsimp only
  repeat' first
    | (simp +contextual +decide (maxDischargeDepth := 60) only [↓keeps_foldl, ↓keeps_ite, Keeps.refl, implies_true, ↓keeps_doClear, ↓keeps_putWb]; done)
    | split

theorem keeps_fieldApply {ps : Nat} {s0 s : State} (h : HalfId) (hm_ : subParts 0x1023C5012C3000 ps = true)
    (hs_ : Keeps ps s0 s) : Keeps ps s0 (fieldApply s h) := by
  refine Keeps.comp (a := 0x1023C5012C3000) ?_ hm_ hs_
  clear hm_ hs_
  unfold fieldApply
  try dsimp only
  repeat' first
    | (simp +contextual +decide (maxDischargeDepth := 60) only [↓keeps_foldl, ↓keeps_ite, Keeps.refl, implies_true, ↓keeps_modIo, ↓keeps_putFlag, ↓keeps_dropChecks]; done)
    | split

theorem keeps_fieldClasses {ps : Nat} {s0 s : State} (h : HalfId) (hm_ : subParts 0x100002800 ps = true)
    (hs_ : Keeps ps s0 s) : Keeps ps s0 (fieldClasses s h) := by
  refine Keeps.comp (a := 0x100002800) ?_ hm_ hs_
  clear hm_ hs_
  unfold fieldClasses
  try dsimp only
  repeat' first
    | (simp +contextual +decide (maxDischargeDepth := 60) only [↓keeps_foldl, Keeps.refl, implies_true, ↓keeps_modIo, ↓keeps_wr, Reg.DIO_DOSTAT_CLASS, Reg.TRM_CLASS_DO_TRIP, Reg.TRM_LOCK_DO_LOCK, Reg.TRM_VOTE_DO_AND, Reg.TRM_VOTE_FTO_AND, Reg.TRM_VOTE_FTO_LOCK, fits_instKey]; done)
    | split

theorem keeps_execVoteDisagreeTimer {s : State} (code : Nat) :
    Keeps 0x10238401240800 s (after s (execVoteDisagreeTimer code s)) := by
  unfold execVoteDisagreeTimer
  try dsimp only
  repeat' first
    | (simp +contextual +decide (maxDischargeDepth := 60) only [after_next, ↓keeps_ite, Keeps.refl, ↓keeps_ledgerField, ↓keeps_wrBit, Reg.TRM_CLASS_DO_TRIP, fits_ite_fst, disBit, Reg.TRM_DISAGREE_FTO, Reg.TRM_DISAGREE_DO, Reg.TRM_DISAGREE_HI_DO_HI, *]; done)
    | decide
    | (intro _ _ _; try dsimp only)
    | with_reducible apply keeps_foldl
    | with_reducible apply keeps_ledgerField
    | with_reducible apply keeps_wrBit
    | simp only [after_next]
    | split
    | with_reducible apply keeps_ite
  repeat' first
    | (simp +contextual +decide (maxDischargeDepth := 60) only [after_next, ↓keeps_ite, Keeps.refl, ↓keeps_ledgerField, ↓keeps_wrBit, Reg.TRM_CLASS_DO_TRIP, fits_ite_fst, disBit, Reg.TRM_DISAGREE_FTO, Reg.TRM_DISAGREE_DO, Reg.TRM_DISAGREE_HI_DO_HI]; done)
    | simp only [after_next]
    | split

theorem keeps_tcsRead {ps : Nat} {s0 s : State} (h : HalfId) (k : Nat) (v : Int) (hm_ : subParts 0x800 ps = true)
    (hs_ : Keeps ps s0 s) : Keeps ps s0 (tcsRead s h k v) := by
  refine Keeps.comp (a := 0x800) ?_ hm_ hs_
  clear hm_ hs_
  unfold tcsRead
  try dsimp only
  repeat' first
    | (simp +contextual +decide (maxDischargeDepth := 60) only [↓keeps_ite, Keeps.refl, ↓keeps_wr, ↓keeps_wrB, Reg.TRM_TCS_STAT_OPEN, Reg.TRM_TCS_STAT_PAUSED, Reg.TRM_TCS_STAT_SUPPLY_INVALID, Reg.TRM_TCS_STAT_VOLTS, fits_instKey]; done)
    | split

theorem keeps_execTcsFailTimer {s : State} (k : Nat) :
    Keeps 0x1023C4012C0800 s (after s (execTcsFailTimer k s)) := by
  unfold execTcsFailTimer
  try dsimp only
  repeat' first
    | (simp +contextual +decide (maxDischargeDepth := 60) only [after_next, ↓keeps_ite, Keeps.refl, ↓keeps_ledgerField, ↓keeps_tallyAll, ↓keeps_wrB, Reg.TRM_TCS_CFG_DO, Reg.TRM_TCS_CFG_EN, Reg.TRM_TCS_STAT_FAIL, Reg.TRM_TCS_STAT_OPEN, Reg.TRM_TCS_STAT_PAUSED, Reg.TRM_TCS_STAT_VOLTS, fits_instKey]; done)
    | simp only [after_next]
    | split

theorem keeps_refCheck {ps : Nat} {s0 s : State} (h : HalfId) (v : Int) (hm_ : subParts 0x1923C5012C2840 ps = true)
    (hs_ : Keeps ps s0 s) : Keeps ps s0 (refCheck s h v) := by
  refine Keeps.comp (a := 0x1923C5012C2840) ?_ hm_ hs_
  clear hm_ hs_
  unfold refCheck
  try dsimp only
  repeat' first
    | (simp +contextual +decide (maxDischargeDepth := 60) only [Keeps.refl, ↓keeps_ledgerH, ↓keeps_modFe, ↓keeps_tallyVital, ↓keeps_wrB, Reg.PCV_REF_STAT_FAULT]; done)
    | split

theorem keeps_hkAlarm {ps : Nat} {s0 s : State} (h : HalfId) (n : Nat) (v : Int) (hm_ : subParts 0x11238401240100 ps = true)
    (hs_ : Keeps ps s0 s) : Keeps ps s0 (hkAlarm s h n v) := by
  refine Keeps.comp (a := 0x11238401240100) ?_ hm_ hs_
  clear hm_ hs_
  unfold hkAlarm
  try dsimp only
  repeat' first
    | (simp +contextual +decide (maxDischargeDepth := 60) only [↓keeps_ite, Keeps.refl, ↓keeps_ledgerH, ↓keeps_modFe, ↓keeps_wrBit, Reg.HKA_ALARM_ALARM, Reg.HKA_LIM_HIGH, Reg.HKA_LIM_LOW]; done)
    | split

theorem keeps_hkConvert {ps : Nat} {s0 s : State} (h : HalfId) (n code : Nat) (hm_ : subParts 0x1923C5012C2940 ps = true)
    (hs_ : Keeps ps s0 s) : Keeps ps s0 (hkConvert s h n code) := by
  refine Keeps.comp (a := 0x1923C5012C2940) ?_ hm_ hs_
  clear hm_ hs_
  unfold hkConvert
  try dsimp only
  repeat' first
    | (simp +contextual +decide (maxDischargeDepth := 60) only [↓keeps_ite, Keeps.refl, ↓keeps_satAdd, ↓keeps_count, ↓keeps_modFe, ↓keeps_noteHigh, ↓keeps_tcsRead, ↓keeps_refCheck, ↓keeps_hkAlarm, ↓keeps_wr, ↓keeps_wrB, Reg.HKA_CORR_GAIN_GAIN, Reg.HKA_CORR_OFF_OFFSET, Reg.HKA_DATA_CH, Reg.HKA_DATA_NEW, Reg.HKA_DATA_QUALITY, Reg.HKA_DATA_VALUE, Reg.HKA_LOST_COUNT, Reg.HKA_STAT_OVERRUN]; done)
    | split

theorem keeps_execHkScan {s : State} (h : HalfId) (codes : List Nat) (self : Nat) :
    Keeps 0x1923C5012C2940 s (after s (execHkScan h codes self s)) := by
  unfold execHkScan
  try dsimp only
  repeat' first
    | (simp +contextual +decide (maxDischargeDepth := 60) only [after_next, ↓keeps_foldl, ↓keeps_ite, Keeps.refl, implies_true, ↓keeps_hkConvert, ↓keeps_setWord, ↓keeps_wr, ↓keeps_wrB, ↓keeps_wrBit, Reg.HKA_CTRL_EN, Reg.HKA_STAT_SELFCHECK, fits_instKey, fits_bank, *]; done)
    | decide
    | (intro _ _ _; try dsimp only)
    | with_reducible apply keeps_foldl
    | with_reducible apply keeps_hkConvert
    | with_reducible apply keeps_setWord
    | with_reducible apply keeps_wr
    | with_reducible apply keeps_wrB
    | with_reducible apply keeps_wrBit
    | simp only [after_next]
    | split
    | with_reducible apply keeps_ite
  repeat' first
    | (simp +contextual +decide (maxDischargeDepth := 60) only [after_next, ↓keeps_foldl, ↓keeps_ite, Keeps.refl, implies_true, ↓keeps_hkConvert, ↓keeps_setWord, ↓keeps_wr, ↓keeps_wrB, ↓keeps_wrBit, Reg.HKA_CTRL_EN, Reg.HKA_STAT_SELFCHECK, fits_instKey, fits_bank]; done)
    | simp only [after_next]
    | split

theorem keeps_maskGroup {ps : Nat} {s0 s : State} (g : Nat) (hm_ : subParts 0x1023C5012C2000 ps = true)
    (hs_ : Keeps ps s0 s) : Keeps ps s0 (maskGroup s g) := by
  refine Keeps.comp (a := 0x1023C5012C2000) ?_ hm_ hs_
  clear hm_ hs_
  unfold maskGroup
  try dsimp only
  repeat' first
    | (simp +contextual +decide (maxDischargeDepth := 60) only [↓keeps_foldl, ↓keeps_ite, Keeps.refl, implies_true, ↓keeps_modIo, ↓keeps_doDiag, ↓keeps_putWb]; done)
    | split

theorem keeps_supplyChange {ps : Nat} {s0 s : State} (g new mv : Nat) (hm_ : subParts 0x1023C5012C2000 ps = true)
    (hs_ : Keeps ps s0 s) : Keeps ps s0 (supplyChange s g new mv) := by
  refine Keeps.comp (a := 0x1023C5012C2000) ?_ hm_ hs_
  clear hm_ hs_
  unfold supplyChange
  try dsimp only
  repeat' first
    | (simp +contextual +decide (maxDischargeDepth := 60) only [↓keeps_foldl, ↓keeps_ite, Keeps.refl, implies_true, ↓keeps_ledgerField, ↓keeps_tallyAll, ↓keeps_doBall, ↓keeps_diShow, ↓keeps_maskGroup, ↓keeps_wrB, ↓keeps_wrBit, Reg.DIO_DISTAT_SUPPLY_INVALID, Reg.DIO_DOSTAT_SUPPLY_INVALID, Reg.DIO_SUP_LOW, Reg.DIO_SUP_MISSING, fits_instKey]; done)
    | split

theorem keeps_execSupplyMeasure {s : State} (g mv : Nat) :
    Keeps 0x1023C5012C2000 s (after s (execSupplyMeasure g mv s)) := by
  unfold execSupplyMeasure
  try dsimp only
  repeat' first
    | (simp +contextual +decide (maxDischargeDepth := 60) only [after_next, ↓keeps_ite, Keeps.refl, ↓keeps_modIo, ↓keeps_supplyChange, ↓keeps_wr, Reg.DIO_SUPV_V_EVEN, fits_instKey]; done)
    | simp only [after_next]
    | split

theorem keeps_diChange {ps : Nat} {s0 s : State} (n : Nat) (on : Bool) (inst : Nat) (hm_ : subParts 0x10028100002000 ps = true)
    (hs_ : Keeps ps s0 s) : Keeps ps s0 (diChange s n on inst) := by
  refine Keeps.comp (a := 0x10028100002000) ?_ hm_ hs_
  clear hm_ hs_
  unfold diChange
  try dsimp only
  repeat' first
    | (simp +contextual +decide (maxDischargeDepth := 60) only [↓keeps_foldl, Keeps.refl, implies_true, ↓keeps_wrapInc, ↓keeps_count, ↓keeps_evBump, ↓keeps_modIo, ↓keeps_putBank, ↓keeps_wrB, Reg.DIO_DISEQ_SEQ, Reg.DIO_DISTAT_STATE, Reg.DIO_DI_HI_STATE, Reg.DIO_DI_LO_STATE, fits_loHi, fits_instKey]; done)
    | split

theorem keeps_diWire {ps : Nat} {s0 s : State} (n cur k : Nat) (on : Bool) (hm_ : subParts 0x1023C5012C2000 ps = true)
    (hs_ : Keeps ps s0 s) : Keeps ps s0 (diWire s n cur k on) := by
  refine Keeps.comp (a := 0x1023C5012C2000) ?_ hm_ hs_
  clear hm_ hs_
  unfold diWire
  try dsimp only
  repeat' first
    | (simp +contextual +decide (maxDischargeDepth := 60) only [↓keeps_ite, Keeps.refl, ↓keeps_ledgerField, ↓keeps_modIo, ↓keeps_putWb]; done)
    | split

theorem keeps_execDiWindow {s : State} (n : Nat) (level : Bool) (current inst : Nat) :
    Keeps 0x1023C5012C2000 s (after s (execDiWindow n level current inst s)) := by
  unfold execDiWindow
  try dsimp only
  repeat' first
    | (simp +contextual +decide (maxDischargeDepth := 60) only [after_next, ↓keeps_ite, Keeps.refl, ↓keeps_modIo, ↓keeps_diChange, ↓keeps_diWire, ↓keeps_wr, Reg.DIO_DISTAT_CURRENT, Reg.DIO_DISTAT_STATE, Reg.DIO_SUP_MISSING, fits_instKey]; done)
    | simp only [after_next]
    | split

theorem keeps_doSet {ps : Nat} {s0 s : State} (n k : Nat) (hm_ : subParts 0x1023C4012C2000 ps = true)
    (hs_ : Keeps ps s0 s) : Keeps ps s0 (doSet s n k) := by
  refine Keeps.comp (a := 0x1023C4012C2000) ?_ hm_ hs_
  clear hm_ hs_
  unfold doSet
  try dsimp only
  repeat' first
    | (simp +contextual +decide (maxDischargeDepth := 60) only [↓keeps_ite, Keeps.refl, ↓keeps_doDiag, ↓keeps_doLedger]; done)
    | split

theorem keeps_execDoOverload {s : State} (n : Nat) (on : Bool) (current : Nat) :
    Keeps 0x1023C4012C2000 s (after s (execDoOverload n on current s)) := by
  unfold execDoOverload
  try dsimp only
  repeat' first
    | (simp +contextual +decide (maxDischargeDepth := 60) only [after_next, ↓keeps_ite, Keeps.refl, ↓keeps_doClear, ↓keeps_doSet, ↓keeps_wr, Reg.DIO_DOCUR_CURRENT, fits_instKey]; done)
    | simp only [after_next]
    | split

theorem keeps_execDoOpenOn {s : State} (n current : Nat) :
    Keeps 0x1023C4012C2000 s (after s (execDoOpenOn n current s)) := by
  unfold execDoOpenOn
  try dsimp only
  repeat' first
    | (simp +contextual +decide (maxDischargeDepth := 60) only [after_next, ↓keeps_ite, Keeps.refl, ↓keeps_doClear, ↓keeps_doSet, ↓keeps_wr, Reg.DIO_DOCUR_CURRENT, fits_instKey]; done)
    | simp only [after_next]
    | split

theorem keeps_execDoOpenOffCheck {s : State} (n : Nat) (above : Bool) :
    Keeps 0x1023C5012C2000 s (after s (execDoOpenOffCheck n above s)) := by
  unfold execDoOpenOffCheck
  try dsimp only
  repeat' first
    | (simp +contextual +decide (maxDischargeDepth := 60) only [after_next, ↓keeps_ite, Keeps.refl, ↓keeps_modIo, ↓keeps_doClear, ↓keeps_doSet, Reg.DIO_DO_VAL_VAL]; done)
    | simp only [after_next]
    | split

theorem keeps_overtemp {ps : Nat} {s0 s : State} (n : Nat) (hm_ : subParts 0x1023C5012C2000 ps = true)
    (hs_ : Keeps ps s0 s) : Keeps ps s0 (overtemp s n) := by
  refine Keeps.comp (a := 0x1023C5012C2000) ?_ hm_ hs_
  clear hm_ hs_
  unfold overtemp
  try dsimp only
  repeat' first
    | (simp +contextual +decide (maxDischargeDepth := 60) only [↓keeps_ite, Keeps.refl, ↓keeps_ledgerField, ↓keeps_modIo, ↓keeps_doDiag, ↓keeps_doBall, ↓keeps_wr, Reg.DIO_DOSTAT_RETRIES, fits_instKey]; done)
    | split

theorem keeps_execDoOvertemp {s : State} (n : Nat) :
    Keeps 0x1023C5012C2000 s (after s (execDoOvertemp n s)) := by
  unfold execDoOvertemp
  try dsimp only
  repeat' first
    | (simp +contextual +decide (maxDischargeDepth := 60) only [after_next, ↓keeps_ite, Keeps.refl, ↓keeps_overtemp]; done)
    | simp only [after_next]
    | split

theorem keeps_execDoOvertempRetry {s : State} (n : Nat) (ok : Bool) :
    Keeps 0x1023C5012C2000 s (after s (execDoOvertempRetry n ok s)) := by
  unfold execDoOvertempRetry
  try dsimp only
  repeat' first
    | (simp +contextual +decide (maxDischargeDepth := 60) only [after_next, ↓keeps_ite, Keeps.refl, ↓keeps_modIo, ↓keeps_doDiag, ↓keeps_doBall, ↓keeps_overtemp]; done)
    | simp only [after_next]
    | split

theorem keeps_execGrpOvercurrent {s : State} (g current : Nat) :
    Keeps 0x1023C4012C2000 s (after s (execGrpOvercurrent g current s)) := by
  unfold execGrpOvercurrent
  try dsimp only
  repeat' first
    | (simp +contextual +decide (maxDischargeDepth := 60) only [after_next, Keeps.refl, ↓keeps_ledgerField, ↓keeps_tallyAll, ↓keeps_wrBit, Reg.DIO_SUP_GRP_OC]; done)
    | simp only [after_next]
    | split

theorem keeps_execLeaderRefresh {s : State} (h : HalfId) :
    Keeps 0x1023C5012C6000 s (after s (execLeaderRefresh h s)) := by
  unfold execLeaderRefresh
  try dsimp only
  repeat' first
    | (simp +contextual +decide (maxDischargeDepth := 60) only [after_next, ↓keeps_foldl, ↓keeps_ite, Keeps.refl, implies_true, ↓keeps_satAdd, ↓keeps_ledgerField, ↓keeps_modIo, ↓keeps_setDos, ↓keeps_wr, ↓keeps_wrB, Reg.DIO_DOSTAT_TIMEOUT, Reg.DIO_DO_TMO_TMO, Reg.DIO_REFRESH_DISCARDED, Reg.LGE_STAT_RUN, fits_instKey]; done)
    | simp only [after_next]
    | split

theorem keeps_execDoRefreshTimeout {s : State} (mask : Nat) :
    Keeps 0x1023C5012C2000 s (after s (execDoRefreshTimeout mask s)) := by
  unfold execDoRefreshTimeout
  try dsimp only
  repeat' first
    | (simp +contextual +decide (maxDischargeDepth := 60) only [after_next, ↓keeps_foldl, ↓keeps_ite, Keeps.refl, implies_true, ↓keeps_ledgerField, ↓keeps_setDos, ↓keeps_setWord, ↓keeps_wr, ↓keeps_wrB, ↓keeps_wrBit, Reg.DIO_DOSTAT_TIMEOUT, Reg.DIO_DO_TMO_TMO, fits_instKey, fits_bank, *]; done)
    | decide
    | (intro _ _ _; try dsimp only)
    | with_reducible apply keeps_foldl
    | with_reducible apply keeps_ledgerField
    | with_reducible apply keeps_setDos
    | with_reducible apply keeps_setWord
    | with_reducible apply keeps_wr
    | with_reducible apply keeps_wrB
    | with_reducible apply keeps_wrBit
    | simp only [after_next]
    | split
    | with_reducible apply keeps_ite
  repeat' first
    | (simp +contextual +decide (maxDischargeDepth := 60) only [after_next, ↓keeps_foldl, ↓keeps_ite, Keeps.refl, implies_true, ↓keeps_ledgerField, ↓keeps_setDos, ↓keeps_setWord, ↓keeps_wr, ↓keeps_wrB, ↓keeps_wrBit, Reg.DIO_DOSTAT_TIMEOUT, Reg.DIO_DO_TMO_TMO, fits_instKey, fits_bank]; done)
    | simp only [after_next]
    | split

theorem keeps_closeCommandsOff {ps : Nat} {s0 s : State}  (hm_ : subParts 0x1023C5012C2000 ps = true)
    (hs_ : Keeps ps s0 s) : Keeps ps s0 (closeCommandsOff s) := by
  refine Keeps.comp (a := 0x1023C5012C2000) ?_ hm_ hs_
  clear hm_ hs_
  unfold closeCommandsOff
  try dsimp only
  repeat' first
    | (simp +contextual +decide (maxDischargeDepth := 60) only [Keeps.refl, ↓keeps_setDos]; done)
    | split

theorem keeps_leaderSafe {ps : Nat} {s0 s : State}  (hm_ : subParts 0x1023C5012C2000 ps = true)
    (hs_ : Keeps ps s0 s) : Keeps ps s0 (leaderSafe s) := by
  refine Keeps.comp (a := 0x1023C5012C2000) ?_ hm_ hs_
  clear hm_ hs_
  unfold leaderSafe
  try dsimp only
  repeat' first
    | (simp +contextual +decide (maxDischargeDepth := 60) only [Keeps.refl, ↓keeps_setDos]; done)
    | split

theorem keeps_unlatchDo {ps : Nat} {s0 s : State} (n : Nat) (hm_ : subParts 0x1023C4012C2000 ps = true)
    (hs_ : Keeps ps s0 s) : Keeps ps s0 (unlatchDo s n) := by
  refine Keeps.comp (a := 0x1023C4012C2000) ?_ hm_ hs_
  clear hm_ hs_
  unfold unlatchDo
  try dsimp only
  repeat' first
    | (simp +contextual +decide (maxDischargeDepth := 60) only [↓keeps_ite, Keeps.refl, ↓keeps_doDiag, ↓keeps_doBall, ↓keeps_wr, Reg.DIO_DOSTAT_RETRIES, fits_instKey]; done)
    | split

theorem keeps_dioCmd {ps : Nat} {s0 s : State} (h : HalfId) (code index : Nat) (hm_ : subParts 0x1023C4012C2001 ps = true)
    (hs_ : Keeps ps s0 s) : Keeps ps s0 (dioCmd s h code index) := by
  refine Keeps.comp (a := 0x1023C4012C2001) ?_ hm_ hs_
  clear hm_ hs_
  unfold dioCmd
  try dsimp only
  repeat' first
    | (simp +contextual +decide (maxDischargeDepth := 60) only [↓keeps_foldl, ↓keeps_ite, Keeps.refl, implies_true, ↓keeps_result, ↓keeps_ledgerField, ↓keeps_holderErr, ↓keeps_unlatchDo, Reg.DIO_RESULT_CMD, Reg.DIO_RESULT_SEQ, Reg.DIO_RESULT_STATUS]; done)
    | split

theorem keeps_execUnlatch {s : State} (h : HalfId) (index : Nat) :
    Keeps 0x1023C4012C2001 s (after s (execUnlatch h index s)) := by
  unfold execUnlatch
  try dsimp only
  repeat' first
    | (simp +contextual +decide (maxDischargeDepth := 60) only [after_next, Keeps.refl, ↓keeps_access, ↓keeps_dioCmd]; done)
    | simp only [after_next]
    | split

theorem keeps_execUnlatchAll {s : State} (h : HalfId) :
    Keeps 0x1023C4012C2001 s (after s (execUnlatchAll h s)) := by
  unfold execUnlatchAll
  try dsimp only
  repeat' first
    | (simp +contextual +decide (maxDischargeDepth := 60) only [after_next, Keeps.refl, ↓keeps_access, ↓keeps_dioCmd]; done)
    | simp only [after_next]
    | split

end Sys2Proof.Machine
end

