-- ==== Sys2Proof/Laws/KeepsLogicOps.lean ====
section
/-!
SUPPORT. `Keeps` for the operations of Machine/LogicOps.lean: the parts each may change.
-/

namespace Sys2Proof.Machine

open Sys2Proof (HalfId Instr Byte Word Accessor)

theorem keeps_lput {ps : Nat} {s0 s : State} (h : HalfId) (off v : Nat) (hm_ : subParts 0x4000000000000 ps = true)
    (hs_ : Keeps ps s0 s) : Keeps ps s0 (lput s h off v) := by
  refine Keeps.comp (a := 0x4000000000000) ?_ hm_ hs_
  clear hm_ hs_
  unfold lput
  try dsimp only
  repeat' first
    | (simp +contextual +decide (maxDischargeDepth := 60) only [Keeps.refl, ↓keeps_modLge]; done)
    | split

theorem keeps_putPc {ps : Nat} {s0 s : State} (h : HalfId) (l v : Nat) (hm_ : subParts 0x4000000000000 ps = true)
    (hs_ : Keeps ps s0 s) : Keeps ps s0 (putPc s h l v) := by
  refine Keeps.comp (a := 0x4000000000000) ?_ hm_ hs_
  clear hm_ hs_
  unfold putPc
  try dsimp only
  repeat' first
    | (simp +contextual +decide (maxDischargeDepth := 60) only [Keeps.refl, ↓keeps_lput]; done)
    | split

theorem keeps_putDepth {ps : Nat} {s0 s : State} (h : HalfId) (l v : Nat) (hm_ : subParts 0x4000000000000 ps = true)
    (hs_ : Keeps ps s0 s) : Keeps ps s0 (putDepth s h l v) := by
  refine Keeps.comp (a := 0x4000000000000) ?_ hm_ hs_
  clear hm_ hs_
  unfold putDepth
  try dsimp only
  repeat' first
    | (simp +contextual +decide (maxDischargeDepth := 60) only [Keeps.refl, ↓keeps_lput]; done)
    | split

theorem keeps_putAcc {ps : Nat} {s0 s : State} (h : HalfId) (l : Nat) (b : Bool) (hm_ : subParts 0x4000000000000 ps = true)
    (hs_ : Keeps ps s0 s) : Keeps ps s0 (putAcc s h l b) := by
  refine Keeps.comp (a := 0x4000000000000) ?_ hm_ hs_
  clear hm_ hs_
  unfold putAcc
  try dsimp only
  repeat' first
    | (simp +contextual +decide (maxDischargeDepth := 60) only [Keeps.refl, ↓keeps_lput]; done)
    | split

theorem keeps_traceSnapshot {ps : Nat} {s0 s : State} (h : HalfId) (reason : Nat) (hm_ : subParts 0x400000000 ps = true)
    (hs_ : Keeps ps s0 s) : Keeps ps s0 (traceSnapshot s h reason) := by
  refine Keeps.comp (a := 0x400000000) ?_ hm_ hs_
  clear hm_ hs_
  unfold traceSnapshot
  try dsimp only
  repeat' first
    | (simp +contextual +decide (maxDischargeDepth := 60) only [Keeps.refl, ↓keeps_modStore]; done)
    | split

theorem keeps_logicHalt {ps : Nat} {s0 s : State} (h : HalfId) (cause task pc : Nat) (hm_ : subParts 0x1423C4052C4000 ps = true)
    (hs_ : Keeps ps s0 s) : Keeps ps s0 (logicHalt s h cause task pc) := by
  refine Keeps.comp (a := 0x1423C4052C4000) ?_ hm_ hs_
  clear hm_ hs_
  unfold logicHalt
  try dsimp only
  repeat' first
    | (simp +contextual +decide (maxDischargeDepth := 60) only [Keeps.refl, ↓keeps_irq, ↓keeps_ledgerH, ↓keeps_tallySet, ↓keeps_modLge, ↓keeps_traceSnapshot, ↓keeps_wr, ↓keeps_wrB, Reg.LGE_CYCLE_COUNT, Reg.LGE_STAT_CAUSE, Reg.LGE_STAT_RUN, Reg.LGE_STAT_TASK, Reg.LGE_STOP_PC_PC, Reg.TRC_CFG_STORE]; done)
    | split

theorem keeps_logicEnd {ps : Nat} {s0 s : State} (h : HalfId) (cause : Nat) (hm_ : subParts 0x1423C4052C4000 ps = true)
    (hs_ : Keeps ps s0 s) : Keeps ps s0 (logicEnd s h cause) := by
  refine Keeps.comp (a := 0x1423C4052C4000) ?_ hm_ hs_
  clear hm_ hs_
  unfold logicEnd
  try dsimp only
  repeat' first
    | (simp +contextual +decide (maxDischargeDepth := 60) only [Keeps.refl, ↓keeps_logicHalt]; done)
    | split

theorem keeps_logicLoad {ps : Nat} {s0 s : State} (h : HalfId) (warm : Option RetUnit) (hm_ : subParts 0x4000000004000 ps = true)
    (hs_ : Keeps ps s0 s) : Keeps ps s0 (logicLoad s h warm) := by
  refine Keeps.comp (a := 0x4000000004000) ?_ hm_ hs_
  clear hm_ hs_
  unfold logicLoad
  try dsimp only
  repeat' first
    | (simp +contextual +decide (maxDischargeDepth := 60) only [Keeps.refl, ↓keeps_modLge, ↓keeps_wrB, Reg.LGE_STAT_WARM]; done)
    | split

theorem keeps_warmLoad {ps : Nat} {s0 s : State} (h : HalfId) (hm_ : subParts 0x14238401244000 ps = true)
    (hs_ : Keeps ps s0 s) : Keeps ps s0 (warmLoad s h) := by
  refine Keeps.comp (a := 0x14238401244000) ?_ hm_ hs_
  clear hm_ hs_
  unfold warmLoad
  try dsimp only
  repeat' first
    | (simp +contextual +decide (maxDischargeDepth := 60) only [Keeps.refl, ↓keeps_ledgerH, ↓keeps_logicLoad]; done)
    | split

end Sys2Proof.Machine
end

