-- ==== Sys2Proof/Laws/KeepsModeOps.lean ====
section
/-!
SUPPORT. `Keeps` for the operations of Machine/ModeOps.lean: the parts each may change.
-/

namespace Sys2Proof.Machine

open Sys2Proof (HalfId Instr Byte Word Accessor)

theorem keeps_modeResult {ps : Nat} {s0 s : State} (h : HalfId) (c st : Nat) (hm_ : subParts 0x1 ps = true)
    (hs_ : Keeps ps s0 s) : Keeps ps s0 (modeResult s h c st) := by
  refine Keeps.comp (a := 0x1) ?_ hm_ hs_
  clear hm_ hs_
  unfold modeResult
  try dsimp only
  repeat' first
    | (simp +contextual +decide (maxDischargeDepth := 60) only [Keeps.refl, ↓keeps_result, Reg.SYS_MODE_RESULT_CMD, Reg.SYS_MODE_RESULT_SEQ, Reg.SYS_MODE_RESULT_STATUS]; done)
    | split

theorem keeps_modeStatus {ps : Nat} {s0 s : State} (h : HalfId) (st : Nat) (hm_ : subParts 0x1 ps = true)
    (hs_ : Keeps ps s0 s) : Keeps ps s0 (modeStatus s h st) := by
  refine Keeps.comp (a := 0x1) ?_ hm_ hs_
  clear hm_ hs_
  unfold modeStatus
  try dsimp only
  repeat' first
    | (simp +contextual +decide (maxDischargeDepth := 60) only [Keeps.refl, ↓keeps_wr, Reg.SYS_MODE_RESULT_STATUS]; done)
    | split

theorem keeps_modeRefuse {ps : Nat} {s0 s : State} (h : HalfId) (c st : Nat) (hm_ : subParts 0x10238401240001 ps = true)
    (hs_ : Keeps ps s0 s) : Keeps ps s0 (modeRefuse s h c st) := by
  refine Keeps.comp (a := 0x10238401240001) ?_ hm_ hs_
  clear hm_ hs_
  unfold modeRefuse
  try dsimp only
  repeat' first
    | (simp +contextual +decide (maxDischargeDepth := 60) only [Keeps.refl, ↓keeps_ledgerH, ↓keeps_modeResult]; done)
    | split

theorem keeps_setPend {ps : Nat} {s0 s : State} (h : HalfId) (p : PendMode) (hm_ : subParts 0x800000001 ps = true)
    (hs_ : Keeps ps s0 s) : Keeps ps s0 (setPend s h p) := by
  refine Keeps.comp (a := 0x800000001) ?_ hm_ hs_
  clear hm_ hs_
  unfold setPend
  try dsimp only
  repeat' first
    | (simp +contextual +decide (maxDischargeDepth := 60) only [Keeps.refl, ↓keeps_modMode, ↓keeps_wr, ↓keeps_wrB, Reg.SYS_MODE_PEND, Reg.SYS_MODE_TARGET]; done)
    | split

theorem keeps_clearPend {ps : Nat} {s0 s : State} (h : HalfId) (hm_ : subParts 0x800000001 ps = true)
    (hs_ : Keeps ps s0 s) : Keeps ps s0 (clearPend s h) := by
  refine Keeps.comp (a := 0x800000001) ?_ hm_ hs_
  clear hm_ hs_
  unfold clearPend
  try dsimp only
  repeat' first
    | (simp +contextual +decide (maxDischargeDepth := 60) only [Keeps.refl, ↓keeps_modMode, ↓keeps_wr, ↓keeps_wrB, Reg.SYS_MODE_PEND, Reg.SYS_MODE_TARGET]; done)
    | split

theorem keeps_pendAbort {ps : Nat} {s0 s : State}  (hm_ : subParts 0x800000001 ps = true)
    (hs_ : Keeps ps s0 s) : Keeps ps s0 (pendAbort s) := by
  refine Keeps.comp (a := 0x800000001) ?_ hm_ hs_
  clear hm_ hs_
  unfold pendAbort
  try dsimp only
  repeat' first
    | (simp +contextual +decide (maxDischargeDepth := 60) only [↓keeps_ite, Keeps.refl, ↓keeps_modeStatus, ↓keeps_clearPend, ↓keeps_wr, Reg.IMG_STAT_CMD_STATUS, *]; done)
    | decide
    | (intro _ _ _; try dsimp only)
    | with_reducible apply keeps_foldl
    | with_reducible apply keeps_modeStatus
    | with_reducible apply keeps_clearPend
    | with_reducible apply keeps_wr
    | split
    | with_reducible apply keeps_ite
  repeat' first
    | (simp +contextual +decide (maxDischargeDepth := 60) only [↓keeps_ite, Keeps.refl, ↓keeps_modeStatus, ↓keeps_clearPend, ↓keeps_wr, Reg.IMG_STAT_CMD_STATUS]; done)
    | split

theorem keeps_schedEnd {ps : Nat} {s0 s : State} (h : HalfId) (e state st : Nat) (hm_ : subParts 0x8 ps = true)
    (hs_ : Keeps ps s0 s) : Keeps ps s0 (schedEnd s h e state st) := by
  refine Keeps.comp (a := 0x8) ?_ hm_ hs_
  clear hm_ hs_
  unfold schedEnd
  try dsimp only
  repeat' first
    | (simp +contextual +decide (maxDischargeDepth := 60) only [Keeps.refl, ↓keeps_wr, ↓keeps_wrB, Reg.TIME_SCH_CFG_ARM, Reg.TIME_SCH_STAT_STATE, Reg.TIME_SCH_STAT_STATUS, fits_bank]; done)
    | split

theorem keeps_setEnd {ps : Nat} {s0 s : State} (h : HalfId) (st : Nat) (hm_ : subParts 0x800000009 ps = true)
    (hs_ : Keeps ps s0 s) : Keeps ps s0 (setEnd s h st) := by
  refine Keeps.comp (a := 0x800000009) ?_ hm_ hs_
  clear hm_ hs_
  unfold setEnd
  try dsimp only
  repeat' first
    | (simp +contextual +decide (maxDischargeDepth := 60) only [Keeps.refl, ↓keeps_modMode, ↓keeps_schedEnd, ↓keeps_wr, ↓keeps_wrB, Reg.SET_ACTIVE_PEND, Reg.SET_ACTIVE_TARGET, Reg.SET_RESULT_STATUS]; done)
    | split

theorem keeps_setAbort {ps : Nat} {s0 s : State}  (hm_ : subParts 0x10238C01240009 ps = true)
    (hs_ : Keeps ps s0 s) : Keeps ps s0 (setAbort s) := by
  refine Keeps.comp (a := 0x10238C01240009) ?_ hm_ hs_
  clear hm_ hs_
  unfold setAbort
  try dsimp only
  repeat' first
    | (simp +contextual +decide (maxDischargeDepth := 60) only [↓keeps_ite, Keeps.refl, ↓keeps_ledgerH, ↓keeps_setEnd, *]; done)
    | decide
    | (intro _ _ _; try dsimp only)
    | with_reducible apply keeps_foldl
    | with_reducible apply keeps_ledgerH
    | with_reducible apply keeps_setEnd
    | split
    | with_reducible apply keeps_ite
  repeat' first
    | (simp +contextual +decide (maxDischargeDepth := 60) only [↓keeps_ite, Keeps.refl, ↓keeps_ledgerH, ↓keeps_setEnd]; done)
    | split

theorem keeps_dropSubst {ps : Nat} {s0 s : State} (h : HalfId) (hm_ : subParts 0x12238401240200 ps = true)
    (hs_ : Keeps ps s0 s) : Keeps ps s0 (dropSubst s h) := by
  refine Keeps.comp (a := 0x12238401240200) ?_ hm_ hs_
  clear hm_ hs_
  unfold dropSubst
  try dsimp only
  repeat' first
    | (simp +contextual +decide (maxDischargeDepth := 60) only [↓keeps_foldl, ↓keeps_ite, Keeps.refl, implies_true, ↓keeps_genPut]; done)
    | split

theorem keeps_leaveTest {ps : Nat} {s0 s : State} (h : HalfId) (hm_ : subParts 0x13238C01240241 ps = true)
    (hs_ : Keeps ps s0 s) : Keeps ps s0 (leaveTest s h) := by
  refine Keeps.comp (a := 0x13238C01240241) ?_ hm_ hs_
  clear hm_ hs_
  unfold leaveTest
  try dsimp only
  repeat' first
    | (simp +contextual +decide (maxDischargeDepth := 60) only [Keeps.refl, ↓keeps_modMode, ↓keeps_injEnd, ↓keeps_dropSubst, ↓keeps_wr, Reg.SYS_TEST_TIME_REMAIN]; done)
    | split

theorem keeps_putBlocks {ps : Nat} {s0 s : State} (h : HalfId) (m : Nat) (hm_ : subParts 0x1 ps = true)
    (hs_ : Keeps ps s0 s) : Keeps ps s0 (putBlocks s h m) := by
  refine Keeps.comp (a := 0x1) ?_ hm_ hs_
  clear hm_ hs_
  unfold putBlocks
  try dsimp only
  repeat' first
    | (simp +contextual +decide (maxDischargeDepth := 60) only [↓keeps_ite, Keeps.refl, ↓keeps_wr, ↓keeps_wrB, Reg.SYS_BLOCK_DO_BLOCK, Reg.SYS_BLOCK_FTO_BLOCK, Reg.SYS_MODE_C0_BLOCK]; done)
    | split

theorem keeps_layupResp {ps : Nat} {s0 s : State} (h : HalfId) (r : ChainRec) (resp : Nat) (hm_ : subParts 0x11278401240040 ps = true)
    (hs_ : Keeps ps s0 s) : Keeps ps s0 (layupResp s h r resp) := by
  refine Keeps.comp (a := 0x11278401240040) ?_ hm_ hs_
  clear hm_ hs_
  unfold layupResp
  try dsimp only
  repeat' first
    | (simp +contextual +decide (maxDischargeDepth := 60) only [↓keeps_ite, Keeps.refl, ↓keeps_ledgerH, ↓keeps_putResp, ↓keeps_restartChain]; done)
    | split

theorem keeps_layupChains {ps : Nat} {s0 s : State} (h : HalfId) (hm_ : subParts 0x11278401240040 ps = true)
    (hs_ : Keeps ps s0 s) : Keeps ps s0 (layupChains s h) := by
  refine Keeps.comp (a := 0x11278401240040) ?_ hm_ hs_
  clear hm_ hs_
  unfold layupChains
  try dsimp only
  repeat' first
    | (simp +contextual +decide (maxDischargeDepth := 60) only [↓keeps_foldl, ↓keeps_ite, Keeps.refl, implies_true, ↓keeps_layupResp]; done)
    | split

theorem keeps_wakeChains {ps : Nat} {s0 s : State} (h : HalfId) (hm_ : subParts 0x11278401240040 ps = true)
    (hs_ : Keeps ps s0 s) : Keeps ps s0 (wakeChains s h) := by
  refine Keeps.comp (a := 0x11278401240040) ?_ hm_ hs_
  clear hm_ hs_
  unfold wakeChains
  try dsimp only
  repeat' first
    | (simp +contextual +decide (maxDischargeDepth := 60) only [↓keeps_foldl, Keeps.refl, implies_true, ↓keeps_layupResp]; done)
    | split

theorem keeps_rearmAreas {ps : Nat} {s0 s : State} (h : HalfId) (leave arm : AreaRec → Bool) (hm_ : subParts 0x1027C4012C8000 ps = true)
    (hs_ : Keeps ps s0 s) : Keeps ps s0 (rearmAreas s h leave arm) := by
  refine Keeps.comp (a := 0x1027C4012C8000) ?_ hm_ hs_
  clear hm_ hs_
  unfold rearmAreas
  try dsimp only
  repeat' first
    | (simp +contextual +decide (maxDischargeDepth := 60) only [↓keeps_foldl, ↓keeps_ite, Keeps.refl, implies_true, ↓keeps_stopArea, ↓keeps_armAll, ↓keeps_store, ↓keeps_free, ↓keeps_ticks, ↓keeps_die_time, ↓keeps_die_io, ↓keeps_die_gavel, ↓keeps_die_mon, ↓keeps_die_evSeq, ↓keeps_die_rails, ↓keeps_die_supply, ↓keeps_die_railsSel, *]; done)
    | decide
    | (intro _ _ _; try dsimp only)
    | with_reducible apply keeps_foldl
    | with_reducible apply keeps_stopArea
    | with_reducible apply keeps_armAll
    | split
    | with_reducible apply keeps_ite
  repeat' first
    | (simp +contextual +decide (maxDischargeDepth := 60) only [↓keeps_foldl, ↓keeps_ite, Keeps.refl, implies_true, ↓keeps_stopArea, ↓keeps_armAll, ↓keeps_store, ↓keeps_free, ↓keeps_ticks, ↓keeps_die_time, ↓keeps_die_io, ↓keeps_die_gavel, ↓keeps_die_mon, ↓keeps_die_evSeq, ↓keeps_die_rails, ↓keeps_die_supply, ↓keeps_die_railsSel]; done)
    | split

theorem keeps_debugRelock {ps : Nat} {s0 s : State} (h : HalfId) (hm_ : subParts 0x10238403240000 ps = true)
    (hs_ : Keeps ps s0 s) : Keeps ps s0 (debugRelock s h) := by
  refine Keeps.comp (a := 0x10238403240000) ?_ hm_ hs_
  clear hm_ hs_
  unfold debugRelock
  try dsimp only
  repeat' first
    | (simp +contextual +decide (maxDischargeDepth := 60) only [Keeps.refl, ↓keeps_ledgerH, ↓keeps_wrB, Reg.SEC_STAT_DEBUG]; done)
    | split

theorem keeps_modeLogic {ps : Nat} {s0 s : State} (h : HalfId) (m : Nat) (hm_ : subParts 0x1423C4052C4000 ps = true)
    (hs_ : Keeps ps s0 s) : Keeps ps s0 (modeLogic s h m) := by
  refine Keeps.comp (a := 0x1423C4052C4000) ?_ hm_ hs_
  clear hm_ hs_
  unfold modeLogic
  try dsimp only
  repeat' first
    | (simp +contextual +decide (maxDischargeDepth := 60) only [↓keeps_ite, Keeps.refl, ↓keeps_logicEnd]; done)
    | split

theorem keeps_coreWake {ps : Nat} {s0 s : State} (h : HalfId) (hm_ : subParts 0x800004800000 ps = true)
    (hs_ : Keeps ps s0 s) : Keeps ps s0 (coreWake s h) := by
  refine Keeps.comp (a := 0x800004800000) ?_ hm_ hs_
  clear hm_ hs_
  unfold coreWake
  try dsimp only
  repeat' first
    | (simp +contextual +decide (maxDischargeDepth := 60) only [↓keeps_foldl, ↓keeps_ite, Keeps.refl, implies_true, ↓keeps_traceGap, ↓keeps_setWord, ↓keeps_wr, ↓keeps_wrB, ↓keeps_wrBit, Reg.ETH_CORE_STATE, fits_instKey, fits_bank]; done)
    | split

theorem keeps_setMode {ps : Nat} {s0 s : State} (h : HalfId) (m : Nat) (by_ : List Byte) (hm_ : subParts 0x17F7CD07ECEE41 ps = true)
    (hs_ : Keeps ps s0 s) : Keeps ps s0 (setMode s h m by_) := by
  refine Keeps.comp (a := 0x17F7CD07ECEE41) ?_ hm_ hs_
  clear hm_ hs_
  unfold setMode
  try dsimp only
  repeat' first
    | (simp +contextual +decide (maxDischargeDepth := 60) only [↓keeps_ite, Keeps.refl, ↓keeps_irq, ↓keeps_ledgerH, ↓keeps_modMode, ↓keeps_signalVote, ↓keeps_decideOut, ↓keeps_edgeTriggers, ↓keeps_revertChains, ↓keeps_suspendUpdate, ↓keeps_testAbort, ↓keeps_leaveTest, ↓keeps_putBlocks, ↓keeps_layupChains, ↓keeps_rearmAreas, ↓keeps_debugRelock, ↓keeps_modeLogic, ↓keeps_coreWake, ↓keeps_wr, Reg.SYS_MODE_MODE]; done)
    | split

theorem keeps_layupTrigger {ps : Nat} {s0 s : State} (h : HalfId) (why : Nat) (hm_ : subParts 0x10238C01240001 ps = true)
    (hs_ : Keeps ps s0 s) : Keeps ps s0 (layupTrigger s h why) := by
  refine Keeps.comp (a := 0x10238C01240001) ?_ hm_ hs_
  clear hm_ hs_
  unfold layupTrigger
  try dsimp only
  repeat' first
    | (simp +contextual +decide (maxDischargeDepth := 60) only [↓keeps_ite, Keeps.refl, ↓keeps_ledgerH, ↓keeps_modMode, ↓keeps_modeResult, ↓keeps_wr, ↓keeps_wrB, Reg.SYS_MODE_PEND, Reg.SYS_MODE_TARGET]; done)
    | split

theorem keeps_tallyPartner {ps : Nat} {s0 s : State} (h : HalfId) (cause code ev : Nat) (hm_ : subParts 0x1023C4012C0040 ps = true)
    (hs_ : Keeps ps s0 s) : Keeps ps s0 (tallyPartner s h cause code ev) := by
  refine Keeps.comp (a := 0x1023C4012C0040) ?_ hm_ hs_
  clear hm_ hs_
  unfold tallyPartner
  try dsimp only
  repeat' first
    | (simp +contextual +decide (maxDischargeDepth := 60) only [Keeps.refl, ↓keeps_tallySet, ↓keeps_suspendUpdate]; done)
    | split

theorem keeps_layupDone {ps : Nat} {s0 s : State} (l : HalfId) (failed : Bool) (hm_ : subParts 0x17F7CD07ECEE41 ps = true)
    (hs_ : Keeps ps s0 s) : Keeps ps s0 (layupDone s l failed) := by
  refine Keeps.comp (a := 0x17F7CD07ECEE41) ?_ hm_ hs_
  clear hm_ hs_
  unfold layupDone
  try dsimp only
  repeat' first
    | (simp +contextual +decide (maxDischargeDepth := 60) only [↓keeps_ite, Keeps.refl, ↓keeps_ledgerH, ↓keeps_modMode, ↓keeps_votePresent, ↓keeps_modeStatus, ↓keeps_setMode, ↓keeps_tallyPartner, ↓keeps_wr, ↓keeps_wrB, Reg.SYS_MODE_PEND, Reg.SYS_MODE_RESULT_CMD, Reg.SYS_MODE_TARGET]; done)
    | split

theorem keeps_lockstepResume {ps : Nat} {s0 s : State}  (hm_ : subParts 0x17F7CD07ECEE45 ps = true)
    (hs_ : Keeps ps s0 s) : Keeps ps s0 (lockstepResume s) := by
  refine Keeps.comp (a := 0x17F7CD07ECEE45) ?_ hm_ hs_
  clear hm_ hs_
  unfold lockstepResume
  try dsimp only
  repeat' first
    | (simp +contextual +decide (maxDischargeDepth := 60) only [↓keeps_ite, Keeps.refl, ↓keeps_layupDone, ↓keeps_wr, Reg.GAV_LS_STAT_STATE]; done)
    | split

theorem keeps_permitCheck {ps : Nat} {s0 s : State} (h : HalfId) (hm_ : subParts 0x10238C01240001 ps = true)
    (hs_ : Keeps ps s0 s) : Keeps ps s0 (permitCheck s h) := by
  refine Keeps.comp (a := 0x10238C01240001) ?_ hm_ hs_
  clear hm_ hs_
  unfold permitCheck
  try dsimp only
  repeat' first
    | (simp +contextual +decide (maxDischargeDepth := 60) only [↓keeps_ite, Keeps.refl, ↓keeps_layupTrigger]; done)
    | split

end Sys2Proof.Machine
end

