-- ==== Sys2Proof/Laws/KeepsLogic.lean ====
section
/-!
SUPPORT. `Keeps` for the operations of Machine/Logic.lean: the parts each may change.
-/

namespace Sys2Proof.Machine

open Sys2Proof (HalfId Instr Byte Word Accessor)

theorem keeps_latchImage {ps : Nat} {s0 s : State} (h : HalfId) (hm_ : subParts 0x4000000000000 ps = true)
    (hs_ : Keeps ps s0 s) : Keeps ps s0 (latchImage s h) := by
  refine Keeps.comp (a := 0x4000000000000) ?_ hm_ hs_
  clear hm_ hs_
  unfold latchImage
  try dsimp only
  repeat' first
    | (simp +contextual +decide (maxDischargeDepth := 60) only [Keeps.refl, ↓keeps_modLge]; done)
    | split

theorem keeps_releaseAt {ps : Nat} {s0 s : State} (h : HalfId) (c : Nat) (r : TaskRec) (hm_ : subParts 0x4820004004000 ps = true)
    (hs_ : Keeps ps s0 s) : Keeps ps s0 (releaseAt s h c r) := by
  refine Keeps.comp (a := 0x4820004004000) ?_ hm_ hs_
  clear hm_ hs_
  unfold releaseAt
  try dsimp only
  repeat' first
    | (simp +contextual +decide (maxDischargeDepth := 60) only [Keeps.refl, ↓keeps_satAdd, ↓keeps_count, ↓keeps_trace, ↓keeps_modLge, Reg.LGE_TRELS_RELEASES, fits_bank]; done)
    | split

theorem keeps_releaseTask {ps : Nat} {s0 s : State} (h : HalfId) (r : TaskRec) (hm_ : subParts 0x4820004004000 ps = true)
    (hs_ : Keeps ps s0 s) : Keeps ps s0 (releaseTask s h r) := by
  refine Keeps.comp (a := 0x4820004004000) ?_ hm_ hs_
  clear hm_ hs_
  unfold releaseTask
  try dsimp only
  repeat' first
    | (simp +contextual +decide (maxDischargeDepth := 60) only [Keeps.refl, ↓keeps_releaseAt]; done)
    | split

theorem keeps_missRelease {ps : Nat} {s0 s : State} (h : HalfId) (t : Nat) (hm_ : subParts 0x14238401244000 ps = true)
    (hs_ : Keeps ps s0 s) : Keeps ps s0 (missRelease s h t) := by
  refine Keeps.comp (a := 0x14238401244000) ?_ hm_ hs_
  clear hm_ hs_
  unfold missRelease
  try dsimp only
  repeat' first
    | (simp +contextual +decide (maxDischargeDepth := 60) only [↓keeps_ite, Keeps.refl, ↓keeps_satAdd, ↓keeps_ledger, ↓keeps_modLge, Reg.LGE_TRELS_MISSED, fits_bank]; done)
    | split

theorem keeps_startTask {ps : Nat} {s0 s : State} (h : HalfId) (r : TaskRec) (hm_ : subParts 0x4000000000000 ps = true)
    (hs_ : Keeps ps s0 s) : Keeps ps s0 (startTask s h r) := by
  refine Keeps.comp (a := 0x4000000000000) ?_ hm_ hs_
  clear hm_ hs_
  unfold startTask
  try dsimp only
  repeat' first
    | (simp +contextual +decide (maxDischargeDepth := 60) only [Keeps.refl, ↓keeps_modLge, ↓keeps_lput]; done)
    | split

theorem keeps_dispatch {ps : Nat} {s0 s : State} (h : HalfId) (hm_ : subParts 0x4000000000000 ps = true)
    (hs_ : Keeps ps s0 s) : Keeps ps s0 (dispatch s h) := by
  refine Keeps.comp (a := 0x4000000000000) ?_ hm_ hs_
  clear hm_ hs_
  unfold dispatch
  try dsimp only
  repeat' first
    | (simp +contextual +decide (maxDischargeDepth := 60) only [↓keeps_ite, Keeps.refl, ↓keeps_modLge, ↓keeps_startTask]; done)
    | split

theorem keeps_boundaryReleases {ps : Nat} {s0 s : State} (h : HalfId) (hm_ : subParts 0x14A38405244000 ps = true)
    (hs_ : Keeps ps s0 s) : Keeps ps s0 (boundaryReleases s h) := by
  refine Keeps.comp (a := 0x14A38405244000) ?_ hm_ hs_
  clear hm_ hs_
  unfold boundaryReleases
  try dsimp only
  repeat' first
    | (simp +contextual +decide (maxDischargeDepth := 60) only [↓keeps_foldl, ↓keeps_ite, Keeps.refl, implies_true, ↓keeps_modLge, ↓keeps_releaseTask, ↓keeps_missRelease]; done)
    | split

theorem keeps_publishLogic {ps : Nat} {s0 s : State} (h : HalfId) (hm_ : subParts 0x1677CD01ECAC01 ps = true)
    (hs_ : Keeps ps s0 s) : Keeps ps s0 (publishLogic s h) := by
  refine Keeps.comp (a := 0x1677CD01ECAC01) ?_ hm_ hs_
  clear hm_ hs_
  unfold publishLogic
  try dsimp only
  repeat' first
    | (simp +contextual +decide (maxDischargeDepth := 60) only [↓keeps_ite, Keeps.refl, ↓keeps_modLge, ↓keeps_publishChanges, ↓keeps_decideOut, ↓keeps_edgeTriggers, ↓keeps_permitCheck]; done)
    | split

theorem keeps_logicStart {ps : Nat} {s0 s : State} (h : HalfId) (hm_ : subParts 0x1423C4012C4004 ps = true)
    (hs_ : Keeps ps s0 s) : Keeps ps s0 (logicStart s h) := by
  refine Keeps.comp (a := 0x1423C4012C4004) ?_ hm_ hs_
  clear hm_ hs_
  unfold logicStart
  try dsimp only
  repeat' first
    | (simp +contextual +decide (maxDischargeDepth := 60) only [↓keeps_ite, Keeps.refl, ↓keeps_tallySet, ↓keeps_modLge, ↓keeps_lput, ↓keeps_logicLoad, ↓keeps_warmLoad, ↓keeps_wr, ↓keeps_wrB, Reg.GAV_LS_STAT_STATE, Reg.LGE_CYCLE_COUNT, Reg.LGE_STAT_RUN]; done)
    | split

theorem keeps_startReleases {ps : Nat} {s0 s : State} (h : HalfId) (hm_ : subParts 0x4820004004000 ps = true)
    (hs_ : Keeps ps s0 s) : Keeps ps s0 (startReleases s h) := by
  refine Keeps.comp (a := 0x4820004004000) ?_ hm_ hs_
  clear hm_ hs_
  unfold startReleases
  try dsimp only
  repeat' first
    | (simp +contextual +decide (maxDischargeDepth := 60) only [↓keeps_foldl, ↓keeps_ite, Keeps.refl, implies_true, ↓keeps_modLge, ↓keeps_releaseTask]; done)
    | split

theorem keeps_overrunStop {ps : Nat} {s0 s : State} (h : HalfId) (cause : Nat) (r : TaskRec) (hm_ : subParts 0x14A3C4052C4000 ps = true)
    (hs_ : Keeps ps s0 s) : Keeps ps s0 (overrunStop s h cause r) := by
  refine Keeps.comp (a := 0x14A3C4052C4000) ?_ hm_ hs_
  clear hm_ hs_
  unfold overrunStop
  try dsimp only
  repeat' first
    | (simp +contextual +decide (maxDischargeDepth := 60) only [Keeps.refl, ↓keeps_trace, ↓keeps_logicHalt]; done)
    | split

theorem keeps_drainDi {ps : Nat} {s0 s : State} (h : HalfId) (hm_ : subParts 0x200101200000 ps = true)
    (hs_ : Keeps ps s0 s) : Keeps ps s0 (drainDi s h) := by
  refine Keeps.comp (a := 0x200101200000) ?_ hm_ hs_
  clear hm_ hs_
  unfold drainDi
  try dsimp only
  repeat' first
    | (simp +contextual +decide (maxDischargeDepth := 60) only [↓keeps_foldl, Keeps.refl, implies_true, ↓keeps_qPush, ↓keeps_modIo]; done)
    | split

theorem keeps_sendImage {ps : Nat} {s0 s : State} (h : HalfId) (hm_ : subParts 0x4000000000000 ps = true)
    (hs_ : Keeps ps s0 s) : Keeps ps s0 (sendImage s h) := by
  refine Keeps.comp (a := 0x4000000000000) ?_ hm_ hs_
  clear hm_ hs_
  unfold sendImage
  try dsimp only
  repeat' first
    | (simp +contextual +decide (maxDischargeDepth := 60) only [↓keeps_ite, Keeps.refl, ↓keeps_modLge]; done)
    | split

theorem keeps_boundaryOwn {ps : Nat} {s0 s : State} (h : HalfId) (hm_ : subParts 0x16F7CD05ECEC05 ps = true)
    (hs_ : Keeps ps s0 s) : Keeps ps s0 (boundaryOwn s h) := by
  refine Keeps.comp (a := 0x16F7CD05ECEC05) ?_ hm_ hs_
  clear hm_ hs_
  unfold boundaryOwn
  try dsimp only
  repeat' first
    | (simp +contextual +decide (maxDischargeDepth := 60) only [Keeps.refl, ↓keeps_latchImage, ↓keeps_dispatch, ↓keeps_boundaryReleases, ↓keeps_publishLogic, ↓keeps_logicStart, ↓keeps_startReleases, ↓keeps_overrunStop, ↓keeps_sendImage, Reg.LGE_CYCLE_COUNT]; done)
    | split

theorem keeps_boundaryShadow {ps : Nat} {s0 s : State} (h : HalfId) (hm_ : subParts 0x1423C4012C4004 ps = true)
    (hs_ : Keeps ps s0 s) : Keeps ps s0 (boundaryShadow s h) := by
  refine Keeps.comp (a := 0x1423C4012C4004) ?_ hm_ hs_
  clear hm_ hs_
  unfold boundaryShadow
  try dsimp only
  repeat' first
    | (simp +contextual +decide (maxDischargeDepth := 60) only [↓keeps_ite, Keeps.refl, ↓keeps_logicStart]; done)
    | split

theorem keeps_execArcadeCycleBoundary {s : State} (h : HalfId) :
    Keeps 0x16F7CD05ECEC05 s (after s (execArcadeCycleBoundary h s)) := by
  unfold execArcadeCycleBoundary
  try dsimp only
  repeat' first
    | (simp +contextual +decide (maxDischargeDepth := 60) only [after_next, Keeps.refl, ↓keeps_wrapInc, ↓keeps_drainDi, ↓keeps_boundaryOwn, ↓keeps_boundaryShadow, Reg.LGE_CYCLE_COUNT]; done)
    | simp only [after_next]
    | split

theorem keeps_execEventTaskLimit {s : State} (h : HalfId) (t : Nat) :
    Keeps 0x14A3C4052C4000 s (after s (execEventTaskLimit h t s)) := by
  unfold execEventTaskLimit
  try dsimp only
  repeat' first
    | (simp +contextual +decide (maxDischargeDepth := 60) only [after_next, ↓keeps_ite, Keeps.refl, ↓keeps_overrunStop, Reg.LGE_CYCLE_COUNT]; done)
    | simp only [after_next]
    | split

theorem keeps_selfTest {ps : Nat} {s0 s : State} (h : HalfId) (hm_ : subParts 0xC000000000004 ps = true)
    (hs_ : Keeps ps s0 s) : Keeps ps s0 (selfTest s h) := by
  refine Keeps.comp (a := 0xC000000000004) ?_ hm_ hs_
  clear hm_ hs_
  unfold selfTest
  try dsimp only
  repeat' first
    | (simp +contextual +decide (maxDischargeDepth := 60) only [Keeps.refl, ↓keeps_satAdd, ↓keeps_modLge, ↓keeps_wr, ↓keeps_half_gav, Reg.GAV_LS_CNT_MISMATCH, Reg.GAV_LS_STAT_STATE]; done)
    | split

theorem keeps_lsMismatch {ps : Nat} {s0 s : State} (h : HalfId) (task rel off : Nat) (hm_ : subParts 0x1C238401240004 ps = true)
    (hs_ : Keeps ps s0 s) : Keeps ps s0 (lsMismatch s h task rel off) := by
  refine Keeps.comp (a := 0x1C238401240004) ?_ hm_ hs_
  clear hm_ hs_
  unfold lsMismatch
  try dsimp only
  repeat' first
    | (simp +contextual +decide (maxDischargeDepth := 60) only [↓keeps_ite, Keeps.refl, ↓keeps_ledgerH, ↓keeps_selfTest]; done)
    | split

theorem keeps_instr {ps : Nat} {s0 s : State} (h : HalfId) (f : State → Nat → State) (hm_ : subParts 0x4000000000000 ps = true)
    (hf_ : ∀ t n, Keeps ps s0 t → Keeps ps s0 (f t n)) (hs_ : Keeps ps s0 s) : Keeps ps s0 (instr s h f) := by
  unfold instr
  split
  · exact hs_
  · exact keeps_putPc h _ _ hm_ (hf_ _ _ hs_)

theorem keeps_stackFault {ps : Nat} {s0 s : State} (h : HalfId) (r : TaskRec) (cause : Nat) (hm_ : subParts 0x1C23C4052C4004 ps = true)
    (hs_ : Keeps ps s0 s) : Keeps ps s0 (stackFault s h r cause) := by
  refine Keeps.comp (a := 0x1C23C4052C4004) ?_ hm_ hs_
  clear hm_ hs_
  unfold stackFault
  try dsimp only
  repeat' first
    | (simp +contextual +decide (maxDischargeDepth := 60) only [↓keeps_ite, Keeps.refl, ↓keeps_logicHalt, ↓keeps_lsMismatch]; done)
    | split

theorem keeps_writeBit {ps : Nat} {s0 s : State} (h : HalfId) (l a n : Nat) (b : Bool) (hm_ : subParts 0x4000000000000 ps = true)
    (hs_ : Keeps ps s0 s) : Keeps ps s0 (writeBit s h l a n b) := by
  refine Keeps.comp (a := 0x4000000000000) ?_ hm_ hs_
  clear hm_ hs_
  unfold writeBit
  try dsimp only
  repeat' first
    | (simp +contextual +decide (maxDischargeDepth := 60) only [↓keeps_ite, Keeps.refl, ↓keeps_modLge, ↓keeps_lput]; done)
    | split

theorem keeps_putStack {ps : Nat} {s0 s : State} (h : HalfId) (l v : Nat) (hm_ : subParts 0x4000000000000 ps = true)
    (hs_ : Keeps ps s0 s) : Keeps ps s0 (putStack s h l v) := by
  refine Keeps.comp (a := 0x4000000000000) ?_ hm_ hs_
  clear hm_ hs_
  unfold putStack
  try dsimp only
  repeat' first
    | (simp +contextual +decide (maxDischargeDepth := 60) only [Keeps.refl, ↓keeps_lput]; done)
    | split

theorem keeps_bitOp {ps : Nat} {s0 s : State} (h : HalfId) (op a n : Nat) (neg : Bool) (hm_ : subParts 0x4000000000000 ps = true)
    (hs_ : Keeps ps s0 s) : Keeps ps s0 (bitOp s h op a n neg) := by
  refine Keeps.comp (a := 0x4000000000000) ?_ hm_ hs_
  clear hm_ hs_
  unfold bitOp
  try dsimp only
  repeat' first
    | (simp +contextual +decide (maxDischargeDepth := 60) only [Keeps.refl, implies_true, ↓keeps_putAcc, ↓keeps_instr]; done)
    | split

theorem keeps_pushOp {ps : Nat} {s0 s : State} (h : HalfId) (op a n : Nat) (neg : Bool) (hm_ : subParts 0x1C23C4052C4004 ps = true)
    (hs_ : Keeps ps s0 s) : Keeps ps s0 (pushOp s h op a n neg) := by
  refine Keeps.comp (a := 0x1C23C4052C4004) ?_ hm_ hs_
  clear hm_ hs_
  unfold pushOp
  try dsimp only
  repeat' first
    | (simp +contextual +decide (maxDischargeDepth := 60) only [↓keeps_ite, Keeps.refl, implies_true, ↓keeps_putDepth, ↓keeps_putAcc, ↓keeps_instr, ↓keeps_stackFault, ↓keeps_putStack]; done)
    | split

theorem keeps_popOp {ps : Nat} {s0 s : State} (h : HalfId) (hm_ : subParts 0x1C23C4052C4004 ps = true)
    (hs_ : Keeps ps s0 s) : Keeps ps s0 (popOp s h) := by
  refine Keeps.comp (a := 0x1C23C4052C4004) ?_ hm_ hs_
  clear hm_ hs_
  unfold popOp
  try dsimp only
  repeat' first
    | (simp +contextual +decide (maxDischargeDepth := 60) only [↓keeps_ite, Keeps.refl, implies_true, ↓keeps_putDepth, ↓keeps_putAcc, ↓keeps_instr, ↓keeps_stackFault, ↓keeps_putStack]; done)
    | split

theorem keeps_execNop {s : State} (h : HalfId) :
    Keeps 0x4000000000000 s (after s (execNop h s)) := by
  unfold execNop
  try dsimp only
  repeat' first
    | (simp +contextual +decide (maxDischargeDepth := 60) only [after_next, Keeps.refl, implies_true, ↓keeps_instr]; done)
    | simp only [after_next]
    | split

theorem keeps_execLd {s : State} (h : HalfId) (a n : Nat) (neg : Bool) :
    Keeps 0x4000000000000 s (after s (execLd h a n neg s)) := by
  unfold execLd
  try dsimp only
  repeat' first
    | (simp +contextual +decide (maxDischargeDepth := 60) only [after_next, Keeps.refl, ↓keeps_bitOp]; done)
    | simp only [after_next]
    | split

theorem keeps_execAnd {s : State} (h : HalfId) (a n : Nat) (neg : Bool) :
    Keeps 0x4000000000000 s (after s (execAnd h a n neg s)) := by
  unfold execAnd
  try dsimp only
  repeat' first
    | (simp +contextual +decide (maxDischargeDepth := 60) only [after_next, Keeps.refl, ↓keeps_bitOp]; done)
    | simp only [after_next]
    | split

theorem keeps_execOr {s : State} (h : HalfId) (a n : Nat) (neg : Bool) :
    Keeps 0x4000000000000 s (after s (execOr h a n neg s)) := by
  unfold execOr
  try dsimp only
  repeat' first
    | (simp +contextual +decide (maxDischargeDepth := 60) only [after_next, Keeps.refl, ↓keeps_bitOp]; done)
    | simp only [after_next]
    | split

theorem keeps_execXor {s : State} (h : HalfId) (a n : Nat) (neg : Bool) :
    Keeps 0x4000000000000 s (after s (execXor h a n neg s)) := by
  unfold execXor
  try dsimp only
  repeat' first
    | (simp +contextual +decide (maxDischargeDepth := 60) only [after_next, Keeps.refl, ↓keeps_bitOp]; done)
    | simp only [after_next]
    | split

theorem keeps_execAndPush {s : State} (h : HalfId) (a n : Nat) (neg : Bool) :
    Keeps 0x1C23C4052C4004 s (after s (execAndPush h a n neg s)) := by
  unfold execAndPush
  try dsimp only
  repeat' first
    | (simp +contextual +decide (maxDischargeDepth := 60) only [after_next, Keeps.refl, ↓keeps_pushOp]; done)
    | simp only [after_next]
    | split

theorem keeps_execOrPush {s : State} (h : HalfId) (a n : Nat) (neg : Bool) :
    Keeps 0x1C23C4052C4004 s (after s (execOrPush h a n neg s)) := by
  unfold execOrPush
  try dsimp only
  repeat' first
    | (simp +contextual +decide (maxDischargeDepth := 60) only [after_next, Keeps.refl, ↓keeps_pushOp]; done)
    | simp only [after_next]
    | split

theorem keeps_execXorPush {s : State} (h : HalfId) (a n : Nat) (neg : Bool) :
    Keeps 0x1C23C4052C4004 s (after s (execXorPush h a n neg s)) := by
  unfold execXorPush
  try dsimp only
  repeat' first
    | (simp +contextual +decide (maxDischargeDepth := 60) only [after_next, Keeps.refl, ↓keeps_pushOp]; done)
    | simp only [after_next]
    | split

theorem keeps_execPop {s : State} (h : HalfId) :
    Keeps 0x1C23C4052C4004 s (after s (execPop h s)) := by
  unfold execPop
  try dsimp only
  repeat' first
    | (simp +contextual +decide (maxDischargeDepth := 60) only [after_next, Keeps.refl, ↓keeps_popOp]; done)
    | simp only [after_next]
    | split

theorem keeps_execSt {s : State} (h : HalfId) (a n : Nat) (neg : Bool) :
    Keeps 0x4000000000000 s (after s (execSt h a n neg s)) := by
  unfold execSt
  try dsimp only
  repeat' first
    | (simp +contextual +decide (maxDischargeDepth := 60) only [after_next, Keeps.refl, implies_true, ↓keeps_instr, ↓keeps_writeBit]; done)
    | simp only [after_next]
    | split

theorem keeps_execSet {s : State} (h : HalfId) (a n : Nat) :
    Keeps 0x4000000000000 s (after s (execSet h a n s)) := by
  unfold execSet
  try dsimp only
  repeat' first
    | (simp +contextual +decide (maxDischargeDepth := 60) only [after_next, ↓keeps_ite, Keeps.refl, implies_true, ↓keeps_lput, ↓keeps_instr, ↓keeps_writeBit]; done)
    | simp only [after_next]
    | split

theorem keeps_execRst {s : State} (h : HalfId) (a n : Nat) :
    Keeps 0x4000000000000 s (after s (execRst h a n s)) := by
  unfold execRst
  try dsimp only
  repeat' first
    | (simp +contextual +decide (maxDischargeDepth := 60) only [after_next, ↓keeps_ite, Keeps.refl, implies_true, ↓keeps_lput, ↓keeps_instr, ↓keeps_writeBit]; done)
    | simp only [after_next]
    | split

theorem keeps_edgeOp {ps : Nat} {s0 s : State} (h : HalfId) (n : Nat) (rising : Bool) (hm_ : subParts 0x4000000000000 ps = true)
    (hs_ : Keeps ps s0 s) : Keeps ps s0 (edgeOp s h n rising) := by
  refine Keeps.comp (a := 0x4000000000000) ?_ hm_ hs_
  clear hm_ hs_
  unfold edgeOp
  try dsimp only
  repeat' first
    | (simp +contextual +decide (maxDischargeDepth := 60) only [Keeps.refl, implies_true, ↓keeps_putAcc, ↓keeps_instr, ↓keeps_writeBit]; done)
    | split

theorem keeps_execPedge {s : State} (h : HalfId) (n : Nat) :
    Keeps 0x4000000000000 s (after s (execPedge h n s)) := by
  unfold execPedge
  try dsimp only
  repeat' first
    | (simp +contextual +decide (maxDischargeDepth := 60) only [after_next, Keeps.refl, ↓keeps_edgeOp]; done)
    | simp only [after_next]
    | split

theorem keeps_execNedge {s : State} (h : HalfId) (n : Nat) :
    Keeps 0x4000000000000 s (after s (execNedge h n s)) := by
  unfold execNedge
  try dsimp only
  repeat' first
    | (simp +contextual +decide (maxDischargeDepth := 60) only [after_next, Keeps.refl, ↓keeps_edgeOp]; done)
    | simp only [after_next]
    | split

theorem keeps_timerScan {ps : Nat} {s0 s : State} (h : HalfId) (kind n : Nat) (hm_ : subParts 0x4000000000000 ps = true)
    (hs_ : Keeps ps s0 s) : Keeps ps s0 (timerScan s h kind n) := by
  refine Keeps.comp (a := 0x4000000000000) ?_ hm_ hs_
  clear hm_ hs_
  unfold timerScan
  try dsimp only
  repeat' first
    | (simp +contextual +decide (maxDischargeDepth := 60) only [↓keeps_ite, Keeps.refl, implies_true, ↓keeps_modLge, ↓keeps_lput, ↓keeps_putAcc, ↓keeps_instr]; done)
    | split

theorem keeps_counterScan {ps : Nat} {s0 s : State} (h : HalfId) (up : Bool) (n : Nat) (hm_ : subParts 0x4000000000000 ps = true)
    (hs_ : Keeps ps s0 s) : Keeps ps s0 (counterScan s h up n) := by
  refine Keeps.comp (a := 0x4000000000000) ?_ hm_ hs_
  clear hm_ hs_
  unfold counterScan
  try dsimp only
  repeat' first
    | (simp +contextual +decide (maxDischargeDepth := 60) only [↓keeps_ite, Keeps.refl, implies_true, ↓keeps_lput, ↓keeps_putAcc, ↓keeps_instr]; done)
    | split

theorem keeps_execTon {s : State} (h : HalfId) (n : Nat) :
    Keeps 0x4000000000000 s (after s (execTon h n s)) := by
  unfold execTon
  try dsimp only
  repeat' first
    | (simp +contextual +decide (maxDischargeDepth := 60) only [after_next, Keeps.refl, ↓keeps_timerScan]; done)
    | simp only [after_next]
    | split

theorem keeps_execTof {s : State} (h : HalfId) (n : Nat) :
    Keeps 0x4000000000000 s (after s (execTof h n s)) := by
  unfold execTof
  try dsimp only
  repeat' first
    | (simp +contextual +decide (maxDischargeDepth := 60) only [after_next, Keeps.refl, ↓keeps_timerScan]; done)
    | simp only [after_next]
    | split

theorem keeps_execTp {s : State} (h : HalfId) (n : Nat) :
    Keeps 0x4000000000000 s (after s (execTp h n s)) := by
  unfold execTp
  try dsimp only
  repeat' first
    | (simp +contextual +decide (maxDischargeDepth := 60) only [after_next, Keeps.refl, ↓keeps_timerScan]; done)
    | simp only [after_next]
    | split

theorem keeps_execTonr {s : State} (h : HalfId) (n : Nat) :
    Keeps 0x4000000000000 s (after s (execTonr h n s)) := by
  unfold execTonr
  try dsimp only
  repeat' first
    | (simp +contextual +decide (maxDischargeDepth := 60) only [after_next, Keeps.refl, ↓keeps_timerScan]; done)
    | simp only [after_next]
    | split

theorem keeps_execCtu {s : State} (h : HalfId) (n : Nat) :
    Keeps 0x4000000000000 s (after s (execCtu h n s)) := by
  unfold execCtu
  try dsimp only
  repeat' first
    | (simp +contextual +decide (maxDischargeDepth := 60) only [after_next, Keeps.refl, ↓keeps_counterScan]; done)
    | simp only [after_next]
    | split

theorem keeps_execCtd {s : State} (h : HalfId) (n : Nat) :
    Keeps 0x4000000000000 s (after s (execCtd h n s)) := by
  unfold execCtd
  try dsimp only
  repeat' first
    | (simp +contextual +decide (maxDischargeDepth := 60) only [after_next, Keeps.refl, ↓keeps_counterScan]; done)
    | simp only [after_next]
    | split

theorem keeps_jumpOp {ps : Nat} {s0 s : State} (h : HalfId) (target : Nat) (p : Bool → Bool) (hm_ : subParts 0x1CA3C4052C4004 ps = true)
    (hs_ : Keeps ps s0 s) : Keeps ps s0 (jumpOp s h target p) := by
  refine Keeps.comp (a := 0x1CA3C4052C4004) ?_ hm_ hs_
  clear hm_ hs_
  unfold jumpOp
  try dsimp only
  repeat' first
    | (simp +contextual +decide (maxDischargeDepth := 60) only [↓keeps_ite, Keeps.refl, implies_true, ↓keeps_trace, ↓keeps_putPc, ↓keeps_instr, ↓keeps_stackFault]; done)
    | split

theorem keeps_execJmp {s : State} (h : HalfId) (target : Nat) :
    Keeps 0x1CA3C4052C4004 s (after s (execJmp h target s)) := by
  unfold execJmp
  try dsimp only
  repeat' first
    | (simp +contextual +decide (maxDischargeDepth := 60) only [after_next, Keeps.refl, ↓keeps_jumpOp]; done)
    | simp only [after_next]
    | split

theorem keeps_execJmpc {s : State} (h : HalfId) (target : Nat) :
    Keeps 0x1CA3C4052C4004 s (after s (execJmpc h target s)) := by
  unfold execJmpc
  try dsimp only
  repeat' first
    | (simp +contextual +decide (maxDischargeDepth := 60) only [after_next, Keeps.refl, ↓keeps_jumpOp]; done)
    | simp only [after_next]
    | split

theorem keeps_execJmpcn {s : State} (h : HalfId) (target : Nat) :
    Keeps 0x1CA3C4052C4004 s (after s (execJmpcn h target s)) := by
  unfold execJmpcn
  try dsimp only
  repeat' first
    | (simp +contextual +decide (maxDischargeDepth := 60) only [after_next, Keeps.refl, ↓keeps_jumpOp]; done)
    | simp only [after_next]
    | split

theorem keeps_retCommit {ps : Nat} {s0 s : State} (h : HalfId) (hm_ : subParts 0x4010000004000 ps = true)
    (hs_ : Keeps ps s0 s) : Keeps ps s0 (retCommit s h) := by
  refine Keeps.comp (a := 0x4010000004000) ?_ hm_ hs_
  clear hm_ hs_
  unfold retCommit
  try dsimp only
  repeat' first
    | (simp +contextual +decide (maxDischargeDepth := 60) only [↓keeps_ite, Keeps.refl, ↓keeps_startCommit, ↓keeps_modLge, ↓keeps_wrB, Reg.LGE_RET_PENDING]; done)
    | split

theorem keeps_copySend {ps : Nat} {s0 s : State} (h : HalfId) (hm_ : subParts 0x4000000000000 ps = true)
    (hs_ : Keeps ps s0 s) : Keeps ps s0 (copySend s h) := by
  refine Keeps.comp (a := 0x4000000000000) ?_ hm_ hs_
  clear hm_ hs_
  unfold copySend
  try dsimp only
  repeat' first
    | (simp +contextual +decide (maxDischargeDepth := 60) only [↓keeps_ite, Keeps.refl, ↓keeps_modLge]; done)
    | split

theorem keeps_sweepSend {ps : Nat} {s0 s : State} (h : HalfId) (hm_ : subParts 0x4000000000000 ps = true)
    (hs_ : Keeps ps s0 s) : Keeps ps s0 (sweepSend s h) := by
  refine Keeps.comp (a := 0x4000000000000) ?_ hm_ hs_
  clear hm_ hs_
  unfold sweepSend
  try dsimp only
  repeat' first
    | (simp +contextual +decide (maxDischargeDepth := 60) only [↓keeps_ite, Keeps.refl, ↓keeps_modLge]; done)
    | split

theorem keeps_lsEqual {ps : Nat} {s0 s : State} (h : HalfId) (e f : Nat × Nat × Nat) (hm_ : subParts 0x1FF7CD07ECEE45 ps = true)
    (hs_ : Keeps ps s0 s) : Keeps ps s0 (lsEqual s h e f) := by
  refine Keeps.comp (a := 0x1FF7CD07ECEE45) ?_ hm_ hs_
  clear hm_ hs_
  unfold lsEqual
  try dsimp only
  repeat' first
    | (simp +contextual +decide (maxDischargeDepth := 60) only [↓keeps_ite, Keeps.refl, ↓keeps_lockstepResume, ↓keeps_lsMismatch]; done)
    | split

theorem keeps_lsCompare {ps : Nat} {s0 s : State} (h : HalfId) (hm_ : subParts 0x1FF7CD07ECEE45 ps = true)
    (hs_ : Keeps ps s0 s) : Keeps ps s0 (lsCompare s h) := by
  refine Keeps.comp (a := 0x1FF7CD07ECEE45) ?_ hm_ hs_
  clear hm_ hs_
  unfold lsCompare
  try dsimp only
  repeat' first
    | (simp +contextual +decide (maxDischargeDepth := 60) only [↓keeps_ite, Keeps.refl, ↓keeps_modLge, ↓keeps_lsEqual]; done)
    | split

theorem keeps_lsAtEnd {ps : Nat} {s0 s : State} (h : HalfId) (task : Nat) (hm_ : subParts 0x1FF7CD07ECEE45 ps = true)
    (hs_ : Keeps ps s0 s) : Keeps ps s0 (lsAtEnd s h task) := by
  refine Keeps.comp (a := 0x1FF7CD07ECEE45) ?_ hm_ hs_
  clear hm_ hs_
  unfold lsAtEnd
  try dsimp only
  repeat' first
    | (simp +contextual +decide (maxDischargeDepth := 60) only [↓keeps_ite, Keeps.refl, ↓keeps_modLge, ↓keeps_copySend, ↓keeps_sweepSend, ↓keeps_lsCompare]; done)
    | split

theorem keeps_taskEnd {ps : Nat} {s0 s : State} (h : HalfId) (r : TaskRec) (hm_ : subParts 0x1FF7CD07ECEE45 ps = true)
    (hs_ : Keeps ps s0 s) : Keeps ps s0 (taskEnd s h r) := by
  refine Keeps.comp (a := 0x1FF7CD07ECEE45) ?_ hm_ hs_
  clear hm_ hs_
  unfold taskEnd
  try dsimp only
  repeat' first
    | (simp +contextual +decide (maxDischargeDepth := 60) only [Keeps.refl, ↓keeps_trace, ↓keeps_modLge, ↓keeps_lput, ↓keeps_dispatch, ↓keeps_retCommit, ↓keeps_lsAtEnd, ↓keeps_wr, Reg.LGE_TEXEC_LAST, Reg.LGE_TEXEC_MAX, fits_bank]; done)
    | split

theorem keeps_execEndTask {s : State} (h : HalfId) :
    Keeps 0x1FF7CD07ECEE45 s (after s (execEndTask h s)) := by
  unfold execEndTask
  try dsimp only
  repeat' first
    | (simp +contextual +decide (maxDischargeDepth := 60) only [after_next, ↓keeps_ite, Keeps.refl, ↓keeps_stackFault, ↓keeps_taskEnd]; done)
    | simp only [after_next]
    | split

theorem keeps_taskLatch {ps : Nat} {s0 s : State} (h : HalfId) (hm_ : subParts 0x4000 ps = true)
    (hs_ : Keeps ps s0 s) : Keeps ps s0 (taskLatch s h) := by
  refine Keeps.comp (a := 0x4000) ?_ hm_ hs_
  clear hm_ hs_
  unfold taskLatch
  try dsimp only
  repeat' first
    | (simp +contextual +decide (maxDischargeDepth := 60) only [Keeps.refl, ↓keeps_setWord, Reg.LGE_TEXEC_MAX, Reg.LGE_TINFO_DEFINED, Reg.LGE_TRELS_MISSED, fits_bank]; done)
    | split

end Sys2Proof.Machine
end

