-- ==== Sys2Proof/Laws/KeepsGavel.lean ====
section
/-!
SUPPORT. `Keeps` for the operations of Machine/Gavel.lean: the parts each may change.
-/

namespace Sys2Proof.Machine

open Sys2Proof (HalfId Instr Byte Word Accessor)

theorem keeps_modGav {ps : Nat} {s0 s : State} (h : HalfId) (f : GavelRun → GavelRun) (hm_ : subParts 0x8000000000000 ps = true)
    (hs_ : Keeps ps s0 s) : Keeps ps s0 (modGav s h f) := by
  refine Keeps.comp (a := 0x8000000000000) ?_ hm_ hs_
  clear hm_ hs_
  unfold modGav
  try dsimp only
  repeat' first
    | (simp +contextual +decide (maxDischargeDepth := 60) only [Keeps.refl, ↓keeps_half_gav]; done)
    | split

theorem keeps_modRounds {ps : Nat} {s0 s : State} (f : GavelRounds → GavelRounds) (hm_ : subParts 0x200000000 ps = true)
    (hs_ : Keeps ps s0 s) : Keeps ps s0 (modRounds s f) := by
  refine Keeps.comp (a := 0x200000000) ?_ hm_ hs_
  clear hm_ hs_
  unfold modRounds
  try dsimp only
  repeat' first
    | (simp +contextual +decide (maxDischargeDepth := 60) only [Keeps.refl, ↓keeps_die_gavel]; done)
    | split

theorem keeps_putMon {ps : Nat} {s0 s : State} (m : Nat) (hm_ : subParts 0x80000000 ps = true)
    (hs_ : Keeps ps s0 s) : Keeps ps s0 (putMon s m) := by
  refine Keeps.comp (a := 0x80000000) ?_ hm_ hs_
  clear hm_ hs_
  unfold putMon
  try dsimp only
  repeat' first
    | (simp +contextual +decide (maxDischargeDepth := 60) only [Keeps.refl, ↓keeps_die_mon]; done)
    | split

theorem keeps_stepTen {ps : Nat} {s0 s : State} (h : HalfId) (hm_ : subParts 0x1 ps = true)
    (hs_ : Keeps ps s0 s) : Keeps ps s0 (stepTen s h) := by
  refine Keeps.comp (a := 0x1) ?_ hm_ hs_
  clear hm_ hs_
  unfold stepTen
  try dsimp only
  repeat' first
    | (simp +contextual +decide (maxDischargeDepth := 60) only [Keeps.refl, ↓keeps_wr, Reg.SYS_MODE_BOOT_STEP]; done)
    | split

theorem keeps_traceGavel {ps : Nat} {s0 s : State} (h : HalfId) (cause : Nat) (hm_ : subParts 0x800004000000 ps = true)
    (hs_ : Keeps ps s0 s) : Keeps ps s0 (traceGavel s h cause) := by
  refine Keeps.comp (a := 0x800004000000) ?_ hm_ hs_
  clear hm_ hs_
  unfold traceGavel
  try dsimp only
  repeat' first
    | (simp +contextual +decide (maxDischargeDepth := 60) only [Keeps.refl, ↓keeps_trace]; done)
    | split

theorem keeps_takeoverLogic {ps : Nat} {s0 s : State} (h : HalfId) (hm_ : subParts 0x1423C4052C4000 ps = true)
    (hs_ : Keeps ps s0 s) : Keeps ps s0 (takeoverLogic s h) := by
  refine Keeps.comp (a := 0x1423C4052C4000) ?_ hm_ hs_
  clear hm_ hs_
  unfold takeoverLogic
  try dsimp only
  repeat' first
    | (simp +contextual +decide (maxDischargeDepth := 60) only [↓keeps_ite, Keeps.refl, ↓keeps_ledgerH, ↓keeps_modLge, ↓keeps_logicEnd]; done)
    | split

theorem keeps_announce {ps : Nat} {s0 s : State} (h : HalfId) (hm_ : subParts 0x400000000000 ps = true)
    (hs_ : Keeps ps s0 s) : Keeps ps s0 (announce s h) := by
  refine Keeps.comp (a := 0x400000000000) ?_ hm_ hs_
  clear hm_ hs_
  unfold announce
  try dsimp only
  repeat' first
    | (simp +contextual +decide (maxDischargeDepth := 60) only [Keeps.refl, ↓keeps_half_mgmt]; done)
    | split

theorem keeps_becomeLeader {ps : Nat} {s0 s : State} (h : HalfId) (hm_ : subParts 0x1CE3C6052C4805 ps = true)
    (hs_ : Keeps ps s0 s) : Keeps ps s0 (becomeLeader s h) := by
  refine Keeps.comp (a := 0x1CE3C6052C4805) ?_ hm_ hs_
  clear hm_ hs_
  unfold becomeLeader
  try dsimp only
  repeat' first
    | (simp +contextual +decide (maxDischargeDepth := 60) only [↓keeps_foldl, ↓keeps_ite, Keeps.refl, implies_true, ↓keeps_satAdd, ↓keeps_ledgerH, ↓keeps_modLge, ↓keeps_modGav, ↓keeps_modRounds, ↓keeps_stepTen, ↓keeps_traceGavel, ↓keeps_takeoverLogic, ↓keeps_announce, ↓keeps_wr, ↓keeps_wrB, Reg.GAV_COUNT_SWITCHOVERS, Reg.GAV_LAST_CAUSE, Reg.GAV_LAST_GAP, Reg.GAV_LS_STAT_STATE, Reg.GAV_STAT_ACTING, Reg.GAV_STAT_NO_LEADER, Reg.TRM_CELL_STAT_NO_LEADER]; done)
    | split

theorem keeps_loseLeader {ps : Nat} {s0 s : State} (h : HalfId) (hm_ : subParts 0x10A38E0526000D ps = true)
    (hs_ : Keeps ps s0 s) : Keeps ps s0 (loseLeader s h) := by
  refine Keeps.comp (a := 0x10A38E0526000D) ?_ hm_ hs_
  clear hm_ hs_
  unfold loseLeader
  try dsimp only
  repeat' first
    | (simp +contextual +decide (maxDischargeDepth := 60) only [↓keeps_ite, Keeps.refl, ↓keeps_imgAbort, ↓keeps_pendAbort, ↓keeps_setAbort, ↓keeps_modRounds, ↓keeps_traceGavel, ↓keeps_wrB, Reg.GAV_STAT_ACTING]; done)
    | split

theorem keeps_actUpdate {ps : Nat} {s0 s : State} (h : HalfId) (hm_ : subParts 0x1CE3CE052E480D ps = true)
    (hs_ : Keeps ps s0 s) : Keeps ps s0 (actUpdate s h) := by
  refine Keeps.comp (a := 0x1CE3CE052E480D) ?_ hm_ hs_
  clear hm_ hs_
  unfold actUpdate
  try dsimp only
  repeat' first
    | (simp +contextual +decide (maxDischargeDepth := 60) only [↓keeps_ite, Keeps.refl, ↓keeps_becomeLeader, ↓keeps_loseLeader]; done)
    | split

theorem keeps_noLeader {ps : Nat} {s0 s : State} (c : Nat) (by_ : List HalfId) (hm_ : subParts 0x1023C7012C2804 ps = true)
    (hs_ : Keeps ps s0 s) : Keeps ps s0 (noLeader s c by_) := by
  refine Keeps.comp (a := 0x1023C7012C2804) ?_ hm_ hs_
  clear hm_ hs_
  unfold noLeader
  try dsimp only
  repeat' first
    | (simp +contextual +decide (maxDischargeDepth := 60) only [↓keeps_foldl, ↓keeps_ite, Keeps.refl, implies_true, ↓keeps_ledgerH, ↓keeps_modIo, ↓keeps_closeCommandsOff, ↓keeps_modRounds, ↓keeps_wrB, Reg.GAV_STAT_NO_LEADER, Reg.TRM_CELL_STAT_NO_LEADER]; done)
    | split

theorem keeps_release {ps : Nat} {s0 s : State} (h : HalfId) (hm_ : subParts 0x18A38E8526000D ps = true)
    (hs_ : Keeps ps s0 s) : Keeps ps s0 (release s h) := by
  refine Keeps.comp (a := 0x18A38E8526000D) ?_ hm_ hs_
  clear hm_ hs_
  unfold release
  try dsimp only
  repeat' first
    | (simp +contextual +decide (maxDischargeDepth := 60) only [↓keeps_ite, Keeps.refl, ↓keeps_modGav, ↓keeps_putMon, ↓keeps_loseLeader, ↓keeps_wrB, Reg.GAV_STAT_GRANT, Reg.GAV_STAT_REQ]; done)
    | split

theorem keeps_execNoLeaderTimeout {s : State}  :
    Keeps 0x1023C7012C2804 s (after s (execNoLeaderTimeout s)) := by
  unfold execNoLeaderTimeout
  try dsimp only
  repeat' first
    | (simp +contextual +decide (maxDischargeDepth := 60) only [after_next, ↓keeps_ite, Keeps.refl, ↓keeps_noLeader, Reg.TRM_CELL_STAT_NO_LEADER]; done)
    | simp only [after_next]
    | split

theorem keeps_execGavelDisagree {s : State} (h : HalfId) (case_ : Nat) :
    Keeps 0x18A3CF852E280D s (after s (execGavelDisagree h case_ s)) := by
  unfold execGavelDisagree
  try dsimp only
  repeat' first
    | (simp +contextual +decide (maxDischargeDepth := 60) only [after_next, ↓keeps_foldl, ↓keeps_ite, Keeps.refl, implies_true, ↓keeps_putMon, ↓keeps_loseLeader, ↓keeps_noLeader, ↓keeps_release]; done)
    | simp only [after_next]
    | split

theorem keeps_lclEnter {ps : Nat} {s0 s : State} (n : Nat) (hm_ : subParts 0x1023C7012C2004 ps = true)
    (hs_ : Keeps ps s0 s) : Keeps ps s0 (lclEnter s n) := by
  refine Keeps.comp (a := 0x1023C7012C2004) ?_ hm_ hs_
  clear hm_ hs_
  unfold lclEnter
  try dsimp only
  repeat' first
    | (simp +contextual +decide (maxDischargeDepth := 60) only [↓keeps_foldl, Keeps.refl, implies_true, ↓keeps_ledgerH, ↓keeps_modIo, ↓keeps_closeCommandsOff, ↓keeps_leaderSafe, ↓keeps_modRounds, ↓keeps_wrB, Reg.GAV_STAT_LCL, Reg.GAV_STAT_REQ]; done)
    | split

theorem keeps_execRoundTimeout {s : State}  :
    Keeps 0x1023C7012C2004 s (after s (execRoundTimeout s)) := by
  unfold execRoundTimeout
  try dsimp only
  repeat' first
    | (simp +contextual +decide (maxDischargeDepth := 60) only [after_next, ↓keeps_foldl, ↓keeps_ite, Keeps.refl, implies_true, ↓keeps_satAdd, ↓keeps_ledgerH, ↓keeps_modRounds, ↓keeps_lclEnter, Reg.GAV_COUNT_ROUNDS_FAILED]; done)
    | simp only [after_next]
    | split

theorem keeps_request {ps : Nat} {s0 s : State} (h : HalfId) (cause : Nat) (hm_ : subParts 0x200000004 ps = true)
    (hs_ : Keeps ps s0 s) : Keeps ps s0 (request s h cause) := by
  refine Keeps.comp (a := 0x200000004) ?_ hm_ hs_
  clear hm_ hs_
  unfold request
  try dsimp only
  repeat' first
    | (simp +contextual +decide (maxDischargeDepth := 60) only [Keeps.refl, ↓keeps_modRounds, ↓keeps_wrB, Reg.GAV_STAT_REQ]; done)
    | split

theorem keeps_execGavelRequestTimer {s : State} (h : HalfId) :
    Keeps 0x200000004 s (after s (execGavelRequestTimer h s)) := by
  unfold execGavelRequestTimer
  try dsimp only
  repeat' first
    | (simp +contextual +decide (maxDischargeDepth := 60) only [after_next, ↓keeps_ite, Keeps.refl, ↓keeps_request, Reg.GAV_LS_STAT_DEGRADED, Reg.GAV_STAT_REQ, Reg.SYS_MODE_BOOT_STEP]; done)
    | simp only [after_next]
    | split

theorem keeps_execGavelGrant {s : State} (h : HalfId) :
    Keeps 0x1CE3CE852E481D s (after s (execGavelGrant h s)) := by
  unfold execGavelGrant
  try dsimp only
  repeat' first
    | (simp +contextual +decide (maxDischargeDepth := 60) only [after_next, ↓keeps_foldl, Keeps.refl, implies_true, ↓keeps_putMon, ↓keeps_actUpdate, ↓keeps_wr, ↓keeps_wrB, Reg.GAV_STAT_GRANT, Reg.GAV_STAT_REQ, Reg.SMP_SYNC_STAT_DRIVER]; done)
    | simp only [after_next]
    | split

theorem keeps_execGavelCancel {s : State}  :
    Keeps 0x10A38F8526000D s (after s (execGavelCancel s)) := by
  unfold execGavelCancel
  try dsimp only
  repeat' first
    | (simp +contextual +decide (maxDischargeDepth := 60) only [after_next, ↓keeps_ite, Keeps.refl, ↓keeps_modIo, ↓keeps_putMon, ↓keeps_loseLeader, ↓keeps_wr, ↓keeps_wrB, Reg.GAV_STAT_GRANT, Reg.GAV_STAT_HOLDER_STROBE, Reg.GAV_STAT_REQ, Reg.SYS_LOCKOUT_PRESENT]; done)
    | simp only [after_next]
    | split

theorem keeps_startReload {ps : Nat} {s0 s : State}  (hm_ : subParts 0x4000000000004 ps = true)
    (hs_ : Keeps ps s0 s) : Keeps ps s0 (startReload s) := by
  refine Keeps.comp (a := 0x4000000000004) ?_ hm_ hs_
  clear hm_ hs_
  unfold startReload
  try dsimp only
  repeat' first
    | (simp +contextual +decide (maxDischargeDepth := 60) only [↓keeps_foldl, Keeps.refl, implies_true, ↓keeps_modLge, ↓keeps_wr, Reg.GAV_LS_STAT_STATE]; done)
    | split

theorem keeps_endLockstep {ps : Nat} {s0 s : State}  (hm_ : subParts 0x4000000000004 ps = true)
    (hs_ : Keeps ps s0 s) : Keeps ps s0 (endLockstep s) := by
  refine Keeps.comp (a := 0x4000000000004) ?_ hm_ hs_
  clear hm_ hs_
  unfold endLockstep
  try dsimp only
  repeat' first
    | (simp +contextual +decide (maxDischargeDepth := 60) only [↓keeps_foldl, Keeps.refl, implies_true, ↓keeps_modLge, ↓keeps_wr, Reg.GAV_LS_STAT_STATE]; done)
    | split

theorem keeps_linkDown {ps : Nat} {s0 s : State} (h : HalfId) (hm_ : subParts 0x1C23C4012C0044 ps = true)
    (hs_ : Keeps ps s0 s) : Keeps ps s0 (linkDown s h) := by
  refine Keeps.comp (a := 0x1C23C4012C0044) ?_ hm_ hs_
  clear hm_ hs_
  unfold linkDown
  try dsimp only
  repeat' first
    | (simp +contextual +decide (maxDischargeDepth := 60) only [Keeps.refl, ↓keeps_ledgerH, ↓keeps_tallySet, ↓keeps_tallyPartner, ↓keeps_modGav, ↓keeps_endLockstep, ↓keeps_wrB, Reg.GAV_XL_STAT_CRC_ERR, Reg.GAV_XL_STAT_RETRANS, Reg.GAV_XL_STAT_UP]; done)
    | split

theorem keeps_execXlAckTimeout {s : State} (h : HalfId) :
    Keeps 0x1C23C4012C0044 s (after s (execXlAckTimeout h s)) := by
  unfold execXlAckTimeout
  try dsimp only
  repeat' first
    | (simp +contextual +decide (maxDischargeDepth := 60) only [after_next, ↓keeps_ite, Keeps.refl, ↓keeps_linkDown]; done)
    | simp only [after_next]
    | split

theorem keeps_linkErrors {ps : Nat} {s0 s : State} (h : HalfId) (n : Nat) (hm_ : subParts 0x1823C4012C0000 ps = true)
    (hs_ : Keeps ps s0 s) : Keeps ps s0 (linkErrors s h n) := by
  refine Keeps.comp (a := 0x1823C4012C0000) ?_ hm_ hs_
  clear hm_ hs_
  unfold linkErrors
  try dsimp only
  repeat' first
    | (simp +contextual +decide (maxDischargeDepth := 60) only [Keeps.refl, ↓keeps_tallySet, ↓keeps_modGav]; done)
    | split

theorem keeps_execXlRetransmit {s : State} (h : HalfId) (errors : Nat) :
    Keeps 0x1C23C4012C0044 s (after s (execXlRetransmit h errors s)) := by
  unfold execXlRetransmit
  try dsimp only
  repeat' first
    | (simp +contextual +decide (maxDischargeDepth := 60) only [after_next, ↓keeps_ite, Keeps.refl, ↓keeps_satAdd, ↓keeps_modGav, ↓keeps_linkDown, ↓keeps_linkErrors, Reg.GAV_XL_STAT_CRC_ERR, Reg.GAV_XL_STAT_RETRANS]; done)
    | simp only [after_next]
    | split

theorem keeps_execXlUp {s : State} (h : HalfId) :
    Keeps 0x1423C4012C0044 s (after s (execXlUp h s)) := by
  unfold execXlUp
  try dsimp only
  repeat' first
    | (simp +contextual +decide (maxDischargeDepth := 60) only [after_next, ↓keeps_ite, Keeps.refl, ↓keeps_ledgerH, ↓keeps_tallySet, ↓keeps_tallyPartner, ↓keeps_startReload, ↓keeps_wrB, Reg.GAV_XL_STAT_CRC_ERR, Reg.GAV_XL_STAT_RETRANS, Reg.GAV_XL_STAT_UP]; done)
    | simp only [after_next]
    | split

theorem keeps_holdTick {ps : Nat} {s0 s : State} (h : HalfId) (hm_ : subParts 0x8000000000004 ps = true)
    (hs_ : Keeps ps s0 s) : Keeps ps s0 (holdTick s h) := by
  refine Keeps.comp (a := 0x8000000000004) ?_ hm_ hs_
  clear hm_ hs_
  unfold holdTick
  try dsimp only
  repeat' first
    | (simp +contextual +decide (maxDischargeDepth := 60) only [↓keeps_ite, Keeps.refl, ↓keeps_modGav, ↓keeps_wr, Reg.GAV_RETURN_HOLDOFF_REMAIN]; done)
    | split

theorem keeps_outTick {ps : Nat} {s0 s : State} (h : HalfId) (hm_ : subParts 0x1823C4012C0000 ps = true)
    (hs_ : Keeps ps s0 s) : Keeps ps s0 (outTick s h) := by
  refine Keeps.comp (a := 0x1823C4012C0000) ?_ hm_ hs_
  clear hm_ hs_
  unfold outTick
  try dsimp only
  repeat' first
    | (simp +contextual +decide (maxDischargeDepth := 60) only [Keeps.refl, ↓keeps_tallySet, ↓keeps_modGav]; done)
    | split

theorem keeps_hourTick {ps : Nat} {s0 s : State} (h : HalfId) (hm_ : subParts 0x4 ps = true)
    (hs_ : Keeps ps s0 s) : Keeps ps s0 (hourTick s h) := by
  refine Keeps.comp (a := 0x4) ?_ hm_ hs_
  clear hm_ hs_
  unfold hourTick
  try dsimp only
  repeat' first
    | (simp +contextual +decide (maxDischargeDepth := 60) only [Keeps.refl, ↓keeps_wr, Reg.GAV_LS_STAT_DIVERGE, Reg.GAV_RETURN_REVERSIONS]; done)
    | split

theorem keeps_execHeartbeatSend {s : State} (h : HalfId) :
    Keeps 0x1823C4012C0004 s (after s (execHeartbeatSend h s)) := by
  unfold execHeartbeatSend
  try dsimp only
  repeat' first
    | (simp +contextual +decide (maxDischargeDepth := 60) only [after_next, ↓keeps_foldl, ↓keeps_ite, Keeps.refl, implies_true, ↓keeps_satAdd, ↓keeps_modGav, ↓keeps_linkErrors, ↓keeps_holdTick, ↓keeps_outTick, ↓keeps_hourTick, ↓keeps_wrB, Reg.GAV_STAT_HOLDER_STROBE, Reg.GAV_STAT_REQ, Reg.GAV_XL_STAT_HB_MISSED]; done)
    | simp only [after_next]
    | split

theorem keeps_execHeartbeat {s : State} (h : HalfId) (acked : Bool) :
    Keeps 0x1CE3CE052E484D s (after s (execHeartbeat h acked s)) := by
  unfold execHeartbeat
  try dsimp only
  repeat' first
    | (simp +contextual +decide (maxDischargeDepth := 60) only [after_next, Keeps.refl, ↓keeps_tallyPartner, ↓keeps_modGav, ↓keeps_stepTen, ↓keeps_actUpdate, ↓keeps_startReload, ↓keeps_wr, Reg.GAV_STAT_PARTNER_ROLE]; done)
    | simp only [after_next]
    | split

theorem keeps_execPartnerHeartbeatLoss {s : State} (h : HalfId) :
    Keeps 0x8000000000000 s (after s (execPartnerHeartbeatLoss h s)) := by
  unfold execPartnerHeartbeatLoss
  try dsimp only
  repeat' first
    | (simp +contextual +decide (maxDischargeDepth := 60) only [after_next, ↓keeps_ite, Keeps.refl, ↓keeps_modGav]; done)
    | simp only [after_next]
    | split

theorem keeps_execProbe {s : State} (h : HalfId) :
    Keeps 0x8000000000000 s (after s (execProbe h s)) := by
  unfold execProbe
  try dsimp only
  repeat' first
    | (simp +contextual +decide (maxDischargeDepth := 60) only [after_next, ↓keeps_ite, Keeps.refl, ↓keeps_modGav]; done)
    | simp only [after_next]
    | split

theorem keeps_execProbeReply {s : State} (h : HalfId) :
    Keeps 0x8000000000000 s (after s (execProbeReply h s)) := by
  unfold execProbeReply
  try dsimp only
  repeat' first
    | (simp +contextual +decide (maxDischargeDepth := 60) only [after_next, ↓keeps_ite, Keeps.refl, ↓keeps_modGav]; done)
    | simp only [after_next]
    | split

theorem keeps_execLossConfirm {s : State} (h : HalfId) (strobe : Bool) :
    Keeps 0x1C23C6012C0044 s (after s (execLossConfirm h strobe s)) := by
  unfold execLossConfirm
  try dsimp only
  repeat' first
    | (simp +contextual +decide (maxDischargeDepth := 60) only [after_next, Keeps.refl, ↓keeps_ledgerH, ↓keeps_tallyPartner, ↓keeps_modGav, ↓keeps_request, ↓keeps_endLockstep, ↓keeps_linkDown, ↓keeps_wr, ↓keeps_wrB, Reg.GAV_LS_STAT_DEGRADED, Reg.GAV_LS_STAT_STATE, Reg.GAV_STAT_HOLDER_STROBE, Reg.GAV_STAT_PARTNER_ROLE]; done)
    | simp only [after_next]
    | split

theorem keeps_gavResult {ps : Nat} {s0 s : State} (h : HalfId) (c st : Nat) (hm_ : subParts 0x4 ps = true)
    (hs_ : Keeps ps s0 s) : Keeps ps s0 (gavResult s h c st) := by
  refine Keeps.comp (a := 0x4) ?_ hm_ hs_
  clear hm_ hs_
  unfold gavResult
  try dsimp only
  repeat' first
    | (simp +contextual +decide (maxDischargeDepth := 60) only [Keeps.refl, ↓keeps_result, Reg.GAV_RESULT_CMD, Reg.GAV_RESULT_SEQ, Reg.GAV_RESULT_STATUS]; done)
    | split

theorem keeps_clearLcl {ps : Nat} {s0 s : State} (h : HalfId) (hm_ : subParts 0x10238701240004 ps = true)
    (hs_ : Keeps ps s0 s) : Keeps ps s0 (clearLcl s h) := by
  refine Keeps.comp (a := 0x10238701240004) ?_ hm_ hs_
  clear hm_ hs_
  unfold clearLcl
  try dsimp only
  repeat' first
    | (simp +contextual +decide (maxDischargeDepth := 60) only [↓keeps_foldl, Keeps.refl, implies_true, ↓keeps_ledgerH, ↓keeps_modIo, ↓keeps_modRounds, ↓keeps_wrB, Reg.GAV_STAT_LCL]; done)
    | split

theorem keeps_clearDegraded {ps : Nat} {s0 s : State} (x : HalfId) (hm_ : subParts 0x1023C4012C0004 ps = true)
    (hs_ : Keeps ps s0 s) : Keeps ps s0 (clearDegraded s x) := by
  refine Keeps.comp (a := 0x1023C4012C0004) ?_ hm_ hs_
  clear hm_ hs_
  unfold clearDegraded
  try dsimp only
  repeat' first
    | (simp +contextual +decide (maxDischargeDepth := 60) only [Keeps.refl, ↓keeps_ledgerH, ↓keeps_tallySet, ↓keeps_wrB, Reg.GAV_LS_STAT_DEGRADED]; done)
    | split

theorem keeps_gavCmd {ps : Nat} {s0 s : State} (h : HalfId) (c : Nat) (hm_ : subParts 0x1823C7012C0004 ps = true)
    (hs_ : Keeps ps s0 s) : Keeps ps s0 (gavCmd s h c) := by
  refine Keeps.comp (a := 0x1823C7012C0004) ?_ hm_ hs_
  clear hm_ hs_
  unfold gavCmd
  try dsimp only
  repeat' first
    | (simp +contextual +decide (maxDischargeDepth := 60) only [↓keeps_foldl, ↓keeps_ite, Keeps.refl, implies_true, ↓keeps_modGav, ↓keeps_request, ↓keeps_gavResult, ↓keeps_clearLcl, ↓keeps_clearDegraded, ↓keeps_wrB, Reg.GAV_RETURN_SUSPENDED]; done)
    | split

theorem keeps_execHandoverCmd {s : State} (h : HalfId) :
    Keeps 0x1823C7012C0004 s (after s (execHandoverCmd h s)) := by
  unfold execHandoverCmd
  try dsimp only
  repeat' first
    | (simp +contextual +decide (maxDischargeDepth := 60) only [after_next, Keeps.refl, ↓keeps_access, ↓keeps_gavCmd]; done)
    | simp only [after_next]
    | split

theorem keeps_execTakeover {s : State} (h : HalfId) :
    Keeps 0x1823C7012C0004 s (after s (execTakeover h s)) := by
  unfold execTakeover
  try dsimp only
  repeat' first
    | (simp +contextual +decide (maxDischargeDepth := 60) only [after_next, Keeps.refl, ↓keeps_access, ↓keeps_gavCmd]; done)
    | simp only [after_next]
    | split

theorem keeps_execClearLcl {s : State} (h : HalfId) :
    Keeps 0x1823C7012C0004 s (after s (execClearLcl h s)) := by
  unfold execClearLcl
  try dsimp only
  repeat' first
    | (simp +contextual +decide (maxDischargeDepth := 60) only [after_next, Keeps.refl, ↓keeps_access, ↓keeps_gavCmd]; done)
    | simp only [after_next]
    | split

theorem keeps_execAckReturn {s : State} (h : HalfId) :
    Keeps 0x1823C7012C0004 s (after s (execAckReturn h s)) := by
  unfold execAckReturn
  try dsimp only
  repeat' first
    | (simp +contextual +decide (maxDischargeDepth := 60) only [after_next, Keeps.refl, ↓keeps_access, ↓keeps_gavCmd]; done)
    | simp only [after_next]
    | split

theorem keeps_execClearDegraded {s : State} (h : HalfId) :
    Keeps 0x1823C7012C0004 s (after s (execClearDegraded h s)) := by
  unfold execClearDegraded
  try dsimp only
  repeat' first
    | (simp +contextual +decide (maxDischargeDepth := 60) only [after_next, Keeps.refl, ↓keeps_access, ↓keeps_gavCmd]; done)
    | simp only [after_next]
    | split

theorem keeps_execHandover {s : State} (h : HalfId) :
    Keeps 0x4 s (after s (execHandover h s)) := by
  unfold execHandover
  try dsimp only
  repeat' first
    | (simp +contextual +decide (maxDischargeDepth := 60) only [after_next, ↓keeps_ite, Keeps.refl, ↓keeps_wrB, Reg.GAV_STAT_REQ]; done)
    | simp only [after_next]
    | split

theorem keeps_reversion {ps : Nat} {s0 s : State} (h : HalfId) (hm_ : subParts 0x18238401240004 ps = true)
    (hs_ : Keeps ps s0 s) : Keeps ps s0 (reversion s h) := by
  refine Keeps.comp (a := 0x18238401240004) ?_ hm_ hs_
  clear hm_ hs_
  unfold reversion
  try dsimp only
  repeat' first
    | (simp +contextual +decide (maxDischargeDepth := 60) only [↓keeps_foldl, ↓keeps_ite, Keeps.refl, implies_true, ↓keeps_ledgerH, ↓keeps_modGav, ↓keeps_wr, ↓keeps_wrB, Reg.GAV_RETURN_REVERSIONS, Reg.GAV_RETURN_SUSPENDED]; done)
    | split

theorem keeps_execHandoverBoundary {s : State} (h : HalfId) :
    Keeps 0x1EF7CF85EEAC0D s (after s (execHandoverBoundary h s)) := by
  unfold execHandoverBoundary
  try dsimp only
  repeat' first
    | (simp +contextual +decide (maxDischargeDepth := 60) only [after_next, ↓keeps_foldl, ↓keeps_ite, Keeps.refl, implies_true, ↓keeps_satAdd, ↓keeps_ledgerH, ↓keeps_modIo, ↓keeps_publishLogic, ↓keeps_modGav, ↓keeps_modRounds, ↓keeps_release, ↓keeps_startReload, ↓keeps_gavResult, ↓keeps_reversion, ↓keeps_wr, Reg.GAV_COUNT_HANDOVERS, Reg.GAV_RESULT_STATUS, Reg.GAV_STAT_REQ]; done)
    | simp only [after_next]
    | split

theorem keeps_handoverAbandon {ps : Nat} {s0 s : State} (h : HalfId) (hm_ : subParts 0x8000000000004 ps = true)
    (hs_ : Keeps ps s0 s) : Keeps ps s0 (handoverAbandon s h) := by
  refine Keeps.comp (a := 0x8000000000004) ?_ hm_ hs_
  clear hm_ hs_
  unfold handoverAbandon
  try dsimp only
  repeat' first
    | (simp +contextual +decide (maxDischargeDepth := 60) only [↓keeps_ite, Keeps.refl, ↓keeps_modGav, ↓keeps_gavResult, ↓keeps_wr, ↓keeps_wrB, Reg.GAV_RESULT_STATUS, Reg.GAV_STAT_REQ]; done)
    | split

theorem keeps_execHandoverAbandon {s : State} (h : HalfId) :
    Keeps 0x8000000000004 s (after s (execHandoverAbandon h s)) := by
  unfold execHandoverAbandon
  try dsimp only
  repeat' first
    | (simp +contextual +decide (maxDischargeDepth := 60) only [after_next, Keeps.refl, ↓keeps_handoverAbandon]; done)
    | simp only [after_next]
    | split

theorem keeps_execReturnHoldoff {s : State} (h : HalfId) :
    Keeps 0x8000000000000 s (after s (execReturnHoldoff h s)) := by
  unfold execReturnHoldoff
  try dsimp only
  repeat' first
    | (simp +contextual +decide (maxDischargeDepth := 60) only [after_next, ↓keeps_ite, Keeps.refl, ↓keeps_modGav]; done)
    | simp only [after_next]
    | split

theorem keeps_execReturnReq {s : State} (h : HalfId) :
    Keeps 0x8000000000000 s (after s (execReturnReq h s)) := by
  unfold execReturnReq
  try dsimp only
  repeat' first
    | (simp +contextual +decide (maxDischargeDepth := 60) only [after_next, ↓keeps_ite, Keeps.refl, ↓keeps_modGav, Reg.GAV_RETURN_SUSPENDED]; done)
    | simp only [after_next]
    | split

end Sys2Proof.Machine
end

