-- ==== Sys2Proof/Laws/KeepsLockstep.lean ====
section
/-!
SUPPORT. `Keeps` for the operations of Machine/Lockstep.lean: the parts each may change.
-/

namespace Sys2Proof.Machine

open Sys2Proof (HalfId Instr Byte Word Accessor)

theorem keeps_putLs {ps : Nat} {s0 s : State} (h : HalfId) (st : Nat) (hm_ : subParts 0x4000000000004 ps = true)
    (hs_ : Keeps ps s0 s) : Keeps ps s0 (putLs s h st) := by
  refine Keeps.comp (a := 0x4000000000004) ?_ hm_ hs_
  clear hm_ hs_
  unfold putLs
  try dsimp only
  repeat' first
    | (simp +contextual +decide (maxDischargeDepth := 60) only [Keeps.refl, ↓keeps_modLge, ↓keeps_wr, Reg.GAV_LS_STAT_STATE]; done)
    | split

theorem keeps_replayBoundary {ps : Nat} {s0 s : State} (h : HalfId) (c : Nat) (words : List (Nat × Nat)) (tasks : List Nat) (hm_ : subParts 0x16F7C505ECEC00 ps = true)
    (hs_ : Keeps ps s0 s) : Keeps ps s0 (replayBoundary s h c words tasks) := by
  refine Keeps.comp (a := 0x16F7C505ECEC00) ?_ hm_ hs_
  clear hm_ hs_
  unfold replayBoundary
  try dsimp only
  repeat' first
    | (simp +contextual +decide (maxDischargeDepth := 60) only [↓keeps_foldl, Keeps.refl, implies_true, ↓keeps_modLge, ↓keeps_decideOut, ↓keeps_edgeTriggers, ↓keeps_releaseAt, ↓keeps_dispatch]; done)
    | split

theorem keeps_execLsImage {s : State} (h : HalfId) (lag : Nat) :
    Keeps 0x16F7C505ECEC04 s (after s (execLsImage h lag s)) := by
  unfold execLsImage
  try dsimp only
  repeat' first
    | (simp +contextual +decide (maxDischargeDepth := 60) only [after_next, Keeps.refl, ↓keeps_modLge, ↓keeps_replayBoundary, ↓keeps_wr, Reg.GAV_LS_STAT_LAG]; done)
    | simp only [after_next]
    | split

theorem keeps_execLsEnd {s : State} (h : HalfId) :
    Keeps 0x1FF7CD07ECEE45 s (after s (execLsEnd h s)) := by
  unfold execLsEnd
  try dsimp only
  repeat' first
    | (simp +contextual +decide (maxDischargeDepth := 60) only [after_next, ↓keeps_ite, Keeps.refl, ↓keeps_modLge, ↓keeps_lsCompare]; done)
    | simp only [after_next]
    | split

theorem keeps_execLsStop {s : State} (h : HalfId) :
    Keeps 0x1423C4052C4000 s (after s (execLsStop h s)) := by
  unfold execLsStop
  try dsimp only
  repeat' first
    | (simp +contextual +decide (maxDischargeDepth := 60) only [after_next, ↓keeps_ite, Keeps.refl, ↓keeps_logicHalt, Reg.LGE_STAT_CAUSE, Reg.LGE_STAT_TASK, Reg.LGE_STOP_PC_PC]; done)
    | simp only [after_next]
    | split

theorem keeps_execLockstepLag {s : State} (h : HalfId) :
    Keeps 0x4000000000004 s (after s (execLockstepLag h s)) := by
  unfold execLockstepLag
  try dsimp only
  repeat' first
    | (simp +contextual +decide (maxDischargeDepth := 60) only [after_next, ↓keeps_ite, Keeps.refl, ↓keeps_startReload, ↓keeps_endLockstep]; done)
    | simp only [after_next]
    | split

theorem keeps_latentEntry {ps : Nat} {s0 s : State} (h : HalfId) (n : Nat) (hm_ : subParts 0x18238401240000 ps = true)
    (hs_ : Keeps ps s0 s) : Keeps ps s0 (latentEntry s h n) := by
  refine Keeps.comp (a := 0x18238401240000) ?_ hm_ hs_
  clear hm_ hs_
  unfold latentEntry
  try dsimp only
  repeat' first
    | (simp +contextual +decide (maxDischargeDepth := 60) only [↓keeps_ite, Keeps.refl, ↓keeps_ledgerH, ↓keeps_modGav]; done)
    | split

theorem keeps_memHealth {ps : Nat} {s0 s : State} (h : HalfId) (hm_ : subParts 0x1023C4012C0000 ps = true)
    (hs_ : Keeps ps s0 s) : Keeps ps s0 (memHealth s h) := by
  refine Keeps.comp (a := 0x1023C4012C0000) ?_ hm_ hs_
  clear hm_ hs_
  unfold memHealth
  try dsimp only
  repeat' first
    | (simp +contextual +decide (maxDischargeDepth := 60) only [↓keeps_ite, Keeps.refl, ↓keeps_ledgerH, ↓keeps_tallySet]; done)
    | split

theorem keeps_execLsSweepTimer {s : State} (h : HalfId) :
    Keeps 0x1C238401240000 s (after s (execLsSweepTimer h s)) := by
  unfold execLsSweepTimer
  try dsimp only
  repeat' first
    | (simp +contextual +decide (maxDischargeDepth := 60) only [after_next, Keeps.refl, ↓keeps_modLge, ↓keeps_latentEntry]; done)
    | simp only [after_next]
    | split

theorem keeps_sweepWord {ps : Nat} {s0 s : State} (h : HalfId) (e : Nat × Nat) (hm_ : subParts 0x4000000000000 ps = true)
    (hs_ : Keeps ps s0 s) : Keeps ps s0 ((sweepWord s h e)).1 := by
  refine Keeps.comp (a := 0x4000000000000) ?_ hm_ hs_
  clear hm_ hs_
  unfold sweepWord
  try dsimp only
  repeat' first
    | (simp +contextual +decide (maxDischargeDepth := 60) only [Keeps.refl, ↓keeps_lput]; done)
    | split

theorem keeps_execLsSweep {s : State} (h : HalfId) :
    Keeps 0x1C23C4012C4004 s (after s (execLsSweep h s)) := by
  unfold execLsSweep
  try dsimp only
  repeat' first
    | (simp +contextual +decide (maxDischargeDepth := 60) only [after_next, ↓keeps_ite, Keeps.refl, implies_true, ↓keeps_satAdd, ↓keeps_modLge, ↓keeps_lsMismatch, ↓keeps_modGav, ↓keeps_latentEntry, ↓keeps_memHealth, ↓keeps_sweepWord, ↓keeps_foldl_fst, Reg.GAV_LS_CNT_LATENT, Reg.LGE_CYCLE_COUNT, *]; done)
    | decide
    | (intro _ _ _; try dsimp only)
    | with_reducible apply keeps_foldl
    | with_reducible apply keeps_satAdd
    | with_reducible apply keeps_modLge
    | with_reducible apply keeps_lsMismatch
    | with_reducible apply keeps_modGav
    | with_reducible apply keeps_latentEntry
    | with_reducible apply keeps_memHealth
    | with_reducible apply keeps_sweepWord
    | with_reducible apply keeps_foldl_fst
    | simp only [after_next]
    | split
    | with_reducible apply keeps_ite
  repeat' first
    | (simp +contextual +decide (maxDischargeDepth := 60) only [after_next, ↓keeps_ite, Keeps.refl, implies_true, ↓keeps_satAdd, ↓keeps_modLge, ↓keeps_lsMismatch, ↓keeps_modGav, ↓keeps_latentEntry, ↓keeps_memHealth, ↓keeps_sweepWord, ↓keeps_foldl_fst, Reg.GAV_LS_CNT_LATENT, Reg.LGE_CYCLE_COUNT]; done)
    | simp only [after_next]
    | split

theorem keeps_execMemHealthClear {s : State} (h : HalfId) :
    Keeps 0x1023C4012C0000 s (after s (execMemHealthClear h s)) := by
  unfold execMemHealthClear
  try dsimp only
  repeat' first
    | (simp +contextual +decide (maxDischargeDepth := 60) only [after_next, ↓keeps_ite, Keeps.refl, ↓keeps_memHealth]; done)
    | simp only [after_next]
    | split

theorem keeps_loadCopies {ps : Nat} {s0 s : State} (h : HalfId) (hm_ : subParts 0x14238401240001 ps = true)
    (hs_ : Keeps ps s0 s) : Keeps ps s0 (loadCopies s h) := by
  refine Keeps.comp (a := 0x14238401240001) ?_ hm_ hs_
  clear hm_ hs_
  unfold loadCopies
  try dsimp only
  repeat' first
    | (simp +contextual +decide (maxDischargeDepth := 60) only [↓keeps_foldl, ↓keeps_ite, Keeps.refl, implies_true, ↓keeps_ledgerH, ↓keeps_modLge, ↓keeps_wr, Reg.SET_ACTIVE_LIVE_PENDING]; done)
    | split

theorem keeps_reload {ps : Nat} {s0 s : State} (h : HalfId) (hm_ : subParts 0x1423C4012C4001 ps = true)
    (hs_ : Keeps ps s0 s) : Keeps ps s0 (reload s h) := by
  refine Keeps.comp (a := 0x1423C4012C4001) ?_ hm_ hs_
  clear hm_ hs_
  unfold reload
  try dsimp only
  repeat' first
    | (simp +contextual +decide (maxDischargeDepth := 60) only [↓keeps_foldl, Keeps.refl, implies_true, ↓keeps_tallySet, ↓keeps_modLge, ↓keeps_wr, ↓keeps_wrB, Reg.LGE_STAT_RUN, Reg.LGE_STAT_WARM, Reg.SET_ACTIVE_LIVE_PENDING]; done)
    | split

theorem keeps_execLsCopy {s : State} (h : HalfId) :
    Keeps 0x1423C4012C4001 s (after s (execLsCopy h s)) := by
  unfold execLsCopy
  try dsimp only
  repeat' first
    | (simp +contextual +decide (maxDischargeDepth := 60) only [after_next, ↓keeps_ite, Keeps.refl, ↓keeps_loadCopies, ↓keeps_reload]; done)
    | simp only [after_next]
    | split

theorem keeps_execMismatch {s : State} (h : HalfId) :
    Keeps 0xC000000000004 s (after s (execMismatch h s)) := by
  unfold execMismatch
  try dsimp only
  repeat' first
    | (simp +contextual +decide (maxDischargeDepth := 60) only [after_next, ↓keeps_ite, Keeps.refl, ↓keeps_selfTest]; done)
    | simp only [after_next]
    | split

theorem keeps_failedLead {ps : Nat} {s0 s : State} (h : HalfId) (hm_ : subParts 0x1023C4012C0004 ps = true)
    (hs_ : Keeps ps s0 s) : Keeps ps s0 (failedLead s h) := by
  refine Keeps.comp (a := 0x1023C4012C0004) ?_ hm_ hs_
  clear hm_ hs_
  unfold failedLead
  try dsimp only
  repeat' first
    | (simp +contextual +decide (maxDischargeDepth := 60) only [Keeps.refl, ↓keeps_tallySet, ↓keeps_wrB, Reg.GAV_STAT_FAILED_LEAD]; done)
    | split

theorem keeps_divergence {ps : Nat} {s0 s : State} (h : HalfId) (hm_ : subParts 0x1823C4012C0004 ps = true)
    (hs_ : Keeps ps s0 s) : Keeps ps s0 (divergence s h) := by
  refine Keeps.comp (a := 0x1823C4012C0004) ?_ hm_ hs_
  clear hm_ hs_
  unfold divergence
  try dsimp only
  repeat' first
    | (simp +contextual +decide (maxDischargeDepth := 60) only [Keeps.refl, ↓keeps_ledgerH, ↓keeps_tallySet, ↓keeps_modGav, ↓keeps_wr, ↓keeps_wrB, Reg.GAV_LS_STAT_DEGRADED, Reg.GAV_LS_STAT_DIVERGE]; done)
    | split

theorem keeps_testOutcome {ps : Nat} {s0 s : State} (h : HalfId) (hm_ : subParts 0x1C23C4012C0004 ps = true)
    (hs_ : Keeps ps s0 s) : Keeps ps s0 (testOutcome s h) := by
  refine Keeps.comp (a := 0x1C23C4012C0004) ?_ hm_ hs_
  clear hm_ hs_
  unfold testOutcome
  try dsimp only
  repeat' first
    | (simp +contextual +decide (maxDischargeDepth := 60) only [↓keeps_ite, Keeps.refl, ↓keeps_modGav, ↓keeps_putLs, ↓keeps_failedLead, ↓keeps_divergence]; done)
    | split

theorem keeps_execSelftestDone {s : State} (h : HalfId) (pass : Bool) :
    Keeps 0x1C23C4012C0004 s (after s (execSelftestDone h pass s)) := by
  unfold execSelftestDone
  try dsimp only
  repeat' first
    | (simp +contextual +decide (maxDischargeDepth := 60) only [after_next, ↓keeps_ite, Keeps.refl, ↓keeps_modGav, ↓keeps_testOutcome]; done)
    | simp only [after_next]
    | split

theorem keeps_execSelftestResult {s : State} (h : HalfId) :
    Keeps 0x1C23C4012C0004 s (after s (execSelftestResult h s)) := by
  unfold execSelftestResult
  try dsimp only
  repeat' first
    | (simp +contextual +decide (maxDischargeDepth := 60) only [after_next, ↓keeps_ite, Keeps.refl, ↓keeps_modGav, ↓keeps_testOutcome]; done)
    | simp only [after_next]
    | split

theorem keeps_execEccUncorrectable {s : State} (h : HalfId) (region : Nat) :
    Keeps 0x1C23C5012C2804 s (after s (execEccUncorrectable h region s)) := by
  unfold execEccUncorrectable
  try dsimp only
  repeat' first
    | (simp +contextual +decide (maxDischargeDepth := 60) only [after_next, ↓keeps_ite, Keeps.refl, ↓keeps_tallySet, ↓keeps_tallyVital, ↓keeps_lsMismatch, Reg.LGE_CYCLE_COUNT]; done)
    | simp only [after_next]
    | split

theorem keeps_execScrubPass {s : State} (h : HalfId) (corrected : Nat) :
    Keeps 0x1023C4012C0000 s (after s (execScrubPass h corrected s)) := by
  unfold execScrubPass
  try dsimp only
  repeat' first
    | (simp +contextual +decide (maxDischargeDepth := 60) only [after_next, ↓keeps_ite, Keeps.refl, ↓keeps_tallySet]; done)
    | simp only [after_next]
    | split

end Sys2Proof.Machine
end

