-- ==== Sys2Proof/Laws/KeepsCommit.lean ====
section
/-!
SUPPORT. `Keeps` for the operations of Machine/Commit.lean: the parts each may change.
-/

namespace Sys2Proof.Machine

open Sys2Proof (HalfId Instr Byte Word Accessor)

theorem keeps_execCommitJobStart {s : State} (h : HalfId) :
    Keeps 0xC0000010002 s (after s (execCommitJobStart h s)) := by
  unfold execCommitJobStart
  try dsimp only
  repeat' first
    | (simp +contextual +decide (maxDischargeDepth := 60) only [after_next, ↓keeps_ite, Keeps.refl, ↓keeps_modAcq, ↓keeps_modCrt, ↓keeps_wrB, Reg.CRT_STAT_CBUSY, Reg.PWR_PF_STAT_PF]; done)
    | simp only [after_next]
    | split

theorem keeps_commitBlock {ps : Nat} {s0 s : State} (h : HalfId) (hm_ : subParts 0x80000010000 ps = true)
    (hs_ : Keeps ps s0 s) : Keeps ps s0 (commitBlock s h) := by
  refine Keeps.comp (a := 0x80000010000) ?_ hm_ hs_
  clear hm_ hs_
  unfold commitBlock
  try dsimp only
  repeat' first
    | (simp +contextual +decide (maxDischargeDepth := 60) only [↓keeps_ite, Keeps.refl, ↓keeps_satAdd, ↓keeps_modCrt, Reg.CRT_CBLK_BLOCKS, Reg.CRT_CBLK_FALLBACK, Reg.CRT_CIN_BYTES, Reg.CRT_COUT_BYTES]; done)
    | split

theorem keeps_jobDrop {ps : Nat} {s0 s : State} (h : HalfId) (hm_ : subParts 0xC0000010000 ps = true)
    (hs_ : Keeps ps s0 s) : Keeps ps s0 (jobDrop s h) := by
  refine Keeps.comp (a := 0xC0000010000) ?_ hm_ hs_
  clear hm_ hs_
  unfold jobDrop
  try dsimp only
  repeat' first
    | (simp +contextual +decide (maxDischargeDepth := 60) only [↓keeps_ite, Keeps.refl, ↓keeps_modAcq, ↓keeps_modCrt, ↓keeps_wrB, Reg.CRT_STAT_CBUSY]; done)
    | split

theorem keeps_commitMemErr {ps : Nat} {s0 s : State} (h : HalfId) (hm_ : subParts 0x102FC4012D8000 ps = true)
    (hs_ : Keeps ps s0 s) : Keeps ps s0 (commitMemErr s h) := by
  refine Keeps.comp (a := 0x102FC4012D8000) ?_ hm_ hs_
  clear hm_ hs_
  unfold commitMemErr
  try dsimp only
  repeat' first
    | (simp +contextual +decide (maxDischargeDepth := 60) only [Keeps.refl, ↓keeps_ledgerH, ↓keeps_notCommitted, ↓keeps_jobDrop]; done)
    | split

theorem keeps_execCrateBlockDone {s : State} (h : HalfId) (commit memErr : Bool) (choice : List Byte) :
    Keeps 0x102FC4212D8000 s (after s (execCrateBlockDone h commit memErr choice s)) := by
  unfold execCrateBlockDone
  try dsimp only
  repeat' first
    | (simp +contextual +decide (maxDischargeDepth := 60) only [after_next, ↓keeps_ite, Keeps.refl, ↓keeps_hostBlock, ↓keeps_commitBlock, ↓keeps_commitMemErr]; done)
    | simp only [after_next]
    | split

theorem keeps_recCommit {ps : Nat} {s0 s : State} (h : HalfId) (a q : Nat) (payload : List Byte) (hm_ : subParts 0x400008000 ps = true)
    (hs_ : Keeps ps s0 s) : Keeps ps s0 (recCommit s h a q payload) := by
  refine Keeps.comp (a := 0x400008000) ?_ hm_ hs_
  clear hm_ hs_
  unfold recCommit
  try dsimp only
  repeat' first
    | (simp +contextual +decide (maxDischargeDepth := 60) only [Keeps.refl, ↓keeps_satAdd, ↓keeps_putRecUnits, ↓keeps_wr, Reg.ACQ_ACOMM_SEQ, Reg.ACQ_REC_RELEASED, Reg.ACQ_REC_USED, fits_instKey]; done)
    | split

theorem keeps_commitEnd {ps : Nat} {s0 s : State} (h : HalfId) (ok : Bool) (status : Nat) (hm_ : subParts 0x102FC4012D8000 ps = true)
    (hs_ : Keeps ps s0 s) : Keeps ps s0 (commitEnd s h ok status) := by
  refine Keeps.comp (a := 0x102FC4012D8000) ?_ hm_ hs_
  clear hm_ hs_
  unfold commitEnd
  try dsimp only
  repeat' first
    | (simp +contextual +decide (maxDischargeDepth := 60) only [↓keeps_ite, Keeps.refl, ↓keeps_ledgerH, ↓keeps_tallySet, ↓keeps_modAcq, ↓keeps_notCommitted, ↓keeps_jobDrop, ↓keeps_recCommit]; done)
    | split

theorem keeps_execCommitJobDone {s : State} (h : HalfId) (ok : Bool) (status : Nat) :
    Keeps 0x102FC4012D8000 s (after s (execCommitJobDone h ok status s)) := by
  unfold execCommitJobDone
  try dsimp only
  repeat' first
    | (simp +contextual +decide (maxDischargeDepth := 60) only [after_next, ↓keeps_ite, Keeps.refl, ↓keeps_commitEnd]; done)
    | simp only [after_next]
    | split

theorem keeps_execCommitRetry {s : State} (h : HalfId) (ok : Bool) (status : Nat) :
    Keeps 0x102FC4012D8000 s (after s (execCommitRetry h ok status s)) := by
  unfold execCommitRetry
  try dsimp only
  repeat' first
    | (simp +contextual +decide (maxDischargeDepth := 60) only [after_next, ↓keeps_ite, Keeps.refl, ↓keeps_commitEnd]; done)
    | simp only [after_next]
    | split

theorem keeps_stageDone {ps : Nat} {s0 s : State} (h : HalfId) (g : Nat) (hm_ : subParts 0x10238C01240009 ps = true)
    (hs_ : Keeps ps s0 s) : Keeps ps s0 (stageDone s h g) := by
  refine Keeps.comp (a := 0x10238C01240009) ?_ hm_ hs_
  clear hm_ hs_
  unfold stageDone
  try dsimp only
  repeat' first
    | (simp +contextual +decide (maxDischargeDepth := 60) only [↓keeps_foldl, ↓keeps_ite, Keeps.refl, implies_true, ↓keeps_ledgerH, ↓keeps_setEnd, ↓keeps_wrBit, Reg.SET_ACTIVE_STAGED, Reg.SET_CRC_CRC]; done)
    | split

theorem keeps_commitOk {ps : Nat} {s0 s : State} (h : HalfId) (job_ : CommitJob) (hm_ : subParts 0x14238C01244009 ps = true)
    (hs_ : Keeps ps s0 s) : Keeps ps s0 (commitOk s h job_) := by
  refine Keeps.comp (a := 0x14238C01244009) ?_ hm_ hs_
  clear hm_ hs_
  unfold commitOk
  try dsimp only
  repeat' first
    | (simp +contextual +decide (maxDischargeDepth := 60) only [Keeps.refl, ↓keeps_unitValid, ↓keeps_retCommit, ↓keeps_stageDone, ↓keeps_wr, ↓keeps_wrB, Reg.LGE_RET_PENDING, Reg.LGE_RET_SEQ]; done)
    | split

theorem keeps_commitFail {ps : Nat} {s0 s : State} (h : HalfId) (page : Nat) (job_ : CommitJob) (hm_ : subParts 0x1423CC012E0009 ps = true)
    (hs_ : Keeps ps s0 s) : Keeps ps s0 (commitFail s h page job_) := by
  refine Keeps.comp (a := 0x1423CC012E0009) ?_ hm_ hs_
  clear hm_ hs_
  unfold commitFail
  try dsimp only
  repeat' first
    | (simp +contextual +decide (maxDischargeDepth := 60) only [↓keeps_ite, Keeps.refl, ↓keeps_storeError, ↓keeps_modLge, ↓keeps_setEnd]; done)
    | split

theorem keeps_execStoreCommitDone {s : State} (h : HalfId) (part : Nat) (ok : Bool) (page : Nat) :
    Keeps 0x142FCC012FC009 s (after s (execStoreCommitDone h part ok page s)) := by
  unfold execStoreCommitDone
  try dsimp only
  repeat' first
    | (simp +contextual +decide (maxDischargeDepth := 60) only [after_next, ↓keeps_ite, Keeps.refl, ↓keeps_storeError, ↓keeps_dropJob, ↓keeps_commitEnd, ↓keeps_commitOk, ↓keeps_commitFail]; done)
    | simp only [after_next]
    | split

end Sys2Proof.Machine
end

