-- ==== Sys2Proof/Laws/KeepsSetOps.lean ====
section
/-!
SUPPORT. `Keeps` for the operations of Machine/SetOps.lean: the parts each may change.
-/

namespace Sys2Proof.Machine

open Sys2Proof (HalfId Instr Byte Word Accessor)

theorem keeps_putVerdict {ps : Nat} {s0 s : State} (h : HalfId) (slot : Nat) (v : Nat × Nat × Nat) (hm_ : subParts 0x10238401240001 ps = true)
    (hs_ : Keeps ps s0 s) : Keeps ps s0 (putVerdict s h slot v) := by
  refine Keeps.comp (a := 0x10238401240001) ?_ hm_ hs_
  clear hm_ hs_
  unfold putVerdict
  try dsimp only
  repeat' first
    | (simp +contextual +decide (maxDischargeDepth := 60) only [↓keeps_ite, Keeps.refl, ↓keeps_ledgerH, ↓keeps_wr, Reg.IMG_ERR_SECTION, Reg.IMG_ERR_SLOT0, Reg.IMG_ERR_SLOT1, Reg.IMG_ERR_SLOT2, imgErr, fits_ite]; done)
    | split

theorem keeps_verifyStart {ps : Nat} {s0 s : State} (h : HalfId) (slot : Nat) (hm_ : subParts 0x800000001 ps = true)
    (hs_ : Keeps ps s0 s) : Keeps ps s0 (verifyStart s h slot) := by
  refine Keeps.comp (a := 0x800000001) ?_ hm_ hs_
  clear hm_ hs_
  unfold verifyStart
  try dsimp only
  repeat' first
    | (simp +contextual +decide (maxDischargeDepth := 60) only [Keeps.refl, ↓keeps_modMode, ↓keeps_wr, ↓keeps_wrB, Reg.IMG_STAT_VERIFY_BUSY, Reg.IMG_STAT_VERIFY_SLOT]; done)
    | split

theorem keeps_activateStart {ps : Nat} {s0 s : State} (h : HalfId) (slot fault : Nat) (hm_ : subParts 0x10238C01240001 ps = true)
    (hs_ : Keeps ps s0 s) : Keeps ps s0 (activateStart s h slot fault) := by
  refine Keeps.comp (a := 0x10238C01240001) ?_ hm_ hs_
  clear hm_ hs_
  unfold activateStart
  try dsimp only
  repeat' first
    | (simp +contextual +decide (maxDischargeDepth := 60) only [↓keeps_ite, Keeps.refl, ↓keeps_logPut, ↓keeps_setPend, ↓keeps_putVerdict, ↓keeps_wr, Reg.IMG_STAT_CMD_STATUS]; done)
    | split

theorem keeps_imgCommand {ps : Nat} {s0 s : State} (h : HalfId) (code slot fault : Nat) (hm_ : subParts 0x10238C01240001 ps = true)
    (hs_ : Keeps ps s0 s) : Keeps ps s0 (imgCommand s h code slot fault) := by
  refine Keeps.comp (a := 0x10238C01240001) ?_ hm_ hs_
  clear hm_ hs_
  unfold imgCommand
  try dsimp only
  repeat' first
    | (simp +contextual +decide (maxDischargeDepth := 60) only [↓keeps_ite, Keeps.refl, ↓keeps_verifyStart, ↓keeps_activateStart, ↓keeps_wr, Reg.IMG_STAT_CMD_STATUS]; done)
    | split

theorem keeps_execVerify {s : State} (h : HalfId) (slot : Nat) :
    Keeps 0x10238C01240001 s (after s (execVerify h slot s)) := by
  unfold execVerify
  try dsimp only
  repeat' first
    | (simp +contextual +decide (maxDischargeDepth := 60) only [after_next, Keeps.refl, ↓keeps_access, ↓keeps_imgCommand]; done)
    | simp only [after_next]
    | split

theorem keeps_execActivate {s : State} (h : HalfId) (slot fault : Nat) :
    Keeps 0x10238C01240001 s (after s (execActivate h slot fault s)) := by
  unfold execActivate
  try dsimp only
  repeat' first
    | (simp +contextual +decide (maxDischargeDepth := 60) only [after_next, Keeps.refl, ↓keeps_access, ↓keeps_imgCommand]; done)
    | simp only [after_next]
    | split

theorem keeps_execImageVerifyDone {s : State} (h : HalfId) (fault : Nat) :
    Keeps 0x10238C01240001 s (after s (execImageVerifyDone h fault s)) := by
  unfold execImageVerifyDone
  try dsimp only
  repeat' first
    | (simp +contextual +decide (maxDischargeDepth := 60) only [after_next, Keeps.refl, ↓keeps_modMode, ↓keeps_putVerdict, ↓keeps_wr, ↓keeps_wrB, Reg.IMG_STAT_CMD_STATUS, Reg.IMG_STAT_VERIFY_BUSY, Reg.IMG_STAT_VERIFY_RESULT]; done)
    | simp only [after_next]
    | split

theorem keeps_windowWrite {ps : Nat} {s0 s : State} (h : HalfId) (addr v : Nat) (hm_ : subParts 0x2000000001 ps = true)
    (hs_ : Keeps ps s0 s) : Keeps ps s0 (windowWrite s h addr v) := by
  refine Keeps.comp (a := 0x2000000001) ?_ hm_ hs_
  clear hm_ hs_
  unfold windowWrite
  try dsimp only
  repeat' first
    | (simp +contextual +decide (maxDischargeDepth := 60) only [↓keeps_ite, Keeps.refl, ↓keeps_modGroup, ↓keeps_wrB, Reg.SET_ACTIVE_WRITE_REFUSED]; done)
    | split

theorem keeps_execSettingWindowWrite {s : State} (h : HalfId) (addr v : Nat) :
    Keeps 0x2000000001 s (after s (execSettingWindowWrite h addr v s)) := by
  unfold execSettingWindowWrite
  try dsimp only
  repeat' first
    | (simp +contextual +decide (maxDischargeDepth := 60) only [after_next, ↓keeps_ite, Keeps.refl, ↓keeps_access, ↓keeps_windowWrite]; done)
    | simp only [after_next]
    | split

theorem keeps_setPendSet {ps : Nat} {s0 s : State} (h : HalfId) (p : PendSet) (hm_ : subParts 0x800000001 ps = true)
    (hs_ : Keeps ps s0 s) : Keeps ps s0 (setPendSet s h p) := by
  refine Keeps.comp (a := 0x800000001) ?_ hm_ hs_
  clear hm_ hs_
  unfold setPendSet
  try dsimp only
  repeat' first
    | (simp +contextual +decide (maxDischargeDepth := 60) only [Keeps.refl, ↓keeps_modMode, ↓keeps_wr, ↓keeps_wrB, Reg.SET_ACTIVE_PEND, Reg.SET_ACTIVE_TARGET]; done)
    | split

theorem keeps_dropPendSet {ps : Nat} {s0 s : State} (h : HalfId) (hm_ : subParts 0x800000001 ps = true)
    (hs_ : Keeps ps s0 s) : Keeps ps s0 (dropPendSet s h) := by
  refine Keeps.comp (a := 0x800000001) ?_ hm_ hs_
  clear hm_ hs_
  unfold dropPendSet
  try dsimp only
  repeat' first
    | (simp +contextual +decide (maxDischargeDepth := 60) only [Keeps.refl, ↓keeps_modMode, ↓keeps_wr, ↓keeps_wrB, Reg.SET_ACTIVE_PEND, Reg.SET_ACTIVE_TARGET]; done)
    | split

theorem keeps_setCommit {ps : Nat} {s0 s : State} (h : HalfId) (g : Nat) (hm_ : subParts 0x10400000000 ps = true)
    (hs_ : Keeps ps s0 s) : Keeps ps s0 (setCommit s h g) := by
  refine Keeps.comp (a := 0x10400000000) ?_ hm_ hs_
  clear hm_ hs_
  unfold setCommit
  try dsimp only
  repeat' first
    | (simp +contextual +decide (maxDischargeDepth := 60) only [Keeps.refl, ↓keeps_modStore, ↓keeps_startCommit]; done)
    | split

theorem keeps_stageStart {ps : Nat} {s0 s : State} (h : HalfId) (g : Nat) (hm_ : subParts 0x10C00000001 ps = true)
    (hs_ : Keeps ps s0 s) : Keeps ps s0 (stageStart s h g) := by
  refine Keeps.comp (a := 0x10C00000001) ?_ hm_ hs_
  clear hm_ hs_
  unfold stageStart
  try dsimp only
  repeat' first
    | (simp +contextual +decide (maxDischargeDepth := 60) only [↓keeps_ite, Keeps.refl, ↓keeps_setPendSet, ↓keeps_setCommit, ↓keeps_wr, Reg.SET_CRC_CRC, Reg.SET_RESULT_DETAIL, Reg.SET_RESULT_STATUS]; done)
    | split

theorem keeps_switchStart {ps : Nat} {s0 s : State} (h : HalfId) (g : Nat) (entry : Option Nat) (hm_ : subParts 0x800000001 ps = true)
    (hs_ : Keeps ps s0 s) : Keeps ps s0 (switchStart s h g entry) := by
  refine Keeps.comp (a := 0x800000001) ?_ hm_ hs_
  clear hm_ hs_
  unfold switchStart
  try dsimp only
  repeat' first
    | (simp +contextual +decide (maxDischargeDepth := 60) only [Keeps.refl, ↓keeps_setPendSet]; done)
    | split

theorem keeps_defaultLoad {ps : Nat} {s0 s : State} (h : HalfId) (g : Nat) (hm_ : subParts 0x2000000001 ps = true)
    (hs_ : Keeps ps s0 s) : Keeps ps s0 (defaultLoad s h g) := by
  refine Keeps.comp (a := 0x2000000001) ?_ hm_ hs_
  clear hm_ hs_
  unfold defaultLoad
  try dsimp only
  repeat' first
    | (simp +contextual +decide (maxDischargeDepth := 60) only [Keeps.refl, ↓keeps_modGroup, ↓keeps_wr, Reg.SET_RESULT_STATUS]; done)
    | split

theorem keeps_setCmd {ps : Nat} {s0 s : State} (h : HalfId) (code g : Nat) (hm_ : subParts 0x12C00000001 ps = true)
    (hs_ : Keeps ps s0 s) : Keeps ps s0 (setCmd s h code g) := by
  refine Keeps.comp (a := 0x12C00000001) ?_ hm_ hs_
  clear hm_ hs_
  unfold setCmd
  try dsimp only
  repeat' first
    | (simp +contextual +decide (maxDischargeDepth := 60) only [↓keeps_ite, Keeps.refl, ↓keeps_result, ↓keeps_stageStart, ↓keeps_switchStart, ↓keeps_defaultLoad, ↓keeps_wr, Reg.SET_RESULT_CMD, Reg.SET_RESULT_DETAIL, Reg.SET_RESULT_SEQ, Reg.SET_RESULT_STATUS]; done)
    | split

theorem keeps_execStage {s : State} (h : HalfId) (group : Nat) :
    Keeps 0x12C00000001 s (after s (execStage h group s)) := by
  unfold execStage
  try dsimp only
  repeat' first
    | (simp +contextual +decide (maxDischargeDepth := 60) only [after_next, Keeps.refl, ↓keeps_access, ↓keeps_setCmd]; done)
    | simp only [after_next]
    | split

theorem keeps_execSwitch {s : State} (h : HalfId) (group : Nat) :
    Keeps 0x12C00000001 s (after s (execSwitch h group s)) := by
  unfold execSwitch
  try dsimp only
  repeat' first
    | (simp +contextual +decide (maxDischargeDepth := 60) only [after_next, Keeps.refl, ↓keeps_access, ↓keeps_setCmd]; done)
    | simp only [after_next]
    | split

theorem keeps_execLoadDefault {s : State} (h : HalfId) (group : Nat) :
    Keeps 0x12C00000001 s (after s (execLoadDefault h group s)) := by
  unfold execLoadDefault
  try dsimp only
  repeat' first
    | (simp +contextual +decide (maxDischargeDepth := 60) only [after_next, Keeps.refl, ↓keeps_access, ↓keeps_setCmd]; done)
    | simp only [after_next]
    | split

theorem keeps_execSetStage {s : State} (h : HalfId) :
    Keeps 0x2800000001 s (after s (execSetStage h s)) := by
  unfold execSetStage
  try dsimp only
  repeat' first
    | (simp +contextual +decide (maxDischargeDepth := 60) only [after_next, Keeps.refl, ↓keeps_modMode, ↓keeps_modGroup, ↓keeps_wr, Reg.SET_CRC_CRC]; done)
    | simp only [after_next]
    | split

theorem keeps_execSetCrc {s : State} (h : HalfId) :
    Keeps 0x10C00000009 s (after s (execSetCrc h s)) := by
  unfold execSetCrc
  try dsimp only
  repeat' first
    | (simp +contextual +decide (maxDischargeDepth := 60) only [after_next, ↓keeps_ite, Keeps.refl, ↓keeps_setEnd, ↓keeps_setPendSet, ↓keeps_setCommit, ↓keeps_wr, Reg.SET_CRC_CRC, Reg.SET_RESULT_DETAIL]; done)
    | simp only [after_next]
    | split

theorem keeps_execStageTimeout {s : State} (h : HalfId) :
    Keeps 0x800000009 s (after s (execStageTimeout h s)) := by
  unfold execStageTimeout
  try dsimp only
  repeat' first
    | (simp +contextual +decide (maxDischargeDepth := 60) only [after_next, ↓keeps_ite, Keeps.refl, ↓keeps_setEnd]; done)
    | simp only [after_next]
    | split

theorem keeps_execSetSwitch {s : State} (h : HalfId) :
    Keeps 0x800000001 s (after s (execSetSwitch h s)) := by
  unfold execSetSwitch
  try dsimp only
  repeat' first
    | (simp +contextual +decide (maxDischargeDepth := 60) only [after_next, ↓keeps_ite, Keeps.refl, ↓keeps_setPendSet]; done)
    | simp only [after_next]
    | split

theorem keeps_execSetAck {s : State} (h : HalfId) :
    Keeps 0x800000001 s (after s (execSetAck h s)) := by
  unfold execSetAck
  try dsimp only
  repeat' first
    | (simp +contextual +decide (maxDischargeDepth := 60) only [after_next, ↓keeps_ite, Keeps.refl, ↓keeps_setPendSet]; done)
    | simp only [after_next]
    | split

theorem keeps_switchUnacked {ps : Nat} {s0 s : State} (h : HalfId) (p : PendSet) (hm_ : subParts 0x10238C01240009 ps = true)
    (hs_ : Keeps ps s0 s) : Keeps ps s0 (switchUnacked s h p) := by
  refine Keeps.comp (a := 0x10238C01240009) ?_ hm_ hs_
  clear hm_ hs_
  unfold switchUnacked
  try dsimp only
  repeat' first
    | (simp +contextual +decide (maxDischargeDepth := 60) only [↓keeps_ite, Keeps.refl, ↓keeps_ledgerH, ↓keeps_setEnd, ↓keeps_dropPendSet]; done)
    | split

theorem keeps_execSwitchAckTimeout {s : State} (h : HalfId) :
    Keeps 0x10238C01240009 s (after s (execSwitchAckTimeout h s)) := by
  unfold execSwitchAckTimeout
  try dsimp only
  repeat' first
    | (simp +contextual +decide (maxDischargeDepth := 60) only [after_next, ↓keeps_ite, Keeps.refl, ↓keeps_switchUnacked]; done)
    | simp only [after_next]
    | split

theorem keeps_generalAtI {ps : Nat} {s0 s : State} (h : HalfId) (k : Nat) (hm_ : subParts 0x12238401240200 ps = true)
    (hs_ : Keeps ps s0 s) : Keeps ps s0 (generalAtI s h k) := by
  refine Keeps.comp (a := 0x12238401240200) ?_ hm_ hs_
  clear hm_ hs_
  unfold generalAtI
  try dsimp only
  repeat' first
    | (simp +contextual +decide (maxDischargeDepth := 60) only [↓keeps_ite, Keeps.refl, ↓keeps_genOff]; done)
    | split

theorem keeps_fastAtI {ps : Nat} {s0 s : State} (h : HalfId) (f type : Nat) (hm_ : subParts 0x12238401240400 ps = true)
    (hs_ : Keeps ps s0 s) : Keeps ps s0 (fastAtI s h f type) := by
  refine Keeps.comp (a := 0x12238401240400) ?_ hm_ hs_
  clear hm_ hs_
  unfold fastAtI
  try dsimp only
  repeat' first
    | (simp +contextual +decide (maxDischargeDepth := 60) only [↓keeps_foldl, ↓keeps_ite, Keeps.refl, implies_true, ↓keeps_fnPut]; done)
    | split

theorem keeps_tilesAtI {ps : Nat} {s0 s : State} (h : HalfId) (a b : SetGroup) (hm_ : subParts 0x12238401240600 ps = true)
    (hs_ : Keeps ps s0 s) : Keeps ps s0 (tilesAtI s h a b) := by
  refine Keeps.comp (a := 0x12238401240600) ?_ hm_ hs_
  clear hm_ hs_
  unfold tilesAtI
  try dsimp only
  repeat' first
    | (simp +contextual +decide (maxDischargeDepth := 60) only [↓keeps_foldl, ↓keeps_ite, Keeps.refl, implies_true, ↓keeps_generalAtI, ↓keeps_fastAtI]; done)
    | split

theorem keeps_liven {ps : Nat} {s0 s : State} (h : HalfId) (old new : Nat) (hm_ : subParts 0x4000000000005 ps = true)
    (hs_ : Keeps ps s0 s) : Keeps ps s0 (liven s h old new) := by
  refine Keeps.comp (a := 0x4000000000005) ?_ hm_ hs_
  clear hm_ hs_
  unfold liven
  try dsimp only
  repeat' first
    | (simp +contextual +decide (maxDischargeDepth := 60) only [Keeps.refl, ↓keeps_modLge, ↓keeps_wr, Reg.GAV_LS_STAT_STATE, Reg.SET_ACTIVE_LIVE_PENDING]; done)
    | split

theorem keeps_applyGroup {ps : Nat} {s0 s : State} (h : HalfId) (g : Nat) (hm_ : subParts 0x1673C501EC3E05 ps = true)
    (hs_ : Keeps ps s0 s) : Keeps ps s0 (applyGroup s h g) := by
  refine Keeps.comp (a := 0x1673C501EC3E05) ?_ hm_ hs_
  clear hm_ hs_
  unfold applyGroup
  try dsimp only
  repeat' first
    | (simp +contextual +decide (maxDischargeDepth := 60) only [↓keeps_ite, Keeps.refl, ↓keeps_decideOut, ↓keeps_arcEvalAll, ↓keeps_fieldApply, ↓keeps_tilesAtI, ↓keeps_liven, ↓keeps_wr, Reg.SET_ACTIVE_ACTIVE]; done)
    | split

theorem keeps_recordSwitch {ps : Nat} {s0 s : State} (h : HalfId) (old g : Nat) (hm_ : subParts 0x10238401240000 ps = true)
    (hs_ : Keeps ps s0 s) : Keeps ps s0 (recordSwitch s h old g) := by
  refine Keeps.comp (a := 0x10238401240000) ?_ hm_ hs_
  clear hm_ hs_
  unfold recordSwitch
  try dsimp only
  repeat' first
    | (simp +contextual +decide (maxDischargeDepth := 60) only [Keeps.refl, ↓keeps_ledgerH, ↓keeps_logPut]; done)
    | split

theorem keeps_execGroupSwitchInstant {s : State} (h : HalfId) :
    Keeps 0x1673CD01EC3E0D s (after s (execGroupSwitchInstant h s)) := by
  unfold execGroupSwitchInstant
  try dsimp only
  repeat' first
    | (simp +contextual +decide (maxDischargeDepth := 60) only [after_next, ↓keeps_ite, Keeps.refl, ↓keeps_setEnd, ↓keeps_dropPendSet, ↓keeps_switchUnacked, ↓keeps_applyGroup, ↓keeps_recordSwitch]; done)
    | simp only [after_next]
    | split

end Sys2Proof.Machine
end

