-- ==== Sys2Proof/Laws/KeepsBoot.lean ====
section
/-!
SUPPORT. `Keeps` for the operations of Machine/Boot.lean: the parts each may change.
-/

namespace Sys2Proof.Machine

open Sys2Proof (HalfId Instr Byte Word Accessor)

theorem keeps_lockoutCause {ps : Nat} {s0 s : State} (c : Nat) (lasting : Bool) (hm_ : subParts 0x17F7CD07ECEE49 ps = true)
    (hs_ : Keeps ps s0 s) : Keeps ps s0 (lockoutCause s c lasting) := by
  refine Keeps.comp (a := 0x17F7CD07ECEE49) ?_ hm_ hs_
  clear hm_ hs_
  unfold lockoutCause
  try dsimp only
  repeat' first
    | (simp +contextual +decide (maxDischargeDepth := 60) only [↓keeps_foldl, ↓keeps_ite, Keeps.refl, implies_true, ↓keeps_ledgerH, ↓keeps_cells, ↓keeps_leaderSafe, ↓keeps_pendAbort, ↓keeps_setAbort, ↓keeps_setMode, ↓keeps_wr, ↓keeps_wrB, ↓keeps_wrBit, Reg.SYS_LOCKOUT_ACTIVE, Reg.SYS_LOCKOUT_CAUSE, Reg.SYS_LOCKOUT_PRESENT, Reg.TRM_CELL_STAT_LOCKOUT]; done)
    | split

theorem keeps_eraseOwner {ps : Nat} {s0 s : State} (k : Nat) (hm_ : subParts 0x1FFFFFFFFFFFFF ps = true)
    (hs_ : Keeps ps s0 s) : Keeps ps s0 (eraseOwner s k) :=
  Keeps.comp (a := allParts) (Keeps.all (s := s) rfl rfl (fun hw => by
    simpa only [eraseOwner] using swf_serase _ _ _ hw) (Keeps.refl _ s)) hm_ hs_

theorem keeps_halfClear {ps : Nat} {s0 s : State} (h : HalfId) (powered : Bool) (hm_ : subParts 0x1FFFFFFFFFFFFF ps = true)
    (hs_ : Keeps ps s0 s) : Keeps ps s0 (halfClear s h powered) := by
  refine Keeps.comp (a := 0x1FFFFFFFFFFFFF) ?_ hm_ hs_
  unfold halfClear
  refine keeps_wr h _ _ (by decide) (keeps_wrB h _ _ (by decide) ?_)
  exact Keeps.all (s := eraseOwner s (halfNo h)) (by simp) (by simp) (by simp)
    (keeps_eraseOwner _ (by decide) (Keeps.refl _ s))

theorem keeps_halfReset {ps : Nat} {s0 s : State} (h : HalfId) (powered record_ : Bool) (hm_ : subParts 0x1FFFFFFFFFFFFF ps = true)
    (hs_ : Keeps ps s0 s) : Keeps ps s0 (halfReset s h powered record_) := by
  refine Keeps.comp (a := 0x1FFFFFFFFFFFFF) ?_ hm_ hs_
  clear hm_ hs_
  unfold halfReset
  try dsimp only
  repeat' first
    | (simp +contextual +decide (maxDischargeDepth := 60) only [Keeps.refl, ↓keeps_imgAbort, ↓keeps_voteAbsent, ↓keeps_loseLeader, ↓keeps_halfClear]; done)
    | split

theorem keeps_execHalfReset {s : State} (h : HalfId) :
    Keeps 0x1FFFFFFFFFFFFF s (after s (execHalfReset h s)) := by
  unfold execHalfReset
  try dsimp only
  repeat' first
    | (simp +contextual +decide (maxDischargeDepth := 60) only [after_next, ↓keeps_ite, Keeps.refl, ↓keeps_halfReset]; done)
    | simp only [after_next]
    | split

theorem keeps_moduleReset {ps : Nat} {s0 s : State} (base : Nat) (hm_ : subParts 0x1FFFFFFFFFFFFF ps = true)
    (hs_ : Keeps ps s0 s) : Keeps ps s0 (moduleReset s base) := by
  refine Keeps.comp (a := 0x1FFFFFFFFFFFFF) ?_ hm_ hs_
  unfold moduleReset
  refine keeps_halfClear _ _ (by decide) (keeps_halfClear _ _ (by decide) ?_)
  exact Keeps.all (s := s) rfl rfl (fun _ => rfl) (Keeps.refl _ s)

theorem keeps_execResetN {s : State}  :
    Keeps 0x1FFFFFFFFFFFFF s (after s (execResetN s)) := by
  unfold execResetN
  try dsimp only
  repeat' first
    | (simp +contextual +decide (maxDischargeDepth := 60) only [after_next, ↓keeps_foldl, ↓keeps_ite, Keeps.refl, implies_true, ↓keeps_ledgerH, ↓keeps_moduleReset, Reg.SYS_LOCKOUT_ACTIVE]; done)
    | simp only [after_next]
    | split

theorem keeps_powerUp {ps : Nat} {s0 s : State} (vsup vhold : Nat) (hm_ : subParts 0x1FFFFFFFFFFFFF ps = true)
    (hs_ : Keeps ps s0 s) : Keeps ps s0 (powerUp s vsup vhold) := by
  refine Keeps.comp (a := 0x1FFFFFFFFFFFFF) ?_ hm_ hs_
  unfold powerUp
  refine keeps_wr _ _ _ (by decide) (keeps_wr _ _ _ (by decide) (keeps_moduleReset _ (by decide) ?_))
  exact Keeps.all (s := s) rfl rfl id (Keeps.refl _ s)

theorem keeps_execPowerOn {s : State} (vsup vhold : Nat) :
    Keeps 0x1FFFFFFFFFFFFF s (after s (execPowerOn vsup vhold s)) := by
  unfold execPowerOn
  try dsimp only
  repeat' first
    | (simp +contextual +decide (maxDischargeDepth := 60) only [after_next, ↓keeps_ite, Keeps.refl, ↓keeps_powerUp, Reg.PWR_PF_STAT_PF]; done)
    | simp only [after_next]
    | split

theorem keeps_trySlots {ps : Nat} {s0 s : State} (h : HalfId) (faults l : List Nat) (hm_ : subParts 0x10238401240001 ps = true)
    (hs_ : Keeps ps s0 s) : Keeps ps s0 (trySlots s h faults l).1 := by
  induction l generalizing s with
  | nil => exact hs_
  | cons k t ih =>
    unfold trySlots
    dsimp only
    have h1 := keeps_putVerdict h k (verifySlot s h k (slotFault faults h k)) hm_ hs_
    split
    · exact h1
    · exact ih h1

theorem keeps_chainRegs {ps : Nat} {s0 s : State} (h : HalfId) (i : Image) (hm_ : subParts 0x40 ps = true)
    (hs_ : Keeps ps s0 s) : Keeps ps s0 (chainRegs s h i) := by
  refine Keeps.comp (a := 0x40) ?_ hm_ hs_
  clear hm_ hs_
  unfold chainRegs
  try dsimp only
  repeat' first
    | (simp +contextual +decide (maxDischargeDepth := 60) only [↓keeps_foldl, Keeps.refl, implies_true, ↓keeps_setWord, ↓keeps_wr, ↓keeps_wrB, Reg.PCV_FLT_CFG_COND, Reg.PCV_FLT_CFG_PRESENT, Reg.PCV_FLT_CFG_RESP_IMG, Reg.PCV_FLT_CFG_RESP_NOW, Reg.PCV_FLT_CFG_SRC, Reg.PCV_FLT_DET_DET, Reg.PCV_FLT_SUM_COUNT, fits_bank]; done)
    | split

theorem keeps_loadImage {ps : Nat} {s0 s : State} (h : HalfId) (k : Nat) (i : Image) (hm_ : subParts 0x1000004045 ps = true)
    (hs_ : Keeps ps s0 s) : Keeps ps s0 (loadImage s h k i) := by
  refine Keeps.comp (a := 0x1000004045) ?_ hm_ hs_
  clear hm_ hs_
  unfold loadImage
  try dsimp only
  repeat' first
    | (simp +contextual +decide (maxDischargeDepth := 60) only [↓keeps_foldl, Keeps.refl, implies_true, ↓keeps_chainRegs, ↓keeps_wr, ↓keeps_wrB, ↓keeps_half_image, Reg.GAV_STAT_HOME, Reg.IMG_HASH_HASH, Reg.IMG_SERIAL_SERIAL, Reg.IMG_STAT_RUN_KIND, Reg.LGE_PROG_COUNT, Reg.LGE_PROG_CYCLIC, Reg.LGE_PROG_EVENT, Reg.SYS_BOOT_SLOT, Reg.SYS_MODE_COMMISSIONED, Reg.SYS_PACE_CERT_CERT_MIN, fits_instKey]; done)
    | split

theorem keeps_loadGroup {ps : Nat} {s0 s : State} (h : HalfId) (i : Image) (g : Nat) (hm_ : subParts 0x1023AC01240000 ps = true)
    (hs_ : Keeps ps s0 s) : Keeps ps s0 (loadGroup s h i g) := by
  refine Keeps.comp (a := 0x1023AC01240000) ?_ hm_ hs_
  clear hm_ hs_
  unfold loadGroup
  try dsimp only
  repeat' first
    | (simp +contextual +decide (maxDischargeDepth := 60) only [↓keeps_ite, Keeps.refl, ↓keeps_ledgerH, ↓keeps_modMode, ↓keeps_half_groups]; done)
    | split

theorem keeps_loadSettings {ps : Nat} {s0 s : State} (h : HalfId) (i : Image) (hm_ : subParts 0x1023AC01240001 ps = true)
    (hs_ : Keeps ps s0 s) : Keeps ps s0 (loadSettings s h i) := by
  refine Keeps.comp (a := 0x1023AC01240001) ?_ hm_ hs_
  clear hm_ hs_
  unfold loadSettings
  try dsimp only
  repeat' first
    | (simp +contextual +decide (maxDischargeDepth := 60) only [↓keeps_foldl, ↓keeps_ite, Keeps.refl, implies_true, ↓keeps_modMode, ↓keeps_loadGroup, ↓keeps_wr, Reg.SET_ACTIVE_ACTIVE, Reg.SET_ACTIVE_STAGED]; done)
    | split

theorem keeps_loadTiles {ps : Nat} {s0 s : State} (h : HalfId) (i : Image) (hm_ : subParts 0x12238401240600 ps = true)
    (hs_ : Keeps ps s0 s) : Keeps ps s0 (loadTiles s h i) := by
  refine Keeps.comp (a := 0x12238401240600) ?_ hm_ hs_
  clear hm_ hs_
  unfold loadTiles
  try dsimp only
  repeat' first
    | (simp +contextual +decide (maxDischargeDepth := 60) only [↓keeps_foldl, ↓keeps_ite, Keeps.refl, implies_true, ↓keeps_fnPut, ↓keeps_genPut, ↓keeps_rotInit, ↓keeps_wr, Reg.FAB_INV_INV, Reg.FAB_OP_OP, Reg.FAB_PU_PU, Reg.FST_OP_HI_OP, Reg.FST_OP_LO_OP, Reg.FST_PU_HI_PU, Reg.FST_PU_LO_PU, fits_instKey]; done)
    | split

theorem keeps_loadField {ps : Nat} {s0 s : State} (h : HalfId) (hm_ : subParts 0x1023CD012C3800 ps = true)
    (hs_ : Keeps ps s0 s) : Keeps ps s0 (loadField s h) := by
  refine Keeps.comp (a := 0x1023CD012C3800) ?_ hm_ hs_
  clear hm_ hs_
  unfold loadField
  try dsimp only
  repeat' first
    | (simp +contextual +decide (maxDischargeDepth := 60) only [↓keeps_ite, Keeps.refl, ↓keeps_modMode, ↓keeps_fieldApply, ↓keeps_fieldClasses, ↓keeps_closeCommandsOff]; done)
    | split

theorem keeps_bootFails {ps : Nat} {s0 s : State} (h : HalfId) (hm_ : subParts 0x1023D4012C0040 ps = true)
    (hs_ : Keeps ps s0 s) : Keeps ps s0 (bootFails s h) := by
  refine Keeps.comp (a := 0x1023D4012C0040) ?_ hm_ hs_
  clear hm_ hs_
  unfold bootFails
  try dsimp only
  repeat' first
    | (simp +contextual +decide (maxDischargeDepth := 60) only [↓keeps_ite, Keeps.refl, ↓keeps_tallyPartner, ↓keeps_half_image]; done)
    | split

theorem keeps_bootImage {ps : Nat} {s0 s : State} (h : HalfId) (faults : List Nat) (hm_ : subParts 0x1223FD012C7E45 ps = true)
    (hs_ : Keeps ps s0 s) : Keeps ps s0 (bootImage s h faults) := by
  refine Keeps.comp (a := 0x1223FD012C7E45) ?_ hm_ hs_
  clear hm_ hs_
  unfold bootImage
  try dsimp only
  repeat' first
    | (simp +contextual +decide (maxDischargeDepth := 60) only [↓keeps_ite, Keeps.refl, ↓keeps_ledgerH, ↓keeps_trySlots, ↓keeps_loadImage, ↓keeps_loadSettings, ↓keeps_loadTiles, ↓keeps_loadField, ↓keeps_bootFails, ↓keeps_wr, ↓keeps_wrB, Reg.SYS_BOOT_FALLBACK, Reg.SYS_MODE_BOOT_STEP]; done)
    | split

theorem keeps_bootImages {ps : Nat} {s0 s : State} (hs : List HalfId) (faults : List Nat) (hm_ : subParts 0x17F7FD07ECFE4D ps = true)
    (hs_ : Keeps ps s0 s) : Keeps ps s0 (bootImages s hs faults) := by
  refine Keeps.comp (a := 0x17F7FD07ECFE4D) ?_ hm_ hs_
  clear hm_ hs_
  unfold bootImages
  try dsimp only
  repeat' first
    | (simp +contextual +decide (maxDischargeDepth := 60) only [↓keeps_foldl, ↓keeps_ite, Keeps.refl, implies_true, ↓keeps_lockoutCause, ↓keeps_bootImage]; done)
    | split

theorem keeps_releaseReset {ps : Nat} {s0 s : State} (h : HalfId) (hm_ : subParts 0x1800804000051 ps = true)
    (hs_ : Keeps ps s0 s) : Keeps ps s0 (releaseReset s h) := by
  refine Keeps.comp (a := 0x1800804000051) ?_ hm_ hs_
  clear hm_ hs_
  unfold releaseReset
  try dsimp only
  repeat' first
    | (simp +contextual +decide (maxDischargeDepth := 60) only [Keeps.refl, ↓keeps_traceGap, ↓keeps_modMode, ↓keeps_refWrite, ↓keeps_wr, ↓keeps_wrB, Reg.SMP_CLK_STAT_FAST_LOCK, Reg.SMP_CLK_STAT_MOD_LOCK, Reg.SYS_MODE_BOOT_STEP]; done)
    | split

theorem keeps_execHalfResetsReleased {s : State} (only : Option HalfId) (bootSel : Nat) (faults : List Nat) :
    Keeps 0x17F7FD87ECFE5D s (after s (execHalfResetsReleased only bootSel faults s)) := by
  unfold execHalfResetsReleased
  try dsimp only
  repeat' first
    | (simp +contextual +decide (maxDischargeDepth := 60) only [after_next, ↓keeps_foldl, Keeps.refl, implies_true, ↓keeps_bootImages, ↓keeps_releaseReset, ↓keeps_die_railsSel, *]; done)
    | decide
    | (intro _ _ _; try dsimp only)
    | with_reducible apply keeps_foldl
    | with_reducible apply keeps_bootImages
    | with_reducible apply keeps_releaseReset
    | simp only [after_next]
    | split
    | with_reducible apply keeps_ite
  repeat' first
    | (simp +contextual +decide (maxDischargeDepth := 60) only [after_next, ↓keeps_foldl, Keeps.refl, implies_true, ↓keeps_bootImages, ↓keeps_releaseReset, ↓keeps_die_railsSel]; done)
    | simp only [after_next]
    | split

theorem keeps_startCalibration {ps : Nat} {s0 s : State} (h : HalfId) (hm_ : subParts 0x1000000000011 ps = true)
    (hs_ : Keeps ps s0 s) : Keeps ps s0 (startCalibration s h) := by
  refine Keeps.comp (a := 0x1000000000011) ?_ hm_ hs_
  clear hm_ hs_
  unfold startCalibration
  try dsimp only
  repeat' first
    | (simp +contextual +decide (maxDischargeDepth := 60) only [↓keeps_ite, Keeps.refl, ↓keeps_modFe, ↓keeps_trackerLoad, ↓keeps_wr, Reg.SMP_CAL_STAT_STATUS, Reg.SYS_MODE_BOOT_STEP]; done)
    | split

theorem keeps_execHash {s : State} (h : HalfId) :
    Keeps 0x17F7CD07ECEE59 s (after s (execHash h s)) := by
  unfold execHash
  try dsimp only
  repeat' first
    | (simp +contextual +decide (maxDischargeDepth := 60) only [after_next, ↓keeps_ite, Keeps.refl, ↓keeps_modMode, ↓keeps_tallyPartner, ↓keeps_lockoutCause, ↓keeps_startCalibration, ↓keeps_wr, Reg.SYS_BOOT_PARTNER, Reg.SYS_MODE_BOOT_STEP]; done)
    | simp only [after_next]
    | split

theorem keeps_execPartnerHashTimeout {s : State} (h : HalfId) :
    Keeps 0x1123C4012C0055 s (after s (execPartnerHashTimeout h s)) := by
  unfold execPartnerHashTimeout
  try dsimp only
  repeat' first
    | (simp +contextual +decide (maxDischargeDepth := 60) only [after_next, Keeps.refl, ↓keeps_tallyPartner, ↓keeps_startCalibration, ↓keeps_wr, Reg.GAV_STAT_PARTNER_ROLE, Reg.SYS_BOOT_PARTNER, Reg.SYS_MODE_BOOT_STEP]; done)
    | simp only [after_next]
    | split

theorem keeps_bootLogic {ps : Nat} {s0 s : State} (h : HalfId) (hm_ : subParts 0x14238401240001 ps = true)
    (hs_ : Keeps ps s0 s) : Keeps ps s0 (bootLogic s h) := by
  refine Keeps.comp (a := 0x14238401240001) ?_ hm_ hs_
  clear hm_ hs_
  unfold bootLogic
  try dsimp only
  repeat' first
    | (simp +contextual +decide (maxDischargeDepth := 60) only [↓keeps_ite, Keeps.refl, ↓keeps_ledgerH, ↓keeps_modLge, ↓keeps_wrB, Reg.SYS_BOOT_WARM]; done)
    | split

theorem keeps_execCalibrationDone {s : State} (h : HalfId) (fast delays : List Int) :
    Keeps 0x1523C6012C0051 s (after s (execCalibrationDone h fast delays s)) := by
  unfold execCalibrationDone
  try dsimp only
  repeat' first
    | (simp +contextual +decide (maxDischargeDepth := 60) only [after_next, Keeps.refl, ↓keeps_calibrated, ↓keeps_modRounds, ↓keeps_bootLogic, ↓keeps_wr, Reg.SYS_MODE_BOOT_STEP]; done)
    | simp only [after_next]
    | split

theorem keeps_restartHalf {ps : Nat} {s0 s : State} (h : HalfId) (by_ : List Byte) (cause : Nat) (hm_ : subParts 0x1FF7CF87EEEE4D ps = true)
    (hs_ : Keeps ps s0 s) : Keeps ps s0 (restartHalf s h by_ cause) := by
  refine Keeps.comp (a := 0x1FF7CF87EEEE4D) ?_ hm_ hs_
  clear hm_ hs_
  unfold restartHalf
  try dsimp only
  repeat' first
    | (simp +contextual +decide (maxDischargeDepth := 60) only [Keeps.refl, ↓keeps_modMode, ↓keeps_modFe, ↓keeps_modDec, ↓keeps_modLge, ↓keeps_discardSegments, ↓keeps_modArd, ↓keeps_injEnd, ↓keeps_setMode, ↓keeps_modGav, ↓keeps_release, ↓keeps_wr, Reg.GAV_LS_STAT_STATE, Reg.GAV_STAT_PARTNER_ROLE, Reg.SYS_BOOT_WARM, Reg.SYS_MODE_BOOT_STEP]; done)
    | split

theorem keeps_restartBoth {ps : Nat} {s0 s : State} (hs : List HalfId) (by_ : List Byte) (cause : Nat) (hold : Bool) (faults : List Nat) (hm_ : subParts 0x1FF7FF87EEFE4D ps = true)
    (hs_ : Keeps ps s0 s) : Keeps ps s0 (restartBoth s hs by_ cause hold faults) := by
  refine Keeps.comp (a := 0x1FF7FF87EEFE4D) ?_ hm_ hs_
  clear hm_ hs_
  unfold restartBoth
  try dsimp only
  repeat' first
    | (simp +contextual +decide (maxDischargeDepth := 60) only [↓keeps_foldl, ↓keeps_ite, Keeps.refl, implies_true, ↓keeps_setDos, ↓keeps_cells, ↓keeps_modRounds, ↓keeps_bootImages, ↓keeps_restartHalf, ↓keeps_wrB, Reg.GAV_STAT_NO_LEADER, Reg.TRM_CELL_STAT_BOOT_HOLD, Reg.TRM_CELL_STAT_NO_LEADER]; done)
    | split

end Sys2Proof.Machine
end

