-- ==== Sys2Proof/Laws/KeepsModes.lean ====
section
/-!
SUPPORT. `Keeps` for the operations of Machine/Modes.lean: the parts each may change.
-/

namespace Sys2Proof.Machine

open Sys2Proof (HalfId Instr Byte Word Accessor)

theorem keeps_followMode {ps : Nat} {s0 s : State} (h l : HalfId) (hm_ : subParts 0x1023CC012C0041 ps = true)
    (hs_ : Keeps ps s0 s) : Keeps ps s0 (followMode s h l) := by
  refine Keeps.comp (a := 0x1023CC012C0041) ?_ hm_ hs_
  clear hm_ hs_
  unfold followMode
  try dsimp only
  repeat' first
    | (simp +contextual +decide (maxDischargeDepth := 60) only [Keeps.refl, ↓keeps_irq, ↓keeps_modMode, ↓keeps_suspendUpdate, ↓keeps_wr, ↓keeps_wrB, Reg.SYS_BLOCK_DO_BLOCK, Reg.SYS_BLOCK_FTO_BLOCK, Reg.SYS_MODE_C0_BLOCK, Reg.SYS_MODE_MODE]; done)
    | split

theorem keeps_tallyStanding {ps : Nat} {s0 s : State} (h : HalfId) (hm_ : subParts 0x4000000000 ps = true)
    (hs_ : Keeps ps s0 s) : Keeps ps s0 (tallyStanding s h) := by
  refine Keeps.comp (a := 0x4000000000) ?_ hm_ hs_
  clear hm_ hs_
  unfold tallyStanding
  try dsimp only
  repeat' first
    | (simp +contextual +decide (maxDischargeDepth := 60) only [↓keeps_foldl, ↓keeps_ite, Keeps.refl, implies_true, ↓keeps_half_mode, ↓keeps_half_image, ↓keeps_half_groups, ↓keeps_half_tally, ↓keeps_half_evSeq, ↓keeps_half_port, ↓keeps_half_stk, ↓keeps_half_acq, ↓keeps_half_crt, ↓keeps_half_ard, ↓keeps_half_evq, ↓keeps_half_mgmt, ↓keeps_half_trace, ↓keeps_half_fe, ↓keeps_half_dec, ↓keeps_half_lge, ↓keeps_half_gav, ↓keeps_store, ↓keeps_free, ↓keeps_ticks, ↓keeps_die_time, ↓keeps_die_io, ↓keeps_die_gavel, ↓keeps_die_mon, ↓keeps_die_evSeq, ↓keeps_die_rails, ↓keeps_die_supply, ↓keeps_die_railsSel]; done)
    | split

theorem keeps_firstReport {ps : Nat} {s0 s : State} (h : HalfId) (hm_ : subParts 0x80000 ps = true)
    (hs_ : Keeps ps s0 s) : Keeps ps s0 (firstReport s h) := by
  refine Keeps.comp (a := 0x80000) ?_ hm_ hs_
  clear hm_ hs_
  unfold firstReport
  try dsimp only
  repeat' first
    | (simp +contextual +decide (maxDischargeDepth := 60) only [↓keeps_foldl, Keeps.refl, implies_true, ↓keeps_wr, Reg.TLY_CAUSE_CODE, Reg.TLY_OVERALL_OVERALL, Reg.TLY_SUB_SUB0, tlySub, fits_instKey]; done)
    | split

theorem keeps_flushHeld {ps : Nat} {s0 s : State} (h : HalfId) (hm_ : subParts 0x230401200000 ps = true)
    (hs_ : Keeps ps s0 s) : Keeps ps s0 (flushHeld s h) := by
  refine Keeps.comp (a := 0x230401200000) ?_ hm_ hs_
  clear hm_ hs_
  unfold flushHeld
  try dsimp only
  repeat' first
    | (simp +contextual +decide (maxDischargeDepth := 60) only [↓keeps_foldl, Keeps.refl, implies_true, ↓keeps_storeAppend, ↓keeps_modPort]; done)
    | split

theorem keeps_loadConfig {ps : Nat} {s0 s : State} (h : HalfId) (hm_ : subParts 0xA00000 ps = true)
    (hs_ : Keeps ps s0 s) : Keeps ps s0 (loadConfig s h) := by
  refine Keeps.comp (a := 0xA00000) ?_ hm_ hs_
  unfold loadConfig
  refine keeps_wr _ _ _ (by decide) (keeps_foldl _ _ (fun t e ht => ?_) (Keeps.refl _ s))
  split
  · rename_i hk
    refine keeps_setWord _ _ _ ?_ ht
    simp only [configKey, Bool.and_eq_true, Bool.or_eq_true, beq_iff_eq] at hk
    rcases hk.2 with hb | hb <;> rw [fits, hb] <;> decide
  · exact ht

theorem keeps_loadTables {ps : Nat} {s0 s : State} (h : HalfId) (hm_ : subParts 0x400000000000 ps = true)
    (hs_ : Keeps ps s0 s) : Keeps ps s0 (loadTables s h) := by
  refine Keeps.comp (a := 0x400000000000) ?_ hm_ hs_
  clear hm_ hs_
  unfold loadTables
  try dsimp only
  repeat' first
    | (simp +contextual +decide (maxDischargeDepth := 60) only [Keeps.refl, ↓keeps_modMgmt]; done)
    | split

theorem keeps_bootVote {ps : Nat} {s0 s : State} (h : HalfId) (hm_ : subParts 0x1823C5012C2800 ps = true)
    (hs_ : Keeps ps s0 s) : Keeps ps s0 (bootVote s h) := by
  refine Keeps.comp (a := 0x1823C5012C2800) ?_ hm_ hs_
  clear hm_ hs_
  unfold bootVote
  try dsimp only
  repeat' first
    | (simp +contextual +decide (maxDischargeDepth := 60) only [↓keeps_ite, Keeps.refl, ↓keeps_votePresent, ↓keeps_presence]; done)
    | split

theorem keeps_releaseHold {ps : Nat} {s0 s : State}  (hm_ : subParts 0x1023C5012C2801 ps = true)
    (hs_ : Keeps ps s0 s) : Keeps ps s0 (releaseHold s) := by
  refine Keeps.comp (a := 0x1023C5012C2801) ?_ hm_ hs_
  clear hm_ hs_
  unfold releaseHold
  try dsimp only
  repeat' first
    | (simp +contextual +decide (maxDischargeDepth := 60) only [Keeps.refl, ↓keeps_cells, ↓keeps_wr, ↓keeps_wrB, Reg.SYS_LOCKOUT_ACTIVE, Reg.SYS_LOCKOUT_CAUSE, Reg.TRM_CELL_STAT_BOOT_HOLD, Reg.TRM_CELL_STAT_LOCKOUT]; done)
    | split

theorem keeps_partnerBack {ps : Nat} {s0 s : State} (p : HalfId) (hm_ : subParts 0x1023C4012C0040 ps = true)
    (hs_ : Keeps ps s0 s) : Keeps ps s0 (partnerBack s p) := by
  refine Keeps.comp (a := 0x1023C4012C0040) ?_ hm_ hs_
  clear hm_ hs_
  unfold partnerBack
  try dsimp only
  repeat' first
    | (simp +contextual +decide (maxDischargeDepth := 60) only [Keeps.refl, ↓keeps_tallyPartner]; done)
    | split

theorem keeps_bootArrive {ps : Nat} {s0 s : State} (h : HalfId) (ms : Nat) (hm_ : subParts 0x17F7CD07ECEE41 ps = true)
    (hs_ : Keeps ps s0 s) : Keeps ps s0 (bootArrive s h ms) := by
  refine Keeps.comp (a := 0x17F7CD07ECEE41) ?_ hm_ hs_
  clear hm_ hs_
  unfold bootArrive
  try dsimp only
  repeat' first
    | (simp +contextual +decide (maxDischargeDepth := 60) only [Keeps.refl, ↓keeps_setMode, ↓keeps_followMode, ↓keeps_tallyStanding, ↓keeps_firstReport, ↓keeps_loadConfig, ↓keeps_loadTables, ↓keeps_wr, Reg.LGE_STAT_CAUSE, Reg.SYS_BOOT_DURATION, Reg.SYS_MODE_BOOT_STEP]; done)
    | split

theorem keeps_bootRecord {ps : Nat} {s0 s : State} (h : HalfId) (first : Bool) (hm_ : subParts 0x10278401240000 ps = true)
    (hs_ : Keeps ps s0 s) : Keeps ps s0 (bootRecord s h first) := by
  refine Keeps.comp (a := 0x10278401240000) ?_ hm_ hs_
  clear hm_ hs_
  unfold bootRecord
  try dsimp only
  repeat' first
    | (simp +contextual +decide (maxDischargeDepth := 60) only [↓keeps_foldl, ↓keeps_ite, Keeps.refl, implies_true, ↓keeps_ledgerH, ↓keeps_modStore, ↓keeps_modAcq, ↓keeps_setCommit, ↓keeps_flushHeld]; done)
    | split

theorem keeps_bootResume {ps : Nat} {s0 s : State} (h : HalfId) (hm_ : subParts 0x1837CD016CA801 ps = true)
    (hs_ : Keeps ps s0 s) : Keeps ps s0 (bootResume s h) := by
  refine Keeps.comp (a := 0x1837CD016CA801) ?_ hm_ hs_
  clear hm_ hs_
  unfold bootResume
  try dsimp only
  repeat' first
    | (simp +contextual +decide (maxDischargeDepth := 60) only [Keeps.refl, ↓keeps_modMode, ↓keeps_recorderStart, ↓keeps_eraBump, ↓keeps_bootVote, ↓keeps_releaseHold]; done)
    | split

theorem keeps_execBootComplete {s : State} (h : HalfId) (ms : Nat) :
    Keeps 0x1FF7CD07ECEE41 s (after s (execBootComplete h ms s)) := by
  unfold execBootComplete
  try dsimp only
  repeat' first
    | (simp +contextual +decide (maxDischargeDepth := 60) only [after_next, ↓keeps_ite, Keeps.refl, ↓keeps_decideOut, ↓keeps_suspendUpdate, ↓keeps_partnerBack, ↓keeps_bootArrive, ↓keeps_bootRecord, ↓keeps_bootResume, Reg.SYS_MODE_BOOT_STEP, *]; done)
    | decide
    | (intro _ _ _; try dsimp only)
    | with_reducible apply keeps_foldl
    | with_reducible apply keeps_decideOut
    | with_reducible apply keeps_suspendUpdate
    | with_reducible apply keeps_partnerBack
    | with_reducible apply keeps_bootArrive
    | with_reducible apply keeps_bootRecord
    | with_reducible apply keeps_bootResume
    | simp only [after_next]
    | split
    | with_reducible apply keeps_ite
  repeat' first
    | (simp +contextual +decide (maxDischargeDepth := 60) only [after_next, ↓keeps_ite, Keeps.refl, ↓keeps_decideOut, ↓keeps_suspendUpdate, ↓keeps_partnerBack, ↓keeps_bootArrive, ↓keeps_bootRecord, ↓keeps_bootResume, Reg.SYS_MODE_BOOT_STEP]; done)
    | simp only [after_next]
    | split

theorem keeps_modeStart {ps : Nat} {s0 s : State} (h : HalfId) (c kind index : Nat) (hm_ : subParts 0xC00000001 ps = true)
    (hs_ : Keeps ps s0 s) : Keeps ps s0 (modeStart s h c kind index) := by
  refine Keeps.comp (a := 0xC00000001) ?_ hm_ hs_
  clear hm_ hs_
  unfold modeStart
  try dsimp only
  repeat' first
    | (simp +contextual +decide (maxDischargeDepth := 60) only [↓keeps_ite, Keeps.refl, ↓keeps_logPut, ↓keeps_setPend]; done)
    | split

theorem keeps_exitLockout {ps : Nat} {s0 s : State} (h : HalfId) (faults : List Nat) (hm_ : subParts 0x1FF7FF87EEFE4D ps = true)
    (hs_ : Keeps ps s0 s) : Keeps ps s0 (exitLockout s h faults) := by
  refine Keeps.comp (a := 0x1FF7FF87EEFE4D) ?_ hm_ hs_
  clear hm_ hs_
  unfold exitLockout
  try dsimp only
  repeat' first
    | (simp +contextual +decide (maxDischargeDepth := 60) only [↓keeps_foldl, Keeps.refl, implies_true, ↓keeps_ledgerH, ↓keeps_modeStatus, ↓keeps_restartBoth]; done)
    | split

theorem keeps_modeCmd {ps : Nat} {s0 s : State} (h : HalfId) (c kind index : Nat) (faults : List Nat) (hm_ : subParts 0x1FF7FF87EEFE4D ps = true)
    (hs_ : Keeps ps s0 s) : Keeps ps s0 (modeCmd s h c kind index faults) := by
  refine Keeps.comp (a := 0x1FF7FF87EEFE4D) ?_ hm_ hs_
  clear hm_ hs_
  unfold modeCmd
  try dsimp only
  repeat' first
    | (simp +contextual +decide (maxDischargeDepth := 60) only [↓keeps_ite, Keeps.refl, ↓keeps_modeResult, ↓keeps_modeRefuse, ↓keeps_layupTrigger, ↓keeps_modeStart, ↓keeps_exitLockout]; done)
    | split

theorem keeps_execEnterService {s : State} (h : HalfId) :
    Keeps 0x1FF7FF87EEFE4D s (after s (execEnterService h s)) := by
  unfold execEnterService
  try dsimp only
  repeat' first
    | (simp +contextual +decide (maxDischargeDepth := 60) only [after_next, Keeps.refl, ↓keeps_access, ↓keeps_modeCmd]; done)
    | simp only [after_next]
    | split

theorem keeps_execEnterTest {s : State} (h : HalfId) :
    Keeps 0x1FF7FF87EEFE4D s (after s (execEnterTest h s)) := by
  unfold execEnterTest
  try dsimp only
  repeat' first
    | (simp +contextual +decide (maxDischargeDepth := 60) only [after_next, Keeps.refl, ↓keeps_access, ↓keeps_modeCmd]; done)
    | simp only [after_next]
    | split

theorem keeps_execExitTest {s : State} (h : HalfId) :
    Keeps 0x1FF7FF87EEFE4D s (after s (execExitTest h s)) := by
  unfold execExitTest
  try dsimp only
  repeat' first
    | (simp +contextual +decide (maxDischargeDepth := 60) only [after_next, Keeps.refl, ↓keeps_access, ↓keeps_modeCmd]; done)
    | simp only [after_next]
    | split

theorem keeps_execExtendTest {s : State} (h : HalfId) :
    Keeps 0x1FF7FF87EEFE4D s (after s (execExtendTest h s)) := by
  unfold execExtendTest
  try dsimp only
  repeat' first
    | (simp +contextual +decide (maxDischargeDepth := 60) only [after_next, Keeps.refl, ↓keeps_access, ↓keeps_modeCmd]; done)
    | simp only [after_next]
    | split

theorem keeps_execEnterLayup {s : State} (h : HalfId) :
    Keeps 0x1FF7FF87EEFE4D s (after s (execEnterLayup h s)) := by
  unfold execEnterLayup
  try dsimp only
  repeat' first
    | (simp +contextual +decide (maxDischargeDepth := 60) only [after_next, Keeps.refl, ↓keeps_access, ↓keeps_modeCmd]; done)
    | simp only [after_next]
    | split

theorem keeps_execExitLayup {s : State} (h : HalfId) :
    Keeps 0x1FF7FF87EEFE4D s (after s (execExitLayup h s)) := by
  unfold execExitLayup
  try dsimp only
  repeat' first
    | (simp +contextual +decide (maxDischargeDepth := 60) only [after_next, Keeps.refl, ↓keeps_access, ↓keeps_modeCmd]; done)
    | simp only [after_next]
    | split

theorem keeps_execExitLockout {s : State} (h : HalfId) (faults : List Nat) :
    Keeps 0x1FF7FF87EEFE4D s (after s (execExitLockout h faults s)) := by
  unfold execExitLockout
  try dsimp only
  repeat' first
    | (simp +contextual +decide (maxDischargeDepth := 60) only [after_next, Keeps.refl, ↓keeps_access, ↓keeps_modeCmd]; done)
    | simp only [after_next]
    | split

theorem keeps_execEnableOutput {s : State} (h : HalfId) (kind index : Nat) :
    Keeps 0x1FF7FF87EEFE4D s (after s (execEnableOutput h kind index s)) := by
  unfold execEnableOutput
  try dsimp only
  repeat' first
    | (simp +contextual +decide (maxDischargeDepth := 60) only [after_next, Keeps.refl, ↓keeps_access, ↓keeps_modeCmd]; done)
    | simp only [after_next]
    | split

theorem keeps_execDisableOutput {s : State} (h : HalfId) (kind index : Nat) :
    Keeps 0x1FF7FF87EEFE4D s (after s (execDisableOutput h kind index s)) := by
  unfold execDisableOutput
  try dsimp only
  repeat' first
    | (simp +contextual +decide (maxDischargeDepth := 60) only [after_next, Keeps.refl, ↓keeps_access, ↓keeps_modeCmd]; done)
    | simp only [after_next]
    | split

theorem keeps_execWarmRestart {s : State} (h : HalfId) :
    Keeps 0x1FF7FF87EEFE4D s (after s (execWarmRestart h s)) := by
  unfold execWarmRestart
  try dsimp only
  repeat' first
    | (simp +contextual +decide (maxDischargeDepth := 60) only [after_next, Keeps.refl, ↓keeps_access, ↓keeps_modeCmd]; done)
    | simp only [after_next]
    | split

theorem keeps_execColdRestart {s : State} (h : HalfId) :
    Keeps 0x1FF7FF87EEFE4D s (after s (execColdRestart h s)) := by
  unfold execColdRestart
  try dsimp only
  repeat' first
    | (simp +contextual +decide (maxDischargeDepth := 60) only [after_next, Keeps.refl, ↓keeps_access, ↓keeps_modeCmd]; done)
    | simp only [after_next]
    | split

theorem keeps_execModePropose {s : State} (h : HalfId) :
    Keeps 0x800000001 s (after s (execModePropose h s)) := by
  unfold execModePropose
  try dsimp only
  repeat' first
    | (simp +contextual +decide (maxDischargeDepth := 60) only [after_next, ↓keeps_ite, Keeps.refl, ↓keeps_setPend]; done)
    | simp only [after_next]
    | split

theorem keeps_execModeAck {s : State} (h : HalfId) :
    Keeps 0x800000001 s (after s (execModeAck h s)) := by
  unfold execModeAck
  try dsimp only
  repeat' first
    | (simp +contextual +decide (maxDischargeDepth := 60) only [after_next, ↓keeps_ite, Keeps.refl, ↓keeps_setPend]; done)
    | simp only [after_next]
    | split

theorem keeps_putBlock {ps : Nat} {s0 s : State} (h : HalfId) (kind index : Nat) (on : Bool) (hm_ : subParts 0x1273C501EC2C01 ps = true)
    (hs_ : Keeps ps s0 s) : Keeps ps s0 (putBlock s h kind index on) := by
  refine Keeps.comp (a := 0x1273C501EC2C01) ?_ hm_ hs_
  clear hm_ hs_
  unfold putBlock
  try dsimp only
  repeat' first
    | (simp +contextual +decide (maxDischargeDepth := 60) only [↓keeps_ite, Keeps.refl, ↓keeps_decideOut, ↓keeps_wrB, ↓keeps_wrBit, Reg.SYS_BLOCK_DO_BLOCK, Reg.SYS_BLOCK_FTO_BLOCK, Reg.SYS_MODE_C0_BLOCK]; done)
    | split

theorem keeps_putTest {ps : Nat} {s0 s : State} (h : HalfId) (p : PendMode) (hm_ : subParts 0x800000001 ps = true)
    (hs_ : Keeps ps s0 s) : Keeps ps s0 (putTest s h p) := by
  refine Keeps.comp (a := 0x800000001) ?_ hm_ hs_
  clear hm_ hs_
  unfold putTest
  try dsimp only
  repeat' first
    | (simp +contextual +decide (maxDischargeDepth := 60) only [Keeps.refl, ↓keeps_modMode, ↓keeps_wr, Reg.SYS_TEST_TIME_REMAIN]; done)
    | split

theorem keeps_restartLogic {ps : Nat} {s0 s : State} (h : HalfId) (kind : Nat) (hm_ : subParts 0x1423C4052C4000 ps = true)
    (hs_ : Keeps ps s0 s) : Keeps ps s0 (restartLogic s h kind) := by
  refine Keeps.comp (a := 0x1423C4052C4000) ?_ hm_ hs_
  clear hm_ hs_
  unfold restartLogic
  try dsimp only
  repeat' first
    | (simp +contextual +decide (maxDischargeDepth := 60) only [↓keeps_ite, Keeps.refl, ↓keeps_modLge, ↓keeps_logicEnd]; done)
    | split

theorem keeps_changeHalf {ps : Nat} {s0 s : State} (h : HalfId) (p : PendMode) (hm_ : subParts 0x17F7CD07ECEE41 ps = true)
    (hs_ : Keeps ps s0 s) : Keeps ps s0 (changeHalf s h p) := by
  refine Keeps.comp (a := 0x17F7CD07ECEE41) ?_ hm_ hs_
  clear hm_ hs_
  unfold changeHalf
  try dsimp only
  repeat' first
    | (simp +contextual +decide (maxDischargeDepth := 60) only [↓keeps_ite, Keeps.refl, ↓keeps_decideOut, ↓keeps_setMode, ↓keeps_putBlock, ↓keeps_putTest, ↓keeps_restartLogic, ↓keeps_wrB, Reg.SYS_MODE_COMMISSIONED]; done)
    | split

theorem keeps_changeModule {ps : Nat} {s0 s : State} (l : HalfId) (p : PendMode) (hm_ : subParts 0x1023C5012C2000 ps = true)
    (hs_ : Keeps ps s0 s) : Keeps ps s0 (changeModule s l p) := by
  refine Keeps.comp (a := 0x1023C5012C2000) ?_ hm_ hs_
  clear hm_ hs_
  unfold changeModule
  try dsimp only
  repeat' first
    | (simp +contextual +decide (maxDischargeDepth := 60) only [↓keeps_ite, Keeps.refl, ↓keeps_ledgerH, ↓keeps_leaderSafe]; done)
    | split

theorem keeps_activateNow {ps : Nat} {s0 s : State} (l : HalfId) (k : Nat) (faults : List Nat) (hm_ : subParts 0x1FF7FF87EEFE4D ps = true)
    (hs_ : Keeps ps s0 s) : Keeps ps s0 (activateNow s l k faults) := by
  refine Keeps.comp (a := 0x1FF7FF87EEFE4D) ?_ hm_ hs_
  clear hm_ hs_
  unfold activateNow
  try dsimp only
  repeat' first
    | (simp +contextual +decide (maxDischargeDepth := 60) only [↓keeps_foldl, ↓keeps_ite, Keeps.refl, implies_true, ↓keeps_ledgerH, ↓keeps_traceGap, ↓keeps_modMode, ↓keeps_restartBoth]; done)
    | split

theorem keeps_changeUnacked {ps : Nat} {s0 s : State} (l : HalfId) (p : PendMode) (st : Nat) (hm_ : subParts 0x800000001 ps = true)
    (hs_ : Keeps ps s0 s) : Keeps ps s0 (changeUnacked s l p st) := by
  refine Keeps.comp (a := 0x800000001) ?_ hm_ hs_
  clear hm_ hs_
  unfold changeUnacked
  try dsimp only
  repeat' first
    | (simp +contextual +decide (maxDischargeDepth := 60) only [↓keeps_ite, Keeps.refl, ↓keeps_modeResult, ↓keeps_modeStatus, ↓keeps_clearPend, ↓keeps_wr, Reg.IMG_STAT_CMD_STATUS, Reg.SYS_MODE_RESULT_CMD]; done)
    | split

theorem keeps_execModeSwitchInstant {s : State} (faults : List Nat) :
    Keeps 0x1FF7FF87EEFE4D s (after s (execModeSwitchInstant faults s)) := by
  unfold execModeSwitchInstant
  try dsimp only
  repeat' first
    | (simp +contextual +decide (maxDischargeDepth := 60) only [after_next, ↓keeps_foldl, Keeps.refl, implies_true, ↓keeps_modeStatus, ↓keeps_clearPend, ↓keeps_changeHalf, ↓keeps_changeModule, ↓keeps_activateNow, ↓keeps_changeUnacked]; done)
    | simp only [after_next]
    | split

theorem keeps_execLayupReqHeld {s : State}  :
    Keeps 0x10238C01240001 s (after s (execLayupReqHeld s)) := by
  unfold execLayupReqHeld
  try dsimp only
  repeat' first
    | (simp +contextual +decide (maxDischargeDepth := 60) only [after_next, ↓keeps_ite, Keeps.refl, ↓keeps_modeResult, ↓keeps_modeRefuse, ↓keeps_modeStart]; done)
    | simp only [after_next]
    | split

theorem keeps_execLayupReqFall {s : State}  :
    Keeps 0x10238C01240001 s (after s (execLayupReqFall s)) := by
  unfold execLayupReqFall
  try dsimp only
  repeat' first
    | (simp +contextual +decide (maxDischargeDepth := 60) only [after_next, ↓keeps_ite, Keeps.refl, ↓keeps_layupTrigger]; done)
    | simp only [after_next]
    | split

theorem keeps_retFlush {ps : Nat} {s0 s : State} (h : HalfId) (hm_ : subParts 0x400000000 ps = true)
    (hs_ : Keeps ps s0 s) : Keeps ps s0 (retFlush s h) := by
  refine Keeps.comp (a := 0x400000000) ?_ hm_ hs_
  clear hm_ hs_
  unfold retFlush
  try dsimp only
  repeat' first
    | (simp +contextual +decide (maxDischargeDepth := 60) only [Keeps.refl, ↓keeps_unitValid, *]; done)
    | decide
    | (intro _ _ _; try dsimp only)
    | with_reducible apply keeps_foldl
    | with_reducible apply keeps_unitValid
    | split
    | with_reducible apply keeps_ite
  repeat' first
    | (simp +contextual +decide (maxDischargeDepth := 60) only [Keeps.refl, ↓keeps_unitValid]; done)
    | split

theorem keeps_layupFlush {ps : Nat} {s0 s : State} (h : HalfId) (hm_ : subParts 0x800404000000 ps = true)
    (hs_ : Keeps ps s0 s) : Keeps ps s0 (layupFlush s h) := by
  refine Keeps.comp (a := 0x800404000000) ?_ hm_ hs_
  clear hm_ hs_
  unfold layupFlush
  try dsimp only
  repeat' first
    | (simp +contextual +decide (maxDischargeDepth := 60) only [↓keeps_ite, Keeps.refl, ↓keeps_traceGap, ↓keeps_traceSnapshot, ↓keeps_retFlush]; done)
    | split

theorem keeps_fastOff {ps : Nat} {s0 s : State} (h : HalfId) (hm_ : subParts 0x1373C501EC3C00 ps = true)
    (hs_ : Keeps ps s0 s) : Keeps ps s0 (fastOff s h) := by
  refine Keeps.comp (a := 0x1373C501EC3C00) ?_ hm_ hs_
  clear hm_ hs_
  unfold fastOff
  try dsimp only
  repeat' first
    | (simp +contextual +decide (maxDischargeDepth := 60) only [↓keeps_foldl, Keeps.refl, implies_true, ↓keeps_modFe, ↓keeps_fastEval, ↓keeps_afterFast]; done)
    | split

theorem keeps_execStandbyPowerDown {s : State}  :
    Keeps 0x1FFFFFFFFFFFFF s (after s (execStandbyPowerDown s)) := by
  unfold execStandbyPowerDown
  try dsimp only
  repeat' first
    | (simp +contextual +decide (maxDischargeDepth := 60) only [after_next, ↓keeps_ite, Keeps.refl, ↓keeps_traceGap, ↓keeps_modMode, ↓keeps_endLockstep, ↓keeps_halfReset, ↓keeps_layupFlush, ↓keeps_fastOff, ↓keeps_wr, Reg.ETH_CORE_STATE]; done)
    | simp only [after_next]
    | split

theorem keeps_execFastWakeDone {s : State}  :
    Keeps 0x17F7CD07ECEE41 s (after s (execFastWakeDone s)) := by
  unfold execFastWakeDone
  try dsimp only
  repeat' first
    | (simp +contextual +decide (maxDischargeDepth := 60) only [after_next, Keeps.refl, ↓keeps_modMode, ↓keeps_wakeChains, ↓keeps_rearmAreas, ↓keeps_coreWake, ↓keeps_layupDone, Reg.GAV_LS_STAT_STATE]; done)
    | simp only [after_next]
    | split

theorem keeps_execLayupExitTimeout {s : State}  :
    Keeps 0x17F7CD07ECEE41 s (after s (execLayupExitTimeout s)) := by
  unfold execLayupExitTimeout
  try dsimp only
  repeat' first
    | (simp +contextual +decide (maxDischargeDepth := 60) only [after_next, ↓keeps_ite, Keeps.refl, ↓keeps_layupDone]; done)
    | simp only [after_next]
    | split

theorem keeps_execTestTimeout {s : State}  :
    Keeps 0x17F7CD07ECEE41 s (after s (execTestTimeout s)) := by
  unfold execTestTimeout
  try dsimp only
  repeat' first
    | (simp +contextual +decide (maxDischargeDepth := 60) only [after_next, ↓keeps_foldl, Keeps.refl, implies_true, ↓keeps_ledgerH, ↓keeps_modeResult, ↓keeps_setMode]; done)
    | simp only [after_next]
    | split

theorem keeps_execLockoutRequest {s : State} (h : HalfId) (cause : Nat) :
    Keeps 0x17F7CD07ECEE49 s (after s (execLockoutRequest h cause s)) := by
  unfold execLockoutRequest
  try dsimp only
  repeat' first
    | (simp +contextual +decide (maxDischargeDepth := 60) only [after_next, ↓keeps_ite, Keeps.refl, ↓keeps_lockoutCause]; done)
    | simp only [after_next]
    | split

theorem keeps_execLivenessTimeout {s : State} (h : HalfId) :
    Keeps 0x17F7CD07ECEEC9 s (after s (execLivenessTimeout h s)) := by
  unfold execLivenessTimeout
  try dsimp only
  repeat' first
    | (simp +contextual +decide (maxDischargeDepth := 60) only [after_next, ↓keeps_ite, Keeps.refl, ↓keeps_voteAbsent, ↓keeps_mclkMove, ↓keeps_lockoutCause, Reg.TRM_CELL_STAT_BOOT_HOLD]; done)
    | simp only [after_next]
    | split

theorem keeps_execGavelFault {s : State}  :
    Keeps 0x17F7CD07ECEE49 s (after s (execGavelFault s)) := by
  unfold execGavelFault
  try dsimp only
  repeat' first
    | (simp +contextual +decide (maxDischargeDepth := 60) only [after_next, ↓keeps_ite, Keeps.refl, ↓keeps_lockoutCause]; done)
    | simp only [after_next]
    | split

theorem keeps_execRailFault {s : State}  :
    Keeps 0x17F7CD87ECEE49 s (after s (execRailFault s)) := by
  unfold execRailFault
  try dsimp only
  repeat' first
    | (simp +contextual +decide (maxDischargeDepth := 60) only [after_next, ↓keeps_ite, Keeps.refl, ↓keeps_lockoutCause, ↓keeps_die_railsSel]; done)
    | simp only [after_next]
    | split

end Sys2Proof.Machine
end

