-- ==== Sys2Proof/Laws/KeepsPower.lean ====
section
/-!
SUPPORT. `Keeps` for the operations of Machine/Power.lean: the parts each may change.
-/

namespace Sys2Proof.Machine

open Sys2Proof (HalfId Instr Byte Word Accessor)

theorem keeps_paceMon {ps : Nat} {s0 s : State} (h : HalfId) (hm_ : subParts 0x10238C01240000 ps = true)
    (hs_ : Keeps ps s0 s) : Keeps ps s0 (paceMon s h) := by
  refine Keeps.comp (a := 0x10238C01240000) ?_ hm_ hs_
  clear hm_ hs_
  unfold paceMon
  try dsimp only
  repeat' first
    | (simp +contextual +decide (maxDischargeDepth := 60) only [↓keeps_ite, Keeps.refl, ↓keeps_ledgerH, ↓keeps_modMode]; done)
    | split

theorem keeps_paceLow {ps : Nat} {s0 s : State} (h : HalfId) (on few : Bool) (hm_ : subParts 0x1023CC012C0001 ps = true)
    (hs_ : Keeps ps s0 s) : Keeps ps s0 (paceLow s h on few) := by
  refine Keeps.comp (a := 0x1023CC012C0001) ?_ hm_ hs_
  clear hm_ hs_
  unfold paceLow
  try dsimp only
  repeat' first
    | (simp +contextual +decide (maxDischargeDepth := 60) only [↓keeps_ite, Keeps.refl, ↓keeps_irq, ↓keeps_ledgerH, ↓keeps_tallySet, ↓keeps_modMode, ↓keeps_wrB, Reg.SYS_PACE_PACE_LOW]; done)
    | split

theorem keeps_paceShow {ps : Nat} {s0 s : State} (h : HalfId) (counts : List Nat) (hm_ : subParts 0x20000001 ps = true)
    (hs_ : Keeps ps s0 s) : Keeps ps s0 (paceShow s h counts) := by
  refine Keeps.comp (a := 0x20000001) ?_ hm_ hs_
  clear hm_ hs_
  unfold paceShow
  try dsimp only
  repeat' first
    | (simp +contextual +decide (maxDischargeDepth := 60) only [Keeps.refl, ↓keeps_freeVal, ↓keeps_wr, Reg.SYS_PACE_LOWEST_LOWEST, Reg.SYS_PACE_MON_FAIL, Reg.SYS_PACE_PACE, Reg.SYS_PACE_WORST_MON]; done)
    | split

theorem keeps_paceJudge {ps : Nat} {s0 s : State} (h : HalfId) (few : Bool) (hm_ : subParts 0x1023CC012C0001 ps = true)
    (hs_ : Keeps ps s0 s) : Keeps ps s0 (paceJudge s h few) := by
  refine Keeps.comp (a := 0x1023CC012C0001) ?_ hm_ hs_
  clear hm_ hs_
  unfold paceJudge
  try dsimp only
  repeat' first
    | (simp +contextual +decide (maxDischargeDepth := 60) only [↓keeps_ite, Keeps.refl, ↓keeps_tallySet, ↓keeps_modMode, ↓keeps_paceLow]; done)
    | split

theorem keeps_execPaceMeasurement {s : State} (h : HalfId) (counts : List Nat) :
    Keeps 0x1023CC212C0001 s (after s (execPaceMeasurement h counts s)) := by
  unfold execPaceMeasurement
  try dsimp only
  repeat' first
    | (simp +contextual +decide (maxDischargeDepth := 60) only [after_next, Keeps.refl, ↓keeps_count, ↓keeps_modMode, ↓keeps_paceMon, ↓keeps_paceShow, ↓keeps_paceJudge, Reg.SYS_PACE_MON_FAIL]; done)
    | simp only [after_next]
    | split

theorem keeps_execPaceLowClear {s : State} (h : HalfId) :
    Keeps 0x1023CC012C0001 s (after s (execPaceLowClear h s)) := by
  unfold execPaceLowClear
  try dsimp only
  repeat' first
    | (simp +contextual +decide (maxDischargeDepth := 60) only [after_next, ↓keeps_ite, Keeps.refl, ↓keeps_paceLow, Reg.SYS_PACE_PACE_LOW]; done)
    | simp only [after_next]
    | split

theorem keeps_pfNotify {ps : Nat} {s0 s : State} (h : HalfId) (cause vsup vhold : Nat) (hm_ : subParts 0x192F8C01278044 ps = true)
    (hs_ : Keeps ps s0 s) : Keeps ps s0 (pfNotify s h cause vsup vhold) := by
  refine Keeps.comp (a := 0x192F8C01278044) ?_ hm_ hs_
  clear hm_ hs_
  unfold pfNotify
  try dsimp only
  repeat' first
    | (simp +contextual +decide (maxDischargeDepth := 60) only [↓keeps_foldl, Keeps.refl, implies_true, ↓keeps_ledgerH, ↓keeps_imgAbort, ↓keeps_stopArea, ↓keeps_hostPowerFail, ↓keeps_injEnd, ↓keeps_testAbort, ↓keeps_handoverAbandon]; done)
    | split

theorem keeps_measureAll {ps : Nat} {s0 s : State} (h : HalfId) (hm_ : subParts 0x40000000000 ps = true)
    (hs_ : Keeps ps s0 s) : Keeps ps s0 (measureAll s h) := by
  refine Keeps.comp (a := 0x40000000000) ?_ hm_ hs_
  clear hm_ hs_
  unfold measureAll
  try dsimp only
  repeat' first
    | (simp +contextual +decide (maxDischargeDepth := 60) only [↓keeps_foldl, Keeps.refl, implies_true, ↓keeps_measureSegment]; done)
    | split

theorem keeps_pfFlush {ps : Nat} {s0 s : State} (h : HalfId) (times : List Nat) (hm_ : subParts 0x1027C4012C8000 ps = true)
    (hs_ : Keeps ps s0 s) : Keeps ps s0 (pfFlush s h times) := by
  refine Keeps.comp (a := 0x1027C4012C8000) ?_ hm_ hs_
  clear hm_ hs_
  unfold pfFlush
  try dsimp only
  repeat' first
    | (simp +contextual +decide (maxDischargeDepth := 60) only [↓keeps_foldl, Keeps.refl, implies_true, ↓keeps_ledgerH, ↓keeps_modAcq, ↓keeps_notCommitted, ↓keeps_recCommit, ↓keeps_retFlush, ↓keeps_measureAll]; done)
    | split

theorem keeps_pfHold {ps : Nat} {s0 s : State}  (hm_ : subParts 0x1FFFFFFFFFFFFF ps = true)
    (hs_ : Keeps ps s0 s) : Keeps ps s0 (pfHold s) := by
  refine Keeps.comp (a := 0x1FFFFFFFFFFFFF) ?_ hm_ hs_
  clear hm_ hs_
  unfold pfHold
  try dsimp only
  repeat' first
    | (simp +contextual +decide (maxDischargeDepth := 60) only [↓keeps_foldl, Keeps.refl, implies_true, ↓keeps_setDos, ↓keeps_cells, ↓keeps_halfClear, ↓keeps_wrB, ↓keeps_die_mon, Reg.TRM_CELL_STAT_A_ABSENT, Reg.TRM_CELL_STAT_BOOT_HOLD, Reg.TRM_CELL_STAT_B_ABSENT]; done)
    | split

theorem keeps_pfDeclare {ps : Nat} {s0 s : State} (cause vsup vhold : Nat) (hm_ : subParts 0x2 ps = true)
    (hs_ : Keeps ps s0 s) : Keeps ps s0 (pfDeclare s cause vsup vhold) := by
  refine Keeps.comp (a := 0x2) ?_ hm_ hs_
  clear hm_ hs_
  unfold pfDeclare
  try dsimp only
  repeat' first
    | (simp +contextual +decide (maxDischargeDepth := 60) only [Keeps.refl, ↓keeps_wr, ↓keeps_wrB, Reg.PWR_PF_STAT_CAUSE, Reg.PWR_PF_STAT_PF, Reg.PWR_VOLT_VHOLD, Reg.PWR_VOLT_VSUP]; done)
    | split

theorem keeps_pfSequence {ps : Nat} {s0 s : State} (cause vsup vhold : Nat) (times : List Nat) (hm_ : subParts 0x1FFFFFFFFFFFFF ps = true)
    (hs_ : Keeps ps s0 s) : Keeps ps s0 (pfSequence s cause vsup vhold times) := by
  refine Keeps.comp (a := 0x1FFFFFFFFFFFFF) ?_ hm_ hs_
  clear hm_ hs_
  unfold pfSequence
  try dsimp only
  repeat' first
    | (simp +contextual +decide (maxDischargeDepth := 60) only [↓keeps_foldl, ↓keeps_ite, Keeps.refl, implies_true, ↓keeps_modStore, ↓keeps_pendAbort, ↓keeps_setAbort, ↓keeps_pfNotify, ↓keeps_pfFlush, ↓keeps_pfHold, ↓keeps_pfDeclare, ↓keeps_wr, Reg.PWR_PF_STAT_STEP]; done)
    | split

theorem keeps_execPowerFailDeclare {s : State} (vsup vhold : Nat) (times : List Nat) :
    Keeps 0x1FFFFFFFFFFFFF s (after s (execPowerFailDeclare vsup vhold times s)) := by
  unfold execPowerFailDeclare
  try dsimp only
  repeat' first
    | (simp +contextual +decide (maxDischargeDepth := 60) only [after_next, ↓keeps_ite, Keeps.refl, ↓keeps_pfSequence, Reg.PWR_PF_STAT_PF]; done)
    | simp only [after_next]
    | split

theorem keeps_execConverterStop {s : State}  :
    Keeps 0x1FFFFFFFFFFFFF s (after s (execConverterStop s)) := by
  unfold execConverterStop
  try dsimp only
  repeat' first
    | (simp +contextual +decide (maxDischargeDepth := 60) only [after_next, Keeps.refl, ↓keeps_halfClear, ↓keeps_moduleReset, ↓keeps_die_supply]; done)
    | simp only [after_next]
    | split

theorem keeps_execPowerRestoreBoot {s : State} (vsup vhold : Nat) :
    Keeps 0x1FFFFFFFFFFFFF s (after s (execPowerRestoreBoot vsup vhold s)) := by
  unfold execPowerRestoreBoot
  try dsimp only
  repeat' first
    | (simp +contextual +decide (maxDischargeDepth := 60) only [after_next, ↓keeps_ite, Keeps.refl, ↓keeps_powerUp, Reg.PWR_PF_STAT_PF]; done)
    | simp only [after_next]
    | split

end Sys2Proof.Machine
end

