-- ==== Sys2Proof/Laws/KeepsSchedule.lean ====
section
/-!
SUPPORT. `Keeps` for the operations of Machine/Schedule.lean: the parts each may change.
-/

namespace Sys2Proof.Machine

open Sys2Proof (HalfId Instr Byte Word Accessor)

theorem keeps_domainSend {ps : Nat} {s0 s : State} (h : HalfId) (t tag : Nat) (hm_ : subParts 0x10338401744000 ps = true)
    (hs_ : Keeps ps s0 s) : Keeps ps s0 (domainSend s h t tag) := by
  refine Keeps.comp (a := 0x10338401744000) ?_ hm_ hs_
  clear hm_ hs_
  unfold domainSend
  try dsimp only
  repeat' first
    | (simp +contextual +decide (maxDischargeDepth := 60) only [Keeps.refl, ↓keeps_armDomain, ↓keeps_sendFrame]; done)
    | split

theorem keeps_stkCmd {ps : Nat} {s0 s : State} (h : HalfId) (code origin : Nat) (hm_ : subParts 0x10338401744000 ps = true)
    (hs_ : Keeps ps s0 s) : Keeps ps s0 (stkCmd s h code origin) := by
  refine Keeps.comp (a := 0x10338401744000) ?_ hm_ hs_
  clear hm_ hs_
  unfold stkCmd
  try dsimp only
  repeat' first
    | (simp +contextual +decide (maxDischargeDepth := 60) only [↓keeps_ite, Keeps.refl, ↓keeps_result, ↓keeps_takeStk, ↓keeps_domainSend, ↓keeps_half_stk, Reg.STK_DNS_NS, Reg.STK_DSEC_HI_SEC, Reg.STK_DSEC_LO_SEC, Reg.STK_DTAG_TAG, Reg.STK_RESULT_CMD, Reg.STK_RESULT_SEQ, Reg.STK_RESULT_STATUS]; done)
    | split

theorem keeps_execTake {s : State} (h : HalfId) :
    Keeps 0x10338401744000 s (after s (execTake h s)) := by
  unfold execTake
  try dsimp only
  repeat' first
    | (simp +contextual +decide (maxDischargeDepth := 60) only [after_next, Keeps.refl, ↓keeps_access, ↓keeps_stkCmd]; done)
    | simp only [after_next]
    | split

theorem keeps_execDomainTakeCmd {s : State} (h : HalfId) :
    Keeps 0x10338401744000 s (after s (execDomainTakeCmd h s)) := by
  unfold execDomainTakeCmd
  try dsimp only
  repeat' first
    | (simp +contextual +decide (maxDischargeDepth := 60) only [after_next, Keeps.refl, ↓keeps_access, ↓keeps_stkCmd]; done)
    | simp only [after_next]
    | split

theorem keeps_execDomainTakeRelay {s : State} (h : HalfId) :
    Keeps 0x10338401744000 s (after s (execDomainTakeRelay h s)) := by
  unfold execDomainTakeRelay
  try dsimp only
  repeat' first
    | (simp +contextual +decide (maxDischargeDepth := 60) only [after_next, ↓keeps_ite, Keeps.refl, ↓keeps_domainSend, ↓keeps_half_stk]; done)
    | simp only [after_next]
    | split

theorem keeps_execDomainTakeDue {s : State} (h : HalfId) :
    Keeps 0x10238401344000 s (after s (execDomainTakeDue h s)) := by
  unfold execDomainTakeDue
  try dsimp only
  repeat' first
    | (simp +contextual +decide (maxDischargeDepth := 60) only [after_next, ↓keeps_ite, Keeps.refl, ↓keeps_domainTake, Reg.STK_STAT_DPEND]; done)
    | simp only [after_next]
    | split

theorem keeps_schedRejects {ps : Nat} {s0 s : State} (h : HalfId) (e : Nat) (hm_ : subParts 0x20000000 ps = true)
    (hs_ : Keeps ps s0 s) : Keeps ps s0 ((schedRejects s h e)).2 := by
  refine Keeps.comp (a := 0x20000000) ?_ hm_ hs_
  clear hm_ hs_
  unfold schedRejects
  try dsimp only
  repeat' first
    | (simp +contextual +decide (maxDischargeDepth := 60) only [Keeps.refl, ↓keeps_freeVal, Reg.TIME_SCH_CFG_ACTION, Reg.TIME_SCH_CFG_POLICY]; done)
    | split

theorem keeps_schedTrigger {ps : Nat} {s0 s : State} (h : HalfId) (mask : Nat) (late : Bool) (hm_ : subParts 0x10068000008000 ps = true)
    (hs_ : Keeps ps s0 s) : Keeps ps s0 ((schedTrigger s h mask late)).1 := by
  refine Keeps.comp (a := 0x10068000008000) ?_ hm_ hs_
  clear hm_ hs_
  unfold schedTrigger
  try dsimp only
  repeat' first
    | (simp +contextual +decide (maxDischargeDepth := 60) only [↓keeps_ite, Keeps.refl, ↓keeps_result, ↓keeps_triggerAreas, Reg.ACQ_RESULT_CMD, Reg.ACQ_RESULT_SEQ, Reg.ACQ_RESULT_STATUS]; done)
    | split

theorem keeps_schedPulse {ps : Nat} {s0 s : State} (h : HalfId) (us : Nat) (hm_ : subParts 0x40000000 ps = true)
    (hs_ : Keeps ps s0 s) : Keeps ps s0 ((schedPulse s h us)).1 := by
  refine Keeps.comp (a := 0x40000000) ?_ hm_ hs_
  clear hm_ hs_
  unfold schedPulse
  try dsimp only
  repeat' first
    | (simp +contextual +decide (maxDischargeDepth := 60) only [Keeps.refl, ↓keeps_modTime, Reg.TIME_PPS_MODE]; done)
    | split

theorem keeps_schedSwitch {ps : Nat} {s0 s : State} (h : HalfId) (g e : Nat) (hm_ : subParts 0x800000001 ps = true)
    (hs_ : Keeps ps s0 s) : Keeps ps s0 ((schedSwitch s h g e)).1 := by
  refine Keeps.comp (a := 0x800000001) ?_ hm_ hs_
  clear hm_ hs_
  unfold schedSwitch
  try dsimp only
  repeat' first
    | (simp +contextual +decide (maxDischargeDepth := 60) only [↓keeps_ite, Keeps.refl, ↓keeps_result, ↓keeps_switchStart, ↓keeps_wr, Reg.SET_RESULT_CMD, Reg.SET_RESULT_DETAIL, Reg.SET_RESULT_SEQ, Reg.SET_RESULT_STATUS]; done)
    | split

theorem keeps_schedAct {ps : Nat} {s0 s : State} (h : HalfId) (e : Nat) (late : Bool) (hm_ : subParts 0x11378C4174C041 ps = true)
    (hs_ : Keeps ps s0 s) : Keeps ps s0 ((schedAct s h e late)).1 := by
  refine Keeps.comp (a := 0x11378C4174C041) ?_ hm_ hs_
  clear hm_ hs_
  unfold schedAct
  try dsimp only
  repeat' first
    | (simp +contextual +decide (maxDischargeDepth := 60) only [Keeps.refl, ↓keeps_injStart, ↓keeps_stkCmd, ↓keeps_schedTrigger, ↓keeps_schedPulse, ↓keeps_schedSwitch, Reg.PCV_INJ_STAT_STATUS, Reg.TIME_SCH_CFG_ACTION, Reg.TIME_SCH_CFG_ARG]; done)
    | split

theorem keeps_schedExecute {ps : Nat} {s0 s : State} (h : HalfId) (e late : Nat) (hm_ : subParts 0x11378C4174C049 ps = true)
    (hs_ : Keeps ps s0 s) : Keeps ps s0 (schedExecute s h e late) := by
  refine Keeps.comp (a := 0x11378C4174C049) ?_ hm_ hs_
  clear hm_ hs_
  unfold schedExecute
  try dsimp only
  repeat' first
    | (simp +contextual +decide (maxDischargeDepth := 60) only [↓keeps_ite, Keeps.refl, ↓keeps_ledgerH, ↓keeps_schedEnd, ↓keeps_schedAct, ↓keeps_wr, ↓keeps_wrB, Reg.TIME_SCH_LATE_NS, Reg.TIME_SCH_STAT_LATE, fits_bank]; done)
    | split

theorem keeps_schedRun {ps : Nat} {s0 s : State} (h : HalfId) (e : Nat) (hm_ : subParts 0x11378C6174C049 ps = true)
    (hs_ : Keeps ps s0 s) : Keeps ps s0 (schedRun s h e) := by
  refine Keeps.comp (a := 0x11378C6174C049) ?_ hm_ hs_
  clear hm_ hs_
  unfold schedRun
  try dsimp only
  repeat' first
    | (simp +contextual +decide (maxDischargeDepth := 60) only [↓keeps_ite, Keeps.refl, ↓keeps_ledgerH, ↓keeps_schedEnd, ↓keeps_schedRejects, ↓keeps_schedExecute]; done)
    | split

theorem keeps_schedDue {ps : Nat} {s0 s : State} (h : HalfId) (e act : Nat) (hm_ : subParts 0x11378C6174C049 ps = true)
    (hs_ : Keeps ps s0 s) : Keeps ps s0 (schedDue s h e act) := by
  refine Keeps.comp (a := 0x11378C6174C049) ?_ hm_ hs_
  clear hm_ hs_
  unfold schedDue
  try dsimp only
  repeat' first
    | (simp +contextual +decide (maxDischargeDepth := 60) only [↓keeps_ite, Keeps.refl, ↓keeps_schedRun]; done)
    | split

theorem keeps_execScheduledStocktake {s : State} (h : HalfId) (entry : Nat) :
    Keeps 0x11378C6174C049 s (after s (execScheduledStocktake h entry s)) := by
  unfold execScheduledStocktake
  try dsimp only
  repeat' first
    | (simp +contextual +decide (maxDischargeDepth := 60) only [after_next, Keeps.refl, ↓keeps_schedDue]; done)
    | simp only [after_next]
    | split

theorem keeps_execScheduledSetSwitch {s : State} (h : HalfId) (entry : Nat) :
    Keeps 0x11378C6174C049 s (after s (execScheduledSetSwitch h entry s)) := by
  unfold execScheduledSetSwitch
  try dsimp only
  repeat' first
    | (simp +contextual +decide (maxDischargeDepth := 60) only [after_next, Keeps.refl, ↓keeps_schedDue]; done)
    | simp only [after_next]
    | split

theorem keeps_execRecTrigger {s : State} (h : HalfId) (entry : Nat) :
    Keeps 0x11378C6174C049 s (after s (execRecTrigger h entry s)) := by
  unfold execRecTrigger
  try dsimp only
  repeat' first
    | (simp +contextual +decide (maxDischargeDepth := 60) only [after_next, Keeps.refl, ↓keeps_schedDue]; done)
    | simp only [after_next]
    | split

theorem keeps_execTestInject {s : State} (h : HalfId) (entry : Nat) :
    Keeps 0x11378C6174C049 s (after s (execTestInject h entry s)) := by
  unfold execTestInject
  try dsimp only
  repeat' first
    | (simp +contextual +decide (maxDischargeDepth := 60) only [after_next, Keeps.refl, ↓keeps_schedDue]; done)
    | simp only [after_next]
    | split

theorem keeps_execPulse {s : State} (h : HalfId) (entry : Nat) :
    Keeps 0x11378C6174C049 s (after s (execPulse h entry s)) := by
  unfold execPulse
  try dsimp only
  repeat' first
    | (simp +contextual +decide (maxDischargeDepth := 60) only [after_next, Keeps.refl, ↓keeps_schedDue]; done)
    | simp only [after_next]
    | split

theorem keeps_schedStore {ps : Nat} {s0 s : State} (h : HalfId) (e w : Nat) (hm_ : subParts 0x8 ps = true)
    (hs_ : Keeps ps s0 s) : Keeps ps s0 (schedStore s h e w) := by
  refine Keeps.comp (a := 0x8) ?_ hm_ hs_
  clear hm_ hs_
  unfold schedStore
  try dsimp only
  repeat' first
    | (simp +contextual +decide (maxDischargeDepth := 60) only [Keeps.refl, ↓keeps_wr, Reg.TIME_SCH_CFG_ACTION, Reg.TIME_SCH_CFG_ARG, Reg.TIME_SCH_CFG_POLICY, fits_bank]; done)
    | split

theorem keeps_schedCfg {ps : Nat} {s0 s : State} (h : HalfId) (e w : Nat) (hm_ : subParts 0x11378C6174C049 ps = true)
    (hs_ : Keeps ps s0 s) : Keeps ps s0 (schedCfg s h e w) := by
  refine Keeps.comp (a := 0x11378C6174C049) ?_ hm_ hs_
  clear hm_ hs_
  unfold schedCfg
  try dsimp only
  repeat' first
    | (simp +contextual +decide (maxDischargeDepth := 60) only [↓keeps_ite, Keeps.refl, ↓keeps_schedRun, ↓keeps_schedStore, ↓keeps_wr, ↓keeps_wrB, Reg.TIME_SCH_CFG_ARM, Reg.TIME_SCH_STAT_LATE, Reg.TIME_SCH_STAT_STATE, Reg.TIME_SCH_STAT_STATUS, fits_bank]; done)
    | split

theorem keeps_execScheduleArm {s : State} (h : HalfId) (entry cfg : Nat) :
    Keeps 0x11378C6174C049 s (after s (execScheduleArm h entry cfg s)) := by
  unfold execScheduleArm
  try dsimp only
  repeat' first
    | (simp +contextual +decide (maxDischargeDepth := 60) only [after_next, Keeps.refl, ↓keeps_access, ↓keeps_schedCfg]; done)
    | simp only [after_next]
    | split

theorem keeps_execScheduleDisarm {s : State} (h : HalfId) (entry cfg : Nat) :
    Keeps 0x11378C6174C049 s (after s (execScheduleDisarm h entry cfg s)) := by
  unfold execScheduleDisarm
  try dsimp only
  repeat' first
    | (simp +contextual +decide (maxDischargeDepth := 60) only [after_next, Keeps.refl, ↓keeps_access, ↓keeps_schedCfg]; done)
    | simp only [after_next]
    | split

theorem keeps_afterLoad {ps : Nat} {s0 s : State}  (hm_ : subParts 0x11378C6174C049 ps = true)
    (hs_ : Keeps ps s0 s) : Keeps ps s0 (afterLoad s) := by
  refine Keeps.comp (a := 0x11378C6174C049) ?_ hm_ hs_
  clear hm_ hs_
  unfold afterLoad
  try dsimp only
  repeat' first
    | (simp +contextual +decide (maxDischargeDepth := 60) only [↓keeps_foldl, ↓keeps_ite, Keeps.refl, implies_true, ↓keeps_domainTake, ↓keeps_schedRun]; done)
    | split

theorem keeps_stagedTime {ps : Nat} {s0 s : State}  (hm_ : subParts 0x20000000 ps = true)
    (hs_ : Keeps ps s0 s) : Keeps ps s0 ((stagedTime s)).2 := by
  refine Keeps.comp (a := 0x20000000) ?_ hm_ hs_
  clear hm_ hs_
  unfold stagedTime
  try dsimp only
  repeat' first
    | (simp +contextual +decide (maxDischargeDepth := 60) only [Keeps.refl, ↓keeps_freeVal, Reg.TIME_SET_NS_NS, Reg.TIME_SET_SEC_HI_SEC, Reg.TIME_SET_SEC_LO_SEC]; done)
    | split

theorem keeps_timeCommit {ps : Nat} {s0 s : State}  (hm_ : subParts 0x1137CC617CC049 ps = true)
    (hs_ : Keeps ps s0 s) : Keeps ps s0 (timeCommit s) := by
  refine Keeps.comp (a := 0x1137CC617CC049) ?_ hm_ hs_
  clear hm_ hs_
  unfold timeCommit
  try dsimp only
  repeat' first
    | (simp +contextual +decide (maxDischargeDepth := 60) only [Keeps.refl, ↓keeps_loadBase, ↓keeps_afterLoad, ↓keeps_stagedTime]; done)
    | split

theorem keeps_timeCmd {ps : Nat} {s0 s : State} (h : HalfId) (code : Nat) (hm_ : subParts 0x1137CC617CC049 ps = true)
    (hs_ : Keeps ps s0 s) : Keeps ps s0 (timeCmd s h code) := by
  refine Keeps.comp (a := 0x1137CC617CC049) ?_ hm_ hs_
  clear hm_ hs_
  unfold timeCmd
  try dsimp only
  repeat' first
    | (simp +contextual +decide (maxDischargeDepth := 60) only [↓keeps_ite, Keeps.refl, ↓keeps_result, ↓keeps_loadBase, ↓keeps_holderErr, ↓keeps_afterLoad, ↓keeps_timeCommit, ↓keeps_wrB, Reg.TIME_RESULT_CMD, Reg.TIME_RESULT_SEQ, Reg.TIME_RESULT_STATUS, Reg.TIME_STAT_PENDING, Reg.TIME_STEP_NS]; done)
    | split

theorem keeps_execTimeCommit {s : State} (h : HalfId) :
    Keeps 0x1137CC617CC049 s (after s (execTimeCommit h s)) := by
  unfold execTimeCommit
  try dsimp only
  repeat' first
    | (simp +contextual +decide (maxDischargeDepth := 60) only [after_next, Keeps.refl, ↓keeps_access, ↓keeps_timeCmd]; done)
    | simp only [after_next]
    | split

theorem keeps_execCommitAtPps {s : State} (h : HalfId) :
    Keeps 0x1137CC617CC049 s (after s (execCommitAtPps h s)) := by
  unfold execCommitAtPps
  try dsimp only
  repeat' first
    | (simp +contextual +decide (maxDischargeDepth := 60) only [after_next, Keeps.refl, ↓keeps_access, ↓keeps_timeCmd]; done)
    | simp only [after_next]
    | split

theorem keeps_execTimeStep {s : State} (h : HalfId) :
    Keeps 0x1137CC617CC049 s (after s (execTimeStep h s)) := by
  unfold execTimeStep
  try dsimp only
  repeat' first
    | (simp +contextual +decide (maxDischargeDepth := 60) only [after_next, Keeps.refl, ↓keeps_access, ↓keeps_timeCmd]; done)
    | simp only [after_next]
    | split

theorem keeps_execTimeCancel {s : State} (h : HalfId) :
    Keeps 0x1137CC617CC049 s (after s (execTimeCancel h s)) := by
  unfold execTimeCancel
  try dsimp only
  repeat' first
    | (simp +contextual +decide (maxDischargeDepth := 60) only [after_next, Keeps.refl, ↓keeps_access, ↓keeps_timeCmd]; done)
    | simp only [after_next]
    | split

theorem keeps_execTimeLoadAtSecond {s : State}  :
    Keeps 0x1137CC617CC049 s (after s (execTimeLoadAtSecond s)) := by
  unfold execTimeLoadAtSecond
  try dsimp only
  repeat' first
    | (simp +contextual +decide (maxDischargeDepth := 60) only [after_next, Keeps.refl, ↓keeps_loadBase, ↓keeps_afterLoad, ↓keeps_wr, ↓keeps_wrB, Reg.TIME_RESULT_CMD, Reg.TIME_RESULT_STATUS, Reg.TIME_SET_SEC_HI_SEC, Reg.TIME_SET_SEC_LO_SEC, Reg.TIME_STAT_PENDING, Reg.TIME_STAT_TOD_SET]; done)
    | simp only [after_next]
    | split

theorem keeps_slewWrite {ps : Nat} {s0 s : State} (h : HalfId) (v : Nat) (hm_ : subParts 0x40000009 ps = true)
    (hs_ : Keeps ps s0 s) : Keeps ps s0 (slewWrite s h v) := by
  refine Keeps.comp (a := 0x40000009) ?_ hm_ hs_
  clear hm_ hs_
  unfold slewWrite
  try dsimp only
  repeat' first
    | (simp +contextual +decide (maxDischargeDepth := 60) only [Keeps.refl, ↓keeps_modTime, ↓keeps_wr, ↓keeps_wrB, Reg.SYS_ERR_NOT_HOLDER, Reg.TIME_CFG_SERVO, Reg.TIME_RESULT_STATUS, Reg.TIME_SLEW_PPB]; done)
    | split

theorem keeps_execTimeSlewWrite {s : State} (h : HalfId) (v : Nat) :
    Keeps 0x40000009 s (after s (execTimeSlewWrite h v s)) := by
  unfold execTimeSlewWrite
  try dsimp only
  repeat' first
    | (simp +contextual +decide (maxDischargeDepth := 60) only [after_next, Keeps.refl, ↓keeps_access, ↓keeps_slewWrite]; done)
    | simp only [after_next]
    | split

theorem keeps_measure {ps : Nat} {s0 s : State} (off : Int) (hm_ : subParts 0x1137CC617CC049 ps = true)
    (hs_ : Keeps ps s0 s) : Keeps ps s0 (measure s off) := by
  refine Keeps.comp (a := 0x1137CC617CC049) ?_ hm_ hs_
  clear hm_ hs_
  unfold measure
  try dsimp only
  repeat' first
    | (simp +contextual +decide (maxDischargeDepth := 60) only [↓keeps_ite, Keeps.refl, ↓keeps_trySync, ↓keeps_loadBase, ↓keeps_servoSlew, ↓keeps_measureBase, ↓keeps_afterLoad]; done)
    | split

theorem keeps_rootSync {ps : Nat} {s0 s : State}  (hm_ : subParts 0x10338421640000 ps = true)
    (hs_ : Keeps ps s0 s) : Keeps ps s0 (rootSync s) := by
  refine Keeps.comp (a := 0x10338421640000) ?_ hm_ hs_
  clear hm_ hs_
  unfold rootSync
  try dsimp only
  repeat' first
    | (simp +contextual +decide (maxDischargeDepth := 60) only [↓keeps_foldl, ↓keeps_ite, Keeps.refl, implies_true, ↓keeps_freeVal, ↓keeps_sendFrame]; done)
    | split

theorem keeps_execPtpSync {s : State} (domain master : Nat) (offset : Int) (twoStep : Bool) :
    Keeps 0x1137CC617CC049 s (after s (execPtpSync domain master offset twoStep s)) := by
  unfold execPtpSync
  try dsimp only
  repeat' first
    | (simp +contextual +decide (maxDischargeDepth := 60) only [after_next, ↓keeps_ite, Keeps.refl, ↓keeps_modTime, ↓keeps_measure, ↓keeps_rootSync]; done)
    | simp only [after_next]
    | split

theorem keeps_execPtpFollowUp {s : State} (domain master : Nat) (offset : Int) :
    Keeps 0x1137CC617CC049 s (after s (execPtpFollowUp domain master offset s)) := by
  unfold execPtpFollowUp
  try dsimp only
  repeat' first
    | (simp +contextual +decide (maxDischargeDepth := 60) only [after_next, ↓keeps_ite, Keeps.refl, ↓keeps_modTime, ↓keeps_measure, ↓keeps_rootSync]; done)
    | simp only [after_next]
    | split

theorem keeps_execPtpAnnounce {s : State} (domain master : Nat) (better : Bool) (utc : Option Nat) :
    Keeps 0x40000008 s (after s (execPtpAnnounce domain master better utc s)) := by
  unfold execPtpAnnounce
  try dsimp only
  repeat' first
    | (simp +contextual +decide (maxDischargeDepth := 60) only [after_next, ↓keeps_ite, Keeps.refl, ↓keeps_modTime, ↓keeps_wr, ↓keeps_wrB, Reg.TIME_UTC_OFFSET, Reg.TIME_UTC_VALID]; done)
    | simp only [after_next]
    | split

theorem keeps_execPtpPdelayReq {s : State} (h : HalfId) (domain : Nat) :
    Keeps 0x400000000000 s (after s (execPtpPdelayReq h domain s)) := by
  unfold execPtpPdelayReq
  try dsimp only
  repeat' first
    | (simp +contextual +decide (maxDischargeDepth := 60) only [after_next, ↓keeps_ite, Keeps.refl, ↓keeps_half_mgmt, Reg.TIME_CFG_DOMAIN, Reg.TIME_CFG_TWO_STEP]; done)
    | simp only [after_next]
    | split

theorem keeps_execPtpPdelayResp {s : State} (h : HalfId) (domain delay : Nat) :
    Keeps 0x40000000 s (after s (execPtpPdelayResp h domain delay s)) := by
  unfold execPtpPdelayResp
  try dsimp only
  repeat' first
    | (simp +contextual +decide (maxDischargeDepth := 60) only [after_next, ↓keeps_ite, Keeps.refl, ↓keeps_modTime, Reg.TIME_CFG_CLOCK, Reg.TIME_CFG_DOMAIN]; done)
    | simp only [after_next]
    | split

theorem keeps_execPpsInEdge {s : State} (offset : Int) :
    Keeps 0x1137CC617CC049 s (after s (execPpsInEdge offset s)) := by
  unfold execPpsInEdge
  try dsimp only
  repeat' first
    | (simp +contextual +decide (maxDischargeDepth := 60) only [after_next, ↓keeps_ite, Keeps.refl, ↓keeps_ledgerField, ↓keeps_modTime, ↓keeps_measure, ↓keeps_wr, ↓keeps_wrB, Reg.TIME_PPSCAP_NS_NS, Reg.TIME_PPSCAP_SEC_SEC, Reg.TIME_STAT_PPS_IN_OK]; done)
    | simp only [after_next]
    | split

theorem keeps_execPpsInLost {s : State}  :
    Keeps 0x10238441240008 s (after s (execPpsInLost s)) := by
  unfold execPpsInLost
  try dsimp only
  repeat' first
    | (simp +contextual +decide (maxDischargeDepth := 60) only [after_next, ↓keeps_ite, Keeps.refl, ↓keeps_ledgerField, ↓keeps_modTime, ↓keeps_wrB, Reg.TIME_STAT_PPS_IN_OK]; done)
    | simp only [after_next]
    | split

theorem keeps_execHoldover {s : State}  :
    Keeps 0x1023C4412C0008 s (after s (execHoldover s)) := by
  unfold execHoldover
  try dsimp only
  repeat' first
    | (simp +contextual +decide (maxDischargeDepth := 60) only [after_next, Keeps.refl, ↓keeps_modTime, ↓keeps_setSync, ↓keeps_wr, Reg.TIME_CFG_SERVO, Reg.TIME_STAT_SERVO_STATE]; done)
    | simp only [after_next]
    | split

theorem keeps_execGridSlewDone {s : State}  :
    Keeps 0x1023C4012C0008 s (after s (execGridSlewDone s)) := by
  unfold execGridSlewDone
  try dsimp only
  repeat' first
    | (simp +contextual +decide (maxDischargeDepth := 60) only [after_next, Keeps.refl, ↓keeps_trySync, ↓keeps_wrB, Reg.TIME_STAT_GRID_SLEW]; done)
    | simp only [after_next]
    | split

theorem keeps_execTbClkUnlock {s : State}  :
    Keeps 0x1023C4012C0008 s (after s (execTbClkUnlock s)) := by
  unfold execTbClkUnlock
  try dsimp only
  repeat' first
    | (simp +contextual +decide (maxDischargeDepth := 60) only [after_next, Keeps.refl, ↓keeps_tallyTime, ↓keeps_setSync, ↓keeps_wrB, Reg.TIME_STAT_UNLOCK]; done)
    | simp only [after_next]
    | split

theorem keeps_execTbClkRelock {s : State}  :
    Keeps 0x1023C4012C0008 s (after s (execTbClkRelock s)) := by
  unfold execTbClkRelock
  try dsimp only
  repeat' first
    | (simp +contextual +decide (maxDischargeDepth := 60) only [after_next, Keeps.refl, ↓keeps_tallyTime, ↓keeps_trySync, ↓keeps_wrB, Reg.TIME_STAT_UNLOCK]; done)
    | simp only [after_next]
    | split

theorem keeps_ppsWidth {ps : Nat} {s0 s : State}  (hm_ : subParts 0x20000000 ps = true)
    (hs_ : Keeps ps s0 s) : Keeps ps s0 ((ppsWidth s)).2 := by
  refine Keeps.comp (a := 0x20000000) ?_ hm_ hs_
  clear hm_ hs_
  unfold ppsWidth
  try dsimp only
  repeat' first
    | (simp +contextual +decide (maxDischargeDepth := 60) only [Keeps.refl, ↓keeps_freeVal, Reg.TIME_PPS_WIDTH]; done)
    | split

theorem keeps_execPpsOutSecond {s : State}  :
    Keeps 0x60000000 s (after s (execPpsOutSecond s)) := by
  unfold execPpsOutSecond
  try dsimp only
  repeat' first
    | (simp +contextual +decide (maxDischargeDepth := 60) only [after_next, Keeps.refl, ↓keeps_modTime, ↓keeps_ppsWidth, Reg.TIME_PPS_MODE]; done)
    | simp only [after_next]
    | split

end Sys2Proof.Machine
end

