-- ==== Sys2Proof/Laws/KeepsArcade.lean ====
section
/-!
SUPPORT. `Keeps` for the operations of Machine/Arcade.lean: the parts each may change.
-/

namespace Sys2Proof.Machine

open Sys2Proof (HalfId Instr Byte Word Accessor)

theorem keeps_bazaarItem {ps : Nat} {s0 s : State} (h : HalfId) (src id w : Nat) (hm_ : subParts 0x10208001200000 ps = true)
    (hs_ : Keeps ps s0 s) : Keeps ps s0 (bazaarItem s h src id w) := by
  refine Keeps.comp (a := 0x10208001200000) ?_ hm_ hs_
  clear hm_ hs_
  unfold bazaarItem
  try dsimp only
  repeat' first
    | (simp +contextual +decide (maxDischargeDepth := 60) only [Keeps.refl, ↓keeps_evBump, ↓keeps_qPush]; done)
    | split

theorem keeps_takePoint {ps : Nat} {s0 s : State} (h : HalfId) (lane : Nat) (f : List Byte) (id cls w at_ : Nat) (test : Bool) (hm_ : subParts 0x1033C4016C0000 ps = true)
    (hs_ : Keeps ps s0 s) : Keeps ps s0 (takePoint s h lane f id cls w at_ test) := by
  refine Keeps.comp (a := 0x1033C4016C0000) ?_ hm_ hs_
  clear hm_ hs_
  unfold takePoint
  try dsimp only
  repeat' first
    | (simp +contextual +decide (maxDischargeDepth := 60) only [↓keeps_ite, Keeps.refl, ↓keeps_frameRefuse, ↓keeps_acceptPoint, ↓keeps_bazaarItem]; done)
    | split

theorem keeps_pointsFeed {ps : Nat} {s0 s : State} (h : HalfId) (hm_ : subParts 0x1277C501ECAC00 ps = true)
    (hs_ : Keeps ps s0 s) : Keeps ps s0 (pointsFeed s h) := by
  refine Keeps.comp (a := 0x1277C501ECAC00) ?_ hm_ hs_
  clear hm_ hs_
  unfold pointsFeed
  try dsimp only
  repeat' first
    | (simp +contextual +decide (maxDischargeDepth := 60) only [Keeps.refl, ↓keeps_gooseScan, ↓keeps_decideOut, ↓keeps_edgeTriggers]; done)
    | split

theorem keeps_intertripAct {ps : Nat} {s0 s : State} (h : HalfId) (lane : Nat) (f : List Byte) (hm_ : subParts 0x1277C501ECAC00 ps = true)
    (hs_ : Keeps ps s0 s) : Keeps ps s0 (intertripAct h lane f s) := by
  refine Keeps.comp (a := 0x1277C501ECAC00) ?_ hm_ hs_
  clear hm_ hs_
  unfold intertripAct
  try dsimp only
  repeat' first
    | (simp +contextual +decide (maxDischargeDepth := 60) only [Keeps.refl, ↓keeps_takePoint, ↓keeps_pointsFeed]; done)
    | split

theorem keeps_execIntertrip {s : State} (h : HalfId) (lane : Nat) (frame : List Byte) :
    Keeps 0x1277C501ECAC00 s (after s (execIntertrip h lane frame s)) := by
  unfold execIntertrip
  try dsimp only
  repeat' first
    | (simp +contextual +decide (maxDischargeDepth := 60) only [after_next, Keeps.refl, implies_true, ↓keeps_receiveFrame, ↓keeps_intertripAct]; done)
    | simp only [after_next]
    | split

theorem keeps_updateAct {ps : Nat} {s0 s : State} (h : HalfId) (lane : Nat) (f : List Byte) (a : Nat) (hm_ : subParts 0x1033C4016C0000 ps = true)
    (hs_ : Keeps ps s0 s) : Keeps ps s0 (updateAct s h lane f a) := by
  refine Keeps.comp (a := 0x1033C4016C0000) ?_ hm_ hs_
  clear hm_ hs_
  unfold updateAct
  try dsimp only
  repeat' first
    | (simp +contextual +decide (maxDischargeDepth := 60) only [↓keeps_ite, Keeps.refl, ↓keeps_takePoint]; done)
    | split

theorem keeps_execUpdate {s : State} (h : HalfId) (lane : Nat) (frame : List Byte) :
    Keeps 0x1277C501ECAC00 s (after s (execUpdate h lane frame s)) := by
  unfold execUpdate
  try dsimp only
  repeat' first
    | (simp +contextual +decide (maxDischargeDepth := 60) only [after_next, Keeps.refl, implies_true, ↓keeps_receiveFrame, ↓keeps_pointsFeed, ↓keeps_updateAct]; done)
    | simp only [after_next]
    | split

theorem keeps_streamWord {ps : Nat} {s0 s : State} (h : HalfId) (n q inst w : Nat) (sync : Bool) (hm_ : subParts 0x12238401240200 ps = true)
    (hs_ : Keeps ps s0 s) : Keeps ps s0 (streamWord s h n q inst w sync) := by
  refine Keeps.comp (a := 0x12238401240200) ?_ hm_ hs_
  clear hm_ hs_
  unfold streamWord
  try dsimp only
  repeat' first
    | (simp +contextual +decide (maxDischargeDepth := 60) only [↓keeps_foldl, ↓keeps_ite, Keeps.refl, implies_true, ↓keeps_diffStream]; done)
    | split

theorem keeps_streamAct {ps : Nat} {s0 s : State} (h : HalfId) (f : List Byte) (hm_ : subParts 0x1277C501ECAE00 ps = true)
    (hs_ : Keeps ps s0 s) : Keeps ps s0 (streamAct h f s) := by
  refine Keeps.comp (a := 0x1277C501ECAE00) ?_ hm_ hs_
  clear hm_ hs_
  unfold streamAct
  try dsimp only
  repeat' first
    | (simp +contextual +decide (maxDischargeDepth := 60) only [↓keeps_foldl, Keeps.refl, implies_true, ↓keeps_pointsFeed, ↓keeps_streamWord]; done)
    | split

theorem keeps_execStream {s : State} (h : HalfId) (lane : Nat) (frame : List Byte) :
    Keeps 0x1277C501ECAE00 s (after s (execStream h lane frame s)) := by
  unfold execStream
  try dsimp only
  repeat' first
    | (simp +contextual +decide (maxDischargeDepth := 60) only [after_next, Keeps.refl, implies_true, ↓keeps_receiveFrame, ↓keeps_streamAct]; done)
    | simp only [after_next]
    | split

theorem keeps_execTimeSync {s : State} (h : HalfId) (lane : Nat) (frame : List Byte) (offset : Int) :
    Keeps 0x1137CC617CC049 s (after s (execTimeSync h lane frame offset s)) := by
  unfold execTimeSync
  try dsimp only
  repeat' first
    | (simp +contextual +decide (maxDischargeDepth := 60) only [after_next, ↓keeps_ite, Keeps.refl, implies_true, ↓keeps_receiveFrame, ↓keeps_measure]; done)
    | simp only [after_next]
    | split

theorem keeps_execBazaarRefresh {s : State} (h : HalfId) (pub : Nat) :
    Keeps 0x10738401E40000 s (after s (execBazaarRefresh h pub s)) := by
  unfold execBazaarRefresh
  try dsimp only
  repeat' first
    | (simp +contextual +decide (maxDischargeDepth := 60) only [after_next, ↓keeps_ite, Keeps.refl, ↓keeps_publish]; done)
    | simp only [after_next]
    | split

theorem keeps_execIntertripRepeat {s : State} (h : HalfId) (pub : Nat) :
    Keeps 0x10338401640000 s (after s (execIntertripRepeat h pub s)) := by
  unfold execIntertripRepeat
  try dsimp only
  repeat' first
    | (simp +contextual +decide (maxDischargeDepth := 60) only [after_next, ↓keeps_ite, Keeps.refl, ↓keeps_modArd, ↓keeps_sendPoint]; done)
    | simp only [after_next]
    | split

theorem keeps_execPointStale {s : State} (h : HalfId) (point : Nat) :
    Keeps 0x1277C501ECAC00 s (after s (execPointStale h point s)) := by
  unfold execPointStale
  try dsimp only
  repeat' first
    | (simp +contextual +decide (maxDischargeDepth := 60) only [after_next, ↓keeps_ite, Keeps.refl, ↓keeps_pointGoesStale, ↓keeps_pointsFeed]; done)
    | simp only [after_next]
    | split

end Sys2Proof.Machine
end

