-- ==== Sys2Proof/Laws/KeepsMgmt.lean ====
section
/-!
SUPPORT. `Keeps` for the operations of Machine/Mgmt.lean: the parts each may change.
-/

namespace Sys2Proof.Machine

open Sys2Proof (HalfId Instr Byte Word Accessor)

theorem keeps_emp {ps : Nat} {s0 s : State} (h : HalfId) (e : EmpStatus) (hm_ : subParts 0x400000000000 ps = true)
    (hs_ : Keeps ps s0 s) : Keeps ps s0 (emp s h e) := by
  refine Keeps.comp (a := 0x400000000000) ?_ hm_ hs_
  clear hm_ hs_
  unfold emp
  try dsimp only
  repeat' first
    | (simp +contextual +decide (maxDischargeDepth := 60) only [Keeps.refl, ↓keeps_modMgmt]; done)
    | split

theorem keeps_putSessions {ps : Nat} {s0 s : State} (h : HalfId) (l : List Session) (hm_ : subParts 0x400000800000 ps = true)
    (hs_ : Keeps ps s0 s) : Keeps ps s0 (putSessions s h l) := by
  refine Keeps.comp (a := 0x400000800000) ?_ hm_ hs_
  clear hm_ hs_
  unfold putSessions
  try dsimp only
  repeat' first
    | (simp +contextual +decide (maxDischargeDepth := 60) only [Keeps.refl, ↓keeps_modMgmt, ↓keeps_wr, Reg.ETH_CORE_SESSIONS]; done)
    | split

theorem keeps_queueRelease {ps : Nat} {s0 s : State} (h : HalfId) (q : Nat) (hm_ : subParts 0x200000200000 ps = true)
    (hs_ : Keeps ps s0 s) : Keeps ps s0 (queueRelease s h q) := by
  refine Keeps.comp (a := 0x200000200000) ?_ hm_ hs_
  clear hm_ hs_
  unfold queueRelease
  try dsimp only
  repeat' first
    | (simp +contextual +decide (maxDischargeDepth := 60) only [Keeps.refl, ↓keeps_setWord, ↓keeps_half_evq, Reg.EVQ_CFG_RES, Reg.EVQ_STAT_LOST, fits_bank]; done)
    | split

theorem keeps_queueOpen {ps : Nat} {s0 s : State} (h : HalfId) (q res cap : Nat) (hm_ : subParts 0x200000200000 ps = true)
    (hs_ : Keeps ps s0 s) : Keeps ps s0 (queueOpen s h q res cap) := by
  refine Keeps.comp (a := 0x200000200000) ?_ hm_ hs_
  clear hm_ hs_
  unfold queueOpen
  try dsimp only
  repeat' first
    | (simp +contextual +decide (maxDischargeDepth := 60) only [Keeps.refl, ↓keeps_wr, ↓keeps_half_evq, Reg.EVQ_CFG_CAP, Reg.EVQ_CFG_RES, fits_bank]; done)
    | split

theorem keeps_putElevs {ps : Nat} {s0 s : State} (h : HalfId) (l : List Elevation) (hm_ : subParts 0x400002000000 ps = true)
    (hs_ : Keeps ps s0 s) : Keeps ps s0 (putElevs s h l) := by
  refine Keeps.comp (a := 0x400002000000) ?_ hm_ hs_
  clear hm_ hs_
  unfold putElevs
  try dsimp only
  repeat' first
    | (simp +contextual +decide (maxDischargeDepth := 60) only [Keeps.refl, ↓keeps_modMgmt, ↓keeps_wr, Reg.SEC_STAT_ELEV]; done)
    | split

theorem keeps_elevationEnd {ps : Nat} {s0 s : State} (h : HalfId) (acc : Nat) (hm_ : subParts 0x10638403240000 ps = true)
    (hs_ : Keeps ps s0 s) : Keeps ps s0 (elevationEnd s h acc) := by
  refine Keeps.comp (a := 0x10638403240000) ?_ hm_ hs_
  clear hm_ hs_
  unfold elevationEnd
  try dsimp only
  repeat' first
    | (simp +contextual +decide (maxDischargeDepth := 60) only [Keeps.refl, ↓keeps_ledgerH, ↓keeps_putElevs]; done)
    | split

theorem keeps_sessionEnd {ps : Nat} {s0 s : State} (h : HalfId) (k : Nat) (hm_ : subParts 0x10638403A40000 ps = true)
    (hs_ : Keeps ps s0 s) : Keeps ps s0 (sessionEnd s h k) := by
  refine Keeps.comp (a := 0x10638403A40000) ?_ hm_ hs_
  clear hm_ hs_
  unfold sessionEnd
  try dsimp only
  repeat' first
    | (simp +contextual +decide (maxDischargeDepth := 60) only [Keeps.refl, ↓keeps_modMgmt, ↓keeps_putSessions, ↓keeps_queueRelease, ↓keeps_elevationEnd]; done)
    | split

theorem keeps_sessionOpen {ps : Nat} {s0 s : State} (h : HalfId) (k role : Nat) (hm_ : subParts 0x600000A00000 ps = true)
    (hs_ : Keeps ps s0 s) : Keeps ps s0 (sessionOpen s h k role) := by
  refine Keeps.comp (a := 0x600000A00000) ?_ hm_ hs_
  clear hm_ hs_
  unfold sessionOpen
  try dsimp only
  repeat' first
    | (simp +contextual +decide (maxDischargeDepth := 60) only [↓keeps_ite, Keeps.refl, ↓keeps_modMgmt, ↓keeps_emp, ↓keeps_putSessions, ↓keeps_queueOpen]; done)
    | split

theorem keeps_execSessionOpen {s : State} (h : HalfId) (k role : Nat) :
    Keeps 0x600000A00000 s (after s (execSessionOpen h k role s)) := by
  unfold execSessionOpen
  try dsimp only
  repeat' first
    | (simp +contextual +decide (maxDischargeDepth := 60) only [after_next, Keeps.refl, ↓keeps_sessionOpen]; done)
    | simp only [after_next]
    | split

theorem keeps_execSessionEnd {s : State} (h : HalfId) (k : Nat) :
    Keeps 0x10638403A40000 s (after s (execSessionEnd h k s)) := by
  unfold execSessionEnd
  try dsimp only
  repeat' first
    | (simp +contextual +decide (maxDischargeDepth := 60) only [after_next, Keeps.refl, ↓keeps_sessionEnd]; done)
    | simp only [after_next]
    | split

theorem keeps_sessionRate {ps : Nat} {s0 s : State} (h : HalfId) (e : Session) (hm_ : subParts 0x400000000000 ps = true)
    (hs_ : Keeps ps s0 s) : Keeps ps s0 ((sessionRate s h e)).2 := by
  refine Keeps.comp (a := 0x400000000000) ?_ hm_ hs_
  clear hm_ hs_
  unfold sessionRate
  try dsimp only
  repeat' first
    | (simp +contextual +decide (maxDischargeDepth := 60) only [Keeps.refl, ↓keeps_modMgmt]; done)
    | split

theorem keeps_sessionsEnd {ps : Nat} {s0 s : State} (h : HalfId) (hm_ : subParts 0x10638403A40000 ps = true)
    (hs_ : Keeps ps s0 s) : Keeps ps s0 (sessionsEnd s h) := by
  refine Keeps.comp (a := 0x10638403A40000) ?_ hm_ hs_
  clear hm_ hs_
  unfold sessionsEnd
  try dsimp only
  repeat' first
    | (simp +contextual +decide (maxDischargeDepth := 60) only [↓keeps_foldl, Keeps.refl, implies_true, ↓keeps_sessionEnd]; done)
    | split

theorem keeps_coreRestart {ps : Nat} {s0 s : State} (h : HalfId) (hm_ : subParts 0x1063C403AC0000 ps = true)
    (hs_ : Keeps ps s0 s) : Keeps ps s0 (coreRestart s h) := by
  refine Keeps.comp (a := 0x1063C403AC0000) ?_ hm_ hs_
  clear hm_ hs_
  unfold coreRestart
  try dsimp only
  repeat' first
    | (simp +contextual +decide (maxDischargeDepth := 60) only [↓keeps_ite, Keeps.refl, ↓keeps_ledgerH, ↓keeps_tallySet, ↓keeps_modMgmt, ↓keeps_sessionsEnd, ↓keeps_wr, Reg.ETH_CORE_RESTARTS, Reg.ETH_CORE_STATE]; done)
    | split

theorem keeps_execMgmtWatchdog {s : State} (h : HalfId) :
    Keeps 0x1063C403AC0000 s (after s (execMgmtWatchdog h s)) := by
  unfold execMgmtWatchdog
  try dsimp only
  repeat' first
    | (simp +contextual +decide (maxDischargeDepth := 60) only [after_next, Keeps.refl, ↓keeps_coreRestart]; done)
    | simp only [after_next]
    | split

theorem keeps_execMgmtCoreRestarted {s : State} (h : HalfId) :
    Keeps 0xA00000 s (after s (execMgmtCoreRestarted h s)) := by
  unfold execMgmtCoreRestarted
  try dsimp only
  repeat' first
    | (simp +contextual +decide (maxDischargeDepth := 60) only [after_next, Keeps.refl, ↓keeps_loadConfig, ↓keeps_wr, Reg.ETH_CORE_STATE]; done)
    | simp only [after_next]
    | split

theorem keeps_execManagementDegradedEnd {s : State} (h : HalfId) :
    Keeps 0x1023C4012C0000 s (after s (execManagementDegradedEnd h s)) := by
  unfold execManagementDegradedEnd
  try dsimp only
  repeat' first
    | (simp +contextual +decide (maxDischargeDepth := 60) only [after_next, Keeps.refl, ↓keeps_access, ↓keeps_tallySet]; done)
    | simp only [after_next]
    | split

theorem keeps_govBit {ps : Nat} {s0 s : State} (h : HalfId) (i load above below : Nat) (hm_ : subParts 0x800000 ps = true)
    (hs_ : Keeps ps s0 s) : Keeps ps s0 (govBit s h i load above below) := by
  refine Keeps.comp (a := 0x800000) ?_ hm_ hs_
  clear hm_ hs_
  unfold govBit
  try dsimp only
  repeat' first
    | (simp +contextual +decide (maxDischargeDepth := 60) only [↓keeps_ite, Keeps.refl, ↓keeps_wrBit, Reg.ETH_CORE_GOV]; done)
    | split

theorem keeps_governor {ps : Nat} {s0 s : State} (h : HalfId) (load : Nat) (hm_ : subParts 0x10638403A40000 ps = true)
    (hs_ : Keeps ps s0 s) : Keeps ps s0 (governor s h load) := by
  refine Keeps.comp (a := 0x10638403A40000) ?_ hm_ hs_
  clear hm_ hs_
  unfold governor
  try dsimp only
  repeat' first
    | (simp +contextual +decide (maxDischargeDepth := 60) only [Keeps.refl, ↓keeps_ledgerH, ↓keeps_modMgmt, ↓keeps_sessionEnd, ↓keeps_govBit, ↓keeps_wr, ↓keeps_wrBit, Reg.ETH_CORE_GOV, Reg.ETH_CORE_LOAD]; done)
    | split

theorem keeps_execGovernorWindow {s : State} (h : HalfId) (load : Nat) :
    Keeps 0x10638403A40000 s (after s (execGovernorWindow h load s)) := by
  unfold execGovernorWindow
  try dsimp only
  repeat' first
    | (simp +contextual +decide (maxDischargeDepth := 60) only [after_next, Keeps.refl, ↓keeps_governor]; done)
    | simp only [after_next]
    | split

theorem keeps_execEthLinkChange {s : State} (h : HalfId) (up supported : Bool) :
    Keeps 0x800000 s (after s (execEthLinkChange h up supported s)) := by
  unfold execEthLinkChange
  try dsimp only
  repeat' first
    | (simp +contextual +decide (maxDischargeDepth := 60) only [after_next, Keeps.refl, ↓keeps_access, ↓keeps_wrB, Reg.ETH_STAT_LINK, Reg.ETH_STAT_REFUSED]; done)
    | simp only [after_next]
    | split

theorem keeps_putKeys {ps : Nat} {s0 s : State} (h : HalfId) (l : List KeyEntry) (hm_ : subParts 0x400000000 ps = true)
    (hs_ : Keeps ps s0 s) : Keeps ps s0 (putKeys s h l) := by
  refine Keeps.comp (a := 0x400000000) ?_ hm_ hs_
  clear hm_ hs_
  unfold putKeys
  try dsimp only
  repeat' first
    | (simp +contextual +decide (maxDischargeDepth := 60) only [Keeps.refl, ↓keeps_modStore]; done)
    | split

theorem keeps_putSig {ps : Nat} {s0 s : State} (h : HalfId) (bs : List Byte) (hm_ : subParts 0x2000000 ps = true)
    (hs_ : Keeps ps s0 s) : Keeps ps s0 (putSig s h bs) := by
  refine Keeps.comp (a := 0x2000000) ?_ hm_ hs_
  clear hm_ hs_
  unfold putSig
  try dsimp only
  repeat' first
    | (simp +contextual +decide (maxDischargeDepth := 60) only [↓keeps_foldl, Keeps.refl, implies_true, ↓keeps_wr, Reg.SEC_SIG_WORD, fits_instKey]; done)
    | split

theorem keeps_secResult {ps : Nat} {s0 s : State} (h : HalfId) (c st : Nat) (hm_ : subParts 0x2000000 ps = true)
    (hs_ : Keeps ps s0 s) : Keeps ps s0 (secResult s h c st) := by
  refine Keeps.comp (a := 0x2000000) ?_ hm_ hs_
  clear hm_ hs_
  unfold secResult
  try dsimp only
  repeat' first
    | (simp +contextual +decide (maxDischargeDepth := 60) only [Keeps.refl, ↓keeps_result, Reg.SEC_RESULT_CMD, Reg.SEC_RESULT_SEQ, Reg.SEC_RESULT_STATUS]; done)
    | split

theorem keeps_challenge {ps : Nat} {s0 s : State} (h : HalfId) (acc : Nat) (hm_ : subParts 0x400002000000 ps = true)
    (hs_ : Keeps ps s0 s) : Keeps ps s0 (challenge s h acc) := by
  refine Keeps.comp (a := 0x400002000000) ?_ hm_ hs_
  clear hm_ hs_
  unfold challenge
  try dsimp only
  repeat' first
    | (simp +contextual +decide (maxDischargeDepth := 60) only [↓keeps_foldl, Keeps.refl, implies_true, ↓keeps_modMgmt, ↓keeps_putSig, ↓keeps_wr, Reg.SEC_NONCE_WORD, fits_instKey]; done)
    | split

theorem keeps_authFail {ps : Nat} {s0 s : State} (h : HalfId) (acc slot : Nat) (hm_ : subParts 0x10638401240000 ps = true)
    (hs_ : Keeps ps s0 s) : Keeps ps s0 (authFail s h acc slot) := by
  refine Keeps.comp (a := 0x10638401240000) ?_ hm_ hs_
  clear hm_ hs_
  unfold authFail
  try dsimp only
  repeat' first
    | (simp +contextual +decide (maxDischargeDepth := 60) only [Keeps.refl, ↓keeps_ledgerH, ↓keeps_modMgmt]; done)
    | split

theorem keeps_respond {ps : Nat} {s0 s : State} (h : HalfId) (acc slot : Nat) (hm_ : subParts 0x10638403240000 ps = true)
    (hs_ : Keeps ps s0 s) : Keeps ps s0 ((respond s h acc slot)).2 := by
  refine Keeps.comp (a := 0x10638403240000) ?_ hm_ hs_
  clear hm_ hs_
  unfold respond
  try dsimp only
  repeat' first
    | (simp +contextual +decide (maxDischargeDepth := 60) only [Keeps.refl, ↓keeps_ledgerH, ↓keeps_modMgmt, ↓keeps_putElevs, ↓keeps_authFail]; done)
    | split

theorem keeps_elevationDrop {ps : Nat} {s0 s : State} (h : HalfId) (acc : Nat) (hm_ : subParts 0x10638403240000 ps = true)
    (hs_ : Keeps ps s0 s) : Keeps ps s0 ((elevationDrop s h acc)).2 := by
  refine Keeps.comp (a := 0x10638403240000) ?_ hm_ hs_
  clear hm_ hs_
  unfold elevationDrop
  try dsimp only
  repeat' first
    | (simp +contextual +decide (maxDischargeDepth := 60) only [Keeps.refl, ↓keeps_elevationEnd]; done)
    | split

theorem keeps_keyInstall {ps : Nat} {s0 s : State} (h : HalfId) (acc : Nat) (hm_ : subParts 0x10238401240000 ps = true)
    (hs_ : Keeps ps s0 s) : Keeps ps s0 ((keyInstall s h acc)).2 := by
  refine Keeps.comp (a := 0x10238401240000) ?_ hm_ hs_
  clear hm_ hs_
  unfold keyInstall
  try dsimp only
  repeat' first
    | (simp +contextual +decide (maxDischargeDepth := 60) only [Keeps.refl, ↓keeps_ledgerH, ↓keeps_putKeys]; done)
    | split

theorem keeps_keyErase {ps : Nat} {s0 s : State} (h : HalfId) (acc : Nat) (hm_ : subParts 0x10238401240000 ps = true)
    (hs_ : Keeps ps s0 s) : Keeps ps s0 ((keyErase s h acc)).2 := by
  refine Keeps.comp (a := 0x10238401240000) ?_ hm_ hs_
  clear hm_ hs_
  unfold keyErase
  try dsimp only
  repeat' first
    | (simp +contextual +decide (maxDischargeDepth := 60) only [Keeps.refl, ↓keeps_ledgerH, ↓keeps_putKeys]; done)
    | split

theorem keeps_useGen {ps : Nat} {s0 s : State} (h : HalfId) (gen : Nat) (hm_ : subParts 0x10338403640000 ps = true)
    (hs_ : Keeps ps s0 s) : Keeps ps s0 ((useGen s h gen)).2 := by
  refine Keeps.comp (a := 0x10338403640000) ?_ hm_ hs_
  clear hm_ hs_
  unfold useGen
  try dsimp only
  repeat' first
    | (simp +contextual +decide (maxDischargeDepth := 60) only [Keeps.refl, ↓keeps_eraBump, ↓keeps_wr, Reg.SEC_STAT_GEN]; done)
    | split

theorem keeps_secAct {ps : Nat} {s0 s : State} (h : HalfId) (code acc arg : Nat) (hm_ : subParts 0x10738403640000 ps = true)
    (hs_ : Keeps ps s0 s) : Keeps ps s0 ((secAct s h code acc arg)).2 := by
  refine Keeps.comp (a := 0x10738403640000) ?_ hm_ hs_
  clear hm_ hs_
  unfold secAct
  try dsimp only
  repeat' first
    | (simp +contextual +decide (maxDischargeDepth := 60) only [Keeps.refl, ↓keeps_challenge, ↓keeps_respond, ↓keeps_elevationDrop, ↓keeps_keyInstall, ↓keeps_keyErase, ↓keeps_useGen]; done)
    | split

theorem keeps_secCmd {ps : Nat} {s0 s : State} (h : HalfId) (code acc arg : Nat) (hm_ : subParts 0x10738403640000 ps = true)
    (hs_ : Keeps ps s0 s) : Keeps ps s0 (secCmd s h code acc arg) := by
  refine Keeps.comp (a := 0x10738403640000) ?_ hm_ hs_
  clear hm_ hs_
  unfold secCmd
  try dsimp only
  repeat' first
    | (simp +contextual +decide (maxDischargeDepth := 60) only [Keeps.refl, ↓keeps_secResult, ↓keeps_secAct]; done)
    | split

theorem keeps_execChallenge {s : State} (h : HalfId) (acc : Nat) :
    Keeps 0x10738403640000 s (after s (execChallenge h acc s)) := by
  unfold execChallenge
  try dsimp only
  repeat' first
    | (simp +contextual +decide (maxDischargeDepth := 60) only [after_next, Keeps.refl, ↓keeps_access, ↓keeps_secCmd]; done)
    | simp only [after_next]
    | split

theorem keeps_execRespond {s : State} (h : HalfId) (acc slot : Nat) :
    Keeps 0x10738403640000 s (after s (execRespond h acc slot s)) := by
  unfold execRespond
  try dsimp only
  repeat' first
    | (simp +contextual +decide (maxDischargeDepth := 60) only [after_next, Keeps.refl, ↓keeps_access, ↓keeps_secCmd]; done)
    | simp only [after_next]
    | split

theorem keeps_execDrop {s : State} (h : HalfId) (acc : Nat) :
    Keeps 0x10738403640000 s (after s (execDrop h acc s)) := by
  unfold execDrop
  try dsimp only
  repeat' first
    | (simp +contextual +decide (maxDischargeDepth := 60) only [after_next, Keeps.refl, ↓keeps_access, ↓keeps_secCmd]; done)
    | simp only [after_next]
    | split

theorem keeps_execInstall {s : State} (h : HalfId) (acc : Nat) :
    Keeps 0x10738403640000 s (after s (execInstall h acc s)) := by
  unfold execInstall
  try dsimp only
  repeat' first
    | (simp +contextual +decide (maxDischargeDepth := 60) only [after_next, Keeps.refl, ↓keeps_access, ↓keeps_secCmd]; done)
    | simp only [after_next]
    | split

theorem keeps_execErase {s : State} (h : HalfId) (acc : Nat) :
    Keeps 0x10738403640000 s (after s (execErase h acc s)) := by
  unfold execErase
  try dsimp only
  repeat' first
    | (simp +contextual +decide (maxDischargeDepth := 60) only [after_next, Keeps.refl, ↓keeps_access, ↓keeps_secCmd]; done)
    | simp only [after_next]
    | split

theorem keeps_execUseGen {s : State} (h : HalfId) (acc gen : Nat) :
    Keeps 0x10738403640000 s (after s (execUseGen h acc gen s)) := by
  unfold execUseGen
  try dsimp only
  repeat' first
    | (simp +contextual +decide (maxDischargeDepth := 60) only [after_next, Keeps.refl, ↓keeps_access, ↓keeps_secCmd]; done)
    | simp only [after_next]
    | split

theorem keeps_execElevationTimeout {s : State} (h : HalfId) (acc : Nat) :
    Keeps 0x10638403240000 s (after s (execElevationTimeout h acc s)) := by
  unfold execElevationTimeout
  try dsimp only
  repeat' first
    | (simp +contextual +decide (maxDischargeDepth := 60) only [after_next, Keeps.refl, ↓keeps_access, ↓keeps_elevationEnd]; done)
    | simp only [after_next]
    | split

theorem keeps_keyAdvance {ps : Nat} {s0 s : State} (h : HalfId) (hm_ : subParts 0x2000000 ps = true)
    (hs_ : Keeps ps s0 s) : Keeps ps s0 (keyAdvance s h) := by
  refine Keeps.comp (a := 0x2000000) ?_ hm_ hs_
  clear hm_ hs_
  unfold keyAdvance
  try dsimp only
  repeat' first
    | (simp +contextual +decide (maxDischargeDepth := 60) only [Keeps.refl, ↓keeps_wr, Reg.SEC_KEY_SEL_WORD]; done)
    | split

theorem keeps_keyDataRead {ps : Nat} {s0 s : State} (h : HalfId) (hm_ : subParts 0x22000000 ps = true)
    (hs_ : Keeps ps s0 s) : Keeps ps s0 ((keyDataRead s h)).2 := by
  refine Keeps.comp (a := 0x22000000) ?_ hm_ hs_
  clear hm_ hs_
  unfold keyDataRead
  try dsimp only
  repeat' first
    | (simp +contextual +decide (maxDischargeDepth := 60) only [Keeps.refl, ↓keeps_freeVal, ↓keeps_keyAdvance, Reg.SEC_KEY_SEL_WORD]; done)
    | split

theorem keeps_keyDataWrite {ps : Nat} {s0 s : State} (h : HalfId) (v : Nat) (hm_ : subParts 0x400002000000 ps = true)
    (hs_ : Keeps ps s0 s) : Keeps ps s0 (keyDataWrite s h v) := by
  refine Keeps.comp (a := 0x400002000000) ?_ hm_ hs_
  clear hm_ hs_
  unfold keyDataWrite
  try dsimp only
  repeat' first
    | (simp +contextual +decide (maxDischargeDepth := 60) only [Keeps.refl, ↓keeps_modMgmt, ↓keeps_keyAdvance]; done)
    | split

theorem keeps_tselAdvance {ps : Nat} {s0 s : State} (h : HalfId) (hm_ : subParts 0x800000 ps = true)
    (hs_ : Keeps ps s0 s) : Keeps ps s0 (tselAdvance s h) := by
  refine Keeps.comp (a := 0x800000) ?_ hm_ hs_
  clear hm_ hs_
  unfold tselAdvance
  try dsimp only
  repeat' first
    | (simp +contextual +decide (maxDischargeDepth := 60) only [Keeps.refl, ↓keeps_wr, Reg.ETH_TSEL_WORD]; done)
    | split

theorem keeps_tdataRead {ps : Nat} {s0 s : State} (h : HalfId) (hm_ : subParts 0x800000 ps = true)
    (hs_ : Keeps ps s0 s) : Keeps ps s0 ((tdataRead s h)).2 := by
  refine Keeps.comp (a := 0x800000) ?_ hm_ hs_
  clear hm_ hs_
  unfold tdataRead
  try dsimp only
  repeat' first
    | (simp +contextual +decide (maxDischargeDepth := 60) only [Keeps.refl, ↓keeps_tselAdvance]; done)
    | split

theorem keeps_gooseForget {ps : Nat} {s0 s : State} (h : HalfId) (t e : Nat) (hm_ : subParts 0x400000000000 ps = true)
    (hs_ : Keeps ps s0 s) : Keeps ps s0 (gooseForget s h t e) := by
  refine Keeps.comp (a := 0x400000000000) ?_ hm_ hs_
  clear hm_ hs_
  unfold gooseForget
  try dsimp only
  repeat' first
    | (simp +contextual +decide (maxDischargeDepth := 60) only [Keeps.refl, ↓keeps_modMgmt]; done)
    | split

theorem keeps_tdataWrite {ps : Nat} {s0 s : State} (h : HalfId) (v : Nat) (hm_ : subParts 0x400000800000 ps = true)
    (hs_ : Keeps ps s0 s) : Keeps ps s0 (tdataWrite s h v) := by
  refine Keeps.comp (a := 0x400000800000) ?_ hm_ hs_
  clear hm_ hs_
  unfold tdataWrite
  try dsimp only
  repeat' first
    | (simp +contextual +decide (maxDischargeDepth := 60) only [↓keeps_ite, Keeps.refl, ↓keeps_modMgmt, ↓keeps_gooseScan, ↓keeps_tselAdvance, ↓keeps_gooseForget, ↓keeps_wrB, Reg.ETH_GOOSE_TX_CFG_REFUSED, Reg.ETH_TSEL_ENTRY, Reg.ETH_TSEL_TABLE, Reg.ETH_TSEL_WORD]; done)
    | split

theorem keeps_gooseValueWord {ps : Nat} {s0 s : State} (kind type : Nat) (v : Int) (good : Bool)
    (hm_ : subParts 0x20000000 ps = true) (hs_ : Keeps ps s0 s) : Keeps ps s0 (gooseValueWord s kind type v good).2 := by
  have hf := keeps_freeVal (2 ^ 24) hm_ hs_
  unfold gooseValueWord
  dsimp only
  split
  · exact hf
  · split
    · exact hs_
    · split
      · exact hs_
      · exact hf

theorem keeps_gooseMemberTake {ps : Nat} {s0 s : State} (h : HalfId) (entry ttl : Nat) (sim : Bool) (v : Nat × Int × Bool) (hm_ : subParts 0x1033C4216C0000 ps = true)
    (hs_ : Keeps ps s0 s) : Keeps ps s0 (gooseMemberTake s h entry ttl sim v) := by
  refine Keeps.comp (a := 0x1033C4216C0000) ?_ hm_ hs_
  clear hm_ hs_
  unfold gooseMemberTake
  try dsimp only
  repeat' first
    | (simp +contextual +decide (maxDischargeDepth := 60) only [↓keeps_ite, Keeps.refl, ↓keeps_acceptPoint, ↓keeps_bazaarItem, ↓keeps_gooseValueWord]; done)
    | split

theorem keeps_gooseReceive {ps : Nat} {s0 s : State} (h : HalfId) (sub stNum sqNum ttl : Nat) (sim : Bool) (values : List (Nat × Int × Bool)) (hm_ : subParts 0x1277C521ECAC00 ps = true)
    (hs_ : Keeps ps s0 s) : Keeps ps s0 (gooseReceive s h sub stNum sqNum ttl sim values) := by
  refine Keeps.comp (a := 0x1277C521ECAC00) ?_ hm_ hs_
  clear hm_ hs_
  unfold gooseReceive
  try dsimp only
  repeat' first
    | (simp +contextual +decide (maxDischargeDepth := 60) only [↓keeps_foldl, ↓keeps_ite, Keeps.refl, implies_true, ↓keeps_satAdd, ↓keeps_modMgmt, ↓keeps_pointsFeed, ↓keeps_gooseMemberTake, Reg.ETH_GOOSE_RX_ACCEPTED, Reg.ETH_GOOSE_RX_REJECTED]; done)
    | split

theorem keeps_execGooseRx {s : State} (h : HalfId) (sub stNum sqNum ttl : Nat) (sim : Bool) (values : List (Nat × Int × Bool)) :
    Keeps 0x1277C521ECAC00 s (after s (execGooseRx h sub stNum sqNum ttl sim values s)) := by
  unfold execGooseRx
  try dsimp only
  repeat' first
    | (simp +contextual +decide (maxDischargeDepth := 60) only [after_next, Keeps.refl, ↓keeps_gooseReceive]; done)
    | simp only [after_next]
    | split

theorem keeps_evqPop {ps : Nat} {s0 s : State} (h : HalfId) (hm_ : subParts 0x200000000000 ps = true)
    (hs_ : Keeps ps s0 s) : Keeps ps s0 ((evqPop s h)).2 := by
  refine Keeps.comp (a := 0x200000000000) ?_ hm_ hs_
  clear hm_ hs_
  unfold evqPop
  try dsimp only
  repeat' first
    | (simp +contextual +decide (maxDischargeDepth := 60) only [Keeps.refl, ↓keeps_half_evq, Reg.EVQ_SEL_QUEUE]; done)
    | split

theorem keeps_evqIdata {ps : Nat} {s0 s : State} (h : HalfId) (hm_ : subParts 0x200020000000 ps = true)
    (hs_ : Keeps ps s0 s) : Keeps ps s0 ((evqIdata s h)).2 := by
  refine Keeps.comp (a := 0x200020000000) ?_ hm_ hs_
  clear hm_ hs_
  unfold evqIdata
  try dsimp only
  repeat' first
    | (simp +contextual +decide (maxDischargeDepth := 60) only [Keeps.refl, ↓keeps_freeVal, ↓keeps_half_evq]; done)
    | split

theorem keeps_traceCmd {ps : Nat} {s0 s : State} (h : HalfId) (code : Nat) (hm_ : subParts 0x400000000 ps = true)
    (hs_ : Keeps ps s0 s) : Keeps ps s0 (traceCmd s h code) := by
  refine Keeps.comp (a := 0x400000000) ?_ hm_ hs_
  clear hm_ hs_
  unfold traceCmd
  try dsimp only
  repeat' first
    | (simp +contextual +decide (maxDischargeDepth := 60) only [↓keeps_ite, Keeps.refl, ↓keeps_traceSnapshot]; done)
    | split

theorem keeps_execSnapshot {s : State} (h : HalfId) :
    Keeps 0x400000000 s (after s (execSnapshot h s)) := by
  unfold execSnapshot
  try dsimp only
  repeat' first
    | (simp +contextual +decide (maxDischargeDepth := 60) only [after_next, Keeps.refl, ↓keeps_access, ↓keeps_traceCmd]; done)
    | simp only [after_next]
    | split

theorem keeps_debugToken {ps : Nat} {s0 s : State} (h : HalfId) (expiry : Nat) (sig : List Byte) (hm_ : subParts 0x10638403240000 ps = true)
    (hs_ : Keeps ps s0 s) : Keeps ps s0 (debugToken s h expiry sig) := by
  refine Keeps.comp (a := 0x10638403240000) ?_ hm_ hs_
  clear hm_ hs_
  unfold debugToken
  try dsimp only
  repeat' first
    | (simp +contextual +decide (maxDischargeDepth := 60) only [↓keeps_ite, Keeps.refl, ↓keeps_ledgerH, ↓keeps_modMgmt, ↓keeps_wrB, Reg.SEC_STAT_DEBUG]; done)
    | split

theorem keeps_execDebugToken {s : State} (h : HalfId) (expiry : Nat) (sig : List Byte) :
    Keeps 0x10638403240000 s (after s (execDebugToken h expiry sig s)) := by
  unfold execDebugToken
  try dsimp only
  repeat' first
    | (simp +contextual +decide (maxDischargeDepth := 60) only [after_next, Keeps.refl, ↓keeps_debugToken]; done)
    | simp only [after_next]
    | split

theorem keeps_execDebugRelock {s : State} (h : HalfId) :
    Keeps 0x10238403240000 s (after s (execDebugRelock h s)) := by
  unfold execDebugRelock
  try dsimp only
  repeat' first
    | (simp +contextual +decide (maxDischargeDepth := 60) only [after_next, Keeps.refl, ↓keeps_access, ↓keeps_debugRelock]; done)
    | simp only [after_next]
    | split

end Sys2Proof.Machine
end

