-- ==== Sys2Proof/Laws/KeepsRegisters.lean ====
section
/-!
SUPPORT. `Keeps` for the operations of Machine/Registers.lean: the parts each may change.
-/

namespace Sys2Proof.Machine

open Sys2Proof (HalfId Instr Byte Word Accessor)

/-- Every key fits a set that holds all blocks. -/
theorem fits_all {m : Nat} (hm : subParts 0x7FFFFFF m = true) (k : Nat) : fits m k = true := by
  refine fits_mono k hm ?_
  simp only [fits, Bool.or_eq_true, decide_eq_true_eq]
  by_cases h : 27 ≤ keyBlock k
  · exact .inl h
  · right
    rw [show (0x7FFFFFF : Nat) = 2 ^ 27 - 1 by decide, Nat.testBit_two_pow_sub_one]
    simp only [decide_eq_true_eq]; omega

theorem ite_some {α : Type} {c : Prop} {_ : Decidable c} {x t : α} {y : Option α}
    (h : (if c then some x else y) = some t) : x = t ∨ y = some t := by
  split at h
  · exact .inl (Option.some.inj h)
  · exact .inr h

/-- A write of one word, whichever register it is. -/
theorem keeps_anyWord {m : Nat} {s0 s : State} (h : HalfId) (k v : Nat) (hm : subParts 0x7FFFFFF m = true)
    (hs : Keeps m s0 s) : Keeps m s0 (setWord s h k v) := keeps_setWord h k v (fits_all hm k) hs

theorem keeps_readLatch {ps : Nat} {s0 s : State} (h : HalfId) (a : Nat) (hm_ : subParts 0x1004000C640 ps = true)
    (hs_ : Keeps ps s0 s) : Keeps ps s0 (readLatch s h a) := by
  refine Keeps.comp (a := 0x1004000C640) ?_ hm_ hs_
  clear hm_ hs_
  unfold readLatch
  try dsimp only
  repeat' first
    | (simp +contextual +decide (maxDischargeDepth := 60) only [↓keeps_ite, Keeps.refl, ↓keeps_optimeLatch, ↓keeps_latchMeas, ↓keeps_latchTime, ↓keeps_fstLatch, ↓keeps_fabLatch, ↓keeps_fltLatch, ↓keeps_taskLatch]; done)
    | split

theorem keeps_readClear {s0 s : State} (h : HalfId) (d : RegDesc) (a key : Nat) (hs_ : Keeps 0x1612067FFFFFF s0 s) :
    Keeps 0x1612067FFFFFF s0 (readClear s h d a key) := by
  have h1 := keeps_anyWord h key (rcWord d.fields (word s h key)) (by decide) hs_
  exact keeps_ite _ hs_ (keeps_ite _ (keeps_anyWord h _ _ (by decide) h1) h1)

theorem keeps_unseenRead {s0 s : State} {r : Nat × State} (h : HalfId) (a w : Nat) (hs_ : Keeps 0x1612067FFFFFF s0 s)
    (he_ : unseenRead s h a w = some r) : Keeps 0x1612067FFFFFF s0 r.2 := by
  unfold unseenRead at he_
  try dsimp only at he_
  repeat' (rcases ite_some he_ with rfl | he_)
  all_goals first
    | (cases he_; done)
    | (simp +contextual +decide (maxDischargeDepth := 60) only [hs_, ↓keeps_freeVal])

theorem keeps_portRead {s0 s : State} {r : Nat × State} (h : HalfId) (a : Nat) (hs_ : Keeps 0x1612067FFFFFF s0 s)
    (he_ : portRead s h a = some r) : Keeps 0x1612067FFFFFF s0 r.2 := by
  unfold portRead at he_
  try dsimp only at he_
  repeat' (rcases ite_some he_ with rfl | he_)
  all_goals first
    | (cases he_; done)
    | (simp +contextual +decide (maxDischargeDepth := 60) only [hs_, ↓keeps_injAccess, ↓keeps_curveAccess, ↓keeps_tplAccess, ↓keeps_evqPop, ↓keeps_evqIdata, ↓keeps_tdataRead, ↓keeps_keyDataRead])

theorem keeps_readReg {s0 s : State} (h : HalfId) (d : RegDesc) (a : Nat) (hs_ : Keeps 0x1612067FFFFFF s0 s) :
    Keeps 0x1612067FFFFFF s0 (readReg s h d a).2 := by
  have hl := keeps_readLatch h a (ps := 0x1612067FFFFFF) (by decide) hs_
  unfold readReg
  dsimp only
  split
  · exact keeps_portRead h a hs_ (by assumption)
  · split
    · exact hl
    · split
      · exact keeps_readClear h d a _ (keeps_unseenRead h a _ hl (by assumption))
      · exact keeps_readClear h d a _ hl

theorem keeps_windowRead {s0 s : State} (h : HalfId) (a : Nat) (hs_ : Keeps 0x1612067FFFFFF s0 s) :
    Keeps 0x1612067FFFFFF s0 (windowRead s h a).2 := by
  unfold windowRead
  repeat' split
  all_goals first
    | exact hs_
    | exact keeps_freeVal _ (by decide) hs_

theorem keeps_regRead_ {s0 s : State} (h : HalfId) (addr : Nat) (hs_ : Keeps 0x1612067FFFFFF s0 s) :
    Keeps 0x1612067FFFFFF s0 (regRead s h addr).2 := by
  unfold regRead
  dsimp only
  generalize (if decide (addr < unprivBase) = true then addr else addr - unprivBase) = a
  repeat' split
  all_goals first
    | exact hs_
    | exact keeps_windowRead h a hs_
    | exact keeps_readReg h _ a hs_

theorem keeps_regRead {ps : Nat} {s0 s : State} (h : HalfId) (addr : Nat) (hm_ : subParts 0x1612067FFFFFF ps = true) (hs_ : Keeps ps s0 s) :
    Keeps ps s0 (regRead s h addr).2 := Keeps.comp (keeps_regRead_ h addr (Keeps.refl _ s)) hm_ hs_

theorem keeps_storeReg {s0 s : State} (h : HalfId) (d : RegDesc) (a v : Nat) (hs_ : Keeps 0x1FFFFFE7FFFFFF s0 s) :
    Keeps 0x1FFFFFE7FFFFFF s0 (storeReg s h d a v) := by
  unfold storeReg
  split
  · exact keeps_anyWord h _ _ (by decide) hs_
  · exact hs_

theorem keeps_storeIf {s0 s : State} (h : HalfId) (d : RegDesc) (a v : Nat) (ok : Bool) (refused : Fld)
    (hs_ : Keeps 0x1FFFFFE7FFFFFF s0 s) : Keeps 0x1FFFFFE7FFFFFF s0 (storeIf s h d a v ok refused) :=
  keeps_ite _ (keeps_storeReg h d a v hs_) (keeps_wrB h _ _ (fits_all (by decide) _) hs_)

theorem keeps_timeCfg {s0 s : State} (h : HalfId) (d : RegDesc) (v : Nat) (hs_ : Keeps 0x1FFFFFE7FFFFFF s0 s) :
    Keeps 0x1FFFFFE7FFFFFF s0 (timeCfg s h d v) := by
  refine Keeps.comp (a := 0x1FFFFFE7FFFFFF) ?_ (by decide) hs_
  clear hs_
  unfold timeCfg
  try dsimp only
  repeat' first
    | (simp +contextual +decide (maxDischargeDepth := 60) only [↓keeps_ite, Keeps.refl, ↓keeps_modTime, ↓keeps_setSync, ↓keeps_storeReg, ↓keeps_wr, ↓keeps_wrB, Reg.TIME_RESULT_STATUS, Reg.TIME_STAT_SERVO_STATE, Reg.TIME_STAT_TOD_SET, fits_all]; done)
    | split

theorem keeps_schedTimeWrite {s0 s : State} (h : HalfId) (d : RegDesc) (a v : Nat) (hs_ : Keeps 0x1FFFFFE7FFFFFF s0 s) :
    Keeps 0x1FFFFFE7FFFFFF s0 (schedTimeWrite s h d a v) := by
  refine Keeps.comp (a := 0x1FFFFFE7FFFFFF) ?_ (by decide) hs_
  clear hs_
  unfold schedTimeWrite
  try dsimp only
  repeat' first
    | (simp +contextual +decide (maxDischargeDepth := 60) only [↓keeps_ite, Keeps.refl, ↓keeps_storeReg, ↓keeps_wrB, Reg.TIME_SCH_SEL_ENTRY, Reg.TIME_SCH_STAT_WRITE_REFUSED, fits_bank, fits_all]; done)
    | split

theorem keeps_corrWrite {s0 s : State} (h : HalfId) (d : RegDesc) (a v : Nat) (hs_ : Keeps 0x1FFFFFE7FFFFFF s0 s) :
    Keeps 0x1FFFFFE7FFFFFF s0 (corrWrite s h d a v) := by
  refine Keeps.comp (a := 0x1FFFFFE7FFFFFF) ?_ (by decide) hs_
  clear hs_
  unfold corrWrite
  try dsimp only
  repeat' first
    | (simp +contextual +decide (maxDischargeDepth := 60) only [↓keeps_ite, Keeps.refl, ↓keeps_noteChange, ↓keeps_storeReg]; done)
    | split

theorem keeps_queueCfg {s0 s : State} (h : HalfId) (d : RegDesc) (a v : Nat) (hs_ : Keeps 0x1FFFFFE7FFFFFF s0 s) :
    Keeps 0x1FFFFFE7FFFFFF s0 (queueCfg s h d a v) := by
  refine Keeps.comp (a := 0x1FFFFFE7FFFFFF) ?_ (by decide) hs_
  clear hs_
  unfold queueCfg
  try dsimp only
  repeat' first
    | (simp +contextual +decide (maxDischargeDepth := 60) only [↓keeps_ite, Keeps.refl, ↓keeps_storeReg, ↓keeps_half_evq]; done)
    | split

theorem keeps_pointSelect {s0 s : State} (h : HalfId) (d : RegDesc) (v : Nat) (hs_ : Keeps 0x1FFFFFE7FFFFFF s0 s) :
    Keeps 0x1FFFFFE7FFFFFF s0 (pointSelect s h d v) := by
  refine Keeps.comp (a := 0x1FFFFFE7FFFFFF) ?_ (by decide) hs_
  clear hs_
  unfold pointSelect
  try dsimp only
  repeat' first
    | (simp +contextual +decide (maxDischargeDepth := 60) only [Keeps.refl, ↓keeps_storeReg, ↓keeps_setWord, Reg.ARD_PAGE_AGE, Reg.ARD_PINFO_ID, Reg.ARD_PSEL_INDEX, Reg.ARD_PVAL_VALUE, fits_all]; done)
    | split

theorem keeps_writeLow {s0 s : State} {t : State} (h : HalfId) (d : RegDesc) (a v : Nat) (hs_ : Keeps 0x1FFFFFE7FFFFFF s0 s)
    (he_ : writeLow s h d a v = some t) : Keeps 0x1FFFFFE7FFFFFF s0 t := by
  unfold writeLow at he_
  try dsimp only at he_
  repeat' (rcases ite_some he_ with rfl | he_)
  all_goals first
    | (cases he_; done)
    | (simp +contextual +decide (maxDischargeDepth := 60) only [hs_, ↓keeps_modeCmd, ↓keeps_imgCommand, ↓keeps_setCmd, ↓keeps_storeIf, ↓keeps_gavCmd, ↓keeps_timeCfg, ↓keeps_timeCmd, ↓keeps_slewWrite, ↓keeps_schedTimeWrite, ↓keeps_schedCfg, ↓keeps_calCmd, ↓keeps_corrWrite, ↓keeps_refWrite, ↓keeps_suspendUpdate, ↓keeps_fltLatch, ↓keeps_storeReg, ↓keeps_fltCmd, ↓keeps_injAccess, ↓keeps_injCmd])

theorem keeps_writeMid {s0 s : State} {t : State} (h : HalfId) (d : RegDesc) (a v : Nat) (hs_ : Keeps 0x1FFFFFE7FFFFFF s0 s)
    (he_ : writeMid s h d a v = some t) : Keeps 0x1FFFFFE7FFFFFF s0 t := by
  unfold writeMid at he_
  try dsimp only at he_
  repeat' (rcases ite_some he_ with rfl | he_)
  all_goals first
    | (cases he_; done)
    | (simp +contextual +decide (maxDischargeDepth := 60) only [hs_, ↓keeps_mclkWrite, ↓keeps_storeIf, ↓keeps_curveAccess, ↓keeps_tplAccess, ↓keeps_arcCmd, ↓keeps_dioCmd])

theorem keeps_writeHigh {s0 s : State} {t : State} (h : HalfId) (d : RegDesc) (a v : Nat) (by_ : Accessor) (hs_ : Keeps 0x1FFFFFE7FFFFFF s0 s)
    (he_ : writeHigh s h d a v by_ = some t) : Keeps 0x1FFFFFE7FFFFFF s0 t := by
  unfold writeHigh at he_
  try dsimp only at he_
  repeat' (rcases ite_some he_ with rfl | he_)
  all_goals first
    | (cases he_; done)
    | (simp +contextual +decide (maxDischargeDepth := 60) only [hs_, ↓keeps_acqCmd, ↓keeps_latchMeas, ↓keeps_storeReg, ↓keeps_crtCmd, ↓keeps_imgCmd, ↓keeps_imgData, ↓keeps_ledgerCmd, ↓keeps_ledgerSelect, ↓keeps_stkCmd, ↓keeps_queueCfg, ↓keeps_pointSelect, ↓keeps_tdataWrite, ↓keeps_secCmd, ↓keeps_keyDataWrite, ↓keeps_traceCmd])

theorem keeps_writeReg {s0 s : State} (h : HalfId) (d : RegDesc) (a v : Nat) (by_ : Accessor)
    (hs_ : Keeps 0x1FFFFFE7FFFFFF s0 s) : Keeps 0x1FFFFFE7FFFFFF s0 (writeReg s h d a v by_) := by
  unfold writeReg
  dsimp only
  split
  · rename_i he
    repeat' split at he
    · exact keeps_writeLow h d a v hs_ he
    · exact keeps_writeMid h d a v hs_ he
    · exact keeps_writeHigh h d a v by_ hs_ he
  · exact keeps_storeReg h d a v hs_

theorem keeps_windowStore {s0 s : State} (h : HalfId) (a v : Nat) (hs_ : Keeps 0x1FFFFFE7FFFFFF s0 s) :
    Keeps 0x1FFFFFE7FFFFFF s0 (windowStore s h a v) := by
  refine Keeps.comp (a := 0x1FFFFFE7FFFFFF) ?_ (by decide) hs_
  clear hs_
  unfold windowStore
  try dsimp only
  repeat' first
    | (simp +contextual +decide (maxDischargeDepth := 60) only [↓keeps_ite, Keeps.refl, ↓keeps_freeVal, ↓keeps_modAcq, ↓keeps_windowWrite, ↓keeps_wrB, Reg.LGE_STAT_WIN_WRITE, Reg.SYS_ERR_UNMAPPED, fits_all]; done)
    | split

theorem keeps_regWrite_ {s0 s : State} (h : HalfId) (addr v : Nat) (by_ : Accessor)
    (hs_ : Keeps 0x1FFFFFE7FFFFFF s0 s) : Keeps 0x1FFFFFE7FFFFFF s0 (regWrite s h addr v by_) := by
  unfold regWrite
  dsimp only
  generalize (if decide (addr < unprivBase) = true then addr else addr - unprivBase) = a
  repeat' split
  all_goals first
    | exact hs_
    | exact keeps_wrB h _ _ (fits_all (by decide) _) hs_
    | exact keeps_windowStore h a v hs_
    | exact keeps_writeReg h _ a _ by_ hs_

theorem keeps_regWrite {ps : Nat} {s0 s : State} (h : HalfId) (addr v : Nat) (by_ : Accessor) (hm_ : subParts 0x1FFFFFE7FFFFFF ps = true) (hs_ : Keeps ps s0 s) :
    Keeps ps s0 (regWrite s h addr v by_) := Keeps.comp (keeps_regWrite_ h addr v by_ (Keeps.refl _ s)) hm_ hs_

theorem keeps_busRead_ {s0 s : State} (h : HalfId) (addr : Nat)
    (hs_ : Keeps 0x1612067FFFFFF s0 s) : Keeps 0x1612067FFFFFF s0 (busRead s h addr) :=
  keeps_access h (keeps_modMgmt h _ (by decide) (keeps_regRead_ h addr hs_)) hs_

theorem keeps_busRead {ps : Nat} {s0 s : State} (h : HalfId) (addr : Nat) (hm_ : subParts 0x1612067FFFFFF ps = true) (hs_ : Keeps ps s0 s) :
    Keeps ps s0 (busRead s h addr) := Keeps.comp (keeps_busRead_ h addr (Keeps.refl _ s)) hm_ hs_

theorem keeps_busAccess_ {s0 s : State} (h : HalfId) (addr : Nat) (w : Option Nat)
    (hs_ : Keeps 0x1FFFFFE7FFFFFF s0 s) : Keeps 0x1FFFFFE7FFFFFF s0 (busAccess s h addr w) := by
  unfold busAccess
  split
  · exact Keeps.comp (keeps_busRead_ h addr (Keeps.refl _ s)) (by decide) hs_
  · exact keeps_access h (keeps_regWrite_ h addr _ _ hs_) hs_

theorem keeps_busAccess {ps : Nat} {s0 s : State} (h : HalfId) (addr : Nat) (w : Option Nat) (hm_ : subParts 0x1FFFFFE7FFFFFF ps = true) (hs_ : Keeps ps s0 s) :
    Keeps ps s0 (busAccess s h addr w) := Keeps.comp (keeps_busAccess_ h addr w (Keeps.refl _ s)) hm_ hs_

theorem keeps_execRegisterWrite {s : State} (h : HalfId) (addr v : Nat) :
    Keeps 0x1FFFFFE7FFFFFF s (after s (execRegisterWrite h addr v s)) := by
  unfold execRegisterWrite
  try dsimp only
  repeat' first
    | (simp +contextual +decide (maxDischargeDepth := 60) only [after_next, Keeps.refl, ↓keeps_busAccess]; done)
    | simp only [after_next]
    | split

theorem keeps_execReadClear {s : State} (h : HalfId) (addr : Nat) :
    Keeps 0x1612067FFFFFF s (after s (execReadClear h addr s)) := by
  unfold execReadClear
  try dsimp only
  repeat' first
    | (simp +contextual +decide (maxDischargeDepth := 60) only [after_next, Keeps.refl, ↓keeps_busRead]; done)
    | simp only [after_next]
    | split

theorem keeps_execHkaDataRead {s : State} (h : HalfId) :
    Keeps 0x1612067FFFFFF s (after s (execHkaDataRead h s)) := by
  unfold execHkaDataRead
  try dsimp only
  repeat' first
    | (simp +contextual +decide (maxDischargeDepth := 60) only [after_next, Keeps.refl, ↓keeps_busRead]; done)
    | simp only [after_next]
    | split

theorem keeps_execPcvFltOutRead {s : State} (h : HalfId) :
    Keeps 0x1612067FFFFFF s (after s (execPcvFltOutRead h s)) := by
  unfold execPcvFltOutRead
  try dsimp only
  repeat' first
    | (simp +contextual +decide (maxDischargeDepth := 60) only [after_next, Keeps.refl, ↓keeps_busRead]; done)
    | simp only [after_next]
    | split

theorem keeps_execPcvInjDataAccess {s : State} (h : HalfId) (w : Option Nat) :
    Keeps 0x1FFFFFE7FFFFFF s (after s (execPcvInjDataAccess h w s)) := by
  unfold execPcvInjDataAccess
  try dsimp only
  repeat' first
    | (simp +contextual +decide (maxDischargeDepth := 60) only [after_next, Keeps.refl, ↓keeps_busAccess]; done)
    | simp only [after_next]
    | split

theorem keeps_execFstTplDataAccess {s : State} (h : HalfId) (w : Option Nat) :
    Keeps 0x1FFFFFE7FFFFFF s (after s (execFstTplDataAccess h w s)) := by
  unfold execFstTplDataAccess
  try dsimp only
  repeat' first
    | (simp +contextual +decide (maxDischargeDepth := 60) only [after_next, Keeps.refl, ↓keeps_busAccess]; done)
    | simp only [after_next]
    | split

theorem keeps_execFstFstatRead {s : State} (h : HalfId) (f : Nat) :
    Keeps 0x1612067FFFFFF s (after s (execFstFstatRead h f s)) := by
  unfold execFstFstatRead
  try dsimp only
  repeat' first
    | (simp +contextual +decide (maxDischargeDepth := 60) only [after_next, ↓keeps_ite, Keeps.refl, ↓keeps_busRead]; done)
    | simp only [after_next]
    | split

theorem keeps_execFabFstatRead {s : State} (h : HalfId) :
    Keeps 0x1612067FFFFFF s (after s (execFabFstatRead h s)) := by
  unfold execFabFstatRead
  try dsimp only
  repeat' first
    | (simp +contextual +decide (maxDischargeDepth := 60) only [after_next, Keeps.refl, ↓keeps_busRead]; done)
    | simp only [after_next]
    | split

theorem keeps_execFabUcDataAccess {s : State} (h : HalfId) (w : Option Nat) :
    Keeps 0x1FFFFFE7FFFFFF s (after s (execFabUcDataAccess h w s)) := by
  unfold execFabUcDataAccess
  try dsimp only
  repeat' first
    | (simp +contextual +decide (maxDischargeDepth := 60) only [after_next, Keeps.refl, ↓keeps_busAccess]; done)
    | simp only [after_next]
    | split

theorem keeps_execLgeTinfoRead {s : State} (h : HalfId) :
    Keeps 0x1612067FFFFFF s (after s (execLgeTinfoRead h s)) := by
  unfold execLgeTinfoRead
  try dsimp only
  repeat' first
    | (simp +contextual +decide (maxDischargeDepth := 60) only [after_next, Keeps.refl, ↓keeps_busRead]; done)
    | simp only [after_next]
    | split

theorem keeps_execAcqMdataRead {s : State} (h : HalfId) :
    Keeps 0x1612067FFFFFF s (after s (execAcqMdataRead h s)) := by
  unfold execAcqMdataRead
  try dsimp only
  repeat' first
    | (simp +contextual +decide (maxDischargeDepth := 60) only [after_next, Keeps.refl, ↓keeps_busRead]; done)
    | simp only [after_next]
    | split

theorem keeps_execLdgOptimeRead {s : State} (h : HalfId) :
    Keeps 0x1612067FFFFFF s (after s (execLdgOptimeRead h s)) := by
  unfold execLdgOptimeRead
  try dsimp only
  repeat' first
    | (simp +contextual +decide (maxDischargeDepth := 60) only [after_next, Keeps.refl, ↓keeps_busRead]; done)
    | simp only [after_next]
    | split

theorem keeps_execTimeNsRead {s : State} (h : HalfId) :
    Keeps 0x1612067FFFFFF s (after s (execTimeNsRead h s)) := by
  unfold execTimeNsRead
  try dsimp only
  repeat' first
    | (simp +contextual +decide (maxDischargeDepth := 60) only [after_next, Keeps.refl, ↓keeps_busRead]; done)
    | simp only [after_next]
    | split

theorem keeps_execEvqPopRead {s : State} (h : HalfId) :
    Keeps 0x1612067FFFFFF s (after s (execEvqPopRead h s)) := by
  unfold execEvqPopRead
  try dsimp only
  repeat' first
    | (simp +contextual +decide (maxDischargeDepth := 60) only [after_next, Keeps.refl, ↓keeps_busRead]; done)
    | simp only [after_next]
    | split

theorem keeps_execEvqIdataRead {s : State} (h : HalfId) :
    Keeps 0x1612067FFFFFF s (after s (execEvqIdataRead h s)) := by
  unfold execEvqIdataRead
  try dsimp only
  repeat' first
    | (simp +contextual +decide (maxDischargeDepth := 60) only [after_next, Keeps.refl, ↓keeps_busRead]; done)
    | simp only [after_next]
    | split

theorem keeps_execEthTdataAccess {s : State} (h : HalfId) (v : Option Nat) :
    Keeps 0x1FFFFFE7FFFFFF s (after s (execEthTdataAccess h v s)) := by
  unfold execEthTdataAccess
  try dsimp only
  repeat' first
    | (simp +contextual +decide (maxDischargeDepth := 60) only [after_next, Keeps.refl, ↓keeps_busAccess]; done)
    | simp only [after_next]
    | split

theorem keeps_execSecKeyDataAccess {s : State} (h : HalfId) (v : Option Nat) :
    Keeps 0x1FFFFFE7FFFFFF s (after s (execSecKeyDataAccess h v s)) := by
  unfold execSecKeyDataAccess
  try dsimp only
  repeat' first
    | (simp +contextual +decide (maxDischargeDepth := 60) only [after_next, Keeps.refl, ↓keeps_busAccess]; done)
    | simp only [after_next]
    | split

end Sys2Proof.Machine
end

