-- ==== Sys2Proof/Laws/KeepsPorts.lean ====
section
/-!
SUPPORT. `Keeps` for the operations of Machine/Ports.lean: the parts each may change.
-/

namespace Sys2Proof.Machine

open Sys2Proof (HalfId Instr Byte Word Accessor)

theorem keeps_collect {ps : Nat} {s0 s : State} (h : HalfId) (hm_ : subParts 0x400020000000 ps = true)
    (hs_ : Keeps ps s0 s) : Keeps ps s0 (collect s h) := by
  refine Keeps.comp (a := 0x400020000000) ?_ hm_ hs_
  clear hm_ hs_
  unfold collect
  try dsimp only
  repeat' first
    | (simp +contextual +decide (maxDischargeDepth := 60) only [Keeps.refl, ↓keeps_freeVal, ↓keeps_modMgmt]; done)
    | split

theorem keeps_respondWith {ps : Nat} {s0 s : State} (h : HalfId) (st addr data : Nat) (hm_ : subParts 0x400000000000 ps = true)
    (hs_ : Keeps ps s0 s) : Keeps ps s0 (respondWith s h st addr data) := by
  refine Keeps.comp (a := 0x400000000000) ?_ hm_ hs_
  clear hm_ hs_
  unfold respondWith
  try dsimp only
  repeat' first
    | (simp +contextual +decide (maxDischargeDepth := 60) only [Keeps.refl, ↓keeps_modMgmt]; done)
    | split

theorem keeps_respondOpen {ps : Nat} {s0 s : State} (h : HalfId) (st addr : Nat) (hm_ : subParts 0x400020000000 ps = true)
    (hs_ : Keeps ps s0 s) : Keeps ps s0 (respondOpen s h st addr) := by
  refine Keeps.comp (a := 0x400020000000) ?_ hm_ hs_
  clear hm_ hs_
  unfold respondOpen
  try dsimp only
  repeat' first
    | (simp +contextual +decide (maxDischargeDepth := 60) only [Keeps.refl, ↓keeps_freeVal, ↓keeps_respondWith]; done)
    | split

theorem keeps_hostAccess {ps : Nat} {s0 s : State} (h : HalfId) (addr : Nat) (v : Option Nat) (hm_ : subParts 0x1FFFFFE7FFFFFF ps = true)
    (hs_ : Keeps ps s0 s) : Keeps ps s0 (hostAccess s h addr v) := by
  refine Keeps.comp (a := 0x1FFFFFE7FFFFFF) ?_ hm_ hs_
  clear hm_ hs_
  unfold hostAccess
  try dsimp only
  repeat' first
    | (simp +contextual +decide (maxDischargeDepth := 60) only [Keeps.refl, ↓keeps_satAdd, ↓keeps_regRead, ↓keeps_regWrite, ↓keeps_collect, ↓keeps_respondWith, ↓keeps_respondOpen, Reg.HST_ERR_PRIV]; done)
    | split

theorem keeps_hostNop {ps : Nat} {s0 s : State} (h : HalfId) (addr : Nat) (hm_ : subParts 0x400020000000 ps = true)
    (hs_ : Keeps ps s0 s) : Keeps ps s0 (hostNop s h addr) := by
  refine Keeps.comp (a := 0x400020000000) ?_ hm_ hs_
  clear hm_ hs_
  unfold hostNop
  try dsimp only
  repeat' first
    | (simp +contextual +decide (maxDischargeDepth := 60) only [Keeps.refl, ↓keeps_collect, ↓keeps_respondOpen]; done)
    | split

theorem keeps_hostDiscard {ps : Nat} {s0 s : State} (h : HalfId) (why : Nat) (hm_ : subParts 0x400021000000 ps = true)
    (hs_ : Keeps ps s0 s) : Keeps ps s0 (hostDiscard s h why) := by
  refine Keeps.comp (a := 0x400021000000) ?_ hm_ hs_
  clear hm_ hs_
  unfold hostDiscard
  try dsimp only
  repeat' first
    | (simp +contextual +decide (maxDischargeDepth := 60) only [↓keeps_ite, Keeps.refl, ↓keeps_satAdd, ↓keeps_freeVal, ↓keeps_collect, ↓keeps_respondOpen, Reg.HST_ERR_CRC, Reg.HST_ERR_FRAME]; done)
    | split

theorem keeps_execHostNop {s : State} (h : HalfId) (addr : Nat) :
    Keeps 0x400020000000 s (after s (execHostNop h addr s)) := by
  unfold execHostNop
  try dsimp only
  repeat' first
    | (simp +contextual +decide (maxDischargeDepth := 60) only [after_next, Keeps.refl, ↓keeps_access, ↓keeps_hostNop]; done)
    | simp only [after_next]
    | split

theorem keeps_execHostRead {s : State} (h : HalfId) (addr : Nat) :
    Keeps 0x1FFFFFE7FFFFFF s (after s (execHostRead h addr s)) := by
  unfold execHostRead
  try dsimp only
  repeat' first
    | (simp +contextual +decide (maxDischargeDepth := 60) only [after_next, Keeps.refl, ↓keeps_access, ↓keeps_hostAccess]; done)
    | simp only [after_next]
    | split

theorem keeps_execHostWrite {s : State} (h : HalfId) (addr v : Nat) :
    Keeps 0x1FFFFFE7FFFFFF s (after s (execHostWrite h addr v s)) := by
  unfold execHostWrite
  try dsimp only
  repeat' first
    | (simp +contextual +decide (maxDischargeDepth := 60) only [after_next, Keeps.refl, ↓keeps_access, ↓keeps_hostAccess]; done)
    | simp only [after_next]
    | split

theorem keeps_execHostFrameError {s : State} (h : HalfId) (why : Nat) :
    Keeps 0x400021000000 s (after s (execHostFrameError h why s)) := by
  unfold execHostFrameError
  try dsimp only
  repeat' first
    | (simp +contextual +decide (maxDischargeDepth := 60) only [after_next, Keeps.refl, ↓keeps_access, ↓keeps_hostDiscard]; done)
    | simp only [after_next]
    | split

theorem keeps_sessionAccess {ps : Nat} {s0 s : State} (h : HalfId) (k addr : Nat) (v : Option Nat) (hm_ : subParts 0x1FFFFFE7FFFFFF ps = true)
    (hs_ : Keeps ps s0 s) : Keeps ps s0 (sessionAccess s h k addr v) := by
  refine Keeps.comp (a := 0x1FFFFFE7FFFFFF) ?_ hm_ hs_
  clear hm_ hs_
  unfold sessionAccess
  try dsimp only
  repeat' first
    | (simp +contextual +decide (maxDischargeDepth := 60) only [Keeps.refl, ↓keeps_modMgmt, ↓keeps_emp, ↓keeps_regRead, ↓keeps_regWrite]; done)
    | split

theorem keeps_sessionRequest {ps : Nat} {s0 s : State} (h : HalfId) (k addr : Nat) (v : Option Nat) (hm_ : subParts 0x1FFFFFE7FFFFFF ps = true)
    (hs_ : Keeps ps s0 s) : Keeps ps s0 (sessionRequest s h k addr v) := by
  refine Keeps.comp (a := 0x1FFFFFE7FFFFFF) ?_ hm_ hs_
  clear hm_ hs_
  unfold sessionRequest
  try dsimp only
  repeat' first
    | (simp +contextual +decide (maxDischargeDepth := 60) only [↓keeps_ite, Keeps.refl, ↓keeps_emp, ↓keeps_sessionRate, ↓keeps_sessionAccess]; done)
    | split

theorem keeps_execSessionRequest {s : State} (h : HalfId) (k addr : Nat) (v : Option Nat) :
    Keeps 0x1FFFFFE7FFFFFF s (after s (execSessionRequest h k addr v s)) := by
  unfold execSessionRequest
  try dsimp only
  repeat' first
    | (simp +contextual +decide (maxDischargeDepth := 60) only [after_next, Keeps.refl, ↓keeps_sessionRequest]; done)
    | simp only [after_next]
    | split

theorem keeps_exportRequest {ps : Nat} {s0 s : State} (h : HalfId) (session seq : Nat) (hm_ : subParts 0x400000000000 ps = true)
    (hs_ : Keeps ps s0 s) : Keeps ps s0 (exportRequest s h session seq) := by
  refine Keeps.comp (a := 0x400000000000) ?_ hm_ hs_
  clear hm_ hs_
  unfold exportRequest
  try dsimp only
  repeat' first
    | (simp +contextual +decide (maxDischargeDepth := 60) only [↓keeps_ite, Keeps.refl, ↓keeps_modMgmt, Reg.ETH_CORE_GOV, Reg.TIME_UTC_OFFSET]; done)
    | split

theorem keeps_execExportRequest {s : State} (h : HalfId) (session seq : Nat) :
    Keeps 0x400000000000 s (after s (execExportRequest h session seq s)) := by
  unfold execExportRequest
  try dsimp only
  repeat' first
    | (simp +contextual +decide (maxDischargeDepth := 60) only [after_next, Keeps.refl, ↓keeps_exportRequest]; done)
    | simp only [after_next]
    | split

end Sys2Proof.Machine
end

