-- ==== Sys2Proof/Laws/Exec.lean ====
section
/-!
SUPPORT. One equation per command: `exec` of the command is its meaning; and from it what a step of each may change.
-/

namespace Sys2Proof.Machine

open Sys2Proof (HalfId Instr Byte Word Accessor)

variable (s : State)

theorem exec_registerWrite (h : HalfId) (addr v : Nat) : exec (.registerWrite h addr v) s = execRegisterWrite h addr v s := rfl
theorem exec_readClear (h : HalfId) (addr : Nat) : exec (.readClear h addr) s = execReadClear h addr s := rfl
theorem exec_powerOn (vsup vhold : Nat) : exec (.powerOn vsup vhold) s = execPowerOn vsup vhold s := rfl
theorem exec_resetN  : exec (.resetN) s = execResetN s := rfl
theorem exec_halfReset (h : HalfId) : exec (.halfReset h) s = execHalfReset h s := rfl
theorem exec_halfResetsReleased (only : Option HalfId) (bootSel : Nat) (faults : List Nat) : exec (.halfResetsReleased only bootSel faults) s = execHalfResetsReleased only bootSel faults s := rfl
theorem exec_hash (h : HalfId) : exec (.hash h) s = execHash h s := rfl
theorem exec_partnerHashTimeout (h : HalfId) : exec (.partnerHashTimeout h) s = execPartnerHashTimeout h s := rfl
theorem exec_refsetElapsed (h : HalfId) : exec (.refsetElapsed h) s = execRefsetElapsed h s := rfl
theorem exec_refBufferEnable (h : HalfId) : exec (.refBufferEnable h) s = execRefBufferEnable h s := rfl
theorem exec_calibrationDone (h : HalfId) (fast delays : List Int) : exec (.calibrationDone h fast delays) s = execCalibrationDone h fast delays s := rfl
theorem exec_bootComplete (h : HalfId) (ms : Nat) : exec (.bootComplete h ms) s = execBootComplete h ms s := rfl
theorem exec_enterService (h : HalfId) : exec (.enterService h) s = execEnterService h s := rfl
theorem exec_enterTest (h : HalfId) : exec (.enterTest h) s = execEnterTest h s := rfl
theorem exec_exitTest (h : HalfId) : exec (.exitTest h) s = execExitTest h s := rfl
theorem exec_extendTest (h : HalfId) : exec (.extendTest h) s = execExtendTest h s := rfl
theorem exec_enterLayup (h : HalfId) : exec (.enterLayup h) s = execEnterLayup h s := rfl
theorem exec_exitLayup (h : HalfId) : exec (.exitLayup h) s = execExitLayup h s := rfl
theorem exec_exitLockout (h : HalfId) (faults : List Nat) : exec (.exitLockout h faults) s = execExitLockout h faults s := rfl
theorem exec_enableOutput (h : HalfId) (kind index : Nat) : exec (.enableOutput h kind index) s = execEnableOutput h kind index s := rfl
theorem exec_disableOutput (h : HalfId) (kind index : Nat) : exec (.disableOutput h kind index) s = execDisableOutput h kind index s := rfl
theorem exec_warmRestart (h : HalfId) : exec (.warmRestart h) s = execWarmRestart h s := rfl
theorem exec_coldRestart (h : HalfId) : exec (.coldRestart h) s = execColdRestart h s := rfl
theorem exec_modePropose (h : HalfId) : exec (.modePropose h) s = execModePropose h s := rfl
theorem exec_modeAck (h : HalfId) : exec (.modeAck h) s = execModeAck h s := rfl
theorem exec_modeSwitchInstant (faults : List Nat) : exec (.modeSwitchInstant faults) s = execModeSwitchInstant faults s := rfl
theorem exec_layupReqHeld  : exec (.layupReqHeld) s = execLayupReqHeld s := rfl
theorem exec_layupReqFall  : exec (.layupReqFall) s = execLayupReqFall s := rfl
theorem exec_standbyPowerDown  : exec (.standbyPowerDown) s = execStandbyPowerDown s := rfl
theorem exec_fastWakeDone  : exec (.fastWakeDone) s = execFastWakeDone s := rfl
theorem exec_layupExitTimeout  : exec (.layupExitTimeout) s = execLayupExitTimeout s := rfl
theorem exec_testTimeout  : exec (.testTimeout) s = execTestTimeout s := rfl
theorem exec_lockoutRequest (h : HalfId) (cause : Nat) : exec (.lockoutRequest h cause) s = execLockoutRequest h cause s := rfl
theorem exec_livenessTimeout (h : HalfId) : exec (.livenessTimeout h) s = execLivenessTimeout h s := rfl
theorem exec_gavelFault  : exec (.gavelFault) s = execGavelFault s := rfl
theorem exec_railFault  : exec (.railFault) s = execRailFault s := rfl
theorem exec_paceMeasurement (h : HalfId) (counts : List Nat) : exec (.paceMeasurement h counts) s = execPaceMeasurement h counts s := rfl
theorem exec_paceLowClear (h : HalfId) : exec (.paceLowClear h) s = execPaceLowClear h s := rfl
theorem exec_verify (h : HalfId) (slot : Nat) : exec (.verify h slot) s = execVerify h slot s := rfl
theorem exec_imageVerifyDone (h : HalfId) (fault : Nat) : exec (.imageVerifyDone h fault) s = execImageVerifyDone h fault s := rfl
theorem exec_activate (h : HalfId) (slot fault : Nat) : exec (.activate h slot fault) s = execActivate h slot fault s := rfl
theorem exec_settingWindowWrite (h : HalfId) (addr v : Nat) : exec (.settingWindowWrite h addr v) s = execSettingWindowWrite h addr v s := rfl
theorem exec_stage (h : HalfId) (group : Nat) : exec (.stage h group) s = execStage h group s := rfl
theorem exec_setStage (h : HalfId) : exec (.setStage h) s = execSetStage h s := rfl
theorem exec_setCrc (h : HalfId) : exec (.setCrc h) s = execSetCrc h s := rfl
theorem exec_stageTimeout (h : HalfId) : exec (.stageTimeout h) s = execStageTimeout h s := rfl
theorem exec_switch (h : HalfId) (group : Nat) : exec (.switch h group) s = execSwitch h group s := rfl
theorem exec_loadDefault (h : HalfId) (group : Nat) : exec (.loadDefault h group) s = execLoadDefault h group s := rfl
theorem exec_setSwitch (h : HalfId) : exec (.setSwitch h) s = execSetSwitch h s := rfl
theorem exec_setAck (h : HalfId) : exec (.setAck h) s = execSetAck h s := rfl
theorem exec_switchAckTimeout (h : HalfId) : exec (.switchAckTimeout h) s = execSwitchAckTimeout h s := rfl
theorem exec_groupSwitchInstant (h : HalfId) : exec (.groupSwitchInstant h) s = execGroupSwitchInstant h s := rfl
theorem exec_hkScan (h : HalfId) (codes : List Nat) (self : Nat) : exec (.hkScan h codes self) s = execHkScan h codes self s := rfl
theorem exec_hkaDataRead (h : HalfId) : exec (.hkaDataRead h) s = execHkaDataRead h s := rfl
theorem exec_fastSample (h : HalfId) (ch code : Nat) (ovr incomplete : Bool) (inst : Nat) : exec (.fastSample h ch code ovr incomplete inst) s = execFastSample h ch code ovr incomplete inst s := rfl
theorem exec_fcvFrozen (h : HalfId) (ch : Nat) : exec (.fcvFrozen h ch) s = execFcvFrozen h ch s := rfl
theorem exec_sigWindowClose (h : HalfId) (f : Nat) : exec (.sigWindowClose h f) s = execSigWindowClose h f s := rfl
theorem exec_sigHoldEnd (h : HalfId) (f : Nat) : exec (.sigHoldEnd h f) s = execSigHoldEnd h f s := rfl
theorem exec_maxrExpiry (h : HalfId) (diff : Bool) (k : Nat) : exec (.maxrExpiry h diff k) s = execMaxrExpiry h diff k s := rfl
theorem exec_ftiEdge (n : Nat) (asserted : Bool) : exec (.ftiEdge n asserted) s = execFtiEdge n asserted s := rfl
theorem exec_ftiFault (n : Nat) : exec (.ftiFault n) s = execFtiFault n s := rfl
theorem exec_injectionTestSlot (h : HalfId) (code : Nat) : exec (.injectionTestSlot h code) s = execInjectionTestSlot h code s := rfl
theorem exec_injectionTestDefer (h : HalfId) (code : Nat) : exec (.injectionTestDefer h code) s = execInjectionTestDefer h code s := rfl
theorem exec_testPointsDone (h : HalfId) (d0 d1 d2 : Int) : exec (.testPointsDone h d0 d1 d2) s = execTestPointsDone h d0 d1 d2 s := rfl
theorem exec_substitutionEnd (h : HalfId) : exec (.substitutionEnd h) s = execSubstitutionEnd h s := rfl
theorem exec_injectionRetest (h : HalfId) (code : Nat) : exec (.injectionRetest h code) s = execInjectionRetest h code s := rfl
theorem exec_testStart (h : HalfId) (code : Nat) : exec (.testStart h code) s = execTestStart h code s := rfl
theorem exec_testEnd (h : HalfId) (code : Nat) : exec (.testEnd h code) s = execTestEnd h code s := rfl
theorem exec_tilePickup (h : HalfId) (code : Nat) : exec (.tilePickup h code) s = execTilePickup h code s := rfl
theorem exec_mclkFreqWrite (h : HalfId) (k freq : Nat) : exec (.mclkFreqWrite h k freq) s = execMclkFreqWrite h k freq s := rfl
theorem exec_bsiClockMeasure (h : HalfId) (k hz : Nat) : exec (.bsiClockMeasure h k hz) s = execBsiClockMeasure h k hz s := rfl
theorem exec_bsiOpenDetect (h : HalfId) (n : Nat) (on : Bool) : exec (.bsiOpenDetect h n on) s = execBsiOpenDetect h n on s := rfl
theorem exec_bsiNoEdge (h : HalfId) (n : Nat) : exec (.bsiNoEdge h n) s = execBsiNoEdge h n s := rfl
theorem exec_bsiDensity (h : HalfId) (n ones : Nat) : exec (.bsiDensity h n ones) s = execBsiDensity h n ones s := rfl
theorem exec_pllUnlock (h : HalfId) (pll : Nat) : exec (.pllUnlock h pll) s = execPllUnlock h pll s := rfl
theorem exec_pllRelock (h : HalfId) (pll : Nat) : exec (.pllRelock h pll) s = execPllRelock h pll s := rfl
theorem exec_trackedCycleBoundary (h : HalfId) (f1 f2 : Option Nat) (phi : Int) : exec (.trackedCycleBoundary h f1 f2 phi) s = execTrackedCycleBoundary h f1 f2 phi s := rfl
theorem exec_trkState (h : HalfId) : exec (.trkState h) s = execTrkState h s := rfl
theorem exec_syncPulse (h : HalfId) (locked : Bool) : exec (.syncPulse h locked) s = execSyncPulse h locked s := rfl
theorem exec_cal (h : HalfId) : exec (.cal h) s = execCal h s := rfl
theorem exec_chainOutput (h : HalfId) (c : Nat) (x re im : Int) (older inst : Nat) (cyc : Option Nat) (sat : Bool) : exec (.chainOutput h c x re im older inst cyc sat) s = execChainOutput h c x re im older inst cyc sat s := rfl
theorem exec_responseSwitchBoundary (h : HalfId) (chain : Nat) : exec (.responseSwitchBoundary h chain) s = execResponseSwitchBoundary h chain s := rfl
theorem exec_fltSwitch (h : HalfId) (chain resp : Nat) : exec (.fltSwitch h chain resp) s = execFltSwitch h chain resp s := rfl
theorem exec_peakReset (h : HalfId) (chain : Nat) : exec (.peakReset h chain) s = execPeakReset h chain s := rfl
theorem exec_pcvFltSelWrite (h : HalfId) (v : Nat) : exec (.pcvFltSelWrite h v) s = execPcvFltSelWrite h v s := rfl
theorem exec_pcvFltOutRead (h : HalfId) : exec (.pcvFltOutRead h) s = execPcvFltOutRead h s := rfl
theorem exec_injStart (h : HalfId) (set : Nat) : exec (.injStart h set) s = execInjStart h set s := rfl
theorem exec_injStop (h : HalfId) : exec (.injStop h) s = execInjStop h s := rfl
theorem exec_pcvInjDataAccess (h : HalfId) (w : Option Nat) : exec (.pcvInjDataAccess h w) s = execPcvInjDataAccess h w s := rfl
theorem exec_fstTplDataAccess (h : HalfId) (w : Option Nat) : exec (.fstTplDataAccess h w) s = execFstTplDataAccess h w s := rfl
theorem exec_fstFstatRead (h : HalfId) (f : Nat) : exec (.fstFstatRead h f) s = execFstFstatRead h f s := rfl
theorem exec_freezeDrop (h : HalfId) (slot : Nat) : exec (.freezeDrop h slot) s = execFreezeDrop h slot s := rfl
theorem exec_definiteResetExpiry (h : HalfId) (slot : Nat) : exec (.definiteResetExpiry h slot) s = execDefiniteResetExpiry h slot s := rfl
theorem exec_alignWaitExpiry (h : HalfId) (slot : Nat) : exec (.alignWaitExpiry h slot) s = execAlignWaitExpiry h slot s := rfl
theorem exec_rotationHandoverStart (h : HalfId) (fast : Bool) : exec (.rotationHandoverStart h fast) s = execRotationHandoverStart h fast s := rfl
theorem exec_comparisonComplete (h : HalfId) (fast : Bool) (differs : Option Nat) : exec (.comparisonComplete h fast differs) s = execComparisonComplete h fast differs s := rfl
theorem exec_katComplete (h : HalfId) (fast : Bool) (tile : Nat) (ok : Bool) (vector : Nat) : exec (.katComplete h fast tile ok vector) s = execKatComplete h fast tile ok vector s := rfl
theorem exec_rotLate (h : HalfId) (fast : Bool) : exec (.rotLate h fast) s = execRotLate h fast s := rfl
theorem exec_fabFstatRead (h : HalfId) : exec (.fabFstatRead h) s = execFabFstatRead h s := rfl
theorem exec_fabUcDataAccess (h : HalfId) (w : Option Nat) : exec (.fabUcDataAccess h w) s = execFabUcDataAccess h w s := rfl
theorem exec_lightRise (n rise : Nat) (sat : Bool) (disagree : List HalfId) : exec (.lightRise n rise sat disagree) s = execLightRise n rise sat disagree s := rfl
theorem exec_lightFall (n : Nat) : exec (.lightFall n) s = execLightFall n s := rfl
theorem exec_lightLevelSample (n level : Nat) (sat : Bool) : exec (.lightLevelSample n level sat) s = execLightLevelSample n level sat s := rfl
theorem exec_ambientResettled (n : Nat) : exec (.ambientResettled n) s = execAmbientResettled n s := rfl
theorem exec_stretchExpiry (h : HalfId) (n part : Nat) : exec (.stretchExpiry h n part) s = execStretchExpiry h n part s := rfl
theorem exec_codeCycle  : exec (.codeCycle) s = execCodeCycle s := rfl
theorem exec_codeRetry (n : Nat) : exec (.codeRetry n) s = execCodeRetry n s := rfl
theorem exec_codeComplete (n : Nat) (own oth : Int) (seen spread : Nat) (sat ledOpen ledShort : Bool) : exec (.codeComplete n own oth seen spread sat ledOpen ledShort) s = execCodeComplete n own oth seen spread sat ledOpen ledShort s := rfl
theorem exec_codeNow (h : HalfId) (mask : Nat) : exec (.codeNow h mask) s = execCodeNow h mask s := rfl
theorem exec_clrCounts (h : HalfId) (mask : Nat) : exec (.clrCounts h mask) s = execClrCounts h mask s := rfl
theorem exec_resume (h : HalfId) (mask : Nat) : exec (.resume h mask) s = execResume h mask s := rfl
theorem exec_voteDisagreeTimer (code : Nat) : exec (.voteDisagreeTimer code) s = execVoteDisagreeTimer code s := rfl
theorem exec_tcsFailTimer (k : Nat) : exec (.tcsFailTimer k) s = execTcsFailTimer k s := rfl
theorem exec_noLeaderTimeout  : exec (.noLeaderTimeout) s = execNoLeaderTimeout s := rfl
theorem exec_supplyMeasure (g mv : Nat) : exec (.supplyMeasure g mv) s = execSupplyMeasure g mv s := rfl
theorem exec_diWindow (n : Nat) (level : Bool) (current inst : Nat) : exec (.diWindow n level current inst) s = execDiWindow n level current inst s := rfl
theorem exec_doOverload (n : Nat) (on : Bool) (current : Nat) : exec (.doOverload n on current) s = execDoOverload n on current s := rfl
theorem exec_doOpenOn (n current : Nat) : exec (.doOpenOn n current) s = execDoOpenOn n current s := rfl
theorem exec_doOpenOffCheck (n : Nat) (above : Bool) : exec (.doOpenOffCheck n above) s = execDoOpenOffCheck n above s := rfl
theorem exec_doOvertemp (n : Nat) : exec (.doOvertemp n) s = execDoOvertemp n s := rfl
theorem exec_doOvertempRetry (n : Nat) (ok : Bool) : exec (.doOvertempRetry n ok) s = execDoOvertempRetry n ok s := rfl
theorem exec_grpOvercurrent (g current : Nat) : exec (.grpOvercurrent g current) s = execGrpOvercurrent g current s := rfl
theorem exec_leaderRefresh (h : HalfId) : exec (.leaderRefresh h) s = execLeaderRefresh h s := rfl
theorem exec_doRefreshTimeout (mask : Nat) : exec (.doRefreshTimeout mask) s = execDoRefreshTimeout mask s := rfl
theorem exec_unlatch (h : HalfId) (index : Nat) : exec (.unlatch h index) s = execUnlatch h index s := rfl
theorem exec_unlatchAll (h : HalfId) : exec (.unlatchAll h) s = execUnlatchAll h s := rfl
theorem exec_arcadeCycleBoundary (h : HalfId) : exec (.arcadeCycleBoundary h) s = execArcadeCycleBoundary h s := rfl
theorem exec_eventTaskLimit (h : HalfId) (t : Nat) : exec (.eventTaskLimit h t) s = execEventTaskLimit h t s := rfl
theorem exec_nop (h : HalfId) : exec (.nop h) s = execNop h s := rfl
theorem exec_ld (h : HalfId) (a n : Nat) (neg : Bool) : exec (.ld h a n neg) s = execLd h a n neg s := rfl
theorem exec_and (h : HalfId) (a n : Nat) (neg : Bool) : exec (.and h a n neg) s = execAnd h a n neg s := rfl
theorem exec_or (h : HalfId) (a n : Nat) (neg : Bool) : exec (.or h a n neg) s = execOr h a n neg s := rfl
theorem exec_xor (h : HalfId) (a n : Nat) (neg : Bool) : exec (.xor h a n neg) s = execXor h a n neg s := rfl
theorem exec_andPush (h : HalfId) (a n : Nat) (neg : Bool) : exec (.andPush h a n neg) s = execAndPush h a n neg s := rfl
theorem exec_orPush (h : HalfId) (a n : Nat) (neg : Bool) : exec (.orPush h a n neg) s = execOrPush h a n neg s := rfl
theorem exec_xorPush (h : HalfId) (a n : Nat) (neg : Bool) : exec (.xorPush h a n neg) s = execXorPush h a n neg s := rfl
theorem exec_pop (h : HalfId) : exec (.pop h) s = execPop h s := rfl
theorem exec_st (h : HalfId) (a n : Nat) (neg : Bool) : exec (.st h a n neg) s = execSt h a n neg s := rfl
theorem exec_set (h : HalfId) (a n : Nat) : exec (.set h a n) s = execSet h a n s := rfl
theorem exec_rst (h : HalfId) (a n : Nat) : exec (.rst h a n) s = execRst h a n s := rfl
theorem exec_pedge (h : HalfId) (n : Nat) : exec (.pedge h n) s = execPedge h n s := rfl
theorem exec_nedge (h : HalfId) (n : Nat) : exec (.nedge h n) s = execNedge h n s := rfl
theorem exec_ton (h : HalfId) (n : Nat) : exec (.ton h n) s = execTon h n s := rfl
theorem exec_tof (h : HalfId) (n : Nat) : exec (.tof h n) s = execTof h n s := rfl
theorem exec_tp (h : HalfId) (n : Nat) : exec (.tp h n) s = execTp h n s := rfl
theorem exec_tonr (h : HalfId) (n : Nat) : exec (.tonr h n) s = execTonr h n s := rfl
theorem exec_ctu (h : HalfId) (n : Nat) : exec (.ctu h n) s = execCtu h n s := rfl
theorem exec_ctd (h : HalfId) (n : Nat) : exec (.ctd h n) s = execCtd h n s := rfl
theorem exec_jmp (h : HalfId) (target : Nat) : exec (.jmp h target) s = execJmp h target s := rfl
theorem exec_jmpc (h : HalfId) (target : Nat) : exec (.jmpc h target) s = execJmpc h target s := rfl
theorem exec_jmpcn (h : HalfId) (target : Nat) : exec (.jmpcn h target) s = execJmpcn h target s := rfl
theorem exec_endTask (h : HalfId) : exec (.endTask h) s = execEndTask h s := rfl
theorem exec_lgeTinfoRead (h : HalfId) : exec (.lgeTinfoRead h) s = execLgeTinfoRead h s := rfl
theorem exec_heartbeatSend (h : HalfId) : exec (.heartbeatSend h) s = execHeartbeatSend h s := rfl
theorem exec_heartbeat (h : HalfId) (acked : Bool) : exec (.heartbeat h acked) s = execHeartbeat h acked s := rfl
theorem exec_xlRetransmit (h : HalfId) (errors : Nat) : exec (.xlRetransmit h errors) s = execXlRetransmit h errors s := rfl
theorem exec_xlUp (h : HalfId) : exec (.xlUp h) s = execXlUp h s := rfl
theorem exec_probe (h : HalfId) : exec (.probe h) s = execProbe h s := rfl
theorem exec_probeReply (h : HalfId) : exec (.probeReply h) s = execProbeReply h s := rfl
theorem exec_partnerHeartbeatLoss (h : HalfId) : exec (.partnerHeartbeatLoss h) s = execPartnerHeartbeatLoss h s := rfl
theorem exec_lossConfirm (h : HalfId) (strobe : Bool) : exec (.lossConfirm h strobe) s = execLossConfirm h strobe s := rfl
theorem exec_gavelRequestTimer (h : HalfId) : exec (.gavelRequestTimer h) s = execGavelRequestTimer h s := rfl
theorem exec_gavelGrant (h : HalfId) : exec (.gavelGrant h) s = execGavelGrant h s := rfl
theorem exec_gavelCancel  : exec (.gavelCancel) s = execGavelCancel s := rfl
theorem exec_gavelDisagree (h : HalfId) (case_ : Nat) : exec (.gavelDisagree h case_) s = execGavelDisagree h case_ s := rfl
theorem exec_roundTimeout  : exec (.roundTimeout) s = execRoundTimeout s := rfl
theorem exec_lsImage (h : HalfId) (lag : Nat) : exec (.lsImage h lag) s = execLsImage h lag s := rfl
theorem exec_lsEnd (h : HalfId) : exec (.lsEnd h) s = execLsEnd h s := rfl
theorem exec_lsSweepTimer (h : HalfId) : exec (.lsSweepTimer h) s = execLsSweepTimer h s := rfl
theorem exec_lsSweep (h : HalfId) : exec (.lsSweep h) s = execLsSweep h s := rfl
theorem exec_lsCopy (h : HalfId) : exec (.lsCopy h) s = execLsCopy h s := rfl
theorem exec_lsStop (h : HalfId) : exec (.lsStop h) s = execLsStop h s := rfl
theorem exec_mismatch (h : HalfId) : exec (.mismatch h) s = execMismatch h s := rfl
theorem exec_selftestDone (h : HalfId) (pass : Bool) : exec (.selftestDone h pass) s = execSelftestDone h pass s := rfl
theorem exec_selftestResult (h : HalfId) : exec (.selftestResult h) s = execSelftestResult h s := rfl
theorem exec_lockstepLag (h : HalfId) : exec (.lockstepLag h) s = execLockstepLag h s := rfl
theorem exec_handover (h : HalfId) : exec (.handover h) s = execHandover h s := rfl
theorem exec_handoverBoundary (h : HalfId) : exec (.handoverBoundary h) s = execHandoverBoundary h s := rfl
theorem exec_handoverAbandon (h : HalfId) : exec (.handoverAbandon h) s = execHandoverAbandon h s := rfl
theorem exec_returnHoldoff (h : HalfId) : exec (.returnHoldoff h) s = execReturnHoldoff h s := rfl
theorem exec_returnReq (h : HalfId) : exec (.returnReq h) s = execReturnReq h s := rfl
theorem exec_handoverCmd (h : HalfId) : exec (.handoverCmd h) s = execHandoverCmd h s := rfl
theorem exec_takeover (h : HalfId) : exec (.takeover h) s = execTakeover h s := rfl
theorem exec_clearLcl (h : HalfId) : exec (.clearLcl h) s = execClearLcl h s := rfl
theorem exec_ackReturn (h : HalfId) : exec (.ackReturn h) s = execAckReturn h s := rfl
theorem exec_clearDegraded (h : HalfId) : exec (.clearDegraded h) s = execClearDegraded h s := rfl
theorem exec_eccUncorrectable (h : HalfId) (region : Nat) : exec (.eccUncorrectable h region) s = execEccUncorrectable h region s := rfl
theorem exec_recorderTrigger (h : HalfId) (areas kind index inst : Nat) : exec (.recorderTrigger h areas kind index inst) s = execRecorderTrigger h areas kind index inst s := rfl
theorem exec_segmentClose (h : HalfId) (area : Nat) : exec (.segmentClose h area) s = execSegmentClose h area s := rfl
theorem exec_segmentMaxLen (h : HalfId) (area : Nat) : exec (.segmentMaxLen h area) s = execSegmentMaxLen h area s := rfl
theorem exec_measurementsDone (h : HalfId) (area : Nat) : exec (.measurementsDone h area) s = execMeasurementsDone h area s := rfl
theorem exec_commitJobStart (h : HalfId) : exec (.commitJobStart h) s = execCommitJobStart h s := rfl
theorem exec_commitJobDone (h : HalfId) (ok : Bool) (status : Nat) : exec (.commitJobDone h ok status) s = execCommitJobDone h ok status s := rfl
theorem exec_commitRetry (h : HalfId) (ok : Bool) (status : Nat) : exec (.commitRetry h ok status) s = execCommitRetry h ok status s := rfl
theorem exec_trigger (h : HalfId) (areas : Nat) : exec (.trigger h areas) s = execTrigger h areas s := rfl
theorem exec_acqStop (h : HalfId) (areas : Nat) : exec (.acqStop h areas) s = execAcqStop h areas s := rfl
theorem exec_acqStart (h : HalfId) (areas : Nat) : exec (.acqStart h areas) s = execAcqStart h areas s := rfl
theorem exec_acqMselWrite (h : HalfId) (v : Nat) : exec (.acqMselWrite h v) s = execAcqMselWrite h v s := rfl
theorem exec_acqMdataRead (h : HalfId) : exec (.acqMdataRead h) s = execAcqMdataRead h s := rfl
theorem exec_crtStart (h : HalfId) (firmware : Bool) : exec (.crtStart h firmware) s = execCrtStart h firmware s := rfl
theorem exec_crtResume (h : HalfId) (firmware : Bool) : exec (.crtResume h firmware) s = execCrtResume h firmware s := rfl
theorem exec_crtAbort (h : HalfId) : exec (.crtAbort h) s = execCrtAbort h s := rfl
theorem exec_crateBlockDone (h : HalfId) (commit memErr : Bool) (choice : List Byte) : exec (.crateBlockDone h commit memErr choice) s = execCrateBlockDone h commit memErr choice s := rfl
theorem exec_powerFailDeclare (vsup vhold : Nat) (times : List Nat) : exec (.powerFailDeclare vsup vhold times) s = execPowerFailDeclare vsup vhold times s := rfl
theorem exec_converterStop  : exec (.converterStop) s = execConverterStop s := rfl
theorem exec_powerRestoreBoot (vsup vhold : Nat) : exec (.powerRestoreBoot vsup vhold) s = execPowerRestoreBoot vsup vhold s := rfl
theorem exec_storeCommitDone (h : HalfId) (part : Nat) (ok : Bool) (page : Nat) : exec (.storeCommitDone h part ok page) s = execStoreCommitDone h part ok page s := rfl
theorem exec_imgSlotOpen (h : HalfId) (slot : Nat) : exec (.imgSlotOpen h slot) s = execImgSlotOpen h slot s := rfl
theorem exec_imgSlotClose (h : HalfId) (slot : Nat) : exec (.imgSlotClose h slot) s = execImgSlotClose h slot s := rfl
theorem exec_imgSlotAbort (h : HalfId) (slot : Nat) : exec (.imgSlotAbort h slot) s = execImgSlotAbort h slot s := rfl
theorem exec_pstImgDataWrite (h : HalfId) (v : Nat) : exec (.pstImgDataWrite h v) s = execPstImgDataWrite h v s := rfl
theorem exec_ledgerAppend (h : HalfId) (source event : Nat) (fields : List Byte) : exec (.ledgerAppend h source event fields) s = execLedgerAppend h source event fields s := rfl
theorem exec_ledgerRate  : exec (.ledgerRate) s = execLedgerRate s := rfl
theorem exec_ledgerClear (h : HalfId) (session : Nat) (by_ : Accessor) : exec (.ledgerClear h session by_) s = execLedgerClear h session by_ s := rfl
theorem exec_ledgerClearDone  : exec (.ledgerClearDone) s = execLedgerClearDone s := rfl
theorem exec_ldgRselWrite (h : HalfId) (seq : Nat) : exec (.ldgRselWrite h seq) s = execLdgRselWrite h seq s := rfl
theorem exec_ldgOptimeRead (h : HalfId) : exec (.ldgOptimeRead h) s = execLdgOptimeRead h s := rfl
theorem exec_optimeCommit  : exec (.optimeCommit) s = execOptimeCommit s := rfl
theorem exec_scheduleArm (h : HalfId) (entry cfg : Nat) : exec (.scheduleArm h entry cfg) s = execScheduleArm h entry cfg s := rfl
theorem exec_scheduleDisarm (h : HalfId) (entry cfg : Nat) : exec (.scheduleDisarm h entry cfg) s = execScheduleDisarm h entry cfg s := rfl
theorem exec_scheduledStocktake (h : HalfId) (entry : Nat) : exec (.scheduledStocktake h entry) s = execScheduledStocktake h entry s := rfl
theorem exec_scheduledSetSwitch (h : HalfId) (entry : Nat) : exec (.scheduledSetSwitch h entry) s = execScheduledSetSwitch h entry s := rfl
theorem exec_recTrigger (h : HalfId) (entry : Nat) : exec (.recTrigger h entry) s = execRecTrigger h entry s := rfl
theorem exec_testInject (h : HalfId) (entry : Nat) : exec (.testInject h entry) s = execTestInject h entry s := rfl
theorem exec_pulse (h : HalfId) (entry : Nat) : exec (.pulse h entry) s = execPulse h entry s := rfl
theorem exec_timeCommit (h : HalfId) : exec (.timeCommit h) s = execTimeCommit h s := rfl
theorem exec_commitAtPps (h : HalfId) : exec (.commitAtPps h) s = execCommitAtPps h s := rfl
theorem exec_timeLoadAtSecond  : exec (.timeLoadAtSecond) s = execTimeLoadAtSecond s := rfl
theorem exec_timeStep (h : HalfId) : exec (.timeStep h) s = execTimeStep h s := rfl
theorem exec_timeCancel (h : HalfId) : exec (.timeCancel h) s = execTimeCancel h s := rfl
theorem exec_timeSlewWrite (h : HalfId) (v : Nat) : exec (.timeSlewWrite h v) s = execTimeSlewWrite h v s := rfl
theorem exec_timeNsRead (h : HalfId) : exec (.timeNsRead h) s = execTimeNsRead h s := rfl
theorem exec_ptpSync (domain master : Nat) (offset : Int) (twoStep : Bool) : exec (.ptpSync domain master offset twoStep) s = execPtpSync domain master offset twoStep s := rfl
theorem exec_ptpAnnounce (domain master : Nat) (better : Bool) (utc : Option Nat) : exec (.ptpAnnounce domain master better utc) s = execPtpAnnounce domain master better utc s := rfl
theorem exec_ppsInEdge (offset : Int) : exec (.ppsInEdge offset) s = execPpsInEdge offset s := rfl
theorem exec_ppsInLost  : exec (.ppsInLost) s = execPpsInLost s := rfl
theorem exec_holdover  : exec (.holdover) s = execHoldover s := rfl
theorem exec_take (h : HalfId) : exec (.take h) s = execTake h s := rfl
theorem exec_domainTakeCmd (h : HalfId) : exec (.domainTakeCmd h) s = execDomainTakeCmd h s := rfl
theorem exec_domainTakeRelay (h : HalfId) : exec (.domainTakeRelay h) s = execDomainTakeRelay h s := rfl
theorem exec_domainTakeDue (h : HalfId) : exec (.domainTakeDue h) s = execDomainTakeDue h s := rfl
theorem exec_laneUp (h : HalfId) (lane : Nat) : exec (.laneUp h lane) s = execLaneUp h lane s := rfl
theorem exec_laneDown (h : HalfId) (lane : Nat) : exec (.laneDown h lane) s = execLaneDown h lane s := rfl
theorem exec_intertrip (h : HalfId) (lane : Nat) (frame : List Byte) : exec (.intertrip h lane frame) s = execIntertrip h lane frame s := rfl
theorem exec_stream (h : HalfId) (lane : Nat) (frame : List Byte) : exec (.stream h lane frame) s = execStream h lane frame s := rfl
theorem exec_update (h : HalfId) (lane : Nat) (frame : List Byte) : exec (.update h lane frame) s = execUpdate h lane frame s := rfl
theorem exec_domainTake (h : HalfId) (lane : Nat) (frame : List Byte) : exec (.domainTake h lane frame) s = execDomainTake h lane frame s := rfl
theorem exec_timeSync (h : HalfId) (lane : Nat) (frame : List Byte) (offset : Int) : exec (.timeSync h lane frame offset) s = execTimeSync h lane frame offset s := rfl
theorem exec_pdelayReq (h : HalfId) (lane : Nat) (frame : List Byte) : exec (.pdelayReq h lane frame) s = execPdelayReq h lane frame s := rfl
theorem exec_pdelayResp (h : HalfId) (lane : Nat) (frame : List Byte) (delay : Nat) : exec (.pdelayResp h lane frame delay) s = execPdelayResp h lane frame delay s := rfl
theorem exec_map (h : HalfId) (lane : Nat) (frame : List Byte) : exec (.map h lane frame) s = execMap h lane frame s := rfl
theorem exec_bulk (h : HalfId) (lane : Nat) (frame : List Byte) : exec (.bulk h lane frame) s = execBulk h lane frame s := rfl
theorem exec_mapSend (h : HalfId) (util peak : List Nat) : exec (.mapSend h util peak) s = execMapSend h util peak s := rfl
theorem exec_bazaarRefresh (h : HalfId) (pub : Nat) : exec (.bazaarRefresh h pub) s = execBazaarRefresh h pub s := rfl
theorem exec_intertripRepeat (h : HalfId) (pub : Nat) : exec (.intertripRepeat h pub) s = execIntertripRepeat h pub s := rfl
theorem exec_pointStale (h : HalfId) (point : Nat) : exec (.pointStale h point) s = execPointStale h point s := rfl
theorem exec_mgmtWatchdog (h : HalfId) : exec (.mgmtWatchdog h) s = execMgmtWatchdog h s := rfl
theorem exec_ethLinkChange (h : HalfId) (up supported : Bool) : exec (.ethLinkChange h up supported) s = execEthLinkChange h up supported s := rfl
theorem exec_sessionOpen (h : HalfId) (k role : Nat) : exec (.sessionOpen h k role) s = execSessionOpen h k role s := rfl
theorem exec_sessionRequest (h : HalfId) (k addr : Nat) (v : Option Nat) : exec (.sessionRequest h k addr v) s = execSessionRequest h k addr v s := rfl
theorem exec_sessionEnd (h : HalfId) (k : Nat) : exec (.sessionEnd h k) s = execSessionEnd h k s := rfl
theorem exec_gooseRx (h : HalfId) (sub stNum sqNum ttl : Nat) (sim : Bool) (values : List (Nat × Int × Bool)) : exec (.gooseRx h sub stNum sqNum ttl sim values) s = execGooseRx h sub stNum sqNum ttl sim values s := rfl
theorem exec_gooseRetransmit (h : HalfId) (block : Nat) : exec (.gooseRetransmit h block) s = execGooseRetransmit h block s := rfl
theorem exec_governorWindow (h : HalfId) (load : Nat) : exec (.governorWindow h load) s = execGovernorWindow h load s := rfl
theorem exec_challenge (h : HalfId) (acc : Nat) : exec (.challenge h acc) s = execChallenge h acc s := rfl
theorem exec_respond (h : HalfId) (acc slot : Nat) : exec (.respond h acc slot) s = execRespond h acc slot s := rfl
theorem exec_drop (h : HalfId) (acc : Nat) : exec (.drop h acc) s = execDrop h acc s := rfl
theorem exec_install (h : HalfId) (acc : Nat) : exec (.install h acc) s = execInstall h acc s := rfl
theorem exec_erase (h : HalfId) (acc : Nat) : exec (.erase h acc) s = execErase h acc s := rfl
theorem exec_useGen (h : HalfId) (acc gen : Nat) : exec (.useGen h acc gen) s = execUseGen h acc gen s := rfl
theorem exec_elevationTimeout (h : HalfId) (acc : Nat) : exec (.elevationTimeout h acc) s = execElevationTimeout h acc s := rfl
theorem exec_secKeyDataAccess (h : HalfId) (v : Option Nat) : exec (.secKeyDataAccess h v) s = execSecKeyDataAccess h v s := rfl
theorem exec_hostNop (h : HalfId) (addr : Nat) : exec (.hostNop h addr) s = execHostNop h addr s := rfl
theorem exec_hostRead (h : HalfId) (addr : Nat) : exec (.hostRead h addr) s = execHostRead h addr s := rfl
theorem exec_hostWrite (h : HalfId) (addr v : Nat) : exec (.hostWrite h addr v) s = execHostWrite h addr v s := rfl
theorem exec_evqPopRead (h : HalfId) : exec (.evqPopRead h) s = execEvqPopRead h s := rfl
theorem exec_evqIdataRead (h : HalfId) : exec (.evqIdataRead h) s = execEvqIdataRead h s := rfl
theorem exec_ethTdataAccess (h : HalfId) (v : Option Nat) : exec (.ethTdataAccess h v) s = execEthTdataAccess h v s := rfl
theorem exec_snapshot (h : HalfId) : exec (.snapshot h) s = execSnapshot h s := rfl
theorem exec_debugToken (h : HalfId) (expiry : Nat) (sig : List Byte) : exec (.debugToken h expiry sig) s = execDebugToken h expiry sig s := rfl
theorem exec_debugRelock (h : HalfId) : exec (.debugRelock h) s = execDebugRelock h s := rfl
theorem exec_xlAckTimeout (h : HalfId) : exec (.xlAckTimeout h) s = execXlAckTimeout h s := rfl
theorem exec_bsiTransition (h : HalfId) (n : Nat) : exec (.bsiTransition h n) s = execBsiTransition h n s := rfl
theorem exec_ftiFaultClear (n : Nat) (asserted : Bool) : exec (.ftiFaultClear n asserted) s = execFtiFaultClear n asserted s := rfl
theorem exec_tbClkUnlock  : exec (.tbClkUnlock) s = execTbClkUnlock s := rfl
theorem exec_tbClkRelock  : exec (.tbClkRelock) s = execTbClkRelock s := rfl
theorem exec_gridSlewDone  : exec (.gridSlewDone) s = execGridSlewDone s := rfl
theorem exec_ppsOutSecond  : exec (.ppsOutSecond) s = execPpsOutSecond s := rfl
theorem exec_ptpFollowUp (domain master : Nat) (offset : Int) : exec (.ptpFollowUp domain master offset) s = execPtpFollowUp domain master offset s := rfl
theorem exec_ptpPdelayReq (h : HalfId) (domain : Nat) : exec (.ptpPdelayReq h domain) s = execPtpPdelayReq h domain s := rfl
theorem exec_ptpPdelayResp (h : HalfId) (domain delay : Nat) : exec (.ptpPdelayResp h domain delay) s = execPtpPdelayResp h domain delay s := rfl
theorem exec_pdelaySend (h : HalfId) : exec (.pdelaySend h) s = execPdelaySend h s := rfl
theorem exec_memHealthClear (h : HalfId) : exec (.memHealthClear h) s = execMemHealthClear h s := rfl
theorem exec_managementDegradedEnd (h : HalfId) : exec (.managementDegradedEnd h) s = execManagementDegradedEnd h s := rfl
theorem exec_mgmtCoreRestarted (h : HalfId) : exec (.mgmtCoreRestarted h) s = execMgmtCoreRestarted h s := rfl
theorem exec_recorderHealthWindow (h : HalfId) (refused : Bool) : exec (.recorderHealthWindow h refused) s = execRecorderHealthWindow h refused s := rfl
theorem exec_storeHealthWindow (h : HalfId) (corrected : Bool) : exec (.storeHealthWindow h corrected) s = execStoreHealthWindow h corrected s := rfl
theorem exec_arcadeAuthWindow (h : HalfId) : exec (.arcadeAuthWindow h) s = execArcadeAuthWindow h s := rfl
theorem exec_scrubPass (h : HalfId) (corrected : Nat) : exec (.scrubPass h corrected) s = execScrubPass h corrected s := rfl
theorem exec_hostFrameError (h : HalfId) (why : Nat) : exec (.hostFrameError h why) s = execHostFrameError h why s := rfl
theorem exec_exportRequest (h : HalfId) (session seq : Nat) : exec (.exportRequest h session seq) s = execExportRequest h session seq s := rfl

end Sys2Proof.Machine
end

