-- ==== Sys2Proof/Laws/Fields.lean ====
section
/-!
SUPPORT. Reads of a field after writes of other fields, one lemma for each way to write; the writers keep every other component.
-/

namespace Sys2Proof.Machine

open Sys2Proof (HalfId Instr Byte Word Accessor)

theorem rd_wrB_addr (s : State) (h g : HalfId) (f e : Fld) (b : Bool) (hk : e.key % 0x100000000 ≠ f.key % 0x100000000) :
    rd (wrB s h f b) g e = rd s g e := rd_wr_addr s h g f e _ hk
theorem rd_wrBit_addr (s : State) (h g : HalfId) (f e : Fld) (i : Nat) (b : Bool) (hk : e.key % 0x100000000 ≠ f.key % 0x100000000) :
    rd (wrBit s h f i b) g e = rd s g e := rd_wr_addr s h g f e _ hk
theorem rd_satAdd_addr (s : State) (h g : HalfId) (f e : Fld) (n : Nat) (hk : e.key % 0x100000000 ≠ f.key % 0x100000000) :
    rd (satAdd s h f n) g e = rd s g e := rd_wr_addr s h g f e _ hk
theorem rd_wrapInc_addr (s : State) (h g : HalfId) (f e : Fld) (hk : e.key % 0x100000000 ≠ f.key % 0x100000000) :
    rd (wrapInc s h f) g e = rd s g e := rd_wr_addr s h g f e _ hk
theorem rd_setWord_addr (s : State) (h g : HalfId) (k v : Nat) (e : Fld) (hk : e.key % 0x100000000 ≠ k % 0x100000000) :
    rd (setWord s h k v) g e = rd s g e := by simp only [rd, word_setWord_ne _ _ _ _ _ _ (regKey_ne _ _ _ _ hk)]
theorem rd_wrB_disj (s : State) (h : HalfId) (f e : Fld) (b : Bool) (hk : e.key = f.key) (hl : f.lo ≤ f.hi)
    (hl' : e.lo ≤ e.hi) (hh : f.hi < 32) (hd : f.hi < e.lo ∨ e.hi < f.lo) : rd (wrB s h f b) h e = rd s h e :=
  rd_wr_disjoint s h f e _ hk hl hl' hh hd
@[simp] theorem half_wrapInc (s : State) (h g : HalfId) (f : Fld) : half (wrapInc s h f) g = half s g := by simp [wrapInc]
@[simp] theorem half_satAdd (s : State) (h g : HalfId) (f : Fld) (n) : half (satAdd s h f n) g = half s g := by simp [satAdd]
@[simp] theorem half_result (s : State) (h g : HalfId) (q c t : Fld) (cv tv : Nat) : half (result s h q c t cv tv) g = half s g := by simp [result]
@[simp] theorem field_result (s : State) (h : HalfId) (q c t : Fld) (cv tv : Nat) : (result s h q c t cv tv).field = s.field := by simp [result, wrapInc]
@[simp] theorem store_result (s : State) (h : HalfId) (q c t : Fld) (cv tv : Nat) : (result s h q c t cv tv).store = s.store := by simp [result, wrapInc]
theorem rd_result_addr (s : State) (h g : HalfId) (q c t e : Fld) (cv tv : Nat) (hq : e.key % 0x100000000 ≠ q.key % 0x100000000)
   (hc : e.key % 0x100000000 ≠ c.key % 0x100000000) (ht : e.key % 0x100000000 ≠ t.key % 0x100000000) :
   rd (result s h q c t cv tv) g e = rd s g e := by
  unfold result; rw [rd_wr_addr _ _ _ _ _ _ ht, rd_wr_addr _ _ _ _ _ _ hc, rd_wrapInc_addr _ _ _ _ _ hq]
theorem rd_result_status (s : State) (h : HalfId) (q c t : Fld) (cv tv : Nat) (hl : t.lo ≤ t.hi) (hh : t.hi < 32) :
   rd (result s h q c t cv tv) h t = tv % 2^(t.hi+1-t.lo) := by
  unfold result; rw [rd_wr_same _ _ _ _ hl hh]
theorem rd_result_cmd (s : State) (h : HalfId) (q c t : Fld) (cv tv : Nat) (hk : c.key = t.key) (hl : c.lo ≤ c.hi)
    (hl' : t.lo ≤ t.hi) (hh : c.hi < 32) (hh' : t.hi < 32) (hd : t.hi < c.lo ∨ c.hi < t.lo) :
   rd (result s h q c t cv tv) h c = cv % 2^(c.hi+1-c.lo) := by
  unfold result; rw [rd_wr_disjoint _ _ _ _ _ hk hl' hl hh' hd, rd_wr_same _ _ _ _ hl hh]
theorem alive_wr (s : State) (h g : HalfId) (f : Fld) (v) : alive (wr s h f v) g = alive s g := by simp [alive, present, twoHalves]
@[simp] theorem rdB_of_rd_addr (s : State) (h g : HalfId) (f e : Fld) (v : Nat) (hk : e.key % 0x100000000 ≠ f.key % 0x100000000) :
  rdB (wr s h f v) g e = rdB s g e := by simp only [rdB, rd_wr_addr _ _ _ _ _ _ hk]
theorem rdB_wrB_addr (s : State) (h g : HalfId) (f e : Fld) (b : Bool) (hk : e.key % 0x100000000 ≠ f.key % 0x100000000) :
    rdB (wrB s h f b) g e = rdB s g e := by simp only [rdB, rd_wrB_addr _ _ _ _ _ _ hk]
theorem rdBit_addr (s : State) (h g : HalfId) (f e : Fld) (v i : Nat) (hk : e.key % 0x100000000 ≠ f.key % 0x100000000) :
    rdBit (wr s h f v) g e i = rdBit s g e i := by simp only [rdBit, rd_wr_addr _ _ _ _ _ _ hk]
theorem rdBit_wrBit_addr (s : State) (h g : HalfId) (f e : Fld) (b : Bool) (i j) (hk : e.key % 0x100000000 ≠ f.key % 0x100000000) :
    rdBit (wrBit s h f j b) g e i = rdBit s g e i := by simp only [rdBit, rd_wrBit_addr _ _ _ _ _ _ _ hk]
theorem rdBit_wrB_addr (s : State) (h g : HalfId) (f e : Fld) (b : Bool) (i) (hk : e.key % 0x100000000 ≠ f.key % 0x100000000) :
    rdBit (wrB s h f b) g e i = rdBit s g e i := by simp only [rdBit, rd_wrB_addr _ _ _ _ _ _ hk]
theorem rdB_result_addr (s : State) (h g : HalfId) (q c t e : Fld) (cv tv : Nat) (hq : e.key % 0x100000000 ≠ q.key % 0x100000000)
   (hc : e.key % 0x100000000 ≠ c.key % 0x100000000) (ht : e.key % 0x100000000 ≠ t.key % 0x100000000) :
   rdB (result s h q c t cv tv) g e = rdB s g e := by simp only [rdB, rd_result_addr _ _ _ _ _ _ _ _ _ hq hc ht]
theorem putBit_lt (v i n : Nat) (b : Bool) (hv : v < 2^n) (hi : i < n) : putBit v i b < 2^n := by
  unfold putBit
  split
  · exact hv
  · split
    · rename_i hb hb2
      have hbit : v / 2^i % 2 = 0 := by
        cases hh : bit v i <;> simp_all [bit]
      have h1 : v / 2^i < 2^(n-i) := by
        rw [Nat.div_lt_iff_lt_mul (Nat.two_pow_pos _), ← Nat.pow_add]; rwa [show n-i+i = n by omega]
      have e : 2^(n-i) = 2 * 2^(n-i-1) := by rw [← Nat.pow_succ']; congr 1; omega
      have h2 : v/2^i + 1 < 2^(n-i) := by omega
      have h3 : v < (v/2^i+1) * 2^i := by
        have := Nat.lt_div_mul_add (a := v) (Nat.two_pow_pos i); rw [Nat.add_mul]; omega
      have h4 : (v/2^i+2) * 2^i ≤ 2^(n-i) * 2^i := Nat.mul_le_mul_right _ (by omega)
      rw [← Nat.pow_add, show n-i+i = n by omega] at h4
      have : (v/2^i+2) * 2^i = (v/2^i+1) * 2^i + 2^i := by rw [← Nat.succ_mul]
      omega
    · exact Nat.lt_of_le_of_lt (Nat.sub_le ..) hv
theorem rdBit_wrBit_same (s : State) (h : HalfId) (f : Fld) (i : Nat) (b : Bool) (hl : f.lo ≤ f.hi) (hh : f.hi < 32)
   (hi : i < f.hi + 1 - f.lo) : rdBit (wrBit s h f i b) h f i = b := by
  simp only [rdBit, wrBit, rd_wr_same _ _ _ _ hl hh]
  rw [Nat.mod_eq_of_lt (putBit_lt _ _ _ _ (rd_lt _ _ _) hi), bit_putBit_same]
theorem rd_wr_same' (s : State) (h : HalfId) (f : Fld) (v : Nat) (hl : f.lo ≤ f.hi) (hh : f.hi < 32) (hv : v < 2^(f.hi+1-f.lo)):
    rd (wr s h f v) h f = v := by rw [rd_wr_same _ _ _ _ hl hh, Nat.mod_eq_of_lt hv]
@[simp] theorem nget_nset_same (m k v) : nget (nset m k v) k = v := sget_sset_same _ _ _ _
theorem nget_nset_ne (m k v j) (h : j ≠ k) : nget (nset m k v) j = nget m j := sget_sset_other _ _ _ _ _ h
theorem reg_eq_iff (f g : Fld) : f = g ↔ f.key = g.key ∧ f.hi = g.hi ∧ f.lo = g.lo := by cases f; cases g; simp

@[simp] theorem half_mk_ (s : State) (v r t f fd st p) (g : HalfId) : half ⟨v,r,t,f,fd,st,s.halfA,s.halfB,p⟩ g = half s g := by cases g <;> rfl
@[simp] theorem rd_mk_ (s : State) (v t f fd st a b p) (g : HalfId) (e) : rd ⟨v,s.regs,t,f,fd,st,a,b,p⟩ g e = rd s g e := rfl
@[simp] theorem rdB_mk_ (s : State) (v t f fd st a b p) (g : HalfId) (e) : rdB ⟨v,s.regs,t,f,fd,st,a,b,p⟩ g e = rdB s g e := rfl
@[simp] theorem rdBit_mk_ (s : State) (v t f fd st a b p) (g : HalfId) (e i) : rdBit ⟨v,s.regs,t,f,fd,st,a,b,p⟩ g e i = rdBit s g e i := rfl
@[simp] theorem word_mk_ (s : State) (v t f fd st a b p) (g : HalfId) (e) : word ⟨v,s.regs,t,f,fd,st,a,b,p⟩ g e = word s g e := rfl
@[simp] theorem satAdd_variant_ (s : State) (h : HalfId) (f : Fld) (n : Nat) : (satAdd s h f n).variant = s.variant := rfl
@[simp] theorem satAdd_pending_ (s : State) (h : HalfId) (f : Fld) (n : Nat) : (satAdd s h f n).pending = s.pending := rfl
@[simp] theorem satAdd_ticks_ (s : State) (h : HalfId) (f : Fld) (n : Nat) : (satAdd s h f n).ticks = s.ticks := rfl
@[simp] theorem satAdd_free_ (s : State) (h : HalfId) (f : Fld) (n : Nat) : (satAdd s h f n).free = s.free := rfl
@[simp] theorem satAdd_field_ (s : State) (h : HalfId) (f : Fld) (n : Nat) : (satAdd s h f n).field = s.field := rfl
@[simp] theorem satAdd_store_ (s : State) (h : HalfId) (f : Fld) (n : Nat) : (satAdd s h f n).store = s.store := rfl
@[simp] theorem wrapInc_variant_ (s : State) (h : HalfId) (f : Fld)  : (wrapInc s h f).variant = s.variant := rfl
@[simp] theorem wrapInc_pending_ (s : State) (h : HalfId) (f : Fld)  : (wrapInc s h f).pending = s.pending := rfl
@[simp] theorem wrapInc_ticks_ (s : State) (h : HalfId) (f : Fld)  : (wrapInc s h f).ticks = s.ticks := rfl
@[simp] theorem wrapInc_free_ (s : State) (h : HalfId) (f : Fld)  : (wrapInc s h f).free = s.free := rfl
@[simp] theorem wrapInc_field_ (s : State) (h : HalfId) (f : Fld)  : (wrapInc s h f).field = s.field := rfl
@[simp] theorem wrapInc_store_ (s : State) (h : HalfId) (f : Fld)  : (wrapInc s h f).store = s.store := rfl
@[simp] theorem result_variant_ (s : State) (h : HalfId) (q c t : Fld) (cv tv) : (result s h q c t cv tv).variant = s.variant := rfl
@[simp] theorem result_pending_ (s : State) (h : HalfId) (q c t : Fld) (cv tv) : (result s h q c t cv tv).pending = s.pending := rfl
@[simp] theorem result_ticks_ (s : State) (h : HalfId) (q c t : Fld) (cv tv) : (result s h q c t cv tv).ticks = s.ticks := rfl
@[simp] theorem result_free_ (s : State) (h : HalfId) (q c t : Fld) (cv tv) : (result s h q c t cv tv).free = s.free := rfl

end Sys2Proof.Machine
end

