-- ==== Sys2Proof/Laws/Ledger.lean ====
section
/-!
SUPPORT. Ledger records and Tally keep the other fields of the store and of the ports.
-/

namespace Sys2Proof.Machine

open Sys2Proof (HalfId Instr Byte Word Accessor)

section
variable {s : State} (h : HalfId)
theorem keepsOf_tallyOverall : Keeps 0x1080000 s (tallyOverall s h) := (keeps_tallyOverall (ps := 0x1080000) (s0 := s) (h := h) (by decide) (Keeps.refl _ s))
@[simp] theorem tallyOverall_port (g_ : HalfId) : (half (tallyOverall s h) g_).port = (half s g_).port := (keepsOf_tallyOverall (h := h)).port (by decide) g_
@[simp] theorem tallyOverall_ticks_ : (tallyOverall s h).ticks = s.ticks := (keepsOf_tallyOverall (h := h)).ticks (by decide)
@[simp] theorem tallyOverall_time_ : (tallyOverall s h).field.time = s.field.time := (keepsOf_tallyOverall (h := h)).time (by decide)
@[simp] theorem tallyOverall_store_ : (tallyOverall s h).store = s.store := (keepsOf_tallyOverall (h := h)).store (by decide)
end
section
variable {s : State} (h : HalfId) (i : Nat) (n : Nat)
theorem keepsOf_count : Keeps 0x20000000000 s (count s h i n) := (keeps_count (ps := 0x20000000000) (s0 := s) (h := h) (i := i) (n := n) (by decide) (Keeps.refl _ s))
@[simp] theorem count_port (g_ : HalfId) : (half (count s h i n) g_).port = (half s g_).port := (keepsOf_count (h := h) (i := i) (n := n)).port (by decide) g_
@[simp] theorem count_ticks_ : (count s h i n).ticks = s.ticks := (keepsOf_count (h := h) (i := i) (n := n)).ticks (by decide)
@[simp] theorem count_time_ : (count s h i n).field.time = s.field.time := (keepsOf_count (h := h) (i := i) (n := n)).time (by decide)
@[simp] theorem count_store_ : (count s h i n).store = s.store := (keepsOf_count (h := h) (i := i) (n := n)).store (by decide)
end
section
variable {s : State} (h : HalfId) (i : Nat)
theorem keepsOf_irq : Keeps 0x1000000 s (irq s h i) := (keeps_irq (ps := 0x1000000) (s0 := s) (h := h) (i := i) (by decide) (Keeps.refl _ s))
@[simp] theorem irq_port (g_ : HalfId) : (half (irq s h i) g_).port = (half s g_).port := (keepsOf_irq (h := h) (i := i)).port (by decide) g_
@[simp] theorem irq_ticks_ : (irq s h i).ticks = s.ticks := (keepsOf_irq (h := h) (i := i)).ticks (by decide)
@[simp] theorem irq_time_ : (irq s h i).field.time = s.field.time := (keepsOf_irq (h := h) (i := i)).time (by decide)
@[simp] theorem irq_store_ : (irq s h i).store = s.store := (keepsOf_irq (h := h) (i := i)).store (by decide)
end
section
variable {s : State} (h : HalfId) (src : Nat)
theorem keepsOf_evBump : Keeps 0x10008000000000 s (evBump s h src) := (keeps_evBump (ps := 0x10008000000000) (s0 := s) (h := h) (src := src) (by decide) (Keeps.refl _ s))
@[simp] theorem evBump_port (g_ : HalfId) : (half (evBump s h src) g_).port = (half s g_).port := (keepsOf_evBump (h := h) (src := src)).port (by decide) g_
@[simp] theorem evBump_ticks_ : (evBump s h src).ticks = s.ticks := (keepsOf_evBump (h := h) (src := src)).ticks (by decide)
@[simp] theorem evBump_time_ : (evBump s h src).field.time = s.field.time := (keepsOf_evBump (h := h) (src := src)).time (by decide)
@[simp] theorem evBump_store_ : (evBump s h src).store = s.store := (keepsOf_evBump (h := h) (src := src)).store (by decide)
end
section
variable {s : State} (h : HalfId) (cls : Nat) (it : QItem)
theorem keepsOf_qPush : Keeps 0x200001200000 s (qPush s h cls it) := (keeps_qPush (ps := 0x200001200000) (s0 := s) (h := h) (cls := cls) (it := it) (by decide) (Keeps.refl _ s))
@[simp] theorem qPush_port (g_ : HalfId) : (half (qPush s h cls it) g_).port = (half s g_).port := (keepsOf_qPush (h := h) (cls := cls) (it := it)).port (by decide) g_
@[simp] theorem qPush_ticks_ : (qPush s h cls it).ticks = s.ticks := (keepsOf_qPush (h := h) (cls := cls) (it := it)).ticks (by decide)
@[simp] theorem qPush_time_ : (qPush s h cls it).field.time = s.field.time := (keepsOf_qPush (h := h) (cls := cls) (it := it)).time (by decide)
@[simp] theorem qPush_store_ : (qPush s h cls it).store = s.store := (keepsOf_qPush (h := h) (cls := cls) (it := it)).store (by decide)
end
section
variable {s : State} (h : HalfId) (f : Decide → Decide)
theorem keepsOf_modDec : Keeps 0x2000000000000 s (modDec s h f) := (keeps_modDec (ps := 0x2000000000000) (s0 := s) (h := h) (f := f) (by decide) (Keeps.refl _ s))
@[simp] theorem modDec_port (g_ : HalfId) : (half (modDec s h f) g_).port = (half s g_).port := (keepsOf_modDec (h := h) (f := f)).port (by decide) g_
@[simp] theorem modDec_ticks_ : (modDec s h f).ticks = s.ticks := (keepsOf_modDec (h := h) (f := f)).ticks (by decide)
@[simp] theorem modDec_time_ : (modDec s h f).field.time = s.field.time := (keepsOf_modDec (h := h) (f := f)).time (by decide)
@[simp] theorem modDec_store_ : (modDec s h f).store = s.store := (keepsOf_modDec (h := h) (f := f)).store (by decide)
end

@[simp] theorem storeAppend_st_slot0 (s : State) (h : HalfId) (r : LedgerRec) : (storeAppend s h r).store.slot0 = s.store.slot0 := by
  unfold storeAppend; (try dsimp only); (try unfold  irq); repeat' (first | (simp; done) | split | (split <;> simp))
@[simp] theorem storeAppend_st_slot1 (s : State) (h : HalfId) (r : LedgerRec) : (storeAppend s h r).store.slot1 = s.store.slot1 := by
  unfold storeAppend; (try dsimp only); (try unfold  irq); repeat' (first | (simp; done) | split | (split <;> simp))
@[simp] theorem storeAppend_st_slot2 (s : State) (h : HalfId) (r : LedgerRec) : (storeAppend s h r).store.slot2 = s.store.slot2 := by
  unfold storeAppend; (try dsimp only); (try unfold  irq); repeat' (first | (simp; done) | split | (split <;> simp))
@[simp] theorem storeAppend_st_setUnits (s : State) (h : HalfId) (r : LedgerRec) : (storeAppend s h r).store.setUnits = s.store.setUnits := by
  unfold storeAppend; (try dsimp only); (try unfold  irq); repeat' (first | (simp; done) | split | (split <;> simp))
@[simp] theorem storeAppend_st_recordLog (s : State) (h : HalfId) (r : LedgerRec) : (storeAppend s h r).store.recordLog = s.store.recordLog := by
  unfold storeAppend; (try dsimp only); (try unfold  irq); repeat' (first | (simp; done) | split | (split <;> simp))
@[simp] theorem storeAppend_st_logSeq (s : State) (h : HalfId) (r : LedgerRec) : (storeAppend s h r).store.logSeq = s.store.logSeq := by
  unfold storeAppend; (try dsimp only); (try unfold  irq); repeat' (first | (simp; done) | split | (split <;> simp))
@[simp] theorem storeAppend_st_setSeq (s : State) (h : HalfId) (r : LedgerRec) : (storeAppend s h r).store.setSeq = s.store.setSeq := by
  unfold storeAppend; (try dsimp only); (try unfold  irq); repeat' (first | (simp; done) | split | (split <;> simp))
@[simp] theorem storeAppend_st_retA (s : State) (h : HalfId) (r : LedgerRec) : (storeAppend s h r).store.retA = s.store.retA := by
  unfold storeAppend; (try dsimp only); (try unfold  irq); repeat' (first | (simp; done) | split | (split <;> simp))
@[simp] theorem storeAppend_st_retB (s : State) (h : HalfId) (r : LedgerRec) : (storeAppend s h r).store.retB = s.store.retB := by
  unfold storeAppend; (try dsimp only); (try unfold  irq); repeat' (first | (simp; done) | split | (split <;> simp))
@[simp] theorem storeAppend_st_recA (s : State) (h : HalfId) (r : LedgerRec) : (storeAppend s h r).store.recA = s.store.recA := by
  unfold storeAppend; (try dsimp only); (try unfold  irq); repeat' (first | (simp; done) | split | (split <;> simp))
@[simp] theorem storeAppend_st_recB (s : State) (h : HalfId) (r : LedgerRec) : (storeAppend s h r).store.recB = s.store.recB := by
  unfold storeAppend; (try dsimp only); (try unfold  irq); repeat' (first | (simp; done) | split | (split <;> simp))
@[simp] theorem storeAppend_st_trcA (s : State) (h : HalfId) (r : LedgerRec) : (storeAppend s h r).store.trcA = s.store.trcA := by
  unfold storeAppend; (try dsimp only); (try unfold  irq); repeat' (first | (simp; done) | split | (split <;> simp))
@[simp] theorem storeAppend_st_trcB (s : State) (h : HalfId) (r : LedgerRec) : (storeAppend s h r).store.trcB = s.store.trcB := by
  unfold storeAppend; (try dsimp only); (try unfold  irq); repeat' (first | (simp; done) | split | (split <;> simp))
@[simp] theorem storeAppend_st_keysA (s : State) (h : HalfId) (r : LedgerRec) : (storeAppend s h r).store.keysA = s.store.keysA := by
  unfold storeAppend; (try dsimp only); (try unfold  irq); repeat' (first | (simp; done) | split | (split <;> simp))
@[simp] theorem storeAppend_st_keysB (s : State) (h : HalfId) (r : LedgerRec) : (storeAppend s h r).store.keysB = s.store.keysB := by
  unfold storeAppend; (try dsimp only); (try unfold  irq); repeat' (first | (simp; done) | split | (split <;> simp))
@[simp] theorem storeAppend_st_cfgA (s : State) (h : HalfId) (r : LedgerRec) : (storeAppend s h r).store.cfgA = s.store.cfgA := by
  unfold storeAppend; (try dsimp only); (try unfold  irq); repeat' (first | (simp; done) | split | (split <;> simp))
@[simp] theorem storeAppend_st_cfgB (s : State) (h : HalfId) (r : LedgerRec) : (storeAppend s h r).store.cfgB = s.store.cfgB := by
  unfold storeAppend; (try dsimp only); (try unfold  irq); repeat' (first | (simp; done) | split | (split <;> simp))
@[simp] theorem storeAppend_st_tombstone (s : State) (h : HalfId) (r : LedgerRec) : (storeAppend s h r).store.tombstone = s.store.tombstone := by
  unfold storeAppend; (try dsimp only); (try unfold  irq); repeat' (first | (simp; done) | split | (split <;> simp))
@[simp] theorem storeAppend_st_clearing (s : State) (h : HalfId) (r : LedgerRec) : (storeAppend s h r).store.clearing = s.store.clearing := by
  unfold storeAppend; (try dsimp only); (try unfold  irq); repeat' (first | (simp; done) | split | (split <;> simp))
@[simp] theorem storeAppend_st_optimeCommitted (s : State) (h : HalfId) (r : LedgerRec) : (storeAppend s h r).store.optimeCommitted = s.store.optimeCommitted := by
  unfold storeAppend; (try dsimp only); (try unfold  irq); repeat' (first | (simp; done) | split | (split <;> simp))
@[simp] theorem storeAppend_st_pcycle (s : State) (h : HalfId) (r : LedgerRec) : (storeAppend s h r).store.pcycle = s.store.pcycle := by
  unfold storeAppend; (try dsimp only); (try unfold  irq); repeat' (first | (simp; done) | split | (split <;> simp))
@[simp] theorem storeAppend_st_eraA (s : State) (h : HalfId) (r : LedgerRec) : (storeAppend s h r).store.eraA = s.store.eraA := by
  unfold storeAppend; (try dsimp only); (try unfold  irq); repeat' (first | (simp; done) | split | (split <;> simp))
@[simp] theorem storeAppend_st_eraB (s : State) (h : HalfId) (r : LedgerRec) : (storeAppend s h r).store.eraB = s.store.eraB := by
  unfold storeAppend; (try dsimp only); (try unfold  irq); repeat' (first | (simp; done) | split | (split <;> simp))
@[simp] theorem storeAppend_po_openSlot (s : State) (h : HalfId) (r : LedgerRec) (g : HalfId) : (half (storeAppend s h r) g).port.openSlot = (half s g).port.openSlot := by
  unfold storeAppend; (try dsimp only); (try unfold  irq); repeat' (first | (simp; done) | (simp [half_setHalf]; split <;> simp_all; done) | split)
@[simp] theorem storeAppend_po_commits (s : State) (h : HalfId) (r : LedgerRec) (g : HalfId) : (half (storeAppend s h r) g).port.commits = (half s g).port.commits := by
  unfold storeAppend; (try dsimp only); (try unfold  irq); repeat' (first | (simp; done) | (simp [half_setHalf]; split <;> simp_all; done) | split)
@[simp] theorem storeAppend_po_rdata (s : State) (h : HalfId) (r : LedgerRec) (g : HalfId) : (half (storeAppend s h r) g).port.rdata = (half s g).port.rdata := by
  unfold storeAppend; (try dsimp only); (try unfold  irq); repeat' (first | (simp; done) | (simp [half_setHalf]; split <;> simp_all; done) | split)
@[simp] theorem storeAppend_po_optimeHi (s : State) (h : HalfId) (r : LedgerRec) (g : HalfId) : (half (storeAppend s h r) g).port.optimeHi = (half s g).port.optimeHi := by
  unfold storeAppend; (try dsimp only); (try unfold  irq); repeat' (first | (simp; done) | (simp [half_setHalf]; split <;> simp_all; done) | split)
@[simp] theorem limitedAppend_st_slot0 (s : State) (h : HalfId) (r : LedgerRec) : (limitedAppend s h r).store.slot0 = s.store.slot0 := by
  unfold limitedAppend; (try dsimp only); (try unfold limitedAppend); repeat' (first | (simp; done) | split | (split <;> simp))
@[simp] theorem limitedAppend_st_slot1 (s : State) (h : HalfId) (r : LedgerRec) : (limitedAppend s h r).store.slot1 = s.store.slot1 := by
  unfold limitedAppend; (try dsimp only); (try unfold limitedAppend); repeat' (first | (simp; done) | split | (split <;> simp))
@[simp] theorem limitedAppend_st_slot2 (s : State) (h : HalfId) (r : LedgerRec) : (limitedAppend s h r).store.slot2 = s.store.slot2 := by
  unfold limitedAppend; (try dsimp only); (try unfold limitedAppend); repeat' (first | (simp; done) | split | (split <;> simp))
@[simp] theorem limitedAppend_st_setUnits (s : State) (h : HalfId) (r : LedgerRec) : (limitedAppend s h r).store.setUnits = s.store.setUnits := by
  unfold limitedAppend; (try dsimp only); (try unfold limitedAppend); repeat' (first | (simp; done) | split | (split <;> simp))
@[simp] theorem limitedAppend_st_recordLog (s : State) (h : HalfId) (r : LedgerRec) : (limitedAppend s h r).store.recordLog = s.store.recordLog := by
  unfold limitedAppend; (try dsimp only); (try unfold limitedAppend); repeat' (first | (simp; done) | split | (split <;> simp))
@[simp] theorem limitedAppend_st_logSeq (s : State) (h : HalfId) (r : LedgerRec) : (limitedAppend s h r).store.logSeq = s.store.logSeq := by
  unfold limitedAppend; (try dsimp only); (try unfold limitedAppend); repeat' (first | (simp; done) | split | (split <;> simp))
@[simp] theorem limitedAppend_st_setSeq (s : State) (h : HalfId) (r : LedgerRec) : (limitedAppend s h r).store.setSeq = s.store.setSeq := by
  unfold limitedAppend; (try dsimp only); (try unfold limitedAppend); repeat' (first | (simp; done) | split | (split <;> simp))
@[simp] theorem limitedAppend_st_retA (s : State) (h : HalfId) (r : LedgerRec) : (limitedAppend s h r).store.retA = s.store.retA := by
  unfold limitedAppend; (try dsimp only); (try unfold limitedAppend); repeat' (first | (simp; done) | split | (split <;> simp))
@[simp] theorem limitedAppend_st_retB (s : State) (h : HalfId) (r : LedgerRec) : (limitedAppend s h r).store.retB = s.store.retB := by
  unfold limitedAppend; (try dsimp only); (try unfold limitedAppend); repeat' (first | (simp; done) | split | (split <;> simp))
@[simp] theorem limitedAppend_st_recA (s : State) (h : HalfId) (r : LedgerRec) : (limitedAppend s h r).store.recA = s.store.recA := by
  unfold limitedAppend; (try dsimp only); (try unfold limitedAppend); repeat' (first | (simp; done) | split | (split <;> simp))
@[simp] theorem limitedAppend_st_recB (s : State) (h : HalfId) (r : LedgerRec) : (limitedAppend s h r).store.recB = s.store.recB := by
  unfold limitedAppend; (try dsimp only); (try unfold limitedAppend); repeat' (first | (simp; done) | split | (split <;> simp))
@[simp] theorem limitedAppend_st_trcA (s : State) (h : HalfId) (r : LedgerRec) : (limitedAppend s h r).store.trcA = s.store.trcA := by
  unfold limitedAppend; (try dsimp only); (try unfold limitedAppend); repeat' (first | (simp; done) | split | (split <;> simp))
@[simp] theorem limitedAppend_st_trcB (s : State) (h : HalfId) (r : LedgerRec) : (limitedAppend s h r).store.trcB = s.store.trcB := by
  unfold limitedAppend; (try dsimp only); (try unfold limitedAppend); repeat' (first | (simp; done) | split | (split <;> simp))
@[simp] theorem limitedAppend_st_keysA (s : State) (h : HalfId) (r : LedgerRec) : (limitedAppend s h r).store.keysA = s.store.keysA := by
  unfold limitedAppend; (try dsimp only); (try unfold limitedAppend); repeat' (first | (simp; done) | split | (split <;> simp))
@[simp] theorem limitedAppend_st_keysB (s : State) (h : HalfId) (r : LedgerRec) : (limitedAppend s h r).store.keysB = s.store.keysB := by
  unfold limitedAppend; (try dsimp only); (try unfold limitedAppend); repeat' (first | (simp; done) | split | (split <;> simp))
@[simp] theorem limitedAppend_st_cfgA (s : State) (h : HalfId) (r : LedgerRec) : (limitedAppend s h r).store.cfgA = s.store.cfgA := by
  unfold limitedAppend; (try dsimp only); (try unfold limitedAppend); repeat' (first | (simp; done) | split | (split <;> simp))
@[simp] theorem limitedAppend_st_cfgB (s : State) (h : HalfId) (r : LedgerRec) : (limitedAppend s h r).store.cfgB = s.store.cfgB := by
  unfold limitedAppend; (try dsimp only); (try unfold limitedAppend); repeat' (first | (simp; done) | split | (split <;> simp))
@[simp] theorem limitedAppend_st_tombstone (s : State) (h : HalfId) (r : LedgerRec) : (limitedAppend s h r).store.tombstone = s.store.tombstone := by
  unfold limitedAppend; (try dsimp only); (try unfold limitedAppend); repeat' (first | (simp; done) | split | (split <;> simp))
@[simp] theorem limitedAppend_st_clearing (s : State) (h : HalfId) (r : LedgerRec) : (limitedAppend s h r).store.clearing = s.store.clearing := by
  unfold limitedAppend; (try dsimp only); (try unfold limitedAppend); repeat' (first | (simp; done) | split | (split <;> simp))
@[simp] theorem limitedAppend_st_optimeCommitted (s : State) (h : HalfId) (r : LedgerRec) : (limitedAppend s h r).store.optimeCommitted = s.store.optimeCommitted := by
  unfold limitedAppend; (try dsimp only); (try unfold limitedAppend); repeat' (first | (simp; done) | split | (split <;> simp))
@[simp] theorem limitedAppend_st_pcycle (s : State) (h : HalfId) (r : LedgerRec) : (limitedAppend s h r).store.pcycle = s.store.pcycle := by
  unfold limitedAppend; (try dsimp only); (try unfold limitedAppend); repeat' (first | (simp; done) | split | (split <;> simp))
@[simp] theorem limitedAppend_st_eraA (s : State) (h : HalfId) (r : LedgerRec) : (limitedAppend s h r).store.eraA = s.store.eraA := by
  unfold limitedAppend; (try dsimp only); (try unfold limitedAppend); repeat' (first | (simp; done) | split | (split <;> simp))
@[simp] theorem limitedAppend_st_eraB (s : State) (h : HalfId) (r : LedgerRec) : (limitedAppend s h r).store.eraB = s.store.eraB := by
  unfold limitedAppend; (try dsimp only); (try unfold limitedAppend); repeat' (first | (simp; done) | split | (split <;> simp))
@[simp] theorem limitedAppend_po_openSlot (s : State) (h : HalfId) (r : LedgerRec) (g : HalfId) : (half (limitedAppend s h r) g).port.openSlot = (half s g).port.openSlot := by
  unfold limitedAppend; (try dsimp only); (try unfold limitedAppend); repeat' (first | (simp; done) | (simp [half_setHalf]; split <;> simp_all; done) | split)
@[simp] theorem limitedAppend_po_commits (s : State) (h : HalfId) (r : LedgerRec) (g : HalfId) : (half (limitedAppend s h r) g).port.commits = (half s g).port.commits := by
  unfold limitedAppend; (try dsimp only); (try unfold limitedAppend); repeat' (first | (simp; done) | (simp [half_setHalf]; split <;> simp_all; done) | split)
@[simp] theorem limitedAppend_po_rdata (s : State) (h : HalfId) (r : LedgerRec) (g : HalfId) : (half (limitedAppend s h r) g).port.rdata = (half s g).port.rdata := by
  unfold limitedAppend; (try dsimp only); (try unfold limitedAppend); repeat' (first | (simp; done) | (simp [half_setHalf]; split <;> simp_all; done) | split)
@[simp] theorem limitedAppend_po_optimeHi (s : State) (h : HalfId) (r : LedgerRec) (g : HalfId) : (half (limitedAppend s h r) g).port.optimeHi = (half s g).port.optimeHi := by
  unfold limitedAppend; (try dsimp only); (try unfold limitedAppend); repeat' (first | (simp; done) | (simp [half_setHalf]; split <;> simp_all; done) | split)
@[simp] theorem ledger_st_slot0 (s : State) (h : HalfId) (src ev : Nat) (fields : List Byte) : (ledger s h src ev fields).store.slot0 = s.store.slot0 := by
  unfold ledger; (try dsimp only); (try unfold ledger); repeat' (first | (simp; done) | split | (split <;> simp))
@[simp] theorem ledger_st_slot1 (s : State) (h : HalfId) (src ev : Nat) (fields : List Byte) : (ledger s h src ev fields).store.slot1 = s.store.slot1 := by
  unfold ledger; (try dsimp only); (try unfold ledger); repeat' (first | (simp; done) | split | (split <;> simp))
@[simp] theorem ledger_st_slot2 (s : State) (h : HalfId) (src ev : Nat) (fields : List Byte) : (ledger s h src ev fields).store.slot2 = s.store.slot2 := by
  unfold ledger; (try dsimp only); (try unfold ledger); repeat' (first | (simp; done) | split | (split <;> simp))
@[simp] theorem ledger_st_setUnits (s : State) (h : HalfId) (src ev : Nat) (fields : List Byte) : (ledger s h src ev fields).store.setUnits = s.store.setUnits := by
  unfold ledger; (try dsimp only); (try unfold ledger); repeat' (first | (simp; done) | split | (split <;> simp))
@[simp] theorem ledger_st_recordLog (s : State) (h : HalfId) (src ev : Nat) (fields : List Byte) : (ledger s h src ev fields).store.recordLog = s.store.recordLog := by
  unfold ledger; (try dsimp only); (try unfold ledger); repeat' (first | (simp; done) | split | (split <;> simp))
@[simp] theorem ledger_st_logSeq (s : State) (h : HalfId) (src ev : Nat) (fields : List Byte) : (ledger s h src ev fields).store.logSeq = s.store.logSeq := by
  unfold ledger; (try dsimp only); (try unfold ledger); repeat' (first | (simp; done) | split | (split <;> simp))
@[simp] theorem ledger_st_setSeq (s : State) (h : HalfId) (src ev : Nat) (fields : List Byte) : (ledger s h src ev fields).store.setSeq = s.store.setSeq := by
  unfold ledger; (try dsimp only); (try unfold ledger); repeat' (first | (simp; done) | split | (split <;> simp))
@[simp] theorem ledger_st_retA (s : State) (h : HalfId) (src ev : Nat) (fields : List Byte) : (ledger s h src ev fields).store.retA = s.store.retA := by
  unfold ledger; (try dsimp only); (try unfold ledger); repeat' (first | (simp; done) | split | (split <;> simp))
@[simp] theorem ledger_st_retB (s : State) (h : HalfId) (src ev : Nat) (fields : List Byte) : (ledger s h src ev fields).store.retB = s.store.retB := by
  unfold ledger; (try dsimp only); (try unfold ledger); repeat' (first | (simp; done) | split | (split <;> simp))
@[simp] theorem ledger_st_recA (s : State) (h : HalfId) (src ev : Nat) (fields : List Byte) : (ledger s h src ev fields).store.recA = s.store.recA := by
  unfold ledger; (try dsimp only); (try unfold ledger); repeat' (first | (simp; done) | split | (split <;> simp))
@[simp] theorem ledger_st_recB (s : State) (h : HalfId) (src ev : Nat) (fields : List Byte) : (ledger s h src ev fields).store.recB = s.store.recB := by
  unfold ledger; (try dsimp only); (try unfold ledger); repeat' (first | (simp; done) | split | (split <;> simp))
@[simp] theorem ledger_st_trcA (s : State) (h : HalfId) (src ev : Nat) (fields : List Byte) : (ledger s h src ev fields).store.trcA = s.store.trcA := by
  unfold ledger; (try dsimp only); (try unfold ledger); repeat' (first | (simp; done) | split | (split <;> simp))
@[simp] theorem ledger_st_trcB (s : State) (h : HalfId) (src ev : Nat) (fields : List Byte) : (ledger s h src ev fields).store.trcB = s.store.trcB := by
  unfold ledger; (try dsimp only); (try unfold ledger); repeat' (first | (simp; done) | split | (split <;> simp))
@[simp] theorem ledger_st_keysA (s : State) (h : HalfId) (src ev : Nat) (fields : List Byte) : (ledger s h src ev fields).store.keysA = s.store.keysA := by
  unfold ledger; (try dsimp only); (try unfold ledger); repeat' (first | (simp; done) | split | (split <;> simp))
@[simp] theorem ledger_st_keysB (s : State) (h : HalfId) (src ev : Nat) (fields : List Byte) : (ledger s h src ev fields).store.keysB = s.store.keysB := by
  unfold ledger; (try dsimp only); (try unfold ledger); repeat' (first | (simp; done) | split | (split <;> simp))
@[simp] theorem ledger_st_cfgA (s : State) (h : HalfId) (src ev : Nat) (fields : List Byte) : (ledger s h src ev fields).store.cfgA = s.store.cfgA := by
  unfold ledger; (try dsimp only); (try unfold ledger); repeat' (first | (simp; done) | split | (split <;> simp))
@[simp] theorem ledger_st_cfgB (s : State) (h : HalfId) (src ev : Nat) (fields : List Byte) : (ledger s h src ev fields).store.cfgB = s.store.cfgB := by
  unfold ledger; (try dsimp only); (try unfold ledger); repeat' (first | (simp; done) | split | (split <;> simp))
@[simp] theorem ledger_st_tombstone (s : State) (h : HalfId) (src ev : Nat) (fields : List Byte) : (ledger s h src ev fields).store.tombstone = s.store.tombstone := by
  unfold ledger; (try dsimp only); (try unfold ledger); repeat' (first | (simp; done) | split | (split <;> simp))
@[simp] theorem ledger_st_clearing (s : State) (h : HalfId) (src ev : Nat) (fields : List Byte) : (ledger s h src ev fields).store.clearing = s.store.clearing := by
  unfold ledger; (try dsimp only); (try unfold ledger); repeat' (first | (simp; done) | split | (split <;> simp))
@[simp] theorem ledger_st_optimeCommitted (s : State) (h : HalfId) (src ev : Nat) (fields : List Byte) : (ledger s h src ev fields).store.optimeCommitted = s.store.optimeCommitted := by
  unfold ledger; (try dsimp only); (try unfold ledger); repeat' (first | (simp; done) | split | (split <;> simp))
@[simp] theorem ledger_st_pcycle (s : State) (h : HalfId) (src ev : Nat) (fields : List Byte) : (ledger s h src ev fields).store.pcycle = s.store.pcycle := by
  unfold ledger; (try dsimp only); (try unfold ledger); repeat' (first | (simp; done) | split | (split <;> simp))
@[simp] theorem ledger_st_eraA (s : State) (h : HalfId) (src ev : Nat) (fields : List Byte) : (ledger s h src ev fields).store.eraA = s.store.eraA := by
  unfold ledger; (try dsimp only); (try unfold ledger); repeat' (first | (simp; done) | split | (split <;> simp))
@[simp] theorem ledger_st_eraB (s : State) (h : HalfId) (src ev : Nat) (fields : List Byte) : (ledger s h src ev fields).store.eraB = s.store.eraB := by
  unfold ledger; (try dsimp only); (try unfold ledger); repeat' (first | (simp; done) | split | (split <;> simp))
@[simp] theorem ledger_po_openSlot (s : State) (h : HalfId) (src ev : Nat) (fields : List Byte) (g : HalfId) : (half (ledger s h src ev fields) g).port.openSlot = (half s g).port.openSlot := by
  unfold ledger; (try dsimp only); (try unfold ledger); repeat' (first | (simp; done) | (simp [half_setHalf]; split <;> simp_all; done) | split)
@[simp] theorem ledger_po_commits (s : State) (h : HalfId) (src ev : Nat) (fields : List Byte) (g : HalfId) : (half (ledger s h src ev fields) g).port.commits = (half s g).port.commits := by
  unfold ledger; (try dsimp only); (try unfold ledger); repeat' (first | (simp; done) | (simp [half_setHalf]; split <;> simp_all; done) | split)
@[simp] theorem ledger_po_rdata (s : State) (h : HalfId) (src ev : Nat) (fields : List Byte) (g : HalfId) : (half (ledger s h src ev fields) g).port.rdata = (half s g).port.rdata := by
  unfold ledger; (try dsimp only); (try unfold ledger); repeat' (first | (simp; done) | (simp [half_setHalf]; split <;> simp_all; done) | split)
@[simp] theorem ledger_po_optimeHi (s : State) (h : HalfId) (src ev : Nat) (fields : List Byte) (g : HalfId) : (half (ledger s h src ev fields) g).port.optimeHi = (half s g).port.optimeHi := by
  unfold ledger; (try dsimp only); (try unfold ledger); repeat' (first | (simp; done) | (simp [half_setHalf]; split <;> simp_all; done) | split)
@[simp] theorem ledgerH_st_slot0 (s : State) (h : HalfId) (ev : Nat) (fields : List Byte) : (ledgerH s h ev fields).store.slot0 = s.store.slot0 := by
  unfold ledgerH; (try dsimp only); (try unfold ledgerH); repeat' (first | (simp; done) | split | (split <;> simp))
@[simp] theorem ledgerH_st_slot1 (s : State) (h : HalfId) (ev : Nat) (fields : List Byte) : (ledgerH s h ev fields).store.slot1 = s.store.slot1 := by
  unfold ledgerH; (try dsimp only); (try unfold ledgerH); repeat' (first | (simp; done) | split | (split <;> simp))
@[simp] theorem ledgerH_st_slot2 (s : State) (h : HalfId) (ev : Nat) (fields : List Byte) : (ledgerH s h ev fields).store.slot2 = s.store.slot2 := by
  unfold ledgerH; (try dsimp only); (try unfold ledgerH); repeat' (first | (simp; done) | split | (split <;> simp))
@[simp] theorem ledgerH_st_setUnits (s : State) (h : HalfId) (ev : Nat) (fields : List Byte) : (ledgerH s h ev fields).store.setUnits = s.store.setUnits := by
  unfold ledgerH; (try dsimp only); (try unfold ledgerH); repeat' (first | (simp; done) | split | (split <;> simp))
@[simp] theorem ledgerH_st_recordLog (s : State) (h : HalfId) (ev : Nat) (fields : List Byte) : (ledgerH s h ev fields).store.recordLog = s.store.recordLog := by
  unfold ledgerH; (try dsimp only); (try unfold ledgerH); repeat' (first | (simp; done) | split | (split <;> simp))
@[simp] theorem ledgerH_st_logSeq (s : State) (h : HalfId) (ev : Nat) (fields : List Byte) : (ledgerH s h ev fields).store.logSeq = s.store.logSeq := by
  unfold ledgerH; (try dsimp only); (try unfold ledgerH); repeat' (first | (simp; done) | split | (split <;> simp))
@[simp] theorem ledgerH_st_setSeq (s : State) (h : HalfId) (ev : Nat) (fields : List Byte) : (ledgerH s h ev fields).store.setSeq = s.store.setSeq := by
  unfold ledgerH; (try dsimp only); (try unfold ledgerH); repeat' (first | (simp; done) | split | (split <;> simp))
@[simp] theorem ledgerH_st_retA (s : State) (h : HalfId) (ev : Nat) (fields : List Byte) : (ledgerH s h ev fields).store.retA = s.store.retA := by
  unfold ledgerH; (try dsimp only); (try unfold ledgerH); repeat' (first | (simp; done) | split | (split <;> simp))
@[simp] theorem ledgerH_st_retB (s : State) (h : HalfId) (ev : Nat) (fields : List Byte) : (ledgerH s h ev fields).store.retB = s.store.retB := by
  unfold ledgerH; (try dsimp only); (try unfold ledgerH); repeat' (first | (simp; done) | split | (split <;> simp))
@[simp] theorem ledgerH_st_recA (s : State) (h : HalfId) (ev : Nat) (fields : List Byte) : (ledgerH s h ev fields).store.recA = s.store.recA := by
  unfold ledgerH; (try dsimp only); (try unfold ledgerH); repeat' (first | (simp; done) | split | (split <;> simp))
@[simp] theorem ledgerH_st_recB (s : State) (h : HalfId) (ev : Nat) (fields : List Byte) : (ledgerH s h ev fields).store.recB = s.store.recB := by
  unfold ledgerH; (try dsimp only); (try unfold ledgerH); repeat' (first | (simp; done) | split | (split <;> simp))
@[simp] theorem ledgerH_st_trcA (s : State) (h : HalfId) (ev : Nat) (fields : List Byte) : (ledgerH s h ev fields).store.trcA = s.store.trcA := by
  unfold ledgerH; (try dsimp only); (try unfold ledgerH); repeat' (first | (simp; done) | split | (split <;> simp))
@[simp] theorem ledgerH_st_trcB (s : State) (h : HalfId) (ev : Nat) (fields : List Byte) : (ledgerH s h ev fields).store.trcB = s.store.trcB := by
  unfold ledgerH; (try dsimp only); (try unfold ledgerH); repeat' (first | (simp; done) | split | (split <;> simp))
@[simp] theorem ledgerH_st_keysA (s : State) (h : HalfId) (ev : Nat) (fields : List Byte) : (ledgerH s h ev fields).store.keysA = s.store.keysA := by
  unfold ledgerH; (try dsimp only); (try unfold ledgerH); repeat' (first | (simp; done) | split | (split <;> simp))
@[simp] theorem ledgerH_st_keysB (s : State) (h : HalfId) (ev : Nat) (fields : List Byte) : (ledgerH s h ev fields).store.keysB = s.store.keysB := by
  unfold ledgerH; (try dsimp only); (try unfold ledgerH); repeat' (first | (simp; done) | split | (split <;> simp))
@[simp] theorem ledgerH_st_cfgA (s : State) (h : HalfId) (ev : Nat) (fields : List Byte) : (ledgerH s h ev fields).store.cfgA = s.store.cfgA := by
  unfold ledgerH; (try dsimp only); (try unfold ledgerH); repeat' (first | (simp; done) | split | (split <;> simp))
@[simp] theorem ledgerH_st_cfgB (s : State) (h : HalfId) (ev : Nat) (fields : List Byte) : (ledgerH s h ev fields).store.cfgB = s.store.cfgB := by
  unfold ledgerH; (try dsimp only); (try unfold ledgerH); repeat' (first | (simp; done) | split | (split <;> simp))
@[simp] theorem ledgerH_st_tombstone (s : State) (h : HalfId) (ev : Nat) (fields : List Byte) : (ledgerH s h ev fields).store.tombstone = s.store.tombstone := by
  unfold ledgerH; (try dsimp only); (try unfold ledgerH); repeat' (first | (simp; done) | split | (split <;> simp))
@[simp] theorem ledgerH_st_clearing (s : State) (h : HalfId) (ev : Nat) (fields : List Byte) : (ledgerH s h ev fields).store.clearing = s.store.clearing := by
  unfold ledgerH; (try dsimp only); (try unfold ledgerH); repeat' (first | (simp; done) | split | (split <;> simp))
@[simp] theorem ledgerH_st_optimeCommitted (s : State) (h : HalfId) (ev : Nat) (fields : List Byte) : (ledgerH s h ev fields).store.optimeCommitted = s.store.optimeCommitted := by
  unfold ledgerH; (try dsimp only); (try unfold ledgerH); repeat' (first | (simp; done) | split | (split <;> simp))
@[simp] theorem ledgerH_st_pcycle (s : State) (h : HalfId) (ev : Nat) (fields : List Byte) : (ledgerH s h ev fields).store.pcycle = s.store.pcycle := by
  unfold ledgerH; (try dsimp only); (try unfold ledgerH); repeat' (first | (simp; done) | split | (split <;> simp))
@[simp] theorem ledgerH_st_eraA (s : State) (h : HalfId) (ev : Nat) (fields : List Byte) : (ledgerH s h ev fields).store.eraA = s.store.eraA := by
  unfold ledgerH; (try dsimp only); (try unfold ledgerH); repeat' (first | (simp; done) | split | (split <;> simp))
@[simp] theorem ledgerH_st_eraB (s : State) (h : HalfId) (ev : Nat) (fields : List Byte) : (ledgerH s h ev fields).store.eraB = s.store.eraB := by
  unfold ledgerH; (try dsimp only); (try unfold ledgerH); repeat' (first | (simp; done) | split | (split <;> simp))
@[simp] theorem ledgerH_po_openSlot (s : State) (h : HalfId) (ev : Nat) (fields : List Byte) (g : HalfId) : (half (ledgerH s h ev fields) g).port.openSlot = (half s g).port.openSlot := by
  unfold ledgerH; (try dsimp only); (try unfold ledgerH); repeat' (first | (simp; done) | (simp [half_setHalf]; split <;> simp_all; done) | split)
@[simp] theorem ledgerH_po_commits (s : State) (h : HalfId) (ev : Nat) (fields : List Byte) (g : HalfId) : (half (ledgerH s h ev fields) g).port.commits = (half s g).port.commits := by
  unfold ledgerH; (try dsimp only); (try unfold ledgerH); repeat' (first | (simp; done) | (simp [half_setHalf]; split <;> simp_all; done) | split)
@[simp] theorem ledgerH_po_rdata (s : State) (h : HalfId) (ev : Nat) (fields : List Byte) (g : HalfId) : (half (ledgerH s h ev fields) g).port.rdata = (half s g).port.rdata := by
  unfold ledgerH; (try dsimp only); (try unfold ledgerH); repeat' (first | (simp; done) | (simp [half_setHalf]; split <;> simp_all; done) | split)
@[simp] theorem ledgerH_po_optimeHi (s : State) (h : HalfId) (ev : Nat) (fields : List Byte) (g : HalfId) : (half (ledgerH s h ev fields) g).port.optimeHi = (half s g).port.optimeHi := by
  unfold ledgerH; (try dsimp only); (try unfold ledgerH); repeat' (first | (simp; done) | (simp [half_setHalf]; split <;> simp_all; done) | split)
@[simp] theorem ledgerFieldSrc_st_slot0 (s : State) (src ev : Nat) (fields : List Byte) : (ledgerFieldSrc s src ev fields).store.slot0 = s.store.slot0 := by
  unfold ledgerFieldSrc; (try dsimp only); (try unfold ledgerFieldSrc); repeat' (first | (simp; done) | split | (split <;> simp))
@[simp] theorem ledgerFieldSrc_st_slot1 (s : State) (src ev : Nat) (fields : List Byte) : (ledgerFieldSrc s src ev fields).store.slot1 = s.store.slot1 := by
  unfold ledgerFieldSrc; (try dsimp only); (try unfold ledgerFieldSrc); repeat' (first | (simp; done) | split | (split <;> simp))
@[simp] theorem ledgerFieldSrc_st_slot2 (s : State) (src ev : Nat) (fields : List Byte) : (ledgerFieldSrc s src ev fields).store.slot2 = s.store.slot2 := by
  unfold ledgerFieldSrc; (try dsimp only); (try unfold ledgerFieldSrc); repeat' (first | (simp; done) | split | (split <;> simp))
@[simp] theorem ledgerFieldSrc_st_setUnits (s : State) (src ev : Nat) (fields : List Byte) : (ledgerFieldSrc s src ev fields).store.setUnits = s.store.setUnits := by
  unfold ledgerFieldSrc; (try dsimp only); (try unfold ledgerFieldSrc); repeat' (first | (simp; done) | split | (split <;> simp))
@[simp] theorem ledgerFieldSrc_st_recordLog (s : State) (src ev : Nat) (fields : List Byte) : (ledgerFieldSrc s src ev fields).store.recordLog = s.store.recordLog := by
  unfold ledgerFieldSrc; (try dsimp only); (try unfold ledgerFieldSrc); repeat' (first | (simp; done) | split | (split <;> simp))
@[simp] theorem ledgerFieldSrc_st_logSeq (s : State) (src ev : Nat) (fields : List Byte) : (ledgerFieldSrc s src ev fields).store.logSeq = s.store.logSeq := by
  unfold ledgerFieldSrc; (try dsimp only); (try unfold ledgerFieldSrc); repeat' (first | (simp; done) | split | (split <;> simp))
@[simp] theorem ledgerFieldSrc_st_setSeq (s : State) (src ev : Nat) (fields : List Byte) : (ledgerFieldSrc s src ev fields).store.setSeq = s.store.setSeq := by
  unfold ledgerFieldSrc; (try dsimp only); (try unfold ledgerFieldSrc); repeat' (first | (simp; done) | split | (split <;> simp))
@[simp] theorem ledgerFieldSrc_st_retA (s : State) (src ev : Nat) (fields : List Byte) : (ledgerFieldSrc s src ev fields).store.retA = s.store.retA := by
  unfold ledgerFieldSrc; (try dsimp only); (try unfold ledgerFieldSrc); repeat' (first | (simp; done) | split | (split <;> simp))
@[simp] theorem ledgerFieldSrc_st_retB (s : State) (src ev : Nat) (fields : List Byte) : (ledgerFieldSrc s src ev fields).store.retB = s.store.retB := by
  unfold ledgerFieldSrc; (try dsimp only); (try unfold ledgerFieldSrc); repeat' (first | (simp; done) | split | (split <;> simp))
@[simp] theorem ledgerFieldSrc_st_recA (s : State) (src ev : Nat) (fields : List Byte) : (ledgerFieldSrc s src ev fields).store.recA = s.store.recA := by
  unfold ledgerFieldSrc; (try dsimp only); (try unfold ledgerFieldSrc); repeat' (first | (simp; done) | split | (split <;> simp))
@[simp] theorem ledgerFieldSrc_st_recB (s : State) (src ev : Nat) (fields : List Byte) : (ledgerFieldSrc s src ev fields).store.recB = s.store.recB := by
  unfold ledgerFieldSrc; (try dsimp only); (try unfold ledgerFieldSrc); repeat' (first | (simp; done) | split | (split <;> simp))
@[simp] theorem ledgerFieldSrc_st_trcA (s : State) (src ev : Nat) (fields : List Byte) : (ledgerFieldSrc s src ev fields).store.trcA = s.store.trcA := by
  unfold ledgerFieldSrc; (try dsimp only); (try unfold ledgerFieldSrc); repeat' (first | (simp; done) | split | (split <;> simp))
@[simp] theorem ledgerFieldSrc_st_trcB (s : State) (src ev : Nat) (fields : List Byte) : (ledgerFieldSrc s src ev fields).store.trcB = s.store.trcB := by
  unfold ledgerFieldSrc; (try dsimp only); (try unfold ledgerFieldSrc); repeat' (first | (simp; done) | split | (split <;> simp))
@[simp] theorem ledgerFieldSrc_st_keysA (s : State) (src ev : Nat) (fields : List Byte) : (ledgerFieldSrc s src ev fields).store.keysA = s.store.keysA := by
  unfold ledgerFieldSrc; (try dsimp only); (try unfold ledgerFieldSrc); repeat' (first | (simp; done) | split | (split <;> simp))
@[simp] theorem ledgerFieldSrc_st_keysB (s : State) (src ev : Nat) (fields : List Byte) : (ledgerFieldSrc s src ev fields).store.keysB = s.store.keysB := by
  unfold ledgerFieldSrc; (try dsimp only); (try unfold ledgerFieldSrc); repeat' (first | (simp; done) | split | (split <;> simp))
@[simp] theorem ledgerFieldSrc_st_cfgA (s : State) (src ev : Nat) (fields : List Byte) : (ledgerFieldSrc s src ev fields).store.cfgA = s.store.cfgA := by
  unfold ledgerFieldSrc; (try dsimp only); (try unfold ledgerFieldSrc); repeat' (first | (simp; done) | split | (split <;> simp))
@[simp] theorem ledgerFieldSrc_st_cfgB (s : State) (src ev : Nat) (fields : List Byte) : (ledgerFieldSrc s src ev fields).store.cfgB = s.store.cfgB := by
  unfold ledgerFieldSrc; (try dsimp only); (try unfold ledgerFieldSrc); repeat' (first | (simp; done) | split | (split <;> simp))
@[simp] theorem ledgerFieldSrc_st_tombstone (s : State) (src ev : Nat) (fields : List Byte) : (ledgerFieldSrc s src ev fields).store.tombstone = s.store.tombstone := by
  unfold ledgerFieldSrc; (try dsimp only); (try unfold ledgerFieldSrc); repeat' (first | (simp; done) | split | (split <;> simp))
@[simp] theorem ledgerFieldSrc_st_clearing (s : State) (src ev : Nat) (fields : List Byte) : (ledgerFieldSrc s src ev fields).store.clearing = s.store.clearing := by
  unfold ledgerFieldSrc; (try dsimp only); (try unfold ledgerFieldSrc); repeat' (first | (simp; done) | split | (split <;> simp))
@[simp] theorem ledgerFieldSrc_st_optimeCommitted (s : State) (src ev : Nat) (fields : List Byte) : (ledgerFieldSrc s src ev fields).store.optimeCommitted = s.store.optimeCommitted := by
  unfold ledgerFieldSrc; (try dsimp only); (try unfold ledgerFieldSrc); repeat' (first | (simp; done) | split | (split <;> simp))
@[simp] theorem ledgerFieldSrc_st_pcycle (s : State) (src ev : Nat) (fields : List Byte) : (ledgerFieldSrc s src ev fields).store.pcycle = s.store.pcycle := by
  unfold ledgerFieldSrc; (try dsimp only); (try unfold ledgerFieldSrc); repeat' (first | (simp; done) | split | (split <;> simp))
@[simp] theorem ledgerFieldSrc_st_eraA (s : State) (src ev : Nat) (fields : List Byte) : (ledgerFieldSrc s src ev fields).store.eraA = s.store.eraA := by
  unfold ledgerFieldSrc; (try dsimp only); (try unfold ledgerFieldSrc); repeat' (first | (simp; done) | split | (split <;> simp))
@[simp] theorem ledgerFieldSrc_st_eraB (s : State) (src ev : Nat) (fields : List Byte) : (ledgerFieldSrc s src ev fields).store.eraB = s.store.eraB := by
  unfold ledgerFieldSrc; (try dsimp only); (try unfold ledgerFieldSrc); repeat' (first | (simp; done) | split | (split <;> simp))
@[simp] theorem ledgerFieldSrc_po_openSlot (s : State) (src ev : Nat) (fields : List Byte) (g : HalfId) : (half (ledgerFieldSrc s src ev fields) g).port.openSlot = (half s g).port.openSlot := by
  unfold ledgerFieldSrc; (try dsimp only); (try unfold ledgerFieldSrc); repeat' (first | (simp; done) | (simp [half_setHalf]; split <;> simp_all; done) | split)
@[simp] theorem ledgerFieldSrc_po_commits (s : State) (src ev : Nat) (fields : List Byte) (g : HalfId) : (half (ledgerFieldSrc s src ev fields) g).port.commits = (half s g).port.commits := by
  unfold ledgerFieldSrc; (try dsimp only); (try unfold ledgerFieldSrc); repeat' (first | (simp; done) | (simp [half_setHalf]; split <;> simp_all; done) | split)
@[simp] theorem ledgerFieldSrc_po_rdata (s : State) (src ev : Nat) (fields : List Byte) (g : HalfId) : (half (ledgerFieldSrc s src ev fields) g).port.rdata = (half s g).port.rdata := by
  unfold ledgerFieldSrc; (try dsimp only); (try unfold ledgerFieldSrc); repeat' (first | (simp; done) | (simp [half_setHalf]; split <;> simp_all; done) | split)
@[simp] theorem ledgerFieldSrc_po_optimeHi (s : State) (src ev : Nat) (fields : List Byte) (g : HalfId) : (half (ledgerFieldSrc s src ev fields) g).port.optimeHi = (half s g).port.optimeHi := by
  unfold ledgerFieldSrc; (try dsimp only); (try unfold ledgerFieldSrc); repeat' (first | (simp; done) | (simp [half_setHalf]; split <;> simp_all; done) | split)
@[simp] theorem ledgerField_st_slot0 (s : State) (ev : Nat) (fields : List Byte) : (ledgerField s ev fields).store.slot0 = s.store.slot0 := by
  unfold ledgerField; (try dsimp only); (try unfold ledgerField); repeat' (first | (simp; done) | split | (split <;> simp))
@[simp] theorem ledgerField_st_slot1 (s : State) (ev : Nat) (fields : List Byte) : (ledgerField s ev fields).store.slot1 = s.store.slot1 := by
  unfold ledgerField; (try dsimp only); (try unfold ledgerField); repeat' (first | (simp; done) | split | (split <;> simp))
@[simp] theorem ledgerField_st_slot2 (s : State) (ev : Nat) (fields : List Byte) : (ledgerField s ev fields).store.slot2 = s.store.slot2 := by
  unfold ledgerField; (try dsimp only); (try unfold ledgerField); repeat' (first | (simp; done) | split | (split <;> simp))
@[simp] theorem ledgerField_st_setUnits (s : State) (ev : Nat) (fields : List Byte) : (ledgerField s ev fields).store.setUnits = s.store.setUnits := by
  unfold ledgerField; (try dsimp only); (try unfold ledgerField); repeat' (first | (simp; done) | split | (split <;> simp))
@[simp] theorem ledgerField_st_recordLog (s : State) (ev : Nat) (fields : List Byte) : (ledgerField s ev fields).store.recordLog = s.store.recordLog := by
  unfold ledgerField; (try dsimp only); (try unfold ledgerField); repeat' (first | (simp; done) | split | (split <;> simp))
@[simp] theorem ledgerField_st_logSeq (s : State) (ev : Nat) (fields : List Byte) : (ledgerField s ev fields).store.logSeq = s.store.logSeq := by
  unfold ledgerField; (try dsimp only); (try unfold ledgerField); repeat' (first | (simp; done) | split | (split <;> simp))
@[simp] theorem ledgerField_st_setSeq (s : State) (ev : Nat) (fields : List Byte) : (ledgerField s ev fields).store.setSeq = s.store.setSeq := by
  unfold ledgerField; (try dsimp only); (try unfold ledgerField); repeat' (first | (simp; done) | split | (split <;> simp))
@[simp] theorem ledgerField_st_retA (s : State) (ev : Nat) (fields : List Byte) : (ledgerField s ev fields).store.retA = s.store.retA := by
  unfold ledgerField; (try dsimp only); (try unfold ledgerField); repeat' (first | (simp; done) | split | (split <;> simp))
@[simp] theorem ledgerField_st_retB (s : State) (ev : Nat) (fields : List Byte) : (ledgerField s ev fields).store.retB = s.store.retB := by
  unfold ledgerField; (try dsimp only); (try unfold ledgerField); repeat' (first | (simp; done) | split | (split <;> simp))
@[simp] theorem ledgerField_st_recA (s : State) (ev : Nat) (fields : List Byte) : (ledgerField s ev fields).store.recA = s.store.recA := by
  unfold ledgerField; (try dsimp only); (try unfold ledgerField); repeat' (first | (simp; done) | split | (split <;> simp))
@[simp] theorem ledgerField_st_recB (s : State) (ev : Nat) (fields : List Byte) : (ledgerField s ev fields).store.recB = s.store.recB := by
  unfold ledgerField; (try dsimp only); (try unfold ledgerField); repeat' (first | (simp; done) | split | (split <;> simp))
@[simp] theorem ledgerField_st_trcA (s : State) (ev : Nat) (fields : List Byte) : (ledgerField s ev fields).store.trcA = s.store.trcA := by
  unfold ledgerField; (try dsimp only); (try unfold ledgerField); repeat' (first | (simp; done) | split | (split <;> simp))
@[simp] theorem ledgerField_st_trcB (s : State) (ev : Nat) (fields : List Byte) : (ledgerField s ev fields).store.trcB = s.store.trcB := by
  unfold ledgerField; (try dsimp only); (try unfold ledgerField); repeat' (first | (simp; done) | split | (split <;> simp))
@[simp] theorem ledgerField_st_keysA (s : State) (ev : Nat) (fields : List Byte) : (ledgerField s ev fields).store.keysA = s.store.keysA := by
  unfold ledgerField; (try dsimp only); (try unfold ledgerField); repeat' (first | (simp; done) | split | (split <;> simp))
@[simp] theorem ledgerField_st_keysB (s : State) (ev : Nat) (fields : List Byte) : (ledgerField s ev fields).store.keysB = s.store.keysB := by
  unfold ledgerField; (try dsimp only); (try unfold ledgerField); repeat' (first | (simp; done) | split | (split <;> simp))
@[simp] theorem ledgerField_st_cfgA (s : State) (ev : Nat) (fields : List Byte) : (ledgerField s ev fields).store.cfgA = s.store.cfgA := by
  unfold ledgerField; (try dsimp only); (try unfold ledgerField); repeat' (first | (simp; done) | split | (split <;> simp))
@[simp] theorem ledgerField_st_cfgB (s : State) (ev : Nat) (fields : List Byte) : (ledgerField s ev fields).store.cfgB = s.store.cfgB := by
  unfold ledgerField; (try dsimp only); (try unfold ledgerField); repeat' (first | (simp; done) | split | (split <;> simp))
@[simp] theorem ledgerField_st_tombstone (s : State) (ev : Nat) (fields : List Byte) : (ledgerField s ev fields).store.tombstone = s.store.tombstone := by
  unfold ledgerField; (try dsimp only); (try unfold ledgerField); repeat' (first | (simp; done) | split | (split <;> simp))
@[simp] theorem ledgerField_st_clearing (s : State) (ev : Nat) (fields : List Byte) : (ledgerField s ev fields).store.clearing = s.store.clearing := by
  unfold ledgerField; (try dsimp only); (try unfold ledgerField); repeat' (first | (simp; done) | split | (split <;> simp))
@[simp] theorem ledgerField_st_optimeCommitted (s : State) (ev : Nat) (fields : List Byte) : (ledgerField s ev fields).store.optimeCommitted = s.store.optimeCommitted := by
  unfold ledgerField; (try dsimp only); (try unfold ledgerField); repeat' (first | (simp; done) | split | (split <;> simp))
@[simp] theorem ledgerField_st_pcycle (s : State) (ev : Nat) (fields : List Byte) : (ledgerField s ev fields).store.pcycle = s.store.pcycle := by
  unfold ledgerField; (try dsimp only); (try unfold ledgerField); repeat' (first | (simp; done) | split | (split <;> simp))
@[simp] theorem ledgerField_st_eraA (s : State) (ev : Nat) (fields : List Byte) : (ledgerField s ev fields).store.eraA = s.store.eraA := by
  unfold ledgerField; (try dsimp only); (try unfold ledgerField); repeat' (first | (simp; done) | split | (split <;> simp))
@[simp] theorem ledgerField_st_eraB (s : State) (ev : Nat) (fields : List Byte) : (ledgerField s ev fields).store.eraB = s.store.eraB := by
  unfold ledgerField; (try dsimp only); (try unfold ledgerField); repeat' (first | (simp; done) | split | (split <;> simp))
@[simp] theorem ledgerField_po_openSlot (s : State) (ev : Nat) (fields : List Byte) (g : HalfId) : (half (ledgerField s ev fields) g).port.openSlot = (half s g).port.openSlot := by
  unfold ledgerField; (try dsimp only); (try unfold ledgerField); repeat' (first | (simp; done) | (simp [half_setHalf]; split <;> simp_all; done) | split)
@[simp] theorem ledgerField_po_commits (s : State) (ev : Nat) (fields : List Byte) (g : HalfId) : (half (ledgerField s ev fields) g).port.commits = (half s g).port.commits := by
  unfold ledgerField; (try dsimp only); (try unfold ledgerField); repeat' (first | (simp; done) | (simp [half_setHalf]; split <;> simp_all; done) | split)
@[simp] theorem ledgerField_po_rdata (s : State) (ev : Nat) (fields : List Byte) (g : HalfId) : (half (ledgerField s ev fields) g).port.rdata = (half s g).port.rdata := by
  unfold ledgerField; (try dsimp only); (try unfold ledgerField); repeat' (first | (simp; done) | (simp [half_setHalf]; split <;> simp_all; done) | split)
@[simp] theorem ledgerField_po_optimeHi (s : State) (ev : Nat) (fields : List Byte) (g : HalfId) : (half (ledgerField s ev fields) g).port.optimeHi = (half s g).port.optimeHi := by
  unfold ledgerField; (try dsimp only); (try unfold ledgerField); repeat' (first | (simp; done) | (simp [half_setHalf]; split <;> simp_all; done) | split)
@[simp] theorem tallyUpdate_st_slot0 (s : State) (h : HalfId) (k ev : Nat) : (tallyUpdate s h k ev).store.slot0 = s.store.slot0 := by
  unfold tallyUpdate; (try dsimp only); (try unfold tallyUpdate); repeat' (first | (simp; done) | split | (split <;> simp))
@[simp] theorem tallyUpdate_st_slot1 (s : State) (h : HalfId) (k ev : Nat) : (tallyUpdate s h k ev).store.slot1 = s.store.slot1 := by
  unfold tallyUpdate; (try dsimp only); (try unfold tallyUpdate); repeat' (first | (simp; done) | split | (split <;> simp))
@[simp] theorem tallyUpdate_st_slot2 (s : State) (h : HalfId) (k ev : Nat) : (tallyUpdate s h k ev).store.slot2 = s.store.slot2 := by
  unfold tallyUpdate; (try dsimp only); (try unfold tallyUpdate); repeat' (first | (simp; done) | split | (split <;> simp))
@[simp] theorem tallyUpdate_st_setUnits (s : State) (h : HalfId) (k ev : Nat) : (tallyUpdate s h k ev).store.setUnits = s.store.setUnits := by
  unfold tallyUpdate; (try dsimp only); (try unfold tallyUpdate); repeat' (first | (simp; done) | split | (split <;> simp))
@[simp] theorem tallyUpdate_st_recordLog (s : State) (h : HalfId) (k ev : Nat) : (tallyUpdate s h k ev).store.recordLog = s.store.recordLog := by
  unfold tallyUpdate; (try dsimp only); (try unfold tallyUpdate); repeat' (first | (simp; done) | split | (split <;> simp))
@[simp] theorem tallyUpdate_st_logSeq (s : State) (h : HalfId) (k ev : Nat) : (tallyUpdate s h k ev).store.logSeq = s.store.logSeq := by
  unfold tallyUpdate; (try dsimp only); (try unfold tallyUpdate); repeat' (first | (simp; done) | split | (split <;> simp))
@[simp] theorem tallyUpdate_st_setSeq (s : State) (h : HalfId) (k ev : Nat) : (tallyUpdate s h k ev).store.setSeq = s.store.setSeq := by
  unfold tallyUpdate; (try dsimp only); (try unfold tallyUpdate); repeat' (first | (simp; done) | split | (split <;> simp))
@[simp] theorem tallyUpdate_st_retA (s : State) (h : HalfId) (k ev : Nat) : (tallyUpdate s h k ev).store.retA = s.store.retA := by
  unfold tallyUpdate; (try dsimp only); (try unfold tallyUpdate); repeat' (first | (simp; done) | split | (split <;> simp))
@[simp] theorem tallyUpdate_st_retB (s : State) (h : HalfId) (k ev : Nat) : (tallyUpdate s h k ev).store.retB = s.store.retB := by
  unfold tallyUpdate; (try dsimp only); (try unfold tallyUpdate); repeat' (first | (simp; done) | split | (split <;> simp))
@[simp] theorem tallyUpdate_st_recA (s : State) (h : HalfId) (k ev : Nat) : (tallyUpdate s h k ev).store.recA = s.store.recA := by
  unfold tallyUpdate; (try dsimp only); (try unfold tallyUpdate); repeat' (first | (simp; done) | split | (split <;> simp))
@[simp] theorem tallyUpdate_st_recB (s : State) (h : HalfId) (k ev : Nat) : (tallyUpdate s h k ev).store.recB = s.store.recB := by
  unfold tallyUpdate; (try dsimp only); (try unfold tallyUpdate); repeat' (first | (simp; done) | split | (split <;> simp))
@[simp] theorem tallyUpdate_st_trcA (s : State) (h : HalfId) (k ev : Nat) : (tallyUpdate s h k ev).store.trcA = s.store.trcA := by
  unfold tallyUpdate; (try dsimp only); (try unfold tallyUpdate); repeat' (first | (simp; done) | split | (split <;> simp))
@[simp] theorem tallyUpdate_st_trcB (s : State) (h : HalfId) (k ev : Nat) : (tallyUpdate s h k ev).store.trcB = s.store.trcB := by
  unfold tallyUpdate; (try dsimp only); (try unfold tallyUpdate); repeat' (first | (simp; done) | split | (split <;> simp))
@[simp] theorem tallyUpdate_st_keysA (s : State) (h : HalfId) (k ev : Nat) : (tallyUpdate s h k ev).store.keysA = s.store.keysA := by
  unfold tallyUpdate; (try dsimp only); (try unfold tallyUpdate); repeat' (first | (simp; done) | split | (split <;> simp))
@[simp] theorem tallyUpdate_st_keysB (s : State) (h : HalfId) (k ev : Nat) : (tallyUpdate s h k ev).store.keysB = s.store.keysB := by
  unfold tallyUpdate; (try dsimp only); (try unfold tallyUpdate); repeat' (first | (simp; done) | split | (split <;> simp))
@[simp] theorem tallyUpdate_st_cfgA (s : State) (h : HalfId) (k ev : Nat) : (tallyUpdate s h k ev).store.cfgA = s.store.cfgA := by
  unfold tallyUpdate; (try dsimp only); (try unfold tallyUpdate); repeat' (first | (simp; done) | split | (split <;> simp))
@[simp] theorem tallyUpdate_st_cfgB (s : State) (h : HalfId) (k ev : Nat) : (tallyUpdate s h k ev).store.cfgB = s.store.cfgB := by
  unfold tallyUpdate; (try dsimp only); (try unfold tallyUpdate); repeat' (first | (simp; done) | split | (split <;> simp))
@[simp] theorem tallyUpdate_st_tombstone (s : State) (h : HalfId) (k ev : Nat) : (tallyUpdate s h k ev).store.tombstone = s.store.tombstone := by
  unfold tallyUpdate; (try dsimp only); (try unfold tallyUpdate); repeat' (first | (simp; done) | split | (split <;> simp))
@[simp] theorem tallyUpdate_st_clearing (s : State) (h : HalfId) (k ev : Nat) : (tallyUpdate s h k ev).store.clearing = s.store.clearing := by
  unfold tallyUpdate; (try dsimp only); (try unfold tallyUpdate); repeat' (first | (simp; done) | split | (split <;> simp))
@[simp] theorem tallyUpdate_st_optimeCommitted (s : State) (h : HalfId) (k ev : Nat) : (tallyUpdate s h k ev).store.optimeCommitted = s.store.optimeCommitted := by
  unfold tallyUpdate; (try dsimp only); (try unfold tallyUpdate); repeat' (first | (simp; done) | split | (split <;> simp))
@[simp] theorem tallyUpdate_st_pcycle (s : State) (h : HalfId) (k ev : Nat) : (tallyUpdate s h k ev).store.pcycle = s.store.pcycle := by
  unfold tallyUpdate; (try dsimp only); (try unfold tallyUpdate); repeat' (first | (simp; done) | split | (split <;> simp))
@[simp] theorem tallyUpdate_st_eraA (s : State) (h : HalfId) (k ev : Nat) : (tallyUpdate s h k ev).store.eraA = s.store.eraA := by
  unfold tallyUpdate; (try dsimp only); (try unfold tallyUpdate); repeat' (first | (simp; done) | split | (split <;> simp))
@[simp] theorem tallyUpdate_st_eraB (s : State) (h : HalfId) (k ev : Nat) : (tallyUpdate s h k ev).store.eraB = s.store.eraB := by
  unfold tallyUpdate; (try dsimp only); (try unfold tallyUpdate); repeat' (first | (simp; done) | split | (split <;> simp))
@[simp] theorem tallyUpdate_po_openSlot (s : State) (h : HalfId) (k ev : Nat) (g : HalfId) : (half (tallyUpdate s h k ev) g).port.openSlot = (half s g).port.openSlot := by
  unfold tallyUpdate; (try dsimp only); (try unfold tallyUpdate); repeat' (first | (simp; done) | (simp [half_setHalf]; split <;> simp_all; done) | split)
@[simp] theorem tallyUpdate_po_commits (s : State) (h : HalfId) (k ev : Nat) (g : HalfId) : (half (tallyUpdate s h k ev) g).port.commits = (half s g).port.commits := by
  unfold tallyUpdate; (try dsimp only); (try unfold tallyUpdate); repeat' (first | (simp; done) | (simp [half_setHalf]; split <;> simp_all; done) | split)
@[simp] theorem tallyUpdate_po_rdata (s : State) (h : HalfId) (k ev : Nat) (g : HalfId) : (half (tallyUpdate s h k ev) g).port.rdata = (half s g).port.rdata := by
  unfold tallyUpdate; (try dsimp only); (try unfold tallyUpdate); repeat' (first | (simp; done) | (simp [half_setHalf]; split <;> simp_all; done) | split)
@[simp] theorem tallyUpdate_po_optimeHi (s : State) (h : HalfId) (k ev : Nat) (g : HalfId) : (half (tallyUpdate s h k ev) g).port.optimeHi = (half s g).port.optimeHi := by
  unfold tallyUpdate; (try dsimp only); (try unfold tallyUpdate); repeat' (first | (simp; done) | (simp [half_setHalf]; split <;> simp_all; done) | split)
@[simp] theorem tallySet_st_slot0 (s : State) (h : HalfId) (k c cd ev : Nat) : (tallySet s h k c cd ev).store.slot0 = s.store.slot0 := by
  unfold tallySet; (try dsimp only); (try unfold tallySet); repeat' (first | (simp; done) | split | (split <;> simp))
@[simp] theorem tallySet_st_slot1 (s : State) (h : HalfId) (k c cd ev : Nat) : (tallySet s h k c cd ev).store.slot1 = s.store.slot1 := by
  unfold tallySet; (try dsimp only); (try unfold tallySet); repeat' (first | (simp; done) | split | (split <;> simp))
@[simp] theorem tallySet_st_slot2 (s : State) (h : HalfId) (k c cd ev : Nat) : (tallySet s h k c cd ev).store.slot2 = s.store.slot2 := by
  unfold tallySet; (try dsimp only); (try unfold tallySet); repeat' (first | (simp; done) | split | (split <;> simp))
@[simp] theorem tallySet_st_setUnits (s : State) (h : HalfId) (k c cd ev : Nat) : (tallySet s h k c cd ev).store.setUnits = s.store.setUnits := by
  unfold tallySet; (try dsimp only); (try unfold tallySet); repeat' (first | (simp; done) | split | (split <;> simp))
@[simp] theorem tallySet_st_recordLog (s : State) (h : HalfId) (k c cd ev : Nat) : (tallySet s h k c cd ev).store.recordLog = s.store.recordLog := by
  unfold tallySet; (try dsimp only); (try unfold tallySet); repeat' (first | (simp; done) | split | (split <;> simp))
@[simp] theorem tallySet_st_logSeq (s : State) (h : HalfId) (k c cd ev : Nat) : (tallySet s h k c cd ev).store.logSeq = s.store.logSeq := by
  unfold tallySet; (try dsimp only); (try unfold tallySet); repeat' (first | (simp; done) | split | (split <;> simp))
@[simp] theorem tallySet_st_setSeq (s : State) (h : HalfId) (k c cd ev : Nat) : (tallySet s h k c cd ev).store.setSeq = s.store.setSeq := by
  unfold tallySet; (try dsimp only); (try unfold tallySet); repeat' (first | (simp; done) | split | (split <;> simp))
@[simp] theorem tallySet_st_retA (s : State) (h : HalfId) (k c cd ev : Nat) : (tallySet s h k c cd ev).store.retA = s.store.retA := by
  unfold tallySet; (try dsimp only); (try unfold tallySet); repeat' (first | (simp; done) | split | (split <;> simp))
@[simp] theorem tallySet_st_retB (s : State) (h : HalfId) (k c cd ev : Nat) : (tallySet s h k c cd ev).store.retB = s.store.retB := by
  unfold tallySet; (try dsimp only); (try unfold tallySet); repeat' (first | (simp; done) | split | (split <;> simp))
@[simp] theorem tallySet_st_recA (s : State) (h : HalfId) (k c cd ev : Nat) : (tallySet s h k c cd ev).store.recA = s.store.recA := by
  unfold tallySet; (try dsimp only); (try unfold tallySet); repeat' (first | (simp; done) | split | (split <;> simp))
@[simp] theorem tallySet_st_recB (s : State) (h : HalfId) (k c cd ev : Nat) : (tallySet s h k c cd ev).store.recB = s.store.recB := by
  unfold tallySet; (try dsimp only); (try unfold tallySet); repeat' (first | (simp; done) | split | (split <;> simp))
@[simp] theorem tallySet_st_trcA (s : State) (h : HalfId) (k c cd ev : Nat) : (tallySet s h k c cd ev).store.trcA = s.store.trcA := by
  unfold tallySet; (try dsimp only); (try unfold tallySet); repeat' (first | (simp; done) | split | (split <;> simp))
@[simp] theorem tallySet_st_trcB (s : State) (h : HalfId) (k c cd ev : Nat) : (tallySet s h k c cd ev).store.trcB = s.store.trcB := by
  unfold tallySet; (try dsimp only); (try unfold tallySet); repeat' (first | (simp; done) | split | (split <;> simp))
@[simp] theorem tallySet_st_keysA (s : State) (h : HalfId) (k c cd ev : Nat) : (tallySet s h k c cd ev).store.keysA = s.store.keysA := by
  unfold tallySet; (try dsimp only); (try unfold tallySet); repeat' (first | (simp; done) | split | (split <;> simp))
@[simp] theorem tallySet_st_keysB (s : State) (h : HalfId) (k c cd ev : Nat) : (tallySet s h k c cd ev).store.keysB = s.store.keysB := by
  unfold tallySet; (try dsimp only); (try unfold tallySet); repeat' (first | (simp; done) | split | (split <;> simp))
@[simp] theorem tallySet_st_cfgA (s : State) (h : HalfId) (k c cd ev : Nat) : (tallySet s h k c cd ev).store.cfgA = s.store.cfgA := by
  unfold tallySet; (try dsimp only); (try unfold tallySet); repeat' (first | (simp; done) | split | (split <;> simp))
@[simp] theorem tallySet_st_cfgB (s : State) (h : HalfId) (k c cd ev : Nat) : (tallySet s h k c cd ev).store.cfgB = s.store.cfgB := by
  unfold tallySet; (try dsimp only); (try unfold tallySet); repeat' (first | (simp; done) | split | (split <;> simp))
@[simp] theorem tallySet_st_tombstone (s : State) (h : HalfId) (k c cd ev : Nat) : (tallySet s h k c cd ev).store.tombstone = s.store.tombstone := by
  unfold tallySet; (try dsimp only); (try unfold tallySet); repeat' (first | (simp; done) | split | (split <;> simp))
@[simp] theorem tallySet_st_clearing (s : State) (h : HalfId) (k c cd ev : Nat) : (tallySet s h k c cd ev).store.clearing = s.store.clearing := by
  unfold tallySet; (try dsimp only); (try unfold tallySet); repeat' (first | (simp; done) | split | (split <;> simp))
@[simp] theorem tallySet_st_optimeCommitted (s : State) (h : HalfId) (k c cd ev : Nat) : (tallySet s h k c cd ev).store.optimeCommitted = s.store.optimeCommitted := by
  unfold tallySet; (try dsimp only); (try unfold tallySet); repeat' (first | (simp; done) | split | (split <;> simp))
@[simp] theorem tallySet_st_pcycle (s : State) (h : HalfId) (k c cd ev : Nat) : (tallySet s h k c cd ev).store.pcycle = s.store.pcycle := by
  unfold tallySet; (try dsimp only); (try unfold tallySet); repeat' (first | (simp; done) | split | (split <;> simp))
@[simp] theorem tallySet_st_eraA (s : State) (h : HalfId) (k c cd ev : Nat) : (tallySet s h k c cd ev).store.eraA = s.store.eraA := by
  unfold tallySet; (try dsimp only); (try unfold tallySet); repeat' (first | (simp; done) | split | (split <;> simp))
@[simp] theorem tallySet_st_eraB (s : State) (h : HalfId) (k c cd ev : Nat) : (tallySet s h k c cd ev).store.eraB = s.store.eraB := by
  unfold tallySet; (try dsimp only); (try unfold tallySet); repeat' (first | (simp; done) | split | (split <;> simp))
@[simp] theorem tallySet_po_openSlot (s : State) (h : HalfId) (k c cd ev : Nat) (g : HalfId) : (half (tallySet s h k c cd ev) g).port.openSlot = (half s g).port.openSlot := by
  unfold tallySet; (try dsimp only); (try unfold tallySet); repeat' (first | (simp; done) | (simp [half_setHalf]; split <;> simp_all; done) | split)
@[simp] theorem tallySet_po_commits (s : State) (h : HalfId) (k c cd ev : Nat) (g : HalfId) : (half (tallySet s h k c cd ev) g).port.commits = (half s g).port.commits := by
  unfold tallySet; (try dsimp only); (try unfold tallySet); repeat' (first | (simp; done) | (simp [half_setHalf]; split <;> simp_all; done) | split)
@[simp] theorem tallySet_po_rdata (s : State) (h : HalfId) (k c cd ev : Nat) (g : HalfId) : (half (tallySet s h k c cd ev) g).port.rdata = (half s g).port.rdata := by
  unfold tallySet; (try dsimp only); (try unfold tallySet); repeat' (first | (simp; done) | (simp [half_setHalf]; split <;> simp_all; done) | split)
@[simp] theorem tallySet_po_optimeHi (s : State) (h : HalfId) (k c cd ev : Nat) (g : HalfId) : (half (tallySet s h k c cd ev) g).port.optimeHi = (half s g).port.optimeHi := by
  unfold tallySet; (try dsimp only); (try unfold tallySet); repeat' (first | (simp; done) | (simp [half_setHalf]; split <;> simp_all; done) | split)
@[simp] theorem ledgerOnce_st_slot0 (s : State) (h : HalfId) (src ev : Nat) (mk : Nat → List Byte) : (ledgerOnce s h src ev mk).store.slot0 = s.store.slot0 := by
  unfold ledgerOnce; (try dsimp only); (try unfold  modDec); repeat' (first | (simp; done) | split | (split <;> simp))
@[simp] theorem ledgerOnce_st_slot1 (s : State) (h : HalfId) (src ev : Nat) (mk : Nat → List Byte) : (ledgerOnce s h src ev mk).store.slot1 = s.store.slot1 := by
  unfold ledgerOnce; (try dsimp only); (try unfold  modDec); repeat' (first | (simp; done) | split | (split <;> simp))
@[simp] theorem ledgerOnce_st_slot2 (s : State) (h : HalfId) (src ev : Nat) (mk : Nat → List Byte) : (ledgerOnce s h src ev mk).store.slot2 = s.store.slot2 := by
  unfold ledgerOnce; (try dsimp only); (try unfold  modDec); repeat' (first | (simp; done) | split | (split <;> simp))
@[simp] theorem ledgerOnce_st_setUnits (s : State) (h : HalfId) (src ev : Nat) (mk : Nat → List Byte) : (ledgerOnce s h src ev mk).store.setUnits = s.store.setUnits := by
  unfold ledgerOnce; (try dsimp only); (try unfold  modDec); repeat' (first | (simp; done) | split | (split <;> simp))
@[simp] theorem ledgerOnce_st_recordLog (s : State) (h : HalfId) (src ev : Nat) (mk : Nat → List Byte) : (ledgerOnce s h src ev mk).store.recordLog = s.store.recordLog := by
  unfold ledgerOnce; (try dsimp only); (try unfold  modDec); repeat' (first | (simp; done) | split | (split <;> simp))
@[simp] theorem ledgerOnce_st_logSeq (s : State) (h : HalfId) (src ev : Nat) (mk : Nat → List Byte) : (ledgerOnce s h src ev mk).store.logSeq = s.store.logSeq := by
  unfold ledgerOnce; (try dsimp only); (try unfold  modDec); repeat' (first | (simp; done) | split | (split <;> simp))
@[simp] theorem ledgerOnce_st_setSeq (s : State) (h : HalfId) (src ev : Nat) (mk : Nat → List Byte) : (ledgerOnce s h src ev mk).store.setSeq = s.store.setSeq := by
  unfold ledgerOnce; (try dsimp only); (try unfold  modDec); repeat' (first | (simp; done) | split | (split <;> simp))
@[simp] theorem ledgerOnce_st_retA (s : State) (h : HalfId) (src ev : Nat) (mk : Nat → List Byte) : (ledgerOnce s h src ev mk).store.retA = s.store.retA := by
  unfold ledgerOnce; (try dsimp only); (try unfold  modDec); repeat' (first | (simp; done) | split | (split <;> simp))
@[simp] theorem ledgerOnce_st_retB (s : State) (h : HalfId) (src ev : Nat) (mk : Nat → List Byte) : (ledgerOnce s h src ev mk).store.retB = s.store.retB := by
  unfold ledgerOnce; (try dsimp only); (try unfold  modDec); repeat' (first | (simp; done) | split | (split <;> simp))
@[simp] theorem ledgerOnce_st_recA (s : State) (h : HalfId) (src ev : Nat) (mk : Nat → List Byte) : (ledgerOnce s h src ev mk).store.recA = s.store.recA := by
  unfold ledgerOnce; (try dsimp only); (try unfold  modDec); repeat' (first | (simp; done) | split | (split <;> simp))
@[simp] theorem ledgerOnce_st_recB (s : State) (h : HalfId) (src ev : Nat) (mk : Nat → List Byte) : (ledgerOnce s h src ev mk).store.recB = s.store.recB := by
  unfold ledgerOnce; (try dsimp only); (try unfold  modDec); repeat' (first | (simp; done) | split | (split <;> simp))
@[simp] theorem ledgerOnce_st_trcA (s : State) (h : HalfId) (src ev : Nat) (mk : Nat → List Byte) : (ledgerOnce s h src ev mk).store.trcA = s.store.trcA := by
  unfold ledgerOnce; (try dsimp only); (try unfold  modDec); repeat' (first | (simp; done) | split | (split <;> simp))
@[simp] theorem ledgerOnce_st_trcB (s : State) (h : HalfId) (src ev : Nat) (mk : Nat → List Byte) : (ledgerOnce s h src ev mk).store.trcB = s.store.trcB := by
  unfold ledgerOnce; (try dsimp only); (try unfold  modDec); repeat' (first | (simp; done) | split | (split <;> simp))
@[simp] theorem ledgerOnce_st_keysA (s : State) (h : HalfId) (src ev : Nat) (mk : Nat → List Byte) : (ledgerOnce s h src ev mk).store.keysA = s.store.keysA := by
  unfold ledgerOnce; (try dsimp only); (try unfold  modDec); repeat' (first | (simp; done) | split | (split <;> simp))
@[simp] theorem ledgerOnce_st_keysB (s : State) (h : HalfId) (src ev : Nat) (mk : Nat → List Byte) : (ledgerOnce s h src ev mk).store.keysB = s.store.keysB := by
  unfold ledgerOnce; (try dsimp only); (try unfold  modDec); repeat' (first | (simp; done) | split | (split <;> simp))
@[simp] theorem ledgerOnce_st_cfgA (s : State) (h : HalfId) (src ev : Nat) (mk : Nat → List Byte) : (ledgerOnce s h src ev mk).store.cfgA = s.store.cfgA := by
  unfold ledgerOnce; (try dsimp only); (try unfold  modDec); repeat' (first | (simp; done) | split | (split <;> simp))
@[simp] theorem ledgerOnce_st_cfgB (s : State) (h : HalfId) (src ev : Nat) (mk : Nat → List Byte) : (ledgerOnce s h src ev mk).store.cfgB = s.store.cfgB := by
  unfold ledgerOnce; (try dsimp only); (try unfold  modDec); repeat' (first | (simp; done) | split | (split <;> simp))
@[simp] theorem ledgerOnce_st_tombstone (s : State) (h : HalfId) (src ev : Nat) (mk : Nat → List Byte) : (ledgerOnce s h src ev mk).store.tombstone = s.store.tombstone := by
  unfold ledgerOnce; (try dsimp only); (try unfold  modDec); repeat' (first | (simp; done) | split | (split <;> simp))
@[simp] theorem ledgerOnce_st_clearing (s : State) (h : HalfId) (src ev : Nat) (mk : Nat → List Byte) : (ledgerOnce s h src ev mk).store.clearing = s.store.clearing := by
  unfold ledgerOnce; (try dsimp only); (try unfold  modDec); repeat' (first | (simp; done) | split | (split <;> simp))
@[simp] theorem ledgerOnce_st_optimeCommitted (s : State) (h : HalfId) (src ev : Nat) (mk : Nat → List Byte) : (ledgerOnce s h src ev mk).store.optimeCommitted = s.store.optimeCommitted := by
  unfold ledgerOnce; (try dsimp only); (try unfold  modDec); repeat' (first | (simp; done) | split | (split <;> simp))
@[simp] theorem ledgerOnce_st_pcycle (s : State) (h : HalfId) (src ev : Nat) (mk : Nat → List Byte) : (ledgerOnce s h src ev mk).store.pcycle = s.store.pcycle := by
  unfold ledgerOnce; (try dsimp only); (try unfold  modDec); repeat' (first | (simp; done) | split | (split <;> simp))
@[simp] theorem ledgerOnce_st_eraA (s : State) (h : HalfId) (src ev : Nat) (mk : Nat → List Byte) : (ledgerOnce s h src ev mk).store.eraA = s.store.eraA := by
  unfold ledgerOnce; (try dsimp only); (try unfold  modDec); repeat' (first | (simp; done) | split | (split <;> simp))
@[simp] theorem ledgerOnce_st_eraB (s : State) (h : HalfId) (src ev : Nat) (mk : Nat → List Byte) : (ledgerOnce s h src ev mk).store.eraB = s.store.eraB := by
  unfold ledgerOnce; (try dsimp only); (try unfold  modDec); repeat' (first | (simp; done) | split | (split <;> simp))
@[simp] theorem ledgerOnce_po_openSlot (s : State) (h : HalfId) (src ev : Nat) (mk : Nat → List Byte) (g : HalfId) : (half (ledgerOnce s h src ev mk) g).port.openSlot = (half s g).port.openSlot := by
  unfold ledgerOnce; (try dsimp only); (try unfold  modDec); repeat' (first | (simp; done) | (simp [half_setHalf]; split <;> simp_all; done) | split)
@[simp] theorem ledgerOnce_po_commits (s : State) (h : HalfId) (src ev : Nat) (mk : Nat → List Byte) (g : HalfId) : (half (ledgerOnce s h src ev mk) g).port.commits = (half s g).port.commits := by
  unfold ledgerOnce; (try dsimp only); (try unfold  modDec); repeat' (first | (simp; done) | (simp [half_setHalf]; split <;> simp_all; done) | split)
@[simp] theorem ledgerOnce_po_rdata (s : State) (h : HalfId) (src ev : Nat) (mk : Nat → List Byte) (g : HalfId) : (half (ledgerOnce s h src ev mk) g).port.rdata = (half s g).port.rdata := by
  unfold ledgerOnce; (try dsimp only); (try unfold  modDec); repeat' (first | (simp; done) | (simp [half_setHalf]; split <;> simp_all; done) | split)
@[simp] theorem ledgerOnce_po_optimeHi (s : State) (h : HalfId) (src ev : Nat) (mk : Nat → List Byte) (g : HalfId) : (half (ledgerOnce s h src ev mk) g).port.optimeHi = (half s g).port.optimeHi := by
  unfold ledgerOnce; (try dsimp only); (try unfold  modDec); repeat' (first | (simp; done) | (simp [half_setHalf]; split <;> simp_all; done) | split)
@[simp] theorem tallyOverall_st_slot0 (s : State) (h : HalfId) : (tallyOverall s h).store.slot0 = s.store.slot0 := by
  unfold tallyOverall; (try dsimp only); (try unfold  irq); repeat' (first | (simp; done) | split | (split <;> simp))
@[simp] theorem tallyOverall_st_slot1 (s : State) (h : HalfId) : (tallyOverall s h).store.slot1 = s.store.slot1 := by
  unfold tallyOverall; (try dsimp only); (try unfold  irq); repeat' (first | (simp; done) | split | (split <;> simp))
@[simp] theorem tallyOverall_st_slot2 (s : State) (h : HalfId) : (tallyOverall s h).store.slot2 = s.store.slot2 := by
  unfold tallyOverall; (try dsimp only); (try unfold  irq); repeat' (first | (simp; done) | split | (split <;> simp))
@[simp] theorem tallyOverall_st_setUnits (s : State) (h : HalfId) : (tallyOverall s h).store.setUnits = s.store.setUnits := by
  unfold tallyOverall; (try dsimp only); (try unfold  irq); repeat' (first | (simp; done) | split | (split <;> simp))
@[simp] theorem tallyOverall_st_recordLog (s : State) (h : HalfId) : (tallyOverall s h).store.recordLog = s.store.recordLog := by
  unfold tallyOverall; (try dsimp only); (try unfold  irq); repeat' (first | (simp; done) | split | (split <;> simp))
@[simp] theorem tallyOverall_st_logSeq (s : State) (h : HalfId) : (tallyOverall s h).store.logSeq = s.store.logSeq := by
  unfold tallyOverall; (try dsimp only); (try unfold  irq); repeat' (first | (simp; done) | split | (split <;> simp))
@[simp] theorem tallyOverall_st_setSeq (s : State) (h : HalfId) : (tallyOverall s h).store.setSeq = s.store.setSeq := by
  unfold tallyOverall; (try dsimp only); (try unfold  irq); repeat' (first | (simp; done) | split | (split <;> simp))
@[simp] theorem tallyOverall_st_retA (s : State) (h : HalfId) : (tallyOverall s h).store.retA = s.store.retA := by
  unfold tallyOverall; (try dsimp only); (try unfold  irq); repeat' (first | (simp; done) | split | (split <;> simp))
@[simp] theorem tallyOverall_st_retB (s : State) (h : HalfId) : (tallyOverall s h).store.retB = s.store.retB := by
  unfold tallyOverall; (try dsimp only); (try unfold  irq); repeat' (first | (simp; done) | split | (split <;> simp))
@[simp] theorem tallyOverall_st_recA (s : State) (h : HalfId) : (tallyOverall s h).store.recA = s.store.recA := by
  unfold tallyOverall; (try dsimp only); (try unfold  irq); repeat' (first | (simp; done) | split | (split <;> simp))
@[simp] theorem tallyOverall_st_recB (s : State) (h : HalfId) : (tallyOverall s h).store.recB = s.store.recB := by
  unfold tallyOverall; (try dsimp only); (try unfold  irq); repeat' (first | (simp; done) | split | (split <;> simp))
@[simp] theorem tallyOverall_st_trcA (s : State) (h : HalfId) : (tallyOverall s h).store.trcA = s.store.trcA := by
  unfold tallyOverall; (try dsimp only); (try unfold  irq); repeat' (first | (simp; done) | split | (split <;> simp))
@[simp] theorem tallyOverall_st_trcB (s : State) (h : HalfId) : (tallyOverall s h).store.trcB = s.store.trcB := by
  unfold tallyOverall; (try dsimp only); (try unfold  irq); repeat' (first | (simp; done) | split | (split <;> simp))
@[simp] theorem tallyOverall_st_keysA (s : State) (h : HalfId) : (tallyOverall s h).store.keysA = s.store.keysA := by
  unfold tallyOverall; (try dsimp only); (try unfold  irq); repeat' (first | (simp; done) | split | (split <;> simp))
@[simp] theorem tallyOverall_st_keysB (s : State) (h : HalfId) : (tallyOverall s h).store.keysB = s.store.keysB := by
  unfold tallyOverall; (try dsimp only); (try unfold  irq); repeat' (first | (simp; done) | split | (split <;> simp))
@[simp] theorem tallyOverall_st_cfgA (s : State) (h : HalfId) : (tallyOverall s h).store.cfgA = s.store.cfgA := by
  unfold tallyOverall; (try dsimp only); (try unfold  irq); repeat' (first | (simp; done) | split | (split <;> simp))
@[simp] theorem tallyOverall_st_cfgB (s : State) (h : HalfId) : (tallyOverall s h).store.cfgB = s.store.cfgB := by
  unfold tallyOverall; (try dsimp only); (try unfold  irq); repeat' (first | (simp; done) | split | (split <;> simp))
@[simp] theorem tallyOverall_st_tombstone (s : State) (h : HalfId) : (tallyOverall s h).store.tombstone = s.store.tombstone := by
  unfold tallyOverall; (try dsimp only); (try unfold  irq); repeat' (first | (simp; done) | split | (split <;> simp))
@[simp] theorem tallyOverall_st_clearing (s : State) (h : HalfId) : (tallyOverall s h).store.clearing = s.store.clearing := by
  unfold tallyOverall; (try dsimp only); (try unfold  irq); repeat' (first | (simp; done) | split | (split <;> simp))
@[simp] theorem tallyOverall_st_optimeCommitted (s : State) (h : HalfId) : (tallyOverall s h).store.optimeCommitted = s.store.optimeCommitted := by
  unfold tallyOverall; (try dsimp only); (try unfold  irq); repeat' (first | (simp; done) | split | (split <;> simp))
@[simp] theorem tallyOverall_st_pcycle (s : State) (h : HalfId) : (tallyOverall s h).store.pcycle = s.store.pcycle := by
  unfold tallyOverall; (try dsimp only); (try unfold  irq); repeat' (first | (simp; done) | split | (split <;> simp))
@[simp] theorem tallyOverall_st_eraA (s : State) (h : HalfId) : (tallyOverall s h).store.eraA = s.store.eraA := by
  unfold tallyOverall; (try dsimp only); (try unfold  irq); repeat' (first | (simp; done) | split | (split <;> simp))
@[simp] theorem tallyOverall_st_eraB (s : State) (h : HalfId) : (tallyOverall s h).store.eraB = s.store.eraB := by
  unfold tallyOverall; (try dsimp only); (try unfold  irq); repeat' (first | (simp; done) | split | (split <;> simp))
@[simp] theorem tallyOverall_po_openSlot (s : State) (h : HalfId) (g : HalfId) : (half (tallyOverall s h) g).port.openSlot = (half s g).port.openSlot := by
  unfold tallyOverall; (try dsimp only); (try unfold  irq); repeat' (first | (simp; done) | (simp [half_setHalf]; split <;> simp_all; done) | split)
@[simp] theorem tallyOverall_po_commits (s : State) (h : HalfId) (g : HalfId) : (half (tallyOverall s h) g).port.commits = (half s g).port.commits := by
  unfold tallyOverall; (try dsimp only); (try unfold  irq); repeat' (first | (simp; done) | (simp [half_setHalf]; split <;> simp_all; done) | split)
@[simp] theorem tallyOverall_po_rdata (s : State) (h : HalfId) (g : HalfId) : (half (tallyOverall s h) g).port.rdata = (half s g).port.rdata := by
  unfold tallyOverall; (try dsimp only); (try unfold  irq); repeat' (first | (simp; done) | (simp [half_setHalf]; split <;> simp_all; done) | split)
@[simp] theorem tallyOverall_po_optimeHi (s : State) (h : HalfId) (g : HalfId) : (half (tallyOverall s h) g).port.optimeHi = (half s g).port.optimeHi := by
  unfold tallyOverall; (try dsimp only); (try unfold  irq); repeat' (first | (simp; done) | (simp [half_setHalf]; split <;> simp_all; done) | split)

end Sys2Proof.Machine
end

