-- ==== Sys2Proof/Laws/RegAt.lean ====
section
/-!
SUPPORT. Which register stands at each address of the map.
-/

namespace Sys2Proof.Machine

open Sys2Proof (HalfId Instr Byte Word Accessor)

theorem fr_10 : findReg 0x10 = some ⟨"SYS_PACE", 0x10, 0, 1, .both, .h, [⟨31, 31, .ro, 0⟩, ⟨30, 28, .ro, 0⟩, ⟨27, 20, .ro, 0⟩, ⟨15, 0, .ro, 0⟩]⟩ := by rfl
theorem fr_14 : findReg 0x14 = some ⟨"SYS_PACE_CERT", 0x14, 0, 1, .both, .h, [⟨15, 0, .ro, 0⟩]⟩ := by rfl
theorem fr_18 : findReg 0x18 = some ⟨"SYS_PACE_LOWEST", 0x18, 0, 1, .both, .h, [⟨15, 0, .rc, 0xFFFF⟩]⟩ := by rfl
theorem fr_20 : findReg 0x20 = some ⟨"SYS_MODE", 0x20, 0, 1, .both, .h, [⟨18, 18, .ro, 0⟩, ⟨17, 17, .ro, 1⟩, ⟨16, 16, .ro, 0⟩, ⟨14, 13, .ro, 0⟩, ⟨11, 8, .ro, 0⟩, ⟨7, 7, .ro, 0⟩, ⟨6, 4, .ro, 0⟩, ⟨2, 0, .ro, 0⟩]⟩ := by rfl
theorem fr_24 : findReg 0x24 = some ⟨"SYS_MODE_CMD", 0x24, 0, 1, .priv, .h, [⟨17, 16, .wo, 0⟩, ⟨15, 8, .wo, 0⟩, ⟨7, 0, .wo, 0⟩]⟩ := by rfl
theorem fr_28 : findReg 0x28 = some ⟨"SYS_MODE_RESULT", 0x28, 0, 1, .both, .h, [⟨31, 24, .ro, 0⟩, ⟨15, 8, .ro, 0⟩, ⟨7, 0, .ro, 0⟩]⟩ := by rfl
theorem fr_2c : findReg 0x2C = some ⟨"SYS_LOCKOUT", 0x2C, 0, 1, .both, .m, [⟨31, 31, .ro, 0⟩, ⟨11, 8, .ro, 0⟩, ⟨3, 0, .ro, 0⟩]⟩ := by rfl
theorem fr_30 : findReg 0x30 = some ⟨"SYS_BLOCK_FTO", 0x30, 0, 1, .both, .h, [⟨15, 0, .ro, 0xFFFF⟩]⟩ := by rfl
theorem fr_34 : findReg 0x34 = some ⟨"SYS_BLOCK_DO", 0x34, 0, 1, .both, .h, [⟨31, 0, .ro, 0⟩]⟩ := by rfl
theorem fr_38 : findReg 0x38 = some ⟨"SYS_TEST_MASK_FTO", 0x38, 0, 1, .priv, .h, [⟨15, 0, .rw, 0⟩]⟩ := by rfl
theorem fr_3c : findReg 0x3C = some ⟨"SYS_TEST_MASK_DO", 0x3C, 0, 1, .priv, .h, [⟨31, 0, .rw, 0⟩]⟩ := by rfl
theorem fr_40 : findReg 0x40 = some ⟨"SYS_TEST_TIME", 0x40, 0, 1, .readBoth, .h, [⟨31, 16, .ro, 0⟩, ⟨15, 0, .rw, 0x1E⟩]⟩ := by rfl
theorem fr_44 : findReg 0x44 = some ⟨"SYS_BOOT", 0x44, 0, 1, .both, .h, [⟨31, 16, .ro, 0⟩, ⟨5, 5, .ro, 0⟩, ⟨4, 3, .ro, 0⟩, ⟨2, 2, .ro, 0⟩, ⟨1, 0, .ro, 0⟩]⟩ := by rfl
theorem fr_50 : findReg 0x50 = some ⟨"IMG_STAT", 0x50, 0, 1, .both, .h, [⟨31, 24, .ro, 0⟩, ⟨23, 22, .ro, 0⟩, ⟨21, 21, .ro, 0⟩, ⟨17, 16, .ro, 0⟩, ⟨7, 0, .ro, 0⟩]⟩ := by rfl
theorem fr_54 : findReg 0x54 = some ⟨"IMG_CMD", 0x54, 0, 1, .priv, .h, [⟨9, 8, .wo, 0⟩, ⟨7, 0, .wo, 0⟩]⟩ := by rfl
theorem fr_58 : findReg 0x58 = some ⟨"IMG_ERR", 0x58, 0, 1, .both, .h, [⟨31, 24, .ro, 0⟩, ⟨23, 16, .ro, 0⟩, ⟨15, 8, .ro, 0⟩, ⟨7, 0, .ro, 0⟩]⟩ := by rfl
theorem fr_5c : findReg 0x5C = some ⟨"IMG_SERIAL", 0x5C, 0, 1, .both, .h, [⟨31, 0, .ro, 0⟩]⟩ := by rfl
theorem fr_60 : findReg 0x60 = some ⟨"IMG_HASH", 0x60, 4, 12, .both, .h, [⟨31, 0, .ro, 0⟩]⟩ := by rfl
theorem fr_90 : findReg 0x90 = some ⟨"SET_ACTIVE", 0x90, 0, 1, .both, .h, [⟨31, 20, .ro, 0⟩, ⟨19, 19, .w1c, 0⟩, ⟨16, 16, .ro, 0⟩, ⟨15, 8, .ro, 0⟩, ⟨6, 4, .ro, 0⟩, ⟨2, 0, .ro, 0⟩]⟩ := by rfl
theorem fr_94 : findReg 0x94 = some ⟨"SET_CMD", 0x94, 0, 1, .priv, .h, [⟨10, 8, .wo, 0⟩, ⟨7, 0, .wo, 0⟩]⟩ := by rfl
theorem fr_98 : findReg 0x98 = some ⟨"SET_RESULT", 0x98, 0, 1, .both, .h, [⟨31, 24, .ro, 0⟩, ⟨23, 16, .ro, 0⟩, ⟨15, 8, .ro, 0⟩, ⟨7, 0, .ro, 0⟩]⟩ := by rfl
theorem fr_9c : findReg 0x9C = some ⟨"SET_CRC", 0x9C, 0, 1, .both, .h, [⟨31, 0, .ro, 0⟩]⟩ := by rfl
theorem fr_10040 : findReg 0x10040 = some ⟨"PWR_PF_CFG", 0x40, 0, 1, .priv, .m, [⟨15, 0, .rw, 0x53⟩]⟩ := by rfl
theorem fr_10044 : findReg 0x10044 = some ⟨"PWR_PF_STAT", 0x44, 0, 1, .both, .m, [⟨31, 31, .ro, 0⟩, ⟨30, 29, .ro, 0⟩, ⟨28, 28, .w1c, 0⟩, ⟨3, 0, .ro, 0⟩]⟩ := by rfl
theorem fr_10048 : findReg 0x10048 = some ⟨"PWR_VOLT", 0x48, 0, 1, .both, .m, [⟨31, 16, .ro, 0⟩, ⟨15, 0, .ro, 0⟩]⟩ := by rfl
theorem fr_20010 : findReg 0x20010 = some ⟨"GAV_STAT", 0x10, 0, 1, .both, .h, [⟨31, 31, .ro, 0⟩, ⟨30, 30, .ro, 0⟩, ⟨29, 29, .ro, 0⟩, ⟨28, 28, .ro, 0⟩, ⟨27, 27, .ro, 0⟩, ⟨23, 22, .ro, 0⟩, ⟨21, 21, .ro, 0⟩, ⟨20, 20, .ro, 0⟩, ⟨5, 5, .ro, 0⟩, ⟨4, 4, .ro, 0⟩, ⟨1, 0, .ro, 0⟩]⟩ := by rfl
theorem fr_20014 : findReg 0x20014 = some ⟨"GAV_CTRL", 0x14, 0, 1, .priv, .h, [⟨0, 0, .rw, 1⟩]⟩ := by rfl
theorem fr_20018 : findReg 0x20018 = some ⟨"GAV_CMD", 0x18, 0, 1, .priv, .h, [⟨7, 0, .wo, 0⟩]⟩ := by rfl
theorem fr_2001c : findReg 0x2001C = some ⟨"GAV_RESULT", 0x1C, 0, 1, .both, .h, [⟨31, 24, .ro, 0⟩, ⟨15, 8, .ro, 0⟩, ⟨7, 0, .ro, 0⟩]⟩ := by rfl
theorem fr_20020 : findReg 0x20020 = some ⟨"GAV_COUNT", 0x20, 0, 1, .both, .h, [⟨31, 16, .ro, 0⟩, ⟨15, 8, .rc, 0⟩, ⟨7, 0, .ro, 0⟩]⟩ := by rfl
theorem fr_20024 : findReg 0x20024 = some ⟨"GAV_RETURN", 0x24, 0, 1, .both, .h, [⟨31, 16, .ro, 0⟩, ⟨15, 15, .ro, 0⟩, ⟨1, 0, .ro, 0⟩]⟩ := by rfl
theorem fr_20028 : findReg 0x20028 = some ⟨"GAV_LAST", 0x28, 0, 1, .both, .h, [⟨31, 16, .ro, 0⟩, ⟨7, 0, .ro, 0⟩]⟩ := by rfl
theorem fr_20030 : findReg 0x20030 = some ⟨"GAV_LS_STAT", 0x30, 0, 1, .both, .h, [⟨31, 30, .ro, 0⟩, ⟨29, 29, .ro, 0⟩, ⟨17, 16, .ro, 0⟩, ⟨15, 0, .ro, 0⟩]⟩ := by rfl
theorem fr_20034 : findReg 0x20034 = some ⟨"GAV_LS_CNT", 0x34, 0, 1, .both, .h, [⟨31, 16, .rc, 0⟩, ⟨15, 0, .rc, 0⟩]⟩ := by rfl
theorem fr_20040 : findReg 0x20040 = some ⟨"GAV_XL_STAT", 0x40, 0, 1, .both, .h, [⟨31, 31, .ro, 0⟩, ⟨23, 16, .rc, 0⟩, ⟨15, 8, .rc, 0⟩, ⟨7, 0, .rc, 0⟩]⟩ := by rfl
theorem fr_30010 : findReg 0x30010 = some ⟨"TIME_NS", 0x10, 0, 1, .both, .m, [⟨31, 0, .ro, 0⟩]⟩ := by rfl
theorem fr_30014 : findReg 0x30014 = some ⟨"TIME_SEC_LO", 0x14, 0, 1, .both, .m, [⟨31, 0, .ro, 0⟩]⟩ := by rfl
theorem fr_30018 : findReg 0x30018 = some ⟨"TIME_SEC_HI", 0x18, 0, 1, .both, .m, [⟨15, 0, .ro, 0⟩]⟩ := by rfl
theorem fr_3001c : findReg 0x3001C = some ⟨"TIME_STAT", 0x1C, 0, 1, .both, .m, [⟨31, 31, .ro, 0⟩, ⟨30, 29, .ro, 0⟩, ⟨28, 28, .ro, 0⟩, ⟨27, 27, .ro, 0⟩, ⟨26, 26, .ro, 0⟩, ⟨25, 25, .ro, 0⟩, ⟨24, 24, .ro, 0⟩]⟩ := by rfl
theorem fr_30020 : findReg 0x30020 = some ⟨"TIME_CFG", 0x20, 0, 1, .priv, .m, [⟨31, 24, .rw, 5⟩, ⟨23, 16, .rw, 0⟩, ⟨9, 9, .rw, 0⟩, ⟨8, 8, .rw, 1⟩, ⟨5, 5, .rw, 0⟩, ⟨4, 4, .rw, 1⟩, ⟨2, 0, .rw, 0⟩]⟩ := by rfl
theorem fr_30024 : findReg 0x30024 = some ⟨"TIME_CTRL", 0x24, 0, 1, .priv, .m, [⟨7, 0, .wo, 0⟩]⟩ := by rfl
theorem fr_30028 : findReg 0x30028 = some ⟨"TIME_RESULT", 0x28, 0, 1, .both, .m, [⟨31, 24, .ro, 0⟩, ⟨15, 8, .ro, 0⟩, ⟨7, 0, .ro, 0⟩]⟩ := by rfl
theorem fr_3002c : findReg 0x3002C = some ⟨"TIME_SET_NS", 0x2C, 0, 1, .priv, .m, [⟨31, 0, .rw, 0⟩]⟩ := by rfl
theorem fr_30030 : findReg 0x30030 = some ⟨"TIME_SET_SEC_LO", 0x30, 0, 1, .priv, .m, [⟨31, 0, .rw, 0⟩]⟩ := by rfl
theorem fr_30034 : findReg 0x30034 = some ⟨"TIME_SET_SEC_HI", 0x34, 0, 1, .priv, .m, [⟨15, 0, .rw, 0⟩]⟩ := by rfl
theorem fr_30038 : findReg 0x30038 = some ⟨"TIME_STEP", 0x38, 0, 1, .priv, .m, [⟨31, 0, .rw, 0⟩]⟩ := by rfl
theorem fr_3003c : findReg 0x3003C = some ⟨"TIME_SLEW", 0x3C, 0, 1, .priv, .m, [⟨31, 0, .rw, 0⟩]⟩ := by rfl
theorem fr_30040 : findReg 0x30040 = some ⟨"TIME_OFFSET", 0x40, 0, 1, .readBoth, .m, [⟨31, 0, .ro, 0⟩]⟩ := by rfl
theorem fr_30044 : findReg 0x30044 = some ⟨"TIME_RATE", 0x44, 0, 1, .readBoth, .m, [⟨31, 0, .ro, 0⟩]⟩ := by rfl
theorem fr_30048 : findReg 0x30048 = some ⟨"TIME_GRID", 0x48, 0, 1, .readBoth, .m, [⟨31, 0, .ro, 0⟩]⟩ := by rfl
theorem fr_3004c : findReg 0x3004C = some ⟨"TIME_UTC", 0x4C, 0, 1, .readBoth, .m, [⟨31, 31, .rw, 0⟩, ⟨15, 0, .rw, 0⟩]⟩ := by rfl
theorem fr_30050 : findReg 0x30050 = some ⟨"TIME_PHY", 0x50, 0, 1, .readBoth, .m, [⟨31, 16, .rw, 0⟩, ⟨15, 0, .rw, 0⟩]⟩ := by rfl
theorem fr_30054 : findReg 0x30054 = some ⟨"TIME_PPS", 0x54, 0, 1, .readBoth, .m, [⟨31, 16, .rw, 0x64⟩, ⟨1, 0, .rw, 0⟩]⟩ := by rfl
theorem fr_30058 : findReg 0x30058 = some ⟨"TIME_PPSCAP_NS", 0x58, 0, 1, .readBoth, .m, [⟨31, 0, .ro, 0⟩]⟩ := by rfl
theorem fr_3005c : findReg 0x3005C = some ⟨"TIME_PPSCAP_SEC", 0x5C, 0, 1, .readBoth, .m, [⟨31, 0, .ro, 0⟩]⟩ := by rfl
theorem fr_30080 : findReg 0x30080 = some ⟨"TIME_SCH_SEL", 0x80, 0, 1, .priv, .h, [⟨3, 0, .rw, 0⟩]⟩ := by rfl
theorem fr_30084 : findReg 0x30084 = some ⟨"TIME_SCH_NS", 0x84, 0, 1, .priv, .h, [⟨31, 0, .rw, 0⟩]⟩ := by rfl
theorem fr_30088 : findReg 0x30088 = some ⟨"TIME_SCH_SEC_LO", 0x88, 0, 1, .priv, .h, [⟨31, 0, .rw, 0⟩]⟩ := by rfl
theorem fr_3008c : findReg 0x3008C = some ⟨"TIME_SCH_SEC_HI", 0x8C, 0, 1, .priv, .h, [⟨15, 0, .rw, 0⟩]⟩ := by rfl
theorem fr_30090 : findReg 0x30090 = some ⟨"TIME_SCH_CFG", 0x90, 0, 1, .priv, .h, [⟨31, 31, .rw, 0⟩, ⟨29, 28, .rw, 0⟩, ⟨27, 24, .rw, 0⟩, ⟨23, 0, .rw, 0⟩]⟩ := by rfl
theorem fr_30094 : findReg 0x30094 = some ⟨"TIME_SCH_STAT", 0x94, 0, 1, .both, .h, [⟨31, 30, .ro, 0⟩, ⟨29, 29, .ro, 0⟩, ⟨28, 28, .w1c, 0⟩, ⟨7, 0, .ro, 0⟩]⟩ := by rfl
theorem fr_30098 : findReg 0x30098 = some ⟨"TIME_SCH_LATE", 0x98, 0, 1, .both, .h, [⟨31, 0, .ro, 0⟩]⟩ := by rfl
theorem fr_40010 : findReg 0x40010 = some ⟨"SMP_CLK_STAT", 0x10, 0, 1, .both, .h, [⟨3, 3, .w1c, 0⟩, ⟨2, 2, .w1c, 0⟩, ⟨1, 1, .ro, 0⟩, ⟨0, 0, .ro, 0⟩]⟩ := by rfl
theorem fr_40020 : findReg 0x40020 = some ⟨"SMP_TRK_CFG", 0x20, 0, 1, .priv, .h, [⟨23, 16, .rw, 0xA⟩, ⟨15, 8, .rw, 0xFF⟩, ⟨7, 0, .rw, 0⟩]⟩ := by rfl
theorem fr_40024 : findReg 0x40024 = some ⟨"SMP_TRK_STAT", 0x24, 0, 1, .both, .h, [⟨31, 16, .rc, 0⟩, ⟨4, 4, .w1c, 0⟩, ⟨3, 2, .ro, 0⟩, ⟨1, 0, .ro, 2⟩]⟩ := by rfl
theorem fr_40028 : findReg 0x40028 = some ⟨"SMP_TRK_FREQ", 0x28, 0, 1, .both, .h, [⟨31, 16, .ro, 0⟩, ⟨15, 0, .ro, 0⟩]⟩ := by rfl
theorem fr_40030 : findReg 0x40030 = some ⟨"SMP_SYNC_CFG", 0x30, 0, 1, .priv, .h, [⟨31, 31, .rw, 0⟩, ⟨23, 16, .rw, 2⟩, ⟨8, 0, .rw, 1⟩]⟩ := by rfl
theorem fr_40034 : findReg 0x40034 = some ⟨"SMP_SYNC_MAX", 0x34, 0, 1, .priv, .h, [⟨15, 0, .rw, 0x7530⟩]⟩ := by rfl
theorem fr_40038 : findReg 0x40038 = some ⟨"SMP_SYNC_STAT", 0x38, 0, 1, .both, .h, [⟨31, 16, .rc, 0⟩, ⟨2, 2, .w1c, 0⟩, ⟨1, 1, .ro, 0⟩, ⟨0, 0, .ro, 0⟩]⟩ := by rfl
theorem fr_40040 : findReg 0x40040 = some ⟨"SMP_CAL_CMD", 0x40, 0, 1, .priv, .h, [⟨7, 0, .wo, 0⟩]⟩ := by rfl
theorem fr_40044 : findReg 0x40044 = some ⟨"SMP_CAL_STAT", 0x44, 0, 1, .both, .h, [⟨31, 28, .ro, 0⟩, ⟨23, 0, .ro, 0⟩]⟩ := by rfl
theorem fr_40100 : findReg 0x40100 = some ⟨"SMP_AP_TRIM", 0x100, 4, 6, .both, .h, [⟨7, 0, .ro, 0⟩, ⟨15, 8, .ro, 0⟩, ⟨23, 16, .ro, 0⟩, ⟨31, 24, .ro, 0⟩]⟩ := by rfl
theorem fr_40200 : findReg 0x40200 = some ⟨"SMP_FD_TRIM", 0x200, 4, 40, .both, .h, [⟨15, 15, .ro, 0⟩, ⟨14, 8, .ro, 0⟩, ⟨7, 0, .ro, 0⟩]⟩ := by rfl
theorem fr_50014 : findReg 0x50014 = some ⟨"FCV_OVR_SUM", 0x14, 0, 1, .both, .h, [⟨23, 0, .w1c, 0⟩]⟩ := by rfl
theorem fr_50018 : findReg 0x50018 = some ⟨"FCV_FAULT_SUM", 0x18, 0, 1, .both, .h, [⟨23, 0, .ro, 0⟩]⟩ := by rfl
theorem fr_50100 : findReg 0x50100 = some ⟨"FCV_CFG", 0x100, 32, 24, .priv, .h, [⟨0, 0, .rw, 1⟩]⟩ := by rfl
theorem fr_50104 : findReg 0x50104 = some ⟨"FCV_OFF", 0x104, 32, 24, .priv, .h, [⟨15, 0, .rw, 0⟩]⟩ := by rfl
theorem fr_50108 : findReg 0x50108 = some ⟨"FCV_GAIN", 0x108, 32, 24, .priv, .h, [⟨15, 0, .rw, 0x4000⟩]⟩ := by rfl
theorem fr_5010c : findReg 0x5010C = some ⟨"FCV_SAMP", 0x10C, 32, 24, .both, .h, [⟨31, 16, .ro, 0⟩, ⟨15, 0, .ro, 0⟩]⟩ := by rfl
theorem fr_50110 : findReg 0x50110 = some ⟨"FCV_STAT", 0x110, 32, 24, .both, .h, [⟨31, 31, .ro, 0⟩, ⟨2, 2, .ro, 0⟩, ⟨1, 1, .w1c, 0⟩, ⟨0, 0, .ro, 0⟩]⟩ := by rfl
theorem fr_50114 : findReg 0x50114 = some ⟨"FCV_OVRCNT", 0x114, 32, 24, .both, .h, [⟨31, 0, .rc, 0⟩]⟩ := by rfl
theorem fr_50118 : findReg 0x50118 = some ⟨"FCV_FACT", 0x118, 32, 24, .both, .p, [⟨31, 16, .ro, 0x4000⟩, ⟨15, 0, .ro, 0⟩]⟩ := by rfl
theorem fr_60010 : findReg 0x60010 = some ⟨"PCV_REF", 0x10, 0, 1, .priv, .h, [⟨0, 0, .rw, 0⟩]⟩ := by rfl
theorem fr_60014 : findReg 0x60014 = some ⟨"PCV_REF_STAT", 0x14, 0, 1, .both, .h, [⟨31, 31, .ro, 0⟩, ⟨30, 30, .ro, 0⟩, ⟨15, 0, .ro, 0⟩]⟩ := by rfl
theorem fr_60018 : findReg 0x60018 = some ⟨"PCV_TEST_CFG", 0x18, 0, 1, .priv, .h, [⟨31, 16, .rw, 0x258⟩, ⟨15, 8, .rw, 0xA⟩, ⟨1, 1, .rw, 0⟩, ⟨0, 0, .rw, 1⟩]⟩ := by rfl
theorem fr_6001c : findReg 0x6001C = some ⟨"PCV_TEST_STAT", 0x1C, 0, 1, .both, .h, [⟨31, 31, .ro, 0⟩, ⟨30, 30, .ro, 0⟩, ⟨29, 29, .w1c, 0⟩, ⟨23, 16, .ro, 0⟩, ⟨15, 8, .rc, 0⟩, ⟨7, 0, .rc, 0⟩]⟩ := by rfl
theorem fr_60020 : findReg 0x60020 = some ⟨"PCV_PERMIT", 0x20, 0, 1, .priv, .h, [⟨23, 0, .rw, 0x400000⟩]⟩ := by rfl
theorem fr_60024 : findReg 0x60024 = some ⟨"PCV_FAILED_LO", 0x24, 0, 1, .both, .h, [⟨31, 0, .ro, 0⟩]⟩ := by rfl
theorem fr_60028 : findReg 0x60028 = some ⟨"PCV_FAILED_HI", 0x28, 0, 1, .both, .h, [⟨15, 0, .ro, 0⟩]⟩ := by rfl
theorem fr_60100 : findReg 0x60100 = some ⟨"PCV_CFG", 0x100, 32, 48, .priv, .h, [⟨1, 1, .rw, 1⟩, ⟨0, 0, .rw, 0⟩]⟩ := by rfl
theorem fr_60104 : findReg 0x60104 = some ⟨"PCV_OFF", 0x104, 32, 48, .priv, .h, [⟨23, 0, .rw, 0⟩]⟩ := by rfl
theorem fr_60108 : findReg 0x60108 = some ⟨"PCV_GAIN", 0x108, 32, 48, .priv, .h, [⟨23, 0, .rw, 0x400000⟩]⟩ := by rfl
theorem fr_6010c : findReg 0x6010C = some ⟨"PCV_SAMP", 0x10C, 32, 48, .both, .h, [⟨31, 8, .ro, 0⟩, ⟨7, 0, .ro, 0⟩]⟩ := by rfl
theorem fr_60110 : findReg 0x60110 = some ⟨"PCV_STAT", 0x110, 32, 48, .both, .h, [⟨31, 31, .ro, 0⟩, ⟨30, 30, .ro, 0⟩, ⟨1, 0, .ro, 0⟩]⟩ := by rfl
theorem fr_60114 : findReg 0x60114 = some ⟨"PCV_TEST", 0x114, 32, 48, .both, .h, [⟨31, 8, .ro, 0⟩, ⟨1, 0, .ro, 0⟩]⟩ := by rfl
theorem fr_60118 : findReg 0x60118 = some ⟨"PCV_FOFF", 0x118, 32, 48, .both, .p, [⟨23, 0, .ro, 0⟩]⟩ := by rfl
theorem fr_6011c : findReg 0x6011C = some ⟨"PCV_FGAIN", 0x11C, 32, 48, .both, .p, [⟨23, 0, .ro, 0x400000⟩]⟩ := by rfl
theorem fr_61000 : findReg 0x61000 = some ⟨"PCV_FLT_SUM", 0x1000, 0, 1, .both, .h, [⟨7, 0, .ro, 0⟩]⟩ := by rfl
theorem fr_61010 : findReg 0x61010 = some ⟨"PCV_FLT_SETTLING", 0x1010, 4, 5, .both, .h, [⟨31, 0, .ro, 0⟩]⟩ := by rfl
theorem fr_61024 : findReg 0x61024 = some ⟨"PCV_FLT_SAT", 0x1024, 4, 5, .both, .h, [⟨31, 0, .w1c, 0⟩]⟩ := by rfl
theorem fr_61040 : findReg 0x61040 = some ⟨"PCV_FLT_SEL", 0x1040, 0, 1, .priv, .h, [⟨7, 0, .rw, 0⟩]⟩ := by rfl
theorem fr_61044 : findReg 0x61044 = some ⟨"PCV_FLT_CFG", 0x1044, 0, 1, .priv, .h, [⟨31, 31, .ro, 0⟩, ⟨25, 24, .ro, 0⟩, ⟨23, 16, .ro, 0⟩, ⟨15, 8, .ro, 0⟩, ⟨7, 0, .ro, 0⟩]⟩ := by rfl
theorem fr_61048 : findReg 0x61048 = some ⟨"PCV_FLT_DET", 0x1048, 0, 1, .priv, .h, [⟨31, 0, .ro, 0⟩]⟩ := by rfl
theorem fr_6104c : findReg 0x6104C = some ⟨"PCV_FLT_OUT", 0x104C, 0, 1, .priv, .h, [⟨31, 8, .ro, 0⟩, ⟨7, 0, .ro, 0⟩]⟩ := by rfl
theorem fr_61050 : findReg 0x61050 = some ⟨"PCV_FLT_OUT2", 0x1050, 0, 1, .priv, .h, [⟨31, 8, .ro, 0⟩, ⟨7, 0, .ro, 0⟩]⟩ := by rfl
theorem fr_61054 : findReg 0x61054 = some ⟨"PCV_FLT_PEAK", 0x1054, 0, 1, .priv, .h, [⟨31, 8, .ro, 0⟩, ⟨7, 0, .ro, 0⟩]⟩ := by rfl
theorem fr_61058 : findReg 0x61058 = some ⟨"PCV_FLT_RMS", 0x1058, 0, 1, .priv, .h, [⟨31, 8, .ro, 0⟩, ⟨7, 0, .ro, 0⟩]⟩ := by rfl
theorem fr_6105c : findReg 0x6105C = some ⟨"PCV_FLT_ENV", 0x105C, 0, 1, .priv, .h, [⟨31, 8, .ro, 0⟩, ⟨7, 0, .ro, 0⟩]⟩ := by rfl
theorem fr_61060 : findReg 0x61060 = some ⟨"PCV_FLT_STAT", 0x1060, 0, 1, .priv, .h, [⟨31, 16, .ro, 0⟩, ⟨15, 15, .ro, 0⟩, ⟨7, 0, .rc, 0⟩]⟩ := by rfl
theorem fr_61064 : findReg 0x61064 = some ⟨"PCV_FLT_CMD", 0x1064, 0, 1, .priv, .h, [⟨23, 16, .wo, 0⟩, ⟨15, 8, .wo, 0⟩, ⟨7, 0, .wo, 0⟩]⟩ := by rfl
theorem fr_61068 : findReg 0x61068 = some ⟨"PCV_FLT_RESULT", 0x1068, 0, 1, .both, .h, [⟨31, 24, .ro, 0⟩, ⟨23, 16, .ro, 0⟩, ⟨12, 8, .ro, 0⟩, ⟨7, 0, .ro, 0⟩]⟩ := by rfl
theorem fr_61070 : findReg 0x61070 = some ⟨"PCV_INJ_SEL", 0x1070, 0, 1, .priv, .h, [⟨11, 8, .rw, 0⟩, ⟨7, 0, .rw, 0⟩]⟩ := by rfl
theorem fr_61074 : findReg 0x61074 = some ⟨"PCV_INJ_DATA", 0x1074, 0, 1, .priv, .h, [⟨31, 0, .rw, 0⟩]⟩ := by rfl
theorem fr_61078 : findReg 0x61078 = some ⟨"PCV_INJ_CMD", 0x1078, 0, 1, .priv, .h, [⟨11, 8, .wo, 0⟩, ⟨7, 0, .wo, 0⟩]⟩ := by rfl
theorem fr_6107c : findReg 0x6107C = some ⟨"PCV_INJ_STAT", 0x107C, 0, 1, .both, .h, [⟨31, 31, .ro, 0⟩, ⟨30, 30, .w1c, 0⟩, ⟨27, 24, .ro, 0⟩, ⟨23, 16, .ro, 0⟩, ⟨15, 8, .ro, 0⟩, ⟨7, 0, .ro, 0⟩]⟩ := by rfl
theorem fr_70020 : findReg 0x70020 = some ⟨"BSI_MCLK", 0x20, 4, 4, .priv, .h, [⟨2, 0, .rw, 4⟩]⟩ := by rfl
theorem fr_70030 : findReg 0x70030 = some ⟨"BSI_MCLK_STAT", 0x30, 0, 1, .both, .h, [⟨7, 7, .ro, 0⟩, ⟨5, 5, .ro, 0⟩, ⟨4, 4, .w1c, 0⟩]⟩ := by rfl
theorem fr_70100 : findReg 0x70100 = some ⟨"BSI_CFG", 0x100, 32, 32, .priv, .h, [⟨27, 16, .rw, 0⟩, ⟨2, 2, .rw, 0⟩, ⟨1, 0, .rw, 0⟩]⟩ := by rfl
theorem fr_70104 : findReg 0x70104 = some ⟨"BSI_OFF", 0x104, 32, 32, .priv, .h, [⟨23, 0, .rw, 0⟩]⟩ := by rfl
theorem fr_70108 : findReg 0x70108 = some ⟨"BSI_GAIN", 0x108, 32, 32, .priv, .h, [⟨23, 0, .rw, 0x400000⟩]⟩ := by rfl
theorem fr_7010c : findReg 0x7010C = some ⟨"BSI_SAMP", 0x10C, 32, 32, .both, .h, [⟨31, 8, .ro, 0⟩, ⟨7, 0, .ro, 0⟩]⟩ := by rfl
theorem fr_70110 : findReg 0x70110 = some ⟨"BSI_STAT", 0x110, 32, 32, .both, .h, [⟨31, 31, .ro, 0⟩, ⟨11, 8, .w1c, 0⟩, ⟨3, 3, .ro, 0⟩, ⟨2, 2, .ro, 0⟩, ⟨1, 1, .ro, 0⟩, ⟨0, 0, .ro, 0⟩]⟩ := by rfl
theorem fr_80010 : findReg 0x80010 = some ⟨"HKA_CTRL", 0x10, 0, 1, .priv, .h, [⟨31, 0, .rw, 0xFFFFFFFF⟩]⟩ := by rfl
theorem fr_80014 : findReg 0x80014 = some ⟨"HKA_DMASK", 0x14, 0, 1, .priv, .h, [⟨31, 0, .rw, 0⟩]⟩ := by rfl
theorem fr_80018 : findReg 0x80018 = some ⟨"HKA_TEST_EN", 0x18, 0, 1, .priv, .h, [⟨15, 0, .rw, 0xFFFF⟩]⟩ := by rfl
theorem fr_8001c : findReg 0x8001C = some ⟨"HKA_SCAN", 0x1C, 0, 1, .priv, .h, [⟨15, 0, .rw, 0x3E8⟩]⟩ := by rfl
theorem fr_80020 : findReg 0x80020 = some ⟨"HKA_DATA", 0x20, 0, 1, .both, .h, [⟨31, 16, .ro, 0⟩, ⟨15, 15, .rc, 0⟩, ⟨12, 8, .ro, 0⟩, ⟨7, 0, .ro, 0⟩]⟩ := by rfl
theorem fr_80024 : findReg 0x80024 = some ⟨"HKA_STAT", 0x24, 0, 1, .both, .h, [⟨2, 2, .w1c, 0⟩, ⟨1, 1, .ro, 0⟩, ⟨0, 0, .w1c, 0⟩]⟩ := by rfl
theorem fr_80028 : findReg 0x80028 = some ⟨"HKA_LOST", 0x28, 0, 1, .both, .h, [⟨31, 0, .rc, 0⟩]⟩ := by rfl
theorem fr_8002c : findReg 0x8002C = some ⟨"HKA_ALARM", 0x2C, 0, 1, .both, .h, [⟨31, 0, .w1c, 0⟩]⟩ := by rfl
theorem fr_80030 : findReg 0x80030 = some ⟨"HKA_CORR_SEL", 0x30, 0, 1, .priv, .h, [⟨4, 0, .rw, 0⟩]⟩ := by rfl
theorem fr_80034 : findReg 0x80034 = some ⟨"HKA_CORR_OFF", 0x34, 0, 1, .priv, .h, [⟨23, 0, .rw, 0⟩]⟩ := by rfl
theorem fr_80038 : findReg 0x80038 = some ⟨"HKA_CORR_GAIN", 0x38, 0, 1, .priv, .h, [⟨23, 0, .rw, 0x400000⟩]⟩ := by rfl
theorem fr_80100 : findReg 0x80100 = some ⟨"HKA_LIM", 0x100, 4, 32, .priv, .h, [⟨31, 16, .rw, 0x7FFF⟩, ⟨15, 0, .rw, 0x8000⟩]⟩ := by rfl
theorem fr_90010 : findReg 0x90010 = some ⟨"FAB_SUM", 0x10, 0, 1, .both, .h, [⟨31, 24, .ro, 0⟩, ⟨23, 16, .ro, 0⟩, ⟨15, 8, .ro, 0⟩, ⟨7, 0, .ro, 0⟩]⟩ := by rfl
theorem fr_90020 : findReg 0x90020 = some ⟨"FAB_OP", 0x20, 4, 6, .both, .h, [⟨31, 0, .ro, 0⟩]⟩ := by rfl
theorem fr_90040 : findReg 0x90040 = some ⟨"FAB_PU", 0x40, 4, 6, .both, .h, [⟨31, 0, .ro, 0⟩]⟩ := by rfl
theorem fr_90060 : findReg 0x90060 = some ⟨"FAB_INV", 0x60, 4, 6, .both, .h, [⟨31, 0, .ro, 0⟩]⟩ := by rfl
theorem fr_90080 : findReg 0x90080 = some ⟨"FAB_OPH", 0x80, 4, 6, .both, .h, [⟨31, 0, .w1c, 0⟩]⟩ := by rfl
theorem fr_900a0 : findReg 0x900A0 = some ⟨"FAB_ROT_CTRL", 0xA0, 0, 1, .priv, .h, [⟨0, 0, .rw, 1⟩]⟩ := by rfl
theorem fr_900a4 : findReg 0x900A4 = some ⟨"FAB_ROT_STAT", 0xA4, 0, 1, .both, .h, [⟨31, 31, .w1c, 0⟩, ⟨30, 30, .ro, 0⟩, ⟨29, 29, .ro, 0⟩, ⟨23, 16, .ro, 0⟩, ⟨7, 0, .ro, 0⟩]⟩ := by rfl
theorem fr_900a8 : findReg 0x900A8 = some ⟨"FAB_ROT_PASS", 0xA8, 0, 1, .both, .h, [⟨31, 16, .ro, 0⟩, ⟨15, 0, .ro, 0⟩]⟩ := by rfl
theorem fr_900ac : findReg 0x900AC = some ⟨"FAB_ROT_LAST", 0xAC, 0, 1, .both, .h, [⟨31, 16, .ro, 0⟩, ⟨15, 0, .ro, 0⟩]⟩ := by rfl
theorem fr_900b0 : findReg 0x900B0 = some ⟨"FAB_ROT_ERR", 0xB0, 0, 1, .both, .h, [⟨31, 16, .rc, 0⟩, ⟨15, 0, .rc, 0⟩]⟩ := by rfl
theorem fr_900c0 : findReg 0x900C0 = some ⟨"FAB_TFAIL", 0xC0, 4, 2, .both, .h, [⟨31, 0, .ro, 0⟩]⟩ := by rfl
theorem fr_900e0 : findReg 0x900E0 = some ⟨"FAB_FTFAIL", 0xE0, 4, 2, .both, .h, [⟨31, 0, .ro, 0⟩]⟩ := by rfl
theorem fr_90100 : findReg 0x90100 = some ⟨"FAB_FSEL", 0x100, 0, 1, .priv, .h, [⟨7, 0, .rw, 0⟩]⟩ := by rfl
theorem fr_90104 : findReg 0x90104 = some ⟨"FAB_FSTAT", 0x104, 0, 1, .priv, .h, [⟨31, 24, .ro, 0⟩, ⟨23, 23, .ro, 0⟩, ⟨22, 22, .ro, 0⟩, ⟨21, 21, .ro, 0⟩, ⟨15, 8, .ro, 0xFF⟩, ⟨5, 4, .ro, 0⟩, ⟨1, 1, .ro, 0⟩, ⟨0, 0, .ro, 0⟩]⟩ := by rfl
theorem fr_90108 : findReg 0x90108 = some ⟨"FAB_FSTART_NS", 0x108, 0, 1, .priv, .h, [⟨31, 0, .ro, 0⟩]⟩ := by rfl
theorem fr_9010c : findReg 0x9010C = some ⟨"FAB_FSTART_SEC", 0x10C, 0, 1, .priv, .h, [⟨31, 0, .ro, 0⟩]⟩ := by rfl
theorem fr_90110 : findReg 0x90110 = some ⟨"FAB_FQTY", 0x110, 0, 1, .priv, .h, [⟨31, 8, .ro, 0⟩, ⟨7, 0, .ro, 0⟩]⟩ := by rfl
theorem fr_90114 : findReg 0x90114 = some ⟨"FAB_FSTATE", 0x114, 0, 1, .priv, .h, [⟨31, 16, .ro, 0⟩]⟩ := by rfl
theorem fr_90118 : findReg 0x90118 = some ⟨"FAB_FCMP0", 0x118, 0, 1, .priv, .h, [⟨31, 0, .ro, 0⟩]⟩ := by rfl
theorem fr_9011c : findReg 0x9011C = some ⟨"FAB_FCMP1", 0x11C, 0, 1, .priv, .h, [⟨31, 0, .ro, 0⟩]⟩ := by rfl
theorem fr_90120 : findReg 0x90120 = some ⟨"FAB_TSEL", 0x120, 0, 1, .priv, .h, [⟨7, 0, .rw, 0⟩]⟩ := by rfl
theorem fr_90124 : findReg 0x90124 = some ⟨"FAB_TINFO", 0x124, 0, 1, .priv, .h, [⟨31, 30, .ro, 0⟩, ⟨29, 29, .ro, 0⟩, ⟨7, 0, .ro, 0xFF⟩]⟩ := by rfl
theorem fr_90130 : findReg 0x90130 = some ⟨"FAB_UC_SEL", 0x130, 0, 1, .priv, .h, [⟨26, 24, .rw, 0⟩, ⟨17, 16, .rw, 0⟩, ⟨5, 0, .rw, 0⟩]⟩ := by rfl
theorem fr_90134 : findReg 0x90134 = some ⟨"FAB_UC_DATA", 0x134, 0, 1, .priv, .h, [⟨31, 16, .rw, 0⟩, ⟨15, 12, .rw, 0⟩, ⟨11, 0, .rw, 0⟩]⟩ := by rfl
theorem fr_90140 : findReg 0x90140 = some ⟨"FAB_ALIGN", 0x140, 0, 1, .both, .h, [⟨31, 16, .rc, 0⟩, ⟨15, 0, .rc, 0⟩]⟩ := by rfl
theorem fr_a0010 : findReg 0xA0010 = some ⟨"FST_OP_LO", 0x10, 0, 1, .both, .h, [⟨31, 0, .ro, 0⟩]⟩ := by rfl
theorem fr_a0014 : findReg 0xA0014 = some ⟨"FST_OP_HI", 0x14, 0, 1, .both, .h, [⟨15, 0, .ro, 0⟩]⟩ := by rfl
theorem fr_a0018 : findReg 0xA0018 = some ⟨"FST_PU_LO", 0x18, 0, 1, .both, .h, [⟨31, 0, .ro, 0⟩]⟩ := by rfl
theorem fr_a001c : findReg 0xA001C = some ⟨"FST_PU_HI", 0x1C, 0, 1, .both, .h, [⟨15, 0, .ro, 0⟩]⟩ := by rfl
theorem fr_a0020 : findReg 0xA0020 = some ⟨"FST_MTX", 0x20, 0, 1, .both, .h, [⟨31, 16, .w1c, 0⟩, ⟨15, 0, .ro, 0⟩]⟩ := by rfl
theorem fr_a0024 : findReg 0xA0024 = some ⟨"FST_FTI", 0x24, 0, 1, .both, .h, [⟨31, 16, .ro, 0⟩, ⟨15, 0, .ro, 0⟩]⟩ := by rfl
theorem fr_a0028 : findReg 0xA0028 = some ⟨"FST_FTI_HIST", 0x28, 0, 1, .both, .h, [⟨31, 16, .w1c, 0⟩, ⟨15, 0, .w1c, 0⟩]⟩ := by rfl
theorem fr_a0030 : findReg 0xA0030 = some ⟨"FST_TPL_SEL", 0x30, 0, 1, .priv, .h, [⟨26, 24, .rw, 0⟩, ⟨21, 16, .rw, 0⟩, ⟨11, 8, .rw, 0⟩, ⟨4, 0, .rw, 0⟩]⟩ := by rfl
theorem fr_a0034 : findReg 0xA0034 = some ⟨"FST_TPL_DATA", 0x34, 0, 1, .priv, .h, [⟨15, 0, .rw, 0⟩]⟩ := by rfl
theorem fr_a0100 : findReg 0xA0100 = some ⟨"FST_FSTAT", 0x100, 16, 48, .both, .h, [⟨31, 24, .ro, 0⟩, ⟨23, 23, .ro, 0⟩, ⟨22, 22, .ro, 0⟩, ⟨21, 20, .ro, 0⟩, ⟨19, 18, .ro, 0⟩, ⟨17, 17, .w1c, 0⟩, ⟨15, 12, .ro, 0⟩, ⟨11, 8, .ro, 0⟩, ⟨7, 6, .ro, 0⟩, ⟨1, 1, .ro, 0⟩, ⟨0, 0, .ro, 0⟩]⟩ := by rfl
theorem fr_a0104 : findReg 0xA0104 = some ⟨"FST_FSTART_NS", 0x104, 16, 48, .both, .h, [⟨31, 0, .ro, 0⟩]⟩ := by rfl
theorem fr_a0108 : findReg 0xA0108 = some ⟨"FST_FSTART_SEC", 0x108, 16, 48, .both, .h, [⟨31, 0, .ro, 0⟩]⟩ := by rfl
theorem fr_a010c : findReg 0xA010C = some ⟨"FST_FSIG", 0x10C, 16, 48, .both, .h, [⟨31, 16, .ro, 0⟩, ⟨15, 0, .ro, 0⟩]⟩ := by rfl
theorem fr_a0400 : findReg 0xA0400 = some ⟨"FST_TMAP", 0x400, 4, 13, .both, .h, [⟨7, 6, .ro, 0⟩, ⟨5, 0, .ro, 0x3F⟩, ⟨15, 14, .ro, 0⟩, ⟨13, 8, .ro, 0x3F⟩, ⟨23, 22, .ro, 0⟩, ⟨21, 16, .ro, 0x3F⟩, ⟨31, 30, .ro, 0⟩, ⟨29, 24, .ro, 0x3F⟩]⟩ := by rfl
theorem fr_b0010 : findReg 0xB0010 = some ⟨"TRM_GRP_LO", 0x10, 0, 1, .both, .h, [⟨31, 0, .ro, 0⟩]⟩ := by rfl
theorem fr_b0014 : findReg 0xB0014 = some ⟨"TRM_GRP_HI", 0x14, 0, 1, .both, .h, [⟨31, 0, .ro, 0⟩]⟩ := by rfl
theorem fr_b0018 : findReg 0xB0018 = some ⟨"TRM_GRP_INV_LO", 0x18, 0, 1, .both, .h, [⟨31, 0, .ro, 0⟩]⟩ := by rfl
theorem fr_b001c : findReg 0xB001C = some ⟨"TRM_GRP_INV_HI", 0x1C, 0, 1, .both, .h, [⟨31, 0, .ro, 0⟩]⟩ := by rfl
theorem fr_b0020 : findReg 0xB0020 = some ⟨"TRM_GRP_HIST_LO", 0x20, 0, 1, .both, .h, [⟨31, 0, .w1c, 0⟩]⟩ := by rfl
theorem fr_b0024 : findReg 0xB0024 = some ⟨"TRM_GRP_HIST_HI", 0x24, 0, 1, .both, .h, [⟨31, 0, .w1c, 0⟩]⟩ := by rfl
theorem fr_b8000 : findReg 0xB8000 = some ⟨"TRM_FTO_IN", 0x8000, 0, 1, .both, .m, [⟨31, 16, .ro, 0⟩, ⟨15, 0, .ro, 0⟩]⟩ := by rfl
theorem fr_b8004 : findReg 0xB8004 = some ⟨"TRM_FTO_OUT", 0x8004, 0, 1, .both, .m, [⟨31, 16, .w1c, 0⟩, ⟨15, 0, .ro, 0⟩]⟩ := by rfl
theorem fr_b8008 : findReg 0xB8008 = some ⟨"TRM_DO_IN_A", 0x8008, 0, 1, .both, .m, [⟨31, 0, .ro, 0⟩]⟩ := by rfl
theorem fr_b800c : findReg 0xB800C = some ⟨"TRM_DO_IN_B", 0x800C, 0, 1, .both, .m, [⟨31, 0, .ro, 0⟩]⟩ := by rfl
theorem fr_b8010 : findReg 0xB8010 = some ⟨"TRM_DO_OUT", 0x8010, 0, 1, .both, .m, [⟨31, 0, .ro, 0⟩]⟩ := by rfl
theorem fr_b8014 : findReg 0xB8014 = some ⟨"TRM_VOTE_FTO", 0x8014, 0, 1, .both, .m, [⟨31, 16, .ro, 0⟩, ⟨15, 0, .ro, 0⟩]⟩ := by rfl
theorem fr_b8018 : findReg 0xB8018 = some ⟨"TRM_CLASS_DO", 0x8018, 0, 1, .both, .m, [⟨31, 0, .ro, 0⟩]⟩ := by rfl
theorem fr_b801c : findReg 0xB801C = some ⟨"TRM_VOTE_DO", 0x801C, 0, 1, .both, .m, [⟨31, 0, .ro, 0⟩]⟩ := by rfl
theorem fr_b8020 : findReg 0xB8020 = some ⟨"TRM_LOCK_DO", 0x8020, 0, 1, .both, .m, [⟨31, 0, .ro, 0⟩]⟩ := by rfl
theorem fr_b8024 : findReg 0xB8024 = some ⟨"TRM_CELL_STAT", 0x8024, 0, 1, .both, .m, [⟨31, 31, .ro, 1⟩, ⟨30, 30, .ro, 1⟩, ⟨29, 29, .ro, 0⟩, ⟨28, 28, .ro, 1⟩, ⟨27, 27, .ro, 0⟩]⟩ := by rfl
theorem fr_b8028 : findReg 0xB8028 = some ⟨"TRM_DISAGREE", 0x8028, 0, 1, .both, .m, [⟨31, 16, .ro, 0⟩, ⟨15, 0, .ro, 0⟩]⟩ := by rfl
theorem fr_b802c : findReg 0xB802C = some ⟨"TRM_DISAGREE_HI", 0x802C, 0, 1, .both, .m, [⟨15, 0, .ro, 0⟩]⟩ := by rfl
theorem fr_b8040 : findReg 0xB8040 = some ⟨"TRM_TCS_CFG", 0x8040, 8, 4, .priv, .m, [⟨31, 31, .rw, 0⟩, ⟨28, 24, .rw, 0⟩, ⟨23, 16, .rw, 0x14⟩, ⟨15, 0, .rw, 0x1F4⟩]⟩ := by rfl
theorem fr_b8044 : findReg 0xB8044 = some ⟨"TRM_TCS_STAT", 0x8044, 8, 4, .both, .m, [⟨31, 31, .ro, 0⟩, ⟨30, 30, .ro, 0⟩, ⟨29, 29, .ro, 0⟩, ⟨28, 28, .ro, 0⟩, ⟨27, 27, .w1c, 0⟩, ⟨15, 0, .ro, 0⟩]⟩ := by rfl
theorem fr_c0010 : findReg 0xC0010 = some ⟨"ARC_LIGHT", 0x10, 0, 1, .both, .m, [⟨31, 16, .ro, 0⟩, ⟨15, 0, .ro, 0⟩]⟩ := by rfl
theorem fr_c0014 : findReg 0xC0014 = some ⟨"ARC_LIGHT_HIST", 0x14, 0, 1, .both, .m, [⟨31, 16, .w1c, 0⟩, ⟨15, 0, .w1c, 0⟩]⟩ := by rfl
theorem fr_c0018 : findReg 0xC0018 = some ⟨"ARC_SUP", 0x18, 0, 1, .both, .m, [⟨31, 16, .ro, 0⟩, ⟨15, 0, .ro, 0⟩]⟩ := by rfl
theorem fr_c001c : findReg 0xC001C = some ⟨"ARC_AMB", 0x1C, 0, 1, .both, .m, [⟨31, 16, .ro, 0⟩, ⟨15, 0, .ro, 0⟩]⟩ := by rfl
theorem fr_c0020 : findReg 0xC0020 = some ⟨"ARC_CMD", 0x20, 0, 1, .priv, .m, [⟨31, 16, .wo, 0⟩, ⟨7, 0, .wo, 0⟩]⟩ := by rfl
theorem fr_c0024 : findReg 0xC0024 = some ⟨"ARC_RESULT", 0x24, 0, 1, .both, .m, [⟨31, 24, .ro, 0⟩, ⟨15, 8, .ro, 0⟩, ⟨7, 0, .ro, 0⟩]⟩ := by rfl
theorem fr_c0028 : findReg 0xC0028 = some ⟨"ARC_HKSEL", 0x28, 0, 1, .priv, .m, [⟨15, 0, .rw, 0x3210⟩]⟩ := by rfl
theorem fr_c0040 : findReg 0xC0040 = some ⟨"ARC_ELEM", 0x40, 0, 1, .both, .h, [⟨31, 16, .ro, 0⟩, ⟨15, 0, .ro, 0⟩]⟩ := by rfl
theorem fr_c0100 : findReg 0xC0100 = some ⟨"ARC_LEVEL", 0x100, 32, 16, .both, .m, [⟨17, 0, .ro, 0⟩]⟩ := by rfl
theorem fr_c0104 : findReg 0xC0104 = some ⟨"ARC_BASE", 0x104, 32, 16, .both, .m, [⟨17, 0, .ro, 0⟩]⟩ := by rfl
theorem fr_c0108 : findReg 0xC0108 = some ⟨"ARC_CODE", 0x108, 32, 16, .both, .m, [⟨31, 28, .ro, 0⟩, ⟨27, 24, .ro, 0⟩, ⟨17, 0, .ro, 0⟩]⟩ := by rfl
theorem fr_c010c : findReg 0xC010C = some ⟨"ARC_CSTAT", 0x10C, 32, 16, .both, .m, [⟨31, 24, .ro, 0⟩, ⟨23, 20, .ro, 0⟩, ⟨5, 5, .ro, 0⟩, ⟨4, 4, .ro, 0⟩, ⟨3, 3, .ro, 0⟩, ⟨2, 2, .ro, 0⟩, ⟨1, 1, .ro, 0⟩, ⟨0, 0, .ro, 0⟩]⟩ := by rfl
theorem fr_c0110 : findReg 0xC0110 = some ⟨"ARC_CNT", 0x110, 32, 16, .both, .m, [⟨31, 16, .ro, 0⟩, ⟨15, 0, .ro, 0⟩]⟩ := by rfl
theorem fr_c0114 : findReg 0xC0114 = some ⟨"ARC_RISE", 0x114, 32, 16, .both, .m, [⟨31, 31, .ro, 0⟩, ⟨15, 0, .ro, 0⟩]⟩ := by rfl
theorem fr_d0010 : findReg 0xD0010 = some ⟨"DIO_DI_LO", 0x10, 0, 1, .both, .m, [⟨31, 0, .ro, 0⟩]⟩ := by rfl
theorem fr_d0014 : findReg 0xD0014 = some ⟨"DIO_DI_HI", 0x14, 0, 1, .both, .m, [⟨31, 0, .ro, 0⟩]⟩ := by rfl
theorem fr_d0018 : findReg 0xD0018 = some ⟨"DIO_DI_INV_LO", 0x18, 0, 1, .both, .m, [⟨31, 0, .ro, 0⟩]⟩ := by rfl
theorem fr_d001c : findReg 0xD001C = some ⟨"DIO_DI_INV_HI", 0x1C, 0, 1, .both, .m, [⟨31, 0, .ro, 0⟩]⟩ := by rfl
theorem fr_d0020 : findReg 0xD0020 = some ⟨"DIO_DI_WB_LO", 0x20, 0, 1, .both, .m, [⟨31, 0, .ro, 0⟩]⟩ := by rfl
theorem fr_d0024 : findReg 0xD0024 = some ⟨"DIO_DI_WB_HI", 0x24, 0, 1, .both, .m, [⟨31, 0, .ro, 0⟩]⟩ := by rfl
theorem fr_d0030 : findReg 0xD0030 = some ⟨"DIO_CMD", 0x30, 0, 1, .priv, .m, [⟨12, 8, .wo, 0⟩, ⟨7, 0, .wo, 0⟩]⟩ := by rfl
theorem fr_d0034 : findReg 0xD0034 = some ⟨"DIO_RESULT", 0x34, 0, 1, .both, .m, [⟨31, 24, .ro, 0⟩, ⟨15, 8, .ro, 0⟩, ⟨7, 0, .ro, 0⟩]⟩ := by rfl
theorem fr_d0040 : findReg 0xD0040 = some ⟨"DIO_DO_VAL", 0x40, 0, 1, .both, .m, [⟨31, 0, .ro, 0⟩]⟩ := by rfl
theorem fr_d0044 : findReg 0xD0044 = some ⟨"DIO_DO_OUT", 0x44, 0, 1, .both, .m, [⟨31, 0, .ro, 0⟩]⟩ := by rfl
theorem fr_d0048 : findReg 0xD0048 = some ⟨"DIO_DO_FAULT", 0x48, 0, 1, .both, .m, [⟨31, 0, .ro, 0⟩]⟩ := by rfl
theorem fr_d004c : findReg 0xD004C = some ⟨"DIO_DO_TMO", 0x4C, 0, 1, .both, .m, [⟨31, 0, .ro, 0⟩]⟩ := by rfl
theorem fr_d0050 : findReg 0xD0050 = some ⟨"DIO_SUP", 0x50, 0, 1, .both, .m, [⟨19, 16, .ro, 0⟩, ⟨15, 8, .ro, 0xFF⟩, ⟨7, 0, .ro, 0⟩]⟩ := by rfl
theorem fr_d0054 : findReg 0xD0054 = some ⟨"DIO_REFRESH", 0x54, 0, 1, .both, .m, [⟨31, 16, .ro, 0⟩, ⟨15, 0, .ro, 0xFFFF⟩]⟩ := by rfl
theorem fr_d0060 : findReg 0xD0060 = some ⟨"DIO_SUPV", 0x60, 4, 4, .both, .m, [⟨31, 16, .ro, 0⟩, ⟨15, 0, .ro, 0⟩]⟩ := by rfl
theorem fr_d0100 : findReg 0xD0100 = some ⟨"DIO_DISTAT", 0x100, 8, 64, .both, .m, [⟨31, 31, .ro, 0⟩, ⟨30, 30, .ro, 0⟩, ⟨29, 29, .ro, 0⟩, ⟨28, 28, .ro, 0⟩, ⟨7, 0, .ro, 0⟩]⟩ := by rfl
theorem fr_d0104 : findReg 0xD0104 = some ⟨"DIO_DISEQ", 0x104, 8, 64, .both, .m, [⟨31, 0, .ro, 0⟩]⟩ := by rfl
theorem fr_d0400 : findReg 0xD0400 = some ⟨"DIO_DOSTAT", 0x400, 8, 32, .both, .m, [⟨31, 30, .ro, 0⟩, ⟨29, 29, .ro, 0⟩, ⟨28, 28, .ro, 0⟩, ⟨27, 27, .ro, 0⟩, ⟨8, 5, .ro, 0⟩, ⟨4, 4, .ro, 0⟩, ⟨3, 3, .ro, 0⟩, ⟨2, 2, .ro, 0⟩, ⟨1, 1, .ro, 0⟩, ⟨0, 0, .ro, 0⟩]⟩ := by rfl
theorem fr_d0404 : findReg 0xD0404 = some ⟨"DIO_DOCUR", 0x404, 8, 32, .both, .m, [⟨15, 0, .ro, 0⟩]⟩ := by rfl
theorem fr_e0010 : findReg 0xE0010 = some ⟨"LGE_STAT", 0x10, 0, 1, .both, .l, [⟨31, 31, .ro, 0⟩, ⟨30, 30, .ro, 0⟩, ⟨23, 20, .ro, 0⟩, ⟨13, 8, .ro, 0⟩, ⟨7, 7, .w1c, 0⟩]⟩ := by rfl
theorem fr_e0014 : findReg 0xE0014 = some ⟨"LGE_STOP_PC", 0x14, 0, 1, .both, .l, [⟨17, 0, .ro, 0⟩]⟩ := by rfl
theorem fr_e0018 : findReg 0xE0018 = some ⟨"LGE_CYCLE", 0x18, 0, 1, .both, .h, [⟨31, 0, .ro, 0⟩]⟩ := by rfl
theorem fr_e001c : findReg 0xE001C = some ⟨"LGE_LOAD", 0x1C, 0, 1, .both, .h, [⟨15, 8, .rc, 0⟩, ⟨7, 0, .ro, 0⟩]⟩ := by rfl
theorem fr_e0020 : findReg 0xE0020 = some ⟨"LGE_PROG", 0x20, 0, 1, .both, .h, [⟨31, 26, .ro, 0⟩, ⟨25, 21, .ro, 0⟩, ⟨18, 0, .ro, 0⟩]⟩ := by rfl
theorem fr_e0024 : findReg 0xE0024 = some ⟨"LGE_RET", 0x24, 0, 1, .both, .h, [⟨31, 8, .ro, 0⟩, ⟨0, 0, .ro, 0⟩]⟩ := by rfl
theorem fr_e0030 : findReg 0xE0030 = some ⟨"LGE_TSEL", 0x30, 0, 1, .priv, .h, [⟨5, 0, .rw, 0⟩]⟩ := by rfl
theorem fr_e0034 : findReg 0xE0034 = some ⟨"LGE_TINFO", 0x34, 0, 1, .priv, .l, [⟨31, 31, .ro, 0⟩, ⟨30, 30, .ro, 0⟩, ⟨27, 24, .ro, 0⟩, ⟨21, 20, .ro, 0⟩, ⟨19, 18, .ro, 0⟩, ⟨15, 0, .ro, 0⟩]⟩ := by rfl
theorem fr_e0038 : findReg 0xE0038 = some ⟨"LGE_TEXEC", 0x38, 0, 1, .priv, .l, [⟨31, 16, .rc, 0⟩, ⟨15, 0, .ro, 0⟩]⟩ := by rfl
theorem fr_e003c : findReg 0xE003C = some ⟨"LGE_TRELS", 0x3C, 0, 1, .priv, .l, [⟨31, 8, .ro, 0⟩, ⟨7, 0, .rc, 0⟩]⟩ := by rfl
theorem fr_f0010 : findReg 0xF0010 = some ⟨"ACQ_STAT", 0x10, 0, 1, .both, .h, [⟨31, 20, .ro, 0⟩, ⟨16, 16, .ro, 0⟩, ⟨15, 8, .ro, 0⟩, ⟨7, 0, .ro, 0⟩]⟩ := by rfl
theorem fr_f0014 : findReg 0xF0014 = some ⟨"ACQ_CMD", 0x14, 0, 1, .priv, .h, [⟨15, 8, .wo, 0⟩, ⟨7, 0, .wo, 0⟩]⟩ := by rfl
theorem fr_f0018 : findReg 0xF0018 = some ⟨"ACQ_RESULT", 0x18, 0, 1, .both, .h, [⟨31, 24, .ro, 0⟩, ⟨15, 8, .ro, 0⟩, ⟨7, 0, .ro, 0⟩]⟩ := by rfl
theorem fr_f001c : findReg 0xF001C = some ⟨"ACQ_LOST", 0x1C, 0, 1, .both, .h, [⟨31, 16, .rc, 0⟩, ⟨15, 0, .rc, 0⟩]⟩ := by rfl
theorem fr_f0020 : findReg 0xF0020 = some ⟨"ACQ_REC", 0x20, 0, 1, .both, .h, [⟨31, 16, .rc, 0⟩, ⟨15, 0, .ro, 0⟩]⟩ := by rfl
theorem fr_f0024 : findReg 0xF0024 = some ⟨"ACQ_TRG", 0x24, 0, 1, .both, .h, [⟨31, 16, .w1c, 0⟩, ⟨15, 0, .ro, 0⟩]⟩ := by rfl
theorem fr_f0030 : findReg 0xF0030 = some ⟨"ACQ_PLAN", 0x30, 4, 4, .both, .h, [⟨15, 8, .ro, 0⟩, ⟨7, 0, .ro, 0⟩]⟩ := by rfl
theorem fr_f0040 : findReg 0xF0040 = some ⟨"ACQ_MSEL", 0x40, 0, 1, .priv, .h, [⟨10, 8, .rw, 0⟩, ⟨4, 0, .rw, 0⟩]⟩ := by rfl
theorem fr_f0044 : findReg 0xF0044 = some ⟨"ACQ_MSEQ", 0x44, 0, 1, .priv, .h, [⟨31, 0, .ro, 0⟩]⟩ := by rfl
theorem fr_f0080 : findReg 0xF0080 = some ⟨"ACQ_MDATA", 0x80, 4, 16, .priv, .h, [⟨31, 0, .ro, 0⟩]⟩ := by rfl
theorem fr_f0100 : findReg 0xF0100 = some ⟨"ACQ_ACFG", 0x100, 32, 8, .both, .h, [⟨26, 24, .ro, 0⟩, ⟨21, 16, .ro, 0⟩, ⟨15, 13, .ro, 0⟩, ⟨12, 0, .ro, 0⟩]⟩ := by rfl
theorem fr_f0104 : findReg 0xF0104 = some ⟨"ACQ_ASTAT", 0x104, 32, 8, .both, .h, [⟨31, 30, .ro, 0⟩, ⟨29, 28, .ro, 0⟩, ⟨27, 16, .ro, 0⟩]⟩ := by rfl
theorem fr_f0108 : findReg 0xF0108 = some ⟨"ACQ_ASEQ", 0x108, 32, 8, .both, .h, [⟨31, 0, .ro, 0⟩]⟩ := by rfl
theorem fr_f010c : findReg 0xF010C = some ⟨"ACQ_ALAST", 0x10C, 32, 8, .both, .h, [⟨31, 16, .ro, 0⟩, ⟨11, 0, .ro, 0⟩]⟩ := by rfl
theorem fr_f0110 : findReg 0xF0110 = some ⟨"ACQ_ALOST", 0x110, 32, 8, .both, .h, [⟨31, 0, .rc, 0⟩]⟩ := by rfl
theorem fr_f0114 : findReg 0xF0114 = some ⟨"ACQ_ACOMM", 0x114, 32, 8, .both, .h, [⟨31, 0, .ro, 0⟩]⟩ := by rfl
theorem fr_100010 : findReg 0x100010 = some ⟨"CRT_STAT", 0x10, 0, 1, .both, .h, [⟨31, 30, .ro, 0⟩, ⟨29, 29, .ro, 0⟩]⟩ := by rfl
theorem fr_100014 : findReg 0x100014 = some ⟨"CRT_CMD", 0x14, 0, 1, .priv, .h, [⟨7, 0, .wo, 0⟩]⟩ := by rfl
theorem fr_100018 : findReg 0x100018 = some ⟨"CRT_RESULT", 0x18, 0, 1, .both, .h, [⟨31, 24, .ro, 0⟩, ⟨15, 8, .ro, 0⟩, ⟨7, 0, .ro, 0⟩]⟩ := by rfl
theorem fr_100020 : findReg 0x100020 = some ⟨"CRT_JOP", 0x20, 0, 1, .priv, .h, [⟨23, 16, .rw, 1⟩, ⟨11, 8, .rw, 4⟩, ⟨6, 4, .rw, 3⟩, ⟨3, 2, .rw, 2⟩, ⟨1, 0, .rw, 0⟩]⟩ := by rfl
theorem fr_100024 : findReg 0x100024 = some ⟨"CRT_JLEAD", 0x24, 0, 1, .priv, .h, [⟨11, 0, .rw, 0⟩]⟩ := by rfl
theorem fr_100028 : findReg 0x100028 = some ⟨"CRT_JSPACE", 0x28, 0, 1, .priv, .h, [⟨5, 4, .rw, 0⟩, ⟨1, 0, .rw, 0⟩]⟩ := by rfl
theorem fr_10002c : findReg 0x10002C = some ⟨"CRT_JSRC", 0x2C, 0, 1, .priv, .h, [⟨31, 0, .rw, 0⟩]⟩ := by rfl
theorem fr_100030 : findReg 0x100030 = some ⟨"CRT_JLEN", 0x30, 0, 1, .priv, .h, [⟨31, 0, .rw, 0⟩]⟩ := by rfl
theorem fr_100034 : findReg 0x100034 = some ⟨"CRT_JDST", 0x34, 0, 1, .priv, .h, [⟨31, 0, .rw, 0⟩]⟩ := by rfl
theorem fr_100038 : findReg 0x100038 = some ⟨"CRT_JCAP", 0x38, 0, 1, .priv, .h, [⟨31, 0, .rw, 0⟩]⟩ := by rfl
theorem fr_10003c : findReg 0x10003C = some ⟨"CRT_OUT_LIMIT", 0x3C, 0, 1, .priv, .h, [⟨16, 0, .rw, 0x10000⟩]⟩ := by rfl
theorem fr_100040 : findReg 0x100040 = some ⟨"CRT_IN_CONSUMED", 0x40, 0, 1, .both, .h, [⟨31, 0, .ro, 0⟩]⟩ := by rfl
theorem fr_100044 : findReg 0x100044 = some ⟨"CRT_OUT_PRODUCED", 0x44, 0, 1, .both, .h, [⟨31, 0, .ro, 0⟩]⟩ := by rfl
theorem fr_100048 : findReg 0x100048 = some ⟨"CRT_ERRPOS", 0x48, 0, 1, .both, .h, [⟨31, 16, .ro, 0⟩, ⟨15, 0, .ro, 0⟩]⟩ := by rfl
theorem fr_100050 : findReg 0x100050 = some ⟨"CRT_CIN", 0x50, 0, 1, .both, .h, [⟨31, 0, .rc, 0⟩]⟩ := by rfl
theorem fr_100054 : findReg 0x100054 = some ⟨"CRT_COUT", 0x54, 0, 1, .both, .h, [⟨31, 0, .rc, 0⟩]⟩ := by rfl
theorem fr_100058 : findReg 0x100058 = some ⟨"CRT_CBLK", 0x58, 0, 1, .both, .h, [⟨31, 16, .rc, 0⟩, ⟨15, 0, .rc, 0⟩]⟩ := by rfl
theorem fr_110010 : findReg 0x110010 = some ⟨"PST_STAT", 0x10, 0, 1, .both, .h, [⟨31, 31, .ro, 0⟩, ⟨30, 30, .ro, 0⟩, ⟨16, 16, .w1c, 0⟩, ⟨15, 0, .rc, 0⟩]⟩ := by rfl
theorem fr_110020 : findReg 0x110020 = some ⟨"PST_IMG_CMD", 0x20, 0, 1, .priv, .h, [⟨9, 8, .wo, 0⟩, ⟨7, 0, .wo, 0⟩]⟩ := by rfl
theorem fr_110024 : findReg 0x110024 = some ⟨"PST_IMG_RESULT", 0x24, 0, 1, .both, .h, [⟨31, 24, .ro, 0⟩, ⟨15, 8, .ro, 0⟩, ⟨7, 0, .ro, 0⟩]⟩ := by rfl
theorem fr_110028 : findReg 0x110028 = some ⟨"PST_IMG_DATA", 0x28, 0, 1, .priv, .h, [⟨31, 0, .wo, 0⟩]⟩ := by rfl
theorem fr_11002c : findReg 0x11002C = some ⟨"PST_IMG_PTR", 0x2C, 0, 1, .both, .h, [⟨31, 31, .w1c, 0⟩, ⟨23, 0, .ro, 0⟩]⟩ := by rfl
theorem fr_120010 : findReg 0x120010 = some ⟨"LDG_HEAD", 0x10, 0, 1, .both, .h, [⟨31, 0, .ro, 0⟩]⟩ := by rfl
theorem fr_120014 : findReg 0x120014 = some ⟨"LDG_TAIL", 0x14, 0, 1, .both, .h, [⟨31, 0, .ro, 0⟩]⟩ := by rfl
theorem fr_120018 : findReg 0x120018 = some ⟨"LDG_STAT", 0x18, 0, 1, .both, .h, [⟨31, 31, .ro, 0⟩, ⟨30, 30, .ro, 0⟩, ⟨15, 0, .rc, 0⟩]⟩ := by rfl
theorem fr_12001c : findReg 0x12001C = some ⟨"LDG_CMD", 0x1C, 0, 1, .both, .h, [⟨23, 16, .wo, 0⟩, ⟨7, 0, .wo, 0⟩]⟩ := by rfl
theorem fr_120020 : findReg 0x120020 = some ⟨"LDG_RESULT", 0x20, 0, 1, .both, .h, [⟨31, 24, .ro, 0⟩, ⟨15, 8, .ro, 0⟩, ⟨7, 0, .ro, 0⟩]⟩ := by rfl
theorem fr_120024 : findReg 0x120024 = some ⟨"LDG_RSEL", 0x24, 0, 1, .both, .h, [⟨31, 0, .rw, 0⟩]⟩ := by rfl
theorem fr_120028 : findReg 0x120028 = some ⟨"LDG_RSTAT", 0x28, 0, 1, .both, .h, [⟨1, 0, .ro, 0⟩]⟩ := by rfl
theorem fr_120030 : findReg 0x120030 = some ⟨"LDG_OPTIME_LO", 0x30, 0, 1, .both, .h, [⟨31, 0, .ro, 0⟩]⟩ := by rfl
theorem fr_120034 : findReg 0x120034 = some ⟨"LDG_OPTIME_HI", 0x34, 0, 1, .both, .h, [⟨15, 0, .ro, 0⟩]⟩ := by rfl
theorem fr_120038 : findReg 0x120038 = some ⟨"LDG_PCYCLE", 0x38, 0, 1, .both, .h, [⟨31, 0, .ro, 0⟩]⟩ := by rfl
theorem fr_120040 : findReg 0x120040 = some ⟨"LDG_RDATA", 0x40, 4, 16, .both, .h, [⟨31, 0, .ro, 0⟩]⟩ := by rfl
theorem fr_130010 : findReg 0x130010 = some ⟨"TLY_SUB", 0x10, 0, 1, .both, .h, [⟨1, 0, .ro, 3⟩, ⟨3, 2, .ro, 3⟩, ⟨5, 4, .ro, 3⟩, ⟨7, 6, .ro, 3⟩, ⟨9, 8, .ro, 3⟩, ⟨11, 10, .ro, 3⟩, ⟨13, 12, .ro, 3⟩, ⟨15, 14, .ro, 3⟩, ⟨17, 16, .ro, 3⟩, ⟨19, 18, .ro, 3⟩, ⟨21, 20, .ro, 3⟩, ⟨23, 22, .ro, 3⟩, ⟨25, 24, .ro, 3⟩, ⟨27, 26, .ro, 3⟩, ⟨29, 28, .ro, 3⟩, ⟨31, 30, .ro, 3⟩]⟩ := by rfl
theorem fr_130014 : findReg 0x130014 = some ⟨"TLY_OVERALL", 0x14, 0, 1, .both, .h, [⟨31, 30, .ro, 2⟩, ⟨23, 16, .ro, 0⟩, ⟨15, 8, .ro, 0⟩, ⟨7, 0, .rc, 0⟩]⟩ := by rfl
theorem fr_130018 : findReg 0x130018 = some ⟨"TLY_HIST", 0x18, 0, 1, .both, .h, [⟨15, 0, .w1c, 0⟩]⟩ := by rfl
theorem fr_130100 : findReg 0x130100 = some ⟨"TLY_CAUSE", 0x100, 4, 16, .both, .h, [⟨31, 16, .ro, 0⟩, ⟨1, 0, .ro, 3⟩]⟩ := by rfl
theorem fr_140010 : findReg 0x140010 = some ⟨"STK_CTRL", 0x10, 0, 1, .priv, .h, [⟨7, 0, .wo, 0⟩]⟩ := by rfl
theorem fr_140014 : findReg 0x140014 = some ⟨"STK_RESULT", 0x14, 0, 1, .both, .h, [⟨31, 24, .ro, 0⟩, ⟨15, 8, .ro, 0⟩, ⟨7, 0, .ro, 0⟩]⟩ := by rfl
theorem fr_140018 : findReg 0x140018 = some ⟨"STK_EPOCH", 0x18, 0, 1, .both, .h, [⟨31, 0, .ro, 0⟩]⟩ := by rfl
theorem fr_14001c : findReg 0x14001C = some ⟨"STK_STAT", 0x1C, 0, 1, .both, .h, [⟨31, 31, .ro, 0⟩, ⟨30, 30, .ro, 0⟩, ⟨29, 29, .ro, 0⟩, ⟨25, 24, .ro, 0⟩, ⟨23, 23, .ro, 0⟩]⟩ := by rfl
theorem fr_140020 : findReg 0x140020 = some ⟨"STK_TAKE_NS", 0x20, 0, 1, .both, .h, [⟨31, 0, .ro, 0⟩]⟩ := by rfl
theorem fr_140024 : findReg 0x140024 = some ⟨"STK_TAKE_SEC", 0x24, 0, 1, .both, .h, [⟨31, 0, .ro, 0⟩]⟩ := by rfl
theorem fr_140028 : findReg 0x140028 = some ⟨"STK_LATE", 0x28, 0, 1, .both, .h, [⟨31, 0, .ro, 0⟩]⟩ := by rfl
theorem fr_140030 : findReg 0x140030 = some ⟨"STK_DNS", 0x30, 0, 1, .priv, .h, [⟨31, 0, .rw, 0⟩]⟩ := by rfl
theorem fr_140034 : findReg 0x140034 = some ⟨"STK_DSEC_LO", 0x34, 0, 1, .priv, .h, [⟨31, 0, .rw, 0⟩]⟩ := by rfl
theorem fr_140038 : findReg 0x140038 = some ⟨"STK_DSEC_HI", 0x38, 0, 1, .priv, .h, [⟨15, 0, .rw, 0⟩]⟩ := by rfl
theorem fr_14003c : findReg 0x14003C = some ⟨"STK_DTAG", 0x3C, 0, 1, .priv, .h, [⟨31, 0, .rw, 0⟩]⟩ := by rfl
theorem fr_140040 : findReg 0x140040 = some ⟨"STK_DLAST", 0x40, 0, 1, .both, .h, [⟨31, 0, .ro, 0⟩]⟩ := by rfl
theorem fr_141000 : findReg 0x141000 = some ⟨"STK_SHADOW", 0x1000, 4, 768, .both, .h, [⟨31, 0, .ro, 0⟩]⟩ := by rfl
theorem fr_150010 : findReg 0x150010 = some ⟨"EVQ_SUM", 0x10, 0, 1, .priv, .h, [⟨31, 16, .ro, 0x4000⟩, ⟨15, 0, .ro, 0⟩]⟩ := by rfl
theorem fr_150014 : findReg 0x150014 = some ⟨"EVQ_SEL", 0x14, 0, 1, .priv, .h, [⟨8, 0, .rw, 0⟩]⟩ := by rfl
theorem fr_150018 : findReg 0x150018 = some ⟨"EVQ_CFG", 0x18, 0, 1, .priv, .h, [⟨31, 26, .rw, 0⟩, ⟨25, 13, .rw, 0⟩, ⟨12, 0, .rw, 0⟩]⟩ := by rfl
theorem fr_15001c : findReg 0x15001C = some ⟨"EVQ_STAT", 0x1C, 0, 1, .priv, .h, [⟨31, 16, .rc, 0⟩, ⟨15, 0, .ro, 0⟩]⟩ := by rfl
theorem fr_150020 : findReg 0x150020 = some ⟨"EVQ_POP", 0x20, 0, 1, .priv, .h, [⟨31, 0, .ro, 0⟩]⟩ := by rfl
theorem fr_150024 : findReg 0x150024 = some ⟨"EVQ_IDATA", 0x24, 0, 1, .priv, .h, [⟨31, 0, .ro, 0⟩]⟩ := by rfl
theorem fr_160010 : findReg 0x160010 = some ⟨"ARD_STAT", 0x10, 0, 1, .both, .h, [⟨31, 31, .ro, 0⟩, ⟨30, 30, .ro, 0⟩, ⟨29, 29, .ro, 0⟩, ⟨28, 28, .ro, 0⟩, ⟨27, 27, .ro, 0⟩, ⟨26, 26, .ro, 0⟩, ⟨23, 22, .ro, 0⟩, ⟨13, 0, .ro, 0⟩]⟩ := by rfl
theorem fr_160014 : findReg 0x160014 = some ⟨"ARD_MAP", 0x14, 0, 1, .both, .h, [⟨31, 24, .ro, 0⟩, ⟨23, 16, .ro, 0⟩, ⟨15, 8, .ro, 0⟩]⟩ := by rfl
theorem fr_160020 : findReg 0x160020 = some ⟨"ARD_LANE", 0x20, 4, 3, .both, .h, [⟨31, 24, .ro, 0⟩, ⟨23, 16, .rc, 0⟩, ⟨11, 0, .ro, 0⟩]⟩ := by rfl
theorem fr_160030 : findReg 0x160030 = some ⟨"ARD_ERR", 0x30, 4, 3, .both, .h, [⟨31, 16, .rc, 0⟩, ⟨15, 0, .rc, 0⟩]⟩ := by rfl
theorem fr_160040 : findReg 0x160040 = some ⟨"ARD_SEC", 0x40, 0, 1, .both, .h, [⟨31, 16, .rc, 0⟩, ⟨15, 0, .rc, 0⟩]⟩ := by rfl
theorem fr_160044 : findReg 0x160044 = some ⟨"ARD_DROP", 0x44, 0, 1, .both, .h, [⟨31, 16, .rc, 0⟩, ⟨15, 8, .rc, 0⟩, ⟨7, 0, .rc, 0⟩]⟩ := by rfl
theorem fr_160048 : findReg 0x160048 = some ⟨"ARD_DUP", 0x48, 0, 1, .both, .h, [⟨31, 0, .rc, 0⟩]⟩ := by rfl
theorem fr_16004c : findReg 0x16004C = some ⟨"ARD_ERA", 0x4C, 0, 1, .both, .h, [⟨31, 0, .ro, 0⟩]⟩ := by rfl
theorem fr_160050 : findReg 0x160050 = some ⟨"ARD_BZ_PUB", 0x50, 0, 1, .both, .h, [⟨16, 0, .ro, 0⟩]⟩ := by rfl
theorem fr_160054 : findReg 0x160054 = some ⟨"ARD_BZ_SUB", 0x54, 0, 1, .both, .h, [⟨16, 0, .ro, 0⟩]⟩ := by rfl
theorem fr_160058 : findReg 0x160058 = some ⟨"ARD_BZ_STALE", 0x58, 0, 1, .both, .h, [⟨16, 0, .ro, 0⟩]⟩ := by rfl
theorem fr_16005c : findReg 0x16005C = some ⟨"ARD_BZ_PLANE", 0x5C, 0, 1, .both, .h, [⟨16, 0, .ro, 0⟩]⟩ := by rfl
theorem fr_160080 : findReg 0x160080 = some ⟨"ARD_PSEL", 0x80, 0, 1, .priv, .h, [⟨16, 0, .rw, 0⟩]⟩ := by rfl
theorem fr_160084 : findReg 0x160084 = some ⟨"ARD_PINFO", 0x84, 0, 1, .both, .h, [⟨31, 30, .ro, 0⟩, ⟨29, 29, .ro, 0⟩, ⟨19, 0, .ro, 0⟩]⟩ := by rfl
theorem fr_160088 : findReg 0x160088 = some ⟨"ARD_PVAL", 0x88, 0, 1, .both, .h, [⟨31, 0, .ro, 0⟩]⟩ := by rfl
theorem fr_16008c : findReg 0x16008C = some ⟨"ARD_PAGE", 0x8C, 0, 1, .both, .h, [⟨31, 0, .ro, 0xFFFFFFFF⟩]⟩ := by rfl
theorem fr_170010 : findReg 0x170010 = some ⟨"ETH_STAT", 0x10, 0, 1, .both, .h, [⟨31, 31, .ro, 0⟩, ⟨30, 30, .ro, 0⟩, ⟨29, 29, .ro, 0⟩]⟩ := by rfl
theorem fr_170014 : findReg 0x170014 = some ⟨"ETH_CORE", 0x14, 0, 1, .both, .h, [⟨31, 30, .ro, 0⟩, ⟨29, 27, .ro, 0⟩, ⟨26, 24, .ro, 0⟩, ⟨23, 15, .ro, 0⟩, ⟨7, 0, .ro, 0⟩]⟩ := by rfl
theorem fr_170018 : findReg 0x170018 = some ⟨"ETH_CFG_HASH", 0x18, 0, 1, .both, .h, [⟨31, 0, .ro, 0⟩]⟩ := by rfl
theorem fr_170020 : findReg 0x170020 = some ⟨"ETH_MAC_LO", 0x20, 0, 1, .readBoth, .h, [⟨31, 0, .rw, 0⟩]⟩ := by rfl
theorem fr_170024 : findReg 0x170024 = some ⟨"ETH_MAC_HI", 0x24, 0, 1, .readBoth, .h, [⟨15, 0, .rw, 0⟩]⟩ := by rfl
theorem fr_170028 : findReg 0x170028 = some ⟨"ETH_IP", 0x28, 0, 1, .readBoth, .h, [⟨31, 0, .rw, 0⟩]⟩ := by rfl
theorem fr_17002c : findReg 0x17002C = some ⟨"ETH_MASK", 0x2C, 0, 1, .readBoth, .h, [⟨31, 0, .rw, 0⟩]⟩ := by rfl
theorem fr_170030 : findReg 0x170030 = some ⟨"ETH_GW", 0x30, 0, 1, .readBoth, .h, [⟨31, 0, .rw, 0⟩]⟩ := by rfl
theorem fr_170034 : findReg 0x170034 = some ⟨"ETH_SVC_IP", 0x34, 0, 1, .readBoth, .h, [⟨31, 0, .rw, 0⟩]⟩ := by rfl
theorem fr_170040 : findReg 0x170040 = some ⟨"ETH_TSEL", 0x40, 0, 1, .priv, .h, [⟨31, 24, .rw, 0⟩, ⟨23, 8, .rw, 0⟩, ⟨7, 0, .rw, 0⟩]⟩ := by rfl
theorem fr_170044 : findReg 0x170044 = some ⟨"ETH_TDATA", 0x44, 0, 1, .priv, .h, [⟨31, 0, .rw, 0⟩]⟩ := by rfl
theorem fr_170050 : findReg 0x170050 = some ⟨"ETH_GOOSE_TX", 0x50, 0, 1, .both, .h, [⟨31, 31, .w1c, 0⟩, ⟨30, 0, .rc, 0⟩]⟩ := by rfl
theorem fr_170054 : findReg 0x170054 = some ⟨"ETH_GOOSE_RX", 0x54, 0, 1, .both, .h, [⟨31, 16, .rc, 0⟩, ⟨15, 0, .rc, 0⟩]⟩ := by rfl
theorem fr_170058 : findReg 0x170058 = some ⟨"ETH_RX_ERR", 0x58, 0, 1, .both, .h, [⟨31, 16, .rc, 0⟩, ⟨15, 0, .rc, 0⟩]⟩ := by rfl
theorem fr_180010 : findReg 0x180010 = some ⟨"HST_STAT", 0x10, 0, 1, .both, .h, [⟨31, 31, .ro, 0⟩]⟩ := by rfl
theorem fr_180014 : findReg 0x180014 = some ⟨"HST_IRQ_EN", 0x14, 0, 1, .both, .h, [⟨5, 0, .rw, 0⟩]⟩ := by rfl
theorem fr_180018 : findReg 0x180018 = some ⟨"HST_IRQ_STAT", 0x18, 0, 1, .both, .h, [⟨5, 0, .w1c, 0⟩]⟩ := by rfl
theorem fr_18001c : findReg 0x18001C = some ⟨"HST_ERR", 0x1C, 0, 1, .both, .h, [⟨31, 16, .rc, 0⟩, ⟨15, 8, .rc, 0⟩, ⟨7, 0, .rc, 0⟩]⟩ := by rfl
theorem fr_190010 : findReg 0x190010 = some ⟨"SEC_STAT", 0x10, 0, 1, .both, .h, [⟨31, 31, .w1c, 0⟩, ⟨30, 30, .ro, 1⟩, ⟨29, 29, .ro, 0⟩, ⟨28, 28, .ro, 0⟩, ⟨27, 24, .ro, 0⟩]⟩ := by rfl
theorem fr_190014 : findReg 0x190014 = some ⟨"SEC_CMD", 0x14, 0, 1, .priv, .h, [⟨15, 8, .wo, 0⟩, ⟨23, 16, .wo, 0⟩, ⟨7, 0, .wo, 0⟩]⟩ := by rfl
theorem fr_190018 : findReg 0x190018 = some ⟨"SEC_RESULT", 0x18, 0, 1, .both, .h, [⟨31, 24, .ro, 0⟩, ⟨15, 8, .ro, 0⟩, ⟨7, 0, .ro, 0⟩]⟩ := by rfl
theorem fr_19001c : findReg 0x19001C = some ⟨"SEC_DEVID_LO", 0x1C, 0, 1, .both, .h, [⟨31, 0, .ro, 0⟩]⟩ := by rfl
theorem fr_190020 : findReg 0x190020 = some ⟨"SEC_DEVID_HI", 0x20, 0, 1, .both, .h, [⟨31, 0, .ro, 0⟩]⟩ := by rfl
theorem fr_190040 : findReg 0x190040 = some ⟨"SEC_NONCE", 0x40, 4, 8, .both, .h, [⟨31, 0, .ro, 0⟩]⟩ := by rfl
theorem fr_190060 : findReg 0x190060 = some ⟨"SEC_CNONCE", 0x60, 4, 8, .both, .h, [⟨31, 0, .rw, 0⟩]⟩ := by rfl
theorem fr_190080 : findReg 0x190080 = some ⟨"SEC_SIG", 0x80, 4, 16, .both, .h, [⟨31, 0, .rw, 0⟩]⟩ := by rfl
theorem fr_1900c0 : findReg 0x1900C0 = some ⟨"SEC_KEY_SEL", 0xC0, 0, 1, .priv, .h, [⟨26, 24, .rw, 0⟩, ⟨22, 8, .rw, 0⟩, ⟨4, 0, .rw, 0⟩]⟩ := by rfl
theorem fr_1900c4 : findReg 0x1900C4 = some ⟨"SEC_KEY_DATA", 0xC4, 0, 1, .priv, .h, [⟨31, 0, .rw, 0⟩]⟩ := by rfl
theorem fr_1a0010 : findReg 0x1A0010 = some ⟨"TRC_CFG", 0x10, 0, 1, .priv, .h, [⟨31, 31, .rw, 0⟩, ⟨4, 0, .rw, 0⟩]⟩ := by rfl
theorem fr_1a0014 : findReg 0x1A0014 = some ⟨"TRC_STAT", 0x14, 0, 1, .both, .h, [⟨31, 16, .ro, 0⟩, ⟨15, 14, .ro, 0⟩, ⟨13, 0, .rc, 0⟩]⟩ := by rfl
theorem fr_1a0018 : findReg 0x1A0018 = some ⟨"TRC_CMD", 0x18, 0, 1, .priv, .h, [⟨7, 0, .wo, 0⟩]⟩ := by rfl

end Sys2Proof.Machine
end

