-- ==== Sys2Proof/Tests/Slice0.lean ====
section
/-!
SUPPORT. The model's own tests: small states; for every obligation with hypotheses a theorem that concrete states and
operands meet them, clause by clause; the ill-formed term of each well-formedness check; and numbers worked by hand
in the spec.
-/

namespace Sys2Proof.Tests

open Sys2Proof Sys2Proof.Machine

set_option maxRecDepth 20000
set_option Elab.async false

/-! ### Small states -/

/-- Write a field. -/
def put (h : HalfId) (f : Fld) (v : Nat) (s : State) : State := wr s h f v
/-- Write a field in both halves. -/
def both (f : Fld) (v : Nat) (s : State) : State := put .b f v (put .a f v s)
/-- Change the units of a half. -/
def modH (h : HalfId) (f : Half → Half) (s : State) : State := setHalf s h (f (half s h))
/-- The image of the small states: two logic tasks, two chains, one recorder area. -/
def task0 : TaskRec := ⟨0, 0, 1, 10, 0⟩
def task1 : TaskRec := ⟨1, 1, 2, 0, 4⟩
def image0 : Image := { (default : Image) with
  kind := 1, tasks := [task0, task1], chains := [⟨0, 0, 0, 0⟩, ⟨1, 32, 6, 0⟩],
  areas := [{ (default : AreaRec) with kind := 1, c := 1, pre := 1, post := 1, maxLen := 4, segs := 2, entries := [0] }] }
def runHalf : Half := { Half.reset with mode := { Half.reset.mode with inReset := false }, image := some image0 }
/-- Both halves of a PK9600 run in SERVICE; half A leads, half B is in lockstep. -/
def run : State :=
  let s := { State.reset with halfA := { runHalf with lge := { runHalf.lge with own := true } }, halfB := runHalf, field := { FieldDie.reset with mon := 1 }, ticks := 1000000000000 }
  put .a Reg.TRM_CELL_STAT_A_ABSENT 0 <| put .a Reg.TRM_CELL_STAT_B_ABSENT 0 <| both Reg.TLY_OVERALL_OVERALL 0 <|
  (fun s => (List.range 16).foldl (fun s k => both (tlySub k) 0 s) s) <| put .a Reg.TRM_CELL_STAT_BOOT_HOLD 0 <|
  both Reg.SYS_MODE_MODE 2 (both Reg.SYS_MODE_BOOT_STEP 11 (both Reg.GAV_LS_STAT_STATE 1
    (put .a Reg.GAV_STAT_ACTING 1 (put .a Reg.GAV_STAT_REQ 1 (put .a Reg.GAV_STAT_GRANT 1 s)))))

/-- Image slot 1 is open in the leader, with eight bytes written. -/
def slotOpen : State := put .a Reg.PST_IMG_PTR_PTR 8 (modH .a (fun x => { x with port := { x.port with openSlot := some 1 } }) run)
def aRec : LedgerRec := { (default : LedgerRec) with seq := 5, event := 0x1101, mark := true }
/-- The Ledger holds a record; a clear is under way and some records were dropped. -/
def ledgerBusy : State := { run with store := { run.store with ledger := [aRec], ledgerSeq := 5, tombstone := 5, clearing := true, dropCount := 3 } }
/-- A session runs on the management core, and the host port is elevated and has challenged. -/
def session0 : Session := { (default : Session) with index := 1, role := 2 }
def managed : State := modH .a (fun x => { x with mgmt := { x.mgmt with
  sessions := [session0], elevs := [⟨255, 0⟩], chals := [⟨255, [1], [2], run.ticks⟩],
  resp := some (0, 4, 9) } }) (put .a Reg.TRC_CFG_STORE 1 run)
/-- Two Warden keys are installed and the second is selected; the host port is not elevated. -/
def keyed : State := put .a Reg.SEC_KEY_SEL_KIND 1 (put .a Reg.SEC_KEY_SEL_INDEX 1
  { run with store := { run.store with keysA := [⟨1, 0, List.replicate 16 7⟩, ⟨1, 1, List.replicate 16 7⟩] } })
/-- The management core restarts after its watchdog. -/
def coreDown : State := put .a Reg.ETH_CORE_STATE 1 run
/-- A committed segment lies in the REC partition; TEST mode; GOOSE subscription 3 is enabled; a trace buffer is kept. -/
def exporting : State := both Reg.SYS_MODE_MODE 3 { managed with
  store := { run.store with recA := [{ (default : RecUnit) with unitSeq := 7 }] },
  halfA := { managed.halfA with mgmt := { managed.halfA.mgmt with tables := nset [] (gooseKey 2 3 0) 1, sessions := [session0] } } }
/-- Task 0 of half A is running at level 1; `exec` is word 0 of the level's execution words. -/
def taskRuns (exec : Nat) : State := modH .a (fun x => { x with lge := { x.lge with
  own := true, live := true, tasks := [(0, 2)], mem := nset [] (execWord 1 0) exec } }) (both Reg.LGE_STAT_RUN 1 run)
/-- ACC is 0, no parenthesis open. -/
def logic0 : State := taskRuns 0
/-- ACC is 1. -/
def logic1 : State := taskRuns 0x40000000
/-- One parenthesis is open. -/
def logicOpen : State := taskRuns 0x01000000
/-- Sixteen are open. -/
def logicFull : State := taskRuns 0x10000000
/-- The event task ready since 400 cycles. -/
def eventLate : State := put .a Reg.LGE_CYCLE_COUNT 500 (modH .a (fun x => { x with lge := { x.lge with tasks := [(1, 1)] } }) logic0)
/-- The logic of the half that owns it waits. -/
def logicWaits : State := put .a Reg.LGE_STAT_RUN 0 logic0
/-- The queues hold an item, an item is latched; the recorder has measured area 0; a selector of each port is set. -/
def ports : State := put .a Reg.EVQ_SEL_QUEUE 1 (put .a Reg.FST_TPL_SEL_GROUP 1 (put .a Reg.FAB_UC_SEL_GROUP 1 (put .a Reg.ETH_TSEL_WORD 1
  (modH .a (fun x => { x with
    evq := { x.evq with items := [(1, [(default : QItem)])], latch := [1, 2, 3, 4, 5] }, acq := { x.acq with measSeq := [(0, 3)] } }) run))))
/-- A PK9630, which has no arc light. -/
def pk9630 : State := { run with variant := .pk9630 }
/-- At the next boundary task 0 is due again and has not ended. -/
def overrun : State := put .a Reg.LGE_CYCLE_COUNT 9 logic0
/-- No half leads; a round runs. -/
def leaderless : State :=
  let s := put .a Reg.GAV_STAT_ACTING 0 (put .a Reg.GAV_STAT_REQ 0 (put .a Reg.GAV_STAT_GRANT 0 run))
  { s with field := { s.field with mon := 0, gavel := { s.field.gavel with since := 5, armed := true } } }
/-- No half leads, and no round runs yet. -/
def leaderless0 : State := { leaderless with field := { leaderless.field with gavel := { leaderless.field.gavel with since := 0 } } }
/-- GAVEL_MON reads 11. -/
def monStuck : State := { leaderless0 with field := { leaderless0.field with mon := 3 } }
/-- Half A requests the free Gavel. -/
def asking : State := put .a Reg.GAV_STAT_REQ 1 leaderless
/-- The holder has withdrawn its request. -/
def releasing : State := put .a Reg.GAV_STAT_REQ 0 run
/-- Half A is degraded, locked out of leading and suspended from returning. -/
def degraded : State := put .a Reg.GAV_LS_STAT_DEGRADED 1 leaderless0
def lclA : State := put .a Reg.GAV_STAT_LCL 1 (put .a Reg.GAV_RETURN_SUSPENDED 1 run)
/-- A planned handover is pending in the leader; the standby requests. -/
def handing : State := put .b Reg.GAV_STAT_REQ 1 (modH .a (fun x => { x with gav := { x.gav with handover := 2 } }) run)
/-- The standby has sent RETURN_REQ. -/
def returningB : State := modH .b (fun x => { x with gav := { x.gav with returning := true } }) run
/-- The standby has not heard the leader for long. -/
def quiet : State := modH .b (fun x => { x with gav := { x.gav with hbAt := 5 } }) run
/-- It probes, and a probe was answered, or not. -/
def probing : State := modH .b (fun x => { x with gav := { x.gav with probeAt := 5 } }) run
def probed : State := modH .b (fun x => { x with gav := { x.gav with probeAt := 5, replied := true } }) run
def modL (h : HalfId) (f : Logic → Logic) (s : State) : State := modH h (fun x => { x with lge := f x.lge }) s
/-- The leader's LS_IMAGE, LS_SWEEP, a pending copy and its signatures are on their way to the shadow. -/
def shadowed : State := modL .a (fun l => { l with images := [(5, [], [])], sweepMsg := some (0, [(3, 9)]), copySent := [(3, 9)], sigs := [(0, 1, 7)] })
  (modL .b (fun l => { l with sigs := [(0, 1, 7)] }) run)
/-- The shadow's signature differs. -/
def diverging : State := modL .b (fun l => { l with sigs := [(0, 1, 8)] }) shadowed
/-- The shadow is being reloaded. -/
def reloading : State := both Reg.GAV_LS_STAT_STATE 2 shadowed
/-- Self-test in both halves: before it reached the leader, before a result, with an own pass, with the partner's fail first. -/
def testing0 : State := put .b Reg.GAV_LS_STAT_STATE 3 run
def testing1 : State := both Reg.GAV_LS_STAT_STATE 3 run
def modG (h : HalfId) (f : GavelRun → GavelRun) (s : State) : State := modH h (fun x => { x with gav := f x.gav }) s
def testing2 : State := modG .b (fun g => { g with testMsg := 1 }) (modG .a (fun g => { g with ownTest := 1 }) testing1)
def testing3 : State := modG .b (fun g => { g with testMsg := 2 }) testing1
/-- Memory errors were latent in half A. -/
def memoryBad : State := modH .a (fun x => { x with tally := nset [] (7 * 65536 + 3) 1 }) run
/-- The home half A is back in lockstep as the standby, its hold-off long since run out. -/
def homecoming : State := modG .a (fun g => { g with holdAt := 1 }) (put .a Reg.GAV_CTRL_AUTO_RETURN 1 (put .a Reg.GAV_STAT_PARTNER_ROLE 1
  (put .a Reg.GAV_STAT_GRANT 0 (put .a Reg.GAV_STAT_ACTING 0 (put .b Reg.GAV_STAT_ACTING 1 { run with field := { run.field with mon := 2 } })))))
def modM (h : HalfId) (f : ModeState → ModeState) (s : State) : State := modH h (fun x => { x with mode := f x.mode }) s
/-- ENTER_TEST waits in the leader, not acknowledged; or the standby has it, and it is acknowledged. -/
def proposed : State := modM .a (fun m => { m with pend := some { (default : PendMode) with cmd := 2, target := 3 } }) run
def acknowledged : State := modM .b (fun m => { m with pend := some { (default : PendMode) with cmd := 2, target := 3, acked := true } })
  (modM .a (fun m => { m with pend := some { (default : PendMode) with cmd := 2, target := 3, acked := true } }) run)
def setImg (f : Image → Image) (s : State) : State :=
  modH .a (fun x => { x with image := x.image.map f }) (modH .b (fun x => { x with image := x.image.map f }) s)
/-- The image enables LAYUP_REQ and its permit bit M0 is on. -/
def layupAsked : State := put .a Reg.LGE_STAT_RUN 1 (modH .a (fun x => { x with lge := { x.lge with pub := nset [] areaM 1 } })
  (setImg (fun i => { i with sys := { i.sys with layupReq := true } }) run))
/-- LAYUP: entered, the exit triggered with the standby back, or still away. -/
def laidUp : State := both Reg.SYS_MODE_MODE 4 layupAsked
def waking : State := modM .a (fun m => { m with layupExit := 3 }) laidUp
def wakingAlone : State := modM .b (fun m => { m with inReset := true }) waking
/-- LOCKOUT. -/
def lockedOut : State := put .a Reg.SYS_LOCKOUT_ACTIVE 1 (both Reg.SYS_MODE_MODE 5 leaderless0)
/-- The images differ. -/
def mismatched : State := modM .a (fun m => { m with hashMismatch := true }) run
/-- Power-fail is declared. -/
def failing : State := put .a Reg.PWR_PF_STAT_PF 1 run
/-- Both halves stand at boot step 6, or half A at step 10 and calibrating. -/
def bootSix : State := both Reg.SYS_MODE_BOOT_STEP 6 run
def bootTen : State := modH .a (fun x => { x with fe := { x.fe with cal := 1 } }) (put .a Reg.SYS_MODE_BOOT_STEP 10 run)
/-- After reset. -/
def fresh : State := State.reset
/-- Commits wait in half A. -/
def committing : State := modH .a (fun x => { x with port := { x.port with commits := [.set default, .ret default] } }) run
/-- Image 0 is being verified. -/
def verifyingA : State := modM .a (fun m => { m with verifying := some 0 }) run
/-- Staging and switching of group 1: in the leader alone, in both halves, with a CRC reply, with a failing slot. -/
def staging : State := modM .a (fun m => { m with pendSet := some { (default : PendSet) with group := 1 } }) run
def stagingCrc : State := modM .a (fun m => { m with crcReply := some 0 }) staging
def stagingCrcBad : State := modM .a (fun m => { m with crcReply := some 1 }) staging
def stagingFail : State := modM .a (fun m => { m with failReply := some 3 }) staging
def switching : State := modM .a (fun m => { m with pendSet := some { (default : PendSet) with switch := true, group := 1 } }) run
def switchingB : State := modM .b (fun m => { m with pendSet := some { (default : PendSet) with switch := true, group := 1, acked := true } }) switching
def switchReady : State := modM .a (fun m => { m with pendSet := some { (default : PendSet) with switch := true, group := 1, acked := true } }) switchingB
/-- Group 1 is staged in both halves, with one hash. -/
def staged1 : State := both Reg.SET_ACTIVE_STAGED 0xFF run
def modFe (h : HalfId) (f : FrontEnd → FrontEnd) (s : State) : State := modH h (fun x => { x with fe := f x.fe }) s
/-- Half A tracks and half B does not; a PLL of each kind has unlocked, the locks of half B are shown. -/
def tracking : State := modFe .a (fun f => { f with tracking := true, pllAt := [(0, 5), (1, 5)] })
  (put .b Reg.SMP_CLK_STAT_FAST_LOCK 1 (put .b Reg.SMP_CLK_STAT_MOD_LOCK 1 run))
/-- SYNC_OUT is enabled and half A drives it; or the latest pulse is too near. -/
def syncing : State := put .a Reg.SMP_SYNC_MAX_FMAX 100 (put .a Reg.SMP_SYNC_CFG_EN 1 run)
def syncNear : State := { syncing with field := { syncing.field with io := { syncing.field.io with syncAt := syncing.ticks } } }
/-- COMMISSION. -/
def commissioning : State := both Reg.SYS_MODE_MODE 1 run
/-- The reference buffer settles; injection tests are enabled; a test is at its points, or at its span with the outputs settled. -/
def injecting : State := modFe .a (fun f => { f with settling := true })
  (put .a Reg.PCV_REF_EN 1 (put .a Reg.PCV_TEST_CFG_EN 1 (put .a (Reg.PCV_CFG_TEST_EN 0) 1 run)))
def aTest : InjTest := { (default : InjTest) with code := 2, step := 1 }
def measuring : State := modFe .a (fun f => { f with test := some aTest }) injecting
def spanning : State := modFe .a (fun f => { f with test := some { aTest with step := 2 } }) injecting
/-- Group 1 of a PK9630 holds settings of its I/O and trigger slots alone. -/
def groupGood1 : SetGroup := { (default : SetGroup) with words :=
  ((List.range 4).flatMap fun k => [((244 + k) * 16, 0xF1)] ++ ((List.range 8).map fun j => ((244 + k) * 16 + 1 + j, 30 + 30 * 65536)) ++
    [((244 + k) * 16 + 9, 2 + 2 * 65536)]) ++ (List.range 4).map fun k => ((248 + k) * 16, 0xF2) }
def stageable : State := modH .a (fun x => { x with groups := [(1, groupGood1)] }) pk9630
/-- Decisions of half A: a fast function in its window, in a signature hold and in a restraint; general ones frozen, in
definite reset, waiting for a stream. -/
def modDe (h : HalfId) (f : Decide → Decide) (s : State) : State := modH h (fun x => { x with dec := f x.dec }) s
def aSmp : Smp := default
def deciding : State := modDe .a (fun d => { d with
  fastFn := [(0, { (default : FastFn) with sig := 1, win := List.replicate 32 aSmp }), (1, { (default : FastFn) with sig := 2 }),
    (2, { (default : FastFn) with rstate := 1 })]
  gen := [(0, { (default : GenFn) with frozen := true }), (1, { (default : GenFn) with resetting := true }),
    (2, { (default : GenFn) with rstate := 1 }), (3, { (default : GenFn) with waits := [default] })] })
  (setImg (fun i => { i with general := [⟨0, 2, 0, [0]⟩, ⟨1, 1, 1, [0]⟩, ⟨2, 2, 2, [0]⟩, ⟨3, 10, 3, [0, 1]⟩], fast := [⟨0, 0x21, 0, 0xFF, 192⟩] }) run)
/-- A fast channel is frozen long enough; an FTI is faulty. -/
def frozenCode : State := modFe .a (fun f => { f with fast := [(0, { (default : FastChan) with run := 1048576 })] })
  (put .a (Reg.FCV_CFG_FROZEN_EN 0) 1 (put .a Reg.FST_FTI_FAULT 1 run))
/-- TEST with an injection set of one entry, and with it running; a chain with a pending response, and one with a peak. -/
def injTest : State := put .a Reg.PCV_FLT_SEL_CHAIN 0 (both Reg.SYS_MODE_MODE 3 (modFe .a (fun f => { f with injStore := [(0, 1), (3, 1)] }) run))
def injRuns : State := modFe .a (fun f => { f with inj := some default, chains := [(0, { (default : ChainRun) with pend := some 1 })] })
  (setImg (fun i => { i with chains := [⟨0, 0, 0, 0x20000000⟩] }) injTest)
/-- The rotation has a spare, is comparing, is comparing again, tests a tile, or is late. -/
def modR (fast : Bool) (f : Rotation → Rotation) (s : State) : State :=
  modDe .a (fun d => if fast then { d with rotFast := f d.rotFast } else { d with rotGen := f d.rotGen }) s
def rotReady : State := put .a Reg.FAB_ROT_CTRL_EN 1 (modR false (fun r => { r with idle := [9] }) { deciding with
  halfA := { deciding.halfA with dec := { deciding.halfA.dec with gen := [] } } })
def comparing : State := modR false (fun r => { r with now := some (1, 9, false), passAt := 1 }) rotReady
def comparing2 : State := modR false (fun r => { r with now := some (1, 9, true) }) rotReady
def katRuns : State := modR false (fun r => { r with kat := [(9, 1)] }) rotReady
def modIo (f : FieldIo → FieldIo) (s : State) : State := { s with field := { s.field with io := f s.field.io } }
/-- Arc slot 240 is applied: channel 0 on with codes, threshold 100; a code of channel 1 runs; channel 2 has light. -/
def arcOn : State := put .a Reg.ARC_LIGHT_LIGHT 4 (modIo (fun o => { o with
  arcLoaded := true
  applied := [(240 * 16, 0x800000F0), (240 * 16 + 1, 0x20000064), (240 * 16 + 4, 0x20000064)]
  rx := [(0, { (default : ArcRx) with code := 1 }), (1, { (default : ArcRx) with code := 2, backoff := true })] }) run)
/-- DIO: all supplies good, DO 0 off with its diagnostics on, DO 1 on, thermal retry of DO 2, TCS 0 and 1 enabled, refreshes received. -/
def dioOn : State := put .a Reg.DIO_SUP_LOW 0 (put .a Reg.DIO_SUP_MISSING 0 (put .a Reg.DIO_DO_OUT_OUT 2 (put .a (Reg.TRM_TCS_CFG_EN 0) 1
  (put .a (Reg.TRM_TCS_CFG_DO 0) 5 (modIo (fun o => { o with
    ioLoaded := true, refreshAt := 5, retry := [(2, 1)],
    applied := [(244 * 16, 0x800000F1), (244 * 16 + 10, 0xFFFF)] }) run)))))
def modQ (h : HalfId) (f : Recorder → Recorder) (s : State) : State := modH h (fun x => { x with acq := f x.acq }) s
/-- Area 0 is armed; with a trigger on its way; or triggered and at its end. -/
def armed : State := modQ .a (fun q => { q with runs := [(0, { (default : AreaRun) with state := 1 })] }) run
def armedDue : State := modDe .a (fun d => { d with due := [(1, 0, 0, 7)] }) armed
def triggered : State := modQ .a (fun q => { q with runs := [(0, { (default : AreaRun) with state := 2, preActual := 1, postDone := 3 })] }) run
/-- A closed segment of area 0 is measured or not, pending, with its commit job under way, and retried. -/
def segClosed : State := modQ .a (fun q => { q with segs := [{ (default : Segment) with pending := true }] }) run
def segPending : State := modQ .a (fun q => { q with segs := [{ (default : Segment) with pending := true, measured := true }] }) run
def modC (h : HalfId) (f : CrateRun → CrateRun) (s : State) : State := modH h (fun x => { x with crt := f x.crt }) s
def segJob : State := modC .a (fun c => { c with seg := [1, 2, 3, 4] }) (modQ .a (fun q => { q with job := some (0, 0) }) segPending)
def segJobEnd : State := modC .a (fun c => { c with seg := [] }) segJob
def segJobAgain : State := modQ .a (fun q => { q with segs := [{ (default : Segment) with pending := true, measured := true, retried := true }] }) segJobEnd
/-- A host job of Crate is prepared, runs, or waits for space. -/
def crateSet : State := put .a Reg.CRT_JOP_OP 1 (put .a Reg.CRT_JOP_KIND 2 (put .a Reg.CRT_JOP_WSIZE 2 (put .a Reg.CRT_JLEN_LEN 16
  (put .a Reg.CRT_JDST_ADDR 4096 (put .a Reg.CRT_JCAP_CAP 64 (put .a Reg.CRT_OUT_LIMIT_LIMIT 100 run))))))
def crateRuns : State := put .a Reg.CRT_STAT_HSTATE 1 (modC .a (fun c => { c with job := some (jobOf crateSet .a) }) crateSet)
def crateWaits : State := put .a Reg.CRT_STAT_HSTATE 2 crateRuns
/-- The servo is off; a commit at PPS_IN is pending; PTP disciplines the time base; the grid has slewed; TB_CLK is unlocked. -/
def modT (f : TimeGen → TimeGen) (s : State) : State := { s with field := { s.field with time := f s.field.time } }
def timeFree : State := put .a Reg.TIME_PPS_MODE 1 (put .a Reg.TIME_PPS_WIDTH 100 (put .a Reg.TIME_CFG_SERVO 0 run))
def timePend : State := put .a Reg.TIME_STAT_PENDING 1 timeFree
def ptpTime : State := modT (fun g => { g with master := 1, syncWait := some 0, measured := true })
  (put .a Reg.TIME_CFG_SRC 1 (put .a Reg.TIME_CFG_SERVO 1 run))
def gridSlewed : State := put .a Reg.TIME_STAT_GRID_SLEW 1 run
def unlocked : State := put .a Reg.TIME_STAT_UNLOCK 1 run
/-- A domain take is to be armed, is relayed, or is due; schedule entries 0 to 4 are armed for now with actions 1 to 5. -/
def domainSet : State := put .a Reg.STK_DTAG_TAG 7 run
def domainRelay : State := modH .b (fun x => { x with stk := { x.stk with dRelay := some (5, 7) } }) run
def domainDue : State := put .a Reg.STK_STAT_DPEND 1 run
def scheduled : State := put .a Reg.TIME_PPS_MODE 3 ((List.range 5).foldl (fun s e => put .a (Reg.TIME_SCH_STAT_STATE e) 1
  (put .a (Reg.TIME_SCH_CFG_ACTION e) (e + 1) s)) (put .a (Reg.TIME_SCH_CFG_ARG 2) 1 (modFe .a (fun f => { f with injStore := [(0, 1), (3, 1)] }) injTest)))
/-- PACE_LOW is set since long; GOOSE block 2 is enabled. -/
def paceLowLong : State := modM .a (fun m => { m with paceGood := 10000 }) (put .a Reg.SYS_PACE_PACE_LOW 1 run)
def gooseSet : State := modH .a (fun x => { x with mgmt := { x.mgmt with tables := nset [] (gooseKey 0 2 0) 1 } }) run
/-- The Arcade unit 5 with a C0 and a C2 point of unit 7, a stream of unit 7, and two published bits; the ring keys of units 5 and 7. -/
def ringKeyWords : List Nat := [1, 2, 3, 4]
def arcade : State :=
  let s := both Reg.ARD_STAT_L0_UP 1 (put .a Reg.TIME_CFG_SRC 2 (put .a Reg.TIME_CFG_SERVO 1 (setImg (fun i => { i with arcade := { i.arcade with
    present := true, unit := 5, subs := [⟨3, 0, 0, 0, false, 7⟩, ⟨4, 2, 0, 0, false, 7⟩], ssubs := [⟨7, 9, 6, 1⟩]
    pubs := [⟨0x1405, 2, 0, 0⟩] } }) run)))
  modH .a (fun x => { x with ard := { x.ard with repeats := [(0, 2)] } })
    { s with store := { s.store with keysA := [⟨3, 0, ringKeyWords⟩, ⟨4, 14, ringKeyWords⟩] } }
/-- Bytes 0 to 51 of a frame of class `c` and type `t` from unit `src`. -/
def frameBody (c t src : Nat) (payload : List Byte) : List Byte :=
  le 1 (4 * t + c) ++ [0] ++ le 2 src ++ le 2 5 ++ [0, 0] ++ le 4 1 ++ le 4 1 ++ payload
/-- The frame with its tag and its CRC. -/
def sealFrame (b : List Byte) : List Byte :=
  let f := b ++ le 8 (Config.gmac ringKeyWords (frIv b) (frAad b) % 2 ^ 64)
  f ++ le 4 (crc32 f)
def pad (n : Nat) : List Byte := List.replicate n 0
def frameTrip : List Byte := sealFrame (frameBody 0 1 7 (le 4 3 ++ pad 32))
def frameUpdate : List Byte := sealFrame (frameBody 2 1 7 (pad 20 ++ le 4 0x80000004 ++ pad 12))
def frameStream : List Byte := sealFrame (frameBody 1 1 7 (le 1 9 ++ pad 35))
def frameTake : List Byte := sealFrame (frameBody 2 2 7 (pad 10 ++ le 4 7 ++ pad 22))
def frameTime3 : List Byte := sealFrame (frameBody 2 3 7 (pad 36))
def frameMap : List Byte := sealFrame (frameBody 2 6 7 (pad 36))
def frameOwnMap : List Byte := sealFrame (frameBody 2 6 5 (pad 36))
def frameReq : List Byte := sealFrame (frameBody 2 4 7 (pad 36))
def frameResp : List Byte := sealFrame (frameBody 2 5 7 (pad 36))
def frameBulk : List Byte := sealFrame (frameBody 3 1 7 (pad 36))

/-! ### A frame that passes its checks -/

/-- A CRC-32 has 32 bits; the tag and the CRC of a sealed frame read back. -/
theorem crc32Bit_lt (c : Nat) (h : c < 2 ^ 32) : crc32Bit c < 2 ^ 32 := by
  unfold crc32Bit
  split
  · exact Nat.xor_lt_two_pow (by omega) (by decide)
  · omega

theorem foldl_lt {α : Type} (f : Nat → α → Nat) (n : Nat) (hf : ∀ c a, c < n → f c a < n) (l : List α) (c : Nat)
    (h : c < n) : l.foldl f c < n := by
  induction l generalizing c with
  | nil => exact h
  | cons a t ih => exact ih _ (hf c a h)

theorem crc32_lt (bs : List Byte) : crc32 bs < 2 ^ 32 := by
  refine Nat.xor_lt_two_pow (foldl_lt _ _ (fun c b h => foldl_lt _ _ (fun c _ h => crc32Bit_lt c h) _ _ ?_) _ _ (by decide))
    (by decide)
  exact Nat.xor_lt_two_pow h (by have := b.isLt; omega)

theorem sealFrame_tag (b : List Byte) (hb : b.length = 52) :
    frTag (sealFrame b) = Config.gmac ringKeyWords (frIv b) (frAad b) % 2 ^ 64 := by
  have hs : ∀ x, frTag (b ++ le 8 x ++ le 4 (crc32 (b ++ le 8 x))) = x % 2 ^ 64 := by
    intro x
    simp [frTag, frNum, hb, le, List.range_succ, unLe]
    omega
  have := hs (Config.gmac ringKeyWords (frIv b) (frAad b) % 2 ^ 64)
  rw [Nat.mod_mod] at this
  exact this

theorem sealFrame_crc (b : List Byte) (hb : b.length = 52) : frCrcOk (sealFrame b) = true := by
  generalize hf : b ++ le 8 (Config.gmac ringKeyWords (frIv b) (frAad b) % 2 ^ 64) = f
  have hl : f.length = 60 := by simp [← hf, hb, le]
  have hc := crc32_lt f
  have hs : sealFrame b = f ++ le 4 (crc32 f) := by rw [← hf]; rfl
  rw [hs]
  simp [frCrcOk, frNum, hl, le, List.range_succ, unLe]
  omega

/-- Policing passes the first frame of a lane. -/
theorem policed_first (s : State) (h : HalfId) (lane : Nat) (f : List Byte) (hp : (half s h).ard.police = [])
    (h1 : frClass f = 1 → 0 < streamAllowance s h f) : policed s h lane f = false := by
  have hc : ∀ k w, policeCount s h k w = 0 := by simp [policeCount, policeTicks, hp, sget]
  unfold policed policeLimits
  split <;> simp_all [Nat.pos_iff_ne_zero]

/-- A sealed frame passes the checks that its header and the state let it pass. -/
theorem frameCheck_sealed (s : State) (h : HalfId) (lane : Nat) (b : List Byte) (hb : b.length = 52)
    (hi : frIv (sealFrame b) = frIv b) (ha : frAad (sealFrame b) = frAad b)
    (hk : ringKey s h (frSrc (sealFrame b)) (frKey (sealFrame b)) = some ringKeyWords)
    (hr : replayFails s h (sealFrame b) = false) (hp : policed s h lane (sealFrame b) = false)
    (ht : frTest (sealFrame b) = false) : frameCheck s h lane (sealFrame b) = 0 := by
  simp [frameCheck, tagCheck, sealFrame_crc b hb, hp, hk, hi, ha, sealFrame_tag b hb, hr, ht]

/-! ### Witnesses: the hypotheses of every clause of an obligation, met -/

theorem witness_ImageSlotCommandsComplete :
    (alive run .a = true ∧ 1 ≤ 1 ∧ modeOf run .a ≠ mBOOT ∧ acts run .a = true ∧ (half run
      .a).port.openSlot = none ∧ runningSlot run .a ≠ some 1 ∧ activatingSlot run .a ≠ some 1) ∧
    (∃ n ∈ (half slotOpen .a).port.openSlot, alive slotOpen .a = true ∧ 0 ≤ 1 ∧ n ≤ 1 ∧ modeOf
      slotOpen .a ≠ mBOOT ∧ acts slotOpen .a = true ∧ rd slotOpen .a Reg.PST_IMG_PTR_PTR ≠ 0) ∧
    (∃ n ∈ (half slotOpen .a).port.openSlot, alive slotOpen .a = true ∧ 0 ≤ 1 ∧ n ≤ 1 ∧ modeOf
      slotOpen .a ≠ mBOOT ∧ acts slotOpen .a = true) ∧
    (∃ n ∈ (half slotOpen .a).port.openSlot, alive slotOpen .a = true ∧ n ≤ 1 ∧ rd slotOpen .a
      Reg.PST_IMG_PTR_PTR < 8388608) := by decide +kernel

theorem witness_LedgerCommandsComplete :
    (booted run .a = true ∧ (recentAppends run).length < 32) ∧
    (ledgerBusy.store.dropCount ≠ 0 ∧ (recentAppends ledgerBusy).length < 32) ∧
    (alive run .a = true ∧ modeOf run .a ≠ mBOOT ∧ run.store.clearing = false) ∧
    (ledgerBusy.store.clearing = true) := by decide +kernel

theorem witness_LedgerSelectLatches :
    (alive ledgerBusy .a = true ∧ 1 < 2 ^ 32 ∧ 1 ≠ 0 ∧ 1 < ledgerBusy.store.tombstone) ∧
    (alive ledgerBusy .a = true ∧ 5 < 2 ^ 32 ∧ (5 = 0 ∨ ledgerBusy.store.tombstone ≤ 5) ∧
      ledgerBusy.store.ledger.find? (fun r => r.seq == 5) = some aRec) ∧
    (alive run .a = true ∧ 0 < 2 ^ 32 ∧ (0 = 0 ∨ run.store.tombstone ≤ 0) ∧ run.store.ledger.find? (fun r =>
      r.seq == 0) = none) := by decide +kernel

theorem witness_FieldAccessCodes :
    (2 ≤ 5) ∧
    (2 ≤ 5 ∧ 3 < 5 + 1 - 2) ∧
    ((Access.rc = .ro ∨ Access.rc = .wo ∨ Access.rc = .rc)) ∧
    (2 ≤ 5 ∧ 15 < 2 ^ (5 + 1 - 2)) ∧
    (Access.ro ≠ .rc) := by decide +kernel

theorem witness_RegisterWriteStoresFields :
    (∃ d ∈ findReg 0x30034, ∃ k ∈ bankKey run .a 0x30034, alive run .a = true ∧ 0x30034 < 0x1B0000 ∧
      isBlockId 0x30034 = false ∧ absentUnit run 0x30034 = false ∧ imageOnly 0x30034 = false ∧ (configWrite d 0x30034
      = true → holds run .a = true) ∧ plainWrite run .a d 0x30034 (0 % 2 ^ 32)) := by
  unfold plainWrite; decide +kernel

theorem witness_CapsReadsPart :
    (alive run .a = true) := by decide +kernel

theorem witness_ReadClearsAndRefusals :
    (alive run .a = true) ∧
    (∃ d ∈ findReg 0xC0010, alive pk9630 .a = true ∧ 0xC0010 < 0x1B0000 ∧ isBlockId 0xC0010 = false ∧
      absentUnit pk9630 0xC0010 = true) ∧
    (alive run .a = true ∧ 0x3 < 0x1B0000 ∧ isBlockId 0x3 = false ∧ findReg 0x3 = none) ∧
    (∃ d ∈ findReg 0xB8014, alive run .a = true ∧ 0xB8014 < 0x1B0000 ∧ isBlockId 0xB8014 = false ∧ absentUnit
      run 0xB8014 = false ∧ imageOnly 0xB8014 = true) ∧
    (∃ d ∈ findReg 0x30034, alive run .b = true ∧ 0x30034 < 0x1B0000 ∧ isBlockId 0x30034 = false ∧ absentUnit
      run 0x30034 = false ∧ imageOnly 0x30034 = false ∧ configWrite d 0x30034 = true ∧ holds run .b = false) := by decide +kernel

theorem witness_MeasuringReadsLatch :
    (alive run .a = true) ∧
    (∃ r ∈ chainRec run .a (rd run .a Reg.PCV_FLT_SEL_CHAIN), alive run .a = true ∧ rd run
      .a Reg.PCV_FLT_SEL_CHAIN < 160) ∧
    (alive run .a = true ∧ 0 < 48) ∧
    (alive run .a = true ∧ rd run .a Reg.FAB_FSEL_SLOT < 192) ∧
    (alive run .a = true ∧ rd run .a Reg.LGE_TSEL_TASK < 48) := by decide +kernel

theorem witness_PortReadsLatch :
    (∃ ar ∈ areaRec ports .a (rd ports .a Reg.ACQ_MSEL_AREA), alive ports .a = true ∧ nget
      (half ports .a).acq.measSeq (rd ports .a Reg.ACQ_MSEL_AREA) ≠ 0 ∧ rd ports .a
      Reg.ACQ_MSEL_ENTRY < ar.c) ∧
    (alive run .a = true) ∧
    (alive ports .a = true ∧ qItems ports .a (rd ports .a Reg.EVQ_SEL_QUEUE) = (default :
      QItem) :: []) ∧
    (alive run .a = true ∧ qItems run .a (rd run .a Reg.EVQ_SEL_QUEUE) = []) ∧
    (alive ports .a = true ∧ (half ports .a).evq.latch ≠ [] ∧ (half ports .a).evq.latchPos <
      64) := by decide +kernel

theorem witness_TimeReadLatchesPerHalf :
    (alive run .a = true) := by decide +kernel

theorem witness_DataPortsReachTheirStore :
    (alive run .a = true ∧ rd run .a Reg.PCV_INJ_SEL_WORD < 128 ∧ (half run .a).fe.inj = none) ∧
    (alive run .a = true ∧ rd run .a Reg.PCV_INJ_SEL_WORD < 128) ∧
    (alive ports .a = true ∧ rd ports .a Reg.FST_TPL_SEL_FUNC < 48 ∧ acts ports .a = true ∧ rd
      ports .a Reg.FST_TPL_SEL_GROUP ≠ activeGroup ports .a ∧ (half ports .a).mode.pendSet =
      none ∧ rd ports .a Reg.FST_TPL_SEL_IDX < 31) ∧
    (alive run .a = true ∧ rd run .a Reg.FST_TPL_SEL_FUNC < 48) ∧
    (alive ports .a = true ∧ acts ports .a = true ∧ rd ports .a Reg.FAB_UC_SEL_GROUP ≠
      activeGroup ports .a ∧ (half ports .a).mode.pendSet = none ∧ rd ports .a
      Reg.FAB_UC_SEL_POINT < 63) ∧
    (alive run .a = true) ∧
    (∃ b ∈ gooseBlock (rd ports .a Reg.ETH_TSEL_TABLE) (rd ports .a Reg.ETH_TSEL_ENTRY), alive ports
      .a = true ∧ gooseOn ports .a b.1 b.2 = false ∧ rd ports .a Reg.ETH_TSEL_WORD ≠ 0) ∧
    (alive run .a = true ∧ rd run .a Reg.SEC_KEY_SEL_KIND = 0 ∧ rd run .a
      Reg.SEC_KEY_SEL_INDEX = 0 ∧ rd run .a Reg.SEC_KEY_SEL_WORD < 16) := by decide +kernel

theorem witness_HostFramesAnswer :
    (alive run .a = true) ∧
    (alive run .a = true ∧ (unprivBase ≤ 0 % 2 ^ 32 ∨ hostElevated run .a = true)) ∧
    (alive keyed .a = true ∧ 0 % 2 ^ 32 < unprivBase ∧ hostElevated keyed .a = false) := by decide +kernel

theorem witness_SessionsServed :
    (coreRuns run .a = true ∧ 0 < 256 ∧ 0 < 4 ∧ sessionOf run .a 0 = none ∧ rdBit run .a
      Reg.ETH_CORE_GOV 0 = false ∧ (roleQuota 0).1 ≤ 16384 - qReserved run .a) ∧
    (∃ e ∈ sessionOf managed .a 1, coreRuns managed .a = true ∧ (sessionRate managed .a e).1 =
      true ∧ elevationOf managed .a 1 = none ∧ allowed e.role (0 % unprivBase) false = true) ∧
    (∃ e ∈ sessionOf managed .a 1, coreRuns managed .a = true ∧ (sessionRate managed .a e).1 =
      true ∧ elevationOf managed .a 1 = none ∧ allowed e.role (0x12001C % unprivBase) true = true) ∧
    (∃ e ∈ sessionOf managed .a 1, True) ∧
    (coreRuns exporting .a = true ∧ (sessionOf exporting .a 1).isSome = true ∧ rdBit exporting .a Reg.ETH_CORE_GOV 1 =
      false ∧ (recUnits exporting .a).find? (fun u => u.unitSeq == 7) = some { (default : RecUnit) with unitSeq := 7
      }) := by decide +kernel

theorem witness_ManagementCoreCommands :
    (alive run .a = true ∧ rd run .a Reg.ETH_CORE_STATE ≠ 1) ∧
    (alive coreDown .a = true ∧ rd coreDown .a Reg.ETH_CORE_STATE = 1 ∧ (∀ e ∈ configOf coreDown
      .a, e.1 % 0x100000000 ≠ 0x170014)) ∧
    (alive run .a = true) ∧
    (coreRuns run .a = true) := by decide +kernel

theorem witness_SecurityCommandsComplete :
    (alive managed .a = true ∧ (1 = 0xFF ∨ (sessionOf managed .a 1).isSome = true) ∧ challengeLocked
      managed .a 1 = false) ∧
    (alive managed .a = true ∧ (0xFF = 0xFF ∨ (sessionOf managed .a 0xFF).isSome = true) ∧ 3 ≤ 3 ∧ (half managed
      .a).mgmt.chals.find? (fun c => c.acc == 0xFF) = some ⟨255, [1], [2], run.ticks⟩ ∧ managed.ticks ≤ run.ticks +
      ticks30) ∧
    (alive managed .a = true ∧ (255 = 0xFF ∨ (sessionOf managed .a 255).isSome = true) ∧ (elevationOf
      managed .a 255).isSome = true) ∧
    (alive keyed .a = true ∧ keyIllegal keyed .a = false ∧ (selKind keyed .a = 4 → keyHeld
      keyed .a 4 (selIndex keyed .a) = true ∨ ((keysOf keyed .a).filter fun k => k.kind ==
      4).length < 1024)) ∧
    (alive keyed .a = true ∧ keyIllegal keyed .a = false ∧ keyHeld keyed .a (selKind keyed
      .a) (selIndex keyed .a) = true ∧ (selKind keyed .a = 1 → ∃ k ∈ keysOf keyed .a,
      k.kind = 1 ∧ k.index ≠ selIndex keyed .a) ∧ (selKind keyed .a = 2 → runningKeySlot keyed
      .a ≠ some (selIndex keyed .a))) ∧
    (alive run .a = true ∧ 1 ≤ 1 ∧ rd run .a Reg.SEC_STAT_GEN ≠ 1) ∧
    (alive run .a = true) := by decide +kernel

theorem witness_DebugTraceGooseComplete :
    (alive exporting .a = true ∧ (modeOf exporting .a = mCOMMISSION ∨ modeOf exporting .a =
      mTEST) ∧ opMs exporting < 1000 * 3600000) ∧
    (alive run .a = true) ∧
    (alive managed .a = true ∧ rdB managed .a Reg.TRC_CFG_STORE = true) ∧
    (running exporting .a = true ∧ 3 < 128 ∧ gooseOn exporting .a 2 3 = true ∧ (half exporting
      .a).mgmt.gsubs.find? (fun e => e.1 == 3) = none ∧ (true = true → modeOf exporting .a = mTEST)) := by decide +kernel

theorem witness_LogicLoadsComplete :
    (∃ r ∈ runningTask logic0 .a, True) := by decide +kernel

theorem witness_LogicStackComplete :
    (∃ r ∈ runningTask logic0 .a, depthOf logic0 .a r.prio < 16) ∧
    (∃ r ∈ runningTask logicOpen .a, depthOf logicOpen .a r.prio = 0 + 1 ∧ 0 < 16) ∧
    (∃ r ∈ runningTask logicFull .a, 16 ≤ depthOf logicFull .a r.prio ∧ ownsLogic logicFull .a
      = true) ∧
    (∃ r ∈ runningTask logic0 .a, depthOf logic0 .a r.prio = 0 ∧ ownsLogic logic0 .a = true) := by decide +kernel

theorem witness_LogicWritesComplete :
    (∃ r ∈ runningTask logic0 .a, (1 = 1 ∨ 1 = 2 ∨ 1 = 4) ∧ indexOk 1 0 = true) ∧
    (∃ r ∈ runningTask logic1 .a, accOf logic1 .a r.prio = true ∧ (1 = 1 ∨ 1 = 2 ∨ 1 = 4) ∧ indexOk 1
      0 = true) ∧
    (∃ r ∈ runningTask logic1 .a, accOf logic1 .a r.prio = true ∧ 0 < 1024) ∧
    (∃ r ∈ runningTask logic0 .a, accOf logic0 .a r.prio = false) ∧
    (∃ r ∈ runningTask logic0 .a, 0 < 65536) := by decide +kernel

theorem witness_TimerScansComplete :
    ((runningTask logic0 .a).isSome = true ∧ 1023 < 1024) := by decide +kernel

theorem witness_CounterScansAndRecordResets :
    ((runningTask logic0 .a).isSome = true ∧ 1023 < 1024 ∧ lw logic0 .a (areaC + 4 * 1023 + 2) < 65536) ∧
    (∃ r ∈ runningTask logic1 .a, 1023 < 1024 ∧ accOf logic1 .a r.prio = true) := by decide +kernel

theorem witness_LogicControlComplete :
    (∃ r ∈ runningTask logic0 .a, depthOf logic0 .a r.prio = 0) ∧
    (∃ r ∈ runningTask logicOpen .a, depthOf logicOpen .a r.prio ≠ 0 ∧ ownsLogic logicOpen .a
      = true) ∧
    (alive run .a = true ∧ running run .a = true ∧ ownsLogic run .a = true ∧ logicRuns run
      .a = false ∧ (half run .a).lge.restart = 0) ∧
    (∃ r ∈ overrunning overrun .a ((rd overrun .a Reg.LGE_CYCLE_COUNT + 1) % 2 ^ 32), alive overrun
      .a = true ∧ running overrun .a = true ∧ ownsLogic overrun .a = true ∧ logicRuns overrun
      .a = true ∧ (half overrun .a).lge.restart = 0) ∧
    (∃ r ∈ taskRec eventLate .a 1, r.kind = 1 ∧ logicRuns eventLate .a = true ∧ taskState eventLate
      .a 1 ≠ 0 ∧ 400 ≤ (rd eventLate .a Reg.LGE_CYCLE_COUNT + 2 ^ 32 - nget (half eventLate
      .a).lge.relCycle 1) % 2 ^ 32) := by decide +kernel

theorem witness_GavelLinesAndRounds :
    (eligible leaderless .a = true ∧ rdB leaderless .a Reg.GAV_LS_STAT_DEGRADED = false ∧ rdB
      leaderless .a Reg.GAV_STAT_REQ = false ∧ leaderless.field.mon = 0 ∧ (rd leaderless .a
      Reg.SYS_MODE_BOOT_STEP = 9 ∨ leaderless.field.gavel.since ≠ 0)) ∧
    (alive asking .a = true ∧ rdB asking .a Reg.GAV_STAT_REQ = true ∧ asking.field.mon = 0) ∧
    (releasing.field.mon = monOf .a ∧ (alive releasing .a = false ∨ rdB releasing .a
      Reg.GAV_STAT_REQ = false ∨ (rdB releasing (other .a) Reg.GAV_STAT_REQ = true ∧ rdB releasing (other
      .a) Reg.GAV_STAT_HOLDER_STROBE = false))) ∧
    (monStuck.field.mon = 3) ∧
    (leaderless0.field.gavel.armed = true ∧ (leaderless0.field.mon = 0 ∨ leaderless0.field.mon = 3) ∧
      leaderless0.field.gavel.since = 0 ∧ rdB leaderless0 .a Reg.TRM_CELL_STAT_NO_LEADER = false ∧ leader leaderless0
      = none ∧ leaderless0.field.io.lclOut = false) ∧
    (1 ≤ 1 ∧ 1 ≤ 4 ∧ leaderless.field.gavel.armed = true ∧ (1 = 1 → alive leaderless .a = true) ∧
      leaderless.field.io.lclOut = false) ∧
    (leaderless.field.gavel.since ≠ 0 ∧ leader leaderless = none) := by decide +kernel

theorem witness_HandoverCommandsComplete :
    (alive run .a = true ∧ modeOf run .a ≠ mBOOT ∧ modeOf run .a ≠ mLOCKOUT ∧ handoverPending
      run = false ∧ acts run .a = true ∧ eligible run (other .a) = true ∧ rdB run (other .a)
      Reg.GAV_LS_STAT_DEGRADED = false ∧ rd run .a Reg.GAV_LS_STAT_STATE = 1) ∧
    (alive degraded .a = true ∧ modeOf degraded .a ≠ mBOOT ∧ modeOf degraded .a ≠ mLOCKOUT ∧
      handoverPending degraded = false ∧ rdB degraded .a Reg.GAV_LS_STAT_DEGRADED = true ∧ rdB degraded
      .a Reg.GAV_STAT_FAILED_LEAD = false ∧ leader degraded = none) ∧
    (alive lclA .a = true ∧ modeOf lclA .a ≠ mBOOT ∧ modeOf lclA .a ≠ mLOCKOUT ∧
      handoverPending lclA = false ∧ rdB lclA .a Reg.GAV_STAT_LCL = true ∧ lclA.field.mon ≠ 3) ∧
    (alive lclA .a = true ∧ modeOf lclA .a ≠ mBOOT ∧ modeOf lclA .a ≠ mLOCKOUT ∧
      handoverPending lclA = false ∧ rdB lclA .a Reg.GAV_RETURN_SUSPENDED = true) ∧
    (alive degraded .a = true ∧ modeOf degraded .a ≠ mBOOT ∧ modeOf degraded .a ≠ mLOCKOUT ∧
      handoverPending degraded = false ∧ present degraded .a = true ∧ rdB degraded .a
      Reg.GAV_LS_STAT_DEGRADED = true) ∧
    ((half handing (other .b)).gav.handover ≠ 0 ∧ acts handing (other .b) = true ∧ eligible handing
      .b = true) ∧
    ((half handing .a).gav.handover ≠ 0 ∧ acts handing .a = true ∧ holds handing .a = true ∧
      (∀ r ∈ taskRecs handing .a, taskState handing .a r.task = 0) ∧ rdB handing (other .a)
      Reg.GAV_STAT_REQ = true) ∧
    ((half handing .a).gav.handover ≠ 0) ∧
    (returnReady homecoming .a = true ∧ (half homecoming .a).gav.holdAt ≠ 0 ∧ (half homecoming
      .a).gav.holdAt + holdoff homecoming .a * 125000000 ≤ homecoming.ticks + 1) ∧
    ((half returningB (other .a)).gav.returning = true ∧ acts returningB .a = true ∧ rdB returningB
      .a Reg.GAV_RETURN_SUSPENDED = false ∧ handoverPending returningB = false) := by decide +kernel

theorem witness_CrossLinkAndLossComplete :
    (alive run .a = true) ∧
    (alive run .a = true ∧ alive run (other .a) = true) ∧
    (alive run .a = true ∧ twoHalves run = true) ∧
    (alive run .a = true ∧ twoHalves run = true ∧ rdB run .a Reg.GAV_XL_STAT_UP = false) ∧
    (alive quiet .b = true ∧ twoHalves quiet = true ∧ acts quiet .b = false ∧ (half quiet
      .b).gav.lost = false ∧ (half quiet .b).gav.hbAt ≠ 0 ∧ (half quiet .b).gav.probeAt = 0 ∧
      (half quiet .b).gav.hbAt + 10000 ≤ quiet.ticks + 1) ∧
    (alive probing .a = true ∧ (half probing (other .a)).gav.probeAt ≠ 0) ∧
    ((half probed .b).gav.replied = true) ∧
    (alive probing .b = true ∧ acts probing .b = false ∧ (half probing .b).gav.probeAt ≠ 0 ∧
      (half probing .b).gav.replied = false) := by decide +kernel

theorem witness_LockstepCommandsComplete :
    (ownsLogic shadowed .b = false ∧ alive shadowed .b = true ∧ (lsState shadowed .b = 1 ∨
      lsState shadowed .b = 2) ∧ (half shadowed (other .b)).lge.images = (5, [], []) :: []) ∧
    (ownsLogic diverging .b = false ∧ (half diverging (other .b)).lge.sigs = (0, 1, 7) :: [] ∧ (half
      diverging .b).lge.sigs = (0, 1, 8) :: [] ∧ (half diverging .b).lge.got = 0 ∧ lsState diverging
      .b = 1 ∧ (0, 1, 7).2.2 ≠ (0, 1, 8).2.2) ∧
    (ownsLogic shadowed .b = false ∧ (half shadowed (other .b)).lge.sigs = (0, 1, 7) :: [] ∧ (half
      shadowed .b).lge.sigs = (0, 1, 7) :: [] ∧ (half shadowed .b).lge.got = 0 ∧ lsState shadowed
      .b = 1 ∧ (0, 1, 7).2.2 = (0, 1, 7).2.2) ∧
    (ownsLogic run .b = false ∧ lsState run .b = 1 ∧ present run .b = true) ∧
    (ownsLogic logicWaits .b = false ∧ logicRuns logicWaits .b = true ∧ twoHalves logicWaits = true ∧
      logicRuns logicWaits (other .b) = false) ∧
    (ownsLogic run .a = true ∧ lsState run .a = 1) ∧
    (ownsLogic shadowed .b = false ∧ lsState shadowed .b = 1 ∧ (half shadowed .b).lge.ends = 0
      ∧ (half shadowed (other .b)).lge.sweepMsg = some (0, [(3, 9)]) ∧ lw shadowed .b 3 ≠ 9 ∧ (half
      shadowed .b).lge.copyPend.contains 3 = false) ∧
    (ownsLogic shadowed .b = false ∧ twoHalves shadowed = true ∧ alive shadowed .b = true ∧ lsState
      shadowed .b = 1 ∧ (half shadowed (other .b)).lge.copySent ≠ []) ∧
    (ownsLogic reloading .b = false ∧ twoHalves reloading = true ∧ alive reloading .b = true ∧ lsState
      reloading .b = 2 ∧ lsState reloading (other .b) = 2) := by
  refine ⟨?_, ?_, ?_, ?_, ?_, ?_, ?_, ?_, ?_⟩ <;> decide +kernel

theorem witness_SelfTestAndMemoryErrors :
    (ownsLogic testing0 .a = true ∧ twoHalves testing0 = true ∧ lsState testing0 (other .a) = 3 ∧
      lsState testing0 .a ≠ 3) ∧
    (lsState testing0 .b = 3 ∧ (half testing0 .b).gav.ownTest = 0 ∧ (half testing0
      .b).gav.partnerTest = 0) ∧
    (lsState testing2 .a = 3 ∧ (half testing2 (other .a)).gav.testMsg = 1 ∧ (half testing2
      .a).gav.ownTest = 1) ∧
    (lsState testing3 .a = 3 ∧ (half testing3 (other .a)).gav.testMsg ≠ 0 ∧ (half testing3
      .a).gav.ownTest = 0) ∧
    (alive run .a = true) ∧
    (nget (half memoryBad .a).tally (7 * 65536 + 3) = 1 ∧ (lastHour memoryBad (half memoryBad
      .a).gav.latent).length ≤ 16) := by decide +kernel

theorem witness_ModeCommandsAccepted :
    (alive run .a = true ∧ (Instr.enterTest .a, 2, 0, 0) ∈ [(Instr.enterService .a, 1, 0, 0),
      (Instr.enterTest .a, 2, 0, 0), (Instr.exitTest .a, 3, 0, 0), (Instr.extendTest .a, 4, 0,
      0), (Instr.enterLayup .a, 5, 0, 0), (Instr.enableOutput .a 0 0, 8, 0, 0), (Instr.disableOutput
      .a 0 0, 9, 0, 0), (Instr.warmRestart .a, 0xA, 0, 0), (Instr.coldRestart .a, 0xB, 0, 0)]
      ∧ modeStatusOf run .a (Instr.enterTest .a, 2, 0, 0).2.1 (Instr.enterTest .a, 2, 0, 0).2.2.1
      (Instr.enterTest .a, 2, 0, 0).2.2.2 = 1) ∧
    (alive run .a = true ∧ (Instr.enterService .a, 1, 0, 0) ∈ [(Instr.enterService .a, 1, 0, 0),
      (Instr.enterTest .a, 2, 0, 0), (Instr.exitTest .a, 3, 0, 0), (Instr.extendTest .a, 4, 0,
      0), (Instr.enterLayup .a, 5, 0, 0), (Instr.enableOutput .a 0 0, 8, 0, 0), (Instr.disableOutput
      .a 0 0, 9, 0, 0), (Instr.warmRestart .a, 0xA, 0, 0), (Instr.coldRestart .a, 0xB, 0, 0)]
      ∧ modeStatusOf run .a (Instr.enterService .a, 1, 0, 0).2.1 (Instr.enterService .a, 1, 0, 0).2.2.1
      (Instr.enterService .a, 1, 0, 0).2.2.2 ≠ 1) ∧
    (alive laidUp .a = true ∧ modeStatusOf laidUp .a 6 0 0 = 1 ∧ (half laidUp
      .a).mode.layupExit < 2) ∧
    (alive lockedOut .a = true ∧ modeStatusOf lockedOut .a 7 0 0 = 1 ∧ rdB lockedOut .a
      Reg.SYS_LOCKOUT_ACTIVE = true) := by decide +kernel

theorem witness_ModeChangesHappen :
    (∃ p ∈ (half proposed (other .b)).mode.pend, alive proposed .b = true ∧ acts proposed .b =
      false ∧ p.acked = false ∧ (half proposed .b).mode.pend = none) ∧
    (∃ p ∈ (half acknowledged .a).mode.pend, acts acknowledged .a = true ∧ (half acknowledged (other
      .a)).mode.pend.isSome = true) ∧
    (∃ p ∈ (half acknowledged .a).mode.pend, leader acknowledged = some .a ∧ present acknowledged
      .a = true ∧ running acknowledged .a = true ∧ p.cmd ≠ 0x100 ∧ p.acked = true ∧ modeAllows p.cmd
      (modeOf acknowledged .a) = true) ∧
    (∃ p ∈ (half proposed .a).mode.pend, leader proposed = some .a ∧ present proposed .a =
      true ∧ running proposed .a = true ∧ p.cmd ≠ 0x100 ∧ p.acked = false) ∧
    (leader layupAsked = some .a ∧ modeOf layupAsked .a = mSERVICE ∧ layupReqOn layupAsked .a
      = true ∧ changePending layupAsked .a = false ∧ layupPermit layupAsked .a = true) ∧
    (leader laidUp = some .a ∧ modeOf laidUp .a = mLAYUP ∧ layupReqOn laidUp .a = true ∧ (half
      laidUp .a).mode.layupExit < 2) ∧
    (leader laidUp = some .a ∧ modeOf laidUp .a = mLAYUP ∧ (half laidUp .a).mode.layupExit =
      0) ∧
    (leader waking = some .a ∧ layupWaits waking .a = true ∧ (twoHalves waking = false ∨ (running
      waking (other .a) = true ∧ rd waking .a Reg.GAV_LS_STAT_STATE = 1))) ∧
    (leader wakingAlone = some .a ∧ layupWaits wakingAlone .a = true ∧ twoHalves wakingAlone = true ∧
      running wakingAlone (other .a) = false) ∧
    (leader waking = some .a ∧ layupWaits waking .a = true) ∧
    (present exporting .a = true ∧ running exporting .a = true ∧ modeOf exporting .a = mTEST) := by decide +kernel

theorem witness_LockoutCausesLatch :
    (alive mismatched .a = true ∧ (1 = 0 ∧ bothFailed mismatched = true ∨ 1 = 1 ∧ (half mismatched
      .a).mode.hashMismatch = true ∧ (half mismatched .a).mode.bootAlone = false)) ∧
    (monStuck.field.mon = 3) ∧
    (run.field.supply = true) ∧
    (present run .a = true ∧ running run .a = true ∧ (half run .a).gav.withdrawn = false ∧ rdB
      run .a Reg.TRM_CELL_STAT_BOOT_HOLD = false) := by decide +kernel

theorem witness_ResetsAndPowerFail :
    (supplyValid 1000 1000 = true ∧ 1000 < 65536 ∧ (run.field.supply && rdB run .a Reg.PWR_PF_STAT_PF) = false) ∧
    (supplyValid 1000 1000 = true ∧ 1000 < 65536 ∧ failing.field.supply = true ∧ rdB failing .a Reg.PWR_PF_STAT_PF =
      true ∧ pfCause failing 1000 1000 = 0) ∧
    (run.field.supply = true) ∧
    (present run .a = true ∧ (half run .a).mode.powered = true) ∧
    (run.field.supply = true ∧ rdB run .a Reg.PWR_PF_STAT_PF = false ∧ pfCause run 0 0 ≠ 0) := by decide +kernel

theorem witness_BootStepsComplete :
    (releasable wakingAlone .b = true ∧ (some HalfId.b = none ∨ some HalfId.b = some .b)) ∧
    (∃ i ∈ (half bootSix .a).image, ∃ j ∈ (half bootSix (other .a)).image, alive bootSix .a =
      true ∧ alive bootSix (other .a) = true ∧ rd bootSix .a Reg.SYS_MODE_BOOT_STEP = 6 ∧ 6 ≤ rd
      bootSix (other .a) Reg.SYS_MODE_BOOT_STEP) ∧
    (alive bootSix .a = true ∧ rd bootSix .a Reg.SYS_MODE_BOOT_STEP = 6) ∧
    ((half bootTen .a).fe.cal ≠ 0 ∧ alive bootTen .a = true) ∧
    (alive bootTen .a = true ∧ rd bootTen .a Reg.SYS_MODE_BOOT_STEP = 10) := by decide +kernel

theorem witness_StoreCommitsEnd :
    (1 ≠ 3 ∧ firstJob committing .a 1 = some (.set default)) ∧
    (2 ≠ 3 ∧ firstJob committing .a 2 = some (.ret default)) ∧
    (∃ j ∈ firstJob committing .a 1, 1 ≠ 3) := by decide +kernel

theorem witness_ImageCommandsAndWindow :
    (alive run .a = true ∧ imgStatus run .a 1 0 = 1) ∧
    (∃ slot ∈ (half verifyingA .a).mode.verifying, True) ∧
    (alive run .a = true ∧ imgStatus run .a 2 2 = 1 ∧ (verifySlot run .a 2 0).1 = 0) ∧
    (alive run .a = true ∧ imgStatus run .a 2 0 = 1 ∧ (verifySlot run .a 0 0).1 ≠ 0) ∧
    (alive run .a = true ∧ 0x08000000 ≤ 0x08004000 ∧ 0x08004000 ≤ 0x0801FFFF ∧ groupWritable run .a
      (0x08004000 % 0x20000 / 0x4000) = true) ∧
    (alive run .a = true ∧ 0x08000000 ≤ 0x08000000 ∧ 0x08000000 ≤ 0x0801FFFF ∧ groupWritable run .a
      (0x08000000 % 0x20000 / 0x4000) = false) := by decide +kernel

theorem witness_SettingGroupCommands :
    (alive stageable .a = true ∧ setStatus stageable .a 1 1 = 1 ∧ groupFails stageable .a 1 =
      none) ∧
    (∃ k ∈ groupFails run .a 1, alive run .a = true ∧ setStatus run .a 1 1 = 1) ∧
    (alive staged1 .a = true ∧ setStatus staged1 .a 2 1 = 1) ∧
    (∃ i ∈ (half run .a).image, alive run .a = true ∧ setStatus run .a 3 1 = 1) ∧
    (∃ p ∈ (half staging (other .b)).mode.pendSet, p.switch = false ∧ p.acked = false ∧ alive staging
      .b = true ∧ acts staging .b = false) ∧
    (∃ p ∈ (half stagingCrc .a).mode.pendSet, ∃ c ∈ (half stagingCrc .a).mode.crcReply, p.switch =
      false ∧ p.acked = false ∧ (half stagingCrc .a).mode.failReply = none ∧ c = rd stagingCrc .a
      Reg.SET_CRC_CRC) ∧
    (∃ p ∈ (half stagingCrcBad .a).mode.pendSet, ∃ c ∈ (half stagingCrcBad .a).mode.crcReply, p.switch
      = false ∧ p.acked = false ∧ (half stagingCrcBad .a).mode.failReply = none ∧ c ≠ rd stagingCrcBad
      .a Reg.SET_CRC_CRC) ∧
    (∃ p ∈ (half stagingFail .a).mode.pendSet, ∃ k ∈ (half stagingFail .a).mode.failReply, p.switch =
      false ∧ p.acked = false) ∧
    (∃ p ∈ (half staging .a).mode.pendSet, p.switch = false ∧ p.acked = false) ∧
    (∃ p ∈ (half switching (other .b)).mode.pendSet, p.switch = true ∧ p.acked = false ∧ alive switching
      .b = true ∧ acts switching .b = false ∧ (half switching .b).mode.pendSet = none) ∧
    (∃ p ∈ (half switchingB .a).mode.pendSet, ∃ q ∈ (half switchingB (other .a)).mode.pendSet,
      p.switch = true ∧ q.switch = true ∧ q.acked = true ∧ acts switchingB .a = true) ∧
    (∃ p ∈ (half switching .a).mode.pendSet, p.switch = true ∧ p.group < 8 ∧ p.acked = false) ∧
    (∃ p ∈ (half switchingB .b).mode.pendSet, p.switch = true ∧ p.group < 8 ∧ (acts switchingB .b =
      false ∨ p.acked = true)) := by decide +kernel

theorem witness_SampleTimingCommands :
    (0 ≤ 1 ∧ rdB tracking .b (pllLock 0) = true) ∧
    (0 ≤ 1 ∧ nget (half tracking .a).fe.pllAt 0 ≠ 0) ∧
    ((half tracking .b).fe.tracking = false ∧ (half tracking (other .b)).fe.tracking = true ∧
      twoHalves tracking = true) ∧
    ((half tracking .a).fe.tracking = true) ∧
    (rdB syncing .a Reg.SMP_SYNC_CFG_EN = true ∧ modeOf syncing .a ≠ mBOOT ∧ rd syncing .a
      Reg.SMP_SYNC_STAT_DRIVER = halfNo .a ∧ syncTooSoon syncing .a = false) ∧
    (rdB syncNear .a Reg.SMP_SYNC_CFG_EN = true ∧ modeOf syncNear .a ≠ mBOOT ∧ rd syncNear .a
      Reg.SMP_SYNC_STAT_DRIVER = halfNo .a ∧ syncTooSoon syncNear .a = true) ∧
    (alive commissioning .a = true ∧ modeOf commissioning .a = mCOMMISSION) ∧
    (alive run .a = true ∧ modeOf run .a ≠ mCOMMISSION) := by decide +kernel

theorem witness_InjectionTestCommands :
    (alive run .a = true) ∧
    (rdB injecting .a Reg.PCV_REF_EN = true ∧ (half injecting .a).fe.settling = true) ∧
    (0 < 256 ∧ (((Instr.injectionTestSlot .a 0) = Instr.injectionTestSlot .a 0 ∧ testEnabled run .a 0
      = true ∧ nget (half run .a).fe.defers 0 = 0) ∨ ((Instr.injectionTestSlot .a 0) =
      Instr.injectionTestDefer .a 0 ∧ nget (half run .a).fe.defers 0 ≠ 0) ∨ ((Instr.injectionTestSlot
      .a 0) = Instr.injectionRetest .a 0 ∧ testFailed run .a 0 = true ∧ nget (half run
      .a).fe.defers 0 = 0)) ∧ testReady run .a 0 = true) ∧
    (0 < 256 ∧ (((Instr.injectionTestSlot .a 0) = Instr.injectionTestSlot .a 0 ∧ testEnabled laidUp .a
      0 = true ∧ nget (half laidUp .a).fe.defers 0 = 0) ∨ ((Instr.injectionTestSlot .a 0) =
      Instr.injectionTestDefer .a 0 ∧ nget (half laidUp .a).fe.defers 0 ≠ 0) ∨
      ((Instr.injectionTestSlot .a 0) = Instr.injectionRetest .a 0 ∧ testFailed laidUp .a 0 = true ∧
      nget (half laidUp .a).fe.defers 0 = 0)) ∧ testReady laidUp .a 0 = false) ∧
    (∃ x ∈ (half measuring .a).fe.test, x.step = 1) ∧
    (∃ x ∈ (half spanning .a).fe.test, x.step = 2 ∧ spanOver spanning .a x = true ∧ (x.code < 0x30 ∨
      0xC0 ≤ x.code)) := by decide +kernel

theorem witness_BitstreamAndHousekeeping :
    (alive run .a = true ∧ 0 < 4 ∧ 1 % 8 = 1) ∧
    (alive run .a = true ∧ 0 < 4 ∧ 0 % 8 ≠ 1) ∧
    (0 < 4) ∧
    (0 < bsiCount run) := by decide +kernel

theorem witness_FastTripCommands :
    (fastPresent run 0 = true ∧ present run .a = true) ∧
    (rdB frozenCode .a (Reg.FCV_CFG_FROZEN_EN 0) = true ∧ rdB frozenCode .a (Reg.FCV_STAT_FROZEN 0) =
      false ∧ 1048576 ≤ (fastChan frozenCode .a 0).run ∧ 0 < 24) ∧
    ((fastFn deciding .a 0).sig = 1 ∧ (fastFn deciding .a 0).win.length = 32) ∧
    ((fastFn deciding .a 1).sig = 2) ∧
    (((fastFn deciding .a 2).rstate = 1 ∨ (fastFn deciding .a 2).rstate = 2)) ∧
    (((genFn deciding .a 2).rstate = 1 ∨ (genFn deciding .a 2).rstate = 2)) ∧
    (0 < 16 ∧ rdBit run .a Reg.FST_FTI_FAULT 0 = false) ∧
    (0 < 16 ∧ rdBit frozenCode .a Reg.FST_FTI_FAULT 0 = true) := by decide +kernel

theorem witness_ChainCommands :
    (∃ r ∈ chainRec run .a 0, respNow run .a 0 < 4 ∧ r.resp < 4 ∧ r.det / 2 ^ 30 = 0 ∧ (half run
      .a).fe.test = none ∧ (half run .a).fe.cal = 0 ∧ (half run .a).fe.inj = none) ∧
    (alive exporting .a = true ∧ switchStatus exporting .a 0 0 = 0x01) ∧
    (alive run .a = true ∧ switchStatus run .a 0 0 ≠ 0x01) ∧
    (∃ r ∈ chainRec injRuns .a 0, alive injRuns .a = true ∧ bit r.det 29 = true ∧ modeOf injRuns
      .a ≠ mBOOT) ∧
    (∃ resp ∈ (chainRun injRuns .a 0).pend, ∃ r ∈ chainRec injRuns .a 0, 0 < 160) ∧
    (alive run .a = true) ∧
    (alive injTest .a = true ∧ (injStatus injTest .a 0).1 = 0x01) ∧
    (alive run .a = true ∧ (injStatus run .a 0).1 ≠ 0x01) ∧
    (alive injRuns .a = true ∧ modeOf injRuns .a ≠ mBOOT ∧ (half injRuns .a).fe.inj.isSome =
      true) := by decide +kernel

theorem witness_GeneralAndRotationCommands :
    ((genFn deciding .a 0).frozen = true) ∧
    ((genFn deciding .a 1).resetting = true ∧ (genFn deciding .a 1).pu = false) ∧
    (∃ r ∈ genRec deciding .a 3, r.type = 0xA ∧ (genFn deciding .a 3).waits ≠ []) ∧
    (∃ f ∈ rotNext (rotFns rotReady .a false) (rotOf rotReady .a false).next, rotRuns rotReady
      .a = true ∧ rdB rotReady .a Reg.FAB_ROT_CTRL_EN = true ∧ (rotOf rotReady .a
      false).disabled = false ∧ (rotOf rotReady .a false).disabled = false ∧ (rotOf rotReady .a
      false).now = none ∧ rotHeld rotReady .a false f = false ∧ (rotOf rotReady .a false).idle = 9 ::
      []) ∧
    ((rotOf comparing .a false).now = some (1, 9, false) ∧ nget (rotOf comparing .a false).kat 9 = 0 ∧
      rotHeld comparing .a false 1 = false) ∧
    ((rotOf comparing .a false).now = some (1, 9, false) ∧ nget (rotOf comparing .a false).kat 9 = 0 ∧
      false = false) ∧
    ((rotOf comparing2 .a false).now = some (1, 9, true) ∧ nget (rotOf comparing2 .a false).kat 9 = 0
      ∧ true = true) ∧
    (nget (rotOf katRuns .a false).kat 9 ≠ 0) ∧
    ((rotOf comparing .a false).passAt ≠ 0 ∧ (rotOf comparing .a false).late = false ∧ (rotOf
      comparing .a false).passAt + 112500000000 < comparing.ticks + 1) := by decide +kernel

theorem witness_ArcLightCommands :
    (hasArc arcOn = true ∧ 0 ≤ 15 ∧ arcOn.field.io.arcLoaded = true ∧ rdBit arcOn .a Reg.ARC_LIGHT_LIGHT 0 = false) ∧
    (2 ≤ 15 ∧ rdBit arcOn .a Reg.ARC_LIGHT_LIGHT 2 = true ∧ rdBit arcOn .a Reg.ARC_AMB_SAT 2 = false) ∧
    (hasArc run = true ∧ 0 ≤ 15) ∧
    (0 ≤ 15 ∧ rd arcOn .a (Reg.ARC_LEVEL_LEVEL 0) < rxThresh arcOn 0 ∧ 2 * rd arcOn .a (Reg.ARC_BASE_BASE 0) <
      rxThresh arcOn 0 ∧ ((rd arcOn .a (Reg.ARC_LEVEL_LEVEL 0) : Int) - rd arcOn .a (Reg.ARC_BASE_BASE 0)).natAbs * 10
      < rxThresh arcOn 0) ∧
    (hasArc run = true ∧ 0 < 16) ∧
    (codesRun arcOn = true ∧ codeOn arcOn 0 = true ∧ 0 < 16 ∧ (arcRx arcOn 0).backoff = false) ∧
    (codesRun arcOn = true ∧ codeOn arcOn 1 = true ∧ 1 < 16 ∧ (arcRx arcOn 1).backoff = true) ∧
    (hasArc arcOn = true ∧ 0 ≤ 15 ∧ (arcRx arcOn 0).code ≠ 0) ∧
    (alive run .a = true ∧ hasArc run = true ∧ modeOf run .a ≠ mBOOT ∧ holds run .a = true) := by decide +kernel

theorem witness_FieldInputCommands :
    (0 ≤ 7) ∧
    (0 ≤ 63 ∧ rdBit dioOn .a Reg.DIO_SUP_MISSING (0 / 8) = false) ∧
    (twoHalves run = true ∧ absent run .a = false ∧ absent run .b = false ∧ (0 < 16 ∨ (32 ≤ 0 ∧ 0 < 64 ∧ rdBit run .a
      Reg.TRM_CLASS_DO_TRIP (0 - 32) = true))) ∧
    (0 ≤ 3 ∧ rdB dioOn .a (Reg.TRM_TCS_CFG_EN 0) = true ∧ rdB dioOn .a (Reg.TRM_TCS_STAT_PAUSED 0) = false) ∧
    (0 ≤ 3) := by decide +kernel

theorem witness_FieldOutputCommands :
    (0 ≤ 31 ∧ groupGood dioOn (0 / 8) = true ∧ (false = true → doOn dioOn 0 = true)) ∧
    (0 ≤ 31 ∧ groupGood dioOn (0 / 8) = true ∧ (5 < 5 → doOn dioOn 0 = true ∧ olOn dioOn 0 = true)) ∧
    (0 ≤ 31 ∧ groupGood dioOn (0 / 8) = true ∧ rdBit dioOn .a Reg.DIO_DO_VAL_VAL 0 = false ∧ olOff dioOn 0 = true ∧
      tcsOn dioOn 0 = false ∧ nget dioOn.field.io.offAt 0 = 0) ∧
    (1 ≤ 31 ∧ groupGood dioOn (1 / 8) = true ∧ doOn dioOn 1 = true) ∧
    (2 ≤ 31 ∧ nget dioOn.field.io.retry 2 ≠ 0) ∧
    (holds run .a = true) ∧
    (holds run .b = false) ∧
    (0 < 32 ∧ dioOn.field.io.tmoStopped = false ∧ dioOn.field.io.refreshAt ≠ 0 ∧ bit 1 0 = true ∧ bit (leaderDos
      dioOn) 0 = true ∧ rdBit dioOn .a Reg.DIO_DO_TMO_TMO 0 = false) ∧
    (alive run .a = true ∧ modeOf run .a ≠ mBOOT ∧ holds run .a = true) := by decide +kernel

theorem witness_RecorderCommands :
    (0 < 8 ∧ (areaRec armed .a 0).isSome = true ∧ (areaRun armed .a 0).state = 1 ∧ rdB armed
      .a Reg.PWR_PF_STAT_PF = false ∧ (half armed .a).dec.due.find? (fun d => d.2.1 == 0 && d.2.2.1 ==
      0) = none ∧ bit 1 0 = true) ∧
    (0 < 8 ∧ (areaRec armedDue .a 0).isSome = true ∧ (areaRun armedDue .a 0).state = 1 ∧ rdB armedDue .a
      Reg.PWR_PF_STAT_PF = false ∧ (half armedDue .a).dec.due.find? (fun d => d.2.1 == 0 && d.2.2.1 == 0) = some (1,
      0, 0, 7) ∧ bit 1 0 = true) ∧
    (∃ ar ∈ areaRec triggered .a 0, 0 < 8 ∧ (areaRun triggered .a 0).state = 2 ∧ (areaRun triggered
      .a 0).seq < 2 ^ 32 ∧ (areaRun triggered .a 0).postLeft = 0) ∧
    (∃ ar ∈ areaRec triggered .a 0, 0 < 8 ∧ (areaRun triggered .a 0).state = 2 ∧ (areaRun triggered
      .a 0).seq < 2 ^ 32 ∧ ar.maxLen ≤ (areaRun triggered .a 0).preActual + (areaRun triggered
      .a 0).postDone) ∧
    (∃ g ∈ unmeasured segClosed .a 0, (areaRec segClosed .a 0).isSome = true) ∧
    (alive run .a = true ∧ acqStatus run .a 1 1 = 0x02 ∧ rdB run .a Reg.PWR_PF_STAT_PF =
      false) ∧
    (alive run .a = true ∧ acqStatus run .a 2 1 = 0x02) ∧
    (alive run .a = true ∧ acqStatus run .a 3 1 = 0x02 ∧ modeOf run .a ≠ mLAYUP) ∧
    (alive run .a = true) := by decide +kernel

theorem witness_CommitAndCrateCommands :
    (∃ g ∈ nextPending segPending .a, ∃ ar ∈ areaRec segPending .a g.area, ∃ i ∈ (half segPending
      .a).image, (half segPending .a).acq.job = none ∧ g.measured = true ∧ g.retried = false ∧ rdB
      segPending .a Reg.PWR_PF_STAT_PF = false ∧ running segPending .a = true) ∧
    (∃ g ∈ jobSegment segJob .a, ∃ ar ∈ areaRec segJob .a g.area, ∃ i ∈ (half segJob
      .a).image, (half segJob .a).crt.pos < (half segJob .a).crt.seg.length) ∧
    (∃ g ∈ jobSegment segJob .a, ∃ ar ∈ areaRec segJob .a g.area, ∃ i ∈ (half segJob
      .a).image, True) ∧
    (∃ j ∈ (half crateRuns .a).crt.job, hasCrate crateRuns = true ∧ rd crateRuns .a
      Reg.CRT_STAT_HSTATE = 1 ∧ j.op = 1) ∧
    (∃ j ∈ (half crateRuns .a).crt.job, hasCrate crateRuns = true ∧ rd crateRuns .a
      Reg.CRT_STAT_HSTATE = 1) ∧
    (∃ g ∈ jobSegment segJobEnd .a, 0 < 8 ∧ 0 < 2 ^ 32 ∧ (half segJobEnd .a).acq.job = some (0, 0) ∧
      (half segJobEnd .a).crt.seg.length ≤ (half segJobEnd .a).crt.pos ∧ (((Instr.commitJobDone .a
      true 0) = Instr.commitJobDone .a true 0 ∧ g.retried = false) ∨ ((Instr.commitJobDone .a true 0) =
      Instr.commitRetry .a true 0 ∧ g.retried = true))) ∧
    (∃ g ∈ jobSegment segJobEnd .a, 0 < 8 ∧ 0 < 2 ^ 32 ∧ (half segJobEnd .a).acq.job = some (0, 0) ∧
      (half segJobEnd .a).crt.seg.length ≤ (half segJobEnd .a).crt.pos ∧ g.retried = false) ∧
    (∃ g ∈ jobSegment segJobAgain .a, 0 < 8 ∧ 0 < 2 ^ 32 ∧ (half segJobAgain .a).acq.job = some (0, 0)
      ∧ (half segJobAgain .a).crt.seg.length ≤ (half segJobAgain .a).crt.pos ∧ g.retried = true) ∧
    (alive crateSet .a = true ∧ hasCrate crateSet = true ∧ crtStatus crateSet .a 1 true = 0x01 ∧ 0 <
      (jobOf crateSet .a).len) ∧
    (∃ j ∈ (half crateWaits .a).crt.job, alive crateWaits .a = true ∧ hasCrate crateWaits = true ∧
      crtStatus crateWaits .a 2 true = 0x01 ∧ j.consumed < j.len ∧ j.aborting = false) ∧
    (∃ j ∈ (half crateWaits .a).crt.job, alive crateWaits .a = true ∧ hasCrate crateWaits = true ∧
      crtStatus crateWaits .a 3 false = 0x01 ∧ rd crateWaits .a Reg.CRT_STAT_HSTATE = 2) ∧
    (∃ j ∈ (half crateRuns .a).crt.job, alive crateRuns .a = true ∧ hasCrate crateRuns = true ∧
      crtStatus crateRuns .a 3 false = 0x01 ∧ rd crateRuns .a Reg.CRT_STAT_HSTATE ≠ 2) := by
  refine ⟨?_, ?_, ?_, ?_, ?_, ?_, ?_, ?_, ?_, ?_, ?_, ?_⟩ <;> decide +kernel

theorem witness_TimeBaseCommands :
    (alive timeFree .a = true ∧ timeStatus timeFree .a 1 = 0x02 ∧ rd timeFree .a Reg.TIME_SET_NS_NS <
      1000000000) ∧
    (alive timeFree .a = true ∧ timeStatus timeFree .a 2 = 0x01) ∧
    (alive timeFree .a = true ∧ timeStatus timeFree .a 3 = 0x02) ∧
    (alive timePend .a = true ∧ timeStatus timePend .a 4 = 0x02) ∧
    (rdB timePend .a Reg.TIME_STAT_PENDING = true) ∧
    (alive timeFree .a = true ∧ holds timeFree .a = true ∧ (toSigned 32 0).natAbs ≤ 200000 ∧ rdB
      timeFree .a Reg.TIME_CFG_SERVO = false) ∧
    (alive run .b = true ∧ holds run .b = false) ∧
    (ptpSlave ptpTime 0 = true ∧ ptpTime.field.time.master = 0 + 1) ∧
    (ptpSlave ptpTime 0 = true ∧ ptpTime.field.time.syncWait = some 0) ∧
    (ptpSlave ptpTime 0 = true) ∧
    (alive run .a = true ∧ 0 = rd run .a Reg.TIME_CFG_DOMAIN) ∧
    (alive run .a = true ∧ 0 = rd run .a Reg.TIME_CFG_DOMAIN ∧ (holds run .a = true ∨ rdB run .a
      Reg.TIME_CFG_CLOCK = true)) ∧
    (run.field.supply = true) ∧
    (timeSrc ptpTime ≠ 0 ∧ ptpTime.field.time.measured = true) ∧
    (rdB gridSlewed .a Reg.TIME_STAT_GRID_SLEW = true ∧ gridSlewed.field.time.grid = 0) ∧
    (rdB run .a Reg.TIME_STAT_UNLOCK = false) ∧
    (rdB unlocked .a Reg.TIME_STAT_UNLOCK = true) ∧
    ((rd timeFree .a Reg.TIME_PPS_MODE = 1 ∨ (rd timeFree .a Reg.TIME_PPS_MODE = 2 ∧ synced timeFree = true)) ∧ 1 ≤ rd
      timeFree .a Reg.TIME_PPS_WIDTH ∧ rd timeFree .a Reg.TIME_PPS_WIDTH ≤ 500) := by decide +kernel

theorem witness_StocktakeAndSchedule :
    (alive run .a = true ∧ stkStatus run .a 1 = 0x02) ∧
    (alive domainSet .a = true ∧ stkStatus domainSet .a 2 = 0x02 ∧ rdB domainSet .a
      Reg.STK_STAT_DPEND = false ∧ rd domainSet .a Reg.STK_DLAST_TAG ≠ rd domainSet .a
      Reg.STK_DTAG_TAG ∧ now domainSet ≤ wordsTime (rd domainSet .a Reg.STK_DNS_NS) (rd domainSet .a
      Reg.STK_DSEC_LO_SEC) (rd domainSet .a Reg.STK_DSEC_HI_SEC)) ∧
    (∃ d ∈ (half domainRelay (other .a)).stk.dRelay, running domainRelay .a = true ∧ rdB domainRelay
      .a Reg.STK_STAT_DPEND = false ∧ rd domainRelay .a Reg.STK_DLAST_TAG ≠ d.2 ∧ now domainRelay ≤
      d.1) ∧
    (rdB domainDue .a Reg.STK_STAT_DPEND = true ∧ (half domainDue .a).stk.dTime ≤ now domainDue) ∧
    (alive run .a = true ∧ 0 < 16 ∧ schedArgOk (0x01000000 / 2 ^ 24 % 16) (0x01000000 % 2 ^ 24) = true ∧ now
      run ≤ schedTime run .a 0) ∧
    (alive run .a = true ∧ 0 < 16 ∧ schedArgOk (0 / 2 ^ 24 % 16) (0 % 2 ^ 24) = false) ∧
    (alive run .a = true ∧ 0 < 16) ∧
    (0 < 16 ∧ schedArmed scheduled .a 0 = true ∧ now scheduled = schedTime scheduled .a 0 ∧ rd
      scheduled .a (Reg.TIME_SCH_CFG_ACTION 0) = 1 ∧ stkStatus scheduled .a 1 = 0x02) ∧
    (1 < 16 ∧ schedArmed scheduled .a 1 = true ∧ now scheduled = schedTime scheduled .a 1 ∧ rd
      scheduled .a (Reg.TIME_SCH_CFG_ACTION 1) = 2) ∧
    (2 < 16 ∧ schedArmed scheduled .a 2 = true ∧ now scheduled = schedTime scheduled .a 2 ∧ rd
      scheduled .a (Reg.TIME_SCH_CFG_ACTION 2) = 3 ∧ acqStatus scheduled .a 1 (rd scheduled .a
      (Reg.TIME_SCH_CFG_ARG 2)) = 0x02 ∧ rdB scheduled .a Reg.PWR_PF_STAT_PF = false) ∧
    (3 < 16 ∧ schedArmed scheduled .a 3 = true ∧ now scheduled = schedTime scheduled .a 3 ∧ rd
      scheduled .a (Reg.TIME_SCH_CFG_ACTION 3) = 4 ∧ (injStatus scheduled .a (rd scheduled .a
      (Reg.TIME_SCH_CFG_ARG 3))).1 = 0x01) ∧
    (4 < 16 ∧ schedArmed scheduled .a 4 = true ∧ now scheduled = schedTime scheduled .a 4 ∧ rd
      scheduled .a (Reg.TIME_SCH_CFG_ACTION 4) = 5 ∧ holds scheduled .a = true ∧ rd scheduled .a
      Reg.TIME_PPS_MODE = 3) := by decide +kernel

theorem witness_ReceivedFramesAct :
    (∃ e ∈ pointSub arcade .a (frNum frameTrip 16 4 % 2 ^ 20) 0, ardActive arcade .a = true ∧ rdB
      arcade .a (laneUpFld 0) = true ∧ frClass frameTrip = 0 ∧ frType frameTrip = 1 ∧
      frameCheck arcade .a 0 frameTrip = 0 ∧ bridgeRefuses arcade .a 0 frameTrip = false ∧ e.2.owner = frSrc frameTrip) ∧
    (∃ e ∈ pointSub arcade .a (frNum frameUpdate 36 4 % 2 ^ 20) 2, ardActive arcade .a = true ∧ rdB
      arcade .a (laneUpFld 0) = true ∧ frClass frameUpdate = 2 ∧ frType frameUpdate = 1 ∧
      frameCheck arcade .a 0 frameUpdate = 0 ∧ bridgeRefuses arcade .a 0 frameUpdate = false ∧ bit (frNum frameUpdate 36
      4) 31 = true ∧ e.2.owner = frSrc frameUpdate) ∧
    (ardActive arcade .a = true ∧ rdB arcade .a (laneUpFld 0) = true ∧ frClass frameStream = 1 ∧
      frType frameStream = 1 ∧ frameCheck arcade .a 0 frameStream = 0 ∧ bridgeRefuses arcade .a 0
      frameStream = false ∧ ((ardCfg arcade .a).ssubs.zipIdx.find? fun e => e.1.src == frSrc frameStream &&
      e.1.stream == frNum frameStream 16 1).isSome = true) ∧
    (ardActive arcade .a = true ∧ rdB arcade .a (laneUpFld 0) = true ∧ frClass frameTake = 2 ∧
      frameCheck arcade .a 0 frameTake = 0 ∧ bridgeRefuses arcade .a 0 frameTake = false ∧ frType
      frameTake = 2 ∧ rdB arcade .a Reg.STK_STAT_DPEND = false ∧ rd arcade .a Reg.STK_DLAST_TAG ≠
      frNum frameTake 26 4 ∧ now arcade ≤ frTime frameTake 16) ∧
    (ardActive arcade .a = true ∧ rdB arcade .a (laneUpFld 0) = true ∧ frClass frameTime3 = 2 ∧
      frameCheck arcade .a 0 frameTime3 = 0 ∧ bridgeRefuses arcade .a 0 frameTime3 = false ∧ frType
      frameTime3 = 3 ∧ timeSrc arcade = 2 ∧ holds arcade .a = true ∧ servoRuns arcade = true) ∧
    (ardActive arcade .a = true ∧ rdB arcade .a (laneUpFld 0) = true ∧ frClass frameMap = 2 ∧
      frameCheck arcade .a 0 frameMap = 0 ∧ bridgeRefuses arcade .a 0 frameMap = false ∧ frType frameMap
      = 6 ∧ frSrc frameMap ≠ (ardCfg arcade .a).unit ∧ frSrc frameMap / 64 = (ardCfg arcade .a).unit /
      64) ∧
    (ardActive arcade .a = true ∧ rdB arcade .a (laneUpFld 0) = true ∧ frClass frameOwnMap = 2 ∧
      frameCheck arcade .a 0 frameOwnMap = 0 ∧ bridgeRefuses arcade .a 0 frameOwnMap = false ∧ frType
      frameOwnMap = 6 ∧ frSrc frameOwnMap = (ardCfg arcade .a).unit ∧ ownFrame arcade .a frameOwnMap = false) ∧
    (0 < 3 ∧ ardActive arcade .a = true ∧ rdB arcade .a (laneUpFld 0) = true ∧ frClass frameReq = 2 ∧
      frameCheck arcade .a 0 frameReq = 0 ∧ frType frameReq = 4 ∧ nget (half arcade .a).ard.seqs 2 < 2 ^
      32) ∧
    (0 < 3 ∧ ardActive arcade .a = true ∧ rdB arcade .a (laneUpFld 0) = true ∧ frClass frameResp = 2 ∧
      frameCheck arcade .a 0 frameResp = 0 ∧ frType frameResp = 5) ∧
    (ardActive arcade .a = true ∧ rdB arcade .a (laneUpFld 0) = true ∧ frClass frameBulk = 3 ∧ frType
      frameBulk = 1 ∧ frameCheck arcade .a 0 frameBulk = 0 ∧ bridgeRefuses arcade .a 0 frameBulk = false
      ∧ (frDst frameBulk = (ardCfg arcade .a).unit ∨ frDst frameBulk = 0x3FFF) ∧ frameBulk.length = 64 ∧ 0 <
      28) := by
  refine ⟨⟨_, rfl, ?_⟩, ⟨_, rfl, ?_⟩, ?_, ?_, ?_, ?_, ?_, ?_, ?_, ?_⟩ <;> and_intros <;>
    first
      | decide +kernel
      | (apply frameCheck_sealed <;> first | decide +kernel | (apply policed_first <;> decide +kernel))

theorem witness_LanesAndPublications :
    (present run .a = true ∧ 0 < 3) ∧
    (ardActive arcade .a = true ∧ nget (half arcade .a).ard.seqs 2 < 2 ^ 32) ∧
    (∃ r ∈ (ardCfg arcade .a).pubs[0]?, running arcade .a = true ∧ pubPaused arcade .a 0 =
      false) ∧
    (∃ r ∈ (ardCfg arcade .a).pubs[0]?, nget (half arcade .a).ard.repeats 0 ≠ 0) ∧
    (running arcade .a = true ∧ ((ardCfg arcade .a).subs[0]?).isSome = true ∧ (pointState arcade
      .a 0).stale = false) := by decide +kernel

theorem witness_PaceAndRetransmission :
    (alive run .a = true) ∧
    (alive paceLowLong .a = true ∧ rdB paceLowLong .a Reg.SYS_PACE_PACE_LOW = true ∧ 10000 ≤ (half
      paceLowLong .a).mode.paceGood) ∧
    (leaderPublishes gooseSet .a = true ∧ gooseOn gooseSet .a 0 2 = true ∧ 2 < 32) := by decide +kernel

theorem witness_SmallCommandFrames :
    (∃ t, exec (.acqMselWrite .a 0) run = .next t) ∧ (∃ t, exec (.ldgRselWrite .a 5) ledgerBusy = .next t) ∧
    (∃ t, exec (.pstImgDataWrite .a 7) slotOpen = .next t ∧ (half run .a).port.openSlot = none) ∧
    (∃ t, exec (.settingWindowWrite .a 0x08000000 1) run = .next t) ∧ (∃ t, exec (.timeSlewWrite .a 100) timeFree = .next t) ∧
    (∃ t, exec (.ethLinkChange .a true true) run = .next t) ∧ (∃ t, exec (.ptpAnnounce 0 1 true (some 37)) ptpTime = .next t) ∧
    (∃ t, exec (.handover .b) run = .next t) :=
  ⟨⟨_, rfl⟩, ⟨_, rfl⟩, ⟨_, rfl, by decide +kernel⟩, ⟨_, rfl⟩, ⟨_, rfl⟩, ⟨_, rfl⟩, ⟨_, rfl⟩, ⟨_, rfl⟩⟩

theorem witness_EmptyQueueStepIsOneTick : run.pending = [] := rfl

theorem witness_ResetStateHoldsResetValues :
    (∃ d ∈ findReg 0x10, 0x10 < 0x1B0000 ∧ d.fields ≠ []) ∧ (findReg 4).isSome = true := by decide +kernel

theorem witness_StepKeepsInvariant :
    Machine.Inv run ∧ ∃ t, step { run with pending := [.nop .a] } = .next t := ⟨by unfold Machine.Inv; decide +kernel, _, rfl⟩

theorem witness_EveryCommandKeepsTheRest : ∃ t, exec (.enterTest .a) run = .next t := ⟨_, rfl⟩

theorem witness_ResetDomains :
    (present run .a = true ∧ (half run .a).mode.powered = true) ∧ (present run .b = true ∧ (half run .b).mode.powered = true) ∧
    run.field.supply = true ∧ rdB run .a Reg.SYS_LOCKOUT_ACTIVE = false := by decide +kernel

/-! ### Ill-formed commands: one for each check -/

theorem test_ill_formed_1 :
    wellFormed (.registerWrite .a (2 ^ 32) 0) = false ∧
    wellFormed (.registerWrite .a 0 (2 ^ 32)) = false ∧
    wellFormed (.readClear .a (2 ^ 32)) = false ∧
    wellFormed (.powerOn 65536 0) = false ∧
    wellFormed (.powerOn 0 65536) = false ∧
    wellFormed (.halfResetsReleased none 4 []) = false ∧
    wellFormed (.bootComplete .a (2 ^ 32)) = false ∧
    wellFormed (.enableOutput .a 4 0) = false ∧
    wellFormed (.enableOutput .a 0 256) = false ∧
    wellFormed (.disableOutput .a 4 0) = false ∧
    wellFormed (.disableOutput .a 0 256) = false ∧
    wellFormed (.lockoutRequest .a 4) = false ∧
    wellFormed (.paceMeasurement .a []) = false ∧
    wellFormed (.verify .a 4) = false ∧
    wellFormed (.imageVerifyDone .a 3) = false ∧
    wellFormed (.activate .a 4 0) = false ∧
    wellFormed (.activate .a 0 3) = false ∧
    wellFormed (.settingWindowWrite .a (2 ^ 32) 0) = false ∧
    wellFormed (.settingWindowWrite .a 0 (2 ^ 32)) = false ∧
    wellFormed (.stage .a 8) = false ∧
    wellFormed (.switch .a 8) = false ∧
    wellFormed (.loadDefault .a 8) = false ∧
    wellFormed (.hkScan .a [] 0) = false ∧
    wellFormed (.hkScan .a (List.replicate 32 0) (2 ^ 12)) = false ∧
    wellFormed (.fastSample .a 24 0 true true 0) = false ∧
    wellFormed (.fastSample .a 0 (2 ^ 14) true true 0) = false ∧
    wellFormed (.fastSample .a 0 0 true true (2 ^ 79)) = false ∧
    wellFormed (.fcvFrozen .a 24) = false ∧
    wellFormed (.sigWindowClose .a 48) = false ∧
    wellFormed (.sigHoldEnd .a 48) = false ∧
    wellFormed (.maxrExpiry .a true 192) = false ∧
    wellFormed (.ftiEdge 16 true) = false ∧
    wellFormed (.ftiFault 16) = false ∧
    wellFormed (.injectionTestSlot .a 256) = false ∧
    wellFormed (.injectionTestDefer .a 256) = false ∧
    wellFormed (.injectionRetest .a 256) = false ∧
    wellFormed (.testStart .a 256) = false ∧
    wellFormed (.testEnd .a 256) = false ∧
    wellFormed (.tilePickup .a 256) = false ∧
    wellFormed (.mclkFreqWrite .a 4 0) = false := by decide +kernel

theorem test_ill_formed_2 :
    wellFormed (.mclkFreqWrite .a 0 8) = false ∧
    wellFormed (.bsiClockMeasure .a 4 0) = false ∧
    wellFormed (.bsiClockMeasure .a 0 (2 ^ 32)) = false ∧
    wellFormed (.bsiOpenDetect .a 32 true) = false ∧
    wellFormed (.bsiNoEdge .a 32) = false ∧
    wellFormed (.bsiDensity .a 32 0) = false ∧
    wellFormed (.bsiDensity .a 0 4097) = false ∧
    wellFormed (.pllUnlock .a 2) = false ∧
    wellFormed (.pllRelock .a 2) = false ∧
    wellFormed (.chainOutput .a 160 0 0 0 0 0 none true) = false ∧
    wellFormed (.chainOutput .a 0 0 0 0 256 0 none true) = false ∧
    wellFormed (.chainOutput .a 0 0 0 0 0 (2 ^ 79) none true) = false ∧
    wellFormed (.responseSwitchBoundary .a 256) = false ∧
    wellFormed (.fltSwitch .a 256 0) = false ∧
    wellFormed (.fltSwitch .a 0 256) = false ∧
    wellFormed (.peakReset .a 256) = false ∧
    wellFormed (.pcvFltSelWrite .a (2 ^ 32)) = false ∧
    wellFormed (.injStart .a 16) = false ∧
    wellFormed (.pcvInjDataAccess .a (some (2 ^ 32))) = false ∧
    wellFormed (.fstTplDataAccess .a (some (2 ^ 32))) = false ∧
    wellFormed (.fstFstatRead .a 48) = false ∧
    wellFormed (.freezeDrop .a 192) = false ∧
    wellFormed (.definiteResetExpiry .a 192) = false ∧
    wellFormed (.alignWaitExpiry .a 192) = false ∧
    wellFormed (.katComplete .a true 208 true 0) = false ∧
    wellFormed (.katComplete .a true 0 true (2 ^ 16)) = false ∧
    wellFormed (.fabUcDataAccess .a (some (2 ^ 32))) = false ∧
    wellFormed (.lightRise 16 0 true []) = false ∧
    wellFormed (.lightRise 0 (2 ^ 16) true []) = false ∧
    wellFormed (.lightFall 16) = false ∧
    wellFormed (.lightLevelSample 16 0 true) = false ∧
    wellFormed (.lightLevelSample 0 (2 ^ 18) true) = false ∧
    wellFormed (.ambientResettled 16) = false ∧
    wellFormed (.stretchExpiry .a 16 0) = false ∧
    wellFormed (.stretchExpiry .a 0 4) = false ∧
    wellFormed (.codeRetry 16) = false ∧
    wellFormed (.codeComplete 16 0 0 0 0 true true true) = false ∧
    wellFormed (.codeComplete 0 0 0 16 0 true true true) = false ∧
    wellFormed (.codeComplete 0 0 0 0 (2 ^ 18) true true true) = false ∧
    wellFormed (.codeNow .a (2 ^ 16)) = false := by decide +kernel

theorem test_ill_formed_3 :
    wellFormed (.clrCounts .a (2 ^ 16)) = false ∧
    wellFormed (.resume .a (2 ^ 16)) = false ∧
    wellFormed (.voteDisagreeTimer 64) = false ∧
    wellFormed (.tcsFailTimer 4) = false ∧
    wellFormed (.supplyMeasure 8 0) = false ∧
    wellFormed (.supplyMeasure 0 65536) = false ∧
    wellFormed (.diWindow 64 true 0 0) = false ∧
    wellFormed (.diWindow 0 true 256 0) = false ∧
    wellFormed (.diWindow 0 true 0 (2 ^ 79)) = false ∧
    wellFormed (.doOverload 32 true 0) = false ∧
    wellFormed (.doOverload 0 true 65536) = false ∧
    wellFormed (.doOpenOn 32 0) = false ∧
    wellFormed (.doOpenOn 0 65536) = false ∧
    wellFormed (.doOpenOffCheck 32 true) = false ∧
    wellFormed (.doOvertemp 32) = false ∧
    wellFormed (.doOvertempRetry 32 true) = false ∧
    wellFormed (.grpOvercurrent 8 0) = false ∧
    wellFormed (.grpOvercurrent 0 65536) = false ∧
    wellFormed (.doRefreshTimeout (2 ^ 32)) = false ∧
    wellFormed (.unlatch .a 32) = false ∧
    wellFormed (.eventTaskLimit .a 48) = false ∧
    wellFormed (.ld .a 16 0 true) = false ∧
    wellFormed (.ld .a 0 (2 ^ 17) true) = false ∧
    wellFormed (.and .a 16 0 true) = false ∧
    wellFormed (.and .a 0 (2 ^ 17) true) = false ∧
    wellFormed (.or .a 16 0 true) = false ∧
    wellFormed (.or .a 0 (2 ^ 17) true) = false ∧
    wellFormed (.xor .a 16 0 true) = false ∧
    wellFormed (.xor .a 0 (2 ^ 17) true) = false ∧
    wellFormed (.andPush .a 16 0 true) = false ∧
    wellFormed (.andPush .a 0 (2 ^ 17) true) = false ∧
    wellFormed (.orPush .a 16 0 true) = false ∧
    wellFormed (.orPush .a 0 (2 ^ 17) true) = false ∧
    wellFormed (.xorPush .a 16 0 true) = false ∧
    wellFormed (.xorPush .a 0 (2 ^ 17) true) = false ∧
    wellFormed (.st .a 16 0 true) = false ∧
    wellFormed (.st .a 0 (2 ^ 17) true) = false ∧
    wellFormed (.set .a 16 0) = false ∧
    wellFormed (.set .a 0 (2 ^ 17)) = false ∧
    wellFormed (.rst .a 16 0) = false := by decide +kernel

theorem test_ill_formed_4 :
    wellFormed (.rst .a 0 (2 ^ 17)) = false ∧
    wellFormed (.pedge .a (2 ^ 17)) = false ∧
    wellFormed (.nedge .a (2 ^ 17)) = false ∧
    wellFormed (.ton .a (2 ^ 17)) = false ∧
    wellFormed (.tof .a (2 ^ 17)) = false ∧
    wellFormed (.tp .a (2 ^ 17)) = false ∧
    wellFormed (.tonr .a (2 ^ 17)) = false ∧
    wellFormed (.ctu .a (2 ^ 17)) = false ∧
    wellFormed (.ctd .a (2 ^ 17)) = false ∧
    wellFormed (.jmp .a (2 ^ 18)) = false ∧
    wellFormed (.jmpc .a (2 ^ 18)) = false ∧
    wellFormed (.jmpcn .a (2 ^ 18)) = false ∧
    wellFormed (.xlRetransmit .a (2 ^ 16)) = false ∧
    wellFormed (.gavelDisagree .a 5) = false ∧
    wellFormed (.lsImage .a (2 ^ 16)) = false ∧
    wellFormed (.eccUncorrectable .a 3) = false ∧
    wellFormed (.recorderTrigger .a 256 0 0 0) = false ∧
    wellFormed (.recorderTrigger .a 0 5 0 0) = false ∧
    wellFormed (.recorderTrigger .a 0 0 64 0) = false ∧
    wellFormed (.recorderTrigger .a 0 0 0 (2 ^ 79)) = false ∧
    wellFormed (.segmentClose .a 8) = false ∧
    wellFormed (.segmentMaxLen .a 8) = false ∧
    wellFormed (.measurementsDone .a 8) = false ∧
    wellFormed (.commitJobDone .a true 256) = false ∧
    wellFormed (.commitRetry .a true 256) = false ∧
    wellFormed (.trigger .a 256) = false ∧
    wellFormed (.acqStop .a 256) = false ∧
    wellFormed (.acqStart .a 256) = false ∧
    wellFormed (.acqMselWrite .a (2 ^ 32)) = false ∧
    wellFormed (.powerFailDeclare 65536 0 []) = false ∧
    wellFormed (.powerFailDeclare 0 65536 []) = false ∧
    wellFormed (.powerRestoreBoot 65536 0) = false ∧
    wellFormed (.powerRestoreBoot 0 65536) = false ∧
    wellFormed (.storeCommitDone .a 4 true 0) = false ∧
    wellFormed (.storeCommitDone .a 0 true (2 ^ 15)) = false ∧
    wellFormed (.imgSlotOpen .a 4) = false ∧
    wellFormed (.imgSlotClose .a 4) = false ∧
    wellFormed (.imgSlotAbort .a 4) = false ∧
    wellFormed (.pstImgDataWrite .a (2 ^ 32)) = false ∧
    wellFormed (.ledgerAppend .a (2 ^ 16) 0 []) = false := by decide +kernel

theorem test_ill_formed_5 :
    wellFormed (.ledgerAppend .a 0 (2 ^ 16) []) = false ∧
    wellFormed (.ledgerAppend .a 0 0 (List.replicate 29 0)) = false ∧
    wellFormed (.ledgerClear .a 256 .host) = false ∧
    wellFormed (.ldgRselWrite .a (2 ^ 32)) = false ∧
    wellFormed (.scheduleArm .a 16 0) = false ∧
    wellFormed (.scheduleArm .a 0 (2 ^ 32)) = false ∧
    wellFormed (.scheduleDisarm .a 16 0) = false ∧
    wellFormed (.scheduleDisarm .a 0 (2 ^ 32)) = false ∧
    wellFormed (.scheduledStocktake .a 16) = false ∧
    wellFormed (.scheduledSetSwitch .a 16) = false ∧
    wellFormed (.recTrigger .a 16) = false ∧
    wellFormed (.testInject .a 16) = false ∧
    wellFormed (.pulse .a 16) = false ∧
    wellFormed (.timeSlewWrite .a (2 ^ 32)) = false ∧
    wellFormed (.ptpSync 256 0 0 true) = false ∧
    wellFormed (.ptpSync 0 (2 ^ 80) 0 true) = false ∧
    wellFormed (.ptpAnnounce 256 0 true none) = false ∧
    wellFormed (.ptpAnnounce 0 (2 ^ 80) true none) = false ∧
    wellFormed (.laneUp .a 3) = false ∧
    wellFormed (.laneDown .a 3) = false ∧
    wellFormed (.intertrip .a 3 (List.replicate 64 0)) = false ∧
    wellFormed (.intertrip .a 0 []) = false ∧
    wellFormed (.stream .a 3 (List.replicate 64 0)) = false ∧
    wellFormed (.stream .a 0 []) = false ∧
    wellFormed (.update .a 3 (List.replicate 64 0)) = false ∧
    wellFormed (.update .a 0 []) = false ∧
    wellFormed (.domainTake .a 3 (List.replicate 64 0)) = false ∧
    wellFormed (.domainTake .a 0 []) = false ∧
    wellFormed (.timeSync .a 3 (List.replicate 64 0) 0) = false ∧
    wellFormed (.timeSync .a 0 [] 0) = false ∧
    wellFormed (.pdelayReq .a 3 (List.replicate 64 0)) = false ∧
    wellFormed (.pdelayReq .a 0 []) = false ∧
    wellFormed (.pdelayResp .a 3 (List.replicate 64 0) 0) = false ∧
    wellFormed (.pdelayResp .a 0 [] 0) = false ∧
    wellFormed (.pdelayResp .a 0 (List.replicate 64 0) (2 ^ 32)) = false ∧
    wellFormed (.map .a 3 (List.replicate 64 0)) = false ∧
    wellFormed (.map .a 0 []) = false ∧
    wellFormed (.bulk .a 3 (List.replicate 64 0)) = false ∧
    wellFormed (.bulk .a 0 []) = false ∧
    wellFormed (.mapSend .a [] (List.replicate 3 0)) = false := by decide +kernel

theorem test_ill_formed_6 :
    wellFormed (.mapSend .a (List.replicate 3 0) []) = false ∧
    wellFormed (.bazaarRefresh .a (2 ^ 17)) = false ∧
    wellFormed (.intertripRepeat .a (2 ^ 17)) = false ∧
    wellFormed (.pointStale .a (2 ^ 17)) = false ∧
    wellFormed (.sessionOpen .a 256 0) = false ∧
    wellFormed (.sessionOpen .a 0 4) = false ∧
    wellFormed (.sessionRequest .a 256 0 none) = false ∧
    wellFormed (.sessionRequest .a 0 (2 ^ 32) none) = false ∧
    wellFormed (.sessionRequest .a 0 0 (some (2 ^ 32))) = false ∧
    wellFormed (.sessionEnd .a 256) = false ∧
    wellFormed (.gooseRx .a 128 0 0 0 true []) = false ∧
    wellFormed (.gooseRx .a 0 (2 ^ 32) 0 0 true []) = false ∧
    wellFormed (.gooseRx .a 0 0 (2 ^ 32) 0 true []) = false ∧
    wellFormed (.gooseRx .a 0 0 0 (2 ^ 32) true []) = false ∧
    wellFormed (.gooseRetransmit .a 32) = false ∧
    wellFormed (.governorWindow .a 101) = false ∧
    wellFormed (.challenge .a 256) = false ∧
    wellFormed (.respond .a 256 0) = false ∧
    wellFormed (.respond .a 0 256) = false ∧
    wellFormed (.drop .a 256) = false ∧
    wellFormed (.install .a 256) = false ∧
    wellFormed (.erase .a 256) = false ∧
    wellFormed (.useGen .a 256 0) = false ∧
    wellFormed (.useGen .a 0 256) = false ∧
    wellFormed (.elevationTimeout .a 256) = false ∧
    wellFormed (.secKeyDataAccess .a (some (2 ^ 32))) = false ∧
    wellFormed (.hostNop .a (2 ^ 32)) = false ∧
    wellFormed (.hostRead .a (2 ^ 32)) = false ∧
    wellFormed (.hostWrite .a (2 ^ 32) 0) = false ∧
    wellFormed (.hostWrite .a 0 (2 ^ 32)) = false ∧
    wellFormed (.ethTdataAccess .a (some (2 ^ 32))) = false ∧
    wellFormed (.debugToken .a (2 ^ 32) (List.replicate 96 0)) = false ∧
    wellFormed (.debugToken .a 0 []) = false ∧
    wellFormed (.bsiTransition .a 32) = false ∧
    wellFormed (.ftiFaultClear 16 true) = false ∧
    wellFormed (.ptpFollowUp 256 0 0) = false ∧
    wellFormed (.ptpFollowUp 0 (2 ^ 80) 0) = false ∧
    wellFormed (.ptpPdelayReq .a 256) = false ∧
    wellFormed (.ptpPdelayResp .a 256 0) = false ∧
    wellFormed (.ptpPdelayResp .a 0 (2 ^ 32)) = false := by decide +kernel

theorem test_ill_formed_7 :
    wellFormed (.scrubPass .a (2 ^ 32)) = false ∧
    wellFormed (.hostFrameError .a 3) = false ∧
    wellFormed (.exportRequest .a 256 0) = false ∧
    wellFormed (.exportRequest .a 0 (2 ^ 32)) = false := by decide +kernel

/-! ### Numbers worked in the spec -/

/-- 04_analogue_inputs.md, feeder F3: the fast word of code 3,915, and its corrected value 15,726; an over-range word. -/
theorem test_fast_correction :
    fastWord 3915 false true = 0x3D2D ∧ fastCorrect 0xFFF4 16466 0x3D2D = 15726 ∧
    fastWord 8191 true true = 0x7FFF ∧ fastCorrect 0xFFF4 16466 0x7FFF = 32767 := by decide +kernel

/-- 04_analogue_inputs.md, PC2: the corrected precision value. -/
theorem test_precision_correction : correct24 1250 4198400 6710000 = 6717804 := by decide +kernel

/-- 05_sample_timing_and_skew.md: f_T at the boundaries B0 to B5, in µHz. -/
theorem test_tracker_slews :
    stepF 48000000 54000000 = 48960000 ∧ stepF 48960000 54000000 = 49939200 ∧ stepF 49939200 54000000 = 50937984 ∧
    stepF 52996000 54000000 = 54000000 := by decide +kernel

/-- 16_crate.md: the partition of alternating residuals takes k = 2 at 144 bits (k = 1: 176, k = 4: 160); u = 8 is written
as 1, 1, 0, 0, 0. -/
theorem test_rice_parameter :
    bestK 16 (List.replicate 16 8 ++ List.replicate 16 7) = 2 ∧ codeCost 16 2 (List.replicate 16 8 ++ List.replicate 16 7) = 144 ∧
    codeCost 16 1 (List.replicate 16 8 ++ List.replicate 16 7) = 176 ∧ codeCost 16 4 (List.replicate 16 8 ++ List.replicate 16 7) = 160 ∧
    zigzag 16 4 = 8 ∧ zigzag 16 65532 = 7 ∧ emit (emit (0, 0) 3 3) 0 2 = (3, 5) := by decide +kernel

/-- 16_crate.md: the first block of the example's commit holds 1,320 rows behind a lead of 2,176 bytes, the next 1,365. -/
theorem test_block_cut :
    cutLen 1 2 24 2176 482176 true = 65536 ∧ cutLen 1 2 24 2176 416640 false = 65520 ∧ cutLen 1 2 24 2176 23520 false = 23520 := by
  decide +kernel

/-- 01_engine_overview.md and 07_fast_trip_path.md: certificate minima of the example's records. -/
theorem test_certificate : ceilDiv (168 * 1000) 70 = 2400 ∧ ceilDiv (165 * 1000) 70 = 2358 ∧ ceilDiv (402 * 1000) 170 = 2365 := by
  decide +kernel

/-- 19_arcade_and_bazaar.md: the INTERTRIP frame of unit 0x0001 begins 04 01 01 00 FF 3F 00 00. -/
theorem test_intertrip_header :
    ((buildFrame (setImg (fun i => { i with arcade := { i.arcade with unit := 1 } })
      (put .a Reg.TIME_STAT_SYNC 1 arcade)) .a 0 1 0x3FFF (pad 36)).1.take 8) =
      [0x04, 0x01, 0x01, 0x00, 0xFF, 0x3F, 0x00, 0x00] := by decide +kernel

end Sys2Proof.Tests
end

section
/-!
PROOFS of the statements about the whole command table and about register accesses: no command stops the block, every
command keeps what is outside its list, the access codes, reads and writes of registers, and the resets.
-/

namespace Sys2Proof.Machine

open Sys2Proof (HalfId Instr Byte Word Accessor)

/-! ### Every command answers a next state -/

/-- The outcome is a next state: neither a fault nor a refusal. -/
def Answers (o : Host.Outcome State Fault Refusal) : Prop := ∃ t, o = .next t

theorem answers_next (t : State) : Answers (.next t) := ⟨t, rfl⟩

theorem answers_ite {c : Prop} {_ : Decidable c} {a b : Host.Outcome State Fault Refusal} (ha : Answers a)
    (hb : Answers b) : Answers (if c then a else b) := by
  split <;> assumption

/-- Both sides of a guard answer a next state. -/
theorem answers_guard {c : Prop} {_ : Decidable c} {t u : State} :
    Answers (if c then .next t else .next u) := answers_ite (answers_next t) (answers_next u)

/-- Every meaning is a next state, a choice between next states by guards, or such a choice by what a table, a queue or
a pending change holds. -/
theorem answers_exec (c : Instr) (s : State) : Answers (exec c s) := by
  cases c with
  | resetN | halfResetsReleased | partnerHashTimeout | calibrationDone | bootComplete | livenessTimeout |
    paceMeasurement | fastSample | fcvFrozen | sigWindowClose | sigHoldEnd | trackedCycleBoundary | freezeDrop
    | rotationHandoverStart | lightRise | lightLevelSample | codeComplete | voteDisagreeTimer | supplyMeasure
    | diWindow | doOverload | doOpenOn | doOvertempRetry | leaderRefresh | doRefreshTimeout |
    arcadeCycleBoundary | heartbeatSend | heartbeat | xlRetransmit | xlUp | gavelGrant | gavelDisagree |
    roundTimeout | lsSweepTimer | handoverBoundary | returnReq | converterStop | timeLoadAtSecond |
    ptpAnnounce | ppsInEdge | holdover | ppsOutSecond =>
    exact answers_guard
  | lossConfirm | gavelCancel | eccUncorrectable => exact answers_ite (answers_next _) answers_guard
  | maxrExpiry => exact answers_ite answers_guard answers_guard
  | hash | modeSwitchInstant | standbyPowerDown | fastWakeDone | testPointsDone | substitutionEnd |
    chainOutput | responseSwitchBoundary | alignWaitExpiry | comparisonComplete | katComplete | eventTaskLimit
    | endTask | lsImage | lsSweep | commitJobStart =>
    simp only [exec_hash, execHash, exec_modeSwitchInstant, execModeSwitchInstant, exec_standbyPowerDown,
      execStandbyPowerDown, exec_fastWakeDone, execFastWakeDone, exec_testPointsDone, execTestPointsDone,
      exec_substitutionEnd, execSubstitutionEnd, exec_chainOutput, execChainOutput, exec_responseSwitchBoundary,
      execResponseSwitchBoundary, exec_alignWaitExpiry, execAlignWaitExpiry, exec_comparisonComplete,
      execComparisonComplete, exec_katComplete, execKatComplete, exec_eventTaskLimit, execEventTaskLimit,
      exec_endTask, execEndTask, exec_lsImage, execLsImage, exec_lsSweep, execLsSweep, exec_commitJobStart,
      execCommitJobStart]
    repeat' split
    all_goals exact answers_next _
  | _ => exact answers_next _

/-- Settles O58, by the shapes of the commands' meanings. -/
theorem everyCommandAnswersNextState : Obligations.EveryCommandAnswersNextState :=
  fun c s => answers_exec c s

/-! ### Every command keeps what is outside its list -/

/-- The parts that a meaning may change, as its law of `Keeps` gives them, are among those listed for the command. -/
theorem keeps_exec (c : Instr) (s : State) : Keeps (partSet (touches c)) s (after s (exec c s)) := by
  cases c with dsimp only [touches]
  | registerWrite => exact (keeps_execRegisterWrite ..).mono (by decide)
  | readClear => exact (keeps_execReadClear ..).mono (by decide)
  | powerOn => exact (keeps_execPowerOn ..).mono (by decide)
  | resetN => exact (keeps_execResetN).mono (by decide)
  | halfReset => exact (keeps_execHalfReset ..).mono (by decide)
  | halfResetsReleased => exact (keeps_execHalfResetsReleased ..).mono (by decide)
  | hash => exact (keeps_execHash ..).mono (by decide)
  | partnerHashTimeout => exact (keeps_execPartnerHashTimeout ..).mono (by decide)
  | refsetElapsed => exact (keeps_execRefsetElapsed ..).mono (by decide)
  | refBufferEnable => exact (keeps_execRefBufferEnable ..).mono (by decide)
  | calibrationDone => exact (keeps_execCalibrationDone ..).mono (by decide)
  | bootComplete => exact (keeps_execBootComplete ..).mono (by decide)
  | enterService => exact (keeps_execEnterService ..).mono (by decide)
  | enterTest => exact (keeps_execEnterTest ..).mono (by decide)
  | exitTest => exact (keeps_execExitTest ..).mono (by decide)
  | extendTest => exact (keeps_execExtendTest ..).mono (by decide)
  | enterLayup => exact (keeps_execEnterLayup ..).mono (by decide)
  | exitLayup => exact (keeps_execExitLayup ..).mono (by decide)
  | exitLockout => exact (keeps_execExitLockout ..).mono (by decide)
  | enableOutput => exact (keeps_execEnableOutput ..).mono (by decide)
  | disableOutput => exact (keeps_execDisableOutput ..).mono (by decide)
  | warmRestart => exact (keeps_execWarmRestart ..).mono (by decide)
  | coldRestart => exact (keeps_execColdRestart ..).mono (by decide)
  | modePropose => exact (keeps_execModePropose ..).mono (by decide)
  | modeAck => exact (keeps_execModeAck ..).mono (by decide)
  | modeSwitchInstant => exact (keeps_execModeSwitchInstant ..).mono (by decide)
  | layupReqHeld => exact (keeps_execLayupReqHeld).mono (by decide)
  | layupReqFall => exact (keeps_execLayupReqFall).mono (by decide)
  | standbyPowerDown => exact (keeps_execStandbyPowerDown).mono (by decide)
  | fastWakeDone => exact (keeps_execFastWakeDone).mono (by decide)
  | layupExitTimeout => exact (keeps_execLayupExitTimeout).mono (by decide)
  | testTimeout => exact (keeps_execTestTimeout).mono (by decide)
  | lockoutRequest => exact (keeps_execLockoutRequest ..).mono (by decide)
  | livenessTimeout => exact (keeps_execLivenessTimeout ..).mono (by decide)
  | gavelFault => exact (keeps_execGavelFault).mono (by decide)
  | railFault => exact (keeps_execRailFault).mono (by decide)
  | paceMeasurement => exact (keeps_execPaceMeasurement ..).mono (by decide)
  | paceLowClear => exact (keeps_execPaceLowClear ..).mono (by decide)
  | verify => exact (keeps_execVerify ..).mono (by decide)
  | imageVerifyDone => exact (keeps_execImageVerifyDone ..).mono (by decide)
  | activate => exact (keeps_execActivate ..).mono (by decide)
  | settingWindowWrite => exact (keeps_execSettingWindowWrite ..).mono (by decide)
  | stage => exact (keeps_execStage ..).mono (by decide)
  | setStage => exact (keeps_execSetStage ..).mono (by decide)
  | setCrc => exact (keeps_execSetCrc ..).mono (by decide)
  | stageTimeout => exact (keeps_execStageTimeout ..).mono (by decide)
  | switch => exact (keeps_execSwitch ..).mono (by decide)
  | loadDefault => exact (keeps_execLoadDefault ..).mono (by decide)
  | setSwitch => exact (keeps_execSetSwitch ..).mono (by decide)
  | setAck => exact (keeps_execSetAck ..).mono (by decide)
  | switchAckTimeout => exact (keeps_execSwitchAckTimeout ..).mono (by decide)
  | groupSwitchInstant => exact (keeps_execGroupSwitchInstant ..).mono (by decide)
  | hkScan => exact (keeps_execHkScan ..).mono (by decide)
  | hkaDataRead => exact (keeps_execHkaDataRead ..).mono (by decide)
  | fastSample => exact (keeps_execFastSample ..).mono (by decide)
  | fcvFrozen => exact (keeps_execFcvFrozen ..).mono (by decide)
  | sigWindowClose => exact (keeps_execSigWindowClose ..).mono (by decide)
  | sigHoldEnd => exact (keeps_execSigHoldEnd ..).mono (by decide)
  | maxrExpiry => exact (keeps_execMaxrExpiry ..).mono (by decide)
  | ftiEdge => exact (keeps_execFtiEdge ..).mono (by decide)
  | ftiFault => exact (keeps_execFtiFault ..).mono (by decide)
  | injectionTestSlot => exact (keeps_execInjectionTestSlot ..).mono (by decide)
  | injectionTestDefer => exact (keeps_execInjectionTestDefer ..).mono (by decide)
  | testPointsDone => exact (keeps_execTestPointsDone ..).mono (by decide)
  | substitutionEnd => exact (keeps_execSubstitutionEnd ..).mono (by decide)
  | injectionRetest => exact (keeps_execInjectionRetest ..).mono (by decide)
  | testStart => exact (keeps_execTestStart ..).mono (by decide)
  | testEnd => exact (keeps_execTestEnd ..).mono (by decide)
  | tilePickup => exact (keeps_execTilePickup ..).mono (by decide)
  | mclkFreqWrite => exact (keeps_execMclkFreqWrite ..).mono (by decide)
  | bsiClockMeasure => exact (keeps_execBsiClockMeasure ..).mono (by decide)
  | bsiOpenDetect => exact (keeps_execBsiOpenDetect ..).mono (by decide)
  | bsiNoEdge => exact (keeps_execBsiNoEdge ..).mono (by decide)
  | bsiDensity => exact (keeps_execBsiDensity ..).mono (by decide)
  | pllUnlock => exact (keeps_execPllUnlock ..).mono (by decide)
  | pllRelock => exact (keeps_execPllRelock ..).mono (by decide)
  | trackedCycleBoundary => exact (keeps_execTrackedCycleBoundary ..).mono (by decide)
  | trkState => exact (keeps_execTrkState ..).mono (by decide)
  | syncPulse => exact (keeps_execSyncPulse ..).mono (by decide)
  | cal => exact (keeps_execCal ..).mono (by decide)
  | chainOutput => exact (keeps_execChainOutput ..).mono (by decide)
  | responseSwitchBoundary => exact (keeps_execResponseSwitchBoundary ..).mono (by decide)
  | fltSwitch => exact (keeps_execFltSwitch ..).mono (by decide)
  | peakReset => exact (keeps_execPeakReset ..).mono (by decide)
  | pcvFltSelWrite => exact (keeps_execPcvFltSelWrite ..).mono (by decide)
  | pcvFltOutRead => exact (keeps_execPcvFltOutRead ..).mono (by decide)
  | injStart => exact (keeps_execInjStart ..).mono (by decide)
  | injStop => exact (keeps_execInjStop ..).mono (by decide)
  | pcvInjDataAccess => exact (keeps_execPcvInjDataAccess ..).mono (by decide)
  | fstTplDataAccess => exact (keeps_execFstTplDataAccess ..).mono (by decide)
  | fstFstatRead => exact (keeps_execFstFstatRead ..).mono (by decide)
  | freezeDrop => exact (keeps_execFreezeDrop ..).mono (by decide)
  | definiteResetExpiry => exact (keeps_execDefiniteResetExpiry ..).mono (by decide)
  | alignWaitExpiry => exact (keeps_execAlignWaitExpiry ..).mono (by decide)
  | rotationHandoverStart => exact (keeps_execRotationHandoverStart ..).mono (by decide)
  | comparisonComplete => exact (keeps_execComparisonComplete ..).mono (by decide)
  | katComplete => exact (keeps_execKatComplete ..).mono (by decide)
  | rotLate => exact (keeps_execRotLate ..).mono (by decide)
  | fabFstatRead => exact (keeps_execFabFstatRead ..).mono (by decide)
  | fabUcDataAccess => exact (keeps_execFabUcDataAccess ..).mono (by decide)
  | lightRise => exact (keeps_execLightRise ..).mono (by decide)
  | lightFall => exact (keeps_execLightFall ..).mono (by decide)
  | lightLevelSample => exact (keeps_execLightLevelSample ..).mono (by decide)
  | ambientResettled => exact (keeps_execAmbientResettled ..).mono (by decide)
  | stretchExpiry => exact (keeps_execStretchExpiry ..).mono (by decide)
  | codeCycle => exact (keeps_execCodeCycle).mono (by decide)
  | codeRetry => exact (keeps_execCodeRetry ..).mono (by decide)
  | codeComplete => exact (keeps_execCodeComplete ..).mono (by decide)
  | codeNow => exact (keeps_execCodeNow ..).mono (by decide)
  | clrCounts => exact (keeps_execClrCounts ..).mono (by decide)
  | resume => exact (keeps_execResume ..).mono (by decide)
  | voteDisagreeTimer => exact (keeps_execVoteDisagreeTimer ..).mono (by decide)
  | tcsFailTimer => exact (keeps_execTcsFailTimer ..).mono (by decide)
  | noLeaderTimeout => exact (keeps_execNoLeaderTimeout).mono (by decide)
  | supplyMeasure => exact (keeps_execSupplyMeasure ..).mono (by decide)
  | diWindow => exact (keeps_execDiWindow ..).mono (by decide)
  | doOverload => exact (keeps_execDoOverload ..).mono (by decide)
  | doOpenOn => exact (keeps_execDoOpenOn ..).mono (by decide)
  | doOpenOffCheck => exact (keeps_execDoOpenOffCheck ..).mono (by decide)
  | doOvertemp => exact (keeps_execDoOvertemp ..).mono (by decide)
  | doOvertempRetry => exact (keeps_execDoOvertempRetry ..).mono (by decide)
  | grpOvercurrent => exact (keeps_execGrpOvercurrent ..).mono (by decide)
  | leaderRefresh => exact (keeps_execLeaderRefresh ..).mono (by decide)
  | doRefreshTimeout => exact (keeps_execDoRefreshTimeout ..).mono (by decide)
  | unlatch => exact (keeps_execUnlatch ..).mono (by decide)
  | unlatchAll => exact (keeps_execUnlatchAll ..).mono (by decide)
  | arcadeCycleBoundary => exact (keeps_execArcadeCycleBoundary ..).mono (by decide)
  | eventTaskLimit => exact (keeps_execEventTaskLimit ..).mono (by decide)
  | nop => exact (keeps_execNop ..).mono (by decide)
  | ld => exact (keeps_execLd ..).mono (by decide)
  | and => exact (keeps_execAnd ..).mono (by decide)
  | or => exact (keeps_execOr ..).mono (by decide)
  | xor => exact (keeps_execXor ..).mono (by decide)
  | andPush => exact (keeps_execAndPush ..).mono (by decide)
  | orPush => exact (keeps_execOrPush ..).mono (by decide)
  | xorPush => exact (keeps_execXorPush ..).mono (by decide)
  | pop => exact (keeps_execPop ..).mono (by decide)
  | st => exact (keeps_execSt ..).mono (by decide)
  | set => exact (keeps_execSet ..).mono (by decide)
  | rst => exact (keeps_execRst ..).mono (by decide)
  | pedge => exact (keeps_execPedge ..).mono (by decide)
  | nedge => exact (keeps_execNedge ..).mono (by decide)
  | ton => exact (keeps_execTon ..).mono (by decide)
  | tof => exact (keeps_execTof ..).mono (by decide)
  | tp => exact (keeps_execTp ..).mono (by decide)
  | tonr => exact (keeps_execTonr ..).mono (by decide)
  | ctu => exact (keeps_execCtu ..).mono (by decide)
  | ctd => exact (keeps_execCtd ..).mono (by decide)
  | jmp => exact (keeps_execJmp ..).mono (by decide)
  | jmpc => exact (keeps_execJmpc ..).mono (by decide)
  | jmpcn => exact (keeps_execJmpcn ..).mono (by decide)
  | endTask => exact (keeps_execEndTask ..).mono (by decide)
  | lgeTinfoRead => exact (keeps_execLgeTinfoRead ..).mono (by decide)
  | heartbeatSend => exact (keeps_execHeartbeatSend ..).mono (by decide)
  | heartbeat => exact (keeps_execHeartbeat ..).mono (by decide)
  | xlRetransmit => exact (keeps_execXlRetransmit ..).mono (by decide)
  | xlUp => exact (keeps_execXlUp ..).mono (by decide)
  | probe => exact (keeps_execProbe ..).mono (by decide)
  | probeReply => exact (keeps_execProbeReply ..).mono (by decide)
  | partnerHeartbeatLoss => exact (keeps_execPartnerHeartbeatLoss ..).mono (by decide)
  | lossConfirm => exact (keeps_execLossConfirm ..).mono (by decide)
  | gavelRequestTimer => exact (keeps_execGavelRequestTimer ..).mono (by decide)
  | gavelGrant => exact (keeps_execGavelGrant ..).mono (by decide)
  | gavelCancel => exact (keeps_execGavelCancel).mono (by decide)
  | gavelDisagree => exact (keeps_execGavelDisagree ..).mono (by decide)
  | roundTimeout => exact (keeps_execRoundTimeout).mono (by decide)
  | lsImage => exact (keeps_execLsImage ..).mono (by decide)
  | lsEnd => exact (keeps_execLsEnd ..).mono (by decide)
  | lsSweepTimer => exact (keeps_execLsSweepTimer ..).mono (by decide)
  | lsSweep => exact (keeps_execLsSweep ..).mono (by decide)
  | lsCopy => exact (keeps_execLsCopy ..).mono (by decide)
  | lsStop => exact (keeps_execLsStop ..).mono (by decide)
  | mismatch => exact (keeps_execMismatch ..).mono (by decide)
  | selftestDone => exact (keeps_execSelftestDone ..).mono (by decide)
  | selftestResult => exact (keeps_execSelftestResult ..).mono (by decide)
  | lockstepLag => exact (keeps_execLockstepLag ..).mono (by decide)
  | handover => exact (keeps_execHandover ..).mono (by decide)
  | handoverBoundary => exact (keeps_execHandoverBoundary ..).mono (by decide)
  | handoverAbandon => exact (keeps_execHandoverAbandon ..).mono (by decide)
  | returnHoldoff => exact (keeps_execReturnHoldoff ..).mono (by decide)
  | returnReq => exact (keeps_execReturnReq ..).mono (by decide)
  | handoverCmd => exact (keeps_execHandoverCmd ..).mono (by decide)
  | takeover => exact (keeps_execTakeover ..).mono (by decide)
  | clearLcl => exact (keeps_execClearLcl ..).mono (by decide)
  | ackReturn => exact (keeps_execAckReturn ..).mono (by decide)
  | clearDegraded => exact (keeps_execClearDegraded ..).mono (by decide)
  | eccUncorrectable => exact (keeps_execEccUncorrectable ..).mono (by decide)
  | recorderTrigger => exact (keeps_execRecorderTrigger ..).mono (by decide)
  | segmentClose => exact (keeps_execSegmentClose ..).mono (by decide)
  | segmentMaxLen => exact (keeps_execSegmentMaxLen ..).mono (by decide)
  | measurementsDone => exact (keeps_execMeasurementsDone ..).mono (by decide)
  | commitJobStart => exact (keeps_execCommitJobStart ..).mono (by decide)
  | commitJobDone => exact (keeps_execCommitJobDone ..).mono (by decide)
  | commitRetry => exact (keeps_execCommitRetry ..).mono (by decide)
  | trigger => exact (keeps_execTrigger ..).mono (by decide)
  | acqStop => exact (keeps_execAcqStop ..).mono (by decide)
  | acqStart => exact (keeps_execAcqStart ..).mono (by decide)
  | acqMselWrite => exact (keeps_execAcqMselWrite ..).mono (by decide)
  | acqMdataRead => exact (keeps_execAcqMdataRead ..).mono (by decide)
  | crtStart => exact (keeps_execCrtStart ..).mono (by decide)
  | crtResume => exact (keeps_execCrtResume ..).mono (by decide)
  | crtAbort => exact (keeps_execCrtAbort ..).mono (by decide)
  | crateBlockDone => exact (keeps_execCrateBlockDone ..).mono (by decide)
  | powerFailDeclare => exact (keeps_execPowerFailDeclare ..).mono (by decide)
  | converterStop => exact (keeps_execConverterStop).mono (by decide)
  | powerRestoreBoot => exact (keeps_execPowerRestoreBoot ..).mono (by decide)
  | storeCommitDone => exact (keeps_execStoreCommitDone ..).mono (by decide)
  | imgSlotOpen => exact (keeps_execImgSlotOpen ..).mono (by decide)
  | imgSlotClose => exact (keeps_execImgSlotClose ..).mono (by decide)
  | imgSlotAbort => exact (keeps_execImgSlotAbort ..).mono (by decide)
  | pstImgDataWrite => exact (keeps_execPstImgDataWrite ..).mono (by decide)
  | ledgerAppend => exact (keeps_execLedgerAppend ..).mono (by decide)
  | ledgerRate => exact (keeps_execLedgerRate).mono (by decide)
  | ledgerClear => exact (keeps_execLedgerClear ..).mono (by decide)
  | ledgerClearDone => exact (keeps_execLedgerClearDone).mono (by decide)
  | ldgRselWrite => exact (keeps_execLdgRselWrite ..).mono (by decide)
  | ldgOptimeRead => exact (keeps_execLdgOptimeRead ..).mono (by decide)
  | optimeCommit => exact (keeps_execOptimeCommit).mono (by decide)
  | scheduleArm => exact (keeps_execScheduleArm ..).mono (by decide)
  | scheduleDisarm => exact (keeps_execScheduleDisarm ..).mono (by decide)
  | scheduledStocktake => exact (keeps_execScheduledStocktake ..).mono (by decide)
  | scheduledSetSwitch => exact (keeps_execScheduledSetSwitch ..).mono (by decide)
  | recTrigger => exact (keeps_execRecTrigger ..).mono (by decide)
  | testInject => exact (keeps_execTestInject ..).mono (by decide)
  | pulse => exact (keeps_execPulse ..).mono (by decide)
  | timeCommit => exact (keeps_execTimeCommit ..).mono (by decide)
  | commitAtPps => exact (keeps_execCommitAtPps ..).mono (by decide)
  | timeLoadAtSecond => exact (keeps_execTimeLoadAtSecond).mono (by decide)
  | timeStep => exact (keeps_execTimeStep ..).mono (by decide)
  | timeCancel => exact (keeps_execTimeCancel ..).mono (by decide)
  | timeSlewWrite => exact (keeps_execTimeSlewWrite ..).mono (by decide)
  | timeNsRead => exact (keeps_execTimeNsRead ..).mono (by decide)
  | ptpSync => exact (keeps_execPtpSync ..).mono (by decide)
  | ptpAnnounce => exact (keeps_execPtpAnnounce ..).mono (by decide)
  | ppsInEdge => exact (keeps_execPpsInEdge ..).mono (by decide)
  | ppsInLost => exact (keeps_execPpsInLost).mono (by decide)
  | holdover => exact (keeps_execHoldover).mono (by decide)
  | take => exact (keeps_execTake ..).mono (by decide)
  | domainTakeCmd => exact (keeps_execDomainTakeCmd ..).mono (by decide)
  | domainTakeRelay => exact (keeps_execDomainTakeRelay ..).mono (by decide)
  | domainTakeDue => exact (keeps_execDomainTakeDue ..).mono (by decide)
  | laneUp => exact (keeps_execLaneUp ..).mono (by decide)
  | laneDown => exact (keeps_execLaneDown ..).mono (by decide)
  | intertrip => exact (keeps_execIntertrip ..).mono (by decide)
  | stream => exact (keeps_execStream ..).mono (by decide)
  | update => exact (keeps_execUpdate ..).mono (by decide)
  | domainTake => exact (keeps_execDomainTake ..).mono (by decide)
  | timeSync => exact (keeps_execTimeSync ..).mono (by decide)
  | pdelayReq => exact (keeps_execPdelayReq ..).mono (by decide)
  | pdelayResp => exact (keeps_execPdelayResp ..).mono (by decide)
  | map => exact (keeps_execMap ..).mono (by decide)
  | bulk => exact (keeps_execBulk ..).mono (by decide)
  | mapSend => exact (keeps_execMapSend ..).mono (by decide)
  | bazaarRefresh => exact (keeps_execBazaarRefresh ..).mono (by decide)
  | intertripRepeat => exact (keeps_execIntertripRepeat ..).mono (by decide)
  | pointStale => exact (keeps_execPointStale ..).mono (by decide)
  | mgmtWatchdog => exact (keeps_execMgmtWatchdog ..).mono (by decide)
  | ethLinkChange => exact (keeps_execEthLinkChange ..).mono (by decide)
  | sessionOpen => exact (keeps_execSessionOpen ..).mono (by decide)
  | sessionRequest => exact (keeps_execSessionRequest ..).mono (by decide)
  | sessionEnd => exact (keeps_execSessionEnd ..).mono (by decide)
  | gooseRx => exact (keeps_execGooseRx ..).mono (by decide)
  | gooseRetransmit => exact (keeps_execGooseRetransmit ..).mono (by decide)
  | governorWindow => exact (keeps_execGovernorWindow ..).mono (by decide)
  | challenge => exact (keeps_execChallenge ..).mono (by decide)
  | respond => exact (keeps_execRespond ..).mono (by decide)
  | drop => exact (keeps_execDrop ..).mono (by decide)
  | install => exact (keeps_execInstall ..).mono (by decide)
  | erase => exact (keeps_execErase ..).mono (by decide)
  | useGen => exact (keeps_execUseGen ..).mono (by decide)
  | elevationTimeout => exact (keeps_execElevationTimeout ..).mono (by decide)
  | secKeyDataAccess => exact (keeps_execSecKeyDataAccess ..).mono (by decide)
  | hostNop => exact (keeps_execHostNop ..).mono (by decide)
  | hostRead => exact (keeps_execHostRead ..).mono (by decide)
  | hostWrite => exact (keeps_execHostWrite ..).mono (by decide)
  | evqPopRead => exact (keeps_execEvqPopRead ..).mono (by decide)
  | evqIdataRead => exact (keeps_execEvqIdataRead ..).mono (by decide)
  | ethTdataAccess => exact (keeps_execEthTdataAccess ..).mono (by decide)
  | snapshot => exact (keeps_execSnapshot ..).mono (by decide)
  | debugToken => exact (keeps_execDebugToken ..).mono (by decide)
  | debugRelock => exact (keeps_execDebugRelock ..).mono (by decide)
  | xlAckTimeout => exact (keeps_execXlAckTimeout ..).mono (by decide)
  | bsiTransition => exact (keeps_execBsiTransition ..).mono (by decide)
  | ftiFaultClear => exact (keeps_execFtiFaultClear ..).mono (by decide)
  | tbClkUnlock => exact (keeps_execTbClkUnlock).mono (by decide)
  | tbClkRelock => exact (keeps_execTbClkRelock).mono (by decide)
  | gridSlewDone => exact (keeps_execGridSlewDone).mono (by decide)
  | ppsOutSecond => exact (keeps_execPpsOutSecond).mono (by decide)
  | ptpFollowUp => exact (keeps_execPtpFollowUp ..).mono (by decide)
  | ptpPdelayReq => exact (keeps_execPtpPdelayReq ..).mono (by decide)
  | ptpPdelayResp => exact (keeps_execPtpPdelayResp ..).mono (by decide)
  | pdelaySend => exact (keeps_execPdelaySend ..).mono (by decide)
  | memHealthClear => exact (keeps_execMemHealthClear ..).mono (by decide)
  | managementDegradedEnd => exact (keeps_execManagementDegradedEnd ..).mono (by decide)
  | mgmtCoreRestarted => exact (keeps_execMgmtCoreRestarted ..).mono (by decide)
  | recorderHealthWindow => exact (keeps_execRecorderHealthWindow ..).mono (by decide)
  | storeHealthWindow => exact (keeps_execStoreHealthWindow ..).mono (by decide)
  | arcadeAuthWindow => exact (keeps_execArcadeAuthWindow ..).mono (by decide)
  | scrubPass => exact (keeps_execScrubPass ..).mono (by decide)
  | hostFrameError => exact (keeps_execHostFrameError ..).mono (by decide)
  | exportRequest => exact (keeps_execExportRequest ..).mono (by decide)

/-- Settles O59: the law of each command, widened to the command's list. -/
theorem everyCommandKeepsTheRest : Obligations.EveryCommandKeepsTheRest :=
  fun c s _ ht => Keeps.of_after ht (keeps_exec c s)

/-! ### Fields of a register word (R15) -/

theorem bits_lt (v hi lo : Nat) : bits v hi lo < 2 ^ (hi + 1 - lo) := Nat.mod_lt _ (Nat.two_pow_pos _)

/-- The model's bit test is the library's. -/
theorem bit_eq_testBit (v i : Nat) : bit v i = v.testBit i := by
  rw [Nat.testBit_eq_decide_div_mod_eq]
  rfl

/-- Taking the common bits away borrows nothing from the half above. -/
theorem sub_and_div_two (x y : Nat) : (x - (x &&& y)) / 2 = x / 2 - (x / 2 &&& y / 2) ∧
    ((x - (x &&& y)) % 2 = 1 ↔ x % 2 = 1 ∧ y % 2 = 0) := by
  have hle : x &&& y ≤ x := Nat.and_le_left
  have hdiv : (x &&& y) / 2 = x / 2 &&& y / 2 := by simpa using Nat.and_div_two_pow (a := x) (b := y) (n := 1)
  have hmod : (x &&& y) % 2 = x % 2 &&& y % 2 := by simpa using Nat.and_mod_two_pow (a := x) (b := y) (n := 1)
  rcases Nat.mod_two_eq_zero_or_one x with hx | hx <;> rcases Nat.mod_two_eq_zero_or_one y with hy | hy <;>
    simp only [hx, hy, Nat.and_self, Nat.and_zero, Nat.zero_and] at hmod <;> omega

/-- Taking the common bits away clears exactly those. -/
theorem testBit_sub_and (x y i : Nat) : (x - (x &&& y)).testBit i = (x.testBit i && !y.testBit i) := by
  induction i generalizing x y with
  | zero =>
    rcases Nat.mod_two_eq_zero_or_one y with hy | hy <;> simp [Nat.testBit_zero, (sub_and_div_two x y).2, hy]
  | succ i ih => rw [Nat.testBit_succ, (sub_and_div_two x y).1, ih, Nat.testBit_succ, Nat.testBit_succ]

/-- Settles O4: each access code puts its own value back into the field, and that value fits the field. -/
theorem fieldAccessCodes : Obligations.FieldAccessCodes := by
  refine ⟨fun v w hi lo rst hl => ?_, fun v w hi lo rst i hl _ => ?_, fun v w hi lo rst i hl _ => ?_,
    fun v w hi lo rst acc ha => ?_, fun w hi lo rst hl hr => ?_, fun w hi lo rst acc ha => ?_⟩
  · exact (bits_putField_same _ _ _ _ hl).trans (Nat.mod_eq_of_lt (bits_lt v hi lo))
  · have hfit : bits w hi lo - (bits w hi lo &&& bits v hi lo) < 2 ^ (hi + 1 - lo) :=
      Nat.lt_of_le_of_lt (Nat.sub_le _ _) (bits_lt w hi lo)
    simp only [storeFields, List.foldl, bits_putField_same _ _ _ _ hl, Nat.mod_eq_of_lt hfit, bit_eq_testBit,
      testBit_sub_and]
  · have hfit : bits w hi lo ||| bits v hi lo < 2 ^ (hi + 1 - lo) :=
      Nat.or_lt_two_pow (bits_lt w hi lo) (bits_lt v hi lo)
    simp only [storeFields, List.foldl, bits_putField_same _ _ _ _ hl, Nat.mod_eq_of_lt hfit, bit_eq_testBit,
      Nat.testBit_or]
  · obtain rfl | rfl | rfl := ha <;> rfl
  · exact (bits_putField_same _ _ _ _ hl).trans (Nat.mod_eq_of_lt hr)
  · simp [rcWord, ha]

/-! ### Reset values of the register map (R18) -/

/-- No two fields of a register share a bit, and every reset value fits its field: in the word that the reset values
make, each field reads its own. -/
theorem bits_fieldsReset : ∀ b < 27, ∀ d ∈ blockRegs b, ∀ f ∈ d.fields,
    bits (fieldsReset d.fields % 2 ^ 32) f.hi f.lo = f.reset := by decide +kernel

/-- A privileged-view address is its own key, whoever owns the register. -/
theorem regKey_mod_ownerStride (h : HalfId) {a : Nat} (ha : a < ownerStride) : regKey h a % ownerStride = a := by
  simp only [regKey, ownerStride] at *
  split
  · omega
  · cases h <;> simp only <;> omega

/-- An unlisted register reads the word of its reset values. -/
theorem word_reset {addr : Nat} {d : RegDesc} (h : HalfId) (ha : addr < ownerStride) (hd : findReg addr = some d) :
    word State.reset h addr = fieldsReset d.fields % 2 ^ 32 := by
  simp only [word, State.reset, sget, mapDefault, regKey_mod_ownerStride h ha, regDefault, hd, BitVec.toNat_ofNat]

/-- Settles O55, by the table of the registers' fields. -/
theorem resetStateHoldsResetValues : Obligations.ResetStateHoldsResetValues := by
  refine ⟨fun h addr d hd ha f hf => ?_, fun h => ?_⟩
  · rw [word_reset h (Nat.lt_trans ha (by decide)) hd]
    exact bits_fieldsReset _ (by omega) d (List.mem_of_find?_eq_some hd) f hf
  · have hw : word State.reset h 0x18 = 0xFFFF := word_reset h (by decide) fr_18
    exact (congrArg (bits · 15 0) hw).trans (by decide)


/-! ### Register accesses of a half that is served (R49, R51, R56) -/

/-- A completed write by the management firmware is the register write itself. -/
theorem completes_registerWrite {h : HalfId} {addr v : Nat} {s : State} {P : State → Prop} (hal : alive s h = true)
    (hP : P (regWrite s h addr v .mgmt)) : Completes (.registerWrite h addr v) s P :=
  ⟨_, rfl, by simpa only [busAccess, access, hal, ↓reduceIte] using hP⟩

/-- A completed read keeps the value returned in the half's bus. -/
theorem completes_readClear {h : HalfId} {addr : Nat} {s : State} {P : State → Prop} (hal : alive s h = true)
    (hP : P (modMgmt (regRead s h addr).2 h fun m => { m with bus := (regRead s h addr).1 })) :
    Completes (.readClear h addr) s P :=
  ⟨_, rfl, by simpa only [busRead, access, hal, ↓reduceIte] using hP⟩

/-- Privileged-view writes at an address that no register has set UNMAPPED. -/
theorem regWrite_unmapped {s : State} {h : HalfId} {addr v : Nat} (ha : addr < 0x1B0000)
    (hb : isBlockId addr = false) (hd : findReg addr = none) :
    regWrite s h addr v .mgmt = wrB s h Reg.SYS_ERR_UNMAPPED true := by
  have hp : addr < unprivBase := Nat.lt_trans ha (by decide)
  simp [regWrite, hp, hb, hd, Nat.not_le.mpr ha]

/-- Privileged-view writes of a mapped register: the checks of R56 in their order, then the write. -/
theorem regWrite_mapped {s : State} {h : HalfId} {addr v : Nat} {d : RegDesc} (ha : addr < 0x1B0000)
    (hb : isBlockId addr = false) (hd : findReg addr = some d) :
    regWrite s h addr v .mgmt =
      if absentUnit s addr then wrB s h Reg.SYS_ERR_ABSENT true
      else if imageOnly addr then wrB s h Reg.SYS_ERR_IMAGE_ONLY true
      else if configWrite d addr && !holds s h then wrB s h Reg.SYS_ERR_NOT_HOLDER true
      else writeReg s h d addr (v % 2 ^ 32) .mgmt := by
  have hp : addr < unprivBase := Nat.lt_trans ha (by decide)
  simp [regWrite, hp, hb, hd, Nat.not_le.mpr ha]

/-- A write with no action of its own only stores. -/
theorem writeReg_of_plainWrite {s : State} {h : HalfId} {d : RegDesc} {a v : Nat} (hp : plainWrite s h d a v) :
    writeReg s h d a v .mgmt = storeReg s h d a v := by
  simp only [writeReg, show _ = none from hp]

/-- Settles O5: no check of R56 turns the write away, and storing writes the one word. -/
theorem registerWriteStoresFields : Obligations.RegisterWriteStoresFields := by
  intro h addr v d k s hal ha hb hd hun him hcfg hplain hk
  have hhold : (configWrite d addr && !holds s h) = false := by
    cases hc : configWrite d addr <;> simp [hcfg, hc]
  refine completes_registerWrite hal ?_
  rw [regWrite_mapped ha hb hd]
  simp only [hun, him, hhold, writeReg_of_plainWrite hplain, storeReg, hk, Bool.false_eq_true, ↓reduceIte]
  exact ⟨word_setWord_same .., fun g j hj => word_setWord_ne _ _ _ _ _ _ hj, fun g => half_setWord .., rfl, rfl⟩

/-- A flag of SYS_ERR set by a refused write: it reads back, and no word at another address changes. -/
theorem refusal_flag (s : State) (h : HalfId) (f : Fld) (hf : f.key = 8) (hl : f.lo = f.hi) (hh : f.hi < 32) :
    rdB (wrB s h f true) h f = true ∧
      ∀ g k, k % 0x100000000 ≠ 0x8 → word (wrB s h f true) g k = word s g k := by
  refine ⟨rdB_wrB_same _ _ _ _ hl hh, fun g k hk => word_wr_ne _ _ _ _ _ _ (regKey_ne _ _ _ _ ?_)⟩
  rw [hf]
  exact hk

/-- A read of SYS_CAPS shows the variant's value and changes nothing. -/
theorem regRead_caps (s : State) (h : HalfId) : regRead s h 0x0004 = (capsWord s, s) := rfl

/-- A read of LDG_STAT shows the busy and wrapped flags of the log over the stored word, and clears DROPPED. -/
theorem regRead_ldgStat (s : State) (h : HalfId) : regRead s h 0x120018 =
    (setF Reg.LDG_STAT_CLEAR_BUSY (b2n s.store.clearing)
      (setF Reg.LDG_STAT_WRAPPED (b2n (decide (s.store.ledger.length < s.store.ledgerSeq))) (word s h 0x120018)),
      wr s h Reg.LDG_STAT_DROPPED 0) := rfl

/-- Settles O6: the value read is the variant's. -/
theorem capsReadsPart : Obligations.CapsReadsPart := by
  intro h s hal
  refine completes_readClear hal ?_
  rw [regRead_caps]
  have hbus : (half (modMgmt s h fun m => { m with bus := capsWord s }) h).mgmt.bus = capsWord s := by
    simp only [modMgmt, half_setHalf_same]
  refine hbus.trans ?_
  unfold capsWord
  cases s.variant <;> rfl

/-- Settles O7: the read by its two fields above DROPPED, the refusals by the order of the checks. -/
theorem readClearsAndRefusals : Obligations.ReadClearsAndRefusals := by
  refine ⟨fun h s hal => completes_readClear hal ?_, fun h addr v d s hal ha hb hd hun => ?_,
    fun h addr v s hal ha hb hd => ?_, fun h addr v d s hal ha hb hd hun him => ?_,
    fun h addr v d s hal ha hb hd hun him hcfg hno => ?_⟩
  · simp only [regRead_ldgStat, modMgmt, half_setHalf_same, rd_setHalf]
    refine ⟨?_, rd_wr_same s h Reg.LDG_STAT_DROPPED 0 (by decide) (by decide)⟩
    exact (bits_putField_below _ _ _ _ 15 0 (by decide) (by decide) (by decide)).trans
      (bits_putField_below _ _ _ _ 15 0 (by decide) (by decide) (by decide))
  all_goals refine completes_registerWrite hal ?_
  · simpa only [regWrite_mapped ha hb hd, hun, ↓reduceIte] using
      refusal_flag s h Reg.SYS_ERR_ABSENT rfl rfl (by decide)
  · simpa only [regWrite_unmapped ha hb hd] using
      refusal_flag s h Reg.SYS_ERR_UNMAPPED rfl rfl (by decide)
  · simpa only [regWrite_mapped ha hb hd, hun, him, Bool.false_eq_true, ↓reduceIte] using
      refusal_flag s h Reg.SYS_ERR_IMAGE_ONLY rfl rfl (by decide)
  · simpa only [regWrite_mapped ha hb hd, hun, him, hcfg, hno, Bool.not_false, Bool.and_self, Bool.false_eq_true,
      ↓reduceIte] using
      refusal_flag s h Reg.SYS_ERR_NOT_HOLDER rfl rfl (by decide)


/-! ### Erasing the registers of one owner (R18) -/

section Erase

variable {α : Type} (d : Nat → α) (p : Nat → Bool) (k : Nat)

/-- An erased key reads as the default. -/
theorem sget_serase_erased (m : List (Nat × α)) (hp : p k = true) : sget d (serase p m) k = d k := by
  induction m with
  | nil => rfl
  | cons e t ih =>
    obtain ⟨a, x⟩ := e
    cases ha : p a with
    | true => simpa [serase, ha] using ih
    | false =>
      have hka : k ≠ a := fun h => by simp [← h, hp] at ha
      have ih : sget d (t.filter fun e => !p e.1) k = d k := ih
      simp [serase, ha, sget, hka, ih]

/-- A key above all the erased ones reads as before, in any list. -/
theorem sget_serase_above (m : List (Nat × α)) (hp : ∀ a, p a = true → a < k) :
    sget d (serase p m) k = sget d m k := by
  induction m with
  | nil => rfl
  | cons e t ih =>
    obtain ⟨a, x⟩ := e
    have ih : sget d (t.filter fun e => !p e.1) k = sget d t k := ih
    cases ha : p a with
    | true =>
      have hak := hp a ha
      simp [serase, ha, sget, ih, show ¬ k < a by omega, show ¬ k = a by omega]
    | false => simp [serase, ha, sget, ih]

/-- In a canonical list a key that is not erased reads as before. -/
theorem sget_serase_kept [DecidableEq α] (m : List (Nat × α)) (lo : Option Nat) (hm : swfFrom d lo m = true)
    (hp : p k = false) : sget d (serase p m) k = sget d m k := by
  induction m generalizing lo with
  | nil => rfl
  | cons e t ih =>
    obtain ⟨a, x⟩ := e
    have ht : swfFrom d (some a) t = true := by
      simp only [swfFrom, Bool.and_eq_true] at hm
      exact hm.2
    have ih : sget d (t.filter fun e => !p e.1) k = sget d t k := ih _ ht
    cases ha : p a with
    | true =>
      have hka : k ≠ a := fun h => by simp [h, ha] at hp
      by_cases hlt : k < a
      · simp [serase, ha, sget, hlt, ih, sget_of_swfFrom_le d t a k ht (Nat.le_of_lt hlt)]
      · simp [serase, ha, sget, hlt, hka, ih]
    | false => simp [serase, ha, sget, ih]

end Erase

/-- The owner of a register: the half that reaches it, or the field die where both halves share it. -/
theorem regKey_owner (h : HalfId) {k : Nat} (hk : k < ownerStride) :
    regKey h k / ownerStride = if sharedKey k then 2 else halfNo h := by
  simp only [regKey, ownerStride, halfNo] at *
  split
  · simp; omega
  · cases h <;> simp <;> omega

/-- The registers of the half erased read their reset values. -/
theorem word_eraseOwner_own (s : State) (h : HalfId) {k : Nat} (hk : k < ownerStride) (hs : sharedKey k = false) :
    word (eraseOwner s (halfNo h)) h k = (regDefault k).toNat := by
  have ho : (regKey h k / ownerStride == halfNo h) = true := by simp [regKey_owner h hk, hs]
  have hg : sget mapDefault (eraseOwner s (halfNo h)).regs (regKey h k) = mapDefault (regKey h k) :=
    sget_serase_erased mapDefault (fun key => key / ownerStride == halfNo h) _ s.regs ho
  simp only [word, hg, mapDefault, regKey_mod_ownerStride h hk]

/-- The registers of the field die stay. -/
theorem word_eraseOwner_shared (s : State) (h g : HalfId) {k : Nat} (hs : sharedKey k = true) :
    word (eraseOwner s (halfNo h)) g k = word s g k := by
  have hb : ∀ a, (a / ownerStride == halfNo h) = true → a < regKey g k := by
    intro a ha
    have : halfNo h ≤ 1 := by cases h <;> decide
    simp only [beq_iff_eq, ownerStride] at ha
    simp only [regKey, hs, ownerStride, if_true]
    omega
  exact congrArg BitVec.toNat (sget_serase_above mapDefault (fun key => key / ownerStride == halfNo h) _ s.regs hb)

/-- In a canonical map the registers of the other half stay. -/
theorem word_eraseOwner_other (s : State) {h g : HalfId} {k : Nat} (hw : swf mapDefault s.regs = true) (hg : g ≠ h)
    (hk : k < ownerStride) : word (eraseOwner s (halfNo h)) g k = word s g k := by
  have ho : (regKey g k / ownerStride == halfNo h) = false := by
    rw [regKey_owner g hk]
    cases g <;> cases h <;> simp_all [halfNo] <;> split <;> simp
  exact congrArg BitVec.toNat
    (sget_serase_kept mapDefault (fun key => key / ownerStride == halfNo h) _ s.regs none hw ho)

/-! ### A half held in reset -/

/-- Clearing a half writes two registers after its own are erased: TEST_CFG with ALONE, and the era. -/
theorem word_halfClear (s : State) (h g : HalfId) (powered : Bool) {k : Nat} (ha : k % 0x100000000 ≠ 0x60018)
    (he : k % 0x100000000 ≠ 0x16004C) : word (halfClear s h powered) g k = word (eraseOwner s (halfNo h)) g k := by
  simp only [halfClear]
  rw [word_wr_ne _ _ _ _ _ _ (regKey_ne _ _ _ _ he), wrB, word_wr_ne _ _ _ _ _ _ (regKey_ne _ _ _ _ ha), word_setHalf]

@[simp] theorem halfClear_variant (s : State) (h : HalfId) (b : Bool) : (halfClear s h b).variant = s.variant := by
  simp [halfClear, eraseOwner]
@[simp] theorem halfClear_ticks (s : State) (h : HalfId) (b : Bool) : (halfClear s h b).ticks = s.ticks := by
  simp [halfClear, eraseOwner]
@[simp] theorem halfClear_field (s : State) (h : HalfId) (b : Bool) : (halfClear s h b).field = s.field := by
  simp [halfClear, eraseOwner]
@[simp] theorem halfClear_store (s : State) (h : HalfId) (b : Bool) : (halfClear s h b).store = s.store := by
  simp [halfClear, eraseOwner]

/-- The half cleared is as after reset; the other one stays. -/
theorem half_halfClear (s : State) (h g : HalfId) (b : Bool) : half (halfClear s h b) g =
    if g = h then { Half.reset with mode := { Half.reset.mode with powered := b }, tally := lacking s.variant }
    else half s g := by
  have he : half (eraseOwner s (halfNo h)) g = half s g := by cases g <;> rfl
  simp only [halfClear, half_wr, half_wrB, half_setHalf, he]

/-- A half that is absent, unpowered or in reset is not alive. -/
theorem alive_eq_false {s : State} {h : HalfId} (hr : (half s h).mode.inReset = true) : alive s h = false := by
  simp [alive, hr]

theorem alive_halfClear_same (s : State) (h : HalfId) (b : Bool) : alive (halfClear s h b) h = false :=
  alive_eq_false (by rw [half_halfClear, if_pos rfl]; rfl)

/-- Clearing a half brings no half to life. -/
theorem alive_halfClear_of_not {s : State} {h g : HalfId} (b : Bool) (hg : alive s g = false) :
    alive (halfClear s h b) g = false := by
  by_cases he : g = h
  · subst he
    exact alive_halfClear_same s g b
  · simpa only [alive, present, twoHalves, halfClear_variant, half_halfClear, if_neg he] using hg

/-- Clearing both halves leaves none alive. -/
theorem alive_halfClear_both (s : State) (b c : Bool) (x : HalfId) :
    alive (halfClear (halfClear s .a b) .b c) x = false := by
  cases x with
  | a => exact alive_halfClear_of_not c (alive_halfClear_same s .a b)
  | b => exact alive_halfClear_same _ .b c

/-- After its clearing a half is in BOOT. -/
theorem modeOf_halfClear_same (s : State) (h : HalfId) (b : Bool) : modeOf (halfClear s h b) h = mBOOT := by
  have hw : word (halfClear s h b) h 0x20 = (regDefault 0x20).toNat :=
    (word_halfClear s h h b (by decide) (by decide)).trans (word_eraseOwner_own s h (by decide) (by decide))
  exact (congrArg (bits · 2 0) hw).trans (by decide)

/-- In a canonical map the other half's mode stays. -/
theorem modeOf_halfClear_other (s : State) {h g : HalfId} (b : Bool) (hw : swf mapDefault s.regs = true) (hg : g ≠ h) :
    modeOf (halfClear s h b) g = modeOf s g := by
  have he : word (halfClear s h b) g 0x20 = word s g 0x20 :=
    (word_halfClear s h g b (by decide) (by decide)).trans (word_eraseOwner_other s hw hg (by decide))
  exact congrArg (bits · 2 0) he

/-- A shared register stays when a half is cleared. -/
theorem rd_halfClear_shared (s : State) (h g : HalfId) (b : Bool) (f : Fld) (hs : sharedKey f.key = true)
    (ha : f.key % 0x100000000 ≠ 0x60018) (he : f.key % 0x100000000 ≠ 0x16004C) :
    rd (halfClear s h b) g f = rd s g f := by
  simp only [rd, word_halfClear s h g b ha he, word_eraseOwner_shared s h g hs]

/-! ### Module reset and power-on -/

@[simp] theorem moduleReset_ticks (s : State) (n : Nat) : (moduleReset s n).ticks = s.ticks := by simp [moduleReset]
@[simp] theorem moduleReset_field (s : State) (n : Nat) :
    (moduleReset s n).field = { FieldDie.reset with opBase := n } := by simp [moduleReset]
@[simp] theorem moduleReset_store (s : State) (n : Nat) :
    (moduleReset s n).store = { s.store with clearing := false } := by simp [moduleReset]

theorem alive_moduleReset (s : State) (n : Nat) (x : HalfId) : alive (moduleReset s n) x = false :=
  alive_halfClear_both _ _ _ x

theorem modeOf_moduleReset (s : State) (n : Nat) (x : HalfId) : modeOf (moduleReset s n) x = mBOOT := by
  cases x with
  | a =>
    refine (modeOf_halfClear_other _ _ ?_ (by decide)).trans (modeOf_halfClear_same _ .a true)
    exact (keeps_halfClear (ps := allParts) _ _ (by decide) (Keeps.refl _ _)).wf rfl
  | b => exact modeOf_halfClear_same _ .b _

/-- The field die's registers read their reset values after a module reset. -/
theorem rd_moduleReset_shared (s : State) (n : Nat) (g : HalfId) (f : Fld) (hs : sharedKey f.key = true)
    (hk : f.key < ownerStride) (ha : f.key % 0x100000000 ≠ 0x60018) (he : f.key % 0x100000000 ≠ 0x16004C) :
    rd (moduleReset s n) g f = bits (regDefault f.key).toNat f.hi f.lo := by
  rw [moduleReset, rd_halfClear_shared _ _ _ _ f hs ha he, rd_halfClear_shared _ _ _ _ f hs ha he]
  simp only [rd, word, sget, mapDefault, regKey_mod_ownerStride g hk]


/-! ### Vote cells (R412, R413) -/

theorem rd_setDos (s : State) (mask v : Nat) (g : HalfId) (f : Fld) (hf : keyBlock f.key = 11) :
    rd (setDos s mask v) g f = rd s g f :=
  (keeps_setDos (ps := 0x1023C5012C2000) mask v (by decide) (Keeps.refl _ s)).rd g f (by rw [hf]; decide)
    (by rw [hf]; decide)

theorem rd_countFto (s : State) (rise : Nat) (g : HalfId) (f : Fld) (hf : keyBlock f.key = 11) :
    rd (countFto s rise) g f = rd s g f :=
  (keeps_countFto (ps := 0x20000000000) rise (by decide) (Keeps.refl _ s)).rd g f (by rw [hf]; decide)
    (by rw [hf]; decide)

/-- Evaluating the vote cells leaves the conditions they depend on. -/
theorem rd_cells_cellStat (s : State) (g : HalfId) (f : Fld) (hf : f.key = 0xB8024) :
    rd (cells s) g f = rd s g f := by
  have hb : keyBlock f.key = 11 := by rw [hf]; decide
  have hne : ∀ (t : State) (e : Fld) (v : Nat), e.key % 0x100000000 ≠ 0xB8024 → rd (wr t .a e v) g f = rd t g f :=
    fun t e v he => rd_wr_addr t .a g e f v (by rw [hf]; exact fun h => he h.symm)
  simp only [cells]
  rw [rd_setDos _ _ _ _ _ hb, hne _ _ _ (by decide), rd_countFto _ _ _ _ hb, hne _ _ _ (by decide),
    hne _ _ _ (by decide), hne _ _ _ (by decide), hne _ _ _ (by decide), hne _ _ _ (by decide),
    hne _ _ _ (by decide)]

/-- The bit of a half's absence in the vote cells' status. -/
def absentFld : HalfId → Fld
  | .a => Reg.TRM_CELL_STAT_A_ABSENT
  | .b => Reg.TRM_CELL_STAT_B_ABSENT

theorem absent_eq (s : State) (h : HalfId) : absent s h = rdB s .a (absentFld h) := by cases h <;> rfl

/-- A half whose absence is signalled to the vote cells is absent. -/
theorem absent_cells_wrB (s : State) (h : HalfId) : absent (cells (wrB s .a (absentFld h) true)) h = true := by
  have hk : (absentFld h).key = 0xB8024 := by cases h <;> rfl
  rw [absent_eq, rdB, rd_cells_cellStat _ _ _ hk]
  cases h <;> exact rdB_wrB_same _ _ _ _ rfl (by decide)

/-- After `voteAbsent` the half's vote input is absent: the record it may write leaves the vote cells. -/
theorem absent_voteAbsent (s : State) (h : HalfId) (cause : Nat) (record_ : Bool) :
    absent (voteAbsent s h cause record_) h = true := by
  have hrec : ∀ (t : State) (f : FieldIo → FieldIo) (ev : Nat) (bs : List Byte),
      absent (ledgerField (modIo t f) ev bs) h = absent t h := by
    intro t f ev bs
    have hk := keeps_ledgerField (ps := 0x10238501240000) ev bs (by decide)
      (keeps_modIo f (by decide) (Keeps.refl _ t))
    rw [absent_eq, absent_eq, hk.rdB _ _ (by cases h <;> decide) (by cases h <;> decide)]
  have hset := absent_cells_wrB s h
  cases h
  all_goals
    unfold voteAbsent
    dsimp only
    split
    · assumption
    · split
      · exact (hrec _ _ _ _).trans hset
      · exact hset

/-! ### Resets and power-on -/

theorem alive_of_keeps {m : Nat} {s t : State} (hk : Keeps m s t) (hm : m.testBit 35 = false) (h : HalfId) :
    alive t h = alive s h := by
  simp only [alive, present, twoHalves, hk.variant, hk.mode hm]

theorem modeOf_of_keeps {m : Nat} {s t : State} (hk : Keeps m s t) (hm : m.testBit 0 = false) (h : HalfId) :
    modeOf t h = modeOf s h := hk.rd h Reg.SYS_MODE_MODE (by decide) hm

/-- What a record of each half may change. -/
theorem keeps_ledgerAll (s : State) (hs : List HalfId) (ev : Nat) (bs : List Byte) :
    Keeps 0x10238401240000 s (hs.foldl (fun s h => ledgerH s h ev bs) s) :=
  keeps_foldl _ _ (fun _ h ht => keeps_ledgerH h ev bs (by decide) ht) (Keeps.refl _ s)

theorem setUnits_ledgerAll (s : State) (hs : List HalfId) (ev : Nat) (bs : List Byte) :
    (hs.foldl (fun s h => ledgerH s h ev bs) s).store.setUnits = s.store.setUnits := by
  induction hs generalizing s with
  | nil => rfl
  | cons h t ih => exact (ih _).trans (ledger_st_setUnits _ _ _ _ _)

/-- Power-on writes the voltages after the module reset. -/
theorem rd_powerUp_addr (s : State) (vsup vhold : Nat) (g : HalfId) (f : Fld) (hf : f.key % 0x100000000 ≠ 0x10048) :
    ∃ u, rd (powerUp s vsup vhold) g f = rd (moduleReset u (opStored s)) g f :=
  ⟨_, (rd_wr_addr _ _ _ _ _ _ hf).trans (rd_wr_addr _ _ _ _ _ _ hf)⟩

theorem rd_powerUp_vsup (s : State) {vsup : Nat} (vhold : Nat) (hv : vsup < 65536) :
    rd (powerUp s vsup vhold) .a Reg.PWR_VOLT_VSUP = vsup := by
  refine (rd_wr_disjoint _ _ Reg.PWR_VOLT_VHOLD Reg.PWR_VOLT_VSUP _ rfl (by decide) (by decide) (by decide)
    (by decide)).trans ((rd_wr_same _ _ _ _ (by decide) (by decide)).trans ?_)
  exact Nat.mod_eq_of_lt hv

/-- Power-on restarts the count of ticks, shows the voltages, and holds both halves in reset in BOOT. -/
theorem powerUp_spec (s : State) {vsup : Nat} (vhold : Nat) (hv : vsup < 65536) :
    (powerUp s vsup vhold).ticks = 0 ∧ (powerUp s vsup vhold).field.supply = true ∧
    rdB (powerUp s vsup vhold) .a Reg.PWR_PF_STAT_PF = false ∧
    rd (powerUp s vsup vhold) .a Reg.PWR_VOLT_VSUP = vsup ∧
    ∀ x, alive (powerUp s vsup vhold) x = false ∧ modeOf (powerUp s vsup vhold) x = mBOOT := by
  refine ⟨?_, ?_, ?_, rd_powerUp_vsup s vhold hv, fun x => ⟨?_, ?_⟩⟩
  · rw [powerUp, wr_ticks, wr_ticks, moduleReset_ticks]
  · rw [powerUp, wr_field, wr_field, moduleReset_field, FieldDie.reset]
  · obtain ⟨u, hu⟩ := rd_powerUp_addr s vsup vhold .a Reg.PWR_PF_STAT_PF (by decide)
    rw [rdB, hu, rd_moduleReset_shared _ _ _ _ (by decide) (by decide) (by decide) (by decide)]
    decide
  · rw [powerUp, alive_wr, alive_wr, alive_moduleReset]
  · obtain ⟨u, hu⟩ := rd_powerUp_addr s vsup vhold x Reg.SYS_MODE_MODE (by decide)
    exact hu.trans (modeOf_moduleReset u _ x)

/-- A record of each half, where it is due: what it may change, and that the setting units stay. -/
theorem ledgerAll_if (c : Bool) (u : State) (ev : Nat) (bs : List Byte) :
    Keeps 0x10238401240000 u (if c then (halves u).foldl (fun s h => ledgerH s h ev bs) u else u) ∧
    (if c then (halves u).foldl (fun s h => ledgerH s h ev bs) u else u).store.setUnits = u.store.setUnits := by
  cases c with
  | true => exact ⟨keeps_ledgerAll u _ ev bs, setUnits_ledgerAll u _ ev bs⟩
  | false => exact ⟨Keeps.refl _ u, rfl⟩

/-- After RESET_N, the records of the ends of lockouts apart, the module is as its reset leaves it. -/
theorem resetN_spec {s : State} (hs : s.field.supply = true) : Completes .resetN s fun t =>
    Keeps 0x10238401240000 (moduleReset s s.field.opBase) t ∧ t.store.setUnits = s.store.setUnits := by
  have hlcl := ledgerAll_if s.field.io.lclOut (moduleReset s s.field.opBase) 0x0E05 (p4 2)
  have hlock := fun u => ledgerAll_if (rdB s .a Reg.SYS_LOCKOUT_ACTIVE) u 0x0205 (p4 1)
  refine ⟨_, (exec_resetN s).trans (if_neg (by simp [hs])), hlcl.1.trans (hlock _).1,
    (hlock _).2.trans (hlcl.2.trans ?_)⟩
  rw [moduleReset_store]

/-- The state after a half reset: the half is cleared, then its vote input becomes absent. -/
theorem halfReset_spec {s : State} {h : HalfId} (hp : present s h = true) (hw : (half s h).mode.powered = true) :
    Completes (.halfReset h) s fun t =>
      t = voteAbsent (halfClear (imgAbort (loseLeader s h) h) h true) h 1 true := by
  refine ⟨_, rfl, ?_⟩
  simp [hp, hw, halfReset]

/-- What the vote cells, their pins and the record of an absent input may change. -/
theorem keepsOf_voteAbsent (s : State) (h : HalfId) (cause : Nat) (record_ : Bool) :
    Keeps 0x1023C5012C2800 s (voteAbsent s h cause record_) :=
  keeps_voteAbsent h cause record_ (by decide) (Keeps.refl _ s)

/-! ### Power-fail (R612, R613) -/

/-- Both halves that the variant has are cleared: none is alive. -/
theorem alive_clearHalves (s : State) (x : HalfId) :
    alive ((halves s).foldl (fun s h => halfClear s h true) s) x = false := by
  unfold halves
  split
  · exact alive_halfClear_both s true true x
  · rename_i hone
    cases x with
    | a => exact alive_halfClear_same s .a true
    | b =>
      have htwo : twoHalves (halfClear s .a true) = false := by simpa [twoHalves] using hone
      simp [alive, present, htwo]

/-- The registers of the field die stay when the halves are cleared. -/
theorem rd_clearHalves_shared (s : State) (g : HalfId) (f : Fld) (hs : sharedKey f.key = true)
    (ha : f.key % 0x100000000 ≠ 0x60018) (he : f.key % 0x100000000 ≠ 0x16004C) (hl : List HalfId) :
    rd (hl.foldl (fun s h => halfClear s h true) s) g f = rd s g f := by
  induction hl generalizing s with
  | nil => rfl
  | cons h t ih => exact (ih _).trans (rd_halfClear_shared s h g true f hs ha he)

/-- Step 7 after the halves are cleared: GAVEL_MON, the vote cells and the outputs. -/
theorem keeps_pfHold_clear (s : State) :
    Keeps 0x1023C5812C2800 ((halves s).foldl (fun s h => halfClear s h true) s) (pfHold s) := by
  simp only [pfHold]
  refine keeps_setDos _ _ (by decide) (keeps_cells (by decide) ?_)
  exact keeps_wrB _ _ _ (by decide) (keeps_wrB _ _ _ (by decide) (keeps_wrB _ _ _ (by decide)
    (keeps_die_mon _ (by decide) (Keeps.refl _ _))))

theorem alive_pfHold (s : State) (x : HalfId) : alive (pfHold s) x = false :=
  (alive_of_keeps (keeps_pfHold_clear s) (by decide) x).trans (alive_clearHalves s x)

/-- Holding the halves leaves the power-fail status. -/
theorem rd_pfHold_pfStat (s : State) (f : Fld) (hf : f.key = 0x10044) : rd (pfHold s) .a f = rd s .a f := by
  have hb : keyBlock f.key = 1 := by rw [hf]; decide
  rw [(keeps_pfHold_clear s).rd _ f (by rw [hb]; decide) (by rw [hb]; decide)]
  exact rd_clearHalves_shared s .a f (by rw [hf]; decide) (by rw [hf]; decide) (by rw [hf]; decide) _

/-- The outputs are held as in boot. -/
theorem bootHold_pfHold (s : State) : rdB (pfHold s) .a Reg.TRM_CELL_STAT_BOOT_HOLD = true := by
  simp only [pfHold, rdB]
  rw [rd_setDos _ _ _ _ _ (by decide), rd_cells_cellStat _ _ _ rfl]
  exact rdB_wrB_same _ _ _ _ rfl (by decide)

/-- The declaration shows power-fail and its cause. -/
theorem pfDeclare_spec (s : State) {cause : Nat} (vsup vhold : Nat) (hc : cause < 4) :
    rdB (pfDeclare s cause vsup vhold) .a Reg.PWR_PF_STAT_PF = true ∧
    rd (pfDeclare s cause vsup vhold) .a Reg.PWR_PF_STAT_CAUSE = cause := by
  refine ⟨?_, rd_wr_same' _ _ _ _ (by decide) (by decide) hc⟩
  rw [pfDeclare, rdB, rd_wr_disjoint _ _ Reg.PWR_PF_STAT_CAUSE Reg.PWR_PF_STAT_PF _ rfl (by decide) (by decide)
    (by decide) (by decide)]
  exact rdB_wrB_same _ _ _ _ rfl (by decide)

/-- The causes of R612 are 0, 1 and 2. -/
theorem pfCause_lt (s : State) (vsup vhold : Nat) : pfCause s vsup vhold < 4 := by
  unfold pfCause
  split
  · decide
  · split <;> decide

/-- What the notification and the flush of the halves may change: neither the power-fail status nor the supply. -/
def pfStepParts : Nat := 0x1FFFFFFFFFFFFD

/-- The steps of R613 between the declaration and step 7 leave the power-fail status. -/
theorem rd_pfSteps_pfStat (s : State) (hs : List HalfId) (cause vsup vhold : Nat) (times : List Nat)
    (f : Store → Store) (e : Fld) (he : e.key = 0x10044) :
    rd (modStore (hs.foldl (fun s h => pfFlush s h times)
      (hs.foldl (fun s h => pfNotify s h cause vsup vhold) (setAbort (pendAbort s)))) f) .a e = rd s .a e := by
  have hk : Keeps pfStepParts s (modStore (hs.foldl (fun s h => pfFlush s h times)
      (hs.foldl (fun s h => pfNotify s h cause vsup vhold) (setAbort (pendAbort s)))) f) := by
    refine keeps_modStore _ (by decide) (keeps_foldl _ _ (fun _ h ht => keeps_pfFlush h times (by decide) ht) ?_)
    refine keeps_foldl _ _ (fun _ h ht => keeps_pfNotify h cause vsup vhold (by decide) ht) ?_
    exact keeps_setAbort (by decide) (keeps_pendAbort (by decide) (Keeps.refl _ s))
  exact hk.rd _ e (by rw [he]; decide) (by rw [he]; decide)

/-- A half that is alive is one of the variant's halves. -/
theorem mem_halves_of_alive {s : State} {x : HalfId} (hx : alive s x = true) : x ∈ halves s := by
  cases x with
  | a => unfold halves; split <;> simp
  | b =>
    obtain ⟨⟨htwo, _⟩, _⟩ : (twoHalves s = true ∧ _) ∧ _ := by simpa [alive, present] using hx
    simp [halves, htwo]

/-- The sequence shows the declaration's cause to its end, holds the halves and the outputs, and ends in step 7 where
a half had left BOOT. -/
theorem pfSequence_spec (s : State) {cause : Nat} (vsup vhold : Nat) (times : List Nat) (hc : cause < 4) :
    rdB (pfSequence s cause vsup vhold times) .a Reg.PWR_PF_STAT_PF = true ∧
    rd (pfSequence s cause vsup vhold times) .a Reg.PWR_PF_STAT_CAUSE = cause ∧
    rdB (pfSequence s cause vsup vhold times) .a Reg.TRM_CELL_STAT_BOOT_HOLD = true ∧
    (∀ x, alive (pfSequence s cause vsup vhold times) x = false) ∧
    ((∃ x, alive s x = true ∧ modeOf s x ≠ mBOOT) →
      rd (pfSequence s cause vsup vhold times) .a Reg.PWR_PF_STAT_STEP = 7) := by
  have hd := pfDeclare_spec s vsup vhold hc
  simp only [pfSequence]
  split
  · rename_i hnone
    refine ⟨?_, ?_, bootHold_pfHold _, alive_pfHold _, fun ⟨x, hx, hm⟩ => ?_⟩
    · rw [rdB, rd_pfHold_pfStat _ _ rfl]
      exact hd.1
    · rw [rd_pfHold_pfStat _ _ rfl]
      exact hd.2
    · have hin := mem_halves_of_alive hx
      have hmem : x ∈ (halves s).filter fun h => alive s h && modeOf s h != mBOOT := by simp [hin, hx, hm]
      rw [List.isEmpty_iff.mp hnone] at hmem
      exact absurd hmem List.not_mem_nil
  · refine ⟨?_, ?_, ?_, fun x => ?_, fun _ => rd_wr_same _ _ _ _ (by decide) (by decide)⟩
    · rw [rdB, rd_wr_disjoint _ _ Reg.PWR_PF_STAT_STEP Reg.PWR_PF_STAT_PF _ rfl (by decide) (by decide) (by decide)
        (by decide), rd_pfHold_pfStat _ _ rfl, rd_pfSteps_pfStat _ _ _ _ _ _ _ _ rfl]
      exact hd.1
    · rw [rd_wr_disjoint _ _ Reg.PWR_PF_STAT_STEP Reg.PWR_PF_STAT_CAUSE _ rfl (by decide) (by decide) (by decide)
        (by decide), rd_pfHold_pfStat _ _ rfl, rd_pfSteps_pfStat _ _ _ _ _ _ _ _ rfl]
      exact hd.2
    · exact (rdB_of_rd_addr _ _ _ _ _ _ (by decide)).trans (bootHold_pfHold _)
    · exact (alive_wr _ _ _ _ _).trans (alive_pfHold _ x)

/-- Whether a half is alive does not depend on the field die. -/
theorem alive_withField (s : State) (f : FieldDie) (x : HalfId) : alive { s with field := f } x = alive s x := by
  cases x <;> rfl

/-- Settles O31, by the state that each reset and the power-fail sequence end in. -/
theorem resetsAndPowerFail : Obligations.ResetsAndPowerFail := by
  refine ⟨fun vsup vhold s hval hv => ⟨fun hpf => ?_, fun hsup hpf hc => ?_⟩, fun s hsup => ?_, fun h s hp hw => ?_,
    fun vsup vhold times s hsup hpf hc => ?_, fun s hsup => ?_⟩
  · obtain ⟨hticks, hsupply, _, hvolt, hheld⟩ := powerUp_spec s vhold hv
    exact ⟨_, (exec_powerOn s vsup vhold).trans (by simp [execPowerOn, hval, hpf]), hticks, hsupply, hvolt, hheld⟩
  · obtain ⟨hticks, _, hstat, hvolt, hheld⟩ := powerUp_spec s vhold hv
    exact ⟨_, (exec_powerRestoreBoot s vsup vhold).trans (by simp [execPowerRestoreBoot, hval, hsup, hpf, hc]),
      hticks, hstat, hvolt, hheld⟩
  · obtain ⟨t, ht, hk, hunits⟩ := resetN_spec hsup
    refine ⟨t, ht, (hk.ticks (by decide)).trans (moduleReset_ticks _ _), hunits, ?_, fun x => ⟨?_, ?_⟩⟩
    · rw [hk.rdB _ _ (by decide) (by decide), rdB,
        rd_moduleReset_shared _ _ _ _ (by decide) (by decide) (by decide) (by decide)]
      decide
    · exact (alive_of_keeps hk (by decide) x).trans (alive_moduleReset _ _ x)
    · exact (modeOf_of_keeps hk (by decide) x).trans (modeOf_moduleReset _ _ x)
  · obtain ⟨t, ht, rfl⟩ := halfReset_spec hp hw
    have hk := keepsOf_voteAbsent (halfClear (imgAbort (loseLeader s h) h) h true) h 1 true
    refine ⟨_, ht, (alive_of_keeps hk (by decide) h).trans (alive_halfClear_same _ h true),
      (modeOf_of_keeps hk (by decide) h).trans (modeOf_halfClear_same _ h true), ?_, absent_voteAbsent _ _ _ _⟩
    rw [hk.image (by decide), half_halfClear, if_pos rfl]
    rfl
  · exact ⟨_, (exec_powerFailDeclare s vsup vhold times).trans (by simp [execPowerFailDeclare, hsup, hpf, hc]),
      pfSequence_spec s vsup vhold times (pfCause_lt s vsup vhold)⟩
  · refine ⟨_, (exec_converterStop s).trans (if_neg (by simp [hsup])), rfl, fun x => ?_, ?_⟩
    · rw [alive_withField, alive_halfClear_both]
    · simp

/-! ### The scope of a half reset in a map that is not canonical -/

/-- The module after reset, but for a register map out of order: a register of Half B (SYS_BLOCK_DO) is listed before
one of Half A (SMP_TRK_CFG), which therefore reads its default. -/
def disorderedState : State :=
  { State.reset with regs := [(0x34 + ownerStride, 1), (0x40020, 1)] }

/-- The reset of Half B erases the entry that hid the one of Half A: SMP_TRK_CFG of Half A reads 1 afterwards. -/
theorem word_disordered_halfClear : word (halfClear disorderedState .b true) .a 0x40020 = 1 :=
  (word_halfClear _ _ _ _ (by decide) (by decide)).trans (by decide)

theorem word_disordered : word disorderedState .a 0x40020 = 0xAFF00 := by decide

/-- Half B neither leads nor writes an image slot: the first steps of its reset change nothing. -/
theorem halfReset_disordered : imgAbort (loseLeader disorderedState .b) .b = disorderedState := by
  have hacts : acts disorderedState .b = false := by decide
  have hslot : (half disorderedState .b).port.openSlot = none := rfl
  simp only [loseLeader, hacts, Bool.not_false, if_true, imgAbort, hslot]

/-- Refutes O60: the statement takes every register map, and in one out of order (`swf` is false of it) the reset of
Half B changes what SMP_TRK_CFG of Half A reads. -/
theorem not_resetDomains : ¬ Obligations.ResetDomains := by
  rintro ⟨hhalf, -⟩
  obtain ⟨t, ht, -, hother, -⟩ := hhalf .b disorderedState (by decide) (by decide)
  have hstays : word t .a 0x40020 = word disorderedState .a 0x40020 :=
    congrArg BitVec.toNat (hother 0x40020 (by decide) (by decide))
  obtain ⟨u, hu, rfl⟩ := halfReset_spec (s := disorderedState) (h := .b) (by decide) (by decide)
  obtain rfl : t = _ := Host.Outcome.next.inj (ht.symm.trans hu)
  rw [halfReset_disordered, (keepsOf_voteAbsent _ .b 1 true).word .a 0x40020 (by decide) (by decide),
    word_disordered_halfClear, word_disordered] at hstays
  exact absurd hstays (by decide)


end Sys2Proof.Machine
end

section
/-!
PROOFS of the statements about the block as a whole: every step keeps the invariant; the measurements of pace, and the
retransmission of GOOSE frames.
-/

namespace Sys2Proof.Machine

open Sys2Proof (HalfId Instr)

/-! ### The invariant of a step -/

theorem step_of_pending_nil {s : State} (hp : s.pending = []) : step s = .next (tick s) := by
  simp only [step, hp]

theorem step_of_pending_cons {s : State} {c : Instr} {rest : List Instr} (hp : s.pending = c :: rest) :
    step s = exec c { s with pending := rest } := by
  simp only [step, hp]

/-- What keeps the register map canonical and the queue as it is keeps the invariant. -/
theorem Inv.of_keeps {m : Nat} {s t : State} (hi : Inv s) (hk : Keeps m s t) : Inv t := by
  obtain ⟨hmap, hqueue⟩ := hi
  exact ⟨hk.wf hmap, hk.pending.symm ▸ hqueue⟩

/-- Taking the front command leaves well-formed commands waiting. -/
theorem Inv.dequeue {s : State} {c : Instr} {rest : List Instr} (hi : Inv s) (hp : s.pending = c :: rest) :
    Inv { s with pending := rest } := by
  obtain ⟨hmap, hqueue⟩ := hi
  exact ⟨hmap, fun d hd => hqueue d (hp ▸ List.mem_cons_of_mem c hd)⟩

/-- Settles O57: an idle step keeps what `tick` keeps, any other what its command keeps. -/
theorem stepKeepsInvariant : Obligations.StepKeepsInvariant := by
  intro s t hi ht
  cases hp : s.pending with
  | nil =>
    obtain rfl : tick s = t := Host.Outcome.next.inj ((step_of_pending_nil hp).symm.trans ht)
    exact hi.of_keeps (keeps_tick (ps := 0x800050000000) (by decide) (Keeps.refl _ s))
  | cons c rest =>
    have hexec : exec c { s with pending := rest } = .next t := (step_of_pending_cons hp).symm.trans ht
    exact (hi.dequeue hp).of_keeps (everyCommandKeepsTheRest c _ t hexec)

/-! ### The pace monitors of a measurement (R41) -/

theorem paceExcluded_lt (counts : List Nat) : paceExcluded counts < 2 ^ 8 := by
  unfold paceExcluded
  dsimp only
  exact List.foldlRecOn (motive := (· < 2 ^ 8)) _ _ (by decide)
    fun m hm k hk => putBit_lt m k 8 _ hm (List.mem_range.mp hk)

theorem paceKept_monitor_lt {counts : List Nat} {e : Nat × Nat} (he : e ∈ paceKept counts) : e.2 < 8 := by
  obtain ⟨k, hk, rfl⟩ := List.mem_map.mp he
  exact List.mem_range.mp (List.mem_filter.mp hk).1

/-- The worst remaining monitor is one of those that remain. -/
theorem paceWorst_mem {kept : List (Nat × Nat)} {w : Nat × Nat} (hw : paceWorst kept = some w) : w ∈ kept := by
  refine List.foldlRecOn (motive := fun b => ∀ x, b = some x → x ∈ kept) kept _ (by simp) (fun b hb e he => ?_) w hw
  cases b with
  | none => rintro x ⟨⟩; exact he
  | some y =>
    intro x hx
    dsimp only at hx
    split at hx
    · obtain rfl := Option.some.inj hx; exact he
    · exact hb x hx

/-! ### PACE_LOW and the other fields of the block SYS (R43) -/

/-- The parts that the records, Tally and the counts of a measurement may change: none of the registers of SYS. -/
def paceBookParts : Nat := 0x1023CC212C0000

theorem Keeps.rd_sys {s t : State} (hk : Keeps paceBookParts s t) (h : HalfId) (f : Fld) (hf : f.key < 0x10000) :
    Machine.rd t h f = Machine.rd s h f := by
  have hb : keyBlock f.key = 0 := by unfold keyBlock; omega
  exact hk.rd h f (by rw [hb]; decide) (by rw [hb]; decide)

theorem Keeps.rdB_sys {s t : State} (hk : Keeps paceBookParts s t) (h : HalfId) (f : Fld) (hf : f.key < 0x10000) :
    Machine.rdB t h f = Machine.rdB s h f := by
  simp only [Machine.rdB, hk.rd_sys h f hf]

/-- Of the registers of SYS, setting or clearing PACE_LOW writes that bit only. -/
theorem keeps_paceLow_flag (s : State) (h : HalfId) (on few : Bool) :
    Keeps paceBookParts (wrB s h Reg.SYS_PACE_PACE_LOW on) (paceLow s h on few) := by
  have hgood := keeps_modMode (ps := paceBookParts) h (fun m => { m with paceGood := 0 }) (by decide)
    (Keeps.refl _ (wrB s h Reg.SYS_PACE_PACE_LOW on))
  exact keeps_tallySet _ _ _ _ _ (by decide) (keeps_ledgerH _ _ _ (by decide)
    (keeps_ite _ (keeps_irq _ _ (by decide) hgood) hgood))

theorem rdB_paceLow (s : State) (h : HalfId) (on few : Bool) :
    rdB (paceLow s h on few) h Reg.SYS_PACE_PACE_LOW = on :=
  ((keeps_paceLow_flag s h on few).rdB_sys _ _ (by decide)).trans (rdB_wrB_same _ _ _ _ rfl (by decide))

/-- Fields of SYS below bit 31 stay when PACE_LOW, bit 31 of its register, is set or cleared. -/
theorem rd_paceLow_below (s : State) (h : HalfId) (on few : Bool) {f : Fld} (hf : f.key < 0x10000) (hl : f.lo ≤ f.hi)
    (hh : f.hi < 31) : rd (paceLow s h on few) h f = rd s h f := by
  rw [(keeps_paceLow_flag s h on few).rd_sys h f hf]
  by_cases hk : f.key = Reg.SYS_PACE_PACE_LOW.key
  · exact rd_wrB_disj _ _ _ _ _ hk (by decide) hl (by decide) (.inr hh)
  · refine rd_wrB_addr _ _ _ _ _ _ ?_
    rw [Nat.mod_eq_of_lt (by omega)]
    exact hk

/-- The state in which a judged measurement is in Tally and in the count of good ones, PACE_LOW as it was. -/
theorem paceJudge_eq (s : State) (h : HalfId) (few : Bool) : ∃ u, Keeps paceBookParts s u ∧
    paceJudge s h few =
      if (few || decide (rd s h Reg.SYS_PACE_PACE < rd s h Reg.SYS_PACE_CERT_CERT_MIN)) &&
        !rdB s h Reg.SYS_PACE_PACE_LOW then paceLow u h true few else u := by
  unfold paceJudge
  dsimp only
  refine ⟨_, ?_, rfl⟩
  exact keeps_tallySet _ _ _ _ _ (by decide) (keeps_tallySet _ _ _ _ _ (by decide)
    (keeps_modMode _ _ (by decide) (Keeps.refl _ s)))

theorem keeps_paceMon_book (s : State) (h : HalfId) : Keeps paceBookParts s (paceMon s h) :=
  keeps_paceMon h (by decide) (Keeps.refl _ s)

/-- Fields of SYS below bit 31 stay when a measurement is judged and its change of MON_FAIL recorded. -/
theorem rd_paceJudged (s : State) (h : HalfId) (few : Bool) {f : Fld} (hf : f.key < 0x10000) (hl : f.lo ≤ f.hi)
    (hh : f.hi < 31) : rd (paceMon (paceJudge s h few) h) h f = rd s h f := by
  refine ((keeps_paceMon_book _ h).rd_sys h f hf).trans ?_
  obtain ⟨u, hk, he⟩ := paceJudge_eq s h few
  rw [he]
  split
  · exact (rd_paceLow_below u h true few hf hl hh).trans (hk.rd_sys h f hf)
  · exact hk.rd_sys h f hf

/-- With too few monitors, or PACE below CERT_MIN, PACE_LOW is set: by this measurement or by one before it. -/
theorem rdB_paceJudged (s : State) (h : HalfId) {few : Bool}
    (hlow : few = true ∨ rd s h Reg.SYS_PACE_PACE < rd s h Reg.SYS_PACE_CERT_CERT_MIN) :
    rdB (paceMon (paceJudge s h few) h) h Reg.SYS_PACE_PACE_LOW = true := by
  refine ((keeps_paceMon_book _ h).rdB_sys h _ (by decide)).trans ?_
  obtain ⟨u, hk, he⟩ := paceJudge_eq s h few
  have hdue : (few || decide (rd s h Reg.SYS_PACE_PACE < rd s h Reg.SYS_PACE_CERT_CERT_MIN)) = true := by
    simpa using hlow
  rw [he, hdue]
  cases hset : rdB s h Reg.SYS_PACE_PACE_LOW with
  | false => exact rdB_paceLow u h true few
  | true => exact (hk.rdB_sys h _ (by decide)).trans hset

/-! ### What a measurement shows (R41, R46) -/

/-- PACE with its monitor, as a measurement shows them before LOWEST follows. -/
def pacePlace (s : State) (h : HalfId) (counts : List Nat) : State :=
  match paceWorst (paceKept counts) with
  | some w => wr (wr s h Reg.SYS_PACE_PACE (min w.1 65535)) h Reg.SYS_PACE_WORST_MON w.2
  | none => wr (freeVal s 65536).2 h Reg.SYS_PACE_PACE (freeVal s 65536).1

theorem paceShow_eq (s : State) (h : HalfId) (counts : List Nat) :
    paceShow s h counts =
      let u := pacePlace (wr s h Reg.SYS_PACE_MON_FAIL (paceExcluded counts)) h counts
      wr u h Reg.SYS_PACE_LOWEST_LOWEST (min (rd u h Reg.SYS_PACE_LOWEST_LOWEST) (rd u h Reg.SYS_PACE_PACE)) := rfl

/-- A field that is neither of PACE nor of WORST_MON stays when these two are shown. -/
theorem rd_pacePlace_ne (s : State) (h : HalfId) (counts : List Nat) {f : Fld}
    (hne : ∀ (t : State) (v : Nat), rd (wr t h Reg.SYS_PACE_PACE v) h f = rd t h f ∧
      rd (wr t h Reg.SYS_PACE_WORST_MON v) h f = rd t h f) : rd (pacePlace s h counts) h f = rd s h f := by
  unfold pacePlace
  split
  · exact (hne _ _).2.trans (hne _ _).1
  · exact (hne _ _).1

theorem pacePlace_worst (s : State) (h : HalfId) {counts : List Nat} {w : Nat × Nat}
    (hw : paceWorst (paceKept counts) = some w) :
    rd (pacePlace s h counts) h Reg.SYS_PACE_PACE = min w.1 65535 ∧
    rd (pacePlace s h counts) h Reg.SYS_PACE_WORST_MON = w.2 := by
  have hmon : w.2 < 8 := paceKept_monitor_lt (paceWorst_mem hw)
  simp only [pacePlace, hw]
  constructor
  · rw [rd_wr_disjoint _ _ Reg.SYS_PACE_WORST_MON Reg.SYS_PACE_PACE _ rfl (by decide) (by decide) (by decide)
      (by decide)]
    exact rd_wr_same' _ _ _ _ (by decide) (by decide) (Nat.lt_of_le_of_lt (Nat.min_le_right _ _) (by decide))
  · exact rd_wr_same' _ _ _ _ (by decide) (by decide) hmon

/-- What a measurement shows: the monitors excluded, the worst of the others, the lowest PACE so far; CERT_MIN stays. -/
theorem paceShow_spec (s : State) (h : HalfId) (counts : List Nat) :
    rd (paceShow s h counts) h Reg.SYS_PACE_MON_FAIL = paceExcluded counts ∧
    (∀ w, paceWorst (paceKept counts) = some w →
      rd (paceShow s h counts) h Reg.SYS_PACE_PACE = min w.1 65535 ∧
      rd (paceShow s h counts) h Reg.SYS_PACE_WORST_MON = w.2) ∧
    rd (paceShow s h counts) h Reg.SYS_PACE_LOWEST_LOWEST ≤ rd (paceShow s h counts) h Reg.SYS_PACE_PACE ∧
    rd (paceShow s h counts) h Reg.SYS_PACE_CERT_CERT_MIN = rd s h Reg.SYS_PACE_CERT_CERT_MIN := by
  rw [paceShow_eq]
  generalize hu : pacePlace (wr s h Reg.SYS_PACE_MON_FAIL (paceExcluded counts)) h counts = u
  have hlow : rd u h Reg.SYS_PACE_LOWEST_LOWEST < 2 ^ 16 := rd_lt u h Reg.SYS_PACE_LOWEST_LOWEST
  have hne : ∀ (f : Fld) (v : Nat), f.key % 0x100000000 ≠ 0x18 →
      rd (wr u h Reg.SYS_PACE_LOWEST_LOWEST v) h f = rd u h f := fun f v hf => rd_wr_addr _ _ _ _ _ _ hf
  dsimp only
  rw [hne Reg.SYS_PACE_MON_FAIL _ (by decide), hne Reg.SYS_PACE_PACE _ (by decide),
    hne Reg.SYS_PACE_WORST_MON _ (by decide), hne Reg.SYS_PACE_CERT_CERT_MIN _ (by decide),
    rd_wr_same' u h Reg.SYS_PACE_LOWEST_LOWEST _ (by decide) (by decide) (Nat.lt_of_le_of_lt (Nat.min_le_left _ _) hlow)]
  subst hu
  refine ⟨?_, fun w hw => pacePlace_worst _ h hw, Nat.min_le_right _ _, ?_⟩
  · rw [rd_pacePlace_ne _ h counts (f := Reg.SYS_PACE_MON_FAIL) fun t v =>
      ⟨rd_wr_disjoint t h Reg.SYS_PACE_PACE _ v rfl (by decide) (by decide) (by decide) (by decide),
        rd_wr_disjoint t h Reg.SYS_PACE_WORST_MON _ v rfl (by decide) (by decide) (by decide) (by decide)⟩]
    exact rd_wr_same' _ _ _ _ (by decide) (by decide) (paceExcluded_lt counts)
  · rw [rd_pacePlace_ne _ h counts (f := Reg.SYS_PACE_CERT_CERT_MIN) fun t v =>
      ⟨rd_wr_addr _ _ _ _ _ _ (by decide), rd_wr_addr _ _ _ _ _ _ (by decide)⟩]
    exact rd_wr_addr _ _ _ _ _ _ (by decide)

/-! ### The commands of pace and the retransmission of a frame (R43, R46, R710) -/

/-- A measurement of a half that runs: its registers are shown, then judged, and a change of MON_FAIL may be recorded. -/
theorem paceMeasurement_eq {h : HalfId} {counts : List Nat} {s : State} (hal : alive s h = true) :
    ∃ u, Keeps paceBookParts (paceShow (count s h 2) h counts) u ∧ exec (.paceMeasurement h counts) s =
      .next (paceMon (paceJudge u h (decide ((paceKept counts).length < 6))) h) := by
  have halive : ¬(!alive s h) = true := by simp [hal]
  exact ⟨_, keeps_modMode h _ (by decide) (Keeps.refl _ _), (exec_paceMeasurement s h counts).trans (if_neg halive)⟩

/-- The retransmission of a publishing leader's enabled block is a frame, with what has changed since the latest. -/
theorem exec_gooseRetransmit_publishes {h : HalfId} {block : Nat} {s : State} (hl : leaderPublishes s h = true)
    (hon : gooseOn s h 0 block = true) (hb : block < 32) :
    exec (.gooseRetransmit h block) s = .next (gooseSend s h block (gooseChanged s h block)) := by
  simp [exec_gooseRetransmit, execGooseRetransmit, hl, hon, hb]

/-- The counters and members of a block's latest frame, after one is sent (R710). -/
theorem gooseSend_pub (s : State) (h : HalfId) (b : Nat) (change : Bool) :
    let g := sget (fun _ => default) (half (gooseSend s h b change) h).mgmt.gpubs b
    let old := sget (fun _ => default) (half s h).mgmt.gpubs b
    g.stNum = (if change then gooseNext old.stNum else old.stNum) ∧
    g.sqNum = (if change then 0 else gooseNext old.sqNum) ∧ g.members = gooseMembers s h b := by
  simp only [gooseSend, modMgmt, half_satAdd, half_setHalf_same, sget_sset_same, and_self]

/-- Settles O51: the fields a measurement shows stand below PACE_LOW, which is judged by them; clearing PACE_LOW
writes its bit alone; a retransmission is one sent frame. -/
theorem paceAndRetransmission : Obligations.PaceAndRetransmission := by
  refine ⟨fun h counts s hal => ?_, fun h s hal hlow hgood => ?_, fun h block s hl hon hb => ?_⟩
  · obtain ⟨u, hu, ht⟩ := paceMeasurement_eq (counts := counts) hal
    obtain ⟨hfail, hworst, hlowest, hcert⟩ := paceShow_spec (count s h 2) h counts
    have hrd := fun f hf hl hh => (rd_paceJudged u h (decide ((paceKept counts).length < 6)) (f := f) hf hl hh).trans
      (hu.rd_sys h f hf)
    have hcount : rd (count s h 2) h Reg.SYS_PACE_CERT_CERT_MIN = rd s h Reg.SYS_PACE_CERT_CERT_MIN :=
      (keepsOf_count h 2 1).rd h _ (by decide) (by decide)
    refine ⟨_, ht, ?_⟩
    dsimp only
    rw [hrd Reg.SYS_PACE_MON_FAIL (by decide) (by decide) (by decide),
      hrd Reg.SYS_PACE_PACE (by decide) (by decide) (by decide),
      hrd Reg.SYS_PACE_WORST_MON (by decide) (by decide) (by decide),
      hrd Reg.SYS_PACE_LOWEST_LOWEST (by decide) (by decide) (by decide),
      hrd Reg.SYS_PACE_CERT_CERT_MIN (by decide) (by decide) (by decide)]
    refine ⟨hfail, hworst, hlowest, hcert.trans hcount, fun hlow => rdB_paceJudged u h ?_⟩
    rw [hu.rd_sys h _ (by decide), hu.rd_sys h _ (by decide)]
    simpa using hlow
  · refine ⟨paceLow s h false false, ?_, rdB_paceLow s h false false,
      rd_paceLow_below s h false false (by decide) (by decide) (by decide)⟩
    simp [exec_paceLowClear, execPaceLowClear, hal, hlow, hgood]
  · obtain ⟨hst, hsq, hmem⟩ := gooseSend_pub s h block (gooseChanged s h block)
    refine ⟨_, exec_gooseRetransmit_publishes hl hon hb, fun hc => ?_, fun hc => ?_, hmem⟩
    · simpa [hc] using And.intro hst hsq
    · simpa [hc] using And.intro hst hsq

end Sys2Proof.Machine
end

section
/-!
PROOFS of the statement about lockstep: the rules of the operations it uses, then replay, comparison, sweep and copies.
-/

namespace Sys2Proof.Machine

open Sys2Proof (HalfId Instr)

/-! ### Changes of one part of a half -/

section PartRules

variable (s : State) (h g : HalfId) (e : Fld)

@[simp] theorem half_modLge_same (f : Logic → Logic) : half (modLge s h f) h = { half s h with lge := f (half s h).lge } := by
  simp [modLge]
@[simp] theorem half_modLge_other (f : Logic → Logic) : half (modLge s h f) (other h) = half s (other h) := by
  simp [modLge]
@[simp] theorem half_modLge_of_other (f : Logic → Logic) : half (modLge s (other h) f) h = half s h :=
  half_setHalf_ne _ _ _ _ (other_ne h).symm
@[simp] theorem rd_modLge (f : Logic → Logic) : rd (modLge s h f) g e = rd s g e := rd_setHalf ..

@[simp] theorem half_modGav_same (f : GavelRun → GavelRun) :
    half (modGav s h f) h = { half s h with gav := f (half s h).gav } := by simp [modGav]
@[simp] theorem half_modGav_other (f : GavelRun → GavelRun) : half (modGav s h f) (other h) = half s (other h) := by
  simp [modGav]
@[simp] theorem rd_modGav (f : GavelRun → GavelRun) : rd (modGav s h f) g e = rd s g e := rd_setHalf ..

@[simp] theorem half_modMode_same (f : ModeState → ModeState) :
    half (modMode s h f) h = { half s h with mode := f (half s h).mode } := by simp [modMode]
@[simp] theorem half_modMode_other (f : ModeState → ModeState) : half (modMode s h f) (other h) = half s (other h) := by
  simp [modMode]
@[simp] theorem half_modMode_of_other (f : ModeState → ModeState) : half (modMode s (other h) f) h = half s h :=
  half_setHalf_ne _ _ _ _ (other_ne h).symm
@[simp] theorem rd_modMode (f : ModeState → ModeState) : rd (modMode s h f) g e = rd s g e := rd_setHalf ..
@[simp] theorem modMode_store (f : ModeState → ModeState) : (modMode s h f).store = s.store := by simp [modMode]

@[simp] theorem half_modPort_same (f : StorePort → StorePort) :
    half (modPort s h f) h = { half s h with port := f (half s h).port } := by simp [modPort]

@[simp] theorem half_modStore (f : Store → Store) : half (modStore s f) g = half s g := by cases g <;> rfl

end PartRules

/-! ### A register of a half, written and read -/

section HalfRegisters

variable {s : State} {g h : HalfId} {e f : Fld}

/-- Registers that the halves do not share have different keys in the two halves. -/
theorem regKey_ne_of_half {k : Nat} (hs : sharedKey k = false) (hn : g ≠ h) : regKey g k ≠ regKey h k := by
  cases g <;> cases h <;> simp_all [regKey, ownerStride]

/-- A write in one half leaves the register of the other. -/
theorem rd_wr_half (v : Nat) (hk : e.key = f.key) (hs : sharedKey f.key = false) (hn : g ≠ h) :
    rd (wr s h f v) g e = rd s g e := by
  refine rd_wr_ne _ _ _ _ _ _ ?_
  rw [hk]
  exact regKey_ne_of_half hs hn

theorem rd_wrB_half (b : Bool) (hk : e.key = f.key) (hs : sharedKey f.key = false) (hn : g ≠ h) :
    rd (wrB s h f b) g e = rd s g e := rd_wr_half _ hk hs hn

end HalfRegisters

/-- A half that is fitted is one of the module's halves. -/
theorem mem_halves_of_present {s : State} {h : HalfId} (hp : present s h = true) : h ∈ halves s := by
  cases h with
  | a => unfold halves; split <;> simp
  | b =>
    have htwo : twoHalves s = true := by simpa [present] using hp
    simp [halves, htwo]

/-! ### Lockstep: the state of a half, and what a comparison or a sweep reads -/

section LockstepReads

variable {m : Nat} {s t : State}

theorem lsState_of_keeps (hk : Keeps m s t) (hm : m.testBit 2 = false) (h : HalfId) : lsState t h = lsState s h :=
  hk.rd h Reg.GAV_LS_STAT_STATE (by decide) hm

theorem logicRuns_of_keeps (hk : Keeps m s t) (hm : m.testBit 14 = false) (h : HalfId) : logicRuns t h = logicRuns s h :=
  hk.rdB h Reg.LGE_STAT_RUN (by decide) hm

theorem lw_of_keeps (hk : Keeps m s t) (hm : m.testBit 50 = false) (h : HalfId) (o : Nat) : lw t h o = lw s h o := by
  simp only [lw, hk.lge hm]

/-- Which words are live depends on the image, the setting groups and the number of the active one. -/
theorem isLive_of_keeps (hk : Keeps m s t) (h0 : m.testBit 0 = false) (hi : m.testBit 36 = false)
    (hg : m.testBit 37 = false) (h : HalfId) (o : Nat) : isLive t h o = isLive s h o := by
  have hactive : activeGroup t h = activeGroup s h := hk.rd h Reg.SET_ACTIVE_ACTIVE (by decide) h0
  simp only [isLive, slotOn, slotWord, groupOf, hactive, hk.image hi, hk.groups hg]

theorem leader_of_acts (hacts : ∀ h, acts t h = acts s h) : leader t = leader s := by
  simp only [leader, hacts]

end LockstepReads

/-- The lockstep state of a half is 0 to 3. -/
theorem lsState_wr (s : State) (h : HalfId) {v : Nat} (hv : v < 4) :
    lsState (wr s h Reg.GAV_LS_STAT_STATE v) h = v := rd_wr_same' _ _ _ _ (by decide) (by decide) hv

/-! ### Lockstep: the self-test after a mismatch (R513) -/

theorem selfTest_spec (s : State) (h : HalfId) : lsState (selfTest s h) h = 3 ∧
    rd (selfTest s h) h Reg.GAV_LS_CNT_MISMATCH =
      min (rd s h Reg.GAV_LS_CNT_MISMATCH + 1) (fmax Reg.GAV_LS_CNT_MISMATCH) ∧
    half (selfTest s h) (other h) = half s (other h) := by
  refine ⟨?_, ?_, by simp [selfTest]⟩
  · simp only [selfTest, lsState, rd_modLge, rd_satAdd_addr _ _ _ Reg.GAV_LS_CNT_MISMATCH Reg.GAV_LS_STAT_STATE _ (by decide)]
    exact lsState_wr _ _ (by decide)
  · simp only [selfTest, rd_modLge, satAdd]
    rw [rd_wr_same' _ _ _ _ (by decide) (by decide) (Nat.lt_of_le_of_lt (Nat.min_le_right _ _) (by decide)),
      rd_wr_addr _ _ _ _ _ _ (by decide), rd_setHalf]

/-- A mismatch in lockstep starts the standby's self-test and is counted; the other half's logic stays. -/
theorem lsMismatch_spec {s : State} {h : HalfId} (hls : lsState s h = 1) (task rel off : Nat) :
    lsState (lsMismatch s h task rel off) h = 3 ∧
    rd (lsMismatch s h task rel off) h Reg.GAV_LS_CNT_MISMATCH =
      min (rd s h Reg.GAV_LS_CNT_MISMATCH + 1) (fmax Reg.GAV_LS_CNT_MISMATCH) ∧
    (half (lsMismatch s h task rel off) (other h)).lge = (half s (other h)).lge := by
  have heq : lsMismatch s h task rel off = ledgerH (selfTest s h) h 0x0E09 (p4s [task, rel, off]) :=
    if_neg (not_not_intro hls)
  have hk : Keeps 0x10238401240000 (selfTest s h) (lsMismatch s h task rel off) :=
    heq ▸ keeps_ledgerH h _ _ (by decide) (Keeps.refl _ _)
  obtain ⟨hstate, hcount, hother⟩ := selfTest_spec s h
  refine ⟨(lsState_of_keeps hk (by decide) h).trans hstate, (hk.rd h _ (by decide) (by decide)).trans hcount, ?_⟩
  rw [hk.lge (by decide), hother]

/-! ### Lockstep: the replay of a boundary (R509, R510) -/

/-- The standby `h` takes the leader's oldest image and shows its lag; the images `rest` remain. -/
def imageTaken (s : State) (h : HalfId) (lag : Nat) (rest : List (Nat × List (Nat × Nat) × List Nat)) : State :=
  wr (modLge s (other h) fun l => { l with images := rest }) h Reg.GAV_LS_STAT_LAG (min 65535 lag)

/-- A standby in lockstep, or reloading, replays its leader's oldest boundary where its logic runs. -/
theorem exec_lsImage_replays {s : State} {h : HalfId} {c : Nat} {words : List (Nat × Nat)} {tasks : List Nat}
    {rest : List (Nat × List (Nat × Nat) × List Nat)} (lag : Nat) (hown : ownsLogic s h = false) (hal : alive s h = true)
    (hls : lsState s h = 1 ∨ lsState s h = 2) (himg : (half s (other h)).lge.images = (c, words, tasks) :: rest) :
    exec (.lsImage h lag) s = .next (if logicRuns (imageTaken s h lag rest) h
      then replayBoundary (imageTaken s h lag rest) h c words tasks else imageTaken s h lag rest) := by
  have hmine : (lsState s h == 1 || lsState s h == 2) = true := by simpa using hls
  rw [exec_lsImage, execLsImage, if_neg (by simp [hown, hal, hmine])]
  simp only [himg]
  rfl

/-! ### Lockstep: comparison at an END (R511) -/

/-- The state in which the oldest signatures of both halves are taken, to be compared; `es` and `fs` remain. -/
def signaturesTaken (s : State) (h : HalfId) (es fs : List (Nat × Nat × Nat)) : State :=
  modLge (modLge (modLge s h fun l => { l with got := l.got + 1 }) (other h) fun l => { l with sigs := es }) h
    fun l => { l with sigs := fs, got := l.got - 1 }

theorem keeps_signaturesTaken (s : State) (h : HalfId) (es fs : List (Nat × Nat × Nat)) :
    Keeps 0x4000000000000 s (signaturesTaken s h es fs) :=
  keeps_modLge _ _ (by decide) (keeps_modLge _ _ (by decide) (keeps_modLge _ _ (by decide) (Keeps.refl _ s)))

/-- An END of the leader reaches a standby that waits for it: the oldest signatures are compared. -/
theorem exec_lsEnd_compares {s : State} {h : HalfId} {e f : Nat × Nat × Nat} {es fs : List (Nat × Nat × Nat)}
    (hown : ownsLogic s h = false) (he : (half s (other h)).lge.sigs = e :: es) (hf : (half s h).lge.sigs = f :: fs)
    (hgot : (half s h).lge.got = 0) : exec (.lsEnd h) s = .next (lsEqual (signaturesTaken s h es fs) h e f) := by
  simp [exec_lsEnd, execLsEnd, lsCompare, hown, he, hf, hgot, signaturesTaken]

/-! ### Lockstep: its end and the start of a reload (R510, R513) -/

/-- Halves `hs` take lockstep state `v`; their logic changes by `f`. -/
def putLockstep (s : State) (v : Nat) (f : Logic → Logic) (hs : List HalfId) : State :=
  hs.foldl (fun s x => modLge (wr s x Reg.GAV_LS_STAT_STATE v) x f) s

theorem lsState_putLockstep {v : Nat} (hv : v < 4) (f : Logic → Logic) (h : HalfId) (hs : List HalfId) (s : State) :
    lsState (putLockstep s v f hs) h = if h ∈ hs then v else lsState s h := by
  induction hs generalizing s with
  | nil => rfl
  | cons x t ih =>
    refine (ih _).trans ?_
    by_cases hx : h = x
    · subst hx
      simp [lsState, rd_wr_same' _ _ Reg.GAV_LS_STAT_STATE _ (by decide) (by decide) hv]
    · simp only [lsState, rd_modLge, rd_wr_half v (rfl : Reg.GAV_LS_STAT_STATE.key = _) (by decide) hx, List.mem_cons, hx,
        false_or]

theorem rd_putLockstep_addr (v : Nat) (f : Logic → Logic) (h : HalfId) (e : Fld)
    (he : e.key % 0x100000000 ≠ 0x20030) (hs : List HalfId) (s : State) : rd (putLockstep s v f hs) h e = rd s h e := by
  induction hs generalizing s with
  | nil => rfl
  | cons x t ih => exact (ih _).trans ((rd_modLge ..).trans (rd_wr_addr _ _ _ _ _ _ he))

/-- Lockstep that ends is over in every half that is fitted, and no half comes to act or ceases to. -/
theorem endLockstep_spec (s : State) : (∀ h, present s h = true → lsState (endLockstep s) h = 0) ∧
    leader (endLockstep s) = leader s := by
  refine ⟨fun h hp => ?_, leader_of_acts fun h => ?_⟩
  · exact (lsState_putLockstep (by decide) _ h (halves s) s).trans (if_pos (mem_halves_of_present hp))
  · exact congrArg (· != 0) (rd_putLockstep_addr 0 _ h Reg.GAV_STAT_ACTING (by decide) (halves s) s)

theorem lsState_startReload {s : State} {h : HalfId} (hp : present s h = true) : lsState (startReload s) h = 2 :=
  (lsState_putLockstep (by decide) _ h (halves s) s).trans (if_pos (mem_halves_of_present hp))

theorem present_endLockstep (s : State) (h : HalfId) : present (endLockstep s) h = present s h := by
  have hk : Keeps 0x4000000000004 s (endLockstep s) := keeps_endLockstep (by decide) (Keeps.refl _ s)
  simp only [present, twoHalves, hk.variant]

/-! ### Lockstep: the stop of a standby (R481) -/

/-- A halt stops the logic and shows its cause. -/
theorem logicHalt_spec (s : State) (h : HalfId) {cause : Nat} (task pc : Nat) (hc : cause < 16) :
    logicRuns (logicHalt s h cause task pc) h = false ∧ rd (logicHalt s h cause task pc) h Reg.LGE_STAT_CAUSE = cause := by
  unfold logicHalt
  extract_lets s1 s2 s3 s4
  have hk : Keeps 0x1023C4052C0000 s2 (if cause ≤ 6 then if rdB s4 h Reg.TRC_CFG_STORE then traceSnapshot s4 h 1 else s4 else s2) := by
    have hs4 : Keeps 0x1023C4052C0000 s2 s4 := keeps_irq _ _ (by decide) (keeps_tallySet _ _ _ _ _ (by decide)
      (keeps_ledgerH _ _ _ (by decide) (Keeps.refl _ s2)))
    exact keeps_ite _ (keeps_ite _ (keeps_traceSnapshot _ _ (by decide) hs4) hs4) (Keeps.refl _ s2)
  refine ⟨(logicRuns_of_keeps hk (by decide) h).trans ?_, (hk.rd h _ (by decide) (by decide)).trans ?_⟩
  · simp (disch := decide) only [logicRuns, rdB, s2, s1, rd_modLge, rd_wr_addr, rd_wr_disjoint]
    exact rdB_wrB_same s h Reg.LGE_STAT_RUN false rfl (by decide)
  · simp (disch := decide) only [s2, s1, rd_modLge, rd_wr_addr, rd_wr_disjoint]
    exact rd_wr_same' _ _ _ _ (by decide) (by decide) hc

/-! ### Lockstep: the sweep (R512) -/

/-- A sweep's message is taken from its leader. -/
def sweepTaken (s : State) (h : HalfId) : State := modLge s (other h) fun l => { l with sweepMsg := none }

/-- Half `h` counts, in state `u`, the `n` dead words that the sweep of state `s` overwrote. -/
def latentCounted (s u : State) (h : HalfId) (n : Nat) : State :=
  modGav (satAdd u h Reg.GAV_LS_CNT_LATENT n) h fun x => { x with
    latent := (List.replicate n s.ticks ++ lastHour s x.latent).take 64 }

theorem keeps_sweepTaken (s : State) (h : HalfId) : Keeps 0x4000000000000 s (sweepTaken s h) :=
  keeps_modLge _ _ (by decide) (Keeps.refl _ s)

theorem lw_sweepTaken (s : State) (h : HalfId) (o : Nat) : lw (sweepTaken s h) h o = lw s h o := by
  simp [lw, sweepTaken]

theorem latentCounted_spec (s u : State) (h : HalfId) (n : Nat) : lsState (latentCounted s u h n) h = lsState u h ∧
    ∀ g, (half (latentCounted s u h n) g).lge = (half u g).lge := by
  refine ⟨?_, fun g => ?_⟩
  · simp (disch := decide) only [latentCounted, lsState, rd_modGav, rd_satAdd_addr]
  · have hk : Keeps 0x8000000000004 u (latentCounted s u h n) :=
      keeps_modGav _ _ (by decide) (keeps_satAdd _ _ _ (by decide) (Keeps.refl _ u))
    exact hk.lge (by decide) g

/-- What the outcome of a swept word makes of its state: dead words overwritten are counted and recorded, a live one
that differs is a mismatch. -/
def sweepEnd (s : State) (h : HalfId) (r : State × Option Nat × Nat) : State :=
  let s2 := latentCounted s r.1 h r.2.2
  let s3 := if r.2.2 = 0 then s2 else memHealth (latentEntry s2 h r.2.2) h
  match r.2.1 with
  | some o => lsMismatch s3 h ((runningTask s3 h).map (·.task) |>.getD 0) (rd s3 h Reg.LGE_CYCLE_COUNT) o
  | none => s3

section Sweep

variable {s : State} {h : HalfId} {tag o v : Nat}

/-- A swept word that differs and is not pending-copy stays where it is live, and is overwritten where it is dead. -/
theorem sweepWord_differs (hne : lw s h o ≠ v) (hpend : (half s h).lge.copyPend.contains o = false) :
    sweepWord s h (o, v) = if isLive s h o then (s, some o, 0) else (lput s h o v, none, 1) := by
  simp only [sweepWord, hne, hpend, Bool.false_eq_true, or_self, if_false]

/-- A message of one word at the END it names. -/
theorem exec_lsSweep_word (hown : ownsLogic s h = false) (hls : lsState s h = 1) (hends : (half s h).lge.ends = tag)
    (hmsg : (half s (other h)).lge.sweepMsg = some (tag, [(o, v)])) :
    exec (.lsSweep h) s = .next (sweepEnd s h (sweepWord (sweepTaken s h) h (o, v))) := by
  rw [exec_lsSweep, execLsSweep]
  simp only [hmsg, hown, hls, hends, Nat.lt_irrefl, decide_false, bne_self_eq_false, Bool.or_self, Bool.false_eq_true,
    if_false, ne_eq, not_true_eq_false, List.foldl_cons, List.foldl_nil, Nat.zero_add]
  rfl

/-- The dead word of a sweep: overwritten, and the half stays in lockstep. -/
theorem sweepEnd_dead (s u : State) (h : HalfId) (o v : Nat) :
    lw (sweepEnd s h (lput u h o v, none, 1)) h o = v % 2 ^ 32 ∧
    lsState (sweepEnd s h (lput u h o v, none, 1)) h = lsState u h ∧
    (half (sweepEnd s h (lput u h o v, none, 1)) (other h)).lge = (half u (other h)).lge := by
  obtain ⟨hls, hlge⟩ := latentCounted_spec s (lput u h o v) h 1
  have hk : Keeps 0x1823C4012C0000 (latentCounted s (lput u h o v) h 1) (sweepEnd s h (lput u h o v, none, 1)) :=
    keeps_memHealth h (by decide) (keeps_latentEntry h 1 (by decide) (Keeps.refl _ _))
  refine ⟨?_, ?_, ?_⟩
  · rw [lw_of_keeps hk (by decide), lw, hlge]
    simp [lput]
  · rw [lsState_of_keeps hk (by decide), hls]
    exact rd_modLge ..
  · rw [hk.lge (by decide), hlge]
    simp [lput]

/-- The live word of a sweep: a mismatch. -/
theorem sweepEnd_live (s : State) {u : State} {h : HalfId} (hls : lsState u h = 1) (o : Nat) :
    lsState (sweepEnd s h (u, some o, 0)) h = 3 ∧
    (half (sweepEnd s h (u, some o, 0)) (other h)).lge = (half u (other h)).lge := by
  obtain ⟨hkept, hlge⟩ := latentCounted_spec s u h 0
  obtain ⟨hstate, -, hother⟩ := lsMismatch_spec (hkept.trans hls) _ _ o
  exact ⟨hstate, hother.trans (hlge _)⟩

end Sweep

/-! ### Lockstep: copies and the reload (R119, R513) -/

/-- The pending-copy words that are left once `sent` are loaded. -/
def copiesLeft (sent : List (Nat × Nat)) (pend : List Nat) : List Nat :=
  pend.filter fun o => !(sent.map fun e => e.1).contains o

theorem not_mem_copiesLeft {sent : List (Nat × Nat)} {e : Nat × Nat} (he : e ∈ sent) (pend : List Nat) :
    e.1 ∉ copiesLeft sent pend := by
  have hin : e.1 ∈ sent.map fun e => e.1 := List.mem_map_of_mem he
  have hkept : (!(sent.map fun e => e.1).contains e.1) = false := by simpa using hin
  simp only [copiesLeft, List.mem_filter, hkept, Bool.false_eq_true, and_false, not_false_eq_true]

/-- The copies sent are in the standby's memory, and pending in neither half. -/
def copiesLoaded (s : State) (h : HalfId) : State :=
  let sent := (half s (other h)).lge.copySent
  modLge (modLge s h fun l => { l with
      mem := sent.foldl (fun m e => nset m e.1 e.2) l.mem, copyPend := copiesLeft sent l.copyPend })
    (other h) fun l => { l with copyPend := copiesLeft sent l.copyPend, copySent := [] }

/-- After the copies are loaded, their number is shown, and the last of them is recorded. -/
theorem keeps_copiesLoaded {s : State} {h : HalfId} (hsent : (half s (other h)).lge.copySent ≠ []) :
    Keeps 0x10238401240001 (copiesLoaded s h) (loadCopies s h) := by
  have hfalse : (half s (other h)).lge.copySent.isEmpty = false := by simpa using hsent
  simp only [loadCopies, hfalse, Bool.false_eq_true, if_false]
  have hshow : ∀ (u : State) (n : Nat), Keeps 0x10238401240001 u
      ((halves u).foldl (fun s x => wr s x Reg.SET_ACTIVE_LIVE_PENDING n) u) := fun u n =>
    keeps_foldl _ _ (fun _ x ht => keeps_wr x _ _ (by decide) ht) (Keeps.refl _ u)
  exact keeps_ite _ (keeps_ledgerH _ _ _ (by decide) (hshow _ _)) (hshow _ _)

/-- The standby takes the memory and the tasks of its leader as they stand; nothing waits to be compared or copied. -/
def leaderTaken (s : State) (h : HalfId) : State :=
  let s1 := modLge s (other h) fun l => { l with
    images := [], sigs := [], copyPend := [], copySent := [], sweep := 0, sweepMsg := none }
  let src := (half s1 (other h)).lge
  modLge s1 h fun l => { src with own := false, restart := 0, got := 0, retDirty := l.retDirty || src.mem != l.mem }

/-- After a reload the standby's logic runs where its leader's does. -/
theorem reload_spec (s : State) (h : HalfId) :
    (half (reload s h) h).lge = (half (leaderTaken s h) h).lge ∧ logicRuns (reload s h) h = logicRuns s (other h) := by
  have hk : Keeps 0x1023C4012C0001 (wrB (wrB (leaderTaken s h) h Reg.LGE_STAT_RUN (logicRuns s (other h))) h
      Reg.LGE_STAT_WARM (rdB s (other h) Reg.LGE_STAT_WARM)) (reload s h) :=
    keeps_foldl _ _ (fun _ x ht => keeps_wr x _ _ (by decide) ht) (keeps_tallySet _ _ _ _ _ (by decide) (Keeps.refl _ _))
  refine ⟨?_, (logicRuns_of_keeps hk (by decide) h).trans ?_⟩
  · rw [hk.lge (by decide), half_wrB, half_wrB]
  · simp (disch := decide) only [logicRuns, rdB, rd_wrB_disj]
    exact rdB_wrB_same _ _ Reg.LGE_STAT_RUN _ rfl (by decide)

/-! ### The commands of lockstep (R119, R481, R509 to R512) -/

/-- Settles O26: a clause per command, each by what its operation does to the lockstep state and to the logic of the
two halves. -/
theorem lockstepCommandsComplete : Obligations.LockstepCommandsComplete := by
  refine ⟨fun h lag c words tasks rest s hown hal hls himg => ?_, fun h e es f fs s hown he hf hgot hls hne => ?_,
    fun h e es f fs s hown he hf hgot hls heq => ?_, fun h s hown hls hp => ?_, fun h s hown hruns htwo hstop => ?_,
    fun h s hown hls => ?_, fun h tag o v s hown hls hends hmsg hne hpend => ?_,
    fun h s hown htwo hal hls hsent => ?_, fun h s hown htwo hal hls hother => ?_⟩
  · refine ⟨_, exec_lsImage_replays lag hown hal hls himg, imageTaken s h lag rest, ?_, ?_, rfl⟩
    · exact rd_wr_same' _ _ _ _ (by decide) (by decide) (Nat.lt_of_le_of_lt (Nat.min_le_left _ _) (by decide))
    · simp [imageTaken]
  · obtain ⟨hstate, hcount, -⟩ := lsMismatch_spec
      ((lsState_of_keeps (keeps_signaturesTaken s h es fs) (by decide) h).trans hls) e.1 e.2.1 0
    refine ⟨_, exec_lsEnd_compares hown he hf hgot, ?_⟩
    rw [lsEqual, if_neg hne]
    exact ⟨hstate, hcount.trans (by rw [(keeps_signaturesTaken s h es fs).rd h _ (by decide) (by decide)])⟩
  · have hstate := (lsState_of_keeps (keeps_signaturesTaken s h es fs) (by decide) h).trans hls
    have hnot : ¬ rd (signaturesTaken s h es fs) h Reg.GAV_LS_STAT_STATE = 2 := by
      rw [show rd (signaturesTaken s h es fs) h Reg.GAV_LS_STAT_STATE = 1 from hstate]; decide
    refine ⟨_, exec_lsEnd_compares hown he hf hgot, ?_⟩
    rw [lsEqual, if_pos heq, if_neg hnot]
    refine ⟨hstate, ?_⟩
    simp [signaturesTaken, hgot]
  · obtain ⟨hend, hleader⟩ := endLockstep_spec s
    have h0 := hend h hp
    cases hl : leader (endLockstep s) with
    | none => exact ⟨endLockstep s, (exec_lockstepLag s h).trans (by simp [execLockstepLag, hown, hls, hl]), by simp [h0],
        fun _ => h0⟩
    | some l =>
      refine ⟨if reloadReady (endLockstep s) l then startReload (endLockstep s) else endLockstep s,
        (exec_lockstepLag s h).trans (by simp [execLockstepLag, hown, hls, hl]), ?_, fun hn => ?_⟩
      · split
        · rw [lsState_startReload ((present_endLockstep s h).trans hp)]; decide
        · rw [h0]; decide
      · rw [hleader, hn] at hl
        exact absurd hl (by simp)
  · obtain ⟨hnot, hcause⟩ := logicHalt_spec s h (rd s (other h) Reg.LGE_STAT_TASK) (rd s (other h) Reg.LGE_STOP_PC_PC)
      (rd_lt s (other h) Reg.LGE_STAT_CAUSE)
    exact ⟨_, (exec_lsStop s h).trans (by simp [execLsStop, hown, hruns, htwo, hstop]), hnot, hcause⟩
  · have hk : ∀ u, Keeps 0x18238401240000 u (latentEntry u (other h) 0) := fun u =>
      keeps_latentEntry _ _ (by decide) (Keeps.refl _ u)
    refine ⟨_, (exec_lsSweepTimer s h).trans (if_neg (by simp [hown, hls])), ?_⟩
    dsimp only
    rw [(hk _).lge (by decide)]
    simp
  · refine ⟨_, exec_lsSweep_word hown hls hends hmsg, ?_⟩
    rw [sweepWord_differs (by rwa [lw_sweepTaken]) (by simpa [sweepTaken] using hpend),
      isLive_of_keeps (keeps_sweepTaken s h) (by decide) (by decide) (by decide)]
    have hkept := (lsState_of_keeps (keeps_sweepTaken s h) (by decide) h).trans hls
    have htaken : (half (sweepTaken s h) (other h)).lge.sweepMsg = none := by simp [sweepTaken]
    split
    · obtain ⟨hstate, hother⟩ := sweepEnd_live s hkept o
      exact ⟨hother ▸ htaken, hstate⟩
    · obtain ⟨hword, hstate, hother⟩ := sweepEnd_dead s (sweepTaken s h) h o v
      exact ⟨hother ▸ htaken, hword, hstate.trans hkept⟩
  · have hk := keeps_copiesLoaded hsent
    refine ⟨loadCopies s h, (exec_lsCopy s h).trans (by simp [execLsCopy, hown, htwo, hal, hls]), ?_⟩
    dsimp only
    rw [hk.lge (by decide), hk.lge (by decide)]
    simp only [copiesLoaded, half_modLge_same, half_modLge_other, half_modLge_of_other]
    exact ⟨trivial, fun e he => ⟨not_mem_copiesLeft he _, not_mem_copiesLeft he _⟩⟩
  · obtain ⟨hlge, hruns⟩ := reload_spec s h
    refine ⟨reload s h, (exec_lsCopy s h).trans (by simp [execLsCopy, hown, htwo, hal, hls, hother]), ?_⟩
    dsimp only
    rw [hlge]
    simp [leaderTaken, hruns]

end Sys2Proof.Machine
end

section
/-!
PROOFS of the statement about images and the setting window: VERIFY, ACTIVATE, and writes of setting words.
-/

namespace Sys2Proof.Machine

open Sys2Proof (HalfId Instr Byte)

/-! ### Commands of a half that is alive -/

theorem access_of_alive {s : State} {h : HalfId} (hal : alive s h = true) (t : State) : access s h t = t := if_pos hal

/-! ### A verdict on a slot (R106, R107) -/

/-- The verdict on a slot depends on the store and the variant. -/
theorem verifySlot_congr {s t : State} (hst : t.store = s.store) (hv : t.variant = s.variant) (h : HalfId)
    (slot fault : Nat) : verifySlot t h slot fault = verifySlot s h slot fault := by
  have hslot : imgSlot t slot = imgSlot s slot := by unfold imgSlot; rw [hst]
  have hkey : imageKey t h = imageKey s h := by
    funext k
    simp only [imageKey, keyWords, hst]
  have hsign : signatureOk t h = signatureOk s h := by
    funext m n
    unfold signatureOk
    rw [hkey]
  unfold verifySlot
  rw [hslot, hsign, hv]

theorem imgErr_key (slot : Nat) : (imgErr slot).key = 0x58 := by
  unfold imgErr
  split
  · rfl
  · split <;> rfl

/-- A verdict leaves the other registers of SYS. -/
theorem rd_putVerdict (s : State) (h g : HalfId) (slot : Nat) (v : Nat × Nat × Nat) {e : Fld} (hb : keyBlock e.key = 0)
    (he : e.key % 0x100000000 ≠ 0x58) : rd (putVerdict s h slot v) g e = rd s g e := by
  have hshown : rd (wr s h (imgErr slot) v.1) g e = rd s g e := rd_wr_addr _ _ _ _ _ _ (by rw [imgErr_key]; exact he)
  unfold putVerdict
  extract_lets s1
  split
  · exact hshown
  · have hk : Keeps 0x10238401240000 (wr s1 h Reg.IMG_ERR_SECTION v.2.1)
        (ledgerH (wr s1 h Reg.IMG_ERR_SECTION v.2.1) h 0x0301 (p4s [slot, v.1, v.2.1, v.2.2])) :=
      keeps_ledgerH _ _ _ (by decide) (Keeps.refl _ _)
    rw [hk.rd g e (by rw [hb]; decide) (by rw [hb]; decide), rd_wr_addr _ _ _ _ _ _ he, hshown]

theorem mode_putVerdict (s : State) (h g : HalfId) (slot : Nat) (v : Nat × Nat × Nat) :
    (half (putVerdict s h slot v) g).mode = (half s g).mode :=
  (keeps_putVerdict (ps := 0x10238401240001) h slot v (by decide) (Keeps.refl _ s)).mode (by decide) g

/-! ### The active-slot record and the pending change (R109, R609) -/

/-- The log record just written is the one in force. -/
theorem logGet_logPut (s : State) (type index : Nat) (hash : List Byte) (value : Nat) :
    ∃ r, logGet (logPut s type index hash value) type index = some r ∧ r.value = value := by
  simp [logGet, logPut, modStore]

theorem logGet_congr {s t : State} (hst : t.store = s.store) (type index : Nat) : logGet t type index = logGet s type index := by
  simp only [logGet, hst]

section SetPend

variable (s : State) (h : HalfId) (p : PendMode)

theorem setPend_pend : (half (setPend s h p) h).mode.pend = some p := by simp [setPend]
theorem setPend_store : (setPend s h p).store = s.store := by simp [setPend]
theorem rd_setPend_addr (g : HalfId) {e : Fld} (he : e.key % 0x100000000 ≠ 0x20) : rd (setPend s h p) g e = rd s g e := by
  simp only [setPend]
  rw [rd_wr_addr _ _ _ _ _ _ he, rd_wrB_addr _ _ _ _ _ _ he, rd_modMode]

end SetPend

/-! ### Commands of the image (R109, R121, R122) -/

section ImageCommands

variable {s : State} {h : HalfId} {slot fault : Nat}

/-- A command with a slot that does not exist is not accepted. -/
theorem slot_le_of_imgStatus {code : Nat} (hst : imgStatus s h code slot = 1) : slot ≤ 2 := by
  refine Nat.le_of_not_lt fun hlt => ?_
  simp [imgStatus, hlt] at hst

/-- VERIFY shows its slot and BUSY. -/
theorem verifyStart_spec (s : State) (h : HalfId) (hslot : slot ≤ 2) :
    rd (verifyStart s h slot) h Reg.IMG_STAT_CMD_STATUS = rd s h Reg.IMG_STAT_CMD_STATUS ∧
    rdB (verifyStart s h slot) h Reg.IMG_STAT_VERIFY_BUSY = true ∧
    rd (verifyStart s h slot) h Reg.IMG_STAT_VERIFY_SLOT = slot ∧
    (half (verifyStart s h slot) h).mode.verifying = some slot := by
  simp only [verifyStart, rdB, rd_modMode]
  refine ⟨?_, rdB_wrB_same _ _ Reg.IMG_STAT_VERIFY_BUSY _ rfl (by decide), ?_, by simp⟩
  · simp (disch := decide) only [rd_wrB_disj, rd_wr_disjoint]
  · simp (disch := decide) only [rd_wrB_disj]
    exact rd_wr_same' _ _ _ _ (by decide) (by decide) (Nat.lt_of_le_of_lt hslot (by decide))

theorem exec_verify_accepted (hal : alive s h = true) (hst : imgStatus s h 1 slot = 1) :
    exec (.verify h slot) s = .next (verifyStart (wr s h Reg.IMG_STAT_CMD_STATUS 1) h slot) := by
  rw [exec_verify, execVerify, access_of_alive hal]
  simp [imgCommand, hst]

theorem exec_activate_accepted (hal : alive s h = true) (hst : imgStatus s h 2 slot = 1) :
    exec (.activate h slot fault) s = .next (activateStart (wr s h Reg.IMG_STAT_CMD_STATUS 1) h slot fault) := by
  rw [exec_activate, execActivate, access_of_alive hal]
  simp [imgCommand, hst]

/-- ACTIVATE of a slot that verifies: the restart is pending, and a field slot is the active one on record. -/
theorem activateStart_verified (hv : (verifySlot s h slot fault).1 = 0) :
    rd (activateStart s h slot fault) h Reg.IMG_STAT_CMD_STATUS = rd s h Reg.IMG_STAT_CMD_STATUS ∧
    (∃ p, (half (activateStart s h slot fault) h).mode.pend = some p ∧ p.cmd = 0x100 ∧ p.target = mBOOT ∧ p.slot = slot) ∧
    (slot < 2 → ∃ r, logGet (activateStart s h slot fault) 1 0 = some r ∧ r.value = slot) := by
  simp only [activateStart, hv, ne_eq, not_true_eq_false, if_false]
  refine ⟨?_, ⟨_, setPend_pend .., rfl, rfl, rfl⟩, fun hslot => ?_⟩
  · rw [rd_setPend_addr _ _ _ _ (by decide)]
    have hrecord : ∀ u : State, rd (if slot < 2 then logPut u 1 0 [] slot else u) h Reg.IMG_STAT_CMD_STATUS =
        rd u h Reg.IMG_STAT_CMD_STATUS := fun u => by split <;> rfl
    rw [hrecord, rd_putVerdict _ _ _ _ _ rfl (by decide)]
  · rw [logGet_congr (setPend_store ..), if_pos hslot]
    exact logGet_logPut _ _ _ _ _

/-- ACTIVATE of a slot that does not verify ends VERIFY_FAIL; no change is pending. -/
theorem activateStart_refused (hv : (verifySlot s h slot fault).1 ≠ 0) :
    rd (activateStart s h slot fault) h Reg.IMG_STAT_CMD_STATUS = 0x1E ∧
    (half (activateStart s h slot fault) h).mode = (half s h).mode := by
  simp only [activateStart, ne_eq, hv, not_false_eq_true, if_true]
  exact ⟨rd_wr_same' _ _ _ _ (by decide) (by decide) (by decide), by rw [half_wr, mode_putVerdict]⟩

end ImageCommands

/-! ### The end of VERIFY (R107, R121) -/

/-- The verdict at the end of VERIFY: CHANGED where the slot was touched. -/
def endVerdict (s : State) (h : HalfId) (slot fault : Nat) : Nat × Nat × Nat :=
  if (half s h).mode.verifyTouched then (0x10, 0xFF, 0) else verifySlot s h slot fault

/-- Half `h` shows verdict `v` as the end of its verification. -/
def verifyEnded (s : State) (h : HalfId) (slot : Nat) (v : Nat × Nat × Nat) : State :=
  modMode (wr (wr (wrB (putVerdict s h slot v) h Reg.IMG_STAT_VERIFY_BUSY false) h Reg.IMG_STAT_VERIFY_RESULT v.1) h
    Reg.IMG_STAT_CMD_STATUS (if v.1 = 0 then 2 else 0x1E)) h fun m => { m with verifying := none, verifyTouched := false }

theorem exec_imageVerifyDone_ends {s : State} {h : HalfId} {slot : Nat} (fault : Nat)
    (hslot : (half s h).mode.verifying = some slot) :
    exec (.imageVerifyDone h fault) s = .next (verifyEnded s h slot (endVerdict s h slot fault)) := by
  rw [exec_imageVerifyDone, execImageVerifyDone]
  simp only [hslot]
  rfl

theorem verifyEnded_spec (s : State) (h : HalfId) (slot : Nat) (v : Nat × Nat × Nat) :
    rd (verifyEnded s h slot v) h Reg.IMG_STAT_VERIFY_RESULT = v.1 % 2 ^ 8 ∧
    rd (verifyEnded s h slot v) h Reg.IMG_STAT_CMD_STATUS = (if v.1 = 0 then 2 else 0x1E) ∧
    rdB (verifyEnded s h slot v) h Reg.IMG_STAT_VERIFY_BUSY = false ∧
    (half (verifyEnded s h slot v) h).mode.verifying = none := by
  simp only [verifyEnded, rdB, rd_modMode]
  refine ⟨?_, rd_wr_same' _ _ _ _ (by decide) (by decide) (by split <;> decide), ?_, by simp⟩
  · simp (disch := decide) only [rd_wr_disjoint]
    exact rd_wr_same _ _ _ _ (by decide) (by decide)
  · simp (disch := decide) only [rd_wr_disjoint]
    exact rdB_wrB_same _ _ Reg.IMG_STAT_VERIFY_BUSY _ rfl (by decide)

/-! ### The setting window (R110, R111) -/

section SettingGroups

variable (s : State) (h g : HalfId) (n : Nat) (f : SetGroup → SetGroup)

/-- The STAGED bits of a group are registers: the halves stay. -/
theorem half_foldl_wrBit (e : Fld) (i : Nat) (b : Bool) (hs : List HalfId) :
    half (hs.foldl (fun s y => wrBit s y e i b) s) g = half s g := by
  induction hs generalizing s with
  | nil => rfl
  | cons x t ih => exact (ih _).trans (half_wrBit ..)

theorem half_modGroup_same :
    half (modGroup s h n f) h = { half s h with groups := smod (fun _ => default) (half s h).groups n f } := by
  simp only [modGroup, half_foldl_wrBit, half_setHalf_same]

/-- A group that is changed is changed in its half. -/
theorem groupOf_modGroup : groupOf (modGroup s h n f) h n = f (groupOf s h n) := by
  simp only [groupOf, half_modGroup_same, smod, sget_sset_same]

end SettingGroups

/-- A write in the range of the window is a write of the window. -/
theorem exec_settingWindowWrite_window {s : State} {h : HalfId} {addr : Nat} (v : Nat) (hal : alive s h = true)
    (hlo : 0x08000000 ≤ addr) (hhi : addr ≤ 0x0801FFFF) :
    exec (.settingWindowWrite h addr v) s = .next (windowWrite s h addr v) := by
  have hin : within 0x08000000 0x0801FFFF addr = true := by simp [within, hlo, hhi]
  rw [exec_settingWindowWrite, execSettingWindowWrite, access_of_alive hal, if_pos hin]

/-! ### The commands (R106, R107, R109, R111, R121) -/

/-- Settles O34: VERIFY and ACTIVATE by what follows their acceptance, the end of VERIFY by its verdict, and a write of
the window by whether its group may be written. -/
theorem imageCommandsAndWindow : Obligations.ImageCommandsAndWindow := by
  refine ⟨fun h slot s hal hst => ?_, fun h fault slot s hslot => ?_,
    fun h slot fault s hal hst => ⟨fun hv => ?_, fun hv => ?_⟩,
    fun h addr v s hal hlo hhi => ⟨fun hw => ?_, fun hw => ?_⟩⟩
  · obtain ⟨hstatus, hbusy, hshown, hverifying⟩ := verifyStart_spec (wr s h Reg.IMG_STAT_CMD_STATUS 1) h
      (slot_le_of_imgStatus hst)
    exact ⟨_, exec_verify_accepted hal hst,
      hstatus.trans (rd_wr_same' _ _ _ _ (by decide) (by decide) (by decide)), hbusy, hshown, hverifying⟩
  · have hcode : (endVerdict s h slot fault).1 =
        if (half s h).mode.verifyTouched = true then 0x10 else (verifySlot s h slot fault).1 := by
      unfold endVerdict
      split <;> rfl
    exact ⟨_, exec_imageVerifyDone_ends fault hslot, hcode ▸ verifyEnded_spec s h slot (endVerdict s h slot fault)⟩
  · obtain ⟨hstatus, hpend, hlog⟩ := activateStart_verified (s := wr s h Reg.IMG_STAT_CMD_STATUS 1)
      ((congrArg Prod.fst (verifySlot_congr rfl rfl h slot fault)).trans hv)
    exact ⟨_, exec_activate_accepted hal hst,
      hstatus.trans (rd_wr_same' _ _ _ _ (by decide) (by decide) (by decide)), hpend, hlog⟩
  · obtain ⟨hstatus, hmode⟩ := activateStart_refused (s := wr s h Reg.IMG_STAT_CMD_STATUS 1) (h := h) (slot := slot)
      (fault := fault) (by rwa [verifySlot_congr rfl rfl])
    refine ⟨_, exec_activate_accepted hal hst, hstatus, ?_⟩
    rw [hmode, half_wr]
  · have hword : addr % 0x20000 % 0x4000 = addr % 0x4000 := Nat.mod_mod_of_dvd _ (by decide)
    refine ⟨_, exec_settingWindowWrite_window v hal hlo hhi, ?_⟩
    simp only [windowWrite, hw, if_true, groupOf_modGroup, hword, nget_nset_same]
  · refine ⟨_, exec_settingWindowWrite_window v hal hlo hhi, ?_⟩
    simp only [windowWrite, hw, Bool.false_eq_true, if_false]
    exact ⟨rdB_wrB_same _ _ Reg.SET_ACTIVE_WRITE_REFUSED _ rfl (by decide), fun x => by rw [half_wrB]⟩

end Sys2Proof.Machine
end

section
/-!
PROOFS of the statement about setting groups: STAGE, SWITCH and LOAD_DEFAULT, the staging between the halves, and the
switch.
-/

namespace Sys2Proof.Machine

open Sys2Proof (HalfId Instr)

/-! ### What the checks of a setting command read (R62, R113) -/

section Reads

variable {s t : State} {h : HalfId}

/-- The first failing slot of a group depends on the image, the group and the variant. -/
theorem groupFails_congr (hv : t.variant = s.variant) (hi : (half t h).image = (half s h).image)
    (hg : (half t h).groups = (half s h).groups) (g : Nat) : groupFails t h g = groupFails s h g := by
  simp only [groupFails, hasArc, groupOf, hv, hi, hg]

theorem groupOf_congr (hg : (half t h).groups = (half s h).groups) (g : Nat) : groupOf t h g = groupOf s h g := by
  simp only [groupOf, hg]

/-- Whether a half is alone depends on the variant, on what Tally reports of the partner and on the mode. -/
theorem alone_congr (hv : t.variant = s.variant) (htally : rd t h (tlySub 10) = rd s h (tlySub 10))
    (hmode : modeOf t h = modeOf s h) : alone t h = alone s h := by
  simp only [alone, partnerIn, twoHalves, hv, htally, hmode]

end Reads

/-! ### A staging or switch of a half (R126) -/

section PendSets

variable (s : State) (h g : HalfId) (p : PendSet) {e : Fld}

theorem half_setPendSet : half (setPendSet s h p) h =
    { half s h with mode := { (half s h).mode with pendSet := some p, crcReply := none, failReply := none } } := by
  simp [setPendSet]

theorem pendSet_setPendSet : (half (setPendSet s h p) h).mode.pendSet = some p := by rw [half_setPendSet]

theorem rd_setPendSet_addr (he : e.key % 0x100000000 ≠ 0x90) : rd (setPendSet s h p) g e = rd s g e := by
  simp only [setPendSet]
  rw [rd_wr_addr _ _ _ _ _ _ he, rd_wrB_addr _ _ _ _ _ _ he, rd_modMode]

theorem pendSet_dropPendSet : (half (dropPendSet s h) h).mode.pendSet = none := by simp [dropPendSet]

theorem half_dropPendSet_other : half (dropPendSet s (other h)) h = half s h := by simp [dropPendSet]

theorem rd_dropPendSet_addr (he : e.key % 0x100000000 ≠ 0x90) : rd (dropPendSet s h) g e = rd s g e := by
  simp only [dropPendSet]
  rw [rd_wr_addr _ _ _ _ _ _ he, rd_wrB_addr _ _ _ _ _ _ he, rd_modMode]

/-- The staging or switch of the other half does not change which group is active in this one. -/
theorem activeGroup_dropPendSet_other : activeGroup (dropPendSet s (other h)) h = activeGroup s h := by
  have hne : h ≠ other h := (other_ne h).symm
  simp only [activeGroup, dropPendSet]
  rw [rd_wr_half (e := Reg.SET_ACTIVE_ACTIVE) (f := Reg.SET_ACTIVE_TARGET) 0 rfl (by decide) hne,
    rd_wrB_half (e := Reg.SET_ACTIVE_ACTIVE) (f := Reg.SET_ACTIVE_PEND) false rfl (by decide) hne, rd_modMode]

end PendSets

/-- A commit of a group is queued with its contents as they stand. -/
theorem setCommit_queued (s : State) (h : HalfId) (g : Nat) :
    ∃ u, CommitJob.set u ∈ (half (setCommit s h g) h).port.commits ∧ u.group = g ∧ u.data = groupOf s h g := by
  simp only [setCommit, startCommit, half_modPort_same]
  exact ⟨_, List.mem_append_right _ (List.mem_singleton_self _), rfl, rfl⟩

theorem keeps_setCommit_refl (s : State) (h : HalfId) (g : Nat) : Keeps 0x10400000000 s (setCommit s h g) :=
  keeps_setCommit h g (by decide) (Keeps.refl _ s)

/-! ### The end of a staging or switch (R113, R114) -/

/-- Half `h` has no staging or switch and shows status `st`; the schedule entry that issued it, if any, is left. -/
def setEnded (s : State) (h : HalfId) (st : Nat) : State := wr (dropPendSet s h) h Reg.SET_RESULT_STATUS st

theorem keeps_setEnded {s : State} {h : HalfId} {p : PendSet} (hp : (half s h).mode.pendSet = some p) (st : Nat) :
    Keeps 8 (setEnded s h st) (setEnd s h st) := by
  unfold setEnd
  simp only [hp]
  split
  · exact keeps_schedEnd _ _ _ _ (by decide) (Keeps.refl _ (setEnded s h st))
  · exact Keeps.refl _ (setEnded s h st)

/-- A staging or switch that ends: none is left, its status is shown, and the active group stays. -/
theorem setEnd_spec {s : State} {h : HalfId} {p : PendSet} {st : Nat} (hp : (half s h).mode.pendSet = some p)
    (hst : st < 256) :
    (half (setEnd s h st) h).mode.pendSet = none ∧ rd (setEnd s h st) h Reg.SET_RESULT_STATUS = st ∧
    activeGroup (setEnd s h st) h = activeGroup s h := by
  have hk := keeps_setEnded hp st
  refine ⟨?_, (hk.rd h _ (by decide) (by decide)).trans (rd_wr_same' _ _ _ _ (by decide) (by decide) hst),
    (hk.rd h _ (by decide) (by decide)).trans ?_⟩
  · rw [hk.mode (by decide), setEnded, half_wr, pendSet_dropPendSet]
  · simp (disch := decide) only [setEnded, dropPendSet, activeGroup, rd_wr_addr, rd_wr_disjoint, rd_wrB_disj, rd_modMode]

/-- A switch that is not acknowledged ends 0x16; the active group stays (R114). -/
theorem switchUnacked_spec {s : State} {h : HalfId} {p : PendSet} (hp : (half s h).mode.pendSet = some p) :
    (half (switchUnacked s h p) h).mode.pendSet = none ∧ rd (switchUnacked s h p) h Reg.SET_RESULT_STATUS = 0x16 ∧
    activeGroup (switchUnacked s h p) h = activeGroup s h := by
  obtain ⟨hnone, hstatus, hactive⟩ := setEnd_spec (st := 0x16) hp (by decide)
  unfold switchUnacked
  extract_lets s1 s2
  have hk : Keeps 0x10238401240000 s2 (ledgerH s2 h 0x0306 (p4s [p.group, 0x16])) :=
    keeps_ledgerH _ _ _ (by decide) (Keeps.refl _ s2)
  rw [hk.mode (by decide), hk.rd h _ (by decide) (by decide), activeGroup, hk.rd h _ (by decide) (by decide)]
  change _ ∧ _ ∧ activeGroup s2 h = _
  by_cases hother : (half s1 (other h)).mode.pendSet.isSome
  · have hs2 : s2 = dropPendSet s1 (other h) := if_pos hother
    rw [hs2, half_dropPendSet_other, rd_dropPendSet_addr _ _ _ (by decide), activeGroup_dropPendSet_other]
    exact ⟨hnone, hstatus, hactive⟩
  · have hs2 : s2 = s1 := if_neg hother
    rw [hs2]
    exact ⟨hnone, hstatus, hactive⟩

/-! ### The switch to a group at its instant (R114, R116) -/

/-- Half `h` with group `g` in force: its new live words are to be copied (R118). -/
def groupLive (s : State) (h : HalfId) (g : Nat) : State :=
  wr (liven s h (activeGroup s h) g) h Reg.SET_ACTIVE_ACTIVE g

theorem keeps_groupLive_applyGroup (s : State) (h : HalfId) (g : Nat) :
    Keeps 0x1273C501EC3E00 (groupLive s h g) (applyGroup s h g) := by
  unfold applyGroup
  extract_lets old a s1 s2 s3
  have hs2 : Keeps 0x1273C501EC3E00 (groupLive s h g) s2 := keeps_tilesAtI _ _ _ (by decide) (Keeps.refl _ _)
  have hs3 : Keeps 0x1273C501EC3E00 (groupLive s h g) s3 :=
    keeps_ite _ (keeps_fieldApply _ (by decide) hs2) hs2
  exact keeps_decideOut _ (by decide) (keeps_arcEvalAll _ (by decide) hs3)

/-- A group that is applied is the active one. -/
theorem activeGroup_applyGroup (s : State) (h : HalfId) {g : Nat} (hg : g < 8) : activeGroup (applyGroup s h g) h = g :=
  ((keeps_groupLive_applyGroup s h g).rd h _ (by decide) (by decide)).trans
    (rd_wr_same' _ _ _ _ (by decide) (by decide) hg)

theorem mode_applyGroup (s : State) (h : HalfId) (g : Nat) : (half (applyGroup s h g) h).mode = (half s h).mode :=
  (keeps_applyGroup (ps := 0x1673C501EC3E05) h g (by decide) (Keeps.refl _ s)).mode (by decide) h

theorem setStatus_applyGroup (s : State) (h : HalfId) (g : Nat) :
    rd (applyGroup s h g) h Reg.SET_RESULT_STATUS = rd s h Reg.SET_RESULT_STATUS := by
  rw [(keeps_groupLive_applyGroup s h g).rd h _ (by decide) (by decide)]
  simp (disch := decide) only [groupLive, liven, rd_wr_addr, rd_modLge]

/-! ### Commands that are accepted (R62) -/

/-- Half `h` has accepted the setting command `code`. -/
def setAccepted (s : State) (h : HalfId) (code : Nat) : State :=
  wr (result s h Reg.SET_RESULT_SEQ Reg.SET_RESULT_CMD Reg.SET_RESULT_STATUS code 1) h Reg.SET_RESULT_DETAIL 0

section Accepted

variable {s : State} {h : HalfId} {g code : Nat}

theorem half_setAccepted (x : HalfId) : half (setAccepted s h code) x = half s x := by
  rw [setAccepted, half_wr, half_result]

theorem rd_setAccepted_addr {e : Fld} (he : e.key % 0x100000000 ≠ 0x98) : rd (setAccepted s h code) h e = rd s h e := by
  rw [setAccepted, rd_wr_addr _ _ _ _ _ _ he, rd_result_addr _ _ _ _ _ _ _ _ _ he he he]

theorem status_setAccepted : rd (setAccepted s h code) h Reg.SET_RESULT_STATUS = 1 := by
  rw [setAccepted, rd_wr_disjoint _ _ Reg.SET_RESULT_DETAIL Reg.SET_RESULT_STATUS _ rfl (by decide) (by decide)
    (by decide) (by decide), rd_result_status _ _ _ _ _ _ _ (by decide) (by decide)]
  rfl

theorem alone_setAccepted : alone (setAccepted s h code) h = alone s h :=
  alone_congr rfl (rd_setAccepted_addr (by decide)) (rd_setAccepted_addr (by decide))

theorem groupFails_setAccepted : groupFails (setAccepted s h code) h g = groupFails s h g :=
  groupFails_congr rfl (by rw [half_setAccepted]) (by rw [half_setAccepted]) g

theorem groupOf_setAccepted : groupOf (setAccepted s h code) h g = groupOf s h g :=
  groupOf_congr (by rw [half_setAccepted]) g

theorem exec_stage_accepted (hal : alive s h = true) (hst : setStatus s h 1 g = 1) :
    exec (.stage h g) s = .next (stageStart (setAccepted s h 1) h g) := by
  rw [exec_stage, execStage, access_of_alive hal]
  simp only [setCmd, hst]
  rfl

theorem exec_switch_accepted (hal : alive s h = true) (hst : setStatus s h 2 g = 1) :
    exec (.switch h g) s = .next (switchStart (setAccepted s h 2) h g none) := by
  rw [exec_switch, execSwitch, access_of_alive hal]
  simp only [setCmd, hst]
  rfl

theorem exec_loadDefault_accepted (hal : alive s h = true) (hst : setStatus s h 3 g = 1) :
    exec (.loadDefault h g) s = .next (defaultLoad (setAccepted s h 3) h g) := by
  rw [exec_loadDefault, execLoadDefault, access_of_alive hal]
  simp only [setCmd, hst]
  rfl

end Accepted

/-! ### STAGE of a group, and its staging in the leader (R113) -/

/-- The staging of group `g` that half `h` proposes. -/
def stagingOf (s : State) (h : HalfId) (g : Nat) : PendSet :=
  { switch := false, group := g, acked := alone s h, entry := none }

/-- Half `h` shows the CRC of group `g`, and its staging is pending. -/
def stagingShown (s : State) (h : HalfId) (g : Nat) : State :=
  setPendSet (wr s h Reg.SET_CRC_CRC (groupCrc (groupOf s h g))) h (stagingOf s h g)

section Stage

variable {s : State} {h : HalfId} {g : Nat}

theorem stageStart_passed (hok : groupFails s h g = none) :
    stageStart s h g = if alone s h then setCommit (stagingShown s h g) h g else stagingShown s h g := by
  simp only [stageStart, hok]
  rfl

theorem keeps_stageStart_passed (hok : groupFails s h g = none) :
    Keeps 0x10400000000 (stagingShown s h g) (stageStart s h g) := by
  rw [stageStart_passed hok]
  exact keeps_ite _ (keeps_setCommit_refl ..) (Keeps.refl _ _)

/-- STAGE of a group that passes its checks: its CRC, its staging, and its commit where the half is alone. -/
theorem stageStart_passed_spec (hok : groupFails s h g = none) :
    rd (stageStart s h g) h Reg.SET_RESULT_STATUS = rd s h Reg.SET_RESULT_STATUS ∧
    rd (stageStart s h g) h Reg.SET_CRC_CRC = groupCrc (groupOf s h g) % 2 ^ 32 ∧
    (half (stageStart s h g) h).mode.pendSet = some (stagingOf s h g) ∧
    (alone s h = true →
      ∃ u, CommitJob.set u ∈ (half (stageStart s h g) h).port.commits ∧ u.group = g ∧ u.data = groupOf s h g) := by
  have hk := keeps_stageStart_passed hok
  refine ⟨(hk.rd h _ (by decide) (by decide)).trans ?_, (hk.rd h _ (by decide) (by decide)).trans ?_, ?_, fun hal => ?_⟩
  · rw [stagingShown, rd_setPendSet_addr _ _ _ _ (by decide), rd_wr_addr _ _ _ _ _ _ (by decide)]
  · rw [stagingShown, rd_setPendSet_addr _ _ _ _ (by decide)]
    exact rd_wr_same _ _ _ _ (by decide) (by decide)
  · rw [hk.mode (by decide), stagingShown, pendSet_setPendSet]
  · rw [stageStart_passed hok, if_pos hal]
    obtain ⟨u, hmem, hgroup, hdata⟩ := setCommit_queued (stagingShown s h g) h g
    exact ⟨u, hmem, hgroup, hdata.trans (groupOf_congr (by rw [stagingShown, half_setPendSet, half_wr]) g)⟩

/-- STAGE of a group that fails its checks ends 0x1A; no staging begins. -/
theorem stageStart_failed_spec {k : Nat} (hfail : groupFails s h g = some k) :
    rd (stageStart s h g) h Reg.SET_RESULT_STATUS = 0x1A ∧
    (half (stageStart s h g) h).mode.pendSet = (half s h).mode.pendSet := by
  simp only [stageStart, hfail]
  exact ⟨rd_wr_same' _ _ _ _ (by decide) (by decide) (by decide), by simp only [half_wr]⟩

/-- The contents of the leader's staged group in the standby `h`. -/
def groupTaken (s : State) (h : HalfId) (g : Nat) : State := modGroup s h g fun _ => groupOf s (other h) g

/-- The reply of the standby `h` to a staging of group `g`. -/
def stagingReplied (s : State) (h : HalfId) (g : Nat) : State :=
  match groupFails (groupTaken s h g) h g with
  | some k => modMode (groupTaken s h g) (other h) fun m => { m with failReply := some k }
  | none => modMode (wr (groupTaken s h g) h Reg.SET_CRC_CRC (groupCrc (groupOf (groupTaken s h g) h g))) (other h)
      fun m => { m with crcReply := some (groupCrc (groupOf (groupTaken s h g) h g)) }

theorem groupOf_groupTaken : groupOf (groupTaken s h g) h g = groupOf s (other h) g := groupOf_modGroup ..

theorem half_stagingReplied : half (stagingReplied s h g) h = half (groupTaken s h g) h := by
  unfold stagingReplied
  split
  · exact half_modMode_of_other ..
  · rw [half_modMode_of_other, half_wr]

theorem variant_stagingReplied : (stagingReplied s h g).variant = (groupTaken s h g).variant := by
  unfold stagingReplied modMode
  split
  · exact setHalf_variant ..
  · exact setHalf_variant ..

theorem groupFails_stagingReplied : groupFails (stagingReplied s h g) h g = groupFails (groupTaken s h g) h g :=
  groupFails_congr variant_stagingReplied (by rw [half_stagingReplied]) (by rw [half_stagingReplied]) g

/-- The standby's reply is the first slot that fails there, or the CRC of the contents it took. -/
theorem stagingReplied_spec :
    groupOf (stagingReplied s h g) h g = groupOf s (other h) g ∧
    (∀ k, groupFails (stagingReplied s h g) h g = some k →
      (half (stagingReplied s h g) (other h)).mode.failReply = some k) ∧
    (groupFails (stagingReplied s h g) h g = none →
      (half (stagingReplied s h g) (other h)).mode.crcReply = some (groupCrc (groupOf s (other h) g))) := by
  rw [groupFails_stagingReplied]
  refine ⟨(groupOf_congr (by rw [half_stagingReplied]) g).trans groupOf_groupTaken, fun k hk => ?_, fun hok => ?_⟩
  · simp only [stagingReplied, hk, half_modMode_same]
  · simp only [stagingReplied, hok, half_modMode_same, groupOf_groupTaken]

theorem exec_setStage_taken {p : PendSet} (hp : (half s (other h)).mode.pendSet = some p) (hsw : p.switch = false)
    (hack : p.acked = false) (hal : alive s h = true) (hacts : acts s h = false) :
    exec (.setStage h) s = .next (stagingReplied s h p.group) := by
  rw [exec_setStage, execSetStage]
  simp only [hp, hsw, hack, hal, hacts]
  rfl

end Stage

section Replies

variable {s : State} {h : HalfId} {p : PendSet}

/-- A staging whose CRC the partner confirms is acknowledged and committed. -/
theorem stagingConfirmed_spec :
    (half (setCommit (setPendSet s h p) h p.group) h).mode.pendSet = some p ∧
    ∃ u, CommitJob.set u ∈ (half (setCommit (setPendSet s h p) h p.group) h).port.commits ∧ u.group = p.group := by
  obtain ⟨u, hmem, hgroup, -⟩ := setCommit_queued (setPendSet s h p) h p.group
  refine ⟨?_, u, hmem, hgroup⟩
  rw [(keeps_setCommit_refl _ h p.group).mode (by decide), pendSet_setPendSet]

theorem exec_setCrc_failed {k : Nat} (hp : (half s h).mode.pendSet = some p) (hsw : p.switch = false)
    (hack : p.acked = false) (hk : (half s h).mode.failReply = some k) :
    exec (.setCrc h) s = .next (setEnd (wr s h Reg.SET_RESULT_DETAIL k) h 0x1A) := by
  rw [exec_setCrc, execSetCrc]
  simp only [hp, hsw, hack, hk]
  rfl

theorem exec_setCrc_equal (hp : (half s h).mode.pendSet = some p) (hsw : p.switch = false)
    (hack : p.acked = false) (hk : (half s h).mode.failReply = none)
    (hc : (half s h).mode.crcReply = some (rd s h Reg.SET_CRC_CRC)) :
    exec (.setCrc h) s = .next (setCommit (setPendSet s h { p with acked := true }) h p.group) := by
  rw [exec_setCrc, execSetCrc]
  simp only [hp, hsw, hack, hk, hc]
  rfl

theorem exec_setCrc_unequal {c : Nat} (hp : (half s h).mode.pendSet = some p) (hsw : p.switch = false)
    (hack : p.acked = false) (hk : (half s h).mode.failReply = none) (hc : (half s h).mode.crcReply = some c)
    (hne : c ≠ rd s h Reg.SET_CRC_CRC) : exec (.setCrc h) s = .next (setEnd s h 0x1D) := by
  rw [exec_setCrc, execSetCrc]
  simp only [hp, hsw, hack, hk, hc, if_neg hne]
  rfl

theorem exec_stageTimeout_ends (hp : (half s h).mode.pendSet = some p) (hsw : p.switch = false)
    (hack : p.acked = false) : exec (.stageTimeout h) s = .next (setEnd s h 0x16) := by
  rw [exec_stageTimeout, execStageTimeout]
  simp only [hp, hsw, hack]
  rfl

end Replies

/-! ### The switch between the halves (R114, R116) -/

section Switch

variable {s : State} {h : HalfId} {p q : PendSet}

theorem exec_setSwitch_taken (hp : (half s (other h)).mode.pendSet = some p) (hsw : p.switch = true)
    (hack : p.acked = false) (hal : alive s h = true) (hacts : acts s h = false)
    (hnone : (half s h).mode.pendSet = none) :
    exec (.setSwitch h) s = .next (setPendSet s h { switch := true, group := p.group, acked := true, entry := none }) := by
  rw [exec_setSwitch, execSetSwitch]
  simp only [hp, hsw, hack, hal, hacts, hnone]
  rfl

theorem exec_setAck_acknowledged (hp : (half s h).mode.pendSet = some p)
    (hq : (half s (other h)).mode.pendSet = some q) (hsw : p.switch = true) (hqsw : q.switch = true)
    (hqack : q.acked = true) (hacts : acts s h = true) :
    exec (.setAck h) s = .next (setPendSet s h { p with acked := true }) := by
  rw [exec_setAck, execSetAck]
  simp only [hp, hq, hsw, hqsw, hqack, hacts]
  rfl

theorem exec_switchAckTimeout_unacked (hp : (half s h).mode.pendSet = some p) (hsw : p.switch = true)
    (hack : p.acked = false) : exec (.switchAckTimeout h) s = .next (switchUnacked s h p) := by
  rw [exec_switchAckTimeout, execSwitchAckTimeout]
  simp only [hp, hsw, hack]
  rfl

theorem exec_groupSwitchInstant_standby (hp : (half s h).mode.pendSet = some p) (hsw : p.switch = true)
    (hacts : acts s h = false) :
    exec (.groupSwitchInstant h) s = .next (applyGroup (dropPendSet s h) h p.group) := by
  rw [exec_groupSwitchInstant, execGroupSwitchInstant]
  simp only [hp, hsw, hacts]
  rfl

theorem exec_groupSwitchInstant_leader (hp : (half s h).mode.pendSet = some p) (hsw : p.switch = true)
    (hack : p.acked = true) (hacts : acts s h = true) :
    exec (.groupSwitchInstant h) s =
      .next (recordSwitch (applyGroup (setEnd s h 2) h p.group) h (activeGroup s h) p.group) := by
  rw [exec_groupSwitchInstant, execGroupSwitchInstant]
  simp only [hp, hsw, hack, hacts]
  rfl

/-- The standby at the instant: the group is active and no switch is pending. -/
theorem switched_standby_spec (s : State) (h : HalfId) {g : Nat} (hg : g < 8) :
    activeGroup (applyGroup (dropPendSet s h) h g) h = g ∧
    (half (applyGroup (dropPendSet s h) h g) h).mode.pendSet = none :=
  ⟨activeGroup_applyGroup _ h hg, by rw [mode_applyGroup, pendSet_dropPendSet]⟩

/-- The leader at the instant: the group is active, no switch is pending, and the command is DONE. -/
theorem switched_leader_spec {g old : Nat} (hp : (half s h).mode.pendSet = some p) (hg : g < 8) :
    activeGroup (recordSwitch (applyGroup (setEnd s h 2) h g) h old g) h = g ∧
    (half (recordSwitch (applyGroup (setEnd s h 2) h g) h old g) h).mode.pendSet = none ∧
    rd (recordSwitch (applyGroup (setEnd s h 2) h g) h old g) h Reg.SET_RESULT_STATUS = 2 := by
  obtain ⟨hnone, hstatus, -⟩ := setEnd_spec (st := 2) hp (by decide)
  have hk : Keeps 0x10238401240000 (applyGroup (setEnd s h 2) h g)
      (recordSwitch (applyGroup (setEnd s h 2) h g) h old g) := keeps_recordSwitch _ _ _ (by decide) (Keeps.refl _ _)
  refine ⟨(hk.rd h _ (by decide) (by decide)).trans (activeGroup_applyGroup _ h hg), ?_, ?_⟩
  · rw [hk.mode (by decide), mode_applyGroup, hnone]
  · rw [hk.rd h _ (by decide) (by decide), setStatus_applyGroup, hstatus]

end Switch

/-! ### The commands (R113, R114, R116, R118) -/

/-- Settles O35: STAGE, SWITCH and LOAD_DEFAULT by what follows their acceptance, the steps between the halves by what
each reads of the other's staging or switch, and the instant by the half's role. -/
theorem settingGroupCommands : Obligations.SettingGroupCommands := by
  refine ⟨fun h g s hal hst => ⟨fun hok => ?_, fun k hfail => ?_⟩, fun h g s hal hst => ?_,
    fun h g i s hal hst himage => ?_, fun h p s hp hsw hack hal hacts => ?_,
    fun h p s hp hsw hack => ⟨fun c hk hc heq => ?_, fun c hk hc hne => ?_, fun k hk => ?_, ?_⟩,
    fun h p s hp hsw hack hal hacts hnone => ?_, fun h p q s hp hq hsw hqsw hqack hacts => ?_,
    fun h p s hp hsw hg => ⟨fun hack => ?_, fun hor => ?_⟩⟩
  · obtain ⟨hstatus, hcrc, hpend, hcommit⟩ := stageStart_passed_spec
      (groupFails_setAccepted (code := 1).trans hok)
    rw [status_setAccepted] at hstatus
    rw [groupOf_setAccepted] at hcrc hcommit
    rw [alone_setAccepted] at hcommit
    exact ⟨_, exec_stage_accepted hal hst, hstatus, hcrc, ⟨_, hpend, rfl, rfl, alone_setAccepted⟩, hcommit⟩
  · obtain ⟨hstatus, hpend⟩ := stageStart_failed_spec (groupFails_setAccepted (code := 1).trans hfail)
    rw [half_setAccepted] at hpend
    exact ⟨_, exec_stage_accepted hal hst, hstatus, hpend⟩
  · refine ⟨_, exec_switch_accepted hal hst, ?_, _, pendSet_setPendSet .., rfl, rfl, alone_setAccepted⟩
    rw [switchStart, rd_setPendSet_addr _ _ _ _ (by decide), status_setAccepted]
  · refine ⟨_, exec_loadDefault_accepted hal hst, ?_⟩
    simp only [defaultLoad, half_setAccepted, himage]
    exact ⟨rd_wr_same' _ _ _ _ (by decide) (by decide) (by decide),
      (groupOf_congr (by rw [half_wr]) g).trans (groupOf_modGroup ..)⟩
  · exact ⟨_, exec_setStage_taken hp hsw hack hal hacts, stagingReplied_spec⟩
  · exact ⟨_, exec_setCrc_equal hp hsw hack hk (hc.trans (congrArg some heq)),
      stagingConfirmed_spec (p := { p with acked := true })⟩
  · obtain ⟨hnone, hstatus, -⟩ := setEnd_spec (st := 0x1D) hp (by decide)
    exact ⟨_, exec_setCrc_unequal hp hsw hack hk hc hne, hnone, hstatus⟩
  · obtain ⟨hnone, hstatus, -⟩ := setEnd_spec (s := wr s h Reg.SET_RESULT_DETAIL k) (st := 0x1A)
      (by rwa [half_wr]) (by decide)
    exact ⟨_, exec_setCrc_failed hp hsw hack hk, hnone, hstatus⟩
  · obtain ⟨hnone, hstatus, -⟩ := setEnd_spec (st := 0x16) hp (by decide)
    exact ⟨_, exec_stageTimeout_ends hp hsw hack, hnone, hstatus⟩
  · exact ⟨_, exec_setSwitch_taken hp hsw hack hal hacts hnone, pendSet_setPendSet ..⟩
  · exact ⟨_, exec_setAck_acknowledged hp hq hsw hqsw hqack hacts, pendSet_setPendSet ..⟩
  · exact ⟨_, exec_switchAckTimeout_unacked hp hsw hack, switchUnacked_spec hp⟩
  · cases hacts : acts s h with
    | false =>
      obtain ⟨hactive, hnone⟩ := switched_standby_spec s h hg
      exact ⟨_, exec_groupSwitchInstant_standby hp hsw hacts, hactive, hnone, nofun⟩
    | true =>
      have hack : p.acked = true := hor.resolve_left (by simp [hacts])
      obtain ⟨hactive, hnone, hstatus⟩ := switched_leader_spec (old := activeGroup s h) hp hg
      exact ⟨_, exec_groupSwitchInstant_leader hp hsw hack hacts, hactive, hnone, fun _ => hstatus⟩

end Sys2Proof.Machine
end

section
/-!
PROOFS of the statement about sample timing: the PLLs, the tracker, SYNC_OUT and skew calibration.
-/

namespace Sys2Proof.Machine

open Sys2Proof (HalfId Instr)

/-! ### Changes of the front end, records, and counters -/

section FrontEndRules

variable (s : State) (h g : HalfId) (e : Fld) (f : FrontEnd → FrontEnd)

@[simp] theorem half_modFe_same : half (modFe s h f) h = { half s h with fe := f (half s h).fe } := by simp [modFe]
@[simp] theorem rd_modFe : rd (modFe s h f) g e = rd s g e := rd_setHalf ..
@[simp] theorem rdB_modFe : rdB (modFe s h f) g e = rdB s g e := rdB_setHalf ..

end FrontEndRules

/-- What a Ledger record may change: neither the registers of SMP nor the front end. -/
theorem keeps_ledgerH_refl (s : State) (h : HalfId) (ev : Nat) (bs : List Byte) :
    Keeps 0x10238401240000 s (ledgerH s h ev bs) := keeps_ledgerH _ _ _ (by decide) (Keeps.refl _ s)

@[simp] theorem fe_ledgerH (s : State) (h g : HalfId) (ev : Nat) (bs : List Byte) :
    (half (ledgerH s h ev bs) g).fe = (half s g).fe := (keeps_ledgerH_refl s h ev bs).fe (by decide) g

/-- A counter that counts up stops at its largest value. -/
theorem rd_satAdd_same (s : State) (h : HalfId) (f : Fld) (n : Nat) (hl : f.lo ≤ f.hi) (hh : f.hi < 32) :
    rd (satAdd s h f n) h f = min (rd s h f + n) (fmax f) :=
  rd_wr_same' _ _ _ _ hl hh
    (Nat.lt_of_le_of_lt (Nat.min_le_right _ _) (Nat.sub_lt (Nat.two_pow_pos _) Nat.one_pos))

/-! ### PLL lock (R202) -/

/-- PLL `pll` of half `h` shown unlocked, as of the next tick. -/
def pllUnlocked (s : State) (h : HalfId) (pll : Nat) : State :=
  modFe (wrB (wrB s h (pllLock pll) false) h (pllHist pll) true) h
    fun f => { f with pllAt := nset f.pllAt pll (s.ticks + 1) }

/-- PLL `pll` of half `h` shown locked. -/
def pllLocked (s : State) (h : HalfId) (pll : Nat) : State :=
  modFe (wrB s h (pllLock pll) true) h fun f => { f with pllAt := nset f.pllAt pll 0 }

section Pll

variable {s : State} {h : HalfId} {pll : Nat}

theorem pllLock_bit (p : Nat) : keyBlock (pllLock p).key = 4 ∧ (pllLock p).lo = (pllLock p).hi ∧ (pllLock p).hi < 32 := by
  unfold pllLock
  split <;> decide

theorem pllHist_bit (p : Nat) : keyBlock (pllHist p).key = 4 ∧ (pllHist p).lo = (pllHist p).hi ∧ (pllHist p).hi < 32 := by
  unfold pllHist
  split <;> decide

/-- The history bits stand above the lock bits, in their register. -/
theorem pllLock_below_pllHist (p : Nat) : (pllLock p).key = (pllHist p).key ∧ (pllLock p).hi < (pllHist p).lo := by
  unfold pllLock pllHist
  split <;> decide

theorem pllUnlocked_spec (s : State) (h : HalfId) (pll : Nat) :
    rdB (pllUnlocked s h pll) h (pllLock pll) = false ∧ rdB (pllUnlocked s h pll) h (pllHist pll) = true := by
  obtain ⟨-, hlock, hlock32⟩ := pllLock_bit pll
  obtain ⟨-, hhist, hhist32⟩ := pllHist_bit pll
  obtain ⟨hkey, hbelow⟩ := pllLock_below_pllHist pll
  simp only [pllUnlocked, rdB_modFe]
  refine ⟨?_, rdB_wrB_same _ _ _ _ hhist hhist32⟩
  rw [rdB, rd_wrB_disj _ _ _ _ _ hkey (Nat.le_of_eq hhist) (Nat.le_of_eq hlock) hhist32 (.inr hbelow)]
  exact rdB_wrB_same _ _ _ _ hlock hlock32

theorem pllLocked_spec (s : State) (h : HalfId) (pll : Nat) :
    rdB (pllLocked s h pll) h (pllLock pll) = true ∧ nget (half (pllLocked s h pll) h).fe.pllAt pll = 0 := by
  obtain ⟨-, hlock, hlock32⟩ := pllLock_bit pll
  simp only [pllLocked, rdB_modFe, half_modFe_same, nget_nset_same, and_true]
  exact rdB_wrB_same _ _ _ _ hlock hlock32

/-- The Ledger and Tally take a change of a PLL; its bits and the front end stay as shown. -/
theorem keeps_pllTold (s : State) (h : HalfId) (bs : List Byte) (k code : Nat) :
    Keeps 0x1823C5012C2800 s (tallyVital (ledgerH s h 0x0501 bs) h 0 k code 0x0501) :=
  keeps_tallyVital _ _ _ _ _ (by decide) ((keeps_ledgerH_refl s h _ _).mono (by decide))

theorem exec_pllUnlock_locked (hpll : pll ≤ 1) (hlock : rdB s h (pllLock pll) = true) :
    ∃ t, exec (.pllUnlock h pll) s = .next t ∧ Keeps 0x1823C5012C2800 (pllUnlocked s h pll) t := by
  have hruns : ¬(1 < pll ∨ rdB s h (pllLock pll) = false) := by simp [hlock, hpll]
  rw [exec_pllUnlock, execPllUnlock, if_neg hruns]
  exact ⟨_, rfl, keeps_pllTold ..⟩

theorem exec_pllRelock_unlocked (hpll : pll ≤ 1) (hat : nget (half s h).fe.pllAt pll ≠ 0) :
    ∃ t, exec (.pllRelock h pll) s = .next t ∧ Keeps 0x1823C5012C2800 (pllLocked s h pll) t := by
  have hwaits : ¬(1 < pll ∨ nget (half s h).fe.pllAt pll = 0) := by simp [hat, hpll]
  rw [exec_pllRelock, execPllRelock, if_neg hwaits]
  exact ⟨_, rfl, keeps_pllTold ..⟩

/-- The bits of a PLL stay while its change is told. -/
theorem Keeps.rdB_smp {s t : State} (hk : Keeps 0x1823C5012C2800 s t) (h : HalfId) {f : Fld} (hf : keyBlock f.key = 4) :
    Machine.rdB t h f = Machine.rdB s h f := hk.rdB h f (by rw [hf]; decide) (by rw [hf]; decide)

end Pll

/-! ### The load of the accumulator (R769) -/

theorem fe_trackerLoad (s : State) (h : HalfId) (acc fT tick : Nat) (off : Int) :
    (half (trackerLoad s h acc fT tick off) h).fe =
      { (half s h).fe with tracking := true, fT := fT, fOff := off, acc := acc, accTick := tick, boundary := 0 } := by
  simp [trackerLoad]

theorem exec_trkState_taken {s : State} {h : HalfId} (hidle : (half s h).fe.tracking = false)
    (hpartner : (half s (other h)).fe.tracking = true) (htwo : twoHalves s = true) :
    let p := (half s (other h)).fe
    exec (.trkState h) s = .next (trackerLoad s h p.acc p.fT p.accTick p.fOff) := by
  rw [exec_trkState, execTrkState]
  simp only [hidle, hpartner, htwo]
  rfl

/-! ### f_T at a tracked-cycle boundary (R204 to R206) -/

/-- A step of f_T is at most 2 %. -/
theorem stepF_within (fT target : Nat) :
    stepF fT target ≤ fT + fT * 2 / 100 ∧ fT ≤ stepF fT target + fT * 2 / 100 := by
  unfold stepF
  dsimp only
  split <;> omega

section Boundary

variable (s : State) (h : HalfId) (fm : Option Nat) (used : Nat) (phi : Int)

/-- Whatever state the tracker takes, f_T is still the one in force: each branch changes the tracker's counts, its
registers and the Ledger only. -/
theorem fT_trackState : (half (trackState s h fm used phi) h).fe.fT = (half s h).fe.fT := by
  simp only [trackState, apply_ite (fun t : State => (half t h).fe.fT), half_modFe_same, half_wr, half_satAdd, fe_ledgerH,
    ite_self]

theorem nominalF_trackState : nominalF (trackState s h fm used phi) h = nominalF s h := by
  have hk : Keeps 0x11238401240010 s (trackState s h fm used phi) :=
    keeps_trackState h fm used phi (by decide) (Keeps.refl _ s)
  simp only [nominalF, hk.image (by decide)]

/-- The target of f_T: nominal in fallback, else the measured frequency. -/
theorem fT_trackSteer : (half (trackSteer s h fm phi) h).fe.fT =
    stepF (half s h).fe.fT (if rd s h Reg.SMP_TRK_STAT_STATE = 2 then nominalF s h else fm.getD (nominalF s h)) := by
  cases fm <;> simp [trackSteer]

theorem rd_trackSteer_addr {e : Fld} (he : e.key % 0x100000000 ≠ 0x40028) :
    rd (trackSteer s h fm phi) h e = rd s h e := by
  simp only [trackSteer]
  rw [rd_wr_addr _ _ _ _ _ _ he, rd_wr_addr _ _ _ _ _ _ he, rd_modFe]

/-- The boundary of a tracked cycle, as the half marks it: the accumulator restarts (R203), N is that of `o` (R208). -/
def boundaryMarked (s : State) (h : HalfId) (o : State) : State :=
  let b := (half o h).fe.boundary
  let ns := if b = 0 then 10 ^ 15 / max 1 (half o h).fe.fT else (o.ticks + 1 - b) * 8
  modFe s h fun f => { f with
    acc := 0, accTick := o.ticks, boundary := o.ticks + 1, cycleNs := ns, syncN := rd o h Reg.SMP_SYNC_CFG_N }

/-- What follows a boundary once it is marked: SYNC_OUT's clamp, the detectors, the memory voltages, the points. -/
def boundaryFollowed (s : State) (h : HalfId) : State :=
  publishChanges (memoryCycle (rmsCycle (syncClamp s h) h) h) h fun r => r.src % 256 == 0x10

theorem exec_trackedCycleBoundary_tracking {f1 f2 : Option Nat} (htrack : (half s h).fe.tracking = true) :
    let p := pickSource s h f1 f2
    exec (.trackedCycleBoundary h f1 f2 phi) s =
      .next (boundaryFollowed (boundaryMarked (trackSteer (trackState s h p.1 p.2 phi) h p.1 phi) h s) h) := by
  rw [exec_trackedCycleBoundary, execTrackedCycleBoundary, htrack]
  rfl

/-- Where the tracker of half `h` stands: its accumulator, its latest boundary and f_T. -/
def trackerAt (s : State) (h : HalfId) : Nat × Nat × Nat :=
  ((half s h).fe.acc, (half s h).fe.boundary, (half s h).fe.fT)

variable {s h} in
theorem trackerAt_of_keeps {m : Nat} {t : State} (hk : Keeps m s t) (hm : m.testBit 48 = false) :
    trackerAt t h = trackerAt s h := by
  simp only [trackerAt, hk.fe hm]

theorem trackerAt_setChain (c : Nat) (x : ChainRun) : trackerAt (setChain s h c x) h = trackerAt s h := by
  simp [trackerAt, setChain]

/-- The detectors belong to the chains of the front end: the end of their cycle leaves the tracker. -/
theorem trackerAt_rmsCycle : trackerAt (rmsCycle s h) h = trackerAt s h := by
  unfold rmsCycle
  split
  · refine List.foldlRecOn (motive := fun t => trackerAt t h = trackerAt s h) _ _ rfl fun t ht r _ => ?_
    split
    · rw [trackerAt_setChain, ht]
    · exact ht
  · rfl

theorem keeps_syncClamp_refl : Keeps 0x10238401240010 s (syncClamp s h) := keeps_syncClamp h (by decide) (Keeps.refl _ s)

/-- The memory voltages and the points that follow the detectors reach neither SMP nor the front end. -/
theorem keeps_boundaryFollowed :
    Keeps 0x12738401E40000 (rmsCycle (syncClamp s h) h) (boundaryFollowed s h) :=
  keeps_publishChanges _ _ (by decide) (keeps_memoryCycle _ (by decide) (Keeps.refl _ _))

theorem trackerAt_boundaryFollowed : trackerAt (boundaryFollowed s h) h = trackerAt s h :=
  calc trackerAt (boundaryFollowed s h) h
      = trackerAt (rmsCycle (syncClamp s h) h) h := trackerAt_of_keeps (keeps_boundaryFollowed s h) (by decide)
    _ = trackerAt (syncClamp s h) h := trackerAt_rmsCycle _ h
    _ = trackerAt s h := trackerAt_of_keeps (keeps_syncClamp_refl s h) (by decide)

theorem rd_syncClamp_addr {e : Fld} (hb : keyBlock e.key = 4) (he : e.key % 0x100000000 ≠ 0x40038) :
    rd (syncClamp s h) h e = rd s h e := by
  unfold syncClamp
  dsimp only
  split
  · rw [(keeps_ledgerH_refl _ h _ _).rd h e (by rw [hb]; decide) (by rw [hb]; decide), rd_wrB_addr _ _ _ _ _ _ he]
  · rfl

theorem rd_boundaryFollowed_addr {e : Fld} (hb : keyBlock e.key = 4) (he : e.key % 0x100000000 ≠ 0x40038) :
    rd (boundaryFollowed s h) h e = rd s h e := by
  have hrms : Keeps 0x1000000000000 (syncClamp s h) (rmsCycle (syncClamp s h) h) :=
    keeps_rmsCycle h (by decide) (Keeps.refl _ _)
  rw [(keeps_boundaryFollowed s h).rd h e (by rw [hb]; decide) (by rw [hb]; decide),
    hrms.rd h e (by rw [hb]; decide) (by rw [hb]; decide), rd_syncClamp_addr s h hb he]

end Boundary

/-- The tracker after a boundary: the accumulator and the boundary are new, f_T has made its step. -/
theorem trackerAt_boundary (s : State) (h : HalfId) (fm : Option Nat) (used : Nat) (phi : Int) :
    let t := boundaryFollowed (boundaryMarked (trackSteer (trackState s h fm used phi) h fm phi) h s) h
    trackerAt t h = (0, s.ticks + 1, stepF (half s h).fe.fT
      (if rd t h Reg.SMP_TRK_STAT_STATE = 2 then nominalF s h else fm.getD (nominalF s h))) := by
  dsimp only
  rw [trackerAt_boundaryFollowed, rd_boundaryFollowed_addr _ _ (by decide) (by decide)]
  simp only [trackerAt, boundaryMarked, half_modFe_same, rd_modFe]
  rw [rd_trackSteer_addr _ _ _ _ (by decide), fT_trackSteer, fT_trackState, nominalF_trackState]

/-! ### SYNC_OUT (R209, R210) -/

/-- What a pulse is decided by and counted in: the clamp of half `h`'s generator changes none of it. -/
structure ClampOnly (h : HalfId) (s t : State) : Prop where
  ticks : t.ticks = s.ticks
  io : t.field.io = s.field.io
  mode : modeOf t h = modeOf s h
  en : rdB t h Reg.SMP_SYNC_CFG_EN = rdB s h Reg.SMP_SYNC_CFG_EN
  fmax : rd t h Reg.SMP_SYNC_MAX_FMAX = rd s h Reg.SMP_SYNC_MAX_FMAX
  driver : rd t h Reg.SMP_SYNC_STAT_DRIVER = rd s h Reg.SMP_SYNC_STAT_DRIVER
  suppressed : rd t h Reg.SMP_SYNC_STAT_SUPPRESSED = rd s h Reg.SMP_SYNC_STAT_SUPPRESSED

section SyncOut

variable {s t u : State} {h : HalfId}

theorem ClampOnly.refl (h : HalfId) (s : State) : ClampOnly h s s := ⟨rfl, rfl, rfl, rfl, rfl, rfl, rfl⟩

theorem ClampOnly.trans (hst : ClampOnly h s t) (htu : ClampOnly h t u) : ClampOnly h s u :=
  ⟨htu.ticks.trans hst.ticks, htu.io.trans hst.io, htu.mode.trans hst.mode, htu.en.trans hst.en,
    htu.fmax.trans hst.fmax, htu.driver.trans hst.driver, htu.suppressed.trans hst.suppressed⟩

/-- CLAMP shown and recorded. -/
theorem clampOnly_recorded (s : State) (h : HalfId) (b : Bool) (bs : List Byte) :
    ClampOnly h s (ledgerH (wrB s h Reg.SMP_SYNC_STAT_CLAMP b) h 0x0504 bs) := by
  have hk := keeps_ledgerH_refl (wrB s h Reg.SMP_SYNC_STAT_CLAMP b) h 0x0504 bs
  refine ⟨hk.ticks (by decide), hk.io (by decide), (modeOf_of_keeps hk (by decide) h).trans ?_,
    (hk.rdB h _ (by decide) (by decide)).trans ?_, (hk.rd h _ (by decide) (by decide)).trans ?_,
    (hk.rd h _ (by decide) (by decide)).trans ?_, (hk.rd h _ (by decide) (by decide)).trans ?_⟩
  · exact rd_wrB_addr _ _ _ _ _ _ (by decide)
  · exact rdB_wrB_addr _ _ _ _ _ _ (by decide)
  · exact rd_wrB_addr _ _ _ _ _ _ (by decide)
  · exact rd_wrB_disj _ _ _ _ _ rfl (by decide) (by decide) (by decide) (by decide)
  · exact rd_wrB_disj _ _ _ _ _ rfl (by decide) (by decide) (by decide) (by decide)

theorem clampOnly_syncClamp (s : State) (h : HalfId) : ClampOnly h s (syncClamp s h) := by
  unfold syncClamp
  dsimp only
  split
  · exact clampOnly_recorded ..
  · exact ClampOnly.refl h s

theorem clampOnly_syncUnclamp (s : State) (h : HalfId) (locked : Bool) : ClampOnly h s (syncUnclamp s h locked) := by
  unfold syncUnclamp
  dsimp only
  split
  · exact clampOnly_recorded ..
  · exact ClampOnly.refl h s

theorem ClampOnly.tooSoon (hc : ClampOnly h s t) : syncTooSoon t h = syncTooSoon s h := by
  simp only [syncTooSoon, hc.io, hc.ticks, hc.fmax]

/-- The train of half `h` reaches the balls: it is enabled, past BOOT, and the half drives. -/
def syncOn (s : State) (h : HalfId) : Prop :=
  rdB s h Reg.SMP_SYNC_CFG_EN = true ∧ modeOf s h ≠ mBOOT ∧ rd s h Reg.SMP_SYNC_STAT_DRIVER = halfNo h

theorem ClampOnly.on (hc : ClampOnly h s t) (hon : syncOn s h) : syncOn t h := by
  unfold syncOn
  rwa [hc.en, hc.mode, hc.driver]

theorem syncSend_on (hon : syncOn s h) :
    syncSend s h = if syncTooSoon s h then satAdd s h Reg.SMP_SYNC_STAT_SUPPRESSED 1
      else modIo s fun x => { x with syncAt := s.ticks + 1 } := by
  obtain ⟨hen, hmode, hdriver⟩ := hon
  simp [syncSend, hen, hmode, hdriver]

/-- The pulse of a train that is on is sent, or counted where it follows the previous one too soon. -/
theorem exec_syncPulse_on (locked : Bool) (hon : syncOn s h) : ∃ u, ClampOnly h s u ∧
    exec (.syncPulse h locked) s = .next (if syncTooSoon s h then satAdd u h Reg.SMP_SYNC_STAT_SUPPRESSED 1
      else modIo u fun x => { x with syncAt := s.ticks + 1 }) := by
  have hc : ClampOnly h s (syncUnclamp (syncClamp s h) h locked) :=
    (clampOnly_syncClamp s h).trans (clampOnly_syncUnclamp _ h locked)
  refine ⟨_, hc, ?_⟩
  rw [exec_syncPulse, execSyncPulse, syncSend_on (hc.on hon), hc.tooSoon, hc.ticks]

end SyncOut

/-! ### CAL (R216) -/

section Cal

variable {s : State} {h : HalfId}

theorem exec_cal_commission (hal : alive s h = true) (hmode : modeOf s h = mCOMMISSION) :
    exec (.cal h) s = .next (modFe (wr s h Reg.SMP_CAL_STAT_STATUS 1) h fun f => { f with cal := 2 }) := by
  rw [exec_cal, execCal, access_of_alive hal]
  simp [calCmd, hmode]

theorem exec_cal_wrongMode (hal : alive s h = true) (hmode : modeOf s h ≠ mCOMMISSION) :
    exec (.cal h) s = .next (wr s h Reg.SMP_CAL_STAT_STATUS 4) := by
  rw [exec_cal, execCal, access_of_alive hal]
  simp [calCmd, hmode]

end Cal

/-! ### The commands (R202 to R216, R769) -/

/-- Settles O36: a PLL by the bits it shows before its change is told, a boundary by where the tracker stands after it,
a pulse by what the clamp leaves of its decision, CAL by the mode. -/
theorem sampleTimingCommands : Obligations.SampleTimingCommands := by
  refine ⟨fun h pll s hpll => ⟨fun hlock => ?_, fun hat => ?_⟩, fun h s hidle hpartner htwo => ?_,
    fun h f1 f2 phi s htrack => ?_, fun h locked s hen hmode hdriver => ⟨fun hsoon => ?_, fun hsoon => ?_⟩,
    fun h s hal => ⟨fun hmode => ?_, fun hmode => ?_⟩⟩
  · obtain ⟨t, ht, hk⟩ := exec_pllUnlock_locked hpll hlock
    obtain ⟨hoff, hhist⟩ := pllUnlocked_spec s h pll
    exact ⟨t, ht, (hk.rdB_smp h (pllLock_bit pll).1).trans hoff, (hk.rdB_smp h (pllHist_bit pll).1).trans hhist⟩
  · obtain ⟨t, ht, hk⟩ := exec_pllRelock_unlocked hpll hat
    obtain ⟨hon, hdone⟩ := pllLocked_spec s h pll
    exact ⟨t, ht, (hk.rdB_smp h (pllLock_bit pll).1).trans hon, by rw [hk.fe (by decide), hdone]⟩
  · refine ⟨_, exec_trkState_taken hidle hpartner htwo, ?_⟩
    simp only [fe_trackerLoad, and_self]
  · refine ⟨_, exec_trackedCycleBoundary_tracking s h phi htrack, ?_⟩
    have htracker := trackerAt_boundary s h (pickSource s h f1 f2).1 (pickSource s h f1 f2).2 phi
    simp only [trackerAt, Prod.mk.injEq] at htracker
    obtain ⟨hacc, hboundary, hfT⟩ := htracker
    refine ⟨hacc, hboundary, hfT, ?_⟩
    rw [hfT]
    exact stepF_within _ _
  · obtain ⟨u, -, ht⟩ := exec_syncPulse_on locked ⟨hen, hmode, hdriver⟩
    exact ⟨_, ht, by simp [hsoon, modIo]⟩
  · obtain ⟨u, hc, ht⟩ := exec_syncPulse_on locked ⟨hen, hmode, hdriver⟩
    rw [hsoon, if_pos rfl] at ht
    exact ⟨_, ht, congrArg _ hc.io, by rw [rd_satAdd_same _ _ _ _ (by decide) (by decide), hc.suppressed]⟩
  · refine ⟨_, exec_cal_commission hal hmode, ?_, by simp⟩
    rw [rd_modFe]
    exact rd_wr_same' _ _ _ _ (by decide) (by decide) (by decide)
  · exact ⟨_, exec_cal_wrongMode hal hmode, rd_wr_same' _ _ _ _ (by decide) (by decide) (by decide), by rw [half_wr]⟩

end Sys2Proof.Machine
end

section
/-!
PROOFS of the statement about the data ports: what an access to each port reaches, and the selector's next word.
-/

namespace Sys2Proof.Machine

open Sys2Proof (HalfId Instr)

/-! ### Accesses of a half's bus -/

section Bus

variable {c : Instr} {h : HalfId} {addr v : Nat} {s : State} {P : State → Prop}

/-- A command that writes an address of the bus completes with the register write. -/
theorem completes_busWrite (hc : exec c s = .next (busAccess s h addr (some v))) (hal : alive s h = true)
    (hP : P (regWrite s h addr v .mgmt)) : Completes c s P :=
  ⟨_, hc, by simpa only [busAccess, access_of_alive hal] using hP⟩

/-- A command that reads an address of the bus completes with the value in the half's bus. -/
theorem completes_busRead (hc : exec c s = .next (busAccess s h addr none)) (hal : alive s h = true)
    (hP : P (modMgmt (regRead s h addr).2 h fun m => { m with bus := (regRead s h addr).1 })) : Completes c s P :=
  ⟨_, hc, by simpa only [busAccess, busRead, access_of_alive hal] using hP⟩

end Bus

section Management

variable (s : State) (h g : HalfId) (f : Mgmt → Mgmt) (e : Fld)

@[simp] theorem half_modMgmt_same : half (modMgmt s h f) h = { half s h with mgmt := f (half s h).mgmt } := by
  simp [modMgmt]
@[simp] theorem rd_modMgmt : rd (modMgmt s h f) g e = rd s g e := rd_setHalf ..

end Management

/-! ### What stands behind the address of a port -/

section PortAddresses

variable (s : State) (h : HalfId) (v : Nat)

theorem regWrite_pcvInjData : regWrite s h 0x61074 v .mgmt = injAccess s h (some (v % 2 ^ 32)) := rfl
theorem regWrite_fstTplData : regWrite s h 0xA0034 v .mgmt = tplAccess s h (some (v % 2 ^ 32)) := rfl
theorem regWrite_fabUcData : regWrite s h 0x90134 v .mgmt = curveAccess s h (some (v % 2 ^ 32)) := rfl
theorem regWrite_ethTdata : regWrite s h 0x170044 v .mgmt = tdataWrite s h (v % 2 ^ 32) := rfl
theorem regWrite_secKeyData : regWrite s h 0x1900C4 v .mgmt = keyDataWrite s h (v % 2 ^ 32) := rfl

theorem regRead_pcvInjData :
    regRead s h 0x61074 = (rd (injAccess s h none) h Reg.PCV_INJ_DATA_DATA, injAccess s h none) := rfl
theorem regRead_fstTplData :
    regRead s h 0xA0034 = (rd (tplAccess s h none) h Reg.FST_TPL_DATA_SAMPLE, tplAccess s h none) := rfl
theorem regRead_fabUcData :
    regRead s h 0x90134 = (word (curveAccess s h none) h Reg.FAB_UC_DATA_M.key, curveAccess s h none) := rfl
theorem regRead_ethTdata : regRead s h 0x170044 = tdataRead s h := rfl
theorem regRead_secKeyData : regRead s h 0x1900C4 = keyDataRead s h := rfl

end PortAddresses

/-! ### The selectors advance (R269, R303, R346, R734, R739) -/

section Selectors

variable {s : State} {h : HalfId} {w : Nat}

theorem rd_injAdvance_word (hw : rd s h Reg.PCV_INJ_SEL_WORD = w) (hlt : w < 128) :
    rd (injAdvance s h) h Reg.PCV_INJ_SEL_WORD = w + 1 := by
  subst hw
  rw [injAdvance, if_pos hlt]
  exact rd_wr_same' _ _ _ _ (by decide) (by decide) (Nat.lt_of_le_of_lt hlt (by decide))

theorem rd_tplAdvance_idx (hw : rd s h Reg.FST_TPL_SEL_IDX = w) (hlt : w < 31) :
    rd (tplAdvance s h) h Reg.FST_TPL_SEL_IDX = w + 1 := by
  subst hw
  rw [tplAdvance, if_pos hlt]
  exact rd_wr_same' _ _ _ _ (by decide) (by decide) (Nat.lt_of_le_of_lt hlt (by decide))

theorem rd_curveAdvance_point (hw : rd s h Reg.FAB_UC_SEL_POINT = w) (hlt : w < 63) :
    rd (curveAdvance s h) h Reg.FAB_UC_SEL_POINT = w + 1 := by
  subst hw
  rw [curveAdvance, if_pos hlt]
  exact rd_wr_same' _ _ _ _ (by decide) (by decide) (Nat.lt_of_le_of_lt hlt (by decide))

theorem rd_tselAdvance_word (hw : rd s h Reg.ETH_TSEL_WORD = w) :
    rd (tselAdvance s h) h Reg.ETH_TSEL_WORD = (w + 1) % 256 := by
  subst hw
  exact rd_wr_same _ _ _ _ (by decide) (by decide)

theorem rd_keyAdvance_word (hw : rd s h Reg.SEC_KEY_SEL_WORD = w) :
    rd (keyAdvance s h) h Reg.SEC_KEY_SEL_WORD = (w + 1) % 32 := by
  subst hw
  exact rd_wr_same _ _ _ _ (by decide) (by decide)

end Selectors

section SelectorFrames

variable (s : State) (h g : HalfId)

/-! A selector is a register: the halves stay, and so does the port's own register. -/

@[simp] theorem half_injAdvance : half (injAdvance s h) g = half s g := by
  unfold injAdvance
  dsimp only
  split <;> simp
@[simp] theorem half_tplAdvance : half (tplAdvance s h) g = half s g := by
  unfold tplAdvance
  dsimp only
  split <;> simp
@[simp] theorem half_curveAdvance : half (curveAdvance s h) g = half s g := by
  unfold curveAdvance
  dsimp only
  split <;> simp
@[simp] theorem half_tselAdvance : half (tselAdvance s h) g = half s g := half_wr ..
@[simp] theorem half_keyAdvance : half (keyAdvance s h) g = half s g := half_wr ..

theorem groupOf_tplAdvance (n : Nat) : groupOf (tplAdvance s h) g n = groupOf s g n := by
  simp only [groupOf, half_tplAdvance]
theorem groupOf_curveAdvance (n : Nat) : groupOf (curveAdvance s h) g n = groupOf s g n := by
  simp only [groupOf, half_curveAdvance]

theorem rd_injAdvance_data : rd (injAdvance s h) h Reg.PCV_INJ_DATA_DATA = rd s h Reg.PCV_INJ_DATA_DATA := by
  unfold injAdvance
  dsimp only
  split <;> simp (disch := decide) only [rd_wr_addr]

theorem rd_tplAdvance_sample : rd (tplAdvance s h) h Reg.FST_TPL_DATA_SAMPLE = rd s h Reg.FST_TPL_DATA_SAMPLE := by
  unfold tplAdvance
  dsimp only
  split <;> simp (disch := decide) only [rd_wr_addr]

theorem word_curveAdvance_data : word (curveAdvance s h) h Reg.FAB_UC_DATA_M.key = word s h Reg.FAB_UC_DATA_M.key := by
  have hsel (t : State) (v : Nat) (f : Fld) (hf : f.key = 0x90130) :
      word (wr t h f v) h Reg.FAB_UC_DATA_M.key = word t h Reg.FAB_UC_DATA_M.key :=
    word_wr_ne _ _ _ _ _ _ (regKey_ne _ _ _ _ (by rw [hf]; decide))
  unfold curveAdvance
  dsimp only
  split
  · exact hsel _ _ _ rfl
  · exact (hsel _ _ _ rfl).trans (hsel _ _ _ rfl)

end SelectorFrames

/-! ### Injection words (R246, R269) -/

section InjectionPort

variable {s : State} {h : HalfId}

theorem injAccess_write (v : Nat) (hw : rd s h Reg.PCV_INJ_SEL_WORD < 128) (hidle : (half s h).fe.inj = none) :
    injAccess s h (some v) = injAdvance (modFe s h fun f => { f with
      injStore := nset f.injStore (rd s h Reg.PCV_INJ_SEL_SET * 256 + rd s h Reg.PCV_INJ_SEL_WORD)
        (v % 2 ^ 32) }) h := by
  simp [injAccess, hidle, Nat.not_lt.mpr (Nat.le_of_lt hw)]

theorem injAccess_read (hw : rd s h Reg.PCV_INJ_SEL_WORD < 128) : injAccess s h none =
    injAdvance (wr s h Reg.PCV_INJ_DATA_DATA
      (injWord s h (rd s h Reg.PCV_INJ_SEL_SET) (rd s h Reg.PCV_INJ_SEL_WORD))) h := by
  simp [injAccess, Nat.not_lt.mpr (Nat.le_of_lt hw)]

end InjectionPort

/-! ### Template samples and curve points (R303, R346) -/

section GroupPorts

variable {s : State} {h : HalfId}

/-- A leader may write a group that is neither active nor awaited (R111, R284). -/
theorem groupWritable_of_idle {g : Nat} (hacts : acts s h = true) (hg : g ≠ activeGroup s h)
    (hpend : (half s h).mode.pendSet = none) : groupWritable s h g = true := by
  simp [groupWritable, hacts, hg, hpend]

/-- Writing a group leaves the registers outside SYS. -/
theorem rd_modGroup (g : Nat) (f : SetGroup → SetGroup) {e : Fld} (hb : keyBlock e.key < 27)
    (he : (0x2000000001).testBit (keyBlock e.key) = false) : rd (modGroup s h g f) h e = rd s h e :=
  (keeps_modGroup h g f (by decide) (Keeps.refl 0x2000000001 s)).rd h e hb he

theorem tplAccess_write (v : Nat) (hf : rd s h Reg.FST_TPL_SEL_FUNC < 48)
    (hw : groupWritable s h (rd s h Reg.FST_TPL_SEL_GROUP) = true) : tplAccess s h (some v) =
    tplAdvance (modGroup s h (rd s h Reg.FST_TPL_SEL_GROUP) fun x =>
      { x with templates := nset x.templates (tplKey s h) (v % 65536) }) h := by
  simp [tplAccess, hf, hw]

theorem tplAccess_read (hf : rd s h Reg.FST_TPL_SEL_FUNC < 48) : tplAccess s h none =
    tplAdvance (wr s h Reg.FST_TPL_DATA_SAMPLE
      (nget (groupOf s h (rd s h Reg.FST_TPL_SEL_GROUP)).templates (tplKey s h))) h := by
  simp [tplAccess, tplRead, hf]

theorem curveAccess_write (v : Nat) (hw : groupWritable s h (rd s h Reg.FAB_UC_SEL_GROUP) = true) :
    curveAccess s h (some v) = curveAdvance (modGroup s h (rd s h Reg.FAB_UC_SEL_GROUP) fun x =>
      { x with curves := nset x.curves (curveKey s h) (v % 2 ^ 32) }) h := if_pos hw

end GroupPorts

/-! ### GOOSE table words and key words (R734, R739) -/

section ManagementPorts

variable {s : State} {h : HalfId}

/-- A word other than ENABLE of a block that is not enabled is stored. -/
theorem tdataWrite_disabled (v : Nat) {b : Nat × Nat}
    (hb : gooseBlock (rd s h Reg.ETH_TSEL_TABLE) (rd s h Reg.ETH_TSEL_ENTRY) = some b)
    (hoff : gooseOn s h b.1 b.2 = false) (hw : rd s h Reg.ETH_TSEL_WORD ≠ 0) : tdataWrite s h v =
    tselAdvance (modMgmt s h fun m => { m with
      tables := nset m.tables
        (gooseKey (rd s h Reg.ETH_TSEL_TABLE) (rd s h Reg.ETH_TSEL_ENTRY) (rd s h Reg.ETH_TSEL_WORD))
        (v % 2 ^ 32) }) h := by
  simp [tdataWrite, hb, hoff, hw]

/-- The device's public key reads back from kind 0 (R720). -/
theorem keyDataRead_device (hk : rd s h Reg.SEC_KEY_SEL_KIND = 0) (hi : rd s h Reg.SEC_KEY_SEL_INDEX = 0)
    (hw : rd s h Reg.SEC_KEY_SEL_WORD < 16) : keyDataRead s h =
    (Config.devicePublic (h == .b) (rd s h Reg.SEC_KEY_SEL_WORD) % 2 ^ 32, keyAdvance s h) := by
  simp [keyDataRead, selKind, selIndex, hk, hi, kindSlots, kindWords, Nat.not_le.mpr hw]

end ManagementPorts

/-! ### The ports -/

/-- Settles O11: each access by what it reaches, then by its selector's advance. -/
theorem dataPortsReachTheirStore : Obligations.DataPortsReachTheirStore := by
  refine ⟨fun h v s hal hw hidle => completes_busWrite (exec_pcvInjDataAccess ..) hal ?_,
    fun h s hal hw => completes_busRead (exec_pcvInjDataAccess ..) hal ?_,
    fun h v s hal hf hacts hg hpend hi => completes_busWrite (exec_fstTplDataAccess ..) hal ?_,
    fun h s hal hf => completes_busRead (exec_fstTplDataAccess ..) hal ?_,
    fun h v s hal hacts hg hpend hp => completes_busWrite (exec_fabUcDataAccess ..) hal ?_,
    fun h s hal => completes_busRead (exec_fabUcDataAccess ..) hal ?_,
    fun h v b s hal hb hoff hw => completes_busWrite (exec_ethTdataAccess ..) hal ?_,
    fun h s hal => completes_busRead (exec_ethTdataAccess ..) hal ?_,
    fun h v s hal => completes_busWrite (exec_secKeyDataAccess ..) hal ?_,
    fun h s hal hk hi hw => completes_busRead (exec_secKeyDataAccess ..) hal ?_⟩
  · rw [regWrite_pcvInjData, injAccess_write _ hw hidle]
    exact ⟨by simp [injWord], rd_injAdvance_word (rd_modFe ..) hw⟩
  · simp only [regRead_pcvInjData, injAccess_read hw, half_modMgmt_same, rd_modMgmt, rd_injAdvance_data]
    exact ⟨rd_wr_same _ _ _ _ (by decide) (by decide), rd_injAdvance_word (rd_wr_addr _ _ _ _ _ _ (by decide)) hw⟩
  · rw [regWrite_fstTplData, tplAccess_write _ hf (groupWritable_of_idle hacts hg hpend)]
    refine ⟨?_, rd_tplAdvance_idx (rd_modGroup _ _ (by decide) (by decide)) hi⟩
    simp [groupOf_tplAdvance, groupOf_modGroup, Nat.mod_mod_of_dvd]
  · simp only [regRead_fstTplData, tplAccess_read hf, half_modMgmt_same, rd_modMgmt, rd_tplAdvance_sample]
    exact ⟨rd_wr_same _ _ _ _ (by decide) (by decide), rd_tplAdvance_idx (rd_wr_addr _ _ _ _ _ _ (by decide))⟩
  · rw [regWrite_fabUcData, curveAccess_write _ (groupWritable_of_idle hacts hg hpend)]
    refine ⟨?_, rd_curveAdvance_point (rd_modGroup _ _ (by decide) (by decide)) hp⟩
    simp [groupOf_curveAdvance, groupOf_modGroup]
  · simp only [regRead_fabUcData, half_modMgmt_same, rd_modMgmt, curveAccess, word_curveAdvance_data]
    exact ⟨word_setWord_same .., rd_curveAdvance_point (rd_setWord_addr _ _ _ _ _ _ (by decide))⟩
  · rw [regWrite_ethTdata, tdataWrite_disabled _ hb hoff hw]
    exact ⟨by simp [gooseWord], rd_tselAdvance_word (rd_modMgmt ..)⟩
  · rw [regRead_ethTdata]
    simp only [tdataRead, half_modMgmt_same, rd_modMgmt, true_and]
    exact rd_tselAdvance_word rfl
  · rw [regWrite_secKeyData]
    exact ⟨by simp [keyDataWrite, selKind, selIndex], rd_keyAdvance_word (rd_modMgmt ..)⟩
  · rw [regRead_secKeyData, keyDataRead_device hk hi hw]
    simp only [half_modMgmt_same, rd_modMgmt, true_and]
    rw [rd_keyAdvance_word rfl, Nat.mod_eq_of_lt (Nat.lt_of_le_of_lt hw (by decide))]

end Sys2Proof.Machine
end

section
/-!
PROOFS of the statement about the commands of chains: an output, its response switches and selector, and TEST injection.
-/

namespace Sys2Proof.Machine

open Sys2Proof (HalfId Instr)

/-! ### The run of a chain, and the registers of its bank -/

section ChainRules

variable (s : State) (h g : HalfId) (c : Nat) (x : ChainRun) (e : Fld)

@[simp] theorem chainRun_setChain_same : chainRun (setChain s h c x) h c = x := by
  simp [chainRun, setChain, sget_sset_same]
@[simp] theorem chainRun_wrBit (i : Nat) (b : Bool) : chainRun (wrBit s h e i b) g c = chainRun s g c := by
  simp only [chainRun, half_wrBit]
@[simp] theorem rd_setChain : rd (setChain s h c x) g e = rd s g e := rd_modFe ..

variable {s h} {t : State}

theorem chainRun_of_fe (hfe : (half t h).fe = (half s h).fe) : chainRun t h c = chainRun s h c := by
  simp only [chainRun, hfe]

theorem chainRec_of_image (hi : (half t h).image = (half s h).image) : chainRec t h c = chainRec s h c := by
  simp only [chainRec, hi]

end ChainRules

theorem chainRec_noteHigh (s : State) (h : HalfId) (k : Nat) (x : Int) (c : Nat) :
    chainRec (noteHigh s h k x) h c = chainRec s h c :=
  chainRec_of_image c ((keeps_noteHigh h k x (by decide) (Keeps.refl 0x1000000000000 s)).image (by decide) h)

/-- The record found for a chain names it. -/
theorem chain_of_chainRec {s : State} {h : HalfId} {c : Nat} {r : ChainRec} (hr : chainRec s h c = some r) :
    r.chain = c := by
  unfold chainRec at hr
  split at hr
  · simpa using List.find?_some hr
  · cases hr

/-- A register of a bank stays when a register at another address of the bank is written. -/
theorem rd_wr_bank {a b n : Nat} (s : State) (h : HalfId) (f e : Fld) (v : Nat) (he : e.key = a + n * 0x100000000)
    (hf : f.key = b + n * 0x100000000) (hab : a % 0x100000000 ≠ b % 0x100000000) : rd (wr s h f v) h e = rd s h e :=
  rd_wr_addr _ _ _ _ _ _ (by simpa [he, hf, Nat.add_mul_mod_self_right] using hab)

/-! ### The restart of a chain (R244) -/

/-- A restart rewrites the run of its chain alone, and a pending response goes on waiting. -/
theorem half_restartChain {s : State} {h : HalfId} {c : Nat} {r : ChainRec} (hr : chainRec s h c = some r) :
    ∃ x, x.pend = (chainRun s h c).pend ∧ half (restartChain s h c) h = half (setChain s h c x) h := by
  simp only [restartChain, hr, half_satAdd, half_wrBit]
  refine ⟨_, ?_, rfl⟩
  rfl

/-! ### An output of a plain chain (R236, R245, R247) -/

/-- No test, calibration or injection stands in for an output of half `h`. -/
structure FrontIdle (s : State) (h : HalfId) : Prop where
  test : (half s h).fe.test = none
  cal : (half s h).fe.cal = 0
  inj : (half s h).fe.inj = none

section Idle

variable {s t : State} {h : HalfId} {c : Nat}

theorem FrontIdle.of_half (hs : FrontIdle s h) (ht : half t h = half s h) : FrontIdle t h := by
  obtain ⟨htest, hcal, hinj⟩ := hs
  constructor <;> rwa [ht]

theorem FrontIdle.setChain (hs : FrontIdle s h) (x : ChainRun) : FrontIdle (setChain s h c x) h := by
  obtain ⟨htest, hcal, hinj⟩ := hs
  constructor <;> simpa [Machine.setChain]

theorem FrontIdle.restartChain (hs : FrontIdle s h) {r : ChainRec} (hr : chainRec s h c = some r) :
    FrontIdle (restartChain s h c) h := by
  obtain ⟨x, -, hx⟩ := half_restartChain hr
  exact (hs.setChain x).of_half hx

theorem FrontIdle.noteHigh (hs : FrontIdle s h) (k : Nat) (x : Int) : FrontIdle (noteHigh s h k x) h := by
  obtain ⟨htest, hcal, hinj⟩ := hs
  unfold Machine.noteHigh
  split <;> constructor <;> simpa

theorem FrontIdle.not_substituted (hs : FrontIdle s h) (r : ChainRec) (x : ChainRun) : substituted s h r x = false := by
  simp [substituted, hs.test, hs.cal]

theorem FrontIdle.injectNow (hs : FrontIdle s h) (c : Nat) : injectNow s h c = (none, s) := by
  simp [Machine.injectNow, hs.inj]

end Idle

/-- What an output delivers: its value and its instant. -/
def outputOf (x : ChainRun) : Int × Int × Nat := (x.re, x.im, x.inst)

/-- The detectors only watch an output. -/
theorem outputOf_peakStep (ticks period det m q : Nat) (x : ChainRun) :
    outputOf (peakStep ticks period det m q x) = outputOf x := by
  simp only [peakStep, outputOf, apply_ite ChainRun.re, apply_ite ChainRun.im, apply_ite ChainRun.inst, ite_self]

theorem outputOf_rmsStep (det m q : Nat) (x : ChainRun) : outputOf (rmsStep det m q x) = outputOf x := by
  simp only [rmsStep, outputOf, apply_ite ChainRun.re, apply_ite ChainRun.im, apply_ite ChainRun.inst, ite_self]

theorem outputOf_envStep (det m q : Nat) (x : ChainRun) : outputOf (envStep det m q x) = outputOf x := by
  simp only [envStep, outputOf, apply_ite ChainRun.re, apply_ite ChainRun.im, apply_ite ChainRun.inst, ite_self]

/-- Where nothing substitutes or injects, the main output is the value of the stages. -/
theorem outputOf_chainMain {s : State} {h : HalfId} {c : Nat} {r : ChainRec} (hidle : FrontIdle s h)
    (hr : chainRec s h c = some r) (re im : Int) (older inst : Nat) :
    outputOf (chainMain s h r re im older inst).1 = (re, im, inst) := by
  obtain rfl := chain_of_chainRec hr
  unfold chainMain
  extract_lets c iq run s0 x st track q x1
  have hs0 : FrontIdle s0 h := by
    simp only [s0]
    split
    · exact hidle.setChain _
    · split
      · exact hidle.restartChain hr
      · exact hidle
  simp [hs0.not_substituted, hs0.injectNow, outputOf, x1]

/-- The monitor's registers show an output; the run of the chain stays. -/
theorem chainRun_monitorShow (s : State) (h g : HalfId) (k : Nat) (x : Int) (q c : Nat) :
    chainRun (monitorShow s h k x q) g c = chainRun s g c := by
  simp only [chainRun, monitorShow, apply_ite (fun t : State => half t g), half_wr, ite_self]

/-- The output of a plain chain is the corrected input, in the state that the chain's followers see. -/
theorem exec_chainOutput_plain {s : State} {h : HalfId} {c : Nat} {r : ChainRec} (x re im : Int) (older inst : Nat)
    (cyc : Option Nat) (sat : Bool) (hr : chainRec s h c = some r) (hnow : respNow s h c < 4) (himg : r.resp < 4)
    (hdet : r.det / 2 ^ 30 = 0) (hidle : FrontIdle s h) :
    ∃ u, exec (.chainOutput h c x re im older inst cyc sat) s = .next (chainFeed u h c inst cyc) ∧
      outputOf (chainRun u h c) = (correctCode s h r.src x, 0, inst) := by
  have hplain : (decide (respNow s h c < 4) && decide (r.resp < 4) && r.det / 2 ^ 30 == 0) = true := by
    rw [hdet]
    simp [hnow, himg]
  have hmain := outputOf_chainMain (hidle.noteHigh r.src (correctCode s h r.src x)) ((chainRec_noteHigh ..).trans hr)
    (correctCode s h r.src x) 0 older inst
  rw [exec_chainOutput, execChainOutput]
  simp only [hr, hplain, if_true, Bool.true_and]
  simp only [hdet, Nat.reduceBEq, Bool.false_and, Bool.false_eq_true, if_false]
  refine ⟨_, rfl, Eq.trans ?_ hmain⟩
  simp only [apply_ite (chainRun · h c), chainRun_monitorShow, chainRun_wrBit, ite_self, chainRun_setChain_same,
    outputOf_envStep, outputOf_rmsStep, outputOf_peakStep]

/-! ### Reports of a chain (R252, R266, R267) -/

section ChainReports

variable (s : State) (h g : HalfId) (c resp st : Nat) (seq : Bool)

@[simp] theorem half_fltResult : half (fltResult s h c resp st seq) g = half s g := by
  simp only [fltResult, half_wr, apply_ite (fun t : State => half t g), half_wrapInc, ite_self]

theorem rd_fltResult_status {st : Nat} (hst : st < 2 ^ 8) :
    rd (fltResult s h c resp st seq) h Reg.PCV_FLT_RESULT_STATUS = st :=
  rd_wr_same' _ _ _ _ (by decide) (by decide) hst

theorem rd_fltResult_addr {e : Fld} (he : e.key % 0x100000000 ≠ 0x61068) :
    rd (fltResult s h c resp st seq) h e = rd s h e := by
  unfold fltResult
  dsimp only
  rw [rd_wr_addr _ _ _ _ _ _ he, rd_wr_addr _ _ _ _ _ _ he, rd_wr_addr _ _ _ _ _ _ he]
  split
  · exact rd_wrapInc_addr _ _ _ _ _ he
  · rfl

end ChainReports

section ChainCommandStatus

variable {s : State} {h : HalfId} {c resp : Nat}

theorem switchStatus_lt (s : State) (h : HalfId) (c resp : Nat) : switchStatus s h c resp < 2 ^ 8 := by
  unfold switchStatus
  repeat' split
  all_goals decide

theorem fltCmd_switch_accepted (hst : switchStatus s h c resp = 0x01) :
    fltCmd s h 1 c resp = askSwitch (fltResult s h c resp 0x01 true) h c resp 1 0 := by
  simp [fltCmd, hst]

theorem fltCmd_switch_refused (hst : switchStatus s h c resp ≠ 0x01) :
    fltCmd s h 1 c resp = fltResult s h c resp (switchStatus s h c resp) true := by
  simp [fltCmd, hst]

theorem fltCmd_peakReset {r : ChainRec} (hr : chainRec s h c = some r) (hpeak : bit r.det 29 = true)
    (hmode : modeOf s h ≠ mBOOT) : fltCmd s h 2 c 0 = setChain (fltResult s h c 0 0x02 true) h c
      { chainRun (fltResult s h c 0 0x02 true) h c with pkReset := true } := by
  simp [fltCmd, hr, hpeak, hmode]

end ChainCommandStatus

/-! ### The boundary of a response switch (R251, R252) -/

section Boundaries

variable {s : State} {h : HalfId} {c resp : Nat} {r : ChainRec}

/-- The SETTLING bits stand outside the bank of the chains. -/
theorem settling_addr_ne (n : Nat) {a : Nat} (ha : 0x61044 ≤ a) (hb : a ≤ 0x61060) :
    a ≠ (Reg.PCV_FLT_SETTLING_SETTLING n).key % 0x100000000 := by
  simp only [Reg.PCV_FLT_SETTLING_SETTLING, instKey, nowhere]
  split <;> omega

/-- A restart writes SETTLING and RESTARTS; the other fields of the chain's bank stay. -/
theorem rd_restartChain_bank (s : State) (h : HalfId) {c a : Nat} {e : Fld} (he : e.key = a + c * 0x100000000)
    (ha : 0x61044 ≤ a) (hb : a ≤ 0x61060) (hl : e.lo ≤ e.hi) (habove : a = 0x61060 → 7 < e.lo) :
    rd (restartChain s h c) h e = rd s h e := by
  have haddr : e.key % 0x100000000 = a := by omega
  have hrestarts (t : State) (v : Nat) : rd (wr t h (Reg.PCV_FLT_STAT_RESTARTS c) v) h e = rd t h e := by
    by_cases hstat : a = 0x61060
    · exact rd_wr_disjoint _ _ _ _ _ (he.trans (hstat ▸ rfl)) (Nat.zero_le _) hl (by decide : 7 < 32)
        (.inl (habove hstat))
    · exact rd_wr_bank _ _ _ _ _ he rfl (by omega)
  unfold restartChain
  split
  · rfl
  · simp only [satAdd]
    rw [hrestarts, rd_wrBit_addr _ _ _ _ _ _ _ (haddr.symm ▸ settling_addr_ne _ ha hb), rd_setChain]

theorem respNow_wr (s : State) (h : HalfId) (c resp : Nat) :
    respNow (wr s h (Reg.PCV_FLT_CFG_RESP_NOW c) resp) h c = resp % 2 ^ 8 :=
  rd_wr_same _ _ (Reg.PCV_FLT_CFG_RESP_NOW c) _ (by decide : 16 ≤ 23) (by decide : 23 < 32)

/-- The recorder's note of a change leaves the registers of chains. -/
theorem respNow_putResp (s : State) (h : HalfId) (c resp : Nat) : respNow (putResp s h c resp) h c = resp % 2 ^ 8 := by
  have hblock : keyBlock (Reg.PCV_FLT_CFG_RESP_NOW c).key = 6 := (keyBlock_bank 0x61044 c).trans rfl
  unfold putResp
  dsimp only
  split
  · exact respNow_wr ..
  · refine Eq.trans ?_ (respNow_wr s h c resp)
    exact (keeps_noteChange h _ 2 _ (by decide) (Keeps.refl 0x40000000000 _)).rd h _ (by rw [hblock]; decide)
      (by rw [hblock]; decide)

/-- Chain `c` no longer waits for its pending response. -/
def pendingTaken (s : State) (h : HalfId) (c : Nat) : State :=
  setChain s h c { chainRun s h c with pend := none, pendKind := 0 }

/-- The response `resp` of chain `c` in force and shown, before the restart. -/
def responseShown (s : State) (h : HalfId) (c resp : Nat) (r : ChainRec) : State :=
  wrB (if r.resp < 4 then putResp (pendingTaken s h c) h c resp else pendingTaken s h c) h (Reg.PCV_FLT_STAT_SWITCHED c)
    ((chainRun s h c).pendKind == 1 && resp != r.resp)

theorem keeps_responseShown (s : State) (h : HalfId) (c resp : Nat) (r : ChainRec) :
    Keeps 0x40000000040 (pendingTaken s h c) (responseShown s h c resp r) :=
  keeps_wrB _ _ _ ((fits_bank _ 0x61060 c).trans (by decide))
    (keeps_ite _ (keeps_putResp _ _ _ (by decide) (Keeps.refl _ _)) (Keeps.refl _ _))

theorem pend_responseShown (s : State) (h : HalfId) (c resp : Nat) (r : ChainRec) :
    (chainRun (responseShown s h c resp r) h c).pend = none := by
  rw [chainRun_of_fe _ ((keeps_responseShown ..).fe (by decide) h), pendingTaken, chainRun_setChain_same]

theorem chainRec_responseShown (s : State) (h : HalfId) (c resp : Nat) (r : ChainRec) :
    chainRec (responseShown s h c resp r) h c = chainRec s h c := by
  refine chainRec_of_image _ (((keeps_responseShown ..).image (by decide) h).trans ?_)
  simp [pendingTaken, setChain]

theorem respNow_responseShown (s : State) (h : HalfId) (c resp : Nat) {r : ChainRec} (himg : r.resp < 4) :
    respNow (responseShown s h c resp r) h c = resp % 2 ^ 8 := by
  refine Eq.trans (rd_wr_bank _ _ _ _ _ (a := 0x61044) (b := 0x61060) rfl rfl (by decide)) ?_
  rw [if_pos himg]
  exact respNow_putResp ..

theorem switched_responseShown (s : State) (h : HalfId) (c resp : Nat) (r : ChainRec) :
    rdB (responseShown s h c resp r) h (Reg.PCV_FLT_STAT_SWITCHED c) =
      ((chainRun s h c).pendKind == 1 && resp != r.resp) :=
  rdB_wrB_same _ _ (Reg.PCV_FLT_STAT_SWITCHED c) _ rfl (by decide : 15 < 32)

/-- The pending response takes effect and the chain restarts; the report and the record that follow leave the chain's
run and its bank. -/
theorem exec_responseSwitchBoundary_pending (hp : (chainRun s h c).pend = some resp) (hr : chainRec s h c = some r) :
    ∃ t, exec (.responseSwitchBoundary h c) s = .next t ∧
      (half t h).fe = (half (restartChain (responseShown s h c resp r) h c) h).fe ∧
      ∀ e, keyBlock e.key = 6 → e.key % 0x100000000 ≠ 0x61068 →
        rd t h e = rd (restartChain (responseShown s h c resp r) h c) h e := by
  rw [exec_responseSwitchBoundary, execResponseSwitchBoundary]
  simp only [hp, hr]
  refine ⟨_, rfl, ?_, fun e he ha => ?_⟩
  · simp only [apply_ite (fun t : State => (half t h).fe), fe_ledgerH, half_fltResult, ite_self]
    rfl
  · have hrecord (v : State) (ev : Nat) (bs : List Sys2Proof.Byte) : rd (ledgerH v h ev bs) h e = rd v h e :=
      (keeps_ledgerH_refl v h ev bs).rd h e (by rw [he]; decide) (by rw [he]; decide)
    simp only [apply_ite (rd · h e), hrecord, rd_fltResult_addr _ _ _ _ _ _ ha, ite_self]
    rfl

/-- After the boundary nothing is pending; the response in force and SWITCHED are those of the switch. -/
theorem responseSwitchBoundary_spec (hp : (chainRun s h c).pend = some resp) (hr : chainRec s h c = some r) :
    Completes (.responseSwitchBoundary h c) s fun t =>
      (chainRun t h c).pend = none ∧ (r.resp < 4 → respNow t h c = resp % 2 ^ 8) ∧
      rdB t h (Reg.PCV_FLT_STAT_SWITCHED c) = ((chainRun s h c).pendKind == 1 && resp != r.resp) := by
  obtain ⟨t, ht, hfe, hrd⟩ := exec_responseSwitchBoundary_pending hp hr
  obtain ⟨x, hx, hrun⟩ := half_restartChain ((chainRec_responseShown s h c resp r).trans hr)
  refine ⟨t, ht, ?_, fun himg => ?_, ?_⟩
  · rw [chainRun_of_fe c (hfe.trans (congrArg Half.fe hrun)), chainRun_setChain_same, hx, pend_responseShown]
  · calc respNow t h c
        = respNow (restartChain (responseShown s h c resp r) h c) h c :=
          hrd _ (keyBlock_bank 0x61044 c) (by simp [Reg.PCV_FLT_CFG_RESP_NOW])
      _ = respNow (responseShown s h c resp r) h c :=
          rd_restartChain_bank (a := 0x61044) _ h rfl (by decide) (by decide) (by decide : 16 ≤ 23)
            fun hc => absurd hc (by decide)
      _ = resp % 2 ^ 8 := respNow_responseShown s h c resp himg
  · rw [rdB, hrd _ (keyBlock_bank 0x61060 c) (by simp [Reg.PCV_FLT_STAT_SWITCHED]),
      rd_restartChain_bank (a := 0x61060) _ h rfl (by decide) (by decide) (Nat.le_refl _)
        (fun _ => (by decide : 7 < 15))]
    exact switched_responseShown s h c resp r

end Boundaries

/-! ### The registers of the selected chain (R258, R261) -/

section Latch

variable {s : State} {h : HalfId} {c : Nat} {r : ChainRec} {e : Fld}

/-- Up to PCV_FLT_OUT, the latch of chain `c` writes the chain's output alone. -/
theorem rd_fltLatch_selected (hsel : rd s h Reg.PCV_FLT_SEL_CHAIN = c) (hr : chainRec s h c = some r)
    (he : e.key % 0x100000000 ≤ 0x6104C) : rd (fltLatch s h) h e =
      rd (wr (wr s h (Reg.PCV_FLT_OUT_VALUE c) (chainWord s h c / 256)) h (Reg.PCV_FLT_OUT_QUALITY c)
        (chainWord s h c % 256)) h e := by
  have habove (t : State) (f : Fld) (v : Nat) (hf : 0x61050 ≤ f.key % 0x100000000) : rd (wr t h f v) h e = rd t h e :=
    rd_wr_addr _ _ _ _ _ _ (by omega)
  subst hsel
  simp only [fltLatch, hr]
  simp (disch := simp [Reg.PCV_FLT_OUT2_VALUE, Reg.PCV_FLT_OUT2_QUALITY, Reg.PCV_FLT_PEAK_VALUE,
    Reg.PCV_FLT_PEAK_QUALITY, Reg.PCV_FLT_RMS_VALUE, Reg.PCV_FLT_RMS_QUALITY, Reg.PCV_FLT_ENV_VALUE,
    Reg.PCV_FLT_ENV_QUALITY, Reg.PCV_FLT_STAT_SETTLE_REMAIN]) only [habove]

theorem rd_fltLatch_sel (s : State) (h : HalfId) :
    rd (fltLatch s h) h Reg.PCV_FLT_SEL_CHAIN = rd s h Reg.PCV_FLT_SEL_CHAIN := by
  cases hr : chainRec s h (rd s h Reg.PCV_FLT_SEL_CHAIN) with
  | none => simp only [fltLatch, hr]
  | some r =>
    rw [rd_fltLatch_selected rfl hr (by decide)]
    have hout (n : Nat) : Reg.PCV_FLT_SEL_CHAIN.key % 0x100000000 ≠ (0x6104C + n * 0x100000000) % 0x100000000 := by
      simp only [Reg.PCV_FLT_SEL_CHAIN]
      omega
    exact (rd_wr_addr _ _ _ _ _ _ (hout _)).trans (rd_wr_addr _ _ _ _ _ _ (hout _))

/-- PCV_FLT_OUT shows the output of the selected chain. -/
theorem fltLatch_out (hsel : rd s h Reg.PCV_FLT_SEL_CHAIN = c) (hr : chainRec s h c = some r) :
    rd (fltLatch s h) h (Reg.PCV_FLT_OUT_VALUE c) = chainWord s h c / 256 % 2 ^ 24 ∧
      rd (fltLatch s h) h (Reg.PCV_FLT_OUT_QUALITY c) = chainWord s h c % 256 := by
  have haddr : (0x6104C + c * 0x100000000) % 0x100000000 ≤ 0x6104C := by simp [Nat.add_mul_mod_self_right]
  rw [rd_fltLatch_selected hsel hr haddr, rd_fltLatch_selected hsel hr haddr]
  constructor
  · exact (rd_wr_disjoint _ _ (Reg.PCV_FLT_OUT_QUALITY c) (Reg.PCV_FLT_OUT_VALUE c) _ rfl (Nat.zero_le _)
        (by decide : 8 ≤ 31) (by decide : 7 < 32) (.inl (by decide : 7 < 8))).trans
      (rd_wr_same _ _ (Reg.PCV_FLT_OUT_VALUE c) _ (by decide : 8 ≤ 31) (by decide : 31 < 32))
  · exact rd_wr_same' _ _ (Reg.PCV_FLT_OUT_QUALITY c) _ (Nat.zero_le _) (by decide : 7 < 32) (Nat.mod_lt _ (by decide))

end Latch

/-! ### TEST injection (R247, R249, R270) -/

section Injection

variable {s : State} {h : HalfId} {n : Nat}

/-- PCV_INJ_STAT as a command reports: SEQ advances, STATUS and DETAIL are set. -/
def injReported (s : State) (h : HalfId) (st d : Nat) : State :=
  wr (wr (wrapInc s h Reg.PCV_INJ_STAT_SEQ) h Reg.PCV_INJ_STAT_STATUS st) h Reg.PCV_INJ_STAT_DETAIL d

@[simp] theorem half_injReported (s : State) (h g : HalfId) (st d : Nat) :
    half (injReported s h st d) g = half s g := by
  simp [injReported]

theorem rd_injReported_status (s : State) (h : HalfId) {st : Nat} (d : Nat) (hst : st < 2 ^ 8) :
    rd (injReported s h st d) h Reg.PCV_INJ_STAT_STATUS = st := by
  simp (disch := decide) only [injReported, rd_wr_disjoint]
  exact rd_wr_same' _ _ _ _ (by decide) (by decide) hst

theorem injStatus_lt (s : State) (h : HalfId) (n : Nat) : (injStatus s h n).1 < 2 ^ 8 := by
  unfold injStatus
  dsimp only
  repeat' split
  all_goals simp

theorem set_lt_of_injStatus (hst : (injStatus s h n).1 = 0x01) : n < 2 ^ 4 := by
  rcases Nat.lt_or_ge 15 n with hbig | hsmall
  · simp only [injStatus, hbig, if_true] at hst
    exact absurd hst (by decide)
  · omega

/-- Set `n` runs: ACTIVE and SET show it. -/
def injRunning (s : State) (h : HalfId) (n : Nat) (r : InjRun) : State :=
  wr (wrB (modFe s h fun f => { f with inj := some r }) h Reg.PCV_INJ_STAT_ACTIVE true) h Reg.PCV_INJ_STAT_SET n

/-- An accepted set runs; its start is recorded. -/
theorem injStart_accepted (tick t origin entry : Nat) (hst : (injStatus s h n).1 = 0x01) : ∃ r bs, r.set = n ∧
    injStart s h n tick t origin entry =
      ledgerH (injRunning (injReported s h 0x01 (injStatus s h n).2) h n r) h 0x0604 bs := by
  simp only [injStart, hst, ne_eq, not_true_eq_false, if_false]
  exact ⟨_, _, rfl, rfl⟩

theorem injStart_refused (tick t origin entry : Nat) (hst : (injStatus s h n).1 ≠ 0x01) :
    injStart s h n tick t origin entry = injReported s h (injStatus s h n).1 (injStatus s h n).2 := if_pos hst

/-- A Ledger record leaves PCV_INJ_STAT. -/
theorem rd_ledgerH_injStat (s : State) (h : HalfId) (ev : Nat) (bs : List Sys2Proof.Byte) {e : Fld}
    (he : e.key = 0x6107C) : rd (ledgerH s h ev bs) h e = rd s h e :=
  (keeps_ledgerH_refl s h ev bs).rd h e (by rw [he]; decide) (by rw [he]; decide)

theorem injRunning_spec (s : State) (h : HalfId) {n : Nat} (r : InjRun) (hn : n < 2 ^ 4) :
    rd (injRunning s h n r) h Reg.PCV_INJ_STAT_STATUS = rd s h Reg.PCV_INJ_STAT_STATUS ∧
    rdB (injRunning s h n r) h Reg.PCV_INJ_STAT_ACTIVE = true ∧ rd (injRunning s h n r) h Reg.PCV_INJ_STAT_SET = n ∧
    (half (injRunning s h n r) h).fe.inj = some r := by
  refine ⟨?_, ?_, rd_wr_same' _ _ _ _ (by decide) (by decide) hn, by simp [injRunning]⟩
  · simp (disch := decide) only [injRunning, rd_wr_disjoint, rd_wrB_disj, rd_modFe]
  · simp (disch := decide) only [injRunning, rdB, rd_wr_disjoint]
    exact rdB_wrB_same _ _ Reg.PCV_INJ_STAT_ACTIVE true rfl (by decide)

/-- What runs has ended: ACTIVE is off and STATUS reports DONE. -/
theorem injEnd_spec (hrun : (half s h).fe.inj.isSome = true) (cause : Nat) :
    rd (injEnd s h cause) h Reg.PCV_INJ_STAT_STATUS = 0x02 ∧ rdB (injEnd s h cause) h Reg.PCV_INJ_STAT_ACTIVE = false ∧
    (half (injEnd s h cause) h).fe.inj = none := by
  obtain ⟨r, hr⟩ := Option.isSome_iff_exists.mp hrun
  simp only [injEnd, hr, rdB, fe_ledgerH]
  rw [rd_ledgerH_injStat _ _ _ _ rfl, rd_ledgerH_injStat _ _ _ _ rfl]
  refine ⟨rd_wr_same' _ _ _ _ (by decide) (by decide) (by decide), ?_, by simp⟩
  simp (disch := decide) only [wrapInc, rd_wr_disjoint]
  exact rdB_wrB_same _ _ Reg.PCV_INJ_STAT_ACTIVE false rfl (by decide)

theorem exec_injStart_alive (hal : alive s h = true) (n : Nat) :
    exec (.injStart h n) s = .next (injStart s h n (s.ticks + 1) (now s + 8) 1 1) := by
  rw [exec_injStart, execInjStart, access_of_alive hal, injCmd, if_pos rfl]

theorem injCmd_stop (hmode : modeOf s h ≠ mBOOT) (hrun : (half s h).fe.inj.isSome = true) (n : Nat) :
    injCmd s h 2 n = injEnd (injReported s h 0x01 0) h 2 := by
  obtain ⟨r, hr⟩ := Option.isSome_iff_exists.mp hrun
  simp [injCmd, hmode, hr, injReported]

end Injection

/-! ### The commands of chains (R236, R247, R251, R252, R258, R266) -/

/-- Settles O40: a plain output by its stages with nothing in their place, a command by its status, a boundary by the
restart, the selector by its latch, injection by what it reports and runs. -/
theorem chainCommands : Obligations.ChainCommands := by
  refine ⟨fun h c r x re im older inst cyc sat s hr hnow himg hdet htest hcal hinj => ?_,
    fun h c resp s hal => ⟨fun hst => ?_, fun hst => ?_⟩, fun h c r s hal hr hpeak hmode => ?_,
    fun h c r resp s hp hr _ => responseSwitchBoundary_spec hp hr, fun h v s hal => ?_,
    fun h n s hal => ⟨fun hst => ?_, fun hst => ?_, fun hmode hrun => ?_⟩⟩
  · obtain ⟨u, ht, hout⟩ := exec_chainOutput_plain x re im older inst cyc sat hr hnow himg hdet ⟨htest, hcal, hinj⟩
    simp only [outputOf, Prod.mk.injEq] at hout
    exact ⟨_, ht, u, rfl, hout⟩
  · refine ⟨_, by rw [exec_fltSwitch, execFltSwitch, access_of_alive hal, fltCmd_switch_accepted hst], ?_⟩
    simp only [askSwitch, rd_setChain, chainRun_setChain_same, and_self, and_true]
    exact rd_fltResult_status _ _ _ _ _ (by decide)
  · refine ⟨_, by rw [exec_fltSwitch, execFltSwitch, access_of_alive hal, fltCmd_switch_refused hst], ?_, ?_⟩
    · exact rd_fltResult_status _ _ _ _ _ (switchStatus_lt s h c resp)
    · rw [half_fltResult]
  · refine ⟨_, by rw [exec_peakReset, execPeakReset, access_of_alive hal, fltCmd_peakReset hr hpeak hmode], ?_, ?_⟩
    · rw [rd_setChain]
      exact rd_fltResult_status _ _ _ _ _ (by decide)
    · rw [chainRun_setChain_same]
  · have hsel : rd (wr s h Reg.PCV_FLT_SEL_CHAIN v) h Reg.PCV_FLT_SEL_CHAIN = v % 2 ^ 8 :=
      rd_wr_same _ _ _ _ (by decide) (by decide)
    refine ⟨_, by rw [exec_pcvFltSelWrite, execPcvFltSelWrite, access_of_alive hal], (rd_fltLatch_sel ..).trans hsel,
      fun hv hrec => ?_⟩
    obtain ⟨r, hr⟩ := Option.isSome_iff_exists.mp hrec
    rw [Nat.mod_eq_of_lt (Nat.lt_trans hv (by decide))] at hsel
    have hout := fltLatch_out hsel ((chainRec_of_image v (by rw [half_wr])).trans hr)
    simpa only [chainWord, half_wr] using hout
  · obtain ⟨r, bs, hset, ht⟩ := injStart_accepted (s.ticks + 1) (now s + 8) 1 1 hst
    obtain ⟨hstatus, hactive, hshown, hruns⟩ :=
      injRunning_spec (injReported s h 0x01 (injStatus s h n).2) h r (set_lt_of_injStatus hst)
    refine ⟨_, (exec_injStart_alive hal n).trans (congrArg _ ht), ?_, ?_, ?_, r, ?_, hset⟩
    · rw [rd_ledgerH_injStat _ _ _ _ rfl, hstatus]
      exact rd_injReported_status _ _ _ (by decide)
    · rw [rdB, rd_ledgerH_injStat _ _ _ _ rfl]
      exact hactive
    · rw [rd_ledgerH_injStat _ _ _ _ rfl, hshown]
    · rw [fe_ledgerH, hruns]
  · refine ⟨_, (exec_injStart_alive hal n).trans (congrArg _ (injStart_refused _ _ _ _ hst)),
      rd_injReported_status _ _ _ (injStatus_lt s h n), by rw [half_injReported]⟩
  · refine ⟨_, by rw [exec_injStop, execInjStop, access_of_alive hal, injCmd_stop hmode hrun], injEnd_spec ?_ 2⟩
    rwa [half_injReported]

end Sys2Proof.Machine
end

section
/-!
PROOFS of the statement about the timers of general functions and the rotation of spare tiles.
-/

namespace Sys2Proof.Machine

open Sys2Proof (HalfId Instr)

/-- A command that completes with `P` completes with what `P` implies. -/
theorem Completes.imp {c : Instr} {s : State} {P Q : State → Prop} (hc : Completes c s P) (hpq : ∀ t, P t → Q t) :
    Completes c s Q := by
  obtain ⟨t, ht, hp⟩ := hc
  exact ⟨t, ht, hpq t hp⟩

/-! ### The deciding part of a half -/

section DecideRules

variable (s : State) (h g : HalfId) (d : Decide → Decide)

@[simp] theorem half_modDec_same : half (modDec s h d) h = { half s h with dec := d (half s h).dec } := by simp [modDec]
@[simp] theorem half_putBank (f : Nat → Fld) (i : Nat) (b : Bool) : half (putBank s h f i b) g = half s g := half_wrBit ..

@[simp] theorem dec_count (i n : Nat) : (half (count s h i n) g).dec = (half s g).dec :=
  (keeps_count h i n (by decide) (Keeps.refl 0x20000000000 s)).dec (by decide) g
@[simp] theorem dec_qPush (cls : Nat) (it : QItem) : (half (qPush s h cls it) g).dec = (half s g).dec :=
  (keeps_qPush h cls it (by decide) (Keeps.refl 0x200001200000 s)).dec (by decide) g
@[simp] theorem dec_ledger (src ev : Nat) (bs : List Sys2Proof.Byte) : (half (ledger s h src ev bs) g).dec = (half s g).dec :=
  (keeps_ledger h src ev bs (by decide) (Keeps.refl 0x10238401240000 s)).dec (by decide) g
@[simp] theorem dec_ledgerH (ev : Nat) (bs : List Sys2Proof.Byte) : (half (ledgerH s h ev bs) g).dec = (half s g).dec :=
  dec_ledger ..
@[simp] theorem dec_tallySet (k cause code ev : Nat) : (half (tallySet s h k cause code ev) g).dec = (half s g).dec :=
  (keeps_tallySet h k cause code ev (by decide) (Keeps.refl 0x1023C4012C0000 s)).dec (by decide) g
@[simp] theorem dec_publishChanges (p : PubRec → Bool) : (half (publishChanges s h p) g).dec = (half s g).dec :=
  (keeps_publishChanges h p (by decide) (Keeps.refl 0x10738401E40000 s)).dec (by decide) g
@[simp] theorem dec_signalVote : (half (signalVote s h) g).dec = (half s g).dec :=
  (keeps_signalVote h (by decide) (Keeps.refl 0x1023C5012C2800 s)).dec (by decide) g
@[simp] theorem dec_modAcq (f : Recorder → Recorder) : (half (modAcq s h f) g).dec = (half s g).dec :=
  (keeps_modAcq h f (by decide) (Keeps.refl 0x40000000000 s)).dec (by decide) g

end DecideRules

/-! ### What leaves the general functions as they are

A new decision and the edge triggers change the deciding part, but only its notes of records written and triggers due. -/

section GenStays

variable (s : State) (h : HalfId)

theorem genFn_of_gen {s t : State} {h : HalfId} (hgen : (half t h).dec.gen = (half s h).dec.gen) (k : Nat) :
    genFn t h k = genFn s h k := by
  simp only [genFn, hgen]

theorem gen_foldl {α : Type} (l : List α) (f : State → α → State)
    (hf : ∀ t a, (half (f t a) h).dec.gen = (half t h).dec.gen) :
    (half (l.foldl f s) h).dec.gen = (half s h).dec.gen := by
  induction l generalizing s with
  | nil => rfl
  | cons a l ih => exact (ih _).trans (hf s a)

@[simp] theorem gen_ledgerOnce (src ev : Nat) (mk : Nat → List Sys2Proof.Byte) :
    (half (ledgerOnce s h src ev mk) h).dec.gen = (half s h).dec.gen := by
  simp only [ledgerOnce]
  split <;> simp

@[simp] theorem gen_groupRise (n : Nat) : (half (groupRise s h n) h).dec.gen = (half s h).dec.gen := by
  simp only [groupRise, apply_ite (fun t : State => (half t h).dec.gen), half_modDec_same, dec_qPush, gen_ledgerOnce,
    dec_count, ite_self]

@[simp] theorem gen_decideOut : (half (decideOut s h) h).dec.gen = (half s h).dec.gen := by
  simp only [decideOut, dec_signalVote, dec_publishChanges]
  rw [gen_foldl]
  · simp only [half_wr]
  · intro t n
    split <;> simp

@[simp] theorem gen_fireTrigger (n inst : Nat) : (half (fireTrigger s h n inst) h).dec.gen = (half s h).dec.gen := by
  simp [fireTrigger]

@[simp] theorem gen_edgeTriggers : (half (edgeTriggers s h) h).dec.gen = (half s h).dec.gen := by
  refine gen_foldl _ _ _ _ fun t n => ?_
  dsimp only
  split
  · split <;> simp
  · rfl

@[simp] theorem genFn_decideOut (k : Nat) : genFn (decideOut s h) h k = genFn s h k := genFn_of_gen (gen_decideOut ..) k
@[simp] theorem genFn_edgeTriggers (k : Nat) : genFn (edgeTriggers s h) h k = genFn s h k :=
  genFn_of_gen (gen_edgeTriggers ..) k
@[simp] theorem genFn_ledgerH (ev : Nat) (bs : List Sys2Proof.Byte) (k : Nat) :
    genFn (ledgerH s h ev bs) h k = genFn s h k := genFn_of_gen (by rw [dec_ledgerH]) k

end GenStays

/-! ### Storing a general function (R315, R316) -/

section GenStore

variable (s : State) (h : HalfId) (k : Nat) (x : GenFn)

@[simp] theorem genFn_modDec_gen :
    genFn (modDec s h fun d => { d with gen := sset (fun _ => default) d.gen k x }) h k = x := by
  simp [genFn]

/-- Its registers and the record of its operation leave a stored function as it is. -/
@[simp] theorem genFn_genPut : genFn (genPut s h k x) h k = x := by
  refine (genFn_of_gen ?_ k).trans (genFn_modDec_gen s h k x)
  simp only [genPut]
  split <;> split <;> simp

@[simp] theorem waits_genOff : (genFn (genOff s h k) h k).waits = (genFn s h k).waits := by
  simp [genOff, genDrop]

@[simp] theorem waits_genUnusable (type inst : Nat) : (genFn (genUnusable s h k type inst x) h k).waits = x.waits := by
  simp only [genUnusable, genFn_genPut]
  split <;> rfl

theorem waits_genUsable (type inst : Nat) (quals : List Nat) {step : Nat → GenFn → GenFn}
    (hstep : ∀ dt x, (step dt x).waits = x.waits) :
    (genFn (genUsable s h k type inst quals step) h k).waits = (genFn s h k).waits := by
  simp [genUsable, hstep]

theorem waits_diffStep (preset inst qual : Nat) (xs : List Int) :
    (diffStep s h k preset inst qual xs x).waits = x.waits := by
  simp only [diffStep]
  split <;> rfl

end GenStore

/-! ### The waiting instants of a DIFF (R356) -/

section Waits

variable (s : State) (h : HalfId) (k : Nat) (ins : List Nat)

/-- However the oldest waiting instant is evaluated, it waits no longer and the others stay. -/
theorem waits_diffHead : (genFn (diffHead s h k ins) h k).waits = (genFn s h k).waits.tail := by
  cases hw : (genFn s h k).waits with
  | nil => simp only [diffHead, hw, List.tail_nil]
  | cons w rest =>
    simp only [diffHead, hw, List.tail_cons]
    split
    · rw [waits_genOff, genFn_modDec_gen]
    · split
      · rw [waits_genUnusable]
      · rw [waits_genUsable _ _ _ _ _ _ fun _ _ => waits_diffStep .., genFn_modDec_gen]

theorem waits_diffReady_length_le (n : Nat) :
    (genFn (diffReady s h k ins n) h k).waits.length ≤ (genFn s h k).waits.length := by
  induction n generalizing s with
  | zero => exact Nat.le_refl _
  | succ n ih =>
    simp only [diffReady]
    split
    · exact Nat.le_refl _
    · split
      · have hhead : (genFn (diffHead s h k ins) h k).waits.length ≤ (genFn s h k).waits.length := by
          rw [waits_diffHead, List.length_tail]
          exact Nat.sub_le ..
        exact Nat.le_trans (ih _) hhead
      · exact Nat.le_refl _

end Waits

/-! ### The timers of general functions (R315, R321, R356) -/

section GenTimers

variable {s : State} {h : HalfId} {k : Nat}

theorem freezeDrop_spec (hfrozen : (genFn s h k).frozen = true) :
    Completes (.freezeDrop h k) s fun t => genFn t h k = { genDrop (genFn s h k) with valid := false } := by
  rw [Completes, exec_freezeDrop, execFreezeDrop, if_pos hfrozen]
  exact ⟨_, rfl, by rw [genFn_decideOut, genFn_ledgerH, genFn_genPut]⟩

theorem definiteResetExpiry_spec (hreset : (genFn s h k).resetting = true) (hpu : (genFn s h k).pu = false) :
    Completes (.definiteResetExpiry h k) s fun t =>
      genFn t h k = { genFn s h k with resetting := false, g := 0, elapsed := 0 } := by
  have hruns : ((genFn s h k).resetting && !(genFn s h k).pu) = true := by simp [hreset, hpu]
  rw [Completes, exec_definiteResetExpiry, execDefiniteResetExpiry, if_pos hruns]
  exact ⟨_, rfl, genFn_genPut ..⟩

theorem alignWaitExpiry_spec {r : GenTileRec} (hr : genRec s h k = some r) (htype : r.type = 0xA)
    (hwaits : (genFn s h k).waits ≠ []) :
    Completes (.alignWaitExpiry h k) s fun t => (genFn t h k).waits.length < (genFn s h k).waits.length := by
  rw [Completes, exec_alignWaitExpiry, execAlignWaitExpiry]
  simp only [hr, if_pos (And.intro htype hwaits)]
  refine ⟨_, rfl, ?_⟩
  rw [genFn_edgeTriggers, genFn_decideOut]
  have hready := waits_diffReady_length_le (diffHead s h k r.inputs) h k r.inputs
    (genFn (diffHead s h k r.inputs) h k).waits.length
  have hhead : (genFn (diffHead s h k r.inputs) h k).waits.length < (genFn s h k).waits.length := by
    rw [waits_diffHead, List.length_tail]
    exact Nat.sub_lt (List.length_pos_iff.mpr hwaits) Nat.one_pos
  exact Nat.lt_of_le_of_lt hready hhead

end GenTimers

/-! ### The rotation of one kind of tile -/

section RotationRules

variable (s : State) (h : HalfId) (fast : Bool)

/-- What leaves the deciding part leaves both rotations. -/
theorem rotOf_of_keeps {m : Nat} {s t : State} (hk : Keeps m s t) (hm : m.testBit 49 = false) (h : HalfId)
    (fast : Bool) : rotOf t h fast = rotOf s h fast := by
  simp only [rotOf, hk.dec hm]

@[simp] theorem rotOf_modRot_same (f : Rotation → Rotation) :
    rotOf (modRot s h fast f) h fast = f (rotOf s h fast) := by
  cases fast <;> simp [rotOf, modRot]

@[simp] theorem rotOf_wr (e : Fld) (v : Nat) : rotOf (wr s h e v) h fast = rotOf s h fast := by simp [rotOf]
@[simp] theorem rotOf_wrB (e : Fld) (b : Bool) : rotOf (wrB s h e b) h fast = rotOf s h fast := by simp [rotOf]
@[simp] theorem rotOf_satAdd (e : Fld) (n : Nat) : rotOf (satAdd s h e n) h fast = rotOf s h fast := by simp [rotOf]
@[simp] theorem rotOf_ledgerH (ev : Nat) (bs : List Sys2Proof.Byte) :
    rotOf (ledgerH s h ev bs) h fast = rotOf s h fast := by simp [rotOf]
@[simp] theorem rotOf_tallySet (k cause code ev : Nat) :
    rotOf (tallySet s h k cause code ev) h fast = rotOf s h fast := by simp [rotOf]

@[simp] theorem rotOf_rotShow : rotOf (rotShow s h) h fast = rotOf s h fast :=
  rotOf_of_keeps (keeps_rotShow h (by decide) (Keeps.refl 0x200 s)) (by decide) h fast
@[simp] theorem rotOf_tileRole (t role slot : Nat) : rotOf (tileRole s h fast t role slot) h fast = rotOf s h fast :=
  rotOf_of_keeps (keeps_tileRole h fast t role slot (by decide) (Keeps.refl 0x600 s)) (by decide) h fast
@[simp] theorem rotOf_rotFail (t cause vector : Nat) : rotOf (rotFail s h fast t cause vector) h fast = rotOf s h fast :=
  rotOf_of_keeps (keeps_rotFail h fast t cause vector (by decide) (Keeps.refl 0x1023C4012C0600 s)) (by decide) h fast

/-- A comparison begins with the spare that has idled longest (R331). -/
theorem rotOf_rotBegin {tile : Nat} {rest : List Nat} (f : Nat) (hidle : (rotOf s h fast).idle = tile :: rest) :
    rotOf (rotBegin s h fast f) h fast = { rotOf s h fast with
      idle := rest, now := some (f, tile, false), next := f + 1
      passAt := if (rotOf s h fast).passAt = 0 then s.ticks + 1 else (rotOf s h fast).passAt } := by
  simp only [rotBegin, hidle, rotOf_rotShow, rotOf_tileRole, rotOf_modRot_same]

/-- With or without a spare, the beginning of a comparison sends no tile to test. -/
@[simp] theorem kat_rotBegin (f : Nat) : (rotOf (rotBegin s h fast f) h fast).kat = (rotOf s h fast).kat := by
  cases hidle : (rotOf s h fast).idle with
  | nil =>
    simp only [rotBegin, hidle, rotEmpty]
    split <;> simp
  | cons tile rest => rw [rotOf_rotBegin s h fast f hidle]

/-- The count of functions covered leaves the hosts, the handover under way and the tests (R332). -/
theorem rotCovered_handover : (rotOf (rotCovered s h fast) h fast).host = (rotOf s h fast).host ∧
    (rotOf (rotCovered s h fast) h fast).now = (rotOf s h fast).now ∧
    (rotOf (rotCovered s h fast) h fast).kat = (rotOf s h fast).kat := by
  simp only [rotCovered]
  split
  · simp
  · split <;> simp

/-- The spare hosts the function, no handover is under way, and the old tile is under test unless it failed
(R331, R333). -/
theorem rotTake_handover (f spare : Nat) (fails : Bool) :
    nget (rotOf (rotTake s h fast f spare fails) h fast).host f = spare + 1 ∧
    (rotOf (rotTake s h fast f spare fails) h fast).now = none ∧
    (rotOf (rotTake s h fast f spare fails) h fast).kat = if fails then (rotOf s h fast).kat
      else nset (rotOf s h fast).kat (nget (rotOf s h fast).host f - 1) 1 := by
  simp only [rotTake, rotOf_rotShow, rotCovered_handover, apply_ite (rotOf · h fast), rotOf_rotFail, rotOf_tileRole,
    rotOf_wr, rotOf_modRot_same, ite_self, nget_nset_same, and_self]

theorem rotEnable_of_enabled {s : State} {h : HalfId} (hen : rdB s h Reg.FAB_ROT_CTRL_EN = true)
    (hon : (rotOf s h false).disabled = false) : rotEnable s h = s := by
  simp [rotEnable, hen, hon]

end RotationRules

/-! ### The commands of the rotation (R331 to R333) -/

section RotationCommands

variable {s : State} {h : HalfId} {fast : Bool} {f spare tile : Nat} {rest : List Nat}

theorem rotationHandoverStart_spec (hruns : rotRuns s h = true) (hen : rdB s h Reg.FAB_ROT_CTRL_EN = true)
    (hon : (rotOf s h false).disabled = false) (hkind : (rotOf s h fast).disabled = false)
    (hnow : (rotOf s h fast).now = none) (hnext : rotNext (rotFns s h fast) (rotOf s h fast).next = some f)
    (hheld : rotHeld s h fast f = false) (hidle : (rotOf s h fast).idle = tile :: rest) :
    Completes (.rotationHandoverStart h fast) s fun t =>
      (rotOf t h fast).now = some (f, tile, false) ∧ (rotOf t h fast).idle = rest := by
  refine ⟨rotBegin s h fast f, ?_, by simp [rotOf_rotBegin s h fast f hidle]⟩
  simp [exec_rotationHandoverStart, execRotationHandoverStart, hruns, rotEnable_of_enabled hen hon, hkind, hnow, hnext,
    hheld]

theorem exec_comparisonComplete_agrees {again : Bool} (hnow : (rotOf s h fast).now = some (f, spare, again))
    (hkat : nget (rotOf s h fast).kat spare = 0) (hheld : rotHeld s h fast f = false) :
    exec (.comparisonComplete h fast none) s = .next (rotTake s h fast f spare false) := by
  simp [exec_comparisonComplete, execComparisonComplete, hnow, hkat, hheld]

/-- A first difference sends the spare to its test; the handover stays under way (R333). -/
theorem comparisonComplete_first (item : Nat) (hnow : (rotOf s h fast).now = some (f, spare, false))
    (hkat : nget (rotOf s h fast).kat spare = 0) :
    Completes (.comparisonComplete h fast (some item)) s fun t =>
      rotOf t h fast = { rotOf s h fast with kat := nset (rotOf s h fast).kat spare 2 } := by
  rw [Completes, exec_comparisonComplete, execComparisonComplete]
  simp only [hnow, hkat, ne_eq, not_true_eq_false, if_false, Bool.false_eq_true]
  exact ⟨_, rfl, by simp only [rotOf_ledgerH, rotOf_satAdd, rotOf_tileRole, rotOf_modRot_same, hnow]⟩

theorem exec_comparisonComplete_second (item : Nat) (hnow : (rotOf s h fast).now = some (f, spare, true))
    (hkat : nget (rotOf s h fast).kat spare = 0) :
    exec (.comparisonComplete h fast (some item)) s = .next (rotTake s h fast f spare true) := by
  simp [exec_comparisonComplete, execComparisonComplete, hnow, hkat]

/-- The test of a freed tile has ended: a passed tile is the last of the idle spares (R331). -/
theorem katComplete_freed (ok : Bool) (vector : Nat) (hwhy : nget (rotOf s h fast).kat tile = 1) :
    Completes (.katComplete h fast tile ok vector) s fun t =>
      (rotOf t h fast).kat = nset (rotOf s h fast).kat tile 0 ∧
      (ok = true → (rotOf t h fast).idle = (rotOf s h fast).idle ++ [tile]) := by
  rw [Completes, exec_katComplete, execKatComplete]
  simp only [hwhy, Nat.one_ne_zero, if_false, if_true]
  refine ⟨_, rfl, ?_⟩
  cases ok with
  | false => simp
  | true => simp [apply_ite (rotOf · h fast)]

/-- The test after a first difference has ended: a passed spare compares once more (R333). -/
theorem katComplete_compared (ok : Bool) (vector : Nat) (hwhy0 : nget (rotOf s h fast).kat tile ≠ 0)
    (hwhy : nget (rotOf s h fast).kat tile ≠ 1) :
    Completes (.katComplete h fast tile ok vector) s fun t =>
      (rotOf t h fast).kat = nset (rotOf s h fast).kat tile 0 ∧
      ∀ f sp ag, ok = true → (rotOf s h fast).now = some (f, sp, ag) → (rotOf t h fast).now = some (f, tile, true) := by
  rw [Completes, exec_katComplete, execKatComplete]
  simp only [hwhy0, hwhy, if_false]
  cases hnow : (rotOf s h fast).now with
  | none => exact ⟨_, rfl, by simp⟩
  | some p =>
    obtain ⟨f, sp, ag⟩ := p
    refine ⟨_, rfl, ?_⟩
    cases ok <;> simp

/-- The record of a late pass and its Tally cause leave ROT_STAT (R332). -/
theorem rotLate_spec (hat : (rotOf s h fast).passAt ≠ 0) (hlate : (rotOf s h fast).late = false)
    (hover : (rotOf s h fast).passAt + 112500000000 < s.ticks + 1) :
    Completes (.rotLate h fast) s fun t => (rotOf t h fast).late = true ∧ rdB t h Reg.FAB_ROT_STAT_LATE = true := by
  have hnot : ¬((rotOf s h fast).passAt = 0 ∨ (rotOf s h fast).late = true ∨
      s.ticks + 1 ≤ (rotOf s h fast).passAt + 112500000000) := by
    simp only [hat, hlate, Bool.false_eq_true, false_or]
    omega
  rw [Completes, exec_rotLate, execRotLate, if_neg hnot]
  refine ⟨_, rfl, by simp, ?_⟩
  rw [(keeps_tallySet h _ _ _ _ (by decide) (keeps_ledgerH h _ _ (by decide)
    (Keeps.refl 0x1023C4012C0000 _))).rdB h Reg.FAB_ROT_STAT_LATE (by decide) (by decide)]
  exact rdB_wrB_same _ _ Reg.FAB_ROT_STAT_LATE true rfl (by decide)

end RotationCommands

/-! ### The commands together (R331 to R335) -/

/-- Settles O41: a timer by the function it stores, a command of the rotation by the rotation it leaves. -/
theorem generalAndRotationCommands : Obligations.GeneralAndRotationCommands := by
  refine ⟨fun h k s hfrozen => ?_, fun h k s hreset hpu => definiteResetExpiry_spec hreset hpu,
    fun h k r s hr htype hwaits => alignWaitExpiry_spec hr htype hwaits,
    fun h fast f tile rest s hruns hen hon hkind hnow hnext hheld hidle =>
      rotationHandoverStart_spec hruns hen hon hkind hnow hnext hheld hidle,
    fun h fast f spare again s hnow hkat => ⟨fun hheld => ?_, fun item hfirst => ?_, fun item hsecond => ?_⟩,
    fun h fast tile ok vector s hwhy0 => ?_, fun h fast s hat hlate hover => rotLate_spec hat hlate hover⟩
  · exact (freezeDrop_spec hfrozen).imp fun t ht => by simp [ht, genDrop]
  · obtain ⟨hhost, hdone, htest⟩ := rotTake_handover s h fast f spare false
    refine ⟨_, exec_comparisonComplete_agrees hnow hkat hheld, hhost, hdone, ?_⟩
    rw [htest, if_neg (by decide), nget_nset_same]
  · subst hfirst
    exact (comparisonComplete_first item hnow hkat).imp fun t ht => by simp [ht, hnow]
  · subst hsecond
    obtain ⟨hhost, hdone, -⟩ := rotTake_handover s h fast f spare true
    exact ⟨_, exec_comparisonComplete_second item hnow hkat, hhost, hdone⟩
  · by_cases hwhy : nget (rotOf s h fast).kat tile = 1
    · refine (katComplete_freed ok vector hwhy).imp fun t ⟨htest, hidle⟩ => ⟨?_, fun _ => hidle, fun _ _ _ hne => ?_⟩
      · rw [htest, nget_nset_same]
      · exact absurd hwhy hne
    · refine (katComplete_compared ok vector hwhy0 hwhy).imp fun t ⟨htest, hagain⟩ =>
        ⟨?_, fun heq => absurd heq hwhy, fun f sp ag _ => hagain f sp ag⟩
      rw [htest, nget_nset_same]

end Sys2Proof.Machine
end

section
/-!
PROOFS of the statement about light, its level and baseline, the supervision codes and the ARC commands.
-/

namespace Sys2Proof.Machine

open Sys2Proof (HalfId Instr)

/-! ### Folds over channels and halves -/

section Folds

variable {α β : Type} {f : State → α → State}

/-- What each step of a fold leaves, the fold leaves. -/
theorem foldl_unchanged (p : State → β) (hf : ∀ t a, p (f t a) = p t) (l : List α) (s : State) :
    p (l.foldl f s) = p s := by
  induction l generalizing s with
  | nil => rfl
  | cons a l ih => exact (ih _).trans (hf s a)

/-- What each step of a fold keeps, the fold keeps. -/
theorem foldl_keeps {P : State → Prop} (hP : ∀ t a, P t → P (f t a)) (l : List α) {s : State} (hs : P s) :
    P (l.foldl f s) := by
  induction l generalizing s with
  | nil => exact hs
  | cons a l ih => exact ih (hP s a hs)

/-- What the step of one member establishes and every step keeps holds after the fold. -/
theorem foldl_establishes {I P : State → Prop} {a : α} (hI : ∀ t b, I t → I (f t b)) (hset : ∀ t, I t → P (f t a))
    (hP : ∀ t b, P t → P (f t b)) {l : List α} (ha : a ∈ l) {s : State} (hs : I s) : P (l.foldl f s) := by
  induction l generalizing s with
  | nil => cases ha
  | cons b l ih =>
    rcases List.mem_cons.mp ha with rfl | hmem
    · exact foldl_keeps hP l (hset s hs)
    · exact ih hmem (hI s b hs)

end Folds

/-! ### The receivers beside their registers (R376 to R386) -/

section Receivers

variable {s t : State} {m n k : Nat} (f : ArcRx → ArcRx)

@[simp] theorem arcRx_modRx_same (s : State) (n : Nat) : arcRx (modRx s n f) n = f (arcRx s n) := by
  simp [arcRx, modRx, modIo, smod]

theorem arcRx_modRx_ne (s : State) (hk : k ≠ n) : arcRx (modRx s n f) k = arcRx s k := by
  simp [arcRx, modRx, modIo, smod, sget_sset_other _ _ _ _ _ hk]

@[simp] theorem word_modRx (s : State) (n : Nat) (g : HalfId) (a : Nat) : word (modRx s n f) g a = word s g a := rfl
@[simp] theorem rd_modRx (s : State) (n : Nat) (g : HalfId) (e : Fld) : rd (modRx s n f) g e = rd s g e := rfl

theorem arcRx_of_rx (hrx : t.field.io.rx = s.field.io.rx) (n : Nat) : arcRx t n = arcRx s n := by
  simp only [arcRx, hrx]

theorem arcRx_of_keeps (hk : Keeps m s t) (hm : m.testBit 32 = false) (n : Nat) : arcRx t n = arcRx s n :=
  arcRx_of_rx (congrArg FieldIo.rx (hk.io hm)) n

end Receivers

/-! ### Outputs and decisions leave the receivers -/

section ReceiversStay

variable (s : State) (h : HalfId)

@[simp] theorem io_doBall (n : Nat) : (doBall s n).field.io = s.field.io := rfl
@[simp] theorem io_doDiag (n k : Nat) (on : Bool) : (doDiag s n k on).field.io = s.field.io :=
  (keeps_doDiag n k on (by decide) (Keeps.refl 0x1023C4012C2000 s)).io (by decide)
@[simp] theorem io_doClear (n k : Nat) : (doClear s n k).field.io = s.field.io :=
  (keeps_doClear n k (by decide) (Keeps.refl 0x1023C4012C2000 s)).io (by decide)
@[simp] theorem io_count (i n : Nat) : (count s h i n).field.io = s.field.io := (keepsOf_count h i n).io (by decide)
@[simp] theorem io_countFto (rise : Nat) : (countFto s rise).field.io = s.field.io :=
  (keeps_countFto rise (by decide) (Keeps.refl 0x20000000000 s)).io (by decide)
@[simp] theorem io_groupRise (g : Nat) : (groupRise s h g).field.io = s.field.io :=
  (keeps_groupRise h g (by decide) (Keeps.refl 0x12238401240000 s)).io (by decide)
@[simp] theorem io_publishChanges (p : PubRec → Bool) : (publishChanges s h p).field.io = s.field.io :=
  (keeps_publishChanges h p (by decide) (Keeps.refl 0x10738401E40000 s)).io (by decide)
@[simp] theorem io_edgeTriggers : (edgeTriggers s h).field.io = s.field.io :=
  (keeps_edgeTriggers h (by decide) (Keeps.refl 0x2040000008000 s)).io (by decide)
@[simp] theorem io_arcEvalAll : (arcEvalAll s h).field.io = s.field.io :=
  (keeps_arcEvalAll h (by decide) (Keeps.refl 0x12238401241000 s)).io (by decide)

@[simp] theorem rx_setDo (n : Nat) (v : Bool) : (setDo s n v).field.io.rx = s.field.io.rx := by
  have hcounts (t : State) (hs : List HalfId) : (hs.foldl (fun s h => count s h (0x184 + n)) t).field.io = t.field.io :=
    foldl_unchanged (fun t => t.field.io) (fun t h => io_count t h _ _) hs t
  simp only [setDo]
  split
  · rfl
  · cases v <;> simp [modIo, apply_ite (fun t : State => t.field.io), hcounts]

@[simp] theorem rx_cells : (cells s).field.io.rx = s.field.io.rx := by
  simp only [cells, setDos]
  rw [foldl_unchanged (fun t => t.field.io.rx)]
  · simp
  · intro t n
    split <;> simp

@[simp] theorem rx_signalVote : (signalVote s h).field.io.rx = s.field.io.rx := by
  cases h <;> simp [signalVote, modIo]

@[simp] theorem rx_decideOut : (decideOut s h).field.io.rx = s.field.io.rx := by
  simp only [decideOut, rx_signalVote, io_publishChanges]
  rw [foldl_unchanged (fun t => t.field.io.rx)]
  · simp
  · intro t n
    split <;> simp

/-- A change of light leaves the receivers: it acts on elements, matrices and outputs. -/
@[simp] theorem rx_lightChange : (lightChange s).field.io.rx = s.field.io.rx := by
  refine foldl_unchanged (fun t => t.field.io.rx) (fun t h => ?_) _ s
  split <;> simp

end ReceiversStay

/-! ### The registers of ARC (R402) -/

/-- A register of ARC that the field die holds: every one but ARC_ELEM, which each half holds of its own. -/
structure ArcKey (k : Nat) : Prop where
  ge : 0xC0000 ≤ k
  lt : k < 0xD0000
  ne_elem : k ≠ 0xC0040

theorem arcKey_light : ArcKey 0xC0010 := by constructor <;> decide
theorem arcKey_amb : ArcKey 0xC001C := by constructor <;> decide
theorem arcKey_result : ArcKey 0xC0024 := by constructor <;> decide

/-- The key of a register of channel `n`, of those that repeat for each channel. -/
theorem channelKey_eq {b n : Nat} (hn : n ≤ 15) : instKey b 32 16 n = b + n * 32 := if_pos (by omega)

theorem arcKey_channel {b n : Nat} (hb : 0xC0100 ≤ b) (hb' : b ≤ 0xC0114) (hn : n ≤ 15) :
    ArcKey (instKey b 32 16 n) := by
  rw [channelKey_eq hn]
  constructor <;> omega

/-- A number past the last channel names no register. -/
theorem channelKey_le {b : Nat} (hb : b ≤ 0xC0114) (n : Nat) : instKey b 32 16 n ≤ nowhere := by
  unfold instKey nowhere
  split <;> omega

theorem channelKey_ge {b : Nat} (hb : 0xC0100 ≤ b) (n : Nat) : 0xC0100 ≤ instKey b 32 16 n := by
  unfold instKey nowhere
  split <;> omega

/-- Another channel has its registers at other addresses. -/
theorem channelKey_ne {b n m : Nat} (hb' : b ≤ 0xC0114) (hn : n ≤ 15) (hm : n ≠ m) :
    instKey b 32 16 n ≠ instKey b 32 16 m := by
  rw [channelKey_eq hn]
  unfold instKey nowhere
  split <;> omega

theorem cstat_le (n b : Nat) : (cstatBit n b).key ≤ nowhere := channelKey_le (by decide) n
theorem cstat_ge (n b : Nat) : 0xC0100 ≤ (cstatBit n b).key := channelKey_ge (by decide) n

section ArcRegisters

variable {m k n : Nat} {s t : State} {g h : HalfId} {f e : Fld}

theorem ArcKey.block (hk : ArcKey k) : keyBlock k = 12 := by
  have hge := hk.ge
  have hlt := hk.lt
  unfold keyBlock
  omega

/-- What leaves the block of ARC leaves each of its registers. -/
theorem ArcKey.word_of_keeps (hk : ArcKey k) (hs : Keeps m s t) (hm : m.testBit 12 = false) : word t g k = word s g k :=
  hs.word g k (by rw [hk.block]; decide) (by rw [hk.block]; exact hm)

/-- A write to another register of ARC, or to a key that no register has, leaves a register of ARC. -/
theorem ArcKey.word_wr (hk : ArcKey k) (v : Nat) (hf : f.key ≤ nowhere) (hne : k ≠ f.key) :
    word (wr s h f v) g k = word s g k := by
  have hlt := hk.lt
  refine word_wr_ne _ _ _ _ _ _ (regKey_ne _ _ _ _ ?_)
  unfold nowhere at hf
  omega

theorem ArcKey.word_tallyAll (hk : ArcKey k) (cause code ev : Nat) :
    word (tallyAll s 5 cause code ev) g k = word s g k :=
  hk.word_of_keeps (keeps_tallyAll 5 cause code ev (by decide) (Keeps.refl 0x1023C4012C0000 s)) (by decide)

/-- A flag of a channel changes ARC_CSTAT of the channel and the sums ARC_SUP and ARC_AMB alone. -/
theorem ArcKey.word_putFlag (hk : ArcKey k) (b : Nat) (on : Bool) (hc : k ≠ (cstatBit n b).key) (hsup : k ≠ 0xC0018)
    (hamb : k ≠ 0xC001C) : word (putFlag s n b on) g k = word s g k := by
  have hflag : word (wrB s .a (cstatBit n b) on) g k = word s g k := hk.word_wr _ (cstat_le n b) hc
  have hsum (e : Fld) (v : Bool) (he : e.key ≤ nowhere) (hne : k ≠ e.key) :
      word (wrBit (wrB s .a (cstatBit n b) on) .a e n v) g k = word s g k := (hk.word_wr _ he hne).trans hflag
  simp only [putFlag, apply_ite (fun t : State => word t g k), hk.word_tallyAll, hflag,
    hsum Reg.ARC_SUP_FAIL on (by decide) hsup, hsum Reg.ARC_SUP_OBSC on (by decide) hsup,
    hsum Reg.ARC_AMB_AMB on (by decide) hamb, ite_self]

theorem ArcKey.word_ledgerField (hk : ArcKey k) (ev : Nat) (bs : List Sys2Proof.Byte) :
    word (ledgerField s ev bs) g k = word s g k :=
  hk.word_of_keeps (keeps_ledgerField ev bs (by decide) (Keeps.refl 0x10238401240000 s)) (by decide)

end ArcRegisters

/-! ### What a half decides, apart from its notes

Records written and triggers due are notes: an event and a new decision change nothing else of the deciding part. -/

section Notes

variable {β : Type} {p : Decide → β} (hp : ∀ d once due, p { d with once := once, due := due } = p d) (s : State)
  (h : HalfId)

include hp

theorem dec_ledgerOnce_noted (src ev : Nat) (mk : Nat → List Sys2Proof.Byte) :
    p (half (ledgerOnce s h src ev mk) h).dec = p (half s h).dec := by
  simp only [ledgerOnce]
  split
  · simp only [dec_ledger, half_modDec_same]
    exact hp ..
  · simp only [half_modDec_same]
    exact hp ..

theorem dec_groupRise_noted (n : Nat) : p (half (groupRise s h n) h).dec = p (half s h).dec := by
  have hdue (d : Decide) (due : List (Nat × Nat × Nat × Nat)) : p { d with due := due } = p d := hp ..
  simp only [groupRise, apply_ite (fun t : State => p (half t h).dec), half_modDec_same, hdue, dec_qPush,
    dec_ledgerOnce_noted hp, dec_count, ite_self]

theorem dec_decideOut_noted : p (half (decideOut s h) h).dec = p (half s h).dec := by
  simp only [decideOut, dec_signalVote, dec_publishChanges]
  rw [foldl_unchanged (fun t => p (half t h).dec)]
  · simp only [half_wr]
  · intro t n
    split
    · exact dec_groupRise_noted hp t h n
    · rfl

theorem dec_fireTrigger_noted (n inst : Nat) : p (half (fireTrigger s h n inst) h).dec = p (half s h).dec := by
  simp only [fireTrigger, half_modDec_same, half_wrBit]
  exact hp ..

theorem dec_edgeTriggers_noted : p (half (edgeTriggers s h) h).dec = p (half s h).dec := by
  refine foldl_unchanged (fun t => p (half t h).dec) (fun t n => ?_) _ s
  dsimp only
  split
  · split
    · rw [dec_fireTrigger_noted hp, dec_modAcq]
    · rw [dec_modAcq]
  · rfl

end Notes

/-! ### The arc elements of a half (R388, R389) -/

section Elements

variable (s : State) (h : HalfId) (n : Nat)

/-- Element `n` becomes `e`, and ARC_ELEM shows it. -/
def elemShown (e : ArcElem) (inv : Bool) : State :=
  wrBit (wrBit (modDec s h fun d => { d with arc := sset (fun _ => default) d.arc n e }) h Reg.ARC_ELEM_OP n e.op) h
    Reg.ARC_ELEM_INV n inv

@[simp] theorem arcElem_elemShown (e : ArcElem) (inv : Bool) : arcElem (elemShown s h n e inv) h n = e := by
  simp [arcElem, elemShown]

/-- An evaluation changes what the element gives and since when, not its stretches; an operation is counted, recorded
and queued. -/
theorem arcEval_eq : ∃ op pu start inv,
    Keeps 0x12238401240000 (elemShown s h n { arcElem s h n with op := op, pu := pu, start := start } inv)
        (arcEval s h n) ∧
      (half (arcEval s h n) h).dec.arc =
        (half (elemShown s h n { arcElem s h n with op := op, pu := pu, start := start } inv) h).dec.arc := by
  unfold arcEval elemShown
  dsimp only
  refine ⟨_, _, _, _, keeps_ite _ (keeps_qPush h _ _ (by decide) (keeps_ledgerOnce h _ _ _ (by decide)
    (keeps_count h _ _ (by decide) (Keeps.refl ..)))) (Keeps.refl ..), ?_⟩
  simp only [apply_ite (fun t : State => (half t h).dec.arc), dec_qPush,
    dec_ledgerOnce_noted (p := Decide.arc) fun _ _ _ => rfl, dec_count, ite_self]

/-- A new decision and the edge triggers leave the elements. -/
theorem arcElem_decided (t : State) : arcElem (edgeTriggers (decideOut t h) h) h n = arcElem t h n := by
  simp only [arcElem, dec_edgeTriggers_noted (p := Decide.arc) fun _ _ _ => rfl,
    dec_decideOut_noted (p := Decide.arc) fun _ _ _ => rfl]

/-- An evaluation leaves the stretches of the element. -/
theorem arcEval_stretches : (arcElem (arcEval s h n) h n).lightExt = (arcElem s h n).lightExt ∧
    (arcElem (arcEval s h n) h n).qExt = (arcElem s h n).qExt ∧
    (arcElem (arcEval s h n) h n).aExt = (arcElem s h n).aExt ∧
    (arcElem (arcEval s h n) h n).bExt = (arcElem s h n).bExt := by
  obtain ⟨op, pu, start, inv, -, helems⟩ := arcEval_eq s h n
  have he : arcElem (arcEval s h n) h n = { arcElem s h n with op := op, pu := pu, start := start } :=
    (congrArg (fun m => sget (fun _ => default) m n) helems).trans (arcElem_elemShown ..)
  simp only [he, and_self]

end Elements

/-! ### A change of light (R388, R389) -/

section LightChange

variable {k : Nat} {s : State} {g h : HalfId}

theorem ArcKey.word_arcEval (hk : ArcKey k) (n : Nat) : word (arcEval s h n) g k = word s g k := by
  obtain ⟨op, pu, start, inv, hnoted, -⟩ := arcEval_eq s h n
  have helem (e : Fld) (he : e.key = 0xC0040) (t : State) (v : Bool) : word (wrBit t h e n v) g k = word t g k :=
    hk.word_wr _ (by rw [he]; decide) (by rw [he]; exact hk.ne_elem)
  rw [hk.word_of_keeps hnoted (by decide), elemShown, helem Reg.ARC_ELEM_INV rfl, helem Reg.ARC_ELEM_OP rfl, modDec,
    word_setHalf]

theorem ArcKey.word_arcEvalAll (hk : ArcKey k) : word (arcEvalAll s h) g k = word s g k := by
  unfold arcEvalAll
  split
  · exact foldl_unchanged (fun t => word t g k) (fun t n => hk.word_arcEval n) _ s
  · rfl

/-- A change of light leaves the field die's registers of ARC. -/
theorem ArcKey.word_lightChange (hk : ArcKey k) : word (lightChange s) g k = word s g k := by
  refine foldl_unchanged (fun t => word t g k) (fun t h => ?_) _ s
  split
  · rfl
  · calc word (edgeTriggers (decideOut (arcEvalAll t h) h) h) g k
        = word (arcEvalAll t h) g k :=
          hk.word_of_keeps (keeps_edgeTriggers h (by decide) (keeps_decideOut h (by decide)
            (Keeps.refl (0x1273C501EC2C00 ||| 0x2040000008000) _))) (by decide)
      _ = word t g k := hk.word_arcEvalAll

theorem ArcKey.word_noteLight (hk : ArcKey k) (n : Nat) : word (noteLight s n) g k = word s g k :=
  hk.word_of_keeps (keeps_noteLight n (by decide) (Keeps.refl 0x2000000000000 s)) (by decide)

theorem ArcKey.word_elemFaults (hk : ArcKey k) (n : Nat) (hs : List HalfId) :
    word (elemFaults s n hs) g k = word s g k :=
  hk.word_of_keeps (keeps_elemFaults n hs (by decide) (Keeps.refl 0x1223C4012C0000 s)) (by decide)

end LightChange

/-! ### Flags of a channel (R378, R387, R402) -/

section Flags

variable {s t : State} {g h : HalfId} {k n : Nat} {e f : Fld}

theorem rd_of_word_eq (hw : word t g e.key = word s g e.key) : rd t g e = rd s g e := by
  simp only [rd, hw]

theorem rd_wrBit_disj (i : Nat) (b : Bool) (hk : e.key = f.key) (hl : f.lo ≤ f.hi) (hl' : e.lo ≤ e.hi) (hh : f.hi < 32)
    (hd : f.hi < e.lo ∨ e.hi < f.lo) : rd (wrBit s h f i b) h e = rd s h e :=
  rd_wr_disjoint s h f e _ hk hl hl' hh hd

theorem cstat_key (hn : n ≤ 15) (b : Nat) : (cstatBit n b).key = 0xC010C + n * 32 := channelKey_eq hn

/-- A flag shows what it was set to. -/
theorem rdB_putFlag_same {b : Nat} (on : Bool) (hn : n ≤ 15) (hb : b < 32) :
    rdB (putFlag s n b on) .a (cstatBit n b) = on := by
  have hk : ArcKey (cstatBit n b).key := arcKey_channel (by decide) (by decide) hn
  have hflag : rd (wrB s .a (cstatBit n b) on) .a (cstatBit n b) = b2n on := by
    rw [wrB, rd_wr_same _ _ _ _ (Nat.le_refl b) hb,
      show (cstatBit n b).hi + 1 - (cstatBit n b).lo = 1 by simp [cstatBit]]
    cases on <;> rfl
  have hsum (t : State) (e : Fld) (he : e.key < 0xC0020) :
      rd (wrBit t .a e n on) .a (cstatBit n b) = rd t .a (cstatBit n b) :=
    rd_wrBit_addr _ _ _ _ _ _ _ (by rw [cstat_key hn]; omega)
  have htally (t : State) (cause code ev : Nat) :
      rd (tallyAll t 5 cause code ev) .a (cstatBit n b) = rd t .a (cstatBit n b) :=
    rd_of_word_eq (hk.word_tallyAll ..)
  simp only [rdB, putFlag, apply_ite (fun t : State => rd t .a (cstatBit n b)), htally,
    hsum _ Reg.ARC_SUP_FAIL (by decide), hsum _ Reg.ARC_SUP_OBSC (by decide), hsum _ Reg.ARC_AMB_AMB (by decide),
    hflag, ite_self]
  cases on <;> rfl

/-- AMBIENT_HIGH of another value changes the flag, with a record. -/
theorem ambient_of_ne (cause us : Nat) {on : Bool} (hch : rdB s .a (cstatBit n 1) ≠ on) :
    ambient s n cause us on = ledgerField (putFlag s n 1 on) 0x0A04 (p4s [n, cause, us, if on then 1 else 2]) := by
  rw [ambient, if_neg (by simpa using hch)]

theorem ambient_of_eq (cause us : Nat) {on : Bool} (hsame : rdB s .a (cstatBit n 1) = on) :
    ambient s n cause us on = s := by
  rw [ambient, if_pos (by simpa using hsame)]

/-- AMBIENT_HIGH shows what it was set to. -/
theorem rdB_ambient (cause us : Nat) (on : Bool) (hn : n ≤ 15) :
    rdB (ambient s n cause us on) .a (cstatBit n 1) = on := by
  by_cases hsame : rdB s .a (cstatBit n 1) = on
  · rw [ambient_of_eq cause us hsame, hsame]
  · have hk : ArcKey (cstatBit n 1).key := arcKey_channel (by decide) (by decide) hn
    rw [ambient_of_ne cause us hsame, rdB, rd_of_word_eq (hk.word_ledgerField ..)]
    exact rdB_putFlag_same on hn (by decide)

/-- AMBIENT_HIGH changes ARC_CSTAT of the channel and ARC_AMB alone. -/
theorem ArcKey.word_ambient (hk : ArcKey k) (cause us : Nat) (on : Bool) (hc : k ≠ (cstatBit n 1).key)
    (hsup : k ≠ 0xC0018) (hamb : k ≠ 0xC001C) : word (ambient s n cause us on) g k = word s g k := by
  by_cases hsame : rdB s .a (cstatBit n 1) = on
  · rw [ambient_of_eq cause us hsame]
  · rw [ambient_of_ne cause us hsame, hk.word_ledgerField, hk.word_putFlag _ _ hc hsup hamb]

/-- AMBIENT_HIGH leaves ARC_AMB.SAT. -/
theorem sat_ambient (cause us : Nat) (on : Bool) (hn : n ≤ 15) :
    rd (ambient s n cause us on) .a Reg.ARC_AMB_SAT = rd s .a Reg.ARC_AMB_SAT := by
  have hk : ArcKey Reg.ARC_AMB_SAT.key := arcKey_amb
  by_cases hsame : rdB s .a (cstatBit n 1) = on
  · rw [ambient_of_eq cause us hsame]
  · calc rd (ambient s n cause us on) .a Reg.ARC_AMB_SAT
        = rd (wrBit (wrB s .a (cstatBit n 1) on) .a Reg.ARC_AMB_AMB n on) .a Reg.ARC_AMB_SAT := by
          rw [ambient_of_ne cause us hsame, rd_of_word_eq (hk.word_ledgerField ..)]
          rfl
      _ = rd (wrB s .a (cstatBit n 1) on) .a Reg.ARC_AMB_SAT :=
          rd_wrBit_disj _ _ rfl (by decide) (by decide) (by decide) (by decide)
      _ = rd s .a Reg.ARC_AMB_SAT := rd_wrB_addr _ _ _ _ _ _ (by simp only [cstat_key hn, Reg.ARC_AMB_SAT]; omega)

end Flags

/-! ### A rise of light (R375, R377, R378) -/

section Rise

variable {s : State} {k n : Nat}

/-- The rise of channel `n`, as its registers show it. -/
def riseShown (s : State) (n rise : Nat) (sat qual : Bool) : State :=
  let s1 := wrBit (wrBit s .a Reg.ARC_LIGHT_LIGHT n true) .a Reg.ARC_LIGHT_HIST_LIGHT n true
  let s2 := if qual then wrBit (wrBit s1 .a Reg.ARC_LIGHT_LIGHTQ n true) .a Reg.ARC_LIGHT_HIST_LIGHTQ n true else s1
  let s3 := wr (wrB s2 .a (Reg.ARC_RISE_QUAL n) qual) .a (Reg.ARC_RISE_RISE n) (min rise 65535)
  if sat then wrBit s3 .a Reg.ARC_AMB_SAT n true else s3

theorem riseShown_light (rise : Nat) (sat qual : Bool) (hn : n ≤ 15) :
    rdBit (riseShown s n rise sat qual) .a Reg.ARC_LIGHT_LIGHT n = true := by
  have hshown : rd (riseShown s n rise sat qual) .a Reg.ARC_LIGHT_LIGHT =
      rd (wrBit s .a Reg.ARC_LIGHT_LIGHT n true) .a Reg.ARC_LIGHT_LIGHT := by
    have hrise (t : State) (v : Nat) :
        rd (wr t .a (Reg.ARC_RISE_RISE n) v) .a Reg.ARC_LIGHT_LIGHT = rd t .a Reg.ARC_LIGHT_LIGHT :=
      rd_wr_addr _ _ _ _ _ _ (by simp only [Reg.ARC_RISE_RISE, channelKey_eq hn, Reg.ARC_LIGHT_LIGHT]; omega)
    have hqual (t : State) :
        rd (wrB t .a (Reg.ARC_RISE_QUAL n) qual) .a Reg.ARC_LIGHT_LIGHT = rd t .a Reg.ARC_LIGHT_LIGHT :=
      rd_wrB_addr _ _ _ _ _ _ (by simp only [Reg.ARC_RISE_QUAL, channelKey_eq hn, Reg.ARC_LIGHT_LIGHT]; omega)
    simp (disch := decide) only [riseShown, apply_ite (fun t : State => rd t .a Reg.ARC_LIGHT_LIGHT), hrise, hqual,
      rd_wrBit_addr, rd_wrBit_disj, ite_self]
  rw [rdBit, hshown]
  exact rdBit_wrBit_same _ _ _ _ _ (by decide) (by decide) (Nat.lt_succ_of_le hn)

theorem riseShown_rise (rise : Nat) (sat qual : Bool) (hn : n ≤ 15) :
    rd (riseShown s n rise sat qual) .a (Reg.ARC_RISE_RISE n) = min rise 65535 ∧
      rdB (riseShown s n rise sat qual) .a (Reg.ARC_RISE_QUAL n) = qual := by
  have hkey : (Reg.ARC_RISE_RISE n).key = 0xC0114 + n * 32 := channelKey_eq hn
  have hsat (e : Fld) (he : e.key = (Reg.ARC_RISE_RISE n).key) (t : State) :
      rd (wrBit t .a Reg.ARC_AMB_SAT n true) .a e = rd t .a e :=
    rd_wrBit_addr _ _ _ _ _ _ _ (by simp only [he, hkey, Reg.ARC_AMB_SAT]; omega)
  simp only [riseShown, rdB, apply_ite (fun t : State => rd t .a (Reg.ARC_RISE_RISE n)),
    apply_ite (fun t : State => rd t .a (Reg.ARC_RISE_QUAL n)), hsat _ rfl, hsat (Reg.ARC_RISE_QUAL n) rfl, ite_self]
  constructor
  · exact rd_wr_same' _ _ (Reg.ARC_RISE_RISE n) _ (Nat.zero_le _) (by decide : 15 < 32)
      (show min rise 65535 < 2 ^ 16 by omega)
  · rw [rd_wr_disjoint _ _ (Reg.ARC_RISE_RISE n) (Reg.ARC_RISE_QUAL n) _ rfl (Nat.zero_le _) (Nat.le_refl _)
      (by decide : 15 < 32) (.inl (by decide : 15 < 31))]
    exact rdB_wrB_same _ _ (Reg.ARC_RISE_QUAL n) _ rfl (by decide : 31 < 32)

/-- What follows a rise: AMBIENT_HIGH after a slow one, the gate pairs that disagree, the general functions, the
elements. -/
def riseFollowed (s : State) (n rise : Nat) (dis : List HalfId) (fast : Bool) : State :=
  lightChange (noteLight (elemFaults (if fast then s else ambient s n 1 rise true) n dis) n)

theorem ArcKey.word_riseFollowed (hk : ArcKey k) (rise : Nat) (dis : List HalfId) (fast : Bool)
    (hc : k ≠ (cstatBit n 1).key) (hsup : k ≠ 0xC0018) (hamb : k ≠ 0xC001C) :
    word (riseFollowed s n rise dis fast) .a k = word s .a k := by
  rw [riseFollowed, hk.word_lightChange, hk.word_noteLight, hk.word_elemFaults]
  split
  · rfl
  · exact hk.word_ambient _ _ _ hc hsup hamb

theorem exec_lightRise_dark (rise : Nat) (sat : Bool) (dis : List HalfId) (harc : hasArc s = true) (hn : n ≤ 15)
    (hload : s.field.io.arcLoaded = true) (hdark : rdBit s .a Reg.ARC_LIGHT_LIGHT n = false) :
    exec (.lightRise n rise sat dis) s = .next (riseFollowed
      (riseShown s n rise sat (decide (rise ≤ rxF s n 2 31 20) && !rdB s .a (cstatBit n 1) && !inStretch s n))
      n rise dis (decide (rise ≤ rxF s n 2 31 20))) := by
  rw [exec_lightRise, execLightRise, if_neg (by simp [harc, hn, hload, hdark])]
  rfl

theorem lightRise_spec (rise : Nat) (sat : Bool) (dis : List HalfId) (harc : hasArc s = true) (hn : n ≤ 15)
    (hload : s.field.io.arcLoaded = true) (hdark : rdBit s .a Reg.ARC_LIGHT_LIGHT n = false) :
    Completes (.lightRise n rise sat dis) s fun t =>
      rdBit t .a Reg.ARC_LIGHT_LIGHT n = true ∧ rd t .a (Reg.ARC_RISE_RISE n) = min rise 65535 ∧
      rdB t .a (Reg.ARC_RISE_QUAL n) =
        (decide (rise ≤ rxF s n 2 31 20) && !rdB s .a (cstatBit n 1) && !inStretch s n) := by
  refine ⟨_, exec_lightRise_dark rise sat dis harc hn hload hdark, ?_⟩
  generalize (decide (rise ≤ rxF s n 2 31 20) && !rdB s .a (cstatBit n 1) && !inStretch s n) = qual
  have hkey : (Reg.ARC_RISE_RISE n).key = 0xC0114 + n * 32 := channelKey_eq hn
  have hlight (fast : Bool) : word (riseFollowed (riseShown s n rise sat qual) n rise dis fast) .a 0xC0010 = _ :=
    arcKey_light.word_riseFollowed rise dis fast (by rw [cstat_key hn]; omega) (by decide) (by decide)
  have hk : ArcKey (Reg.ARC_RISE_RISE n).key := arcKey_channel (by decide) (by decide) hn
  have hrise (fast : Bool) :
      word (riseFollowed (riseShown s n rise sat qual) n rise dis fast) .a (Reg.ARC_RISE_RISE n).key = _ :=
    hk.word_riseFollowed rise dis fast (by rw [cstat_key hn, hkey]; omega) (by rw [hkey]; omega) (by rw [hkey]; omega)
  rw [rdBit, rd_of_word_eq (e := Reg.ARC_LIGHT_LIGHT) (hlight _), rd_of_word_eq (hrise _), rdB,
    rd_of_word_eq (e := Reg.ARC_RISE_QUAL n) (hrise _)]
  exact ⟨riseShown_light rise sat qual hn, riseShown_rise rise sat qual hn⟩

end Rise

/-! ### A fall of light (R375, R388) -/

section Fall

variable {s : State} {n : Nat}

/-- A fall clears the channel in ARC_LIGHT; stretches, receivers and elements stand outside that register. -/
theorem lightFall_light (hn : n ≤ 15) : rdBit (lightFall s n) .a Reg.ARC_LIGHT_LIGHT n = false ∧
    rdBit (lightFall s n) .a Reg.ARC_LIGHT_LIGHTQ n = false := by
  have hword : word (lightFall s n) .a 0xC0010 =
      word (wrBit (wrBit s .a Reg.ARC_LIGHT_LIGHT n false) .a Reg.ARC_LIGHT_LIGHTQ n false) .a 0xC0010 := by
    rw [lightFall, arcKey_light.word_lightChange, word_modRx]
    refine foldl_unchanged (fun t => word t .a 0xC0010) (fun t h => ?_) _ _
    split
    · rfl
    · exact word_setHalf ..
  constructor
  · rw [rdBit, rd_of_word_eq (e := Reg.ARC_LIGHT_LIGHT) hword]
    simp (disch := decide) only [rd_wrBit_disj]
    exact rdBit_wrBit_same _ _ Reg.ARC_LIGHT_LIGHT _ _ (by decide) (by decide) (Nat.lt_succ_of_le hn)
  · rw [rdBit, rd_of_word_eq (e := Reg.ARC_LIGHT_LIGHTQ) hword]
    exact rdBit_wrBit_same _ _ Reg.ARC_LIGHT_LIGHTQ _ _ (by decide) (by decide) (Nat.lt_succ_of_le hn)

theorem exec_lightFall_lit (hlit : rdBit s .a Reg.ARC_LIGHT_LIGHT n = true)
    (hsat : rdBit s .a Reg.ARC_AMB_SAT n = false) : exec (.lightFall n) s = .next (lightFall s n) := by
  rw [exec_lightFall, execLightFall, if_pos (by simp [hlit, hsat])]

end Fall

/-! ### Samples of the level (R374, R376, R378) -/

section Level

variable {s : State} {k n : Nat}

/-- A sample of channel `n`, as its registers show it. -/
def levelShown (s : State) (n lv bl : Nat) (sat : Bool) : State :=
  modRx (wrBit (wr (wr s .a (Reg.ARC_LEVEL_LEVEL n) lv) .a (Reg.ARC_BASE_BASE n) bl) .a Reg.ARC_AMB_SAT n sat) n
    fun x => { x with started := true }

theorem levelShown_spec {lv : Nat} (bl : Nat) (sat : Bool) (hn : n ≤ 15) (hlv : lv ≤ 0x3FFFF) :
    rd (levelShown s n lv bl sat) .a (Reg.ARC_LEVEL_LEVEL n) = lv ∧
      rdBit (levelShown s n lv bl sat) .a Reg.ARC_AMB_SAT n = sat := by
  constructor
  · rw [levelShown, rd_modRx,
      rd_wrBit_addr _ _ _ _ _ _ _ (by simp only [Reg.ARC_LEVEL_LEVEL, channelKey_eq hn, Reg.ARC_AMB_SAT]; omega),
      rd_wr_addr _ _ _ _ _ _ (by simp only [Reg.ARC_LEVEL_LEVEL, Reg.ARC_BASE_BASE, channelKey_eq hn]; omega)]
    exact rd_wr_same' _ _ (Reg.ARC_LEVEL_LEVEL n) _ (Nat.zero_le _) (by decide : 17 < 32) (show lv < 2 ^ 18 by omega)
  · exact rdBit_wrBit_same _ _ _ _ _ (by decide) (by decide) (Nat.lt_succ_of_le hn)

/-- What follows a sample: AMBIENT_HIGH from the baseline, and a rise of light where the sample saturated. -/
def levelFollowed (s : State) (n : Nat) (high sat : Bool) : State :=
  let s1 := if high then ambient s n 2 0 true else s
  if sat then satRise s1 n else s1

/-- Light at saturation changes ARC_LIGHT and its history alone. -/
theorem ArcKey.word_satRise (hk : ArcKey k) (hlight : k ≠ 0xC0010) (hhist : k ≠ 0xC0014) :
    word (satRise s n) .a k = word s .a k := by
  unfold satRise
  split
  · rfl
  · rw [hk.word_lightChange, hk.word_noteLight]
    exact (hk.word_wr _ (by decide) hhist).trans (hk.word_wr _ (by decide) hlight)

theorem rd_levelFollowed {e : Fld} (high sat : Bool) (he : ArcKey e.key) (hlight : e.key ≠ 0xC0010)
    (hhist : e.key ≠ 0xC0014) (hamb : rd (ambient s n 2 0 true) .a e = rd s .a e) :
    rd (levelFollowed s n high sat) .a e = rd s .a e := by
  have hrise (t : State) : rd (satRise t n) .a e = rd t .a e := rd_of_word_eq (he.word_satRise hlight hhist)
  cases high <;> cases sat <;> simp [levelFollowed, hrise, hamb]

theorem exec_lightLevelSample_arc (level : Nat) (sat : Bool) (harc : hasArc s = true) (hn : n ≤ 15) :
    ∃ bl high, exec (.lightLevelSample n level sat) s =
      .next (levelFollowed (levelShown s n (if sat then 0x3FFFF else min level 0x3FFFF) bl sat) n high sat) := by
  rw [exec_lightLevelSample, execLightLevelSample, if_neg (by simp [harc, hn])]
  exact ⟨_, _, rfl⟩

theorem lightLevelSample_spec (level : Nat) (sat : Bool) (harc : hasArc s = true) (hn : n ≤ 15) :
    Completes (.lightLevelSample n level sat) s fun t =>
      rd t .a (Reg.ARC_LEVEL_LEVEL n) = (if sat = true then 0x3FFFF else min level 0x3FFFF) ∧
      rdBit t .a Reg.ARC_AMB_SAT n = sat := by
  obtain ⟨bl, high, ht⟩ := exec_lightLevelSample_arc level sat harc hn
  have hlv : (if sat then 0x3FFFF else min level 0x3FFFF) ≤ 0x3FFFF := by
    split
    · exact Nat.le_refl _
    · exact Nat.min_le_right _ _
  have hkey : (Reg.ARC_LEVEL_LEVEL n).key = 0xC0100 + n * 32 := channelKey_eq hn
  have hk : ArcKey (Reg.ARC_LEVEL_LEVEL n).key := arcKey_channel (by decide) (by decide) hn
  obtain ⟨hlevel, hsat⟩ := levelShown_spec (s := s) bl sat hn hlv
  refine ⟨_, ht, ?_, ?_⟩
  · rw [rd_levelFollowed high sat hk (by rw [hkey]; omega) (by rw [hkey]; omega), hlevel]
    exact rd_of_word_eq (hk.word_ambient _ _ _ (by rw [hkey, cstat_key hn]; omega) (by rw [hkey]; omega)
      (by rw [hkey]; omega))
  · rw [rdBit, rd_levelFollowed high sat arcKey_amb (by decide) (by decide) (sat_ambient 2 0 true hn)]
    exact hsat

/-- AMBIENT_HIGH ends when the light has re-settled below THRESH. -/
theorem ambientResettled_spec (hn : n ≤ 15) (hlevel : rd s .a (Reg.ARC_LEVEL_LEVEL n) < rxThresh s n)
    (hbase : 2 * rd s .a (Reg.ARC_BASE_BASE n) < rxThresh s n)
    (hsettled : ((rd s .a (Reg.ARC_LEVEL_LEVEL n) : Int) - rd s .a (Reg.ARC_BASE_BASE n)).natAbs * 10 < rxThresh s n) :
    Completes (.ambientResettled n) s fun t => rdB t .a (cstatBit n 1) = false := by
  refine ⟨ambient s n 2 0 false, ?_, rdB_ambient 2 0 false hn⟩
  rw [exec_ambientResettled, execAmbientResettled, if_pos ⟨hlevel, hbase, hsettled⟩]

end Level

/-! ### STRETCH (R388) -/

section Stretch

variable {s : State} {h : HalfId} {n : Nat}

/-- The end of one part of the stretch of an element. -/
def stretchEnded (part : Nat) (e : ArcElem) : ArcElem :=
  if part = 0 then { e with lightExt := false } else if part = 1 then { e with qExt := false }
  else if part = 2 then { e with aExt := false } else if part = 3 then { e with bExt := false } else e

/-- The element without the part of the stretch that has expired. -/
def stretchExpired (s : State) (h : HalfId) (n part : Nat) : State :=
  modDec s h fun d => { d with arc := smod (fun _ => default) d.arc n (stretchEnded part) }

@[simp] theorem arcElem_stretchExpired (part : Nat) :
    arcElem (stretchExpired s h n part) h n = stretchEnded part (arcElem s h n) := by
  simp [arcElem, stretchExpired, smod]

theorem exec_stretchExpiry_arc (part : Nat) (harc : hasArc s = true) (hn : n < 16) :
    exec (.stretchExpiry h n part) s =
      .next (edgeTriggers (decideOut (arcEval (stretchExpired s h n part) h n) h) h) := by
  rw [exec_stretchExpiry, execStretchExpiry, harc, decide_eq_true hn]
  rfl

theorem stretchExpiry_spec (part : Nat) (harc : hasArc s = true) (hn : n < 16) :
    Completes (.stretchExpiry h n part) s fun t =>
      (part = 0 → (arcElem t h n).lightExt = false) ∧ (part = 1 → (arcElem t h n).qExt = false) ∧
      (part = 2 → (arcElem t h n).aExt = false) ∧ (part = 3 → (arcElem t h n).bExt = false) := by
  refine ⟨_, exec_stretchExpiry_arc part harc hn, ?_⟩
  obtain ⟨hlight, hq, ha, hb⟩ := arcEval_stretches (stretchExpired s h n part) h n
  rw [arcElem_decided, hlight, hq, ha, hb, arcElem_stretchExpired]
  refine ⟨?_, ?_, ?_, ?_⟩ <;> rintro rfl <;> rfl

end Stretch

/-! ### Supervision codes (R380, R382, R383) -/

section Codes

variable {s : State} {k n : Nat}

/-- The step of a cycle at channel `k`: an enabled channel not in back-off sends its code. -/
def cycleStep (s : State) (k : Nat) : State :=
  if codeOn s k && !(arcRx s k).backoff then modRx s k fun x => { x with code := 1 } else s

theorem codeCycle_of_run (hrun : codesRun s = true) : codeCycle s = (List.range 16).foldl cycleStep s := if_pos hrun

theorem codeOn_cycleStep (k n : Nat) : codeOn (cycleStep s k) n = codeOn s n := by
  unfold cycleStep
  split <;> rfl

theorem arcRx_cycleStep (k n : Nat) : arcRx (cycleStep s k) n =
    if k = n ∧ codeOn s n = true ∧ (arcRx s n).backoff = false then { arcRx s n with code := 1 } else arcRx s n := by
  unfold cycleStep
  by_cases hk : n = k
  · subst hk
    by_cases hsends : codeOn s n = true ∧ (arcRx s n).backoff = false
    · rw [if_pos (by simp [hsends]), if_pos ⟨rfl, hsends⟩, arcRx_modRx_same]
    · rw [if_neg (by simpa using hsends), if_neg (by simpa using hsends)]
  · simp only [Ne.symm hk, false_and, if_false]
    split
    · exact arcRx_modRx_ne _ _ hk
    · rfl

/-- A cycle starts the code of every enabled channel not in back-off. -/
theorem codeCycle_starts (hrun : codesRun s = true) (hon : codeOn s n = true) (hn : n < 16)
    (hback : (arcRx s n).backoff = false) : (arcRx (codeCycle s) n).code = 1 := by
  rw [codeCycle_of_run hrun]
  refine foldl_establishes (I := fun t => codeOn t n = true ∧ (arcRx t n).backoff = false)
    (P := fun t => (arcRx t n).code = 1) (fun t b ht => ?_) (fun t ht => ?_) (fun t b ht => ?_) (List.mem_range.mpr hn)
    ⟨hon, hback⟩
  · rw [codeOn_cycleStep, arcRx_cycleStep]
    refine ⟨ht.1, ?_⟩
    split <;> exact ht.2
  · rw [arcRx_cycleStep, if_pos ⟨rfl, ht⟩]
  · rw [arcRx_cycleStep]
    split
    · rfl
    · exact ht

theorem codeCycle_spec (hrun : codesRun s = true) (hon : codeOn s n = true) (hn : n < 16)
    (hback : (arcRx s n).backoff = false) : Completes .codeCycle s fun t => (arcRx t n).code = 1 :=
  ⟨_, by rw [exec_codeCycle, execCodeCycle], codeCycle_starts hrun hon hn hback⟩

theorem codeRetry_spec (hrun : codesRun s = true) (hon : codeOn s n = true) (hback : (arcRx s n).backoff = true) :
    Completes (.codeRetry n) s fun t => (arcRx t n).code = 2 :=
  ⟨_, by rw [exec_codeRetry, execCodeRetry, if_pos (by simp [hrun, hon, hback])],
    congrArg ArcRx.code (arcRx_modRx_same ..)⟩

end Codes

/-! ### The end of a code (R381 to R387) -/

section CodeEnd

variable {s : State} {k n : Nat}

/-- The result of a code, as ARC_CODE shows it; the channel sends no code any more. -/
def codeShown (s : State) (n r seen amp till : Nat) : State :=
  modRx (wr (wr (wr s .a (Reg.ARC_CODE_RESULT n) r) .a (Reg.ARC_CODE_SEEN n) seen) .a (Reg.ARC_CODE_AMP n) amp) n
    fun x => { x with code := 0, frozenTill := till }

theorem codeShown_spec {r : Nat} (seen amp till : Nat) (hr : r < 16) :
    rd (codeShown s n r seen amp till) .a (Reg.ARC_CODE_RESULT n) = r ∧
      rd (codeShown s n r seen amp till) .a (Reg.ARC_CODE_SEEN n) = seen % 16 ∧
      (arcRx (codeShown s n r seen amp till) n).code = 0 := by
  refine ⟨?_, ?_, by rw [codeShown, arcRx_modRx_same]⟩
  · rw [codeShown, rd_modRx, rd_wr_disjoint _ _ (Reg.ARC_CODE_AMP n) (Reg.ARC_CODE_RESULT n) _ rfl (by decide : 0 ≤ 17)
      (by decide : 28 ≤ 31) (by decide : 17 < 32) (.inl (by decide : 17 < 28)),
      rd_wr_disjoint _ _ (Reg.ARC_CODE_SEEN n) (Reg.ARC_CODE_RESULT n) _ rfl (by decide : 24 ≤ 27)
      (by decide : 28 ≤ 31) (by decide : 27 < 32) (.inl (by decide : 27 < 28))]
    exact rd_wr_same' _ _ (Reg.ARC_CODE_RESULT n) _ (by decide : 28 ≤ 31) (by decide : 31 < 32) hr
  · rw [codeShown, rd_modRx, rd_wr_disjoint _ _ (Reg.ARC_CODE_AMP n) (Reg.ARC_CODE_SEEN n) _ rfl (by decide : 0 ≤ 17)
      (by decide : 24 ≤ 27) (by decide : 17 < 32) (.inl (by decide : 17 < 24))]
    exact rd_wr_same _ _ (Reg.ARC_CODE_SEEN n) _ (by decide : 24 ≤ 27) (by decide : 27 < 32)

theorem codeResult_lt (ref spread : Nat) (own oth : Int) (sat led : Bool) :
    codeResult ref spread own oth sat led < 16 := by
  unfold codeResult
  repeat' split
  all_goals decide

@[simp] theorem arcRx_wr (h : HalfId) (e : Fld) (v n : Nat) : arcRx (wr s h e v) n = arcRx s n := rfl
@[simp] theorem arcRx_satAdd (h : HalfId) (e : Fld) (v n : Nat) : arcRx (satAdd s h e v) n = arcRx s n := rfl
@[simp] theorem arcRx_putFlag (m b : Nat) (on : Bool) (n : Nat) : arcRx (putFlag s m b on) n = arcRx s n :=
  arcRx_of_keeps (keeps_putFlag m b on (by decide) (Keeps.refl 0x1023C4012C1000 s)) (by decide) n
@[simp] theorem arcRx_ledgerField (ev : Nat) (bs : List Sys2Proof.Byte) (n : Nat) :
    arcRx (ledgerField s ev bs) n = arcRx s n :=
  arcRx_of_keeps (keeps_ledgerField ev bs (by decide) (Keeps.refl 0x10238401240000 s)) (by decide) n
@[simp] theorem arcRx_obscured (m : Nat) (on : Bool) (n : Nat) : arcRx (obscured s m on) n = arcRx s n :=
  arcRx_of_keeps (keeps_obscured m on (by decide) (Keeps.refl 0x1023C4012C1000 s)) (by decide) n
@[simp] theorem arcRx_sensorFail (m r seen : Nat) (on : Bool) (n : Nat) :
    arcRx (sensorFail s m r seen on) n = arcRx s n :=
  arcRx_of_keeps (keeps_sensorFail m r seen on (by decide) (Keeps.refl 0x1023C4012C1000 s)) (by decide) n

/-- The flags and counts that follow a code start none. -/
theorem code_codeObscured : (arcRx (codeObscured s n) n).code = (arcRx s n).code := by
  simp [codeObscured, apply_ite (fun t : State => (arcRx t n).code)]

theorem code_codeClean (r seen : Nat) (own : Int) : (arcRx (codeClean s n r seen own) n).code = (arcRx s n).code := by
  simp [codeClean, apply_ite (fun t : State => (arcRx t n).code)]

/-- A register that neither holds flags or counts of channel `n` nor a sum of flags. -/
structure CodeApart (n k : Nat) : Prop where
  arc : ArcKey k
  cstat : k ≠ (Reg.ARC_CSTAT_OBSC_RUN n).key
  cnt : k ≠ (Reg.ARC_CNT_PASS n).key
  sup : k ≠ 0xC0018
  amb : k ≠ 0xC001C

theorem codeApart_code (hn : n ≤ 15) : CodeApart n (Reg.ARC_CODE_RESULT n).key := by
  have hkey : (Reg.ARC_CODE_RESULT n).key = 0xC0108 + n * 32 := channelKey_eq hn
  have hcstat : (Reg.ARC_CSTAT_OBSC_RUN n).key = 0xC010C + n * 32 := channelKey_eq hn
  have hcnt : (Reg.ARC_CNT_PASS n).key = 0xC0110 + n * 32 := channelKey_eq hn
  refine ⟨arcKey_channel (by decide) (by decide) hn, ?_, ?_, ?_, ?_⟩ <;> omega

namespace CodeApart

variable (hk : CodeApart n k)

include hk

theorem word_putFlag (b : Nat) (on : Bool) : word (putFlag s n b on) .a k = word s .a k :=
  hk.arc.word_putFlag b on hk.cstat hk.sup hk.amb

theorem word_obscured (on : Bool) : word (obscured s n on) .a k = word s .a k := by
  unfold obscured
  split
  · rfl
  · rw [hk.arc.word_ledgerField, hk.word_putFlag]

theorem word_sensorFail (r seen : Nat) (on : Bool) : word (sensorFail s n r seen on) .a k = word s .a k := by
  unfold sensorFail
  split
  · rfl
  · rw [hk.arc.word_ledgerField, hk.word_putFlag]

theorem word_wr_cstat (e : Fld) (he : e.key = (Reg.ARC_CSTAT_OBSC_RUN n).key) (v : Nat) :
    word (wr s .a e v) .a k = word s .a k :=
  hk.arc.word_wr _ (by rw [he]; exact cstat_le n 0) (by rw [he]; exact hk.cstat)

theorem word_satAdd_cnt (e : Fld) (he : e.key = (Reg.ARC_CNT_PASS n).key) (v : Nat) :
    word (satAdd s .a e v) .a k = word s .a k :=
  hk.arc.word_wr _ (by rw [he]; exact channelKey_le (by decide) n) (by rw [he]; exact hk.cnt)

theorem word_codeObscured : word (codeObscured s n) .a k = word s .a k := by
  have hrun (t : State) (v : Nat) : word (satAdd t .a (Reg.ARC_CSTAT_OBSC_RUN n) v) .a k = word t .a k :=
    hk.word_wr_cstat (Reg.ARC_CSTAT_OBSC_RUN n) rfl _
  have hcount (t : State) (v : Nat) : word (satAdd t .a (Reg.ARC_CNT_OBSC n) v) .a k = word t .a k :=
    hk.word_satAdd_cnt (Reg.ARC_CNT_OBSC n) rfl v
  simp only [codeObscured, apply_ite (fun t : State => word t .a k), hk.word_obscured, word_modRx, hcount, hrun,
    ite_self]

theorem word_codeClean (r seen : Nat) (own : Int) : word (codeClean s n r seen own) .a k = word s .a k := by
  have hobsc (t : State) (v : Nat) : word (wr t .a (Reg.ARC_CSTAT_OBSC_RUN n) v) .a k = word t .a k :=
    hk.word_wr_cstat (Reg.ARC_CSTAT_OBSC_RUN n) rfl v
  have hfail (t : State) (v : Nat) : word (wr t .a (Reg.ARC_CSTAT_FAIL_RUN n) v) .a k = word t .a k :=
    hk.word_wr_cstat (Reg.ARC_CSTAT_FAIL_RUN n) rfl v
  have hfails (t : State) (v : Nat) : word (satAdd t .a (Reg.ARC_CSTAT_FAIL_RUN n) v) .a k = word t .a k :=
    hk.word_wr_cstat (Reg.ARC_CSTAT_FAIL_RUN n) rfl _
  have hpass (t : State) (v : Nat) : word (satAdd t .a (Reg.ARC_CNT_PASS n) v) .a k = word t .a k :=
    hk.word_satAdd_cnt (Reg.ARC_CNT_PASS n) rfl v
  simp only [codeClean, apply_ite (fun t : State => word t .a k), hk.arc.word_ledgerField, hk.word_putFlag,
    hk.word_sensorFail, hk.word_obscured, word_modRx, hobsc, hfail, hfails, hpass, ite_self]

end CodeApart

/-- The flags and counts that follow a result, and the change of light. -/
def codeFollowed (s : State) (n r seen : Nat) (own : Int) : State :=
  lightChange (if r = 2 then codeObscured s n else codeClean s n r seen own)

theorem word_codeFollowed (r seen : Nat) (own : Int) (hn : n ≤ 15) :
    word (codeFollowed s n r seen own) .a (Reg.ARC_CODE_RESULT n).key = word s .a (Reg.ARC_CODE_RESULT n).key := by
  have hk := codeApart_code hn
  rw [codeFollowed, hk.arc.word_lightChange]
  split
  · exact hk.word_codeObscured
  · exact hk.word_codeClean r seen own

theorem code_codeFollowed (r seen : Nat) (own : Int) :
    (arcRx (codeFollowed s n r seen own) n).code = (arcRx s n).code := by
  rw [codeFollowed, arcRx_of_rx (rx_lightChange _)]
  split
  · exact code_codeObscured
  · exact code_codeClean r seen own

theorem exec_codeComplete_runs (own oth : Int) (seen spread : Nat) (sat lo ls : Bool) (harc : hasArc s = true)
    (hn : n ≤ 15) (hcode : (arcRx s n).code ≠ 0) : ∃ u amp till,
    exec (.codeComplete n own oth seen spread sat lo ls) s = .next (codeFollowed
      (codeShown u n (codeResult (rxRef s n) spread own oth sat (lo || ls)) seen amp till) n
      (codeResult (rxRef s n) spread own oth sat (lo || ls)) seen own) := by
  rw [exec_codeComplete, execCodeComplete, if_neg (by simp [harc, hn, hcode])]
  exact ⟨_, _, _, rfl⟩

theorem codeComplete_spec (own oth : Int) (seen spread : Nat) (sat lo ls : Bool) (harc : hasArc s = true)
    (hn : n ≤ 15) (hcode : (arcRx s n).code ≠ 0) :
    Completes (.codeComplete n own oth seen spread sat lo ls) s fun t =>
      rd t .a (Reg.ARC_CODE_RESULT n) = codeResult (rxRef s n) spread own oth sat (lo || ls) ∧
      rd t .a (Reg.ARC_CODE_SEEN n) = seen % 16 ∧ (arcRx t n).code = 0 := by
  obtain ⟨u, amp, till, ht⟩ := exec_codeComplete_runs own oth seen spread sat lo ls harc hn hcode
  have hr := codeResult_lt (rxRef s n) spread own oth sat (lo || ls)
  generalize codeResult (rxRef s n) spread own oth sat (lo || ls) = r at ht hr ⊢
  obtain ⟨hresult, hseen, hends⟩ := codeShown_spec (s := u) (n := n) seen amp till hr
  have hword := word_codeFollowed (s := codeShown u n r seen amp till) r seen own hn
  exact ⟨_, ht, (rd_of_word_eq hword).trans hresult, (rd_of_word_eq (e := Reg.ARC_CODE_SEEN n) hword).trans hseen,
    (code_codeFollowed r seen own).trans hends⟩

end CodeEnd

/-! ### ARC_CMD (R398, R399) -/

section ArcCommands

variable {s : State} {h : HalfId} {k n mask : Nat}

/-- The report of an ARC command that is done. -/
def arcReported (s : State) (h : HalfId) (code : Nat) : State :=
  result s h Reg.ARC_RESULT_SEQ Reg.ARC_RESULT_CMD Reg.ARC_RESULT_STATUS code 0x02

theorem arcReported_status (code : Nat) : rd (arcReported s h code) h Reg.ARC_RESULT_STATUS = 0x02 :=
  rd_result_status _ _ _ _ _ _ _ (by decide) (by decide)

theorem rd_arcReported (code : Nat) (g : HalfId) {e : Fld} (he : e.key % 0x100000000 ≠ 0xC0024) :
    rd (arcReported s h code) g e = rd s g e := rd_result_addr _ _ _ _ _ _ _ _ _ he he he

/-- The step of CLR_COUNTS at a channel. -/
def clrStep (mask : Nat) (s : State) (n : Nat) : State :=
  if bit mask n then wr (wr s .a (Reg.ARC_CNT_PASS n) 0) .a (Reg.ARC_CNT_OBSC n) 0 else s

/-- The step of RESUME CODE_BRIGHT at a channel. -/
def resumeStep (mask : Nat) (s : State) (n : Nat) : State :=
  if bit mask n then if rdB s .a (cstatBit n 0) then putFlag s n 0 false else s else s

section Accepted

variable (hmode : modeOf s h ≠ mBOOT) (hholds : holds s h = true)

include hmode hholds

theorem fieldStatus_done : fieldStatus s h true = 0x02 := by
  simp [fieldStatus, hmode, hholds]

theorem arcCmd_codeNow (mask : Nat) : arcCmd s h 1 mask = codeCycle (arcReported s h 1) := by
  simp [arcCmd, fieldStatus_done hmode hholds, holderErr, arcReported]

theorem arcCmd_clrCounts (mask : Nat) :
    arcCmd s h 2 mask = (List.range 16).foldl (clrStep mask) (arcReported s h 2) := by
  simp [arcCmd, fieldStatus_done hmode hholds, holderErr, arcReported] <;> rfl

theorem arcCmd_resume (mask : Nat) :
    arcCmd s h 3 mask = (List.range 16).foldl (resumeStep mask) (arcReported s h 3) := by
  simp [arcCmd, fieldStatus_done hmode hholds, holderErr, arcReported] <;> rfl

end Accepted

theorem codesRun_arcReported (code : Nat) : codesRun (arcReported s h code) = codesRun s := by
  have hbooted (g : HalfId) : booted (arcReported s h code) g = booted s g := by
    rw [booted, booted, rd_arcReported code g (by decide)]
  simp only [codesRun, hbooted]
  rfl

theorem codeOn_arcReported (code : Nat) (hn : n ≤ 15) : codeOn (arcReported s h code) n = codeOn s n := by
  simp only [codeOn, rdB, rd_arcReported code .a (e := cstatBit n 0) (by rw [cstat_key hn]; omega)]
  rfl

/-- Where each step of a command leaves ARC_RESULT, the command leaves its report. -/
theorem arcReported_foldl {f : State → Nat → State} (code : Nat)
    (hf : ∀ t n, word (f t n) h 0xC0024 = word t h 0xC0024) :
    rd ((List.range 16).foldl f (arcReported s h code)) h Reg.ARC_RESULT_STATUS = 0x02 :=
  (rd_of_word_eq (foldl_unchanged (fun t => word t h 0xC0024) hf _ _)).trans (arcReported_status code)

theorem word_cycleStep (g : HalfId) (n : Nat) : word (cycleStep s n) g k = word s g k := by
  unfold cycleStep
  split <;> rfl

/-- CLR_COUNTS clears both counters of a channel of its mask. -/
theorem clrStep_clears (hbit : bit mask n = true) : rd (clrStep mask s n) .a (Reg.ARC_CNT_PASS n) = 0 ∧
    rd (clrStep mask s n) .a (Reg.ARC_CNT_OBSC n) = 0 := by
  rw [clrStep, if_pos hbit]
  constructor
  · exact (rd_wr_disjoint _ _ (Reg.ARC_CNT_OBSC n) (Reg.ARC_CNT_PASS n) _ rfl (by decide : 0 ≤ 15) (by decide : 16 ≤ 31)
      (by decide : 15 < 32) (.inl (by decide : 15 < 16))).trans
      (rd_wr_same _ _ (Reg.ARC_CNT_PASS n) _ (by decide : 16 ≤ 31) (by decide : 31 < 32))
  · exact rd_wr_same _ _ (Reg.ARC_CNT_OBSC n) _ (by decide : 0 ≤ 15) (by decide : 15 < 32)

/-- A step of CLR_COUNTS leaves every register but the counters of its channel. -/
theorem word_clrStep (g : HalfId) (hk : ArcKey k) (hne : k ≠ (Reg.ARC_CNT_PASS n).key) :
    word (clrStep mask s n) g k = word s g k := by
  have hcnt : (Reg.ARC_CNT_PASS n).key ≤ nowhere := channelKey_le (by decide) n
  unfold clrStep
  split
  · exact (hk.word_wr (f := Reg.ARC_CNT_OBSC n) _ hcnt hne).trans (hk.word_wr (f := Reg.ARC_CNT_PASS n) _ hcnt hne)
  · rfl

theorem clrCounts_clears (hn : n < 16) (hbit : bit mask n = true) :
    rd ((List.range 16).foldl (clrStep mask) s) .a (Reg.ARC_CNT_PASS n) = 0 ∧
      rd ((List.range 16).foldl (clrStep mask) s) .a (Reg.ARC_CNT_OBSC n) = 0 := by
  refine foldl_establishes (I := fun _ => True)
    (P := fun t => rd t .a (Reg.ARC_CNT_PASS n) = 0 ∧ rd t .a (Reg.ARC_CNT_OBSC n) = 0) (fun _ _ _ => trivial)
    (fun t _ => clrStep_clears hbit) (fun t b ht => ?_) (List.mem_range.mpr hn) trivial
  by_cases hb : n = b
  · subst hb
    exact clrStep_clears hbit
  · have hword : word (clrStep mask t b) .a (Reg.ARC_CNT_PASS n).key = word t .a (Reg.ARC_CNT_PASS n).key :=
      word_clrStep .a (arcKey_channel (by decide) (by decide) (Nat.le_of_lt_succ hn))
        (channelKey_ne (by decide) (Nat.le_of_lt_succ hn) hb)
    rwa [rd_of_word_eq hword, rd_of_word_eq (e := Reg.ARC_CNT_OBSC n) hword]

/-- RESUME CODE_BRIGHT clears the flag of a channel of its mask. -/
theorem resumeStep_clears (hn : n ≤ 15) (hbit : bit mask n = true) :
    rdB (resumeStep mask s n) .a (cstatBit n 0) = false := by
  rw [resumeStep, if_pos hbit]
  split
  · exact rdB_putFlag_same false hn (by decide)
  · next hclear => exact Bool.eq_false_iff.mpr hclear

/-- A step of RESUME CODE_BRIGHT leaves every register but ARC_CSTAT of its channel and the sums. -/
theorem word_resumeStep (g : HalfId) (hk : ArcKey k) (hne : k ≠ (cstatBit n 0).key) (hsup : k ≠ 0xC0018)
    (hamb : k ≠ 0xC001C) : word (resumeStep mask s n) g k = word s g k := by
  unfold resumeStep
  split
  · split
    · exact hk.word_putFlag 0 false hne hsup hamb
    · rfl
  · rfl

theorem resume_clears (hn : n < 16) (hbit : bit mask n = true) :
    rdB ((List.range 16).foldl (resumeStep mask) s) .a (cstatBit n 0) = false := by
  have hn' : n ≤ 15 := Nat.le_of_lt_succ hn
  refine foldl_establishes (I := fun _ => True) (P := fun t => rdB t .a (cstatBit n 0) = false) (fun _ _ _ => trivial)
    (fun t _ => resumeStep_clears hn' hbit) (fun t b ht => ?_) (List.mem_range.mpr hn) trivial
  by_cases hb : n = b
  · subst hb
    exact resumeStep_clears hn' hbit
  · have hkey := cstat_key hn' 0
    rw [rdB, rd_of_word_eq (e := cstatBit n 0) (word_resumeStep .a (arcKey_channel (by decide) (by decide) hn')
      (channelKey_ne (by decide) hn' hb) (by omega) (by omega))]
    exact ht

section Spec

variable (hal : alive s h = true) (harc : hasArc s = true) (hmode : modeOf s h ≠ mBOOT) (hholds : holds s h = true)

include hal harc hmode hholds

theorem codeNow_spec (mask : Nat) : Completes (.codeNow h mask) s fun t =>
    rd t h Reg.ARC_RESULT_STATUS = 0x02 ∧
    ∀ n < 16, codesRun s = true → codeOn s n = true → (arcRx s n).backoff = false → (arcRx t n).code = 1 := by
  refine ⟨codeCycle (arcReported s h 1), ?_, ?_, fun n hn hrun hon hback => ?_⟩
  · rw [exec_codeNow, execCodeNow, unitAccess, access_of_alive hal, harc, if_pos rfl, arcCmd_codeNow hmode hholds]
  · unfold codeCycle
    split
    · exact arcReported_foldl 1 fun t n => word_cycleStep h n
    · exact arcReported_status 1
  · exact codeCycle_starts (by rwa [codesRun_arcReported]) (by rwa [codeOn_arcReported _ (Nat.le_of_lt_succ hn)]) hn
      hback

theorem clrCounts_spec (mask : Nat) : Completes (.clrCounts h mask) s fun t =>
    rd t h Reg.ARC_RESULT_STATUS = 0x02 ∧
    ∀ n < 16, bit mask n = true → rd t .a (Reg.ARC_CNT_PASS n) = 0 ∧ rd t .a (Reg.ARC_CNT_OBSC n) = 0 := by
  refine ⟨(List.range 16).foldl (clrStep mask) (arcReported s h 2), ?_, ?_, fun n hn hbit => clrCounts_clears hn hbit⟩
  · rw [exec_clrCounts, execClrCounts, unitAccess, access_of_alive hal, harc, if_pos rfl, arcCmd_clrCounts hmode hholds]
  · refine arcReported_foldl 2 fun t n => word_clrStep h arcKey_result ?_
    have hcnt : 0xC0100 ≤ (Reg.ARC_CNT_PASS n).key := channelKey_ge (by decide) n
    omega

theorem resume_spec (mask : Nat) : Completes (.resume h mask) s fun t =>
    rd t h Reg.ARC_RESULT_STATUS = 0x02 ∧ ∀ n < 16, bit mask n = true → rdB t .a (cstatBit n 0) = false := by
  refine ⟨(List.range 16).foldl (resumeStep mask) (arcReported s h 3), ?_, ?_, fun n hn hbit => resume_clears hn hbit⟩
  · rw [exec_resume, execResume, unitAccess, access_of_alive hal, harc, if_pos rfl, arcCmd_resume hmode hholds]
  · refine arcReported_foldl 3 fun t n => word_resumeStep h arcKey_result ?_ (by decide) (by decide)
    have hcstat := cstat_ge n 0
    omega

end Spec

end ArcCommands

/-- Settles O42: the rise, the fall and the samples of light by what the registers show before a change of light, which
leaves them; a stretch by the element, which the decision leaves; codes by the step of a cycle at each channel; the
commands by their report and a fold of one step over the channels. -/
theorem arcLightCommands : Obligations.ArcLightCommands := by
  refine ⟨fun n rise sat dis s harc hn hload hdark => lightRise_spec rise sat dis harc hn hload hdark,
    fun n s hn hlit hsat => ⟨_, exec_lightFall_lit hlit hsat, lightFall_light hn⟩,
    fun n level sat s harc hn => lightLevelSample_spec level sat harc hn,
    fun n s hn hlevel hbase hsettled => ambientResettled_spec hn hlevel hbase hsettled,
    fun h n part s harc hn => stretchExpiry_spec part harc hn,
    fun n s hrun hon hn => ⟨codeCycle_spec hrun hon hn, codeRetry_spec hrun hon⟩,
    fun n own oth seen spread sat lo ls s harc hn hcode =>
      codeComplete_spec own oth seen spread sat lo ls harc hn hcode,
    fun h mask s hal harc hmode hholds => ?_⟩
  exact ⟨codeNow_spec hal harc hmode hholds mask, clrCounts_spec hal harc hmode hholds mask,
    resume_spec hal harc hmode hholds mask⟩

end Sys2Proof.Machine
end

section
/-!
PROOFS of the statement about supply groups, digital inputs, disagreement of the vote inputs, trip-circuit supervision
and the group overcurrent.
-/

namespace Sys2Proof.Machine

open Sys2Proof (HalfId Instr)

/-! ### Registers of TRM and DIO beside records and causes -/

/-- The key of a register of TRM or of DIO, the blocks of the field die that outputs and inputs show in. -/
def OutKey (k : Nat) : Prop := keyBlock k = 11 ∨ keyBlock k = 13

section OutRegisters

variable {m k : Nat} {s t : State} {g h : HalfId}

/-- What leaves both blocks leaves each of their registers. -/
theorem OutKey.word_of_keeps (hk : OutKey k) (hs : Keeps m s t) (htrm : m.testBit 11 = false)
    (hdio : m.testBit 13 = false) : word t g k = word s g k := by
  rcases hk with hb | hb
  · exact hs.word g k (by rw [hb]; decide) (by rw [hb]; exact htrm)
  · exact hs.word g k (by rw [hb]; decide) (by rw [hb]; exact hdio)

theorem OutKey.word_ledgerField (hk : OutKey k) (ev : Nat) (bs : List Sys2Proof.Byte) :
    word (ledgerField s ev bs) g k = word s g k :=
  hk.word_of_keeps (keeps_ledgerField ev bs (by decide) (Keeps.refl 0x10238401240000 s)) (by decide) (by decide)

theorem OutKey.word_tallyAll (hk : OutKey k) (sub cause code ev : Nat) :
    word (tallyAll s sub cause code ev) g k = word s g k :=
  hk.word_of_keeps (keeps_tallyAll sub cause code ev (by decide) (Keeps.refl 0x1023C4012C0000 s)) (by decide)
    (by decide)

/-- A record and the Tally cause that goes with it leave a field. -/
theorem OutKey.rd_recorded {e : Fld} (hk : OutKey e.key) (ev : Nat) (bs : List Sys2Proof.Byte)
    (sub cause code src : Nat) : rd (tallyAll (ledgerField s ev bs) sub cause code src) g e = rd s g e :=
  rd_of_word_eq ((hk.word_tallyAll ..).trans (hk.word_ledgerField ..))

theorem OutKey.word_count (hk : OutKey k) (i n : Nat) : word (count s h i n) g k = word s g k :=
  hk.word_of_keeps (keepsOf_count h i n) (by decide) (by decide)

theorem OutKey.word_evBump (hk : OutKey k) (src : Nat) : word (evBump s h src) g k = word s g k :=
  hk.word_of_keeps (keepsOf_evBump h src) (by decide) (by decide)

end OutRegisters

@[simp] theorem word_modIo (f : FieldIo → FieldIo) (s : State) (g : HalfId) (k : Nat) :
    word (modIo s f) g k = word s g k := rfl

/-- The key of a register that repeats, by its number. -/
theorem instKey_of_lt {b st c n : Nat} (hn : n < c) : instKey b st c n = b + n * st := if_pos hn

/-! ### A supply measurement (R426 to R429) -/

/-- The key of DIO_SUP, DIO_REFRESH or DIO_SUPV: what a supply group shows of itself, apart from the flags of its
inputs and outputs. -/
structure SupplyKey (k : Nat) : Prop where
  ge : 0xD0050 ≤ k
  lt : k < 0xD0100

theorem supplyKey_sup : SupplyKey 0xD0050 := by constructor <;> decide

/-- A key before or behind those registers. -/
def AsideSupply (k : Nat) : Prop := k < 0xD0050 ∨ 0xD0100 ≤ k ∧ k ≤ nowhere

theorem asideSupply_inst {b c : Nat} (hb : 0xD0100 ≤ b) (hend : b + 8 * c ≤ nowhere) (n : Nat) :
    AsideSupply (instKey b 8 c n) := by
  refine .inr ?_
  unfold instKey nowhere at *
  split <;> omega

theorem asideSupply_distat (n : Nat) : AsideSupply (Reg.DIO_DISTAT_STATE n).key :=
  asideSupply_inst (by decide) (by decide) n

theorem asideSupply_dostat (n : Nat) : AsideSupply (Reg.DIO_DOSTAT_OVERLOAD n).key :=
  asideSupply_inst (by decide) (by decide) n

theorem asideSupply_loHi {lo hi : Fld} (hlo : lo.key < 0xD0050) (hhi : hi.key < 0xD0050) (j : Nat) :
    AsideSupply (loHi lo hi j).key := by
  unfold loHi
  split
  · exact .inl hlo
  · exact .inl hhi

namespace SupplyKey

variable {k : Nat} {s : State} {f : Fld} (hk : SupplyKey k)

include hk

theorem outKey : OutKey k := by
  have hge := hk.ge
  have hlt := hk.lt
  refine .inr ?_
  unfold keyBlock
  omega

theorem word_wr (hf : AsideSupply f.key) (v : Nat) : word (wr s .a f v) .a k = word s .a k := by
  have hge := hk.ge
  have hlt := hk.lt
  refine word_wr_ne _ _ _ _ _ _ (regKey_ne _ _ _ _ ?_)
  unfold AsideSupply nowhere at hf
  omega

theorem word_wrB (hf : AsideSupply f.key) (b : Bool) : word (wrB s .a f b) .a k = word s .a k := hk.word_wr hf _

theorem word_wrBit (hf : AsideSupply f.key) (i : Nat) (b : Bool) : word (wrBit s .a f i b) .a k = word s .a k :=
  hk.word_wr hf _

theorem word_putBank {lo hi : Fld} (hlo : lo.key < 0xD0050) (hhi : hi.key < 0xD0050) (n : Nat) (b : Bool) :
    word (putBank s .a (loHi lo hi) n b) .a k = word s .a k :=
  hk.word_wrBit (asideSupply_loHi hlo hhi _) _ b

theorem word_diShow (n : Nat) : word (diShow s n) .a k = word s .a k := by
  have hshown : word (wrB (putBank s .a (loHi Reg.DIO_DI_INV_LO_INV Reg.DIO_DI_INV_HI_INV) n (!diValid s n)) .a
      (Reg.DIO_DISTAT_VALID n) (diValid s n)) .a k = word s .a k :=
    (hk.word_wrB (f := Reg.DIO_DISTAT_VALID n) (asideSupply_distat n) _).trans
      (hk.word_putBank (by decide) (by decide) n _)
  simp only [diShow, apply_ite (fun t : State => word t .a k), word_modIo, hshown, ite_self]

theorem word_putWb (n : Nat) (on : Bool) : word (putWb s n on) .a k = word s .a k := by
  unfold putWb
  calc _ = word (diShow (wrB (putBank s .a (loHi Reg.DIO_DI_WB_LO_WB Reg.DIO_DI_WB_HI_WB) n on) .a
            (Reg.DIO_DISTAT_WIRE_BREAK n) on) n) .a k := hk.outKey.word_tallyAll ..
    _ = word (putBank s .a (loHi Reg.DIO_DI_WB_LO_WB Reg.DIO_DI_WB_HI_WB) n on) .a k :=
        (hk.word_diShow n).trans (hk.word_wrB (f := Reg.DIO_DISTAT_WIRE_BREAK n) (asideSupply_distat n) on)
    _ = word s .a k := hk.word_putBank (by decide) (by decide) n on

theorem word_doDiag (n j : Nat) (on : Bool) : word (doDiag s n j on) .a k = word s .a k := by
  unfold doDiag
  rw [hk.outKey.word_tallyAll, hk.word_wrBit (.inl (by decide)),
    hk.word_wrB (f := doFlag j n) (asideSupply_dostat n)]

theorem word_doBall (n : Nat) : word (doBall s n) .a k = word s .a k := hk.word_wrBit (.inl (by decide)) n _

/-- The mask of a group's diagnostics changes the flags of its inputs and outputs alone. -/
theorem word_maskGroup (g : Nat) : word (maskGroup s g) .a k = word s .a k := by
  have hinputs (t : State) (j : Nat) :
      word (if rdB t .a (Reg.DIO_DISTAT_WIRE_BREAK (8 * g + j)) then putWb t (8 * g + j) false else t) .a k
        = word t .a k := by
    simp only [apply_ite (fun t : State => word t .a k), hk.word_putWb, ite_self]
  have hflag (n : Nat) (t : State) (j : Nat) :
      word (if rdB t .a (doFlag j n) then doDiag t n j false else t) .a k = word t .a k := by
    simp only [apply_ite (fun t : State => word t .a k), hk.word_doDiag, ite_self]
  have hmasked := foldl_unchanged (fun t => word t .a k) hinputs (List.range 8) s
  unfold maskGroup
  dsimp only
  split
  · exact hmasked
  · refine (foldl_unchanged (fun t => word t .a k) (fun t j => ?_) _ _).trans hmasked
    rw [word_modIo]
    exact foldl_unchanged (fun t => word t .a k) (hflag _) _ t

end SupplyKey

section Supply

variable {s t : State} {g k : Nat}

/-- DIO_SUP with group `g` in state `new`: 1 MISSING, 2 LOW, 3 GOOD. -/
def supplyShown (s : State) (g new : Nat) : State :=
  wrBit (wrBit s .a Reg.DIO_SUP_MISSING g (new == 1)) .a Reg.DIO_SUP_LOW g (new == 2)

/-- A change of state shows in DIO_SUP; what follows it changes neither the states nor the voltages of the groups. -/
theorem SupplyKey.word_supplyChange (hk : SupplyKey k) (g new mv : Nat) :
    word (supplyChange s g new mv) .a k = word (supplyShown s g new) .a k := by
  have hinputs (t : State) (j : Nat) :
      word (diShow (wrB t .a (Reg.DIO_DISTAT_SUPPLY_INVALID (8 * g + j)) (new != 3)) (8 * g + j)) .a k
        = word t .a k :=
    (hk.word_diShow _).trans (hk.word_wrB (f := Reg.DIO_DISTAT_SUPPLY_INVALID _) (asideSupply_distat _) _)
  have houtputs (t : State) (j : Nat) :
      word (doBall (wrB t .a (Reg.DIO_DOSTAT_SUPPLY_INVALID (8 * g + j)) (new != 3)) (8 * g + j)) .a k
        = word t .a k :=
    (hk.word_doBall _).trans (hk.word_wrB (f := Reg.DIO_DOSTAT_SUPPLY_INVALID _) (asideSupply_dostat _) _)
  simp only [supplyChange, hk.outKey.word_tallyAll, hk.outKey.word_ledgerField,
    apply_ite (fun t : State => word t .a k), hk.word_maskGroup, foldl_unchanged (fun t => word t .a k) hinputs,
    foldl_unchanged (fun t => word t .a k) houtputs, ite_self, supplyShown]

/-- The states of the groups are what DIO_SUP shows. -/
theorem supplyState_of_word (hw : word t .a 0xD0050 = word s .a 0xD0050) (g : Nat) :
    supplyState t g = supplyState s g := by
  have hmissing : rd t .a Reg.DIO_SUP_MISSING = rd s .a Reg.DIO_SUP_MISSING := rd_of_word_eq hw
  have hlow : rd t .a Reg.DIO_SUP_LOW = rd s .a Reg.DIO_SUP_LOW := rd_of_word_eq hw
  unfold supplyState rdBit
  rw [hmissing, hlow]

theorem supplyState_supplyShown {new : Nat} (hg : g ≤ 7) (hnew : 1 ≤ new ∧ new ≤ 3) :
    supplyState (supplyShown s g new) g = new := by
  have hlow : rdBit (supplyShown s g new) .a Reg.DIO_SUP_LOW g = (new == 2) :=
    rdBit_wrBit_same _ _ _ _ _ (by decide) (by decide) (by simp only [Reg.DIO_SUP_LOW]; omega)
  have hmissing : rdBit (supplyShown s g new) .a Reg.DIO_SUP_MISSING g = (new == 1) := by
    rw [supplyShown, rdBit, rd_wrBit_disj (e := Reg.DIO_SUP_MISSING) (f := Reg.DIO_SUP_LOW) _ _ rfl (by decide)
      (by decide) (by decide) (by decide)]
    exact rdBit_wrBit_same _ _ _ _ _ (by decide) (by decide) (by simp only [Reg.DIO_SUP_MISSING]; omega)
  simp only [supplyState, hmissing, hlow, beq_iff_eq]
  split
  · omega
  · split <;> omega

theorem supplyState_supplyChange {new : Nat} (mv : Nat) (hg : g ≤ 7) (hnew : 1 ≤ new ∧ new ≤ 3) :
    supplyState (supplyChange s g new mv) g = new :=
  (supplyState_of_word (supplyKey_sup.word_supplyChange g new mv) g).trans (supplyState_supplyShown hg hnew)

theorem supplyBand_range (cur mv : Nat) : 1 ≤ supplyBand cur mv ∧ supplyBand cur mv ≤ 3 := by
  unfold supplyBand
  repeat' split
  all_goals decide

/-- The voltage of group `g` in DIO_SUPV. -/
def supvField (g : Nat) : Fld := ⟨(Reg.DIO_SUPV_V_EVEN (g / 2)).key, 16 * (g % 2) + 15, 16 * (g % 2)⟩

theorem supvField_key (hg : g ≤ 7) : (supvField g).key = 0xD0060 + g / 2 * 4 := instKey_of_lt (by omega)

theorem supplyKey_supv (hg : g ≤ 7) : SupplyKey (supvField g).key := by
  rw [supvField_key hg]
  constructor <;> omega

theorem supv_supplyChange (new mv : Nat) (hg : g ≤ 7) :
    rd (supplyChange s g new mv) .a (supvField g) = rd s .a (supvField g) := by
  have haside : (supvField g).key % 0x100000000 ≠ 0xD0050 % 0x100000000 := by
    rw [supvField_key hg]
    omega
  refine (rd_of_word_eq ((supplyKey_supv hg).word_supplyChange g new mv)).trans ?_
  exact (rd_wrBit_addr _ _ _ _ _ _ _ haside).trans (rd_wrBit_addr _ _ _ _ _ _ _ haside)

/-- Measurements of group `g` in a row in one band beside its state, with this one. -/
def supplyRun (s : State) (g mv : Nat) : Nat :=
  let b := supplyBand (supplyState s g) mv
  if b = supplyState s g then 0 else if nget s.field.io.supBand g = b then nget s.field.io.supN g + 1 else 1

/-- A measurement as the field die holds it, before a change of state. -/
def supplySampled (s : State) (g mv : Nat) : State :=
  modIo (wr s .a (supvField g) (min 65535 (mv / 10))) fun x => { x with
    supN := nset x.supN g (if supplyRun s g mv < 10 then supplyRun s g mv else 0)
    supBand := nset x.supBand g (supplyBand (supplyState s g) mv) }

theorem exec_supplyMeasure_group (mv : Nat) (hg : g ≤ 7) : exec (.supplyMeasure g mv) s = .next
    (if 10 ≤ supplyRun s g mv then supplyChange (supplySampled s g mv) g (supplyBand (supplyState s g) mv) mv
      else supplySampled s g mv) := by
  rw [exec_supplyMeasure, execSupplyMeasure, if_neg (Nat.not_lt.mpr hg)]
  rfl

theorem supv_supplySampled (s : State) (g mv : Nat) :
    rd (supplySampled s g mv) .a (supvField g) = min 65535 (mv / 10) := by
  have hwidth : (supvField g).hi + 1 - (supvField g).lo = 16 := by
    simp only [supvField]
    omega
  have hhi : (supvField g).hi < 32 := by
    simp only [supvField]
    omega
  refine rd_wr_same' s .a (supvField g) (min 65535 (mv / 10)) (Nat.le_add_right ..) hhi ?_
  rw [hwidth]
  omega

theorem supplyMeasure_spec (mv : Nat) (hg : g ≤ 7) : Completes (.supplyMeasure g mv) s fun t =>
    rd t .a (supvField g) = min 65535 (mv / 10) ∧
    (supplyBand (supplyState s g) mv ≠ supplyState s g → nget s.field.io.supBand g = supplyBand (supplyState s g) mv →
      9 ≤ nget s.field.io.supN g → supplyState t g = supplyBand (supplyState s g) mv) := by
  refine ⟨_, exec_supplyMeasure_group mv hg, ?_, fun hnew hband hten => ?_⟩
  · split
    · rw [supv_supplyChange _ _ hg, supv_supplySampled]
    · exact supv_supplySampled s g mv
  · have hrun : 10 ≤ supplyRun s g mv := by
      simp only [supplyRun, if_neg hnew, if_pos hband]
      omega
    rw [if_pos hrun]
    exact supplyState_supplyChange mv hg (supplyBand_range _ _)

end Supply

/-! ### A window of a digital input (R430, R431, R433) -/

section Inputs

variable {s t : State} {n : Nat} {e f : Fld}

/-- Another field of DIO_DISTAT of input `n` than VALID and WIRE_BREAK. -/
structure DistatField (n : Nat) (e : Fld) : Prop where
  input : n ≤ 63
  key : e.key = (Reg.DIO_DISTAT_STATE n).key
  le : e.lo ≤ e.hi
  apart : 30 < e.lo ∨ e.hi < 29

theorem distatField_state (hn : n ≤ 63) : DistatField n (Reg.DIO_DISTAT_STATE n) :=
  ⟨hn, rfl, by simp [Reg.DIO_DISTAT_STATE], .inl (by simp [Reg.DIO_DISTAT_STATE])⟩

theorem distatField_current (hn : n ≤ 63) : DistatField n (Reg.DIO_DISTAT_CURRENT n) :=
  ⟨hn, rfl, by simp [Reg.DIO_DISTAT_CURRENT], .inr (by simp [Reg.DIO_DISTAT_CURRENT])⟩

namespace DistatField

variable (he : DistatField n e)

include he

theorem key_eq : e.key = 0xD0100 + n * 8 := he.key.trans (instKey_of_lt (Nat.lt_succ_of_le he.input))

theorem outKey : OutKey e.key := by
  have hn := he.input
  refine .inr ?_
  rw [he.key_eq, keyBlock]
  omega

theorem rd_wrB_valid (b : Bool) : rd (wrB s .a (Reg.DIO_DISTAT_VALID n) b) .a e = rd s .a e :=
  rd_wrB_disj _ _ _ _ _ he.key (Nat.le_refl 30) he.le (by decide : 30 < 32) (by
    have hapart := he.apart
    simp only [Reg.DIO_DISTAT_VALID]
    omega)

theorem rd_wrB_wireBreak (b : Bool) : rd (wrB s .a (Reg.DIO_DISTAT_WIRE_BREAK n) b) .a e = rd s .a e :=
  rd_wrB_disj _ _ _ _ _ he.key (Nat.le_refl 29) he.le (by decide : 29 < 32) (by
    have hapart := he.apart
    simp only [Reg.DIO_DISTAT_WIRE_BREAK]
    omega)

/-- The sums of all inputs stand before the inputs' own registers. -/
theorem rd_putBank {lo hi : Fld} (hlo : lo.key < 0xD0050) (hhi : hi.key < 0xD0050) (b : Bool) :
    rd (putBank s .a (loHi lo hi) n b) .a e = rd s .a e := by
  have hn := he.input
  have hbank : (loHi lo hi (n / 32)).key < 0xD0050 := by
    unfold loHi
    split <;> assumption
  refine rd_wrBit_addr _ _ _ _ _ _ _ ?_
  rw [he.key_eq]
  omega

theorem rd_diShow : rd (diShow s n) .a e = rd s .a e := by
  have hshown : rd (wrB (putBank s .a (loHi Reg.DIO_DI_INV_LO_INV Reg.DIO_DI_INV_HI_INV) n (!diValid s n)) .a
      (Reg.DIO_DISTAT_VALID n) (diValid s n)) .a e = rd s .a e :=
    (he.rd_wrB_valid _).trans (he.rd_putBank (by decide) (by decide) _)
  have hdated (t : State) (f : FieldIo → FieldIo) : rd (modIo t f) .a e = rd t .a e := rfl
  simp only [diShow, apply_ite (fun t : State => rd t .a e), hdated, hshown, ite_self]

theorem rd_putWb (on : Bool) : rd (putWb s n on) .a e = rd s .a e := by
  unfold putWb
  calc _ = rd (diShow (wrB (putBank s .a (loHi Reg.DIO_DI_WB_LO_WB Reg.DIO_DI_WB_HI_WB) n on) .a
            (Reg.DIO_DISTAT_WIRE_BREAK n) on) n) .a e := rd_of_word_eq (he.outKey.word_tallyAll ..)
    _ = rd (putBank s .a (loHi Reg.DIO_DI_WB_LO_WB Reg.DIO_DI_WB_HI_WB) n on) .a e :=
        he.rd_diShow.trans (he.rd_wrB_wireBreak on)
    _ = rd s .a e := he.rd_putBank (by decide) (by decide) on

/-- Wire-break detection leaves the state and the current of the input. -/
theorem rd_diWire (cur k : Nat) (on : Bool) : rd (diWire s n cur k on) .a e = rd s .a e := by
  have hrecorded (t : State) (b : Bool) (bs : List Sys2Proof.Byte) :
      rd (ledgerField (putWb t n b) 0x0C02 bs) .a e = rd t .a e :=
    (rd_of_word_eq (he.outKey.word_ledgerField ..)).trans (he.rd_putWb b)
  have hcounted (t : State) (f : FieldIo → FieldIo) : rd (modIo t f) .a e = rd t .a e := rfl
  simp only [diWire, apply_ite (fun t : State => rd t .a e), hrecorded, hcounted, ite_self]

/-- What follows the new state of an input, its numbers and counts, leaves DIO_DISTAT. -/
theorem rd_diChange (on : Bool) (inst : Nat) : rd (diChange s n on inst) .a e =
    rd (wrB (putBank s .a (loHi Reg.DIO_DI_LO_STATE Reg.DIO_DI_HI_STATE) n on) .a (Reg.DIO_DISTAT_STATE n) on) .a e := by
  have hn := he.input
  have hcounts (hs : List HalfId) (t : State) :
      rd (hs.foldl (fun s h => count s h (0x144 + n)) t) .a e = rd t .a e :=
    foldl_unchanged (fun t => rd t .a e) (fun t h => rd_of_word_eq (he.outKey.word_count ..)) hs t
  have hseq (t : State) : rd (wrapInc t .a (Reg.DIO_DISEQ_SEQ n)) .a e = rd t .a e := by
    refine rd_wrapInc_addr _ _ _ _ _ ?_
    have hkey : (Reg.DIO_DISEQ_SEQ n).key = 0xD0104 + n * 8 := instKey_of_lt (Nat.lt_succ_of_le hn)
    rw [he.key_eq, hkey]
    omega
  refine (hcounts _ _).trans ((hseq _).trans ?_)
  exact rd_of_word_eq (he.outKey.word_evBump ..)

end DistatField

theorem rdB_state_diChange (on : Bool) (inst : Nat) (hn : n ≤ 63) :
    rdB (diChange s n on inst) .a (Reg.DIO_DISTAT_STATE n) = on := by
  rw [rdB, (distatField_state hn).rd_diChange on inst]
  exact rdB_wrB_same _ _ (Reg.DIO_DISTAT_STATE n) on rfl (by decide : 31 < 32)

theorem rd_current_diChange (on : Bool) (inst : Nat) (hn : n ≤ 63) :
    rd (diChange s n on inst) .a (Reg.DIO_DISTAT_CURRENT n) = rd s .a (Reg.DIO_DISTAT_CURRENT n) := by
  have he := distatField_current hn
  rw [he.rd_diChange on inst, rd_wrB_disj _ _ (Reg.DIO_DISTAT_STATE n) (Reg.DIO_DISTAT_CURRENT n) _ rfl
    (Nat.le_refl 31) he.le (by decide : 31 < 32) (.inr (by decide : 7 < 31))]
  exact he.rd_putBank (by decide) (by decide) on

/-- The run of windows of input `n`. -/
def diRun (s : State) (n : Nat) : DiRun := sget (fun _ => default) s.field.io.di n

/-- Windows of input `n` in a row at the other level, with one at `level`. -/
def diCount (s : State) (n : Nat) (level : Bool) : Nat :=
  if level == rdB s .a (Reg.DIO_DISTAT_STATE n) then 0 else (diRun s n).n + 1

/-- The start of the run that a window at `inst` belongs to. -/
def diFirst (s : State) (n inst : Nat) : Nat := if (diRun s n).n = 0 then inst else (diRun s n).first

/-- A window of input `n` as the field die holds it, before a change of state. -/
def diSeen (s : State) (n : Nat) (level : Bool) (current inst : Nat) : State :=
  modIo (wr s .a (Reg.DIO_DISTAT_CURRENT n) (min current 255)) fun x => { x with
    di := smod (fun _ => default) x.di n fun r =>
      { r with n := if diK s n ≤ diCount s n level then 0 else diCount s n level, first := diFirst s n inst } }

/-- The same after the debounce count. -/
def diDebounced (s : State) (n : Nat) (level : Bool) (current inst : Nat) : State :=
  if diK s n ≤ diCount s n level then diChange (diSeen s n level current inst) n level (diFirst s n inst)
  else diSeen s n level current inst

theorem exec_diWindow_supplied (level : Bool) (current inst : Nat) (hn : n ≤ 63)
    (hsup : rdBit s .a Reg.DIO_SUP_MISSING (n / 8) = false) : exec (.diWindow n level current inst) s = .next
    (if groupGood s (n / 8) then diWire (diDebounced s n level current inst) n current (diK s n)
        (rdB (diDebounced s n level current inst) .a (Reg.DIO_DISTAT_STATE n))
      else diDebounced s n level current inst) := by
  rw [exec_diWindow, execDiWindow, if_neg (by simp [hsup, hn])]
  rfl

theorem rd_current_diSeen (level : Bool) (current inst : Nat) :
    rd (diSeen s n level current inst) .a (Reg.DIO_DISTAT_CURRENT n) = min current 255 :=
  rd_wr_same' s .a (Reg.DIO_DISTAT_CURRENT n) (min current 255) (by decide : 0 ≤ 7) (by decide : 7 < 32)
    (Nat.lt_succ_of_le (Nat.min_le_right current 255))

theorem rdB_state_diSeen (level : Bool) (current inst : Nat) :
    rdB (diSeen s n level current inst) .a (Reg.DIO_DISTAT_STATE n) = rdB s .a (Reg.DIO_DISTAT_STATE n) := by
  have hstay := rd_wr_disjoint s .a (Reg.DIO_DISTAT_CURRENT n) (Reg.DIO_DISTAT_STATE n) (min current 255) rfl
    (by decide : 0 ≤ 7) (Nat.le_refl 31) (by decide : 7 < 32) (.inl (by decide : 7 < 31))
  exact congrArg (· != 0) hstay

theorem rd_current_diDebounced (level : Bool) (current inst : Nat) (hn : n ≤ 63) :
    rd (diDebounced s n level current inst) .a (Reg.DIO_DISTAT_CURRENT n) = min current 255 := by
  unfold diDebounced
  split
  · rw [rd_current_diChange _ _ hn, rd_current_diSeen]
  · exact rd_current_diSeen level current inst

theorem diCount_other {level : Bool} (hlevel : level ≠ rdB s .a (Reg.DIO_DISTAT_STATE n)) :
    diCount s n level = (diRun s n).n + 1 := if_neg (by simpa using hlevel)

/-- The window's effect on DIO_DISTAT of its input is there before wire-break detection. -/
theorem exec_diWindow_distat (level : Bool) (current inst : Nat) (hn : n ≤ 63)
    (hsup : rdBit s .a Reg.DIO_SUP_MISSING (n / 8) = false) : Completes (.diWindow n level current inst) s fun t =>
    ∀ e, DistatField n e → rd t .a e = rd (diDebounced s n level current inst) .a e := by
  refine ⟨_, exec_diWindow_supplied level current inst hn hsup, fun e he => ?_⟩
  split
  · exact he.rd_diWire ..
  · rfl

theorem diWindow_spec (level : Bool) (current inst : Nat) (hn : n ≤ 63)
    (hsup : rdBit s .a Reg.DIO_SUP_MISSING (n / 8) = false) : Completes (.diWindow n level current inst) s fun t =>
    rd t .a (Reg.DIO_DISTAT_CURRENT n) = min current 255 ∧
    (level ≠ rdB s .a (Reg.DIO_DISTAT_STATE n) → diK s n ≤ (diRun s n).n + 1 →
      rdB t .a (Reg.DIO_DISTAT_STATE n) = level) ∧
    (level ≠ rdB s .a (Reg.DIO_DISTAT_STATE n) → (diRun s n).n + 1 < diK s n →
      rdB t .a (Reg.DIO_DISTAT_STATE n) = rdB s .a (Reg.DIO_DISTAT_STATE n)) := by
  obtain ⟨t, hnext, hdistat⟩ := exec_diWindow_distat level current inst hn hsup
  have hstate : rdB t .a (Reg.DIO_DISTAT_STATE n) =
      rdB (diDebounced s n level current inst) .a (Reg.DIO_DISTAT_STATE n) :=
    congrArg (· != 0) (hdistat _ (distatField_state hn))
  refine ⟨t, hnext, ?_, fun hlevel hlong => ?_, fun hlevel hshort => ?_⟩
  · rw [hdistat _ (distatField_current hn), rd_current_diDebounced _ _ _ hn]
  · rw [hstate, diDebounced, if_pos (by rwa [diCount_other hlevel]), rdB_state_diChange _ _ hn]
  · rw [hstate, diDebounced, if_neg (by rw [diCount_other hlevel]; omega), rdB_state_diSeen]

end Inputs

/-! ### Disagreement, trip-circuit supervision, overcurrent of a group (R415, R417, R435) -/

section Flags

variable {s : State}

/-- The disagreement bit of an output lies inside its field of TRM. -/
theorem disBit_fits {code : Nat} (hcode : code < 16 ∨ 32 ≤ code ∧ code < 64) : OutKey (disBit code).1.key ∧
    (disBit code).1.lo ≤ (disBit code).1.hi ∧ (disBit code).1.hi < 32 ∧
    (disBit code).2 < (disBit code).1.hi + 1 - (disBit code).1.lo := by
  unfold disBit OutKey
  split
  · exact ⟨.inl (by decide : keyBlock Reg.TRM_DISAGREE_FTO.key = 11), Nat.zero_le 15, (by decide : 15 < 32),
      ‹code < 16›⟩
  · split
    · exact ⟨.inl (by decide : keyBlock Reg.TRM_DISAGREE_DO.key = 11), (by decide : 16 ≤ 31), (by decide : 31 < 32),
        (by omega : code - 32 < 16)⟩
    · exact ⟨.inl (by decide : keyBlock Reg.TRM_DISAGREE_HI_DO_HI.key = 11), Nat.zero_le 15, (by decide : 15 < 32),
        (by omega : code - 48 < 16)⟩

/-- The timer shows whether the vote inputs of a known output differ, with a record of a change. -/
theorem exec_voteDisagreeTimer_known {code : Nat} (htwo : twoHalves s = true) (ha : absent s .a = false)
    (hb : absent s .b = false)
    (hcode : code < 16 ∨ (32 ≤ code ∧ code < 64 ∧ rdBit s .a Reg.TRM_CLASS_DO_TRIP (code - 32) = true)) :
    ∃ bs, exec (.voteDisagreeTimer code) s = .next
      (if ((voteInputs s code).1 != (voteInputs s code).2) == rdBit s .a (disBit code).1 (disBit code).2 then s
        else ledgerField (wrBit s .a (disBit code).1 (disBit code).2 ((voteInputs s code).1 != (voteInputs s code).2))
          0x0B04 bs) := by
  have hknown : (decide (code < 16) || (decide (32 ≤ code) && decide (code < 64) &&
      rdBit s .a Reg.TRM_CLASS_DO_TRIP (code - 32))) = true := by simpa [and_assoc] using hcode
  rw [exec_voteDisagreeTimer, execVoteDisagreeTimer, if_neg (by simp [hknown, htwo, ha, hb])]
  exact ⟨_, rfl⟩

theorem voteDisagreeTimer_spec {code : Nat} (htwo : twoHalves s = true) (ha : absent s .a = false)
    (hb : absent s .b = false)
    (hcode : code < 16 ∨ (32 ≤ code ∧ code < 64 ∧ rdBit s .a Reg.TRM_CLASS_DO_TRIP (code - 32) = true)) :
    Completes (.voteDisagreeTimer code) s fun t =>
      rdBit t .a (disBit code).1 (disBit code).2 = ((voteInputs s code).1 != (voteInputs s code).2) := by
  obtain ⟨hout, hle, hhi, hbit⟩ := disBit_fits (hcode.imp_right fun h => ⟨h.1, h.2.1⟩)
  obtain ⟨bs, hnext⟩ := exec_voteDisagreeTimer_known htwo ha hb hcode
  refine ⟨_, hnext, ?_⟩
  split
  · next hsame => exact (beq_iff_eq.mp hsame).symm
  · rw [rdBit, rd_of_word_eq (hout.word_ledgerField ..)]
    exact rdBit_wrBit_same _ _ _ _ _ hle hhi hbit

theorem tcsFailTimer_spec {k : Nat} (hk : k ≤ 3) (hen : rdB s .a (Reg.TRM_TCS_CFG_EN k) = true)
    (hpaused : rdB s .a (Reg.TRM_TCS_STAT_PAUSED k) = false) : Completes (.tcsFailTimer k) s fun t =>
    rdB t .a (Reg.TRM_TCS_STAT_FAIL k) = rdB s .a (Reg.TRM_TCS_STAT_OPEN k) := by
  have hout : OutKey (Reg.TRM_TCS_STAT_FAIL k).key := by
    have hkey : (Reg.TRM_TCS_STAT_FAIL k).key = 0xB8044 + k * 8 := instKey_of_lt (Nat.lt_succ_of_le hk)
    refine .inl ?_
    rw [hkey, keyBlock]
    omega
  refine ⟨_, exec_tcsFailTimer s k, ?_⟩
  by_cases hsame : rdB s .a (Reg.TRM_TCS_STAT_FAIL k) = rdB s .a (Reg.TRM_TCS_STAT_OPEN k)
  · rw [if_pos (by simp [hsame])]
    exact hsame
  · rw [if_neg (by simp [hk, hen, hpaused, hsame])]
    refine (congrArg (· != 0) (hout.rd_recorded ..)).trans ?_
    exact rdB_wrB_same _ _ (Reg.TRM_TCS_STAT_FAIL k) _ rfl (by decide : 31 < 32)

theorem grpOvercurrent_spec {g : Nat} (current : Nat) (hg : g ≤ 3) : Completes (.grpOvercurrent g current) s fun t =>
    rdBit t .a Reg.DIO_SUP_GRP_OC g = decide (3300 < current) := by
  have hout : OutKey Reg.DIO_SUP_GRP_OC.key := .inr rfl
  refine ⟨_, exec_grpOvercurrent s g current, ?_⟩
  by_cases hsame : rdBit s .a Reg.DIO_SUP_GRP_OC g = decide (3300 < current)
  · rw [if_pos (.inr hsame)]
    exact hsame
  · rw [if_neg (by simp [hsame, hg])]
    refine (congrArg (bit · g) (hout.rd_recorded ..)).trans ?_
    exact rdBit_wrBit_same _ _ _ _ _ (by decide) (by decide) (by simp only [Reg.DIO_SUP_GRP_OC]; omega)

end Flags

/-- Settles O43: a supply measurement by the registers of the groups, which the flags of inputs and outputs leave; a
window by DIO_DISTAT of its input, which wire-break detection leaves; the three flags by the one write that sets them,
which its record leaves. -/
theorem fieldInputCommands : Obligations.FieldInputCommands :=
  ⟨fun _ mv _ hg => supplyMeasure_spec mv hg,
    fun _ level current inst _ hn hsup => diWindow_spec level current inst hn hsup,
    fun _ _ htwo ha hb hcode => voteDisagreeTimer_spec htwo ha hb hcode,
    fun _ _ hk hen hpaused => tcsFailTimer_spec hk hen hpaused,
    fun _ current _ hg => grpOvercurrent_spec current hg⟩

end Sys2Proof.Machine
end

section
/-!
PROOFS of the statement about the diagnostics of digital outputs, the leader-class refresh, its timeout and DIO_CMD.
-/

namespace Sys2Proof.Machine

open Sys2Proof (HalfId Instr)

/-! ### One bit of a field beside another -/

section Bits

variable {v i j : Nat} {s : State} {h : HalfId} {f : Fld}

/-- A bit added where there was none leaves the others. -/
theorem bit_add_two_pow (hclear : bit v i = false) (hne : j ≠ i) : bit (v + 2 ^ i) j = bit v j := by
  rcases Nat.lt_or_gt_of_ne hne with hlt | hgt
  · have hpow : 2 ^ i = 2 ^ j * (2 * 2 ^ (i - j - 1)) := by
      rw [← Nat.pow_succ', ← Nat.pow_add]
      congr 1
      omega
    rw [bit, bit, hpow, Nat.add_mul_div_left _ _ (Nat.two_pow_pos j), Nat.add_mul_mod_self_left]
  · have hpow : 2 ^ j = 2 ^ i * (2 * 2 ^ (j - i - 1)) := by
      rw [← Nat.pow_succ', ← Nat.pow_add]
      congr 1
      omega
    have heven : v / 2 ^ i % 2 = 0 := by
      simp only [bit, beq_eq_false_iff_ne] at hclear
      omega
    rw [bit, bit, hpow, ← Nat.div_div_eq_div_mul, ← Nat.div_div_eq_div_mul, Nat.add_div_right _ (Nat.two_pow_pos i),
      ← Nat.div_div_eq_div_mul, ← Nat.div_div_eq_div_mul, show (v / 2 ^ i).succ / 2 = v / 2 ^ i / 2 by omega]

/-- Setting one bit leaves the others. -/
theorem bit_putBit_ne (b : Bool) (hne : j ≠ i) : bit (putBit v i b) j = bit v j := by
  by_cases hsame : bit v i = b
  · rw [putBit, if_pos (by simpa using hsame)]
  · have hput : putBit v i b = if b then v + 2 ^ i else v - 2 ^ i := if_neg (by simpa using hsame)
    have hnew := bit_putBit_same v i b
    rw [hput] at hnew ⊢
    cases b with
    | true => exact bit_add_two_pow (by simpa using hsame) hne
    | false =>
      have hle : 2 ^ i ≤ v := by
        refine Nat.le_of_not_lt fun hlt => hsame ?_
        simp [bit, Nat.div_eq_of_lt hlt]
      have hback := bit_add_two_pow (v := v - 2 ^ i) hnew hne
      rw [Nat.sub_add_cancel hle] at hback
      exact hback.symm

theorem rdBit_wrBit_ne (b : Bool) (hl : f.lo ≤ f.hi) (hh : f.hi < 32) (hj : j < f.hi + 1 - f.lo) (hne : j ≠ i) :
    rdBit (wrBit s h f i b) h f j = rdBit s h f j := by
  have hput : bit (putBit (rd s h f) i b % 2 ^ (f.hi + 1 - f.lo)) j = bit (putBit (rd s h f) i b) j := by
    simp only [bit_eq_testBit, Nat.testBit_mod_two_pow, decide_eq_true hj, Bool.true_and]
  rw [rdBit, wrBit, rd_wr_same _ _ _ _ hl hh, hput]
  exact bit_putBit_ne b hne

end Bits

/-! ### The registers of outputs -/

section OutputRegisters

variable {s t : State} {g h : HalfId} {k n m j : Nat} {e f : Fld}

theorem rdB_of_word_eq (hw : word t g e.key = word s g e.key) : rdB t g e = rdB s g e :=
  congrArg (· != 0) (rd_of_word_eq hw)

theorem rdBit_of_word_eq (i : Nat) (hw : word t g e.key = word s g e.key) : rdBit t g e i = rdBit s g e i :=
  congrArg (bit · i) (rd_of_word_eq hw)

/-- The key of a register of DIO that does not sum up the outputs' levels or faults. -/
structure OutputKey (k : Nat) : Prop where
  block : keyBlock k = 13
  out : k % 0x100000000 ≠ 0xD0044
  fault : k % 0x100000000 ≠ 0xD0048

/-- The key of DIO_DOSTAT of output `n`. -/
def dostatKey (n : Nat) : Nat := (Reg.DIO_DOSTAT_OVERLOAD n).key

theorem dostatKey_eq (hn : n < 32) : dostatKey n = 0xD0400 + n * 8 := instKey_of_lt hn

/-- DIO_DOSTAT of an output that there is not stands nowhere. -/
theorem dostatKey_of_ge (hn : 32 ≤ n) : dostatKey n = nowhere := if_neg (Nat.not_lt.mpr hn)

/-- A register at another address than DIO_DOSTAT of output `n`. -/
def AsideDostat (n k : Nat) : Prop := k % 0x100000000 ≠ dostatKey n % 0x100000000

theorem asideDostat_of_lt (hk : k < 0xD0400) (n : Nat) : AsideDostat n k := by
  unfold AsideDostat
  rcases Nat.lt_or_ge n 32 with hn | hn
  · rw [dostatKey_eq hn]
    omega
  · rw [dostatKey_of_ge hn, nowhere]
    omega

theorem asideDostat_dostat (hm : m < 32) (hne : m ≠ n) : AsideDostat n (dostatKey m) := by
  unfold AsideDostat
  rw [dostatKey_eq hm]
  rcases Nat.lt_or_ge n 32 with hn | hn
  · rw [dostatKey_eq hn]
    omega
  · rw [dostatKey_of_ge hn, nowhere]
    omega

theorem docurKey_eq (hn : n < 32) : (Reg.DIO_DOCUR_CURRENT n).key = 0xD0404 + n * 8 := instKey_of_lt hn

theorem asideDostat_docur (hn : n < 32) : AsideDostat n (Reg.DIO_DOCUR_CURRENT n).key := by
  rw [AsideDostat, docurKey_eq hn, dostatKey_eq hn]
  omega

/-- The registers of single outputs. -/
theorem outputKey_single (hge : 0xD0400 ≤ k) (hlt : k < 0xD0500) : OutputKey k where
  block := by unfold keyBlock; omega
  out := by omega
  fault := by omega

theorem outputKey_dostat (hn : n < 32) : OutputKey (dostatKey n) := by
  have hkey := dostatKey_eq hn
  exact outputKey_single (by omega) (by omega)

theorem outputKey_docur (hn : n < 32) : OutputKey (Reg.DIO_DOCUR_CURRENT n).key := by
  have hkey := docurKey_eq hn
  exact outputKey_single (by omega) (by omega)

theorem outputKey_val : OutputKey Reg.DIO_DO_VAL_VAL.key := by constructor <;> decide
theorem outputKey_tmo : OutputKey Reg.DIO_DO_TMO_TMO.key := by constructor <;> decide
theorem outputKey_result : OutputKey Reg.DIO_RESULT_STATUS.key := by constructor <;> decide

namespace OutputKey

variable (hk : OutputKey k)

include hk

theorem outKey : OutKey k := .inr hk.block

theorem word_doBall (n : Nat) : word (doBall s n) g k = word s g k :=
  word_wr_ne _ _ _ _ _ _ (regKey_ne _ _ _ _ hk.out)

/-- A condition shows in its flag; the summary and the Tally cause stand elsewhere. -/
theorem word_doDiag (n j : Nat) (on : Bool) :
    word (doDiag s n j on) g k = word (wrB s .a (doFlag j n) on) g k :=
  (hk.outKey.word_tallyAll ..).trans (word_wr_ne _ _ _ _ _ _ (regKey_ne _ _ _ _ hk.fault))

theorem word_doLedger (n j : Nat) (on : Bool) : word (doLedger s n j on) g k = word s g k :=
  hk.outKey.word_of_keeps (keeps_doLedger n j on (by decide) (Keeps.refl 0x10238401240000 s)) (by decide) (by decide)

/-- A condition that sets shows in its flag. -/
theorem word_doSet (n j : Nat) : word (doSet s n j) g k =
    word (if rdB s .a (doFlag j n) then s else wrB s .a (doFlag j n) true) g k := by
  unfold doSet
  split
  · rfl
  · rw [hk.word_doLedger, hk.word_doDiag]

/-- A condition that clears shows in its flag. -/
theorem word_doClear (n j : Nat) : word (doClear s n j) g k =
    word (if rdB s .a (doFlag j n) then wrB s .a (doFlag j n) false else s) g k := by
  unfold doClear
  split
  · rw [hk.word_doLedger, hk.word_doDiag]
  · rfl

end OutputKey

/-- A write into DIO_DOSTAT leaves the other registers. -/
theorem AsideDostat.word_wr (haside : AsideDostat n k) (hf : f.key = dostatKey n) (v : Nat) :
    word (wr s .a f v) g k = word s g k :=
  word_wr_ne _ _ _ _ _ _ (regKey_ne _ _ _ _ (by rw [hf]; exact haside))

theorem AsideDostat.word_wrB (haside : AsideDostat n k) (hf : f.key = dostatKey n) (b : Bool) :
    word (wrB s .a f b) g k = word s g k := haside.word_wr hf _

namespace OutputKey

variable (hk : OutputKey k) (haside : AsideDostat n k)

include hk haside

theorem word_doDiag_aside (j : Nat) (on : Bool) : word (doDiag s n j on) g k = word s g k :=
  (hk.word_doDiag n j on).trans (haside.word_wrB (f := doFlag j n) rfl on)

theorem word_doSet_aside (j : Nat) : word (doSet s n j) g k = word s g k := by
  rw [hk.word_doSet]
  split
  · rfl
  · exact haside.word_wrB (f := doFlag j n) rfl true

theorem word_doClear_aside (j : Nat) : word (doClear s n j) g k = word s g k := by
  rw [hk.word_doClear]
  split
  · exact haside.word_wrB (f := doFlag j n) rfl false
  · rfl

theorem word_unlatchDo_aside : word (unlatchDo s n) g k = word s g k := by
  unfold unlatchDo
  rw [hk.word_doBall, haside.word_wr (f := Reg.DIO_DOSTAT_RETRIES n) rfl]
  split
  · exact hk.word_doDiag_aside haside 4 false
  · rfl

end OutputKey

/-! ### The flags of an output (R436, R437) -/

theorem rdB_doDiag_same (on : Bool) (hn : n < 32) (hj : j < 32) : rdB (doDiag s n j on) .a (doFlag j n) = on :=
  (rdB_of_word_eq (e := doFlag j n) ((outputKey_dostat hn).word_doDiag n j on)).trans
    (rdB_wrB_same _ _ (doFlag j n) on rfl hj)

/-- A condition leaves the other fields of its output. -/
theorem rd_doDiag_apart (on : Bool) (hn : n < 32) (hj : j < 32) (hkey : e.key = dostatKey n) (hle : e.lo ≤ e.hi)
    (hapart : j < e.lo ∨ e.hi < j) : rd (doDiag s n j on) .a e = rd s .a e :=
  (rd_of_word_eq (by rw [hkey]; exact (outputKey_dostat hn).word_doDiag n j on)).trans
    (rd_wrB_disj s .a (doFlag j n) e on hkey (Nat.le_refl j) hle hj hapart)

theorem rdB_doSet (hn : n < 32) (hj : j < 32) : rdB (doSet s n j) .a (doFlag j n) = true := by
  rw [rdB_of_word_eq (e := doFlag j n) ((outputKey_dostat hn).word_doSet n j)]
  split
  · assumption
  · exact rdB_wrB_same _ _ (doFlag j n) true rfl hj

theorem rdB_doClear (hn : n < 32) (hj : j < 32) : rdB (doClear s n j) .a (doFlag j n) = false := by
  rw [rdB_of_word_eq (e := doFlag j n) ((outputKey_dostat hn).word_doClear n j)]
  split
  · exact rdB_wrB_same _ _ (doFlag j n) false rfl hj
  · next hclear => exact Bool.eq_false_iff.mpr hclear

/-- A thermal shutdown latches the output, or shows OVERTEMP with or without a record. -/
theorem overtemp_cases (s : State) (n : Nat) : ∃ u f bs,
    overtemp s n = doBall (ledgerField (modIo (doDiag (doDiag u n 4 true) n 3 false) f) 0x0C05 bs) n ∨
    overtemp s n = doBall (ledgerField (modIo (doDiag u n 3 true) f) 0x0C05 bs) n ∨
    overtemp s n = doBall (modIo (doDiag u n 3 true) f) n := by
  unfold overtemp
  dsimp only
  generalize (if nget s.field.io.otAt n ≠ 0 ∧ nget s.field.io.otAt n + 125000000 ≤ s.ticks + 1 then
    wr s .a (Reg.DIO_DOSTAT_RETRIES n) 0 else s) = u
  split
  · exact ⟨_, _, _, .inl rfl⟩
  · split
    · exact ⟨_, _, _, .inr (.inl rfl)⟩
    · exact ⟨_, _, [], .inr (.inr rfl)⟩

/-- A thermal shutdown shows OVERTEMP or OT_LATCHED. -/
theorem overtemp_shows (hn : n < 32) :
    rdB (overtemp s n) .a (doFlag 3 n) = true ∨ rdB (overtemp s n) .a (doFlag 4 n) = true := by
  have hk := outputKey_dostat hn
  have hball (t : State) (j : Nat) : rdB (doBall t n) .a (doFlag j n) = rdB t .a (doFlag j n) :=
    rdB_of_word_eq (hk.word_doBall n)
  have hrecord (t : State) (bs : List Sys2Proof.Byte) (j : Nat) :
      rdB (ledgerField t 0x0C05 bs) .a (doFlag j n) = rdB t .a (doFlag j n) :=
    rdB_of_word_eq (hk.outKey.word_ledgerField ..)
  have hio (t : State) (f : FieldIo → FieldIo) (j : Nat) :
      rdB (modIo t f) .a (doFlag j n) = rdB t .a (doFlag j n) := rfl
  obtain ⟨u, f, bs, hlatch | hfirst | hlater⟩ := overtemp_cases s n
  · have hkept : rdB (doDiag (doDiag u n 4 true) n 3 false) .a (doFlag 4 n) =
        rdB (doDiag u n 4 true) .a (doFlag 4 n) :=
      congrArg (· != 0) (rd_doDiag_apart false hn (by decide) rfl (Nat.le_refl 4) (.inl (by decide : 3 < 4)))
    refine .inr ?_
    rw [hlatch, hball, hrecord, hio, hkept]
    exact rdB_doDiag_same true hn (by decide)
  · refine .inl ?_
    rw [hfirst, hball, hrecord, hio]
    exact rdB_doDiag_same true hn (by decide)
  · refine .inl ?_
    rw [hlater, hball, hio]
    exact rdB_doDiag_same true hn (by decide)

/-! ### What the functions of outputs leave of the field die's I/O -/

theorem io_ledgerField (ev : Nat) (bs : List Sys2Proof.Byte) : (ledgerField s ev bs).field.io = s.field.io :=
  (keeps_ledgerField ev bs (by decide) (Keeps.refl 0x10238401240000 s)).io (by decide)

/-! ### Measurements of an output (R436 to R438) -/

/-- The measured current of output `n` in its register. -/
def doMeasured (s : State) (n current : Nat) : State := wr s .a (Reg.DIO_DOCUR_CURRENT n) (min current 65535)

theorem rd_doMeasured (n current : Nat) :
    rd (doMeasured s n current) .a (Reg.DIO_DOCUR_CURRENT n) = min current 65535 :=
  rd_wr_same' s .a (Reg.DIO_DOCUR_CURRENT n) (min current 65535) (by decide : 0 ≤ 15) (by decide : 15 < 32)
    (Nat.lt_of_le_of_lt (Nat.min_le_right current 65535) (by decide : 65535 < 2 ^ 16))

theorem doSet_measured (current : Nat) (hn : n < 32) (hj : j < 32) :
    rd (doSet (doMeasured s n current) n j) .a (Reg.DIO_DOCUR_CURRENT n) = min current 65535 ∧
      rdB (doSet (doMeasured s n current) n j) .a (doFlag j n) = true :=
  ⟨(rd_of_word_eq ((outputKey_docur hn).word_doSet_aside (asideDostat_docur hn) j)).trans (rd_doMeasured n current),
    rdB_doSet hn hj⟩

theorem doClear_measured (current : Nat) (hn : n < 32) (hj : j < 32) :
    rd (doClear (doMeasured s n current) n j) .a (Reg.DIO_DOCUR_CURRENT n) = min current 65535 ∧
      rdB (doClear (doMeasured s n current) n j) .a (doFlag j n) = false :=
  ⟨(rd_of_word_eq ((outputKey_docur hn).word_doClear_aside (asideDostat_docur hn) j)).trans (rd_doMeasured n current),
    rdB_doClear hn hj⟩

theorem doOverload_spec {on : Bool} (current : Nat) (hn : n < 32) (hgood : groupGood s (n / 8) = true)
    (hon : on = true → doOn s n = true) : Completes (.doOverload n on current) s fun t =>
    rd t .a (Reg.DIO_DOCUR_CURRENT n) = min current 65535 ∧ rdB t .a (doFlag 0 n) = on := by
  have hnext : exec (.doOverload n on current) s = .next (if on then
      (if doOn s n then doSet (doMeasured s n current) n 0 else doMeasured s n current)
      else doClear (doMeasured s n current) n 0) := by
    rw [exec_doOverload, execDoOverload, if_neg (by simp [hgood]; omega)]
    rfl
  refine ⟨_, hnext, ?_⟩
  cases on with
  | true =>
    rw [if_pos rfl, if_pos (hon rfl)]
    exact doSet_measured current hn (by decide)
  | false => exact doClear_measured current hn (by decide)

theorem doOpenOn_spec {current : Nat} (hn : n < 32) (hgood : groupGood s (n / 8) = true)
    (hlow : current < 5 → doOn s n = true ∧ olOn s n = true) : Completes (.doOpenOn n current) s fun t =>
    rd t .a (Reg.DIO_DOCUR_CURRENT n) = min current 65535 ∧ rdB t .a (doFlag 1 n) = decide (current < 5) := by
  have hnext : exec (.doOpenOn n current) s = .next (if current < 5 then
      (if doOn s n && olOn s n then doSet (doMeasured s n current) n 1 else doMeasured s n current)
      else doClear (doMeasured s n current) n 1) := by
    rw [exec_doOpenOn, execDoOpenOn, if_neg (by simp [hgood]; omega)]
    rfl
  refine ⟨_, hnext, ?_⟩
  by_cases hcur : current < 5
  · obtain ⟨hon, hol⟩ := hlow hcur
    rw [if_pos hcur, if_pos (by simp [hon, hol]), decide_eq_true hcur]
    exact doSet_measured current hn (by decide)
  · rw [if_neg hcur, decide_eq_false hcur]
    exact doClear_measured current hn (by decide)

/-- Output `n` with `c` checks in a row above half the supply voltage. -/
def openOffCounted (s : State) (n c : Nat) : State := modIo s fun x => { x with openOff := nset x.openOff n c }

/-- The check counts where the output is OFF, supplied, supervised by itself and not OFF for a short time only. -/
theorem exec_doOpenOffCheck_counts (above : Bool) (hn : n < 32) (hgood : groupGood s (n / 8) = true)
    (hoff : rdBit s .a Reg.DIO_DO_VAL_VAL n = false) (hol : olOff s n = true) (htcs : tcsOn s n = false)
    (hat : nget s.field.io.offAt n = 0) : exec (.doOpenOffCheck n above) s = .next (if above then
      (if 3 ≤ nget s.field.io.openOff n + 1
        then doSet (openOffCounted s n (min (nget s.field.io.openOff n + 1) 3)) n 2
        else openOffCounted s n (min (nget s.field.io.openOff n + 1) 3))
      else doClear (openOffCounted s n 0) n 2) := by
  rw [exec_doOpenOffCheck, execDoOpenOffCheck]
  dsimp only
  rw [if_neg (by simp [hgood, hoff, hol, htcs, hat]; omega)]
  rfl

theorem doOpenOffCheck_spec (hn : n < 32) (hgood : groupGood s (n / 8) = true)
    (hoff : rdBit s .a Reg.DIO_DO_VAL_VAL n = false) (hol : olOff s n = true) (htcs : tcsOn s n = false)
    (hat : nget s.field.io.offAt n = 0) :
    Completes (.doOpenOffCheck n true) s (fun t => 2 ≤ nget s.field.io.openOff n → rdB t .a (doFlag 2 n) = true) ∧
    Completes (.doOpenOffCheck n false) s (fun t =>
      rdB t .a (doFlag 2 n) = false ∧ nget t.field.io.openOff n = 0) := by
  refine ⟨⟨_, exec_doOpenOffCheck_counts true hn hgood hoff hol htcs hat, fun htwo => ?_⟩,
    ⟨_, exec_doOpenOffCheck_counts false hn hgood hoff hol htcs hat, rdB_doClear hn (by decide), ?_⟩⟩
  · rw [if_pos rfl, if_pos (Nat.succ_le_succ htwo)]
    exact rdB_doSet hn (by decide)
  · rw [if_neg Bool.false_ne_true, io_doClear]
    exact nget_nset_same ..

/-! ### Thermal shutdown and retry (R436, R437) -/

theorem doOvertemp_spec (hn : n < 32) (hgood : groupGood s (n / 8) = true) (hon : doOn s n = true) :
    Completes (.doOvertemp n) s fun t => rdB t .a (doFlag 3 n) = true ∨ rdB t .a (doFlag 4 n) = true := by
  refine ⟨overtemp s n, ?_, overtemp_shows hn⟩
  rw [exec_doOvertemp, execDoOvertemp, if_pos (by simp [hn, hgood, hon])]

/-- The retry of output `n` is no longer pending. -/
def retryTaken (s : State) (n : Nat) : State := modIo s fun x => { x with retry := nset x.retry n 0 }

theorem exec_doOvertempRetry_pending (ok : Bool) (hret : nget s.field.io.retry n ≠ 0) :
    exec (.doOvertempRetry n ok) s = .next (if ok then
      doBall (modIo (doDiag (retryTaken s n) n 3 false) fun x => { x with otAt := nset x.otAt n (s.ticks + 1) }) n
      else overtemp (retryTaken s n) n) := by
  rw [exec_doOvertempRetry, execDoOvertempRetry, if_neg hret]
  rfl

theorem doOvertempRetry_spec (hn : n < 32) (hret : nget s.field.io.retry n ≠ 0) :
    Completes (.doOvertempRetry n true) s (fun t =>
      nget t.field.io.retry n = 0 ∧ rdB t .a (doFlag 3 n) = false) ∧
    Completes (.doOvertempRetry n false) s (fun t =>
      rdB t .a (doFlag 3 n) = true ∨ rdB t .a (doFlag 4 n) = true) := by
  refine ⟨⟨_, exec_doOvertempRetry_pending true hret, ?_, ?_⟩,
    ⟨_, exec_doOvertempRetry_pending false hret, overtemp_shows hn⟩⟩
  · have hio := io_doDiag (s := retryTaken s n) n 3 false
    show nget (doDiag (retryTaken s n) n 3 false).field.io.retry n = 0
    rw [hio]
    exact nget_nset_same ..
  · rw [if_pos rfl, rdB_of_word_eq (e := doFlag 3 n) ((outputKey_dostat hn).word_doBall n)]
    exact rdB_doDiag_same false hn (by decide)

/-! ### Values of outputs (R434) -/

/-- Of the registers beside DIO_DOSTAT of its output, a value shows in DIO_DO_VAL. -/
theorem OutputKey.word_setDo (hk : OutputKey k) (haside : AsideDostat n k) (v : Bool) : word (setDo s n v) g k =
    word (if rdBit s .a Reg.DIO_DO_VAL_VAL n == v then s else wrBit s .a Reg.DIO_DO_VAL_VAL n v) g k := by
  have hcounts (t : State) (hs : List HalfId) :
      word (hs.foldl (fun s h => count s h (0x184 + n)) t) g k = word t g k :=
    foldl_unchanged (fun t => word t g k) (fun _ _ => hk.outKey.word_count ..) hs t
  have hval (t : State) : word (wrB t .a (Reg.DIO_DOSTAT_VAL n) v) g k = word t g k :=
    haside.word_wrB (f := Reg.DIO_DOSTAT_VAL n) rfl v
  have hretries (t : State) : word (wr t .a (Reg.DIO_DOSTAT_RETRIES n) 0) g k = word t g k :=
    haside.word_wr (f := Reg.DIO_DOSTAT_RETRIES n) rfl 0
  unfold setDo
  split
  · rfl
  · cases v <;> simp only [Bool.false_eq_true, if_false, if_true, hk.word_doBall, word_modIo, hretries,
      apply_ite (fun t : State => word t g k), hk.word_doDiag_aside haside, hk.word_doClear_aside haside, ite_self,
      hcounts, hval]

theorem rdBit_setDo_same (v : Bool) (hn : n < 32) : rdBit (setDo s n v) .a Reg.DIO_DO_VAL_VAL n = v := by
  rw [rdBit_of_word_eq n (outputKey_val.word_setDo (asideDostat_of_lt (by decide) n) v)]
  split
  · next hsame => exact beq_iff_eq.mp hsame
  · exact rdBit_wrBit_same _ _ Reg.DIO_DO_VAL_VAL _ _ (by decide) (by decide) hn

theorem rdBit_setDo_ne (v : Bool) (hm : m < 32) (hne : m ≠ n) :
    rdBit (setDo s n v) .a Reg.DIO_DO_VAL_VAL m = rdBit s .a Reg.DIO_DO_VAL_VAL m := by
  rw [rdBit_of_word_eq m (outputKey_val.word_setDo (asideDostat_of_lt (by decide) n) v)]
  split
  · rfl
  · exact rdBit_wrBit_ne _ (by decide) (by decide) hm hne

/-- The step at an output that gives the outputs of a mask their values. -/
def setDosStep (mask v : Nat) (s : State) (n : Nat) : State := if bit mask n then setDo s n (bit v n) else s

theorem setDos_eq (mask v : Nat) : setDos s mask v = (List.range 32).foldl (setDosStep mask v) s := rfl

theorem setDosStep_same {mask : Nat} (v : Nat) (hn : n < 32) (hbit : bit mask n = true) :
    rdBit (setDosStep mask v s n) .a Reg.DIO_DO_VAL_VAL n = bit v n := by
  rw [setDosStep, if_pos hbit]
  exact rdBit_setDo_same _ hn

/-- An output of the mask takes its bit. -/
theorem rdBit_setDos {mask : Nat} (v : Nat) (hn : n < 32) (hbit : bit mask n = true) :
    rdBit (setDos s mask v) .a Reg.DIO_DO_VAL_VAL n = bit v n := by
  rw [setDos_eq]
  refine foldl_establishes (I := fun _ => True) (P := fun t => rdBit t .a Reg.DIO_DO_VAL_VAL n = bit v n)
    (fun _ _ _ => trivial) (fun t _ => setDosStep_same v hn hbit) (fun t b ht => ?_) (List.mem_range.mpr hn) trivial
  by_cases hb : n = b
  · subst hb
    exact setDosStep_same v hn hbit
  · unfold setDosStep
    split
    · exact (rdBit_setDo_ne _ hn hb).trans ht
    · exact ht

/-- Values of outputs leave the timeouts. -/
theorem tmo_setDos (mask v : Nat) : rd (setDos s mask v) .a Reg.DIO_DO_TMO_TMO = rd s .a Reg.DIO_DO_TMO_TMO := by
  have hstep (t : State) (n : Nat) :
      rd (setDosStep mask v t n) .a Reg.DIO_DO_TMO_TMO = rd t .a Reg.DIO_DO_TMO_TMO := by
    unfold setDosStep
    split
    · rw [rd_of_word_eq (outputKey_tmo.word_setDo (asideDostat_of_lt (by decide) n) _)]
      split
      · rfl
      · exact rd_wrBit_addr _ _ _ _ _ _ _ (by decide)
    · rfl
  rw [setDos_eq]
  exact foldl_unchanged (fun t => rd t .a Reg.DIO_DO_TMO_TMO) hstep _ s

/-! ### The leader-class refresh (R440 to R442) -/

/-- The values that a refresh of half `h` carries. -/
def refreshValues (s : State) (h : HalfId) : Nat :=
  if rdB s h Reg.LGE_STAT_RUN then nget (half s h).lge.pub areaQ else imageSafe s h

/-- The leader-class outputs after an accepted refresh. -/
def refreshDriven (s : State) (h : HalfId) : State :=
  if refreshable s then setDos s (leaderDos s) (refreshValues s h) else s

/-- The same with the refresh age restarted. -/
def refreshDated (s : State) (h : HalfId) : State :=
  modIo (refreshDriven s h) fun x => { x with refreshAt := s.ticks + 1, tmoStopped := false }

/-- The step that ends a timeout at an output. -/
def clearTimeout (s : State) (n : Nat) : State := wrB s .a (Reg.DIO_DOSTAT_TIMEOUT n) false

/-- No output is timed out. -/
def timeoutsCleared (s : State) : State := (List.range 32).foldl clearTimeout (wr s .a Reg.DIO_DO_TMO_TMO 0)

theorem exec_leaderRefresh_holder (hholds : holds s h = true) : ∃ bs, exec (.leaderRefresh h) s = .next
    (if rd s .a Reg.DIO_DO_TMO_TMO = 0 then refreshDated s h
      else ledgerField (timeoutsCleared (refreshDated s h)) 0x0C06 bs) := by
  rw [exec_leaderRefresh, execLeaderRefresh, if_neg (by simp [hholds])]
  exact ⟨_, rfl⟩

theorem io_timeoutsCleared : (timeoutsCleared s).field.io = s.field.io := by
  have hstep (t : State) (n : Nat) : (clearTimeout t n).field.io = t.field.io := rfl
  unfold timeoutsCleared
  refine (foldl_unchanged (fun t => t.field.io) hstep _ _).trans ?_
  rw [wr_field]

theorem word_timeoutsCleared (hk : k < 0xD0400) :
    word (timeoutsCleared s) .a k = word (wr s .a Reg.DIO_DO_TMO_TMO 0) .a k := by
  unfold timeoutsCleared
  exact foldl_unchanged (fun t => word t .a k)
    (fun _ n => (asideDostat_of_lt hk n).word_wrB (f := Reg.DIO_DOSTAT_TIMEOUT n) rfl false) _ _

theorem tmo_timeoutsCleared : rd (timeoutsCleared s) .a Reg.DIO_DO_TMO_TMO = 0 :=
  (rd_of_word_eq (word_timeoutsCleared (by decide))).trans (rd_wr_same _ _ Reg.DIO_DO_TMO_TMO 0 (by decide) (by decide))

theorem val_timeoutsCleared (n : Nat) :
    rdBit (timeoutsCleared s) .a Reg.DIO_DO_VAL_VAL n = rdBit s .a Reg.DIO_DO_VAL_VAL n :=
  (rdBit_of_word_eq n (word_timeoutsCleared (by decide))).trans (rdBit_addr _ _ _ _ _ _ _ (by decide))

theorem tmo_refreshDated : rd (refreshDated s h) .a Reg.DIO_DO_TMO_TMO = rd s .a Reg.DIO_DO_TMO_TMO := by
  rw [refreshDated, rd_of_word_eq (word_modIo ..), refreshDriven]
  split
  · exact tmo_setDos ..
  · rfl

theorem val_refreshDated (hn : n < 32) (href : refreshable s = true) (hrun : rdB s h Reg.LGE_STAT_RUN = true)
    (hleader : bit (leaderDos s) n = true) :
    rdBit (refreshDated s h) .a Reg.DIO_DO_VAL_VAL n = bit (nget (half s h).lge.pub areaQ) n := by
  rw [refreshDated, rdBit_of_word_eq n (word_modIo ..), refreshDriven, if_pos href,
    rdBit_setDos _ hn hleader, refreshValues, if_pos hrun]

theorem leaderRefresh_spec (hholds : holds s h = true) : Completes (.leaderRefresh h) s fun t =>
    t.field.io.refreshAt = s.ticks + 1 ∧ rd t .a Reg.DIO_DO_TMO_TMO = 0 ∧
    (refreshable s = true → rdB s h Reg.LGE_STAT_RUN = true → ∀ n < 32, bit (leaderDos s) n = true →
      rdBit t .a Reg.DIO_DO_VAL_VAL n = bit (nget (half s h).lge.pub areaQ) n) := by
  obtain ⟨bs, hnext⟩ := exec_leaderRefresh_holder hholds
  refine ⟨_, hnext, ?_⟩
  split
  · next hnone => exact ⟨rfl, tmo_refreshDated.trans hnone, fun href hrun n hn => val_refreshDated hn href hrun⟩
  · refine ⟨?_, ?_, fun href hrun n hn hleader => ?_⟩
    · rw [io_ledgerField, io_timeoutsCleared]
      rfl
    · exact (rd_of_word_eq (outputKey_tmo.outKey.word_ledgerField ..)).trans tmo_timeoutsCleared
    · rw [rdBit_of_word_eq n (outputKey_val.outKey.word_ledgerField ..), val_timeoutsCleared]
      exact val_refreshDated hn href hrun hleader

theorem leaderRefresh_discarded (hholds : holds s h = false) : Completes (.leaderRefresh h) s fun t =>
    t.field.io = s.field.io ∧
    rd t .a Reg.DIO_REFRESH_DISCARDED =
      min (rd s .a Reg.DIO_REFRESH_DISCARDED + 1) (fmax Reg.DIO_REFRESH_DISCARDED) := by
  refine ⟨satAdd s .a Reg.DIO_REFRESH_DISCARDED 1, ?_, rfl,
    rd_satAdd_same s .a Reg.DIO_REFRESH_DISCARDED 1 (by decide) (by decide)⟩
  rw [exec_leaderRefresh, execLeaderRefresh, if_pos (by simp [hholds])]

/-! ### The refresh timeout (R441, R442) -/

/-- The outputs that time out with the timers of a mask. -/
def timedOut (s : State) (mask : Nat) : Nat :=
  mask % 2 ^ 32 &&& leaderDos s &&& (rd s .a Reg.DIO_DO_TMO_TMO ^^^ 0xFFFFFFFF)

theorem timedOut_bit {mask : Nat} (hn : n < 32) (hmask : bit mask n = true) (hleader : bit (leaderDos s) n = true)
    (hnot : rdBit s .a Reg.DIO_DO_TMO_TMO n = false) : bit (timedOut s mask) n = true := by
  have hones : Nat.testBit 0xFFFFFFFF n = true := by
    rw [show 0xFFFFFFFF = 2 ^ 32 - 1 by decide, Nat.testBit_two_pow_sub_one, decide_eq_true hn]
  rw [rdBit, bit_eq_testBit] at hnot
  rw [bit_eq_testBit] at hmask hleader ⊢
  simp only [timedOut, Nat.testBit_and, Nat.testBit_xor, Nat.testBit_mod_two_pow, decide_eq_true hn, hmask, hleader,
    hnot, hones, Bool.true_and, Bool.false_xor]

/-- The step of a timeout at an output. -/
def timeoutStep (out : Nat) (s : State) (n : Nat) : State :=
  if bit out n then wrB s .a (Reg.DIO_DOSTAT_TIMEOUT n) true else s

/-- The timeouts of some outputs as DIO shows them. -/
def timeoutsShown (s : State) (all out : Nat) : State :=
  (List.range 32).foldl (timeoutStep out) (wr s .a Reg.DIO_DO_TMO_TMO all)

theorem exec_doRefreshTimeout_expires {mask : Nat} (hrun : s.field.io.tmoStopped = false)
    (hat : s.field.io.refreshAt ≠ 0) (hout : timedOut s mask ≠ 0) : ∃ u bs,
    exec (.doRefreshTimeout mask) s = .next (ledgerField
      (timeoutsShown u (rd s .a Reg.DIO_DO_TMO_TMO ||| timedOut s mask) (timedOut s mask)) 0x0C06 bs) := by
  rw [exec_doRefreshTimeout, execDoRefreshTimeout]
  unfold timedOut at hout
  dsimp only
  rw [if_neg (by rw [hrun, beq_eq_false_iff_ne.mpr hout, beq_eq_false_iff_ne.mpr hat]; decide)]
  exact ⟨_, _, rfl⟩

theorem tmo_timeoutsShown {all out : Nat} (hall : all < 2 ^ 32) :
    rd (timeoutsShown s all out) .a Reg.DIO_DO_TMO_TMO = all := by
  have hstep (t : State) (n : Nat) :
      word (timeoutStep out t n) .a Reg.DIO_DO_TMO_TMO.key = word t .a Reg.DIO_DO_TMO_TMO.key := by
    unfold timeoutStep
    split
    · exact (asideDostat_of_lt (by decide) n).word_wrB (f := Reg.DIO_DOSTAT_TIMEOUT n) rfl true
    · rfl
  exact (rd_of_word_eq (foldl_unchanged (fun t => word t .a Reg.DIO_DO_TMO_TMO.key) hstep _ _)).trans
    (rd_wr_same' _ _ Reg.DIO_DO_TMO_TMO all (by decide) (by decide) hall)

theorem timeout_timeoutsShown (all : Nat) {out : Nat} (hn : n < 32) (hbit : bit out n = true) :
    rdB (timeoutsShown s all out) .a (Reg.DIO_DOSTAT_TIMEOUT n) = true := by
  have hset (t : State) : rdB (timeoutStep out t n) .a (Reg.DIO_DOSTAT_TIMEOUT n) = true := by
    rw [timeoutStep, if_pos hbit]
    exact rdB_wrB_same _ _ (Reg.DIO_DOSTAT_TIMEOUT n) true rfl (by decide : 28 < 32)
  refine foldl_establishes (I := fun _ => True) (P := fun t => rdB t .a (Reg.DIO_DOSTAT_TIMEOUT n) = true)
    (fun _ _ _ => trivial) (fun t _ => hset t) (fun t b ht => ?_) (List.mem_range.mpr hn) trivial
  by_cases hb : n = b
  · subst hb
    exact hset t
  · unfold timeoutStep
    split
    · exact (rdB_of_word_eq (e := Reg.DIO_DOSTAT_TIMEOUT n)
        ((asideDostat_dostat hn hb).word_wrB (f := Reg.DIO_DOSTAT_TIMEOUT b) rfl true)).trans ht
    · exact ht

theorem doRefreshTimeout_spec {mask : Nat} (hn : n < 32) (hrun : s.field.io.tmoStopped = false)
    (hat : s.field.io.refreshAt ≠ 0) (hmask : bit mask n = true) (hleader : bit (leaderDos s) n = true)
    (hnot : rdBit s .a Reg.DIO_DO_TMO_TMO n = false) : Completes (.doRefreshTimeout mask) s fun t =>
    rdBit t .a Reg.DIO_DO_TMO_TMO n = true ∧ rdB t .a (Reg.DIO_DOSTAT_TIMEOUT n) = true := by
  have hbit := timedOut_bit hn hmask hleader hnot
  have hlt : rd s .a Reg.DIO_DO_TMO_TMO ||| timedOut s mask < 2 ^ 32 :=
    Nat.or_lt_two_pow (rd_lt s .a Reg.DIO_DO_TMO_TMO)
      (Nat.lt_of_le_of_lt (Nat.le_trans Nat.and_le_left Nat.and_le_left) (Nat.mod_lt mask (Nat.two_pow_pos 32)))
  have hout : timedOut s mask ≠ 0 := fun hzero => by simp [hzero, bit] at hbit
  obtain ⟨u, bs, hnext⟩ := exec_doRefreshTimeout_expires hrun hat hout
  refine ⟨_, hnext, ?_, ?_⟩
  · rw [rdBit_of_word_eq n (outputKey_tmo.outKey.word_ledgerField ..), rdBit, tmo_timeoutsShown hlt]
    rw [bit_eq_testBit] at hbit ⊢
    rw [Nat.testBit_or, hbit, Bool.or_true]
  · rw [rdB_of_word_eq (e := Reg.DIO_DOSTAT_TIMEOUT n) ((outputKey_dostat hn).outKey.word_ledgerField ..)]
    exact timeout_timeoutsShown _ hn hbit

/-! ### DIO_CMD (R447) -/

/-- The report of a DIO command that is done. -/
def dioReported (s : State) (h : HalfId) (code : Nat) : State :=
  result s h Reg.DIO_RESULT_SEQ Reg.DIO_RESULT_CMD Reg.DIO_RESULT_STATUS code 0x02

theorem dioReported_status (code : Nat) : rd (dioReported s h code) h Reg.DIO_RESULT_STATUS = 0x02 :=
  rd_result_status _ _ _ _ _ _ _ (by decide) (by decide)

theorem unlatchDo_clears (hn : n < 32) : rdB (unlatchDo s n) .a (doFlag 4 n) = false ∧
    rd (unlatchDo s n) .a (Reg.DIO_DOSTAT_RETRIES n) = 0 := by
  have hball (t : State) : word (doBall t n) .a (dostatKey n) = word t .a (dostatKey n) :=
    (outputKey_dostat hn).word_doBall n
  constructor
  · have hretries (t : State) : rdB (wr t .a (Reg.DIO_DOSTAT_RETRIES n) 0) .a (doFlag 4 n) = rdB t .a (doFlag 4 n) :=
      congrArg (· != 0) (rd_wr_disjoint t .a (Reg.DIO_DOSTAT_RETRIES n) (doFlag 4 n) 0 rfl (by decide : 5 ≤ 8)
        (Nat.le_refl 4) (by decide : 8 < 32) (.inr (by decide : 4 < 5)))
    rw [unlatchDo, rdB_of_word_eq (e := doFlag 4 n) (hball _), hretries]
    split
    · exact rdB_doDiag_same false hn (by decide)
    · next hclear => exact Bool.eq_false_iff.mpr hclear
  · rw [unlatchDo, rd_of_word_eq (e := Reg.DIO_DOSTAT_RETRIES n) (hball _)]
    exact rd_wr_same _ _ (Reg.DIO_DOSTAT_RETRIES n) 0 (by decide : 5 ≤ 8) (by decide : 8 < 32)

/-- UNLATCH_ALL clears every output. -/
theorem unlatchAll_clears (hn : n < 32) : rdB ((List.range 32).foldl unlatchDo s) .a (doFlag 4 n) = false ∧
    rd ((List.range 32).foldl unlatchDo s) .a (Reg.DIO_DOSTAT_RETRIES n) = 0 := by
  refine foldl_establishes (I := fun _ => True)
    (P := fun t => rdB t .a (doFlag 4 n) = false ∧ rd t .a (Reg.DIO_DOSTAT_RETRIES n) = 0) (fun _ _ _ => trivial)
    (fun t _ => unlatchDo_clears hn) (fun t b ht => ?_) (List.mem_range.mpr hn) trivial
  by_cases hb : n = b
  · subst hb
    exact unlatchDo_clears hn
  · have hword : word (unlatchDo t b) .a (dostatKey n) = word t .a (dostatKey n) :=
      (outputKey_dostat hn).word_unlatchDo_aside (asideDostat_dostat hn hb)
    rwa [rdB_of_word_eq (e := doFlag 4 n) hword, rd_of_word_eq (e := Reg.DIO_DOSTAT_RETRIES n) hword]

theorem word_unlatchDo_result (n : Nat) : word (unlatchDo s n) h Reg.DIO_RESULT_STATUS.key =
    word s h Reg.DIO_RESULT_STATUS.key :=
  outputKey_result.word_unlatchDo_aside (asideDostat_of_lt (by decide) n)

section Accepted

variable (hal : alive s h = true) (hmode : modeOf s h ≠ mBOOT) (hholds : holds s h = true)

include hal hmode hholds

theorem exec_unlatch_done (index : Nat) : exec (.unlatch h index) s = .next
    (ledgerField (unlatchDo (dioReported s h 1) (index % 32)) 0x0C08 (pAlt 1 (index % 32))) := by
  rw [exec_unlatch, execUnlatch, access_of_alive hal]
  simp [dioCmd, fieldStatus_done hmode hholds, holderErr, dioReported]

theorem exec_unlatchAll_done : exec (.unlatchAll h) s = .next
    (ledgerField ((List.range 32).foldl unlatchDo (dioReported s h 2)) 0x0C08 (pAlt 2 0)) := by
  rw [exec_unlatchAll, execUnlatchAll, access_of_alive hal]
  simp [dioCmd, fieldStatus_done hmode hholds, holderErr, dioReported]

theorem unlatch_spec (index : Nat) : Completes (.unlatch h index) s fun t =>
    rd t h Reg.DIO_RESULT_STATUS = 0x02 ∧ rdB t .a (doFlag 4 (index % 32)) = false ∧
    rd t .a (Reg.DIO_DOSTAT_RETRIES (index % 32)) = 0 := by
  have hn : index % 32 < 32 := Nat.mod_lt _ (by decide)
  obtain ⟨hlatched, hretries⟩ := unlatchDo_clears (s := dioReported s h 1) hn
  have hdostat := (outputKey_dostat hn).outKey
  refine ⟨_, exec_unlatch_done hal hmode hholds index, ?_, ?_, ?_⟩
  · rw [rd_of_word_eq (outputKey_result.outKey.word_ledgerField ..), rd_of_word_eq (word_unlatchDo_result _)]
    exact dioReported_status 1
  · exact (rdB_of_word_eq (e := doFlag 4 _) (hdostat.word_ledgerField ..)).trans hlatched
  · exact (rd_of_word_eq (e := Reg.DIO_DOSTAT_RETRIES _) (hdostat.word_ledgerField ..)).trans hretries

theorem unlatchAll_spec : Completes (.unlatchAll h) s fun t => rd t h Reg.DIO_RESULT_STATUS = 0x02 ∧
    ∀ n < 32, rdB t .a (doFlag 4 n) = false ∧ rd t .a (Reg.DIO_DOSTAT_RETRIES n) = 0 := by
  refine ⟨_, exec_unlatchAll_done hal hmode hholds, ?_, fun n hn => ?_⟩
  · rw [rd_of_word_eq (outputKey_result.outKey.word_ledgerField ..),
      rd_of_word_eq (foldl_unchanged (fun t => word t h Reg.DIO_RESULT_STATUS.key)
        (fun _ n => word_unlatchDo_result n) _ _)]
    exact dioReported_status 2
  · obtain ⟨hlatched, hretries⟩ := unlatchAll_clears (s := dioReported s h 2) hn
    have hdostat := (outputKey_dostat hn).outKey
    exact ⟨(rdB_of_word_eq (e := doFlag 4 n) (hdostat.word_ledgerField ..)).trans hlatched,
      (rd_of_word_eq (e := Reg.DIO_DOSTAT_RETRIES n) (hdostat.word_ledgerField ..)).trans hretries⟩

end Accepted

end OutputRegisters

/-- Settles O44: the diagnostics by the flag that each condition writes into DIO_DOSTAT of its output; the refresh and
its timeout by the fold over the outputs, which leaves DIO_DO_TMO, and by the two registers that show a timeout; DIO_CMD
by the two fields that UNLATCH clears of each output. -/
theorem fieldOutputCommands : Obligations.FieldOutputCommands :=
  ⟨fun _ current _ hn hgood =>
      ⟨fun _ hon => doOverload_spec current (Nat.lt_succ_of_le hn) hgood hon,
        fun hlow => doOpenOn_spec (Nat.lt_succ_of_le hn) hgood hlow,
        fun hoff hol htcs hat => doOpenOffCheck_spec (Nat.lt_succ_of_le hn) hgood hoff hol htcs hat,
        fun hon => doOvertemp_spec (Nat.lt_succ_of_le hn) hgood hon⟩,
    fun _ _ hn hret => doOvertempRetry_spec (Nat.lt_succ_of_le hn) hret,
    fun _ _ => ⟨leaderRefresh_spec, leaderRefresh_discarded⟩,
    fun _ _ _ hn hrun hat hmask hleader hnot => doRefreshTimeout_spec hn hrun hat hmask hleader hnot,
    fun _ index _ hal hmode hholds =>
      ⟨unlatch_spec hal hmode hholds index, unlatchAll_spec hal hmode hholds⟩⟩

end Sys2Proof.Machine
end

section
/-!
PROOFS of the statements about the instructions of the scheme logic: the words of logic memory and the execution state
of a level, then the instructions by what they do at the level of the running task.
-/

namespace Sys2Proof.Machine

open Sys2Proof (HalfId Instr)

/-! ### Bits of a word -/

/-- A field below bit `n` is that of the low `n` bits. -/
theorem bits_mod_two_pow {hi lo n : Nat} (v : Nat) (hn : hi < n) : bits (v % 2 ^ n) hi lo = bits v hi lo := by
  refine Nat.eq_of_testBit_eq fun i => ?_
  simp only [bits, Nat.testBit_mod_two_pow, Nat.testBit_div_two_pow]
  by_cases hi' : i < hi + 1 - lo
  · simp [hi', show i + lo < n by omega]
  · simp [hi']

theorem bit_mod_two_pow {i n : Nat} (v : Nat) (hn : i < n) : bit (v % 2 ^ n) i = bit v i := by
  simp only [bit_eq_testBit, Nat.testBit_mod_two_pow, hn, decide_true, Bool.true_and]

theorem bit_eq_bits (v i : Nat) : bit v i = (bits v i i == 1) := by simp [bit, bits]

/-- A bit is a field of one bit. -/
theorem putBit_eq_putField (v i : Nat) (b : Bool) : putBit v i b = putField v i i (b2n b) := by
  have hv : v / 2 ^ (i + 1) * 2 ^ (i + 1) + v / 2 ^ i % 2 * 2 ^ i + v % 2 ^ i = v := by
    have h1 : v / 2 ^ (i + 1) = v / 2 ^ i / 2 := by rw [Nat.pow_succ, Nat.div_div_eq_div_mul]
    have h2 := Nat.div_add_mod (v / 2 ^ i) 2
    have h3 := Nat.div_add_mod' v (2 ^ i)
    rw [h1, Nat.pow_succ, Nat.mul_comm (2 ^ i) 2, ← Nat.mul_assoc, ← Nat.add_mul, Nat.mul_comm _ 2, h2, h3]
  have hone : i + 1 - i = 1 := by omega
  unfold putBit putField
  rw [hone]
  rcases Nat.mod_two_eq_zero_or_one (v / 2 ^ i) with h0 | h0 <;> rw [h0] at hv <;> cases b <;>
    simp [bit, h0, b2n] <;> omega

theorem bits_putBit_ne {v i hi lo : Nat} (b : Bool) (hl : lo ≤ hi) (hne : i < lo ∨ hi < i) :
    bits (putBit v i b) hi lo = bits v hi lo := by
  rw [putBit_eq_putField]
  rcases hne with hlt | hgt
  · exact bits_putField_above _ _ _ _ _ _ le_rfl hlt
  · exact bits_putField_below _ _ _ _ _ _ le_rfl hl hgt

theorem bit_putField_ne {w hi lo i : Nat} (v : Nat) (hl : lo ≤ hi) (hne : hi < i ∨ i < lo) :
    bit (putField w hi lo v) i = bit w i := by
  rw [bit_eq_bits, bit_eq_bits w]
  rcases hne with hlt | hgt
  · rw [bits_putField_above _ _ _ _ _ _ hl hlt]
  · rw [bits_putField_below _ _ _ _ _ _ hl le_rfl hgt]

/-! ### Words of logic memory (R455) -/

section LogicWords

variable (s : State) (h : HalfId) (l o p v : Nat) (b : Bool)

theorem lw_lput : lw (lput s h o v) h p = if p = o then v % 2 ^ 32 else lw s h p := by
  by_cases hp : p = o
  · simp [lw, lput, hp]
  · simp [lw, lput, hp, nget_nset_ne]

@[simp] theorem lw_lput_same : lw (lput s h o v) h o = v % 2 ^ 32 := by rw [lw_lput, if_pos rfl]

theorem lw_lput_ne (hp : p ≠ o) : lw (lput s h o v) h p = lw s h p := by rw [lw_lput, if_neg hp]

@[simp] theorem relCycle_lput : (half (lput s h o v) h).lge.relCycle = (half s h).lge.relCycle := by simp [lput]

theorem lw_modLge_of_mem {f : Logic → Logic} (hf : (f (half s h).lge).mem = (half s h).lge.mem) :
    lw (modLge s h f) h o = lw s h o := by
  simp [lw, hf]

/-! ### The execution state of a level (R478) -/

/-- Program counter, depth and accumulator depend on the first word of the level's execution state. -/
theorem execState_of_lw {t : State} (hw : lw t h (execWord l 0) = lw s h (execWord l 0)) :
    pcOf t h l = pcOf s h l ∧ depthOf t h l = depthOf s h l ∧ accOf t h l = accOf s h l := by
  simp only [pcOf, depthOf, accOf, hw, and_self]

@[simp] theorem pcOf_putPc : pcOf (putPc s h l v) h l = v % 2 ^ 18 := by
  simp only [pcOf, putPc, lw_lput_same]
  rw [bits_mod_two_pow _ (by decide), bits_putField_same _ _ _ _ (by decide)]

@[simp] theorem depthOf_putPc : depthOf (putPc s h l v) h l = depthOf s h l := by
  simp only [depthOf, putPc, lw_lput_same]
  rw [bits_mod_two_pow _ (by decide), bits_putField_above _ _ _ _ _ _ (by decide) (by decide)]

@[simp] theorem accOf_putPc : accOf (putPc s h l v) h l = accOf s h l := by
  simp only [accOf, putPc, lw_lput_same]
  rw [bit_mod_two_pow _ (by decide), bit_putField_ne _ (by decide) (.inl (by decide))]

@[simp] theorem depthOf_putDepth : depthOf (putDepth s h l v) h l = v % 2 ^ 5 := by
  simp only [depthOf, putDepth, lw_lput_same]
  rw [bits_mod_two_pow _ (by decide), bits_putField_same _ _ _ _ (by decide)]

@[simp] theorem accOf_putAcc : accOf (putAcc s h l b) h l = b := by
  simp only [accOf, putAcc, lw_lput_same]
  rw [bit_mod_two_pow _ (by decide), bit_putBit_same]

@[simp] theorem depthOf_putAcc : depthOf (putAcc s h l b) h l = depthOf s h l := by
  simp only [depthOf, putAcc, lw_lput_same]
  rw [bits_mod_two_pow _ (by decide), bits_putBit_ne _ (by decide) (.inr (by decide))]

theorem lw_putPc_ne (hp : p ≠ execWord l 0) : lw (putPc s h l v) h p = lw s h p := lw_lput_ne _ _ _ _ _ hp
theorem lw_putDepth_ne (hp : p ≠ execWord l 0) : lw (putDepth s h l v) h p = lw s h p := lw_lput_ne _ _ _ _ _ hp
theorem lw_putAcc_ne (hp : p ≠ execWord l 0) : lw (putAcc s h l b) h p = lw s h p := lw_lput_ne _ _ _ _ _ hp

end LogicWords

/-! ### One instruction of the running task -/

section Instructions

variable {s : State} {h : HalfId} {r : TaskRec} (f : State → Nat → State)

/-- An instruction of the running task has its effect at the task's level, and the next instruction follows. -/
theorem instr_running (hr : runningTask s h = some r) :
    instr s h f = putPc (f s r.prio) h r.prio ((pcOf s h r.prio + 1) % 2 ^ 18) := by
  simp only [instr, hr]

/-- What an instruction leaves: the next program counter, and beside it what its effect left. -/
theorem instr_spec (hr : runningTask s h = some r) :
    pcOf (instr s h f) h r.prio = (pcOf s h r.prio + 1) % 2 ^ 18 ∧
    accOf (instr s h f) h r.prio = accOf (f s r.prio) h r.prio ∧
    depthOf (instr s h f) h r.prio = depthOf (f s r.prio) h r.prio ∧
    ∀ o, o ≠ execWord r.prio 0 → lw (instr s h f) h o = lw (f s r.prio) h o := by
  rw [instr_running f hr]
  exact ⟨by simp, by simp, by simp, fun o ho => lw_putPc_ne _ _ _ _ _ ho⟩

/-- A load or a logical instruction: the accumulator combines with the operand, and no other word changes. -/
theorem bitOp_spec (hr : runningTask s h = some r) (op a n : Nat) (neg : Bool) :
    pcOf (bitOp s h op a n neg) h r.prio = (pcOf s h r.prio + 1) % 2 ^ 18 ∧
    accOf (bitOp s h op a n neg) h r.prio =
      (if op = 0 then operand s h r.prio a n neg
        else combine op (accOf s h r.prio) (operand s h r.prio a n neg)) ∧
    ∀ o, o ≠ execWord r.prio 0 → lw (bitOp s h op a n neg) h o = lw s h o := by
  obtain ⟨hpc, hacc, -, hlw⟩ := instr_spec _ hr
  exact ⟨hpc, hacc.trans (accOf_putAcc ..), fun o ho => (hlw o ho).trans (lw_putAcc_ne _ _ _ _ _ ho)⟩

end Instructions

/-- Settles O17: NOP by the step of the program counter, the others as loads and logical instructions. -/
theorem logicLoadsComplete : Obligations.LogicLoadsComplete := by
  intro h r s hr
  refine ⟨⟨_, rfl, ?_⟩, fun a n neg => ⟨⟨_, rfl, ?_⟩, ⟨_, rfl, ?_⟩, ⟨_, rfl, ?_⟩, ⟨_, rfl, ?_⟩⟩⟩
  · obtain ⟨hpc, hacc, -, hlw⟩ := instr_spec (fun s _ => s) hr
    exact ⟨hpc, hacc, hlw⟩
  · exact bitOp_spec hr 0 a n neg
  · exact bitOp_spec hr 1 a n neg
  · exact bitOp_spec hr 2 a n neg
  · exact bitOp_spec hr 3 a n neg

/-! ### The nesting stack (R462, R478) -/

section Stack

variable {s : State} {h : HalfId} {r : TaskRec}

theorem execWord_ne {l w v : Nat} (hne : w ≠ v) : execWord l w ≠ execWord l v := by
  unfold execWord
  omega

/-- The stack of a level depends on the second and third word of its execution state. -/
theorem stackOf_of_lw {t : State} {l : Nat} (hw : ∀ o, o ≠ execWord l 0 → lw t h o = lw s h o) :
    stackOf t h l = stackOf s h l := by
  simp only [stackOf, hw _ (execWord_ne (show 1 ≠ 0 by decide)), hw _ (execWord_ne (show 2 ≠ 0 by decide))]

theorem stackOf_putStack (l v : Nat) : stackOf (putStack s h l v) h l = v % 2 ^ 64 := by
  simp only [stackOf, putStack, lw_lput, execWord_ne (show 1 ≠ 2 by decide), if_true, if_false]
  omega

theorem execState_putStack (l v : Nat) : depthOf (putStack s h l v) h l = depthOf s h l ∧
    accOf (putStack s h l v) h l = accOf s h l := by
  refine (execState_of_lw _ _ _ ?_).2
  simp only [putStack, lw_lput, execWord_ne (show 0 ≠ 1 by decide), execWord_ne (show 0 ≠ 2 by decide), if_false]

/-- A new stack, depth and accumulator of a level. -/
theorem stackStep_spec (l st d : Nat) (b : Bool) :
    accOf (putAcc (putDepth (putStack s h l st) h l d) h l b) h l = b ∧
    depthOf (putAcc (putDepth (putStack s h l st) h l d) h l b) h l = d % 2 ^ 5 ∧
    stackOf (putAcc (putDepth (putStack s h l st) h l d) h l b) h l = st % 2 ^ 64 :=
  ⟨by simp, by simp, (stackOf_of_lw fun o ho => (lw_putAcc_ne _ _ _ _ _ ho).trans (lw_putDepth_ne _ _ _ _ _ ho)).trans
    (stackOf_putStack l st)⟩

/-- A push with room: the entry keeps the operator and the accumulator, which takes the operand. -/
theorem pushOp_spec (hr : runningTask s h = some r) (hd : depthOf s h r.prio < 16) {op : Nat} (hop : op < 4)
    (a n : Nat) (neg : Bool) :
    accOf (pushOp s h op a n neg) h r.prio = operand s h r.prio a n neg ∧
    depthOf (pushOp s h op a n neg) h r.prio = depthOf s h r.prio + 1 ∧
    bits (stackOf (pushOp s h op a n neg) h r.prio) (3 * depthOf s h r.prio + 2) (3 * depthOf s h r.prio) =
      b2n (accOf s h r.prio) + 2 * op := by
  have he : b2n (accOf s h r.prio) + 2 * op < 2 ^ 3 := by
    have : b2n (accOf s h r.prio) ≤ 1 := by unfold b2n; split <;> decide
    omega
  simp only [pushOp, hr, if_neg (Nat.not_le.mpr hd)]
  generalize depthOf s h r.prio = d at hd ⊢
  obtain ⟨-, hacc, hdepth, hlw⟩ := instr_spec (fun s l => putAcc (putDepth (putStack s h l
    (putField (stackOf s h l) (3 * d + 2) (3 * d) (b2n (accOf s h l) + 2 * op))) h l (d + 1)) h l
    (operand s h l a n neg)) hr
  obtain ⟨hacc', hdepth', hstack'⟩ := stackStep_spec (s := s) (h := h) r.prio
    (putField (stackOf s h r.prio) (3 * d + 2) (3 * d) (b2n (accOf s h r.prio) + 2 * op)) (d + 1)
    (operand s h r.prio a n neg)
  refine ⟨hacc.trans hacc', hdepth.trans (hdepth'.trans (Nat.mod_eq_of_lt (by omega))), ?_⟩
  rw [stackOf_of_lw hlw, hstack', bits_mod_two_pow _ (by omega), bits_putField_same _ _ _ _ (by omega),
    show 3 * d + 2 + 1 - 3 * d = 3 by omega, Nat.mod_eq_of_lt he]

/-- A closing parenthesis: the popped accumulator combines with the present one by the popped operator. -/
theorem popOp_spec (hr : runningTask s h = some r) {d : Nat} (hd : depthOf s h r.prio = d + 1) (hlt : d < 16) :
    depthOf (popOp s h) h r.prio = d ∧
    accOf (popOp s h) h r.prio = combine (bits (stackOf s h r.prio) (3 * d + 2) (3 * d) / 2)
      (bit (stackOf s h r.prio) (3 * d)) (accOf s h r.prio) := by
  have hbit : bit (bits (stackOf s h r.prio) (3 * d + 2) (3 * d)) 0 = bit (stackOf s h r.prio) (3 * d) := by
    simp only [bits, bit_eq_testBit, show 3 * d + 2 + 1 - 3 * d = 3 by omega, Nat.testBit_mod_two_pow,
      Nat.testBit_div_two_pow]
    simp
  simp only [popOp, hr, hd, Nat.add_one_ne_zero, if_false, Nat.add_sub_cancel]
  obtain ⟨-, hacc, hdepth, -⟩ := instr_spec (fun s l => putAcc (putDepth (putStack s h l
    (putField (stackOf s h l) (3 * d + 2) (3 * d) 0)) h l d) h l
    (combine (bits (stackOf s h l) (3 * d + 2) (3 * d) / 2) (bit (bits (stackOf s h l) (3 * d + 2) (3 * d)) 0)
      (accOf s h l))) hr
  exact ⟨hdepth.trans ((stackStep_spec ..).2.1.trans (Nat.mod_eq_of_lt (by omega))),
    hacc.trans ((stackStep_spec ..).1.trans (by rw [hbit]))⟩

/-- A stack fault of a half that runs its own scheduler stops its logic with the fault's cause. -/
theorem stackFault_spec (hown : ownsLogic s h = true) {cause : Nat} (hc : cause < 16) :
    logicRuns (stackFault s h r cause) h = false ∧ rd (stackFault s h r cause) h Reg.LGE_STAT_CAUSE = cause := by
  simp only [stackFault, hown, Bool.not_true, Bool.false_and, Bool.false_eq_true, if_false]
  exact logicHalt_spec s h _ _ hc

end Stack

/-- Settles O18: a push and a closing parenthesis by the level's stack, at its ends by the fault that stops the
logic. -/
theorem logicStackComplete : Obligations.LogicStackComplete := by
  intro h r s hr
  refine ⟨fun a n neg hd => ⟨⟨_, rfl, pushOp_spec hr hd (by decide) a n neg⟩,
    ⟨_, rfl, pushOp_spec hr hd (by decide) a n neg⟩, ⟨_, rfl, pushOp_spec hr hd (by decide) a n neg⟩⟩,
    fun d hd hlt => ⟨_, rfl, popOp_spec hr hd hlt⟩, fun a n neg hfull hown => ⟨_, rfl, ?_⟩,
    fun hempty hown => ⟨_, rfl, ?_⟩⟩
  · simp only [pushOp, hr, if_pos hfull]
    exact stackFault_spec hown (by decide)
  · simp only [popOp, hr, if_pos hempty]
    exact stackFault_spec hown (by decide)

/-! ### Bits of Q, M and P (R461) -/

section WrittenBits

variable {s : State} {h : HalfId} {a n : Nat}

/-- The word that holds bit `n` of Q, M or P. -/
def bitWord (a n : Nat) : Nat := (if a = 1 then areaQ else if a = 2 then areaM else areaP) + n / 32

/-- Words below the execution state are none of it. -/
theorem ne_execWord_of_lt {o : Nat} (ho : o < areaExec) (l w : Nat) : o ≠ execWord l w := by
  unfold execWord
  omega

theorem bitWord_lt (hn : indexOk a n = true) (ha : a = 1 ∨ a = 2 ∨ a = 4) : bitWord a n < areaExec := by
  rcases ha with rfl | rfl | rfl <;> simp [indexOk] at hn <;> simp [bitWord, areaQ, areaM, areaP, areaExec] <;> omega

theorem operandBit_bitWord (hn : indexOk a n = true) (ha : a = 1 ∨ a = 2 ∨ a = 4) (l : Nat) :
    operandBit s h l a n = bit (lw s h (bitWord a n)) (n % 32) := by
  rcases ha with rfl | rfl | rfl <;> simp [operandBit, bitWord, hn]

/-- A bit of Q, M or P that is written: it reads back, and no other word changes. -/
theorem writeBit_spec (hn : indexOk a n = true) (ha : a = 1 ∨ a = 2 ∨ a = 4) (l : Nat) (b : Bool) :
    bit (lw (writeBit s h l a n b) h (bitWord a n)) (n % 32) = b ∧
    ∀ o, o ≠ bitWord a n → lw (writeBit s h l a n b) h o = lw s h o := by
  have hw : ∀ o, lw (writeBit s h l a n b) h o = lw (lput s h (bitWord a n)
      (putBit (lw s h (bitWord a n)) (n % 32) b)) h o := by
    intro o
    have hwritten : (!indexOk a n || !(a == 1 || a == 2 || a == 4)) = false := by
      rcases ha with rfl | rfl | rfl <;> simp [hn]
    simp only [writeBit, hwritten, Bool.false_eq_true, if_false]
    exact lw_modLge_of_mem _ _ _ rfl
  refine ⟨?_, fun o ho => (hw o).trans (lw_lput_ne _ _ _ _ _ ho)⟩
  rw [hw, lw_lput_same, bit_mod_two_pow _ (Nat.mod_lt _ (by decide)), bit_putBit_same]

variable {r : TaskRec}

/-- An instruction that writes a bit of Q, M or P shows it, and leaves the accumulator. -/
theorem instr_writeBit (hr : runningTask s h = some r) (hn : indexOk a n = true) (ha : a = 1 ∨ a = 2 ∨ a = 4)
    {f : State → Nat → State} {b : Bool} (hf : f s r.prio = writeBit s h r.prio a n b) :
    operandBit (instr s h f) h r.prio a n = b ∧ accOf (instr s h f) h r.prio = accOf s h r.prio ∧
    pcOf (instr s h f) h r.prio = (pcOf s h r.prio + 1) % 2 ^ 18 := by
  obtain ⟨hpc, hacc, -, hlw⟩ := instr_spec f hr
  obtain ⟨hbit, hkeep⟩ := writeBit_spec (s := s) (h := h) hn ha r.prio b
  have hne := ne_execWord_of_lt (bitWord_lt hn ha) r.prio 0
  refine ⟨?_, hacc.trans ?_, hpc⟩
  · rw [operandBit_bitWord hn ha, hlw _ hne, hf, hbit]
  · rw [hf]
    exact (execState_of_lw s h _ (hkeep _ hne.symm)).2.2

/-- PEDGE and NEDGE: the accumulator takes the edge, the marker what the accumulator was. -/
theorem edgeOp_spec (hr : runningTask s h = some r) (hn : n < 65536) (rising : Bool) :
    accOf (edgeOp s h n rising) h r.prio = (if rising then accOf s h r.prio && !operandBit s h r.prio 2 n
      else !accOf s h r.prio && operandBit s h r.prio 2 n) ∧
    operandBit (edgeOp s h n rising) h r.prio 2 n = accOf s h r.prio := by
  have hok : indexOk 2 n = true := by simp [indexOk, hn]
  have ha : 2 = 1 ∨ 2 = 2 ∨ 2 = 4 := by decide
  have hne := ne_execWord_of_lt (bitWord_lt hok ha) r.prio 0
  obtain ⟨-, hacc, -, hlw⟩ := instr_spec (fun s l => putAcc (writeBit s h l 2 n (accOf s h l)) h l
    (if rising then accOf s h l && !operandBit s h l 2 n else !accOf s h l && operandBit s h l 2 n)) hr
  refine ⟨hacc.trans (accOf_putAcc ..), ?_⟩
  rw [operandBit_bitWord hok ha]
  exact (congrArg (bit · _) ((hlw _ hne).trans (lw_putAcc_ne _ _ _ _ _ hne))).trans
    (writeBit_spec hok ha r.prio (accOf s h r.prio)).1

end WrittenBits

/-! ### Timer and counter records (R461, R464 to R468) -/

section Records

variable {s : State} {h : HalfId} {r : TaskRec} {n : Nat}

/-- A word of a timer record lies below the execution state. -/
theorem timerWord_lt (hn : n < 1024) {j : Nat} (hj : j < 4) : areaT + 4 * n + j < areaExec := by
  simp only [areaT, areaExec]
  omega

theorem counterWord_lt (hn : n < 1024) {j : Nat} (hj : j < 4) : areaC + 4 * n + j < areaExec := by
  simp only [areaC, areaExec]
  omega

theorem indexOk_timer (hn : n < 1024) : indexOk 5 n = true := by simp [indexOk, hn]
theorem indexOk_counter (hn : n < 1024) : indexOk 6 n = true := by simp [indexOk, hn]

/-- Below the execution state an instruction leaves the words that its effect left. -/
theorem lw_instr {f : State → Nat → State} (hr : runningTask s h = some r) (u : State) (hf : f s r.prio = u) {o : Nat}
    (ho : o < areaExec) : lw (instr s h f) h o = lw u h o :=
  hf ▸ (instr_spec f hr).2.2.2 o (ne_execWord_of_lt ho _ _)

/-- SET of a counter with ACC 1: CV takes PV, and the word of its Q stays. -/
theorem set_counter_spec (hr : runningTask s h = some r) (hacc : accOf s h r.prio = true) (hn : n < 1024) :
    Completes (.set h 6 n) s fun t =>
      lw t h (areaC + 4 * n + 2) = lw s h (areaC + 4 * n + 1) % 65536 ∧
      lw t h (areaC + 4 * n) = lw s h (areaC + 4 * n) := by
  have hlw : ∀ o < areaExec, ∀ f : State → Nat → State,
      f s r.prio = lput s h (areaC + 4 * n + 2) (lw s h (areaC + 4 * n + 1) % 65536) →
      lw (instr s h f) h o = lw (lput s h (areaC + 4 * n + 2) (lw s h (areaC + 4 * n + 1) % 65536)) h o :=
    fun o ho f hf => lw_instr hr _ hf ho
  refine ⟨_, rfl, (hlw _ (counterWord_lt hn (j := 2) (by decide)) _ ?_).trans ?_,
    (hlw _ (counterWord_lt hn (j := 0) (by decide)) _ ?_).trans (lw_lput_ne _ _ _ _ _ (by omega))⟩
  · simp [hacc, indexOk_counter hn]
  · rw [lw_lput_same]
    omega
  · simp [hacc, indexOk_counter hn]

/-- RST of a counter with ACC 1: CV is 0, and the word of its Q stays. -/
theorem rst_counter_spec (hr : runningTask s h = some r) (hacc : accOf s h r.prio = true) (hn : n < 1024) :
    Completes (.rst h 6 n) s fun t =>
      lw t h (areaC + 4 * n + 2) = 0 ∧ lw t h (areaC + 4 * n) = lw s h (areaC + 4 * n) := by
  refine ⟨_, rfl, (lw_instr hr (lput s h (areaC + 4 * n + 2) 0) ?_ (counterWord_lt hn (by decide))).trans
    (lw_lput_same ..), (lw_instr hr (lput s h (areaC + 4 * n + 2) 0) ?_
    (counterWord_lt hn (j := 0) (by decide))).trans (lw_lput_ne _ _ _ _ _ (by omega))⟩ <;>
  simp [hacc, indexOk_counter hn]

/-- RST of a timer with ACC 1: ET, Q and SCANNED are 0, and PREV_IN stays. -/
theorem rst_timer_spec (hr : runningTask s h = some r) (hacc : accOf s h r.prio = true) (hn : n < 1024) :
    Completes (.rst h 5 n) s fun t =>
      lw t h (areaT + 4 * n + 2) = 0 ∧ bit (lw t h (areaT + 4 * n)) 31 = false ∧
      bit (lw t h (areaT + 4 * n)) 29 = false ∧ bit (lw t h (areaT + 4 * n)) 30 = bit (lw s h (areaT + 4 * n)) 30 := by
  refine ⟨_, rfl, ?_⟩
  generalize hf : (fun s l => _ : State → Nat → State) = f
  have heff : f s r.prio = lput (lput s h (areaT + 4 * n)
      (putBit (putBit (lw s h (areaT + 4 * n)) 31 false) 29 false)) h (areaT + 4 * n + 2) 0 := by
    subst hf
    simp [hacc, indexOk_timer hn]
  have hw : lw (instr s h f) h (areaT + 4 * n) =
      putBit (putBit (lw s h (areaT + 4 * n)) 31 false) 29 false % 2 ^ 32 := by
    have h0 := lw_instr hr _ heff (timerWord_lt hn (j := 0) (by decide))
    rw [Nat.add_zero, lw_lput_ne _ _ _ _ _ (by omega), lw_lput_same] at h0
    exact h0
  refine ⟨(lw_instr hr _ heff (timerWord_lt hn (by decide))).trans (lw_lput_same ..), ?_, ?_, ?_⟩ <;>
    rw [hw, bit_mod_two_pow _ (by decide)]
  · rw [bit_putBit_ne _ (by decide), bit_putBit_same]
  · rw [bit_putBit_same]
  · rw [bit_putBit_ne _ (by decide), bit_putBit_ne _ (by decide)]

/-- What a scan leaves in a timer's record: ET, Q, PREV_IN, SCANNED and the cycle of the scan; and ACC with Q. -/
theorem timerScan_spec (hr : runningTask s h = some r) (hn : n < 1024) (kind : Nat) {q : Bool} {et : Nat}
    (hnext : timerNext kind (accOf s h r.prio) (bit (lw s h (areaT + 4 * n)) 30) (bit (lw s h (areaT + 4 * n)) 31)
      (lw s h (areaT + 4 * n + 2))
      (if bit (lw s h (areaT + 4 * n)) 29 then
        (nget (half s h).lge.relCycle r.task + 2 ^ 32 - lw s h (areaT + 4 * n + 3)) % 2 ^ 32 else 0)
      (lw s h (areaT + 4 * n + 1)) = (q, et)) :
    accOf (timerScan s h kind n) h r.prio = q ∧ lw (timerScan s h kind n) h (areaT + 4 * n + 2) = et % 2 ^ 32 ∧
    bit (lw (timerScan s h kind n) h (areaT + 4 * n)) 31 = q ∧
    bit (lw (timerScan s h kind n) h (areaT + 4 * n)) 30 = accOf s h r.prio ∧
    bit (lw (timerScan s h kind n) h (areaT + 4 * n)) 29 = true ∧
    lw (timerScan s h kind n) h (areaT + 4 * n + 3) = nget (half s h).lge.relCycle r.task % 2 ^ 32 := by
  simp only [timerScan, hr]
  generalize hf : (fun s l => _ : State → Nat → State) = f
  have heff : f s r.prio = putAcc (lput (lput (lput
      (modLge s h fun g => { g with tonr := nset g.tonr n (b2n (kind == 3)) }) h (areaT + 4 * n)
      (putBit (putBit (putBit (lw s h (areaT + 4 * n)) 29 true) 30 (accOf s h r.prio)) 31 q))
      h (areaT + 4 * n + 2) et) h (areaT + 4 * n + 3) (nget (half s h).lge.relCycle r.task)) h r.prio q := by
    subst hf
    simp only [indexOk_timer hn, Bool.not_true, Bool.false_eq_true, if_false, hnext]
  have hlw : ∀ j < 4, lw (instr s h f) h (areaT + 4 * n + j) = lw (lput (lput (lput
      (modLge s h fun g => { g with tonr := nset g.tonr n (b2n (kind == 3)) })
      h (areaT + 4 * n) (putBit (putBit (putBit (lw s h (areaT + 4 * n)) 29 true) 30 (accOf s h r.prio)) 31 q))
      h (areaT + 4 * n + 2) et) h (areaT + 4 * n + 3) (nget (half s h).lge.relCycle r.task)) h (areaT + 4 * n + j) :=
    fun j hj => (lw_instr hr _ heff (timerWord_lt hn hj)).trans
      (lw_putAcc_ne _ _ _ _ _ (ne_execWord_of_lt (timerWord_lt hn hj) _ _))
  have hw : lw (instr s h f) h (areaT + 4 * n) =
      putBit (putBit (putBit (lw s h (areaT + 4 * n)) 29 true) 30 (accOf s h r.prio)) 31 q % 2 ^ 32 := by
    have h0 := hlw 0 (by decide)
    rw [Nat.add_zero, lw_lput_ne _ _ _ _ _ (by omega), lw_lput_ne _ _ _ _ _ (by omega), lw_lput_same] at h0
    exact h0
  refine ⟨(instr_spec f hr).2.1.trans (heff ▸ accOf_putAcc ..), ?_, ?_, ?_, ?_, ?_⟩
  · rw [hlw 2 (by decide), lw_lput_ne _ _ _ _ _ (by omega), lw_lput_same]
  · rw [hw, bit_mod_two_pow _ (by decide), bit_putBit_same]
  · rw [hw, bit_mod_two_pow _ (by decide), bit_putBit_ne _ (by decide), bit_putBit_same]
  · rw [hw, bit_mod_two_pow _ (by decide), bit_putBit_ne _ (by decide), bit_putBit_ne _ (by decide), bit_putBit_same]
  · rw [hlw 3 (by decide), lw_lput_same]

/-- What a scan leaves in a counter's record: CV, Q and PREV_IN; and ACC with Q. -/
theorem counterScan_spec (hr : runningTask s h = some r) (hn : n < 1024) (up : Bool) {c : Nat} {q : Bool}
    (hc : c = if accOf s h r.prio && !bit (lw s h (areaC + 4 * n)) 30 then
      (if up then min (lw s h (areaC + 4 * n + 2) + 1) 65535 else lw s h (areaC + 4 * n + 2) - 1)
      else lw s h (areaC + 4 * n + 2))
    (hq : q = if up then decide (lw s h (areaC + 4 * n + 1) ≤ c) else c == 0) (hlt : c < 2 ^ 32) :
    lw (counterScan s h up n) h (areaC + 4 * n + 2) = c ∧ bit (lw (counterScan s h up n) h (areaC + 4 * n)) 31 = q ∧
    bit (lw (counterScan s h up n) h (areaC + 4 * n)) 30 = accOf s h r.prio ∧
    accOf (counterScan s h up n) h r.prio = q := by
  unfold counterScan
  generalize hf : (fun s l => _ : State → Nat → State) = f
  have heff : f s r.prio = putAcc (lput (lput s h (areaC + 4 * n)
      (putBit (putBit (lw s h (areaC + 4 * n)) 30 (accOf s h r.prio)) 31 q)) h (areaC + 4 * n + 2) c) h r.prio q := by
    subst hf hq hc
    simp only [indexOk_counter hn, Bool.not_true, Bool.false_eq_true, if_false]
  have hlw : ∀ j < 4, lw (instr s h f) h (areaC + 4 * n + j) = lw (lput (lput s h (areaC + 4 * n)
      (putBit (putBit (lw s h (areaC + 4 * n)) 30 (accOf s h r.prio)) 31 q)) h (areaC + 4 * n + 2) c) h
      (areaC + 4 * n + j) :=
    fun j hj => (lw_instr hr _ heff (counterWord_lt hn hj)).trans
      (lw_putAcc_ne _ _ _ _ _ (ne_execWord_of_lt (counterWord_lt hn hj) _ _))
  have hw : lw (instr s h f) h (areaC + 4 * n) =
      putBit (putBit (lw s h (areaC + 4 * n)) 30 (accOf s h r.prio)) 31 q % 2 ^ 32 := by
    have h0 := hlw 0 (by decide)
    rw [Nat.add_zero, lw_lput_ne _ _ _ _ _ (by omega), lw_lput_same] at h0
    exact h0
  refine ⟨?_, ?_, ?_, (instr_spec f hr).2.1.trans (heff ▸ accOf_putAcc ..)⟩
  · rw [hlw 2 (by decide), lw_lput_same, Nat.mod_eq_of_lt hlt]
  · rw [hw, bit_mod_two_pow _ (by decide), bit_putBit_same]
  · rw [hw, bit_mod_two_pow _ (by decide), bit_putBit_ne _ (by decide), bit_putBit_same]

end Records

/-- Settles O19: a bit by the word that holds it, a record by its words, and with ACC 0 by the step of the program
counter alone. -/
theorem logicWritesComplete : Obligations.LogicWritesComplete := by
  intro h r s hr
  refine ⟨fun a n neg ha hn => ⟨_, rfl, ?_⟩, fun a n hacc ha hn => ⟨⟨_, rfl, ?_⟩, ⟨_, rfl, ?_⟩⟩,
    fun n hacc hn => ⟨?_, ?_, ?_⟩, fun a n hacc => ⟨⟨_, rfl, ?_⟩, ⟨_, rfl, ?_⟩⟩,
    fun n hn => ⟨⟨_, rfl, edgeOp_spec hr hn true⟩, ⟨_, rfl, edgeOp_spec hr hn false⟩⟩⟩
  · exact instr_writeBit hr hn ha rfl
  · refine (instr_writeBit hr hn ha ?_).1
    rcases ha with rfl | rfl | rfl <;> simp [hacc]
  · refine (instr_writeBit hr hn ha ?_).1
    rcases ha with rfl | rfl | rfl <;> simp [hacc]
  · exact (set_counter_spec hr hacc hn).imp fun _ ht => ht.1
  · exact (rst_counter_spec hr hacc hn).imp fun _ ht => ht.1
  · refine (rst_timer_spec hr hacc hn).imp fun t ⟨het, hq, hscan, _⟩ => ⟨?_, het, hscan⟩
    simp [operandBit, indexOk_timer hn, hq]
  · intro o ho
    refine ((instr_spec _ hr).2.2.2 o ho).trans ?_
    simp [hacc]
  · intro o ho
    refine ((instr_spec _ hr).2.2.2 o ho).trans ?_
    simp [hacc]

/-- Settles O20: each row of R467 is a case of `timerNext`, and a scan leaves what that gives. -/
theorem timerScansComplete : Obligations.TimerScansComplete := by
  intro h r n s hr hn
  refine ⟨⟨_, rfl, ?_⟩, ⟨_, rfl, ?_⟩, ⟨_, rfl, ?_⟩, ⟨_, rfl, ?_⟩⟩
  · split
    · exact timerScan_spec hr hn 0 (by simp_all [timerNext])
    · exact timerScan_spec hr hn 0 (by simp_all [timerNext])
  · split
    · exact timerScan_spec hr hn 1 (by simp_all [timerNext])
    · exact timerScan_spec hr hn 1 (by simp_all [timerNext])
  · split
    · exact timerScan_spec hr hn 2 (by simp_all [timerNext])
    · split
      · exact timerScan_spec hr hn 2 (by cases bit (lw s h (areaT + 4 * n)) 30 <;> simp_all [timerNext])
      · exact timerScan_spec hr hn 2 (by simp_all [timerNext])
  · split
    · exact timerScan_spec hr hn 3 (by simp_all [timerNext])
    · exact timerScan_spec hr hn 3 (by simp_all [timerNext])

/-- Settles O21: the scans by what they leave in the record, SET and RST by the words they write. -/
theorem counterScansAndRecordResets : Obligations.CounterScansAndRecordResets := by
  intro h r n s hr hn
  refine ⟨fun hcv => ⟨⟨_, rfl, ?_⟩, ⟨_, rfl, ?_⟩⟩, fun hacc => ⟨rst_timer_spec hr hacc hn, rst_counter_spec hr hacc hn,
    set_counter_spec hr hacc hn⟩⟩
  · exact counterScan_spec hr hn true rfl rfl (by split <;> omega)
  · exact counterScan_spec hr hn false rfl (beq_eq_decide _ _).symm (by split <;> omega)

end Sys2Proof.Machine
end

section
/-!
PROOFS of the statement about jumps, END and the boundaries of the scheme logic.
-/

namespace Sys2Proof.Machine

open Sys2Proof (HalfId Instr)

/-! ### Jumps (R461, R462) -/

section Jumps

variable {s : State} {h : HalfId} {r : TaskRec}

/-- The trace leaves logic memory. -/
theorem execState_trace (bitNo type : Nat) (bs : List Sys2Proof.Byte) (l : Nat) :
    pcOf (trace s h bitNo type bs) h l = pcOf s h l ∧ accOf (trace s h bitNo type bs) h l = accOf s h l := by
  have hk : Keeps 0x800004000000 s (trace s h bitNo type bs) := keeps_trace h _ _ _ (by decide) (Keeps.refl _ s)
  obtain ⟨hpc, -, hacc⟩ := execState_of_lw s h l (lw_of_keeps hk (by decide) h _)
  exact ⟨hpc, hacc⟩

/-- A jump with an empty stack: at its target where it is taken, else at the next instruction; ACC stays. -/
theorem jumpOp_spec (hr : runningTask s h = some r) (hd : depthOf s h r.prio = 0) (target : Nat) (p : Bool → Bool) :
    pcOf (jumpOp s h target p) h r.prio = (if p (accOf s h r.prio) then target else pcOf s h r.prio + 1) % 2 ^ 18 ∧
    accOf (jumpOp s h target p) h r.prio = accOf s h r.prio := by
  simp only [jumpOp, hr]
  cases hp : p (accOf s h r.prio) with
  | false =>
    obtain ⟨hpc, hacc, -⟩ := instr_spec (fun s _ => s) hr
    simpa using ⟨hpc, hacc⟩
  | true =>
    simp [hd, execState_trace]

end Jumps

/-! ### END (R461, R473, R474, R494) -/

section TaskEnd

variable (s : State) (h : HalfId) (r : TaskRec)

/-- What queueing the retentive set leaves: the registers but LGE_RET, and of the logic the tasks and what is
publishable. -/
theorem retCommit_spec (f : Fld) (hf : f.key % 0x100000000 ≠ 0xE0024) : rd (retCommit s h) h f = rd s h f ∧
    (half (retCommit s h) h).lge.tasks = (half s h).lge.tasks ∧
    (half (retCommit s h) h).lge.next = (half s h).lge.next := by
  have hcommit : ∀ j, Keeps 0x10000000000 s (startCommit s h j) :=
    fun j => keeps_startCommit h j (by decide) (Keeps.refl _ s)
  simp only [retCommit]
  split
  · exact ⟨rfl, rfl, rfl⟩
  · split
    · exact ⟨rd_wrB_addr _ _ _ _ _ _ hf, by simp, by simp⟩
    · refine ⟨?_, by simp [(hcommit _).lge (by decide)], by simp [(hcommit _).lge (by decide)]⟩
      rw [rd_wrB_addr _ _ _ _ _ _ hf, rd_modLge]
      simp [startCommit, modPort]

/-- The execution time of a task that ends, in microseconds (R494). -/
def execTime (s : State) (h : HalfId) (r : TaskRec) : Nat :=
  min 65535 ((s.ticks - nget (half s h).lge.relTick r.task) / 125)

/-- The task is idle, what it wrote is publishable, and its level is free. -/
def taskEnded (s : State) (h : HalfId) (r : TaskRec) : State :=
  let u := modLge s h fun l => { mergeWritten l r.prio with tasks := nset l.tasks r.task 0 }
  lput u h (execWord r.prio 0) (putBit (lw u h (execWord r.prio 0)) 31 false)

theorem lge_taskEnded : (half (taskEnded s h r) h).lge.tasks = nset (half s h).lge.tasks r.task 0 ∧
    (half (taskEnded s h r) h).lge.next = (mergeWritten (half s h).lge r.prio).next := by
  simp [taskEnded, lput]

/-- The execution times of the task are shown. -/
def execTimeShown (s u : State) (h : HalfId) (r : TaskRec) : State :=
  wr (wr u h (Reg.LGE_TEXEC_LAST r.task) (execTime s h r)) h (Reg.LGE_TEXEC_MAX r.task)
    (max (execTime s h r) (rd (wr u h (Reg.LGE_TEXEC_LAST r.task) (execTime s h r)) h (Reg.LGE_TEXEC_MAX r.task)))

theorem taskEnd_eq : ∃ bs, taskEnd s h r =
    dispatch (lsAtEnd (retCommit (trace (execTimeShown s (taskEnded s h r) h r) h 0 0x03 bs) h) h r.task) h :=
  ⟨_, rfl⟩

theorem rd_execTimeShown (u : State) : rd (execTimeShown s u h r) h (Reg.LGE_TEXEC_LAST r.task) = execTime s h r := by
  unfold execTimeShown
  refine (rd_wr_disjoint _ _ (Reg.LGE_TEXEC_MAX r.task) (Reg.LGE_TEXEC_LAST r.task) _ rfl ?_ ?_ ?_ (.inr ?_)).trans
    (rd_wr_same' _ _ _ _ ?_ ?_ (Nat.lt_of_le_of_lt (Nat.min_le_left _ _) ?_)) <;>
  simp [Reg.LGE_TEXEC_MAX, Reg.LGE_TEXEC_LAST]

theorem lge_execTimeShown (u : State) : (half (execTimeShown s u h r) h).lge = (half u h).lge := by simp [execTimeShown]

/-- The address of a task's execution times (R494), apart from that of LGE_RET and the trace unit. -/
theorem texec_addr (n : Nat) : (Reg.LGE_TEXEC_LAST n).key % 0x100000000 = 0xE0038 := by
  simp only [Reg.LGE_TEXEC_LAST]
  omega

/-- END with an empty stack: what stands before lockstep and dispatch follow. -/
theorem taskEnd_spec : ∃ u, taskEnd s h r = dispatch (lsAtEnd u h r.task) h ∧ taskState u h r.task = 0 ∧
    (half u h).lge.next = (mergeWritten (half s h).lge r.prio).next ∧
    rd u h (Reg.LGE_TEXEC_LAST r.task) = execTime s h r := by
  obtain ⟨bs, heq⟩ := taskEnd_eq s h r
  have hk : Keeps 0x800004000000 (execTimeShown s (taskEnded s h r) h r)
      (trace (execTimeShown s (taskEnded s h r) h r) h 0 0x03 bs) := keeps_trace h _ _ _ (by decide) (Keeps.refl _ _)
  obtain ⟨hrd, htasks, hnext⟩ := retCommit_spec (trace (execTimeShown s (taskEnded s h r) h r) h 0 0x03 bs) h
    (Reg.LGE_TEXEC_LAST r.task) (by rw [texec_addr]; decide)
  obtain ⟨htasks', hnext'⟩ := lge_taskEnded s h r
  refine ⟨_, heq, ?_, ?_, ?_⟩
  · rw [taskState, htasks, hk.lge (by decide), lge_execTimeShown, htasks', nget_nset_same]
  · rw [hnext, hk.lge (by decide), lge_execTimeShown, hnext']
  · have hblock : keyBlock (Reg.LGE_TEXEC_LAST r.task).key = 14 := by simp [keyBlock, texec_addr]
    rw [hrd, hk.rd _ _ (by rw [hblock]; decide) (by rw [hblock]; decide), rd_execTimeShown]

end TaskEnd

/-! ### The boundary (R457, R464, R471, R479) -/

section Boundary

variable {s : State} {h : HalfId}

/-- Words stored one after the other: inside their range each is its own, outside the memory stays. -/
theorem nget_putRange (m : List (Nat × Nat)) (off n : Nat) (f : Nat → Nat) (k : Nat) :
    nget ((List.range n).foldl (fun m w => nset m (off + w) (f w)) m) k =
      if off ≤ k ∧ k < off + n then f (k - off) else nget m k := by
  induction n with
  | zero => simp [show ¬ (off ≤ k ∧ k < off) by omega]
  | succ n ih =>
    rw [List.range_succ, List.foldl_append, List.foldl_cons, List.foldl_nil]
    by_cases hk : k = off + n
    · subst hk
      simp
    · rw [nget_nset_ne _ _ _ _ hk, ih]
      by_cases hin : off ≤ k ∧ k < off + n
      · rw [if_pos hin, if_pos ⟨hin.1, by omega⟩]
      · rw [if_neg hin, if_neg (by omega)]

/-- A latched word of the I area (R457). -/
theorem lw_latchImage {w : Nat} (hw : w < 34) : lw (latchImage s h) h (areaI + w) = inputWord s h w := by
  simp only [latchImage, lw, half_modLge_same, nget_putRange]
  rw [if_neg (by simp only [areaI, areaBQ]; omega), if_neg (by simp only [areaI, areaB]; omega),
    if_pos (by simp only [areaI]; omega), Nat.add_sub_cancel_left]

/-- A boundary counts one cycle. -/
def cycleCounted (s : State) (h : HalfId) : State := wrapInc s h Reg.LGE_CYCLE_COUNT

theorem cycle_cycleCounted : rd (cycleCounted s h) h Reg.LGE_CYCLE_COUNT = (rd s h Reg.LGE_CYCLE_COUNT + 1) % 2 ^ 32 :=
  rd_wr_same _ _ _ _ (by decide) (by decide)

theorem rd_cycleCounted {g : HalfId} {e : Fld} (he : e.key % 0x100000000 ≠ 0xE0018) :
    rd (cycleCounted s h) g e = rd s g e := rd_wrapInc_addr _ _ _ _ _ he

theorem half_cycleCounted (g : HalfId) : half (cycleCounted s h) g = half s g := half_wrapInc ..

theorem drainDi_keeps (s : State) (h : HalfId) : Keeps 0x200101200000 s (drainDi s h) :=
  keeps_drainDi h (by decide) (Keeps.refl _ s)

/-- A boundary of a running half that runs its own scheduler. -/
theorem exec_arcadeCycleBoundary_own (hal : alive s h = true) (hrun : running s h = true)
    (hown : ownsLogic s h = true) :
    exec (.arcadeCycleBoundary h) s = .next (drainDi (boundaryOwn (cycleCounted s h) h) h) := by
  have hserved : (!present s h || !(half s h).mode.powered || (half s h).mode.inReset) = false := by
    simp only [alive, Bool.and_eq_true, Bool.not_eq_true'] at hal
    simp [hal]
  have hrun' : running (cycleCounted s h) h = true := by
    simpa only [running, booted, half_cycleCounted, rd_cycleCounted (e := Reg.SYS_MODE_BOOT_STEP) (by decide)]
      using hrun
  have hown' : ownsLogic (cycleCounted s h) h = true := by rwa [ownsLogic, half_cycleCounted]
  change execArcadeCycleBoundary h s = _
  rw [cycleCounted] at *
  simp only [execArcadeCycleBoundary, hserved, Bool.false_eq_true, if_false, hrun', Bool.not_true, hown', if_true]

/-- Where no logic runs and none waits to start, the boundary latches the inputs. -/
theorem boundaryOwn_idle (hlogic : logicRuns s h = false) (hstart : (half s h).lge.restart = 0) :
    boundaryOwn (cycleCounted s h) h = latchImage (cycleCounted s h) h := by
  have hlogic' : logicRuns (cycleCounted s h) h = false :=
    (congrArg (· != 0) (rd_cycleCounted (by decide))).trans hlogic
  simp only [boundaryOwn, half_cycleCounted, hstart, ne_eq, not_true_eq_false, false_and, if_false, hlogic',
    Bool.not_false, if_true]

/-- Where a cyclic task is due again that has not ended, the boundary stops the logic. -/
theorem boundaryOwn_overrun {r : TaskRec} (hlogic : logicRuns s h = true) (hstart : (half s h).lge.restart = 0)
    (hover : overrunning s h ((rd s h Reg.LGE_CYCLE_COUNT + 1) % 2 ^ 32) = some r) :
    boundaryOwn (cycleCounted s h) h = overrunStop (cycleCounted s h) h 1 r := by
  have hlogic' : logicRuns (cycleCounted s h) h = true :=
    (congrArg (· != 0) (rd_cycleCounted (by decide))).trans hlogic
  have hover' : overrunning (cycleCounted s h) h (rd (cycleCounted s h) h Reg.LGE_CYCLE_COUNT) = some r := by
    rw [cycle_cycleCounted]
    simpa only [overrunning, taskRecs, cyclicDue, taskState, half_cycleCounted] using hover
  simp only [boundaryOwn, half_cycleCounted, hstart, ne_eq, not_true_eq_false, false_and, if_false, hlogic',
    Bool.not_true, Bool.false_eq_true, hover']

end Boundary

/-- Settles O22: jumps by their case, END by what stands before the dispatch, a boundary by the image that it latches
or by the stop of the task that overran. -/
theorem logicControlComplete : Obligations.LogicControlComplete := by
  refine ⟨fun h r target s hr => ⟨fun hd => ⟨?_, ?_, ?_⟩, fun hd hown => ⟨_, rfl, ?_⟩⟩, fun h r s hr hd => ?_,
    fun h s hal hrun hown hlogic hstart => ?_, fun h r s hal hrun hown hlogic hstart hover => ?_,
    fun h k r s hrec hkind hlogic hstate hage => ?_⟩
  · exact ⟨_, rfl, jumpOp_spec hr hd target _⟩
  · exact ⟨_, rfl, jumpOp_spec hr hd target _⟩
  · refine ⟨_, rfl, ?_⟩
    have hjump := jumpOp_spec hr hd target fun a => !a
    cases hacc : accOf s h r.prio <;> simpa [hacc] using hjump
  · simp only [jumpOp, hr, Bool.not_true, Bool.false_eq_true, if_false, if_pos hd]
    exact stackFault_spec hown (by decide)
  · obtain ⟨u, hu, hspec⟩ := taskEnd_spec s h r
    refine ⟨taskEnd s h r, ?_, u, hu, hspec⟩
    change execEndTask h s = _
    simp [execEndTask, hr, hd]
  · have hk := drainDi_keeps (latchImage (cycleCounted s h) h) h
    refine ⟨_, exec_arcadeCycleBoundary_own hal hrun hown, ?_⟩
    dsimp only
    rw [boundaryOwn_idle hlogic hstart, lw_of_keeps hk (by decide), lw_of_keeps hk (by decide),
      lw_latchImage (show 28 < 34 by decide), lw_latchImage (show 31 < 34 by decide),
      hk.rd h Reg.LGE_CYCLE_COUNT (by decide) (by decide)]
    refine ⟨?_, ?_, ?_⟩
    · rw [latchImage, rd_modLge, cycle_cycleCounted]
    · exact rd_cycleCounted (by decide)
    · exact rd_cycleCounted (by decide)
  · have hk := drainDi_keeps (overrunStop (cycleCounted s h) h 1 r) h
    refine ⟨_, exec_arcadeCycleBoundary_own hal hrun hown, ?_⟩
    dsimp only
    rw [boundaryOwn_overrun hlogic hstart hover, logicRuns_of_keeps hk (by decide),
      hk.rd h Reg.LGE_STAT_CAUSE (by decide) (by decide)]
    exact logicHalt_spec _ h _ _ (by decide)
  · refine ⟨overrunStop s h 2 r, ?_, logicHalt_spec _ h _ _ (by decide)⟩
    change execEventTaskLimit h k s = _
    simp only [execEventTaskLimit, hrec, hkind, hlogic, bne_iff_ne.mpr hstate, decide_eq_true hage, BEq.rfl,
      Bool.and_self, if_true]

end Sys2Proof.Machine
end

section
/-!
PROOFS of the statements about the Gavel: its lines and rounds, the commands of GAV_CMD and the planned handover, the
cross-link and the loss of the leader, and the self-tests.
-/

namespace Sys2Proof.Machine

open Sys2Proof (HalfId Instr)

/-! ### GAVEL_MON and the registers of the Gavel -/

section Lines

variable {s : State} {g h : HalfId}

theorem holds_iff_mon : holds s h = true ↔ s.field.mon = monOf h := by
  cases h <;> simp [holds, monOf]

/-- A one-bit field beside another of the same register. -/
theorem rdB_wrB_beside (s : State) (h : HalfId) (f e : Fld) (b : Bool) (hk : e.key = f.key) (hl : f.lo ≤ f.hi)
    (hl' : e.lo ≤ e.hi) (hh : f.hi < 32) (hd : f.hi < e.lo ∨ e.hi < f.lo) : rdB (wrB s h f b) h e = rdB s h e :=
  congrArg (· != 0) (rd_wrB_disj s h f e b hk hl hl' hh hd)

/-- A flag put in every half of the module is put in each that is fitted. -/
theorem rdB_foldl_wrB {e : Fld} {b : Bool} {hs : List HalfId} (hmem : h ∈ hs) (hl : e.lo = e.hi) (hh : e.hi < 32)
    (hs' : sharedKey e.key = false) : rdB (hs.foldl (fun s x => wrB s x e b) s) h e = b := by
  refine foldl_establishes (f := fun s x => wrB s x e b) (I := fun _ => True) (P := fun t => rdB t h e = b) (fun _ _ _ => trivial)
    (fun t _ => rdB_wrB_same t h e b hl hh) (fun t x ht => ?_) hmem trivial
  by_cases hx : h = x
  · subst hx
    exact rdB_wrB_same t h e b hl hh
  · exact (congrArg (· != 0) (rd_wrB_half b rfl hs' hx)).trans ht

/-- A status that fits the result register reads back as reported. -/
theorem rd_result_status_of_lt (s : State) (h : HalfId) (q c t : Fld) (cv : Nat) {tv : Nat} (hl : t.lo ≤ t.hi)
    (hh : t.hi < 32) (htv : tv < 2 ^ (t.hi + 1 - t.lo)) : rd (result s h q c t cv tv) h t = tv :=
  (rd_result_status s h q c t cv tv hl hh).trans (Nat.mod_eq_of_lt htv)

theorem rd_result_cmd_of_lt (s : State) (h : HalfId) (q c t : Fld) {cv : Nat} (tv : Nat) (hk : c.key = t.key)
    (hl : c.lo ≤ c.hi) (hl' : t.lo ≤ t.hi) (hh : c.hi < 32) (hh' : t.hi < 32) (hd : t.hi < c.lo ∨ c.hi < t.lo)
    (hcv : cv < 2 ^ (c.hi + 1 - c.lo)) : rd (result s h q c t cv tv) h c = cv :=
  (rd_result_cmd s h q c t cv tv hk hl hl' hh hh' hd).trans (Nat.mod_eq_of_lt hcv)

theorem monOf_ne_zero (h : HalfId) : monOf h ≠ 0 := by cases h <;> decide
theorem monOf_ne_three (h : HalfId) : monOf h ≠ 3 := by cases h <;> decide

end Lines

/-! ### The no-leader state (R416, R507) -/

section NoLeader

variable {s : State}

/-- The marks of the no-leader state, before commands close and the halves record it. -/
def noLeaderMarked (s : State) : State :=
  modIo (modRounds ((halves s).foldl (fun s x => wrB s x Reg.GAV_STAT_NO_LEADER true)
    (wrB s .a Reg.TRM_CELL_STAT_NO_LEADER true)) fun g => { g with since := s.ticks + 1 })
    fun x => { x with tmoStopped := false }

/-- A flag of the Gavel put in several halves changes the block GAV alone. -/
theorem keeps_gavFlag (s : State) (hs : List HalfId) {f : Fld} (b : Bool) (hf : fits 0x4 f.key = true) :
    Keeps 0x4 s (hs.foldl (fun s x => wrB s x f b) s) :=
  keeps_foldl _ _ (fun _ x ht => keeps_wrB x f b hf ht) (Keeps.refl _ s)

theorem keeps_noLeader_marked (hlcl : s.field.io.lclOut = false) (c : Nat) (by_ : List HalfId) :
    Keeps 0x1023C5012C2000 (noLeaderMarked s) (noLeader s c by_) := by
  simp only [noLeader, hlcl, Bool.false_eq_true, if_false]
  exact keeps_foldl _ _ (fun _ x ht => keeps_ledgerH x _ _ (by decide) ht)
    (keeps_closeCommandsOff (by decide) (Keeps.refl _ _))

/-- The no-leader state begins: its instant, GAVEL_MON as it was, and NO_LEADER in the vote cells. -/
theorem noLeader_spec (hlcl : s.field.io.lclOut = false) (c : Nat) (by_ : List HalfId) :
    (noLeader s c by_).field.gavel.since = s.ticks + 1 ∧ (noLeader s c by_).field.mon = s.field.mon ∧
    rdB (noLeader s c by_) .a Reg.TRM_CELL_STAT_NO_LEADER = true := by
  have hk := keeps_noLeader_marked hlcl c by_
  have hflags := keeps_gavFlag (wrB s .a Reg.TRM_CELL_STAT_NO_LEADER true) (halves s)
    (f := Reg.GAV_STAT_NO_LEADER) true (by decide)
  refine ⟨?_, ?_, ?_⟩
  · rw [hk.rounds (by decide)]
    rfl
  · rw [hk.mon (by decide)]
    exact hflags.mon (by decide)
  · rw [hk.rdB _ _ (by decide) (by decide)]
    exact (hflags.rdB _ _ (by decide) (by decide)).trans (rdB_wrB_same _ _ _ _ rfl (by decide))

end NoLeader

/-! ### Request, grant and cancellation (R502 to R506) -/

section Release

variable {s : State} {h : HalfId}

theorem keeps_loseLeader_refl (s : State) (h : HalfId) : Keeps 0x10A38E0526000D s (loseLeader s h) :=
  keeps_loseLeader h (by decide) (Keeps.refl _ s)

/-- A half that is released gives GAVEL_MON back where it held it. -/
theorem mon_release (s : State) (h : HalfId) :
    (release s h).field.mon = if holds s h then 0 else s.field.mon := by
  unfold release
  extract_lets s1 s2 s3
  split
  · rfl
  · simp only [s3, modGav, setHalf_field, s2, wrB_field]
    exact (keeps_loseLeader_refl s h).mon (by decide)

/-- Request and grant of a half that is released are gone. -/
theorem lines_release (s : State) (h : HalfId) :
    rdB (release s h) h Reg.GAV_STAT_REQ = false ∧ rdB (release s h) h Reg.GAV_STAT_GRANT = false := by
  unfold release
  extract_lets s1 s2 s3
  have hreq : rdB s3 h Reg.GAV_STAT_REQ = false := by
    simp (disch := decide) only [s3, s2, modGav, rdB_setHalf, rdB_wrB_beside]
    exact rdB_wrB_same _ _ _ _ rfl (by decide)
  have hgrant : rdB s3 h Reg.GAV_STAT_GRANT = false := by
    simp only [s3, s2, modGav, rdB_setHalf]
    exact rdB_wrB_same _ _ _ _ rfl (by decide)
  split
  · exact ⟨hreq, hgrant⟩
  · exact ⟨hreq, hgrant⟩

theorem keeps_release_refl (s : State) (h : HalfId) : Keeps 0x18A38E8526000D s (release s h) :=
  keeps_release h (by decide) (Keeps.refl _ s)

/-- Of several halves that are released one was the holder: GAVEL_MON reads 00. -/
theorem mon_foldl_release {hs : List HalfId} (hmem : h ∈ hs) (hholds : holds s h = true) :
    (hs.foldl release s).field.mon = 0 := by
  refine foldl_establishes (f := release) (I := fun t => t.field.mon = monOf h ∨ t.field.mon = 0)
    (P := fun t => t.field.mon = 0) (fun t x ht => ?_) (fun t ht => ?_) (fun t x ht => ?_) hmem
    (.inl (holds_iff_mon.mp hholds))
  · rw [mon_release]
    split
    · exact .inr rfl
    · exact ht
  · rw [mon_release]
    split
    · rfl
    · rename_i hnot
      exact ht.resolve_left fun he => hnot (holds_iff_mon.mpr he)
  · rw [mon_release, ht, ite_self]

/-- Where no half is named, releasing changes nothing of GAVEL_MON. -/
theorem mon_foldl_release_three (hs : List HalfId) (hmon : s.field.mon = 3) : (hs.foldl release s).field.mon = 3 := by
  refine foldl_keeps (f := release) (P := fun t => t.field.mon = 3) (fun t x ht => ?_) hs hmon
  have hnot : holds t x = false := by
    cases x <;> simp [holds, ht]
  rw [mon_release, hnot]
  exact ht

theorem keeps_foldl_release (s : State) (hs : List HalfId) : Keeps 0x18A38E8526000D s (hs.foldl release s) :=
  keeps_foldl _ _ (fun _ x ht => keeps_release x (by decide) ht) (Keeps.refl _ s)

/-- A disagreement of the lines (R507): its case 2 shows in GAVEL_MON, in the others the holder is released. -/
theorem gavelDisagree_spec {c : Nat} (hc1 : 1 ≤ c) (hc4 : c ≤ 4) (harmed : s.field.gavel.armed = true)
    (hal : c = 1 → alive s h = true) (hlcl : s.field.io.lclOut = false) :
    Completes (.gavelDisagree h c) s fun t =>
      t.field.gavel.since = s.ticks + 1 ∧ (c = 2 → t.field.mon = 3) ∧
      (c ≠ 2 → present s h = true → holds s h = true → t.field.mon = 0) := by
  have hcase : ¬ (c = 0 ∨ 4 < c ∨ s.field.gavel.armed = false ∨ (c = 1 ∧ alive s h = false)) := by
    rintro (hz | hz | hz | ⟨hz, hz'⟩)
    · omega
    · omega
    · simp [harmed] at hz
    · simp [hal hz] at hz'
  let s0 := if c = 2 then (halves s).foldl loseLeader (putMon s 3) else s
  let who := if c = 1 then [h] else halves s
  have hs0 : Keeps 0x10A38E8526000D s s0 := by
    simp only [s0]
    exact keeps_ite _ (keeps_foldl _ _ (fun _ x ht => keeps_loseLeader x (by decide) ht)
      (keeps_putMon _ (by decide) (Keeps.refl _ s))) (Keeps.refl _ s)
  have hrel := keeps_foldl_release s0 who
  obtain ⟨hsince, hmon, -⟩ := noLeader_spec (s := who.foldl release s0)
    (by rw [hrel.io (by decide), hs0.io (by decide), hlcl]) c (if c = 1 then [h] else runningHalves s)
  refine ⟨_, if_neg hcase, ?_, fun h2 => ?_, fun h2 hp hh => ?_⟩
  · rw [hsince, hrel.ticks (by decide), hs0.ticks (by decide)]
  · rw [hmon]
    refine mon_foldl_release_three who ?_
    simp only [s0, if_pos h2]
    exact foldl_keeps (P := fun t => t.field.mon = 3)
      (fun t x ht => ((keeps_loseLeader_refl t x).mon (by decide)).trans ht) _ rfl
  · rw [hmon]
    have hmem : h ∈ who := by
      simp only [who]
      split
      · exact List.mem_singleton.mpr rfl
      · exact mem_halves_of_present hp
    have hs : s0 = s := if_neg h2
    rw [hs]
    exact mon_foldl_release hmem hh

end Release

/-! ### The element's commands (R502 to R508, R416) -/

section Element

variable {s : State} {h : HalfId}

/-- The half that the element grants to, before it comes to act. -/
def granted (s : State) (h : HalfId) : State :=
  (halves (wrB (putMon s (monOf h)) h Reg.GAV_STAT_GRANT true)).foldl
    (fun s x => wr s x Reg.SMP_SYNC_STAT_DRIVER (halfNo h)) (wrB (putMon s (monOf h)) h Reg.GAV_STAT_GRANT true)

theorem granted_spec (s : State) (h : HalfId) :
    rdB (granted s h) h Reg.GAV_STAT_GRANT = true ∧ holds (granted s h) h = true := by
  have hk : Keeps 0x10 (wrB (putMon s (monOf h)) h Reg.GAV_STAT_GRANT true) (granted s h) :=
    keeps_foldl _ _ (fun _ x ht => keeps_wr x _ _ (by decide) ht) (Keeps.refl _ _)
  exact ⟨(hk.rdB _ _ (by decide) (by decide)).trans (rdB_wrB_same _ _ _ _ rfl (by decide)),
    holds_iff_mon.mpr (hk.mon (by decide))⟩

theorem exec_gavelGrant_waiting (hal : alive s h = true) (hreq : rdB s h Reg.GAV_STAT_REQ = true)
    (hmon : s.field.mon = 0) : exec (.gavelGrant h) s = .next (actUpdate (granted s h) h) := by
  change execGavelGrant h s = _
  simp only [execGavelGrant, hal, hreq, hmon, Bool.not_true, Bool.false_or, bne_self_eq_false, Bool.false_eq_true,
    if_false]
  rfl

theorem holds_actUpdate (s : State) (h : HalfId) : holds (actUpdate s h) h = holds s h := by
  have hk : Keeps 0x1CE3CE052E480D s (actUpdate s h) := keeps_actUpdate h (by decide) (Keeps.refl _ s)
  simp only [holds, hk.mon (by decide)]

/-- The grant of half `h` is taken back. -/
def cancelled (s : State) (h : HalfId) : State :=
  modIo (putMon (if alive s h then wrB (loseLeader s h) h Reg.GAV_STAT_GRANT false
    else wrB (wrB (loseLeader s h) h Reg.GAV_STAT_GRANT false) h Reg.GAV_STAT_REQ false) 0)
    fun x => { x with tmoStopped := s.field.gavel.since == 0 }

/-- The holder that GAVEL_MON names loses its grant for a cause of R503. -/
theorem gavelCancel_spec (hmon : s.field.mon = monOf h) (hcut : alive s h = false ∨ rdB s h Reg.GAV_STAT_REQ = false ∨
    (rdB s (other h) Reg.GAV_STAT_REQ = true ∧ rdB s (other h) Reg.GAV_STAT_HOLDER_STROBE = false)) :
    Completes .gavelCancel s fun t => t.field.mon = 0 ∧ rdB t h Reg.GAV_STAT_GRANT = false := by
  have hnamed : (if s.field.mon = 1 then HalfId.a else HalfId.b) = h := by
    rw [hmon]
    cases h <;> rfl
  have hcut' : ¬ (alive s h && rdB s h Reg.GAV_STAT_REQ &&
      !(rdB s (other h) Reg.GAV_STAT_REQ && !rdB s (other h) Reg.GAV_STAT_HOLDER_STROBE)) = true := by
    rcases hcut with hz | hz | ⟨hz, hz'⟩
    · simp [hz]
    · simp [hz]
    · simp [hz, hz']
  refine ⟨cancelled s h, ?_, rfl, ?_⟩
  · change execGavelCancel s = _
    rw [execGavelCancel, if_neg (hmon ▸ monOf_ne_three h), if_neg (hmon ▸ monOf_ne_zero h)]
    simp only [hnamed]
    rw [if_neg hcut']
    rfl
  · have hgrant : rdB (wrB (loseLeader s h) h Reg.GAV_STAT_GRANT false) h Reg.GAV_STAT_GRANT = false :=
      rdB_wrB_same _ _ _ _ rfl (by decide)
    change rdB (if alive s h then _ else wrB _ h Reg.GAV_STAT_REQ false) h Reg.GAV_STAT_GRANT = false
    split
    · exact hgrant
    · exact (rdB_wrB_beside _ _ Reg.GAV_STAT_REQ Reg.GAV_STAT_GRANT _ rfl (by decide) (by decide) (by decide)
        (by decide)).trans hgrant

/-- The rounds of the module after a round has failed. -/
def roundFailed (s : State) : State :=
  modRounds ((halves s).foldl (fun s x => satAdd s x Reg.GAV_COUNT_ROUNDS_FAILED 1) s) fun g => { g with
    fails := (s.ticks :: s.field.gavel.fails.filter fun t => decide (s.ticks < t + 1250000000)).take 3
    since := s.ticks + 1 }

theorem gavel_roundFailed (s : State) : (roundFailed s).field.gavel = { s.field.gavel with
    fails := (s.ticks :: s.field.gavel.fails.filter fun t => decide (s.ticks < t + 1250000000)).take 3
    since := s.ticks + 1 } := by
  have hk : Keeps 0x4 s ((halves s).foldl (fun s x => satAdd s x Reg.GAV_COUNT_ROUNDS_FAILED 1) s) :=
    keeps_foldl _ _ (fun _ x ht => keeps_satAdd x _ _ (by decide) ht) (Keeps.refl _ s)
  simp only [roundFailed, modRounds, hk.rounds (by decide)]

/-- Leader-class lockout ends the rounds. -/
theorem gavel_lclEnter (s : State) (n : Nat) : (lclEnter s n).field.gavel = { s.field.gavel with since := 0 } := by
  have hflags : Keeps 0x4 s ((halves s).foldl
      (fun s x => wrB (wrB s x Reg.GAV_STAT_LCL true) x Reg.GAV_STAT_REQ false) s) :=
    keeps_foldl _ _ (fun _ x ht => keeps_wrB x _ _ (by decide) (keeps_wrB x _ _ (by decide) ht)) (Keeps.refl _ s)
  unfold lclEnter
  extract_lets s1 s2
  have hk : Keeps 0x1023C5012C2000 s2 ((runningHalves s).foldl (fun s x => ledgerH s x 0x0E04 (p4 n))
      (closeCommandsOff (leaderSafe s2))) :=
    keeps_foldl _ _ (fun _ x ht => keeps_ledgerH x _ _ (by decide) ht)
      (keeps_closeCommandsOff (by decide) (keeps_leaderSafe (by decide) (Keeps.refl _ s2)))
  rw [hk.rounds (by decide)]
  exact congrArg (fun g : GavelRounds => { g with since := 0 }) (hflags.rounds (by decide))

/-- A round that fails is counted; the next begins, or the third within 10 s ends the rounds. -/
theorem roundTimeout_spec (hsince : s.field.gavel.since ≠ 0) (hleader : leader s = none) :
    Completes .roundTimeout s fun t =>
      let fails := s.ticks :: s.field.gavel.fails.filter fun t => decide (s.ticks < t + 1250000000)
      t.field.gavel.fails = fails.take 3 ∧
      t.field.gavel.since = if 3 ≤ fails.length ∧ s.field.mon ≠ 3 then 0 else s.ticks + 1 := by
  refine ⟨_, if_neg (by simp [hsince, hleader]), ?_⟩
  have hrec : ∀ bs, Keeps 0x10238401240000 (roundFailed s)
      ((runningHalves s).foldl (fun s x => ledgerH s x 0x0E03 bs) (roundFailed s)) := fun bs =>
    keeps_foldl _ _ (fun _ x ht => keeps_ledgerH x _ _ (by decide) ht) (Keeps.refl _ _)
  have hg := fun bs => ((hrec bs).rounds (by decide)).trans (gavel_roundFailed s)
  dsimp only
  split
  · rw [gavel_lclEnter]
    exact ⟨congrArg GavelRounds.fails (hg _), rfl⟩
  · exact ⟨congrArg GavelRounds.fails (hg _), congrArg GavelRounds.since (hg _)⟩

end Element

/-- Settles O23: requests and grants by the lines that they put, a cancellation and a disagreement by GAVEL_MON, the
no-leader state and its rounds by their instants. -/
theorem gavelLinesAndRounds : Obligations.GavelLinesAndRounds := by
  refine ⟨fun h s hel hdeg hreq hmon hwhen => ?_, fun h s hal hreq hmon => ?_, 
    fun h s hmon hcut => gavelCancel_spec hmon hcut, fun s hmon => ⟨_, if_pos hmon, rfl⟩, fun s harmed hmon hsince hnl hleader hlcl => ?_,
    fun h c s hc1 hc4 harmed hal hlcl => gavelDisagree_spec hc1 hc4 harmed hal hlcl,
    fun s hsince hleader => roundTimeout_spec hsince hleader⟩
  · refine ⟨request s h 5, ?_, rdB_wrB_same s h _ _ rfl (by decide)⟩
    change execGavelRequestTimer h s = _
    rcases hwhen with hw | hw <;> simp [execGavelRequestTimer, hel, hdeg, hreq, hmon, hw]
  · obtain ⟨hgrant, hholds⟩ := granted_spec s h
    exact ⟨_, exec_gavelGrant_waiting hal hreq hmon, (holds_actUpdate _ h).trans hholds, _, rfl, hgrant, hholds⟩
  · obtain ⟨hinst, -, hcell⟩ := noLeader_spec hlcl (if s.field.mon = 3 then 2 else 5) (runningHalves s)
    refine ⟨_, ?_, hcell, hinst⟩
    change execNoLeaderTimeout s = _
    rcases hmon with hm | hm <;> simp [execNoLeaderTimeout, harmed, hm, hsince, hnl, hleader]

/-! ### The commands of GAV_CMD (R508, R514, R520, R528) -/

section GavCmd

variable {s : State} {h : HalfId}

/-- A report of GAV_CMD: its command and status, and beside GAV_RESULT every register. -/
theorem gavResult_spec (s : State) (h : HalfId) {c st : Nat} (hc : c < 2 ^ 8) (hst : st < 2 ^ 8) :
    rd (gavResult s h c st) h Reg.GAV_RESULT_CMD = c ∧ rd (gavResult s h c st) h Reg.GAV_RESULT_STATUS = st :=
  ⟨rd_result_cmd_of_lt _ _ _ _ _ _ rfl (by decide) (by decide) (by decide) (by decide) (by decide) hc,
    rd_result_status_of_lt _ _ _ _ _ _ (by decide) (by decide) hst⟩

theorem rd_gavResult_addr (g : HalfId) (c st : Nat) {e : Fld} (he : e.key % 0x100000000 ≠ 0x2001C) :
    rd (gavResult s h c st) g e = rd s g e := rd_result_addr _ _ _ _ _ _ _ _ _ he he he

theorem rdB_gavResult_addr (g : HalfId) (c st : Nat) {e : Fld} (he : e.key % 0x100000000 ≠ 0x2001C) :
    rdB (gavResult s h c st) g e = rdB s g e := congrArg (· != 0) (rd_gavResult_addr g c st he)

@[simp] theorem half_gavResult (g : HalfId) (c st : Nat) : half (gavResult s h c st) g = half s g := half_result ..

/-- Past the mode and with no handover pending, R528 checks what the command itself asks. -/
theorem gavStatus_open (hboot : modeOf s h ≠ mBOOT) (hlock : modeOf s h ≠ mLOCKOUT) (hfree : handoverPending s = false)
    {c : Nat} (hc : 1 ≤ c ∧ c ≤ 5) : gavStatus s h c =
      if c = 1 then
        (if !acts s h then 0x12
         else if !eligible s (other h) || rdB s (other h) Reg.GAV_LS_STAT_DEGRADED then 0x21
         else if rd s h Reg.GAV_LS_STAT_STATE ≠ 1 then 0x22 else 0x01)
      else if c = 2 then
        (if rdB s h Reg.GAV_LS_STAT_DEGRADED && !rdB s h Reg.GAV_STAT_FAILED_LEAD && (leader s).isNone then 0x02 else 0x23)
      else if c = 3 then (if rdB s h Reg.GAV_STAT_LCL && s.field.mon != 3 then 0x02 else 0x23)
      else if c = 4 then (if rdB s h Reg.GAV_RETURN_SUSPENDED then 0x02 else 0x23)
      else (if (halves s).any fun x => rdB s x Reg.GAV_LS_STAT_DEGRADED then 0x02 else 0x23) := by
  rw [gavStatus, if_neg (by omega), if_neg (not_or.mpr ⟨hboot, hlock⟩), hfree]
  rfl

/-- CLEAR_LCL: the lockout of the leader-class outputs ends in the halves that are fitted, and its acceptance is a
no-leader instant. -/
theorem clearLcl_spec (s : State) (hmem : h ∈ halves s) :
    rdB (clearLcl s h) h Reg.GAV_STAT_LCL = false ∧ (clearLcl s h).field.io.lclOut = false ∧
    (clearLcl s h).field.gavel.since = s.ticks + 1 ∧
    rd (clearLcl s h) h Reg.GAV_RESULT_STATUS = rd s h Reg.GAV_RESULT_STATUS := by
  unfold clearLcl
  extract_lets s1 s2
  have hk : Keeps 0x10238401240000 s2 (ledgerH s2 h 0x0E05 (p4 1)) := keeps_ledgerH h _ _ (by decide) (Keeps.refl _ s2)
  refine ⟨?_, ?_, ?_, ?_⟩
  · rw [hk.rdB _ _ (by decide) (by decide)]
    exact rdB_foldl_wrB hmem rfl (by decide) (by decide)
  · rw [hk.io (by decide)]
    rfl
  · rw [hk.rounds (by decide)]
    rfl
  · rw [hk.rd _ _ (by decide) (by decide)]
    exact foldl_unchanged (fun t => rd t h Reg.GAV_RESULT_STATUS) (fun t x => rd_wrB_addr _ _ _ _ _ _ (by decide)) _ s

/-- A half that is DEGRADED no longer is, and no other register of the Gavel changes. -/
theorem rd_clearDegraded (x g : HalfId) {e : Fld} (hb : keyBlock e.key = 2) (he : e.key % 0x100000000 ≠ 0x20030) :
    rd (clearDegraded s x) g e = rd s g e := by
  unfold clearDegraded
  split
  · rfl
  · extract_lets s1
    have hk : Keeps 0x1023C4012C0000 (wrB s x Reg.GAV_LS_STAT_DEGRADED false) (tallySet s1 x 11 1 0 0x0E0B) :=
      keeps_tallySet _ _ _ _ _ (by decide) (keeps_ledgerH _ _ _ (by decide) (Keeps.refl _ _))
    rw [hk.rd _ _ (by rw [hb]; decide) (by rw [hb]; decide)]
    exact rd_wrB_addr _ _ _ _ _ _ he

theorem degraded_clearDegraded (s : State) (x : HalfId) : rdB (clearDegraded s x) x Reg.GAV_LS_STAT_DEGRADED = false := by
  unfold clearDegraded
  split
  · rename_i hnot
    simpa using hnot
  · extract_lets s1
    have hk : Keeps 0x1023C4012C0000 (wrB s x Reg.GAV_LS_STAT_DEGRADED false) (tallySet s1 x 11 1 0 0x0E0B) :=
      keeps_tallySet _ _ _ _ _ (by decide) (keeps_ledgerH _ _ _ (by decide) (Keeps.refl _ _))
    rw [hk.rdB _ _ (by decide) (by decide)]
    exact rdB_wrB_same _ _ _ _ rfl (by decide)

theorem degraded_clearDegraded_ne {x g : HalfId} (hne : g ≠ x) :
    rdB (clearDegraded s x) g Reg.GAV_LS_STAT_DEGRADED = rdB s g Reg.GAV_LS_STAT_DEGRADED := by
  unfold clearDegraded
  split
  · rfl
  · extract_lets s1
    have hk : Keeps 0x1023C4012C0000 (wrB s x Reg.GAV_LS_STAT_DEGRADED false) (tallySet s1 x 11 1 0 0x0E0B) :=
      keeps_tallySet _ _ _ _ _ (by decide) (keeps_ledgerH _ _ _ (by decide) (Keeps.refl _ _))
    rw [hk.rdB _ _ (by decide) (by decide)]
    exact congrArg (· != 0) (rd_wrB_half _ rfl (by decide) hne)

/-- DEGRADED ends in each half that is fitted. -/
theorem degraded_foldl_clearDegraded {x : HalfId} {hs : List HalfId} (hmem : x ∈ hs) :
    rdB (hs.foldl clearDegraded s) x Reg.GAV_LS_STAT_DEGRADED = false := by
  refine foldl_establishes (f := clearDegraded) (I := fun _ => True)
    (P := fun t => rdB t x Reg.GAV_LS_STAT_DEGRADED = false) (fun _ _ _ => trivial)
    (fun t _ => degraded_clearDegraded t x) (fun t y ht => ?_) hmem trivial
  by_cases hy : x = y
  · subst hy
    exact degraded_clearDegraded t x
  · exact (degraded_clearDegraded_ne hy).trans ht

theorem gavCmd_accepted {c : Nat} (hst : gavStatus s h c = 0x01) :
    gavCmd s h c = modGav (gavResult s h c 0x01) h fun x => { x with handover := 2 } := by
  simp [gavCmd, hst]

theorem gavCmd_done {c : Nat} (hst : gavStatus s h c = 0x02) : gavCmd s h c =
    if c = 2 then request (modGav (gavResult s h c 0x02) h fun x => { x with takeover := true }) h 6
    else if c = 3 then clearLcl (gavResult s h c 0x02) h
    else if c = 4 then (halves s).foldl (fun s x => wrB s x Reg.GAV_RETURN_SUSPENDED false) (gavResult s h c 0x02)
    else (halves s).foldl clearDegraded (gavResult s h c 0x02) := by
  simp [gavCmd, hst]

/-- A half's GAV_STAT after what its GAV_RESULT reports. -/
theorem status_foldl_of_addr {f : State → HalfId → State} (hf : ∀ t x, rd (f t x) h Reg.GAV_RESULT_STATUS =
    rd t h Reg.GAV_RESULT_STATUS) (hs : List HalfId) (c : Nat) :
    rd (hs.foldl f (gavResult s h c 0x02)) h Reg.GAV_RESULT_STATUS = 0x02 :=
  (foldl_unchanged (fun t => rd t h Reg.GAV_RESULT_STATUS) hf hs _).trans
    (rd_result_status _ _ _ _ _ _ _ (by decide) (by decide))

variable (hal : alive s h = true) (hboot : modeOf s h ≠ mBOOT) (hlock : modeOf s h ≠ mLOCKOUT)
  (hfree : handoverPending s = false)

include hal hboot hlock hfree

theorem handoverCmd_spec (hacts : acts s h = true) (hel : eligible s (other h) = true)
    (hdeg : rdB s (other h) Reg.GAV_LS_STAT_DEGRADED = false) (hls : rd s h Reg.GAV_LS_STAT_STATE = 1) :
    Completes (.handoverCmd h) s fun t =>
      (half t h).gav.handover = 2 ∧ rd t h Reg.GAV_RESULT_CMD = 1 ∧ rd t h Reg.GAV_RESULT_STATUS = 0x01 := by
  have hst : gavStatus s h 1 = 0x01 := by
    rw [gavStatus_open hboot hlock hfree (by decide)]
    simp [hacts, hel, hdeg, hls]
  refine ⟨gavCmd s h 1, congrArg _ (access_of_alive hal _), ?_⟩
  rw [gavCmd_accepted hst]
  exact ⟨by simp, by simpa using gavResult_spec (c := 1) (st := 0x01) s h (by decide) (by decide)⟩

theorem takeover_spec (hdeg : rdB s h Reg.GAV_LS_STAT_DEGRADED = true)
    (hlead : rdB s h Reg.GAV_STAT_FAILED_LEAD = false) (hnone : leader s = none) :
    Completes (.takeover h) s fun t =>
      (half t h).gav.takeover = true ∧ rdB t h Reg.GAV_STAT_REQ = true ∧ rd t h Reg.GAV_RESULT_STATUS = 0x02 := by
  have hst : gavStatus s h 2 = 0x02 := by
    rw [gavStatus_open hboot hlock hfree (by decide)]
    simp [hdeg, hlead, hnone]
  refine ⟨gavCmd s h 2, congrArg _ (access_of_alive hal _), ?_⟩
  rw [gavCmd_done hst, if_pos rfl]
  refine ⟨?_, rdB_wrB_same _ _ _ _ rfl (by decide), ?_⟩
  · simp [request, modRounds]
  · refine (rd_wrB_addr _ _ _ _ _ _ (by decide)).trans ?_
    rw [rd_modGav]
    exact (gavResult_spec s h (by decide) (by decide)).2

theorem clearLclCmd_spec (hlcl : rdB s h Reg.GAV_STAT_LCL = true) (hmon : s.field.mon ≠ 3) :
    Completes (.clearLcl h) s fun t =>
      rdB t h Reg.GAV_STAT_LCL = false ∧ t.field.io.lclOut = false ∧ t.field.gavel.since = s.ticks + 1 ∧
      rd t h Reg.GAV_RESULT_STATUS = 0x02 := by
  have hst : gavStatus s h 3 = 0x02 := by
    rw [gavStatus_open hboot hlock hfree (by decide)]
    simp [hlcl, hmon]
  refine ⟨gavCmd s h 3, congrArg _ (access_of_alive hal _), ?_⟩
  rw [gavCmd_done hst, if_neg (by decide), if_pos rfl]
  obtain ⟨hlcl', hout, hsince, hstat⟩ := clearLcl_spec (gavResult s h 3 0x02) (mem_halves_of_alive (s := s) hal)
  exact ⟨hlcl', hout, hsince, hstat.trans (gavResult_spec s h (by decide) (by decide)).2⟩

theorem ackReturn_spec (hsus : rdB s h Reg.GAV_RETURN_SUSPENDED = true) :
    Completes (.ackReturn h) s fun t =>
      rdB t h Reg.GAV_RETURN_SUSPENDED = false ∧ rd t h Reg.GAV_RESULT_STATUS = 0x02 := by
  have hst : gavStatus s h 4 = 0x02 := by
    rw [gavStatus_open hboot hlock hfree (by decide)]
    simp [hsus]
  refine ⟨gavCmd s h 4, congrArg _ (access_of_alive hal _), ?_⟩
  rw [gavCmd_done hst, if_neg (by decide), if_neg (by decide), if_pos rfl]
  exact ⟨rdB_foldl_wrB (mem_halves_of_alive hal) rfl (by decide) (by decide),
    status_foldl_of_addr (fun _ _ => rd_wrB_addr _ _ _ _ _ _ (by decide)) _ 4⟩

theorem clearDegradedCmd_spec {x : HalfId} (hp : present s x = true) (hdeg : rdB s x Reg.GAV_LS_STAT_DEGRADED = true) :
    Completes (.clearDegraded h) s fun t =>
      rdB t x Reg.GAV_LS_STAT_DEGRADED = false ∧ rd t h Reg.GAV_RESULT_STATUS = 0x02 := by
  have hmem := mem_halves_of_present hp
  have hst : gavStatus s h 5 = 0x02 := by
    rw [gavStatus_open hboot hlock hfree (by decide)]
    simpa using ⟨x, hmem, hdeg⟩
  refine ⟨gavCmd s h 5, congrArg _ (access_of_alive hal _), ?_⟩
  rw [gavCmd_done hst, if_neg (by decide), if_neg (by decide), if_neg (by decide)]
  exact ⟨degraded_foldl_clearDegraded hmem,
    status_foldl_of_addr (fun t x => rd_clearDegraded (s := t) x h (by decide) (by decide)) _ 5⟩

end GavCmd

/-! ### The planned handover (R520, R521) -/

section Handover

variable {s : State} {h : HalfId}

theorem keeps_reversion_refl (s : State) (h : HalfId) : Keeps 0x18238401240004 s (reversion s h) :=
  keeps_reversion h (by decide) (Keeps.refl _ s)

/-- The leader's handover as its boundary finds it: published, reported and recorded, before the leader releases. -/
def handoverReported (s : State) (h : HalfId) (cause : Nat) : State :=
  let s1 := publishLogic s h
  let s2 := modGav (if cause = 2 then wr s1 h Reg.GAV_RESULT_STATUS 0x02 else gavResult s1 h 0 0x02) h
    fun x => { x with handover := 0 }
  let s3 := (halves s2).foldl (fun s x => satAdd s x Reg.GAV_COUNT_HANDOVERS 1) s2
  let s4 := ledgerH s3 h 0x0E07 (p4s [halfNo h, halfNo (other h), cause])
  if cause = 3 then reversion s4 h else s4

/-- What reporting a handover may change: neither GAVEL_MON nor the rounds. -/
theorem keeps_handoverReported (s : State) (h : HalfId) (cause : Nat) :
    Keeps 0x1EFFCD01ECAC05 s (handoverReported s h cause) := by
  unfold handoverReported
  extract_lets s1 s2 s3 s4
  have h1 : Keeps 0x1EFFCD01ECAC05 s s1 := keeps_publishLogic h (by decide) (Keeps.refl _ s)
  have h2 : Keeps 0x1EFFCD01ECAC05 s s2 :=
    keeps_modGav h _ (by decide) (keeps_ite _ (keeps_wr h _ _ (by decide) h1)
      (keeps_result h _ _ _ _ _ (by decide) (by decide) (by decide) h1))
  have h4 : Keeps 0x1EFFCD01ECAC05 s s4 :=
    keeps_ledgerH h _ _ (by decide) (keeps_foldl _ _ (fun _ x ht => keeps_satAdd x _ _ (by decide) ht) h2)
  exact keeps_ite _ (keeps_reversion h (by decide) h4) h4

/-- The leader releases, and the rounds take the handover's cause. -/
def handoverReleased (s : State) (h : HalfId) (cause : Nat) : State :=
  modIo (modRounds (release (handoverReported s h cause) h) fun g => { g with cause := cause })
    fun x => { x with tmoStopped := true }

theorem handoverReleased_spec (hholds : holds s h = true) (cause : Nat) :
    (handoverReleased s h cause).field.mon = 0 ∧ rdB (handoverReleased s h cause) h Reg.GAV_STAT_GRANT = false ∧
    rdB (handoverReleased s h cause) h Reg.GAV_STAT_REQ = false ∧
    (handoverReleased s h cause).field.gavel.cause = cause := by
  obtain ⟨hreq, hgrant⟩ := lines_release (handoverReported s h cause) h
  have hholds' : holds (handoverReported s h cause) h = true := by
    simpa only [holds, (keeps_handoverReported s h cause).mon (by decide)] using hholds
  exact ⟨(mon_release _ h).trans (if_pos hholds'), hgrant, hreq, rfl⟩

theorem exec_handoverBoundary_idle (hpend : (half s h).gav.handover ≠ 0) (hacts : acts s h = true)
    (hidle : ∀ r ∈ taskRecs s h, taskState s h r.task = 0) (hreq : rdB s (other h) Reg.GAV_STAT_REQ = true) :
    exec (.handoverBoundary h) s = .next (if (half s h).gav.handover = 4
      then startReload (handoverReleased s h (half s h).gav.handover)
      else handoverReleased s h (half s h).gav.handover) := by
  have hall : ((taskRecs s h).all fun r => taskState s h r.task == 0) = true := by
    simpa using hidle
  exact if_neg (by simp [hpend, hacts, hall, hreq])

theorem handoverBoundary_spec (hpend : (half s h).gav.handover ≠ 0) (hacts : acts s h = true)
    (hholds : holds s h = true) (hidle : ∀ r ∈ taskRecs s h, taskState s h r.task = 0)
    (hreq : rdB s (other h) Reg.GAV_STAT_REQ = true) :
    Completes (.handoverBoundary h) s fun t =>
      t.field.mon = 0 ∧ rdB t h Reg.GAV_STAT_GRANT = false ∧ rdB t h Reg.GAV_STAT_REQ = false ∧
      t.field.gavel.cause = (half s h).gav.handover := by
  refine ⟨_, exec_handoverBoundary_idle hpend hacts hidle hreq, ?_⟩
  have hspec := handoverReleased_spec hholds (half s h).gav.handover
  split
  · have hk : Keeps 0x4000000000004 (handoverReleased s h (half s h).gav.handover)
      (startReload (handoverReleased s h (half s h).gav.handover)) := keeps_startReload (by decide) (Keeps.refl _ _)
    have hstat (e : Fld) (he : e.key % 0x100000000 ≠ 0x20030) :
        rdB (startReload (handoverReleased s h (half s h).gav.handover)) h e =
        rdB (handoverReleased s h (half s h).gav.handover) h e :=
      congrArg (· != 0) (rd_putLockstep_addr 2 _ h e he _ _)
    obtain ⟨hmon, hgrant, hreq', hcause⟩ := hspec
    exact ⟨(hk.mon (by decide)).trans hmon, (hstat _ (by decide)).trans hgrant, (hstat _ (by decide)).trans hreq',
      (congrArg GavelRounds.cause (hk.rounds (by decide))).trans hcause⟩
  · exact hspec

/-- A planned handover that is abandoned: the leader reports it, and the partner's request is withdrawn. -/
theorem handoverAbandon_spec (hpend : (half s h).gav.handover ≠ 0) :
    (half (handoverAbandon s h) h).gav.handover = 0 ∧ rdB (handoverAbandon s h) (other h) Reg.GAV_STAT_REQ = false ∧
    rd (handoverAbandon s h) h Reg.GAV_RESULT_STATUS = 0x19 := by
  unfold handoverAbandon
  extract_lets cause s1 s2 s3
  have hcause : cause ≠ 0 := hpend
  rw [if_neg hcause]
  refine ⟨?_, ?_, ?_⟩
  · rw [modGav, half_setHalf_ne _ _ _ _ (other_ne h).symm]
    simp [s3, s2]
  · simp only [modGav, rdB_setHalf]
    exact rdB_wrB_same _ _ _ _ rfl (by decide)
  · simp only [s3, s2, rd_modGav, rd_wrB_addr _ _ _ Reg.GAV_STAT_REQ Reg.GAV_RESULT_STATUS _ (by decide)]
    simp only [s1]
    split
    · exact rd_wr_same _ _ _ _ (by decide) (by decide)
    · exact (gavResult_spec s h (by decide) (by decide)).2

/-- The home half's hold-off that has passed becomes its RETURN_REQ. -/
theorem returnHoldoff_spec (hready : returnReady s h = true) (hat : (half s h).gav.holdAt ≠ 0)
    (hdue : (half s h).gav.holdAt + holdoff s h * 125000000 ≤ s.ticks + 1) :
    Completes (.returnHoldoff h) s fun t => (half t h).gav.returning = true :=
  ⟨modGav s h fun x => { x with returning := true }, congrArg Host.Outcome.next (if_pos (by simp [hready, hat, hdue])),
    by simp⟩

/-- A leader that may hand over takes the return request as cause 3. -/
theorem returnReq_spec (hret : (half s (other h)).gav.returning = true) (hacts : acts s h = true)
    (hsus : rdB s h Reg.GAV_RETURN_SUSPENDED = false) (hfree : handoverPending s = false) :
    Completes (.returnReq h) s fun t => (half t h).gav.handover = 3 ∧ (half t (other h)).gav.returning = false := by
  refine ⟨modGav (modGav s (other h) fun x => { x with returning := false }) h fun x => { x with handover := 3 }, ?_, ?_⟩
  · change execReturnReq h s = _
    simp [execReturnReq, hret, hacts, hsus, hfree]
  · simp

end Handover

/-- Settles O24: the commands of GAV_CMD by what follows their acceptance, the handover by what its boundary leaves. -/
theorem handoverCommandsComplete : Obligations.HandoverCommandsComplete := by
  refine ⟨fun h s hal hboot hlock hfree => ⟨?_, ?_, ?_, ?_, ?_⟩,
    fun h s hpend hacts hel => ⟨wrB s h Reg.GAV_STAT_REQ true, congrArg Host.Outcome.next (if_pos ⟨hpend, hacts, hel⟩),
      rdB_wrB_same _ _ _ _ rfl (by decide)⟩,
    fun h s hpend hacts hholds hidle hreq => handoverBoundary_spec hpend hacts hholds hidle hreq,
    fun h s hpend => ⟨_, rfl, handoverAbandon_spec hpend⟩,
    fun h s hready hat hdue => returnHoldoff_spec hready hat hdue,
    fun h s hret hacts hsus hfree => returnReq_spec hret hacts hsus hfree⟩
  · exact fun hacts hel hdeg hls => handoverCmd_spec hal hboot hlock hfree hacts hel hdeg hls
  · exact fun hdeg hlead hnone => takeover_spec hal hboot hlock hfree hdeg hlead hnone
  · exact fun hlcl hmon => clearLclCmd_spec hal hboot hlock hfree hlcl hmon
  · exact fun hsus => ackReturn_spec hal hboot hlock hfree hsus
  · exact fun x hp hdeg => clearDegradedCmd_spec hal hboot hlock hfree hp hdeg

end Sys2Proof.Machine
end

section
/-!
PROOFS of the statements about the cross-link and the loss of the leader, and about the self-tests and memory errors.
-/

namespace Sys2Proof.Machine

open Sys2Proof (HalfId Instr)

/-! ### Heartbeats (R501, R530) -/

section Heartbeat

variable {s : State} {h g : HalfId}

theorem gav_tallySet (s : State) (h g : HalfId) (k cause code ev : Nat) :
    (half (tallySet s h k cause code ev) g).gav = (half s g).gav :=
  (keeps_tallySet h _ _ _ _ (by decide) (Keeps.refl 0x1023C4012C0000 s)).gav (by decide) g

/-- Reporting the errors of the last second changes of the Gavel's run state only those errors. -/
theorem gav_linkErrors (s : State) (h : HalfId) (n : Nat) :
    ∃ l, (half (linkErrors s h n) h).gav = { (half s h).gav with errs := l } := by
  unfold linkErrors
  exact ⟨_, by rw [gav_tallySet, half_modGav_same]⟩

theorem gav_outTick (s : State) (h : HalfId) : ∃ n, (half (outTick s h) h).gav = { (half s h).gav with outAt := n } := by
  unfold outTick
  exact ⟨_, by rw [gav_tallySet, half_modGav_same]⟩

theorem gav_holdTick (s : State) (h : HalfId) : ∃ n, (half (holdTick s h) h).gav = { (half s h).gav with holdAt := n } := by
  unfold holdTick
  split
  · exact ⟨_, by rw [half_wr, half_modGav_same]⟩
  · exact ⟨_, by rw [half_wr, half_modGav_same]⟩

/-- The hour's counts stand in REVERSIONS. -/
theorem reversions_hourTick (s : State) (h : HalfId) : rd (hourTick s h) h Reg.GAV_RETURN_REVERSIONS =
    min 3 (lastHour s (half s h).gav.reversions).length :=
  (rd_wr_addr _ _ _ _ _ _ (by decide)).trans
    (rd_wr_same' _ _ _ _ (by decide) (by decide) (Nat.lt_of_le_of_lt (Nat.min_le_left _ _) (by decide)))

/-- What is counted and shown before the tick's own counts. -/
def tickCounted (s : State) (h : HalfId) : State :=
  let s1 := if (half s h).gav.hbSeen || !twoHalves s then s else satAdd s h Reg.GAV_XL_STAT_HB_MISSED 1
  let s2 := modGav s1 h fun x => { x with hbSeen := false }
  if holds s h && rdB s h Reg.GAV_STAT_REQ then
    (halves s2).foldl (fun s x => wrB s x Reg.GAV_STAT_HOLDER_STROBE true) s2
  else s2

theorem tickCounted_spec (s : State) (h : HalfId) :
    (half (tickCounted s h) h).gav = { (half s h).gav with hbSeen := false } ∧ (tickCounted s h).ticks = s.ticks := by
  unfold tickCounted
  extract_lets s1 s2
  have h1 : Keeps 0x4 s s1 := keeps_ite _ (Keeps.refl _ s) (keeps_satAdd _ _ _ (by decide) (Keeps.refl _ s))
  have h3 : Keeps 0x4 s2 (if holds s h && rdB s h Reg.GAV_STAT_REQ then
      (halves s2).foldl (fun s x => wrB s x Reg.GAV_STAT_HOLDER_STROBE true) s2 else s2) :=
    keeps_ite _ (keeps_foldl _ _ (fun _ x ht => keeps_wrB x _ _ (by decide) ht) (Keeps.refl _ _)) (Keeps.refl _ _)
  have h2 : s2.ticks = s1.ticks := by simp [s2, modGav]
  refine ⟨(h3.gav (by decide) h).trans ?_, (h3.ticks (by decide)).trans (h2.trans (h1.ticks (by decide)))⟩
  rw [half_modGav_same, h1.gav (by decide) h]

theorem heartbeatSend_spec (hal : alive s h = true) : Completes (.heartbeatSend h) s fun t =>
    (half t h).gav.hbSeen = false ∧
    rd t h Reg.GAV_RETURN_REVERSIONS = min 3 (lastHour s (half s h).gav.reversions).length := by
  refine ⟨linkErrors (hourTick (holdTick (outTick (tickCounted s h) h) h) h) h 0, if_neg (by simp [hal]), ?_⟩
  obtain ⟨hgav, hticks⟩ := tickCounted_spec s h
  generalize tickCounted s h = u at *
  obtain ⟨n, hout⟩ := gav_outTick u h
  obtain ⟨m, hhold⟩ := gav_holdTick (outTick u h) h
  obtain ⟨l, herr⟩ := gav_linkErrors (hourTick (holdTick (outTick u h) h) h) h 0
  have htime : Keeps 0x1823C4012C0004 u (holdTick (outTick u h) h) :=
    keeps_holdTick h (by decide) (keeps_outTick h (by decide) (Keeps.refl _ u))
  have hk : Keeps 0x1823C4012C0000 (hourTick (holdTick (outTick u h) h) h)
      (linkErrors (hourTick (holdTick (outTick u h) h) h) h 0) := keeps_linkErrors h 0 (by decide) (Keeps.refl _ _)
  refine ⟨?_, (hk.rd h _ (by decide) (by decide)).trans ((reversions_hourTick _ h).trans ?_)⟩
  · rw [herr]
    simp only [hourTick, half_wr, hhold, hout, hgav]
  · simp only [lastHour, hhold, hout, hgav, (htime.ticks (by decide)).trans hticks]

/-- A received heartbeat is kept, and the partner's role shown. -/
def heartbeatTaken (s : State) (h : HalfId) (acked : Bool) : State :=
  tallyPartner (wr (modGav s h fun x => { x with
      hbAt := s.ticks + 1, hbTime := now s, hbSeen := true, probeAt := 0, replied := false
      tries := if acked then 0 else x.tries, lost := false }) h Reg.GAV_STAT_PARTNER_ROLE (roleOf s (other h))) h 3 0 0x0E06

theorem roleOf_lt (s : State) (h : HalfId) : roleOf s h < 4 := by
  unfold roleOf
  split_ifs <;> decide

theorem heartbeatTaken_spec (s : State) (h : HalfId) (acked : Bool) :
    (half (heartbeatTaken s h acked) h).gav.hbAt = s.ticks + 1 ∧ (half (heartbeatTaken s h acked) h).gav.lost = false ∧
    (half (heartbeatTaken s h acked) h).gav.probeAt = 0 ∧
    rd (heartbeatTaken s h acked) h Reg.GAV_STAT_PARTNER_ROLE = roleOf s (other h) := by
  have hk := keeps_tallyPartner h 3 0 0x0E06 (by decide) (Keeps.refl 0x1023C4012C0040 (wr (modGav s h fun x => { x with
      hbAt := s.ticks + 1, hbTime := now s, hbSeen := true, probeAt := 0, replied := false
      tries := if acked then 0 else x.tries, lost := false }) h Reg.GAV_STAT_PARTNER_ROLE (roleOf s (other h))))
  simp only [heartbeatTaken, hk.gav (by decide) h, hk.rd h Reg.GAV_STAT_PARTNER_ROLE (by decide) (by decide), half_wr,
    half_modGav_same, true_and]
  exact rd_wr_same' _ _ _ _ (by decide) (by decide) (roleOf_lt s _)

end Heartbeat

/-! ### The cross-link's state (R500, R519) -/

section CrossLink

variable {s : State} {h g : HalfId}

theorem present_of_keeps {m : Nat} {t : State} (hk : Keeps m s t) (h : HalfId) : present t h = present s h := by
  simp only [present, twoHalves, hk.variant]

theorem present_of_alive (hal : alive s h = true) : present s h = true := by
  simp only [alive, Bool.and_eq_true] at hal
  exact hal.1.1

/-- A link that is declared down shows it. -/
theorem up_linkDown (s : State) (h : HalfId) : rdB (linkDown s h) h Reg.GAV_XL_STAT_UP = false := by
  unfold linkDown
  split
  · rename_i hdown
    simpa using hdown
  · extract_lets s1 s2
    have hk : Keeps 0x1023C4012C0040 s1 (tallyPartner (tallySet s2 h 9 1 2 0x0E0E) h 4 2 0x0E0E) :=
      keeps_tallyPartner h _ _ _ (by decide) (keeps_tallySet h _ _ _ _ (by decide) (keeps_ledgerH h _ _ (by decide)
        (Keeps.refl _ s1)))
    refine (congrArg (· != 0) (rd_putLockstep_addr 0 _ h Reg.GAV_XL_STAT_UP (by decide) _ _)).trans ?_
    refine (hk.rdB h _ (by decide) (by decide)).trans ?_
    simp only [s1, rdB, rd_modGav]
    exact rdB_wrB_same s h Reg.GAV_XL_STAT_UP false rfl (by decide)

/-- Of the Gavel's run state a link that goes down changes only the count of transmissions. -/
theorem gav_linkDown (s : State) (h : HalfId) : ∃ n, (half (linkDown s h) h).gav = { (half s h).gav with tries := n } := by
  unfold linkDown
  split
  · exact ⟨_, rfl⟩
  · extract_lets s1 s2
    have hk : Keeps 0x1423C4012C0044 s1 (endLockstep (tallyPartner (tallySet s2 h 9 1 2 0x0E0E) h 4 2 0x0E0E)) :=
      keeps_endLockstep (by decide) (keeps_tallyPartner h _ _ _ (by decide) (keeps_tallySet h _ _ _ _ (by decide)
        (keeps_ledgerH h _ _ (by decide) (Keeps.refl _ s1))))
    exact ⟨0, by rw [hk.gav (by decide) h, half_modGav_same, half_wrB]⟩

theorem xlRetransmit_spec (errors : Nat) (hal : alive s h = true) (htwo : twoHalves s = true) :
    Completes (.xlRetransmit h errors) s fun t =>
      if 5 ≤ (half s h).gav.tries + 1 then rdB t h Reg.GAV_XL_STAT_UP = false
      else (half t h).gav.tries = (half s h).gav.tries + 1 ∧
        rd t h Reg.GAV_XL_STAT_RETRANS = min (rd s h Reg.GAV_XL_STAT_RETRANS + 1) (fmax Reg.GAV_XL_STAT_RETRANS) := by
  refine ⟨_, if_neg (by simp [hal, htwo]), ?_⟩
  dsimp only
  split
  · exact up_linkDown _ h
  · refine ⟨by simp, ?_⟩
    have hk : Keeps 0x1823C4012C0000 (satAdd s (other h) Reg.GAV_XL_STAT_CRC_ERR errors)
      (linkErrors (satAdd s (other h) Reg.GAV_XL_STAT_CRC_ERR errors) (other h) errors) :=
      keeps_linkErrors (other h) errors (by decide) (Keeps.refl _ _)
    rw [rd_modGav, rd_satAdd_same _ _ _ _ (by decide) (by decide), hk.rd h _ (by decide) (by decide), satAdd,
      rd_wr_half (e := Reg.GAV_XL_STAT_RETRANS) (f := Reg.GAV_XL_STAT_CRC_ERR) _ rfl (by decide) (other_ne h).symm]

/-- A link that is up again, reported and recorded. -/
def linkRestored (s : State) (h : HalfId) : State :=
  let s1 := wrB s h Reg.GAV_XL_STAT_UP true
  let s2 := if nget (half s h).tally (9 * 65536 + 1) == 2 then
      ledgerH s1 h 0x0E0E (p4s [2, rd s h Reg.GAV_XL_STAT_CRC_ERR, rd s h Reg.GAV_XL_STAT_RETRANS])
    else s1
  tallyPartner (tallySet s2 h 9 1 0 0x0E0E) h 4 0 0x0E0E

theorem up_linkRestored (s : State) (h : HalfId) : rdB (linkRestored s h) h Reg.GAV_XL_STAT_UP = true := by
  unfold linkRestored
  extract_lets s1 s2
  have hk : Keeps 0x1023C4012C0040 s1 (tallyPartner (tallySet s2 h 9 1 0 0x0E0E) h 4 0 0x0E0E) :=
    keeps_tallyPartner h _ _ _ (by decide) (keeps_tallySet h _ _ _ _ (by decide)
      (keeps_ite _ (keeps_ledgerH h _ _ (by decide) (Keeps.refl _ s1)) (Keeps.refl _ s1)))
  exact (hk.rdB h _ (by decide) (by decide)).trans (rdB_wrB_same s h _ true rfl (by decide))

theorem up_startReload (s : State) (h : HalfId) :
    rdB (startReload s) h Reg.GAV_XL_STAT_UP = rdB s h Reg.GAV_XL_STAT_UP :=
  congrArg (· != 0) (rd_putLockstep_addr 2 _ h Reg.GAV_XL_STAT_UP (by decide) _ _)

/-- A link that is up again lets a leader that may reload its standby start to. -/
def reloadWhereReady (s : State) : State :=
  match leader s with
  | some l => if reloadReady s l then startReload s else s
  | none => s

theorem up_reloadWhereReady (s : State) (h : HalfId) :
    rdB (reloadWhereReady s) h Reg.GAV_XL_STAT_UP = rdB s h Reg.GAV_XL_STAT_UP := by
  unfold reloadWhereReady
  split
  · split
    · exact up_startReload s h
    · rfl
  · rfl

theorem xlUp_spec (hal : alive s h = true) (htwo : twoHalves s = true) (hdown : rdB s h Reg.GAV_XL_STAT_UP = false) :
    Completes (.xlUp h) s fun t => rdB t h Reg.GAV_XL_STAT_UP = true := by
  have hexec : exec (.xlUp h) s = .next (reloadWhereReady (linkRestored s h)) := if_neg (by simp [hal, htwo, hdown])
  exact ⟨_, hexec, (up_reloadWhereReady _ h).trans (up_linkRestored s h)⟩

end CrossLink

/-! ### Loss of the leader (R517, R519) -/

section Loss

variable {s : State} {h : HalfId} 

/-- The probed half's state once no reply has come: the strobe as it was seen, and no probing. -/
def probeEnded (s : State) (h : HalfId) (strobe : Bool) : State :=
  modGav (wrB s h Reg.GAV_STAT_HOLDER_STROBE strobe) h fun x => { x with probeAt := 0 }

/-- The leader is lost to half `h`, before it requests the Gavel. -/
def leaderLost (s : State) (h : HalfId) : State :=
  let s2 := wr (modGav (probeEnded s h false) h fun x => { x with lost := true }) h Reg.GAV_STAT_PARTNER_ROLE 3
  tallyPartner (ledgerH s2 h 0x0E06 (timeBytes (half s h).gav.hbTime ++ p4 0)) h 3 2 0x0E06

variable (hal : alive s h = true) (hacts : acts s h = false) (hprobe : (half s h).gav.probeAt ≠ 0)
  (hrep : (half s h).gav.replied = false)

include hal hacts hprobe hrep

/-- The strobe is seen: the link is down, and lockstep is over. -/
theorem lossConfirm_strobe : Completes (.lossConfirm h true) s fun t =>
    rdB t h Reg.GAV_XL_STAT_UP = false ∧ rd t h Reg.GAV_LS_STAT_STATE = 0 ∧ (half t h).gav.probeAt = 0 := by
  refine ⟨endLockstep (linkDown (probeEnded s h true) h),
    (if_neg (by simp [hal, hacts, hprobe, hrep])).trans (if_pos rfl), ?_, ?_, ?_⟩
  · exact (congrArg (· != 0) (rd_putLockstep_addr 0 _ h Reg.GAV_XL_STAT_UP (by decide) _ _)).trans (up_linkDown _ h)
  · have hpres : present (linkDown (probeEnded s h true) h) h = true := by
      have hk : Keeps 0x1C23C4012C0044 s (linkDown (probeEnded s h true) h) :=
        keeps_linkDown h (by decide) (keeps_modGav h _ (by decide) (keeps_wrB h _ _ (by decide) (Keeps.refl _ s)))
      rw [present_of_keeps hk]
      exact present_of_alive hal
    exact (endLockstep_spec _).1 h hpres
  · have hk : Keeps 0x4000000000004 (linkDown (probeEnded s h true) h) (endLockstep (linkDown (probeEnded s h true) h)) :=
      keeps_endLockstep (by decide) (Keeps.refl _ _)
    obtain ⟨n, hn⟩ := gav_linkDown (probeEnded s h true) h
    rw [hk.gav (by decide) h, hn]
    simp [probeEnded]

omit hal hacts hprobe hrep in
/-- The loss is recorded and reported; the half's loss and the end of its probing stay. -/
theorem gav_leaderLost (s : State) (h : HalfId) :
    (half (leaderLost s h) h).gav.lost = true ∧ (half (leaderLost s h) h).gav.probeAt = 0 := by
  unfold leaderLost
  extract_lets s2
  have hk : Keeps 0x1023C4012C0040 s2 (tallyPartner (ledgerH s2 h 0x0E06 (timeBytes (half s h).gav.hbTime ++ p4 0)) h 3 2 0x0E06) :=
    keeps_tallyPartner h _ _ _ (by decide) (keeps_ledgerH h _ _ (by decide) (Keeps.refl _ s2))
  rw [hk.gav (by decide) h, half_wr, half_modGav_same]
  simp [probeEnded]

/-- The leader is lost: an eligible standby requests the Gavel. -/
theorem lossConfirm_lost : Completes (.lossConfirm h false) s fun t =>
    (half t h).gav.lost = true ∧ (half t h).gav.probeAt = 0 := by
  obtain ⟨hlost, hprobed⟩ := gav_leaderLost s h
  have hexec : exec (.lossConfirm h false) s = .next (if eligible (leaderLost s h) h &&
      !rdB (leaderLost s h) h Reg.GAV_LS_STAT_DEGRADED then request (leaderLost s h) h 1
    else wr (leaderLost s h) h Reg.GAV_LS_STAT_STATE 0) :=
    (if_neg (by simp [hal, hacts, hprobe, hrep])).trans (if_neg (by decide))
  refine ⟨_, hexec, ?_⟩
  split
  · simpa [request, modRounds] using ⟨hlost, hprobed⟩
  · simpa using ⟨hlost, hprobed⟩

end Loss

/-- Settles O25: each command's own step, the frames of the reports that follow it. -/
theorem crossLinkAndLossComplete : Obligations.CrossLinkAndLossComplete := by
  refine ⟨fun h s hal => heartbeatSend_spec hal, fun h acked s hal hother => ?_,
    fun h errors s hal htwo => xlRetransmit_spec errors hal htwo, fun h s hal htwo hdown => xlUp_spec hal htwo hdown,
    fun h s hal => ?_, fun h s hal htwo hacts hlost hat hprobe hdue => ?_, fun h s hal hprobe => ?_, fun h s hrep => ?_,
    fun h s hal hacts hprobe hrep => ⟨lossConfirm_strobe hal hacts hprobe hrep, lossConfirm_lost hal hacts hprobe hrep⟩⟩
  · obtain ⟨hat, hlost, hprobe, hrole⟩ := heartbeatTaken_spec s h acked
    exact ⟨_, if_neg (by simp [hal, hother]), heartbeatTaken s h acked, hat, hlost, hprobe, hrole, rfl⟩
  · exact ⟨linkDown s h, congrArg Host.Outcome.next (if_pos hal), up_linkDown s h⟩
  · exact ⟨modGav s h fun x => { x with probeAt := s.ticks + 1, replied := false },
      congrArg Host.Outcome.next (if_pos (by simp [hal, htwo, hacts, hlost, hat, hprobe, hdue])), by simp⟩
  · exact ⟨modGav s (other h) fun x => { x with replied := true },
      congrArg Host.Outcome.next (if_pos (by simp [hal, hprobe])), by simp⟩
  · exact ⟨modGav s h fun x => { x with probeAt := 0, replied := false }, congrArg Host.Outcome.next (if_pos hrep), by simp⟩

/-! ### Self-test (R513, R514) -/

section SelfTest

variable {s : State} {h : HalfId}

theorem tally_tallySet (s : State) (h : HalfId) (k cause code ev : Nat) :
    (half (tallySet s h k cause code ev) h).tally = nset (half s h).tally (k * 65536 + cause) code :=
  ((keeps_tallyUpdate h k ev (by decide) (Keeps.refl 0x102384012C0000 _)).tally (by decide) h).trans (by simp)

theorem lsState_putLs (s : State) (h : HalfId) {v : Nat} (hv : v < 4) : lsState (putLs s h v) h = v :=
  (rd_modLge ..).trans (lsState_wr s h hv)

theorem gav_selfTest (s : State) (h : HalfId) :
    (half (selfTest s h) h).gav = { (half s h).gav with ownTest := 0, partnerTest := 0 } := by
  simp [selfTest]

/-- The self-tests have no outcome until the half knows both results. -/
theorem testOutcome_waits (hwait : (half s h).gav.ownTest = 0 ∨ (half s h).gav.partnerTest = 0) : testOutcome s h = s :=
  if_pos (Or.inr hwait)

/-- Both halves passed: they reload, and the divergence is counted. -/
theorem testOutcome_passed (hls : lsState s h = 3) (hown : (half s h).gav.ownTest = 1)
    (hpartner : (half s h).gav.partnerTest = 1) : testOutcome s h = divergence (putLs s h 2) h := by
  simp [testOutcome, hls, hown, hpartner]

/-- A counted divergence: the events of the last hour, and the register that shows how many. -/
def divergenceCounted (s : State) (h : HalfId) : State :=
  let l := lastHour s (s.ticks :: (half s h).gav.diverge)
  wr (modGav s h fun x => { x with diverge := l.take 8 }) h Reg.GAV_LS_STAT_DIVERGE (min 3 l.length)

/-- A divergence shows the count of the last hour; the half's lockstep state stays. -/
theorem divergence_spec (s : State) (h : HalfId) : lsState (divergence s h) h = lsState s h ∧
    rd (divergence s h) h Reg.GAV_LS_STAT_DIVERGE = min 3 (lastHour s (s.ticks :: (half s h).gav.diverge)).length := by
  have hcount : lsState (divergenceCounted s h) h = lsState s h ∧ rd (divergenceCounted s h) h Reg.GAV_LS_STAT_DIVERGE =
      min 3 (lastHour s (s.ticks :: (half s h).gav.diverge)).length := by
    unfold divergenceCounted
    refine ⟨?_, rd_wr_same' _ _ _ _ (by decide) (by decide) (Nat.lt_of_le_of_lt (Nat.min_le_left _ _) (by decide))⟩
    simp (disch := decide) only [lsState, rd_wr_disjoint, rd_modGav]
  have hreport (e : Fld) (he : e.key = Reg.GAV_LS_STAT_DEGRADED.key) (hl : e.lo ≤ e.hi) (hd : 29 < e.lo ∨ e.hi < 29) :
      rd (divergence s h) h e = rd (divergenceCounted s h) h e := by
    unfold divergence
    split
    · rfl
    · have hledger (u : State) (ev : Nat) (bs : List Sys2Proof.Byte) : rd (ledgerH u h ev bs) h e = rd u h e :=
        (keeps_ledgerH h ev bs (by decide) (Keeps.refl 0x10238401240000 u)).rd h e (by rw [he]; decide) (by rw [he]; decide)
      dsimp only
      split
      · have hk := (keeps_tallySet h 11 1 1 0x0E0B (by decide) (Keeps.refl 0x1023C4012C0000 (wrB (ledgerH
          (divergenceCounted s h) h 0x0E0A (p4s [0, (lastHour s (s.ticks :: (half s h).gav.diverge)).length])) h
          Reg.GAV_LS_STAT_DEGRADED true))).rd h e (by rw [he]; decide) (by rw [he]; decide)
        exact (hledger _ _ _).trans (hk.trans ((rd_wrB_disj _ _ _ _ _ he (by decide) hl (by decide) hd).trans (hledger _ _ _)))
      · exact hledger _ _ _
  exact ⟨(hreport Reg.GAV_LS_STAT_STATE rfl (by decide) (by decide)).trans hcount.1,
    (hreport Reg.GAV_LS_STAT_DIVERGE rfl (by decide) (by decide)).trans hcount.2⟩

theorem mismatch_spec (hown : ownsLogic s h = true) (htwo : twoHalves s = true) (hother : lsState s (other h) = 3)
    (hls : lsState s h ≠ 3) : Completes (.mismatch h) s fun t =>
      lsState t h = 3 ∧ (half t h).gav.ownTest = 0 ∧ (half t h).gav.partnerTest = 0 :=
  ⟨selfTest s h, congrArg Host.Outcome.next (if_pos (by simp [hown, htwo, hother, hls])), (selfTest_spec s h).1,
    by rw [gav_selfTest], by rw [gav_selfTest]⟩

theorem selftestDone_spec (pass : Bool) (hls : lsState s h = 3) (hown : (half s h).gav.ownTest = 0)
    (hpartner : (half s h).gav.partnerTest = 0) : Completes (.selftestDone h pass) s fun t =>
      (half t h).gav.ownTest = (if pass then 1 else 2) ∧ (half t h).gav.testMsg = (if pass then 1 else 2) := by
  refine ⟨_, congrArg Host.Outcome.next (if_pos ⟨hls, hown⟩), ?_⟩
  dsimp only
  rw [testOutcome_waits (Or.inr (by simpa using hpartner))]
  simp

/-- The partner's result is received. -/
def resultReceived (s : State) (h : HalfId) : State :=
  modGav (modGav s (other h) fun x => { x with testMsg := 0 }) h fun x => { x with partnerTest := (half s (other h)).gav.testMsg }

theorem gav_resultReceived (s : State) (h : HalfId) : (half (resultReceived s h) h).gav =
    { (half s h).gav with partnerTest := (half s (other h)).gav.testMsg } := by
  unfold resultReceived
  rw [half_modGav_same, modGav, half_setHalf_ne _ _ _ _ (other_ne h).symm]

theorem lsState_resultReceived (s : State) (h : HalfId) : lsState (resultReceived s h) h = lsState s h := by
  simp only [lsState, resultReceived, rd_modGav]

theorem exec_selftestResult_of_message (hls : lsState s h = 3) (hmsg : (half s (other h)).gav.testMsg ≠ 0) :
    exec (.selftestResult h) s = .next (testOutcome (resultReceived s h) h) :=
  congrArg Host.Outcome.next (if_pos ⟨hls, hmsg⟩)

theorem selftestResult_passed (hls : lsState s h = 3) (hmsg : (half s (other h)).gav.testMsg = 1)
    (hown : (half s h).gav.ownTest = 1) : Completes (.selftestResult h) s fun t => lsState t h = 2 ∧
      rd t h Reg.GAV_LS_STAT_DIVERGE = min 3 (lastHour s (s.ticks :: (half s h).gav.diverge)).length := by
  refine ⟨_, exec_selftestResult_of_message hls (by simp [hmsg]), ?_⟩
  have hgav := gav_resultReceived s h
  rw [testOutcome_passed ((lsState_resultReceived s h).trans hls) (by rw [hgav]; exact hown) (by rw [hgav]; exact hmsg)]
  obtain ⟨hstate, hcount⟩ := divergence_spec (putLs (resultReceived s h) h 2) h
  have hput : Keeps 0x4000000000004 (resultReceived s h) (putLs (resultReceived s h) h 2) :=
    keeps_modLge h _ (by decide) (keeps_wr h _ _ (by decide) (Keeps.refl _ _))
  refine ⟨hstate.trans (lsState_putLs _ h (by decide)), hcount.trans ?_⟩
  have hticks : (putLs (resultReceived s h) h 2).ticks = s.ticks :=
    (hput.ticks (by decide)).trans (by simp [resultReceived, modGav])
  simp only [lastHour, hticks, hput.gav (by decide) h, hgav]

theorem selftestResult_waits (hls : lsState s h = 3) (hmsg : (half s (other h)).gav.testMsg ≠ 0)
    (hown : (half s h).gav.ownTest = 0) : Completes (.selftestResult h) s fun t =>
      (half t h).gav.partnerTest = (half s (other h)).gav.testMsg ∧ (half t (other h)).gav.testMsg = 0 := by
  refine ⟨_, exec_selftestResult_of_message hls hmsg, ?_⟩
  have hgav := gav_resultReceived s h
  rw [testOutcome_waits (Or.inl (by rw [hgav]; exact hown))]
  exact ⟨by rw [hgav], by simp [resultReceived]⟩

end SelfTest

/-! ### What the vote cells leave of Tally's causes

A half that withdraws or restores its presence moves outputs, whose diagnostic conditions are causes of subsystem 6. -/

section Causes

variable {s : State} {h : HalfId} {key : Nat}

theorem half_modIo (s : State) (f : FieldIo → FieldIo) (h : HalfId) : half (modIo s f) h = half s h := by cases h <;> rfl

theorem tally_tallySet_ne (g : HalfId) {k cause : Nat} (hne : key ≠ k * 65536 + cause) (code ev : Nat) :
    nget (half (tallySet s g k cause code ev) h).tally key = nget (half s h).tally key := by
  by_cases hg : h = g
  · subst hg
    rw [tally_tallySet, nget_nset_ne _ _ _ _ hne]
  · refine congrArg (nget · key) (((keeps_tallyUpdate g k ev (by decide) (Keeps.refl 0x102384012C0000 _)).tally (by decide) h).trans ?_)
    rw [half_setHalf_ne _ _ _ _ hg]

variable (hkey : key / 65536 ≠ 6)

include hkey

theorem tally_doDiag {n k : Nat} (hn : n < 32) (hk : k < 5) (on : Bool) :
    nget (half (doDiag s n k on) h).tally key = nget (half s h).tally key := by
  unfold doDiag
  exact (foldl_unchanged (fun t => nget (half t h).tally key) (fun t g => tally_tallySet_ne g (by omega) _ _) _ _).trans
    (by simp)

theorem tally_doClear {n k : Nat} (hn : n < 32) (hk : k < 5) :
    nget (half (doClear s n k) h).tally key = nget (half s h).tally key := by
  unfold doClear
  split
  · exact (congrArg (nget · key) ((keeps_doLedger n k false (by decide) (Keeps.refl 0x10238401240000 _)).tally
      (by decide) h)).trans (tally_doDiag hkey hn hk false)
  · rfl

theorem tally_setDo {n : Nat} (hn : n < 32) (v : Bool) :
    nget (half (setDo s n v) h).tally key = nget (half s h).tally key := by
  unfold setDo
  split
  · rfl
  · extract_lets s1 s2 u1 u2 s3
    have h2 : nget (half s2 h).tally key = nget (half s h).tally key :=
      congrArg (nget · key) (((keeps_foldl _ _ (fun _ g ht => keeps_count g _ 1 (by decide) ht)
        (Keeps.refl 0x20000000000 s1)).tally (by decide) h).trans (by simp [s1]))
    have hu1 : nget (half u1 h).tally key = nget (half s2 h).tally key :=
      (tally_doClear hkey hn (by decide)).trans (tally_doClear hkey hn (by decide))
    have hu2 : nget (half u2 h).tally key = nget (half u1 h).tally key := by
      simp only [u2]
      split
      · exact tally_doDiag hkey hn (by decide) false
      · rfl
    have h3 : nget (half s3 h).tally key = nget (half s2 h).tally key := by
      simp only [s3]
      split
      · exact tally_doClear hkey hn (by decide)
      · rw [half_wr, half_modIo, hu2, hu1]
    rw [(keeps_doBall n (by decide) (Keeps.refl 0x2000 _)).tally (by decide) h, half_modIo, h3, h2]

theorem tally_setDos (mask v : Nat) : nget (half (setDos s mask v) h).tally key = nget (half s h).tally key := by
  refine List.foldlRecOn (motive := fun t => nget (half t h).tally key = nget (half s h).tally key) _ _ rfl
    fun t ht n hn => ?_
  split
  · exact (tally_setDo hkey (List.mem_range.mp hn) _).trans ht
  · exact ht

theorem tally_cells (s : State) : nget (half (cells s) h).tally key = nget (half s h).tally key := by
  unfold cells
  extract_lets aAbs bAbs io lock hold trip fa fb da db s1 s2 fto out old s3 s4
  have h4 : (half s4 h).tally = (half s h).tally :=
    ((keeps_countFto _ (by decide) (Keeps.refl 0x20000000000 s3)).tally (by decide) h).trans (by simp [s3, s2, s1])
  rw [tally_setDos hkey, half_wr, h4]

theorem tally_voteAbsent (g : HalfId) (c : Nat) (b : Bool) :
    nget (half (voteAbsent s g c b) h).tally key = nget (half s h).tally key := by
  unfold voteAbsent
  split
  · rfl
  · extract_lets f s1 s2
    have h1 : nget (half s1 h).tally key = nget (half s h).tally key := by rw [tally_cells hkey, half_wrB]
    have hk : Keeps 0x10238501240000 s1 (if b && twoHalves s && anyAnd s then ledgerField s2 0x0B02 (p4s [halfNo g, c]) else s1) :=
      keeps_ite _ (keeps_ledgerField _ _ (by decide) (keeps_modIo _ (by decide) (Keeps.refl _ s1))) (Keeps.refl _ s1)
    rw [hk.tally (by decide) h, h1]

theorem tally_votePresent (g : HalfId) : nget (half (votePresent s g) h).tally key = nget (half s h).tally key := by
  unfold votePresent
  split
  · rfl
  · extract_lets f s1 since s2
    have h1 : nget (half s1 h).tally key = nget (half s h).tally key := by rw [tally_cells hkey, half_wrB]
    have hk : Keeps 0x10238501240000 s1 (if since = 0 then s1
        else ledgerField s2 0x0B03 (p4s [halfNo g, (s.ticks + 1 - since) / 125000])) :=
      keeps_ite _ (Keeps.refl _ s1) (keeps_ledgerField _ _ (by decide) (keeps_modIo _ (by decide) (Keeps.refl _ s1)))
    rw [hk.tally (by decide) h, h1]

theorem tally_presence (g : HalfId) : nget (half (presence s g) h).tally key = nget (half s h).tally key := by
  unfold presence
  extract_lets failed x gav s1
  have h1 : nget (half s1 h).tally key = nget (half s h).tally key := by
    by_cases hg : h = g
    · subst hg
      simp [s1, x]
    · rw [half_setHalf_ne _ _ _ _ hg]
  split
  · rfl
  · split
    · exact (tally_voteAbsent hkey g 3 true).trans h1
    · exact (tally_votePresent hkey g).trans h1

end Causes

/-! ### Memory errors (R512, R523) -/

section Memory

variable {s : State} {h : HalfId}

theorem eccUncorrectable_spec (region : Nat) (hal : alive s h = true) : Completes (.eccUncorrectable h region) s fun t =>
    nget (half t h).tally (7 * 65536 + if region = 0 then 1 else 2) = if region = 0 then 2 else 1 := by
  by_cases hr : region = 0
  · subst hr
    refine ⟨tallyVital s h 7 1 2 0, if_neg (by simp [hal]), ?_⟩
    dsimp only
    rw [if_pos rfl, if_pos rfl, tallyVital, tally_presence (by decide), tally_tallySet, nget_nset_same]
  · refine ⟨_, (if_neg (by simp [hal])).trans (if_neg hr), ?_⟩
    have hk : Keeps 0x1C238401240004 (tallySet s h 7 2 1 0) (if region = 1 ∧ ownsLogic s h = false
        then lsMismatch (tallySet s h 7 2 1 0) h 0 (rd s h Reg.LGE_CYCLE_COUNT) 0 else tallySet s h 7 2 1 0) :=
      keeps_ite _ (keeps_lsMismatch h _ _ _ (by decide) (Keeps.refl _ _)) (Keeps.refl _ _)
    dsimp only
    rw [if_neg hr, if_neg hr, hk.tally (by decide) h, tally_tallySet, nget_nset_same]

theorem scrubPass_spec (corrected : Nat) (hal : alive s h = true) : Completes (.scrubPass h corrected) s fun t =>
    nget (half t h).tally (7 * 65536 + 4) = if 64 < corrected then 1 else 0 := by
  refine ⟨_, congrArg Host.Outcome.next (if_pos hal), ?_⟩
  dsimp only
  rw [tally_tallySet, nget_nset_same]
  by_cases hc : 64 < corrected <;> simp [b2n, hc]

theorem memHealthClear_spec (hon : nget (half s h).tally (7 * 65536 + 3) = 1)
    (hfew : (lastHour s (half s h).gav.latent).length ≤ 16) :
    Completes (.memHealthClear h) s fun t => nget (half t h).tally (7 * 65536 + 3) = 0 := by
  refine ⟨memHealth s h, congrArg Host.Outcome.next (if_pos hon), ?_⟩
  have hfew' : ¬16 < (lastHour s (half s h).gav.latent).length := by omega
  simp [memHealth, hon, hfew', tally_tallySet, nget_nset_same, b2n]

end Memory

/-- Settles O27: the outcome of the self-tests by what each half knows, the memory causes by Tally's report of them. -/
theorem selfTestAndMemoryErrors : Obligations.SelfTestAndMemoryErrors :=
  ⟨fun _ _ hown htwo hother hls => mismatch_spec hown htwo hother hls,
    fun _ pass _ hls hown hpartner => selftestDone_spec pass hls hown hpartner,
    fun _ _ hls hmsg hown => selftestResult_passed hls hmsg hown,
    fun _ _ hls hmsg hown => selftestResult_waits hls hmsg hown,
    fun _ region _ hal => eccUncorrectable_spec region hal,
    fun _ corrected _ hal => scrubPass_spec corrected hal,
    fun _ _ hon hfew => memHealthClear_spec hon hfew⟩

end Sys2Proof.Machine
end

section
/-!
PROOFS of the statements about the reads that latch, and about the step: the recorder's, the operating time's and the
event queue's ports, TIME_NS, the idle tick and the front command.
-/

namespace Sys2Proof.Machine

open Sys2Proof (HalfId Instr)

/-! ### What a read of a latching register returns and leaves (R570, R635, R649, R737) -/

section LatchReads

variable (s : State) (h : HalfId)

theorem readReg_acqMdata {d : RegDesc} (hd : findReg 0xF0080 = some d) :
    readReg s h d 0xF0080 = (word (latchMeas s h) h 0xF0080, latchMeas s h) := by
  obtain rfl : _ = d := Option.some.inj (fr_f0080.symm.trans hd)
  simp (decide := true) [readReg, portRead, readLatch, bankKey, overlay, overlayMid, unseenRead, readClear]

theorem regRead_acqMdata : regRead s h 0xF0080 = (word (latchMeas s h) h 0xF0080, latchMeas s h) :=
  readReg_acqMdata s h fr_f0080
theorem regRead_ldgOptime : regRead s h 0x120030 = (opMs (optimeLatch s h) % 2 ^ 32, optimeLatch s h) := rfl
theorem regRead_evqPop : regRead s h 0x150020 = evqPop s h := rfl
theorem regRead_evqIdata : regRead s h 0x150024 = evqIdata s h := rfl
theorem regRead_timeNs : regRead s h 0x30010 = (nsOf (latched (latchTime s h) h), latchTime s h) := rfl
theorem regRead_timeSecLo : regRead s h 0x30014 = (secOf (latched s h) % 2 ^ 32, s) := rfl
theorem regRead_timeSecHi : regRead s h 0x30018 = (secOf (latched s h) / 2 ^ 32, s) := rfl

end LatchReads

/-! ### The measured segment's words (R570) -/

section Measured

variable {s : State} {h : HalfId} {ar : AreaRec}

theorem mdata_key {m : Nat} (hm : m < 16) : (Reg.ACQ_MDATA_VALUE m).key = 0xF0080 + m * 4 := instKey_of_lt hm

theorem mdata_addr_ne {m b : Nat} (hm : m < 16) (hne : b ≠ m) :
    (Reg.ACQ_MDATA_VALUE m).key % 0x100000000 ≠ (Reg.ACQ_MDATA_VALUE b).key % 0x100000000 := by
  rw [mdata_key hm]
  simp only [Reg.ACQ_MDATA_VALUE, instKey, nowhere]
  split <;> omega

/-- Words put one after the other into ACQ_MDATA are all there. -/
theorem rd_foldl_mdata (v : Nat → Nat) (s : State) (h : HalfId) {m : Nat} (hm : m < 16) :
    rd ((List.range 16).foldl (fun s m => wr s h (Reg.ACQ_MDATA_VALUE m) (v m)) s) h (Reg.ACQ_MDATA_VALUE m) =
      v m % 2 ^ 32 := by
  have hset (t : State) : rd (wr t h (Reg.ACQ_MDATA_VALUE m) (v m)) h (Reg.ACQ_MDATA_VALUE m) = v m % 2 ^ 32 :=
    rd_wr_same t h (Reg.ACQ_MDATA_VALUE m) (v m) (Nat.zero_le 31) (by decide : 31 < 32)
  refine foldl_establishes (f := fun s m => wr s h (Reg.ACQ_MDATA_VALUE m) (v m)) (I := fun _ => True)
    (P := fun t => rd t h (Reg.ACQ_MDATA_VALUE m) = v m % 2 ^ 32) (fun _ _ _ => trivial) (fun t _ => hset t)
    (fun t b ht => ?_) (List.mem_range.mpr hm) trivial
  by_cases hb : b = m
  · subst hb
    exact hset t
  · exact (rd_wr_addr _ _ _ _ _ _ (mdata_addr_ne hm hb)).trans ht

theorem mseq_foldl_mdata (v : Nat → Nat) (s : State) (h : HalfId) :
    rd ((List.range 16).foldl (fun s m => wr s h (Reg.ACQ_MDATA_VALUE m) (v m)) s) h Reg.ACQ_MSEQ_SEQ =
      rd s h Reg.ACQ_MSEQ_SEQ := by
  refine List.foldlRecOn (motive := fun t => rd t h Reg.ACQ_MSEQ_SEQ = rd s h Reg.ACQ_MSEQ_SEQ) _ _ rfl fun t ht m hm => ?_
  have hkey := mdata_key (List.mem_range.mp hm)
  have hlt := List.mem_range.mp hm
  exact (rd_wr_addr _ _ _ _ _ _ (by rw [hkey]; simp only [Reg.ACQ_MSEQ_SEQ]; omega)).trans ht

/-- The selected entry of a measured segment is latched under the segment's SEQ. -/
theorem latchMeas_spec (har : areaRec s h (rd s h Reg.ACQ_MSEL_AREA) = some ar)
    (hseq : nget (half s h).acq.measSeq (rd s h Reg.ACQ_MSEL_AREA) ≠ 0) (hentry : rd s h Reg.ACQ_MSEL_ENTRY < ar.c) :
    rd (latchMeas s h) h Reg.ACQ_MSEQ_SEQ = (nget (half s h).acq.measSeq (rd s h Reg.ACQ_MSEL_AREA) - 1) % 2 ^ 32 ∧
    ∀ m < 16, rd (latchMeas s h) h (Reg.ACQ_MDATA_VALUE m) =
      nget (half s h).acq.meas (rd s h Reg.ACQ_MSEL_AREA * 512 + rd s h Reg.ACQ_MSEL_ENTRY * 16 + m) % 2 ^ 32 := by
  have hok : (nget (half s h).acq.measSeq (rd s h Reg.ACQ_MSEL_AREA) != 0 && decide (rd s h Reg.ACQ_MSEL_ENTRY < ar.c)) =
      true := by simp [hseq, hentry]
  simp only [latchMeas, har, hok, if_true]
  exact ⟨(mseq_foldl_mdata _ _ _).trans (rd_wr_same _ _ _ _ (by decide) (by decide)), fun m hm => rd_foldl_mdata _ _ _ hm⟩

theorem acqMdataRead_spec (hal : alive s h = true) (har : areaRec s h (rd s h Reg.ACQ_MSEL_AREA) = some ar)
    (hseq : nget (half s h).acq.measSeq (rd s h Reg.ACQ_MSEL_AREA) ≠ 0) (hentry : rd s h Reg.ACQ_MSEL_ENTRY < ar.c) :
    Completes (.acqMdataRead h) s fun t =>
      let at_ := rd s h Reg.ACQ_MSEL_AREA * 512 + rd s h Reg.ACQ_MSEL_ENTRY * 16
      (half t h).mgmt.bus = nget (half s h).acq.meas at_ % 2 ^ 32 ∧
      rd t h Reg.ACQ_MSEQ_SEQ = (nget (half s h).acq.measSeq (rd s h Reg.ACQ_MSEL_AREA) - 1) % 2 ^ 32 ∧
      ∀ m < 16, rd t h (Reg.ACQ_MDATA_VALUE m) = nget (half s h).acq.meas (at_ + m) % 2 ^ 32 := by
  obtain ⟨hshown, hwords⟩ := latchMeas_spec har hseq hentry
  have hword : word (latchMeas s h) h 0xF0080 = rd (latchMeas s h) h (Reg.ACQ_MDATA_VALUE 0) := by
    have hlt := word_lt (latchMeas s h) h 0xF0080
    change _ = bits (word (latchMeas s h) h 0xF0080) 31 0
    simp only [bits]
    omega
  refine completes_busRead rfl hal ?_
  rw [regRead_acqMdata]
  exact ⟨by simp [hword, hwords 0 (by decide)], by simpa using hshown, fun m hm => by simpa using hwords m hm⟩

end Measured

/-! ### The event queue's port (R737) -/

section QueuePort

variable {s : State} {h : HalfId}

/-- The oldest item of the selected queue is taken and its bytes latched. -/
theorem evqPop_spec {it : QItem} {rest : List QItem} (hq : qItems s h (rd s h Reg.EVQ_SEL_QUEUE) = it :: rest) :
    (evqPop s h).1 = it.qseq ∧ qItems (evqPop s h).2 h (rd s h Reg.EVQ_SEL_QUEUE) = rest ∧
    (half (evqPop s h).2 h).evq.latch = itemBytes it ∧ (half (evqPop s h).2 h).evq.latchPos = 0 := by
  simp only [evqPop, hq]
  simp [qItems, sget_sset_same]

theorem evqPop_empty (hq : qItems s h (rd s h Reg.EVQ_SEL_QUEUE) = []) : evqPop s h = (0xFFFFFFFF, s) := by
  simp [evqPop, hq]

/-- The latched item's next word is returned. -/
theorem evqIdata_spec (hl : (half s h).evq.latch ≠ []) (hp : (half s h).evq.latchPos < 64) :
    (evqIdata s h).1 = unLe (((half s h).evq.latch.drop (4 * (half s h).evq.latchPos)).take 4) ∧
    (half (evqIdata s h).2 h).evq.latchPos = (half s h).evq.latchPos + 1 := by
  have hnot : ¬(64 ≤ (half s h).evq.latchPos ∨ (half s h).evq.latch = []) := by
    rintro (h64 | hnil)
    · exact absurd hp (Nat.not_lt.mpr h64)
    · exact hl hnil
  simp [evqIdata, hnot]

end QueuePort

/-- Settles O9: each port's read by what it takes or latches before it returns. -/
theorem portReadsLatch : Obligations.PortReadsLatch := by
  refine ⟨fun h ar s hal har hseq hentry => acqMdataRead_spec hal har hseq hentry, fun h s hal => ?_,
    fun h it rest s hal hq => ?_, fun h s hal hq => ?_, fun h s hal hl hp => ?_⟩
  · refine completes_busRead rfl hal ?_
    rw [regRead_ldgOptime]
    simp [optimeLatch, modPort, opMs]
  · refine completes_busRead rfl hal ?_
    rw [regRead_evqPop]
    obtain ⟨hseq, hrest, hlatch, hpos⟩ := evqPop_spec hq
    simpa [hseq, qItems] using ⟨hrest, hlatch, hpos⟩
  · refine completes_busRead rfl hal ?_
    rw [regRead_evqPop, evqPop_empty hq]
    simp
  · refine completes_busRead rfl hal ?_
    rw [regRead_evqIdata]
    simpa using evqIdata_spec hl hp

/-- Settles O10: TIME_NS is latched for the half that reads it, and the other registers of the time show the latch. -/
theorem timeReadLatchesPerHalf : Obligations.TimeReadLatchesPerHalf := by
  refine ⟨fun h s hal => completes_busRead rfl hal ?_, fun h s hal => completes_busRead rfl hal ?_,
    fun h s hal => completes_busRead rfl hal ?_⟩
  · rw [regRead_timeNs]
    cases h <;> simp [latched, latchTime, modTime, modMgmt, nsOf, now, other]
  · rw [regRead_timeSecLo]
    exact ⟨by simp, fun g => by cases g <;> simp [latched, modMgmt]⟩
  · rw [regRead_timeSecHi]
    exact ⟨by simp, fun g => by cases g <;> simp [latched, modMgmt]⟩

/-- Settles O53: by the definition of the step. -/
theorem stepRunsFrontCommand : Obligations.StepRunsFrontCommand :=
  fun _ _ _ => rfl

/-! ### The idle tick (R638, R639) -/

section Tick

variable {s : State} {h g : HalfId}

/-- What the trace port's toggle at tick `n` makes of a half's trace unit. -/
def traceAfter (s : State) (h : HalfId) (n : Nat) : Trace :=
  if alive s h = true ∧ n % 2 = 0 then traceToggle (half s h).trace else (half s h).trace

theorem half_tracePort_same (s : State) (h : HalfId) :
    half (tracePort s h) h = { half s h with trace := traceAfter s h s.ticks } := by
  rw [tracePort_eq, half_setHalf_same]
  rfl

theorem half_tracePort_ne (hne : g ≠ h) : half (tracePort s h) g = half s g := by
  rw [tracePort_eq, half_setHalf_ne _ _ _ _ hne]

theorem alive_tracePort_ne (hne : g ≠ h) : alive (tracePort s h) g = alive s g := by
  rw [alive, half_tracePort_ne hne, tracePort_eq]
  simp [alive, present, twoHalves]

theorem half_tick (s : State) (h : HalfId) : half (tick s) h = { half s h with trace := traceAfter s h (s.ticks + 1) } := by
  have hticked (g : HalfId) : half { s with ticks := s.ticks + 1 } g = half s g := half_mk_ ..
  cases h with
  | a =>
    refine (half_tracePort_ne (h := .b) (g := .a) (by decide)).trans ?_
    rw [half_tracePort_same]
    rfl
  | b =>
    refine (half_tracePort_same (tracePort { s with ticks := s.ticks + 1 } .a) .b).trans ?_
    rw [traceAfter, alive_tracePort_ne (by decide), half_tracePort_ne (by decide), tracePort_eq]
    simp [traceAfter, alive, present, twoHalves]

end Tick

/-- Settles O54: the tick's own equation; of a half it changes the trace port alone. -/
theorem emptyQueueStepIsOneTick : Obligations.EmptyQueueStepIsOneTick := by
  intro s hp
  have hhalf (h : HalfId) := half_tick s h
  simp only [traceAfter] at hhalf
  refine ⟨tick s, step_of_pending_nil hp, ?_, ?_, ?_, ?_, ?_, ?_, hhalf, ?_, ?_⟩ <;>
    simp [tick, tracePort_eq, modTime, hp]

end Sys2Proof.Machine
end

section
/-!
PROOFS of the statements about the store: the image slots, the Ledger's commands and its record selection, and the ends
of commits.
-/

namespace Sys2Proof.Machine

open Sys2Proof (HalfId Instr Accessor)

/-! ### Image slots (R611, R630) -/

section ImageSlots

variable {s t : State} {h : HalfId} {n slot : Nat}

theorem imgSlot_of_store (hst : t.store = s.store) (n : Nat) : imgSlot t n = imgSlot s n := by simp only [imgSlot, hst]

theorem imgSlot_modImgSlot (s : State) (f : ImgSlot → ImgSlot) (hn : n ≤ 1) :
    imgSlot (modImgSlot s n f) n = f (imgSlot s n) := by
  obtain rfl | rfl : n = 0 ∨ n = 1 := by omega
  · rfl
  · rfl

theorem rd_modImgSlot (s : State) (n : Nat) (f : ImgSlot → ImgSlot) (h : HalfId) (e : Fld) :
    rd (modImgSlot s n f) h e = rd s h e := by
  unfold modImgSlot modStore
  split_ifs <;> rfl

/-- A write of a slot, which a half that verifies it learns of. -/
def slotWritten (s : State) (n : Nat) (f : ImgSlot → ImgSlot) : State := touchVerify (modImgSlot s n f) n

theorem keeps_slotWritten (s : State) (n : Nat) (f : ImgSlot → ImgSlot) :
    Keeps 0x800000000 (modImgSlot s n f) (slotWritten s n f) := keeps_touchVerify n (by decide) (Keeps.refl _ _)

theorem imgSlot_slotWritten (s : State) (f : ImgSlot → ImgSlot) (hn : n ≤ 1) :
    imgSlot (slotWritten s n f) n = f (imgSlot s n) :=
  (imgSlot_of_store ((keeps_slotWritten s n f).store (by decide)) n).trans (imgSlot_modImgSlot s f hn)

theorem rd_slotWritten (s : State) (n : Nat) (f : ImgSlot → ImgSlot) (h : HalfId) {e : Fld} (hb : keyBlock e.key = 17) :
    rd (slotWritten s n f) h e = rd s h e :=
  ((keeps_slotWritten s n f).rd h e (by rw [hb]; decide) (by rw [hb]; decide)).trans (rd_modImgSlot ..)

/-- A command of PST_IMG_CMD as it is reported. -/
def imgReported (s : State) (h : HalfId) (code st : Nat) : State :=
  result s h Reg.PST_IMG_RESULT_SEQ Reg.PST_IMG_RESULT_CMD Reg.PST_IMG_RESULT_STATUS code st

/-- A report shows its command and status; slots, ports and the pointer stay. -/
theorem imgReported_spec (s : State) (h : HalfId) {code : Nat} (hcode : code < 256) (n : Nat) :
    rd (imgReported s h code 0x02) h Reg.PST_IMG_RESULT_CMD = code ∧
    rd (imgReported s h code 0x02) h Reg.PST_IMG_RESULT_STATUS = 0x02 ∧
    imgSlot (imgReported s h code 0x02) n = imgSlot s n ∧ half (imgReported s h code 0x02) h = half s h ∧
    rd (imgReported s h code 0x02) h Reg.PST_IMG_PTR_PTR = rd s h Reg.PST_IMG_PTR_PTR :=
  ⟨rd_result_cmd_of_lt s h _ _ _ _ rfl (by decide) (by decide) (by decide) (by decide) (by decide) hcode,
    rd_result_status_of_lt s h _ _ _ _ (by decide) (by decide) (by decide), imgSlot_of_store (store_result ..) n,
    half_result .., rd_result_addr _ _ _ _ _ _ _ _ _ (by decide) (by decide) (by decide)⟩

variable (hal : alive s h = true) (hslot : slot ≤ 1) (hboot : modeOf s h ≠ mBOOT) (hacts : acts s h = true)

include hal hslot hboot hacts

/-- OPEN of a free slot that neither runs nor is to be activated. -/
theorem exec_imgSlotOpen_accepted (hopen : (half s h).port.openSlot = none) (hrun : runningSlot s h ≠ some slot)
    (hactivate : activatingSlot s h ≠ some slot) :
    exec (.imgSlotOpen h slot) s = .next (imgReported (imgOpen s h slot) h 1 0x02) := by
  have hst : imgCmdStatus s h 1 slot = 0x02 := by
    simp [imgCmdStatus, Nat.not_lt.mpr hslot, hboot, hacts, hopen, hrun, hactivate]
  refine congrArg Host.Outcome.next ((access_of_alive hal _).trans ?_)
  simp [imgCmd, hst, imgReported]

theorem exec_imgSlotClose_accepted (hopen : (half s h).port.openSlot = some n) (hptr : rd s h Reg.PST_IMG_PTR_PTR ≠ 0) :
    exec (.imgSlotClose h slot) s = .next (imgReported (imgClose s h) h 2 0x02) := by
  have hst : imgCmdStatus s h 2 slot = 0x02 := by
    simp [imgCmdStatus, Nat.not_lt.mpr hslot, hboot, hacts, hopen, hptr]
  refine congrArg Host.Outcome.next ((access_of_alive hal _).trans ?_)
  simp [imgCmd, hst, imgReported]

theorem exec_imgSlotAbort_accepted (hopen : (half s h).port.openSlot = some n) :
    exec (.imgSlotAbort h slot) s = .next (imgReported (imgAbort s h) h 3 0x02) := by
  have hst : imgCmdStatus s h 3 slot = 0x02 := by
    simp [imgCmdStatus, Nat.not_lt.mpr hslot, hboot, hacts, hopen]
  refine congrArg Host.Outcome.next ((access_of_alive hal _).trans ?_)
  simp [imgCmd, hst, imgReported]

omit hal hboot hacts in
theorem imgOpen_spec (s : State) (h : HalfId) : (half (imgOpen s h slot) h).port.openSlot = some slot ∧
    (imgSlot (imgOpen s h slot) slot).mark = false ∧ rd (imgOpen s h slot) h Reg.PST_IMG_PTR_PTR = 0 := by
  refine ⟨by simp [imgOpen], ?_, ?_⟩
  · have hslot' : imgSlot (imgOpen s h slot) slot = imgSlot (slotWritten s slot fun x => { x with mark := false }) slot :=
      imgSlot_of_store (by simp [imgOpen, slotWritten, modPort]) slot
    rw [hslot', imgSlot_slotWritten _ _ hslot]
  · simp only [imgOpen, modPort, rd_setHalf, rd_wrB_addr _ _ _ Reg.PST_STAT_IMG_OPEN Reg.PST_IMG_PTR_PTR _ (by decide)]
    exact rd_wr_same' _ _ _ _ (by decide) (by decide) (by decide)

omit hal hslot hboot hacts

/-- CLOSE marks the open slot valid over the bytes written. -/
theorem imgClose_spec (hn : n ≤ 1) (hopen : (half s h).port.openSlot = some n) :
    (half (imgClose s h) h).port.openSlot = none ∧
    imgSlot (imgClose s h) n = { imgSlot s n with mark := true, len := rd s h Reg.PST_IMG_PTR_PTR } := by
  simp only [imgClose, hopen]
  refine ⟨by simp [ledgerH], ?_⟩
  rw [← imgSlot_slotWritten s (fun x => { x with mark := true, len := rd s h Reg.PST_IMG_PTR_PTR }) hn]
  simp [imgSlot, ledgerH, slotWritten, modPort]

theorem imgAbort_spec (hn : n ≤ 1) (hopen : (half s h).port.openSlot = some n) :
    (half (imgAbort s h) h).port.openSlot = none ∧ (imgSlot (imgAbort s h) n).mark = false := by
  simp only [imgAbort, hopen]
  refine ⟨by simp, ?_⟩
  rw [imgSlot_of_store (s := slotWritten s n fun x => { x with mark := false }) (by simp [slotWritten, modPort]),
    imgSlot_slotWritten _ _ hn]

/-- Stored bytes read back where they were put. -/
theorem byteAt_putBytes_inside (bs : List Sys2Proof.Byte) (m : List (Nat × Sys2Proof.Byte)) (a i : Nat)
    (hi : i < bs.length) : byteAt (putBytes m a bs) (a + i) = bs[i] := by
  induction bs generalizing m a i with
  | nil => cases hi
  | cons b t ih =>
    cases i with
    | zero =>
      rw [putBytes, byteAt_putBytes_outside _ _ _ _ (by omega), byteAt_putByte, if_pos (Nat.add_zero a)]
      rfl
    | succ i =>
      have hrest := ih (putByte m a b) (a + 1) i (Nat.lt_of_succ_lt_succ hi)
      rw [putBytes, show a + (i + 1) = a + 1 + i by omega, hrest]
      rfl

/-- A word's bytes in memory, little-endian. -/
theorem byteAt_putBytes_le (m : List (Nat × Sys2Proof.Byte)) (a v : Nat) {k i : Nat} (hi : i < k) :
    byteAt (putBytes m a (le k v)) (a + i) = BitVec.ofNat 8 (v / 256 ^ i) := by
  rw [byteAt_putBytes_inside _ _ _ _ (by simpa [le] using hi)]
  simp [le]

/-- Four bytes are stored at the pointer, which advances. -/
theorem imgData_spec (v : Nat) (hn : n ≤ 1) (hopen : (half s h).port.openSlot = some n)
    (hptr : rd s h Reg.PST_IMG_PTR_PTR < 8388608) :
    rd (imgData s h v) h Reg.PST_IMG_PTR_PTR = rd s h Reg.PST_IMG_PTR_PTR + 4 ∧
    (imgSlot (imgData s h v) n).bytes = putBytes (imgSlot s n).bytes (rd s h Reg.PST_IMG_PTR_PTR) (le 4 v) := by
  simp only [imgData, hopen, if_neg (Nat.not_le.mpr hptr)]
  refine ⟨rd_wr_same' _ _ _ _ (by decide) (by decide) (Nat.lt_of_lt_of_le (Nat.add_lt_add_right hptr 4) (by decide)), ?_⟩
  rw [imgSlot_of_store (s := slotWritten s n fun x => { x with bytes := putBytes x.bytes (rd s h Reg.PST_IMG_PTR_PTR) (le 4 v) })
    (by simp [slotWritten]), imgSlot_slotWritten _ _ hn]

end ImageSlots

/-- Settles O1: each accepted command by its own effect and the report that follows. -/
theorem imageSlotCommandsComplete : Obligations.ImageSlotCommandsComplete := by
  refine ⟨fun h slot s hal hslot hboot hacts hopen hrun hactivate => ?_, fun h slot n s hal hslot hn hboot hacts hopen hptr => ?_,
    fun h slot n s hal hslot hn hboot hacts hopen => ?_, fun h v n s hal hn hopen hptr => ?_⟩
  · obtain ⟨hcmd, hstat, hslots, hhalf, hptr⟩ := imgReported_spec (imgOpen s h slot) h (code := 1) (by decide) slot
    obtain ⟨hopened, hmark, hzero⟩ := imgOpen_spec hslot s h
    exact ⟨_, exec_imgSlotOpen_accepted hal hslot hboot hacts hopen hrun hactivate,
      (congrArg (fun x => x.port.openSlot) hhalf).trans hopened, (congrArg ImgSlot.mark hslots).trans hmark,
      hptr.trans hzero, hcmd, hstat⟩
  · obtain ⟨hcmd, hstat, hslots, hhalf, -⟩ := imgReported_spec (imgClose s h) h (code := 2) (by decide) n
    obtain ⟨hclosed, hslot'⟩ := imgClose_spec hn hopen
    refine ⟨_, exec_imgSlotClose_accepted hal hslot hboot hacts hopen hptr, hhalf ▸ hclosed, ?_, ?_, ?_, hcmd, hstat⟩ <;>
      rw [hslots, hslot']
  · obtain ⟨hcmd, hstat, hslots, hhalf, -⟩ := imgReported_spec (imgAbort s h) h (code := 3) (by decide) n
    obtain ⟨hclosed, hmark⟩ := imgAbort_spec hn hopen
    exact ⟨_, exec_imgSlotAbort_accepted hal hslot hboot hacts hopen, hhalf ▸ hclosed, hslots ▸ hmark, hcmd, hstat⟩
  · obtain ⟨hnext, hbytes⟩ := imgData_spec v hn hopen hptr
    exact ⟨imgData s h v, congrArg Host.Outcome.next (access_of_alive hal _), hnext,
      fun i hi => (congrArg (byteAt · _) hbytes).trans (byteAt_putBytes_le _ _ v hi),
      fun a ha => (congrArg (byteAt · a) hbytes).trans (byteAt_putBytes_outside _ _ _ a ha)⟩

/-! ### Record selection (R623, R634) -/

section Select

variable {s : State} {h : HalfId} {seq : Nat}

/-- A selection as its status and record are found. -/
def selected (s : State) (h : HalfId) (seq st : Nat) (r : Option LedgerRec) : State :=
  modPort (wr (wr s h Reg.LDG_RSEL_SEQ seq) h Reg.LDG_RSTAT_STATUS st) h fun p => { p with rdata := r }

theorem selected_spec {st : Nat} (r : Option LedgerRec) (hseq : seq < 2 ^ 32) (hst : st < 4) :
    rd (selected s h seq st r) h Reg.LDG_RSEL_SEQ = seq ∧ rd (selected s h seq st r) h Reg.LDG_RSTAT_STATUS = st ∧
    (half (selected s h seq st r) h).port.rdata = r := by
  refine ⟨?_, ?_, by simp [selected]⟩
  · simp only [selected, modPort, rd_setHalf]
    rw [rd_wr_addr _ _ _ _ _ _ (by decide)]
    exact rd_wr_same' _ _ _ _ (by decide) (by decide) hseq
  · simp only [selected, modPort, rd_setHalf]
    exact rd_wr_same' _ _ _ _ (by decide) (by decide) hst

theorem ldgRselWrite_spec {st : Nat} {r : Option LedgerRec} (hal : alive s h = true) (hseq : seq < 2 ^ 32) (hst : st < 4)
    (hsel : ledgerSelect s h seq = selected s h seq st r) : Completes (.ldgRselWrite h seq) s fun t =>
      rd t h Reg.LDG_RSEL_SEQ = seq ∧ rd t h Reg.LDG_RSTAT_STATUS = st ∧ (half t h).port.rdata = r :=
  ⟨ledgerSelect s h seq, congrArg Host.Outcome.next (access_of_alive hal _), hsel ▸ selected_spec r hseq hst⟩

theorem ledgerSelect_erased (hne : seq ≠ 0) (hlt : seq < s.store.tombstone) :
    ledgerSelect s h seq = selected s h seq 1 none := by
  simp [ledgerSelect, selected, hne, hlt]

theorem ledgerSelect_found {r : LedgerRec} (hnot : seq = 0 ∨ s.store.tombstone ≤ seq)
    (hr : s.store.ledger.find? (fun r => r.seq == seq) = some r) :
    ledgerSelect s h seq = selected s h seq (if r.mark then 0 else 3) (some r) := by
  have hlive : ¬(seq ≠ 0 ∧ seq < s.store.tombstone) := by omega
  cases hm : r.mark <;> simp [ledgerSelect, selected, hlive, hr, hm]

theorem ledgerSelect_missing (hnot : seq = 0 ∨ s.store.tombstone ≤ seq)
    (hr : s.store.ledger.find? (fun r => r.seq == seq) = none) : ledgerSelect s h seq = selected s h seq 2 none := by
  have hlive : ¬(seq ≠ 0 ∧ seq < s.store.tombstone) := by omega
  simp [ledgerSelect, selected, hlive, hr]

end Select

/-- Settles O3: each selection by the status and record it finds. -/
theorem ledgerSelectLatches : Obligations.LedgerSelectLatches :=
  ⟨fun _ _ _ hal hlt hne hold => ldgRselWrite_spec hal hlt (by decide) (ledgerSelect_erased hne hold),
    fun _ _ r _ hal hlt hnot hr => ldgRselWrite_spec hal hlt (by split <;> decide) (ledgerSelect_found hnot hr),
    fun _ _ _ hal hlt hnot hr => ldgRselWrite_spec hal hlt (by decide) (ledgerSelect_missing hnot hr)⟩

/-! ### What an append leaves in the store (R618, R622) -/

section Appends

variable {s t : State} {h : HalfId}

/-- The SEQ of the next record. -/
def nextLedgerSeq (s : State) : Nat := if s.store.ledgerSeq + 1 = 2 ^ 32 then 1 else s.store.ledgerSeq + 1

theorem store_storeAppend (s : State) (h : HalfId) (r : LedgerRec) : (storeAppend s h r).store = { s.store with
    ledger := ({ r with seq := nextLedgerSeq s } :: s.store.ledger).take 65536, ledgerSeq := nextLedgerSeq s } := by
  simp [storeAppend, nextLedgerSeq, irq]

theorem ticks_storeAppend (s : State) (h : HalfId) (r : LedgerRec) : (storeAppend s h r).ticks = s.ticks := by
  simp [storeAppend, irq]

theorem keeps_evBump_refl (s : State) (h : HalfId) (src : Nat) : Keeps 0x10008000000000 s (evBump s h src) :=
  keeps_evBump h src (by decide) (Keeps.refl _ s)

theorem recentAppends_of_store (hst : t.store.recent = s.store.recent) (htk : t.ticks = s.ticks) :
    recentAppends t = recentAppends s := by simp only [recentAppends, hst, htk]

/-- At most one record is appended; with room under the limit nothing is dropped. -/
structure AppendsAtMostOne (s t : State) : Prop where
  ticks : t.ticks = s.ticks
  ledger : t.store.ledger = s.store.ledger ∨ ∃ r, t.store.ledger = (r :: s.store.ledger).take 65536
  room : (recentAppends s).length < 32 →
    t.store.dropCount = s.store.dropCount ∧ (recentAppends t).length ≤ (recentAppends s).length + 1

theorem AppendsAtMostOne.refl (s : State) : AppendsAtMostOne s s :=
  ⟨rfl, Or.inl rfl, fun _ => ⟨rfl, Nat.le_succ _⟩⟩

/-- Steps around an append that leave store and ticks do not count. -/
theorem AppendsAtMostOne.of_same {u v : State} (ha : AppendsAtMostOne u v) (hu : u.store = s.store) (hut : u.ticks = s.ticks)
    (hv : t.store = v.store) (hvt : t.ticks = v.ticks) : AppendsAtMostOne s t := by
  have hrec : recentAppends u = recentAppends s := recentAppends_of_store (congrArg Store.recent hu) hut
  have hrec' : recentAppends t = recentAppends v := recentAppends_of_store (congrArg Store.recent hv) hvt
  obtain ⟨hticks, hledger, hroom⟩ := ha
  rw [hu] at hledger hroom
  rw [hrec] at hroom
  exact ⟨by rw [hvt, hticks, hut], by rw [hv]; exact hledger, by rw [hv, hrec']; exact hroom⟩

theorem recentAppends_appended (hst : t.store.recent = s.ticks :: recentAppends s) (htk : t.ticks = s.ticks) :
    recentAppends t = s.ticks :: recentAppends s := by
  simp [recentAppends, hst, htk, List.filter_filter]

/-- The append counts against the limit. -/
def appendCounted (s : State) : State := { s with store := { s.store with recent := s.ticks :: recentAppends s } }

theorem limitedAppend_of_room (hroom : (recentAppends s).length < 32) (h : HalfId) (r : LedgerRec) :
    limitedAppend s h r = storeAppend (appendCounted s) h r := if_pos hroom

theorem limitedAppend_appends (s : State) (h : HalfId) (r : LedgerRec) : AppendsAtMostOne s (limitedAppend s h r) := by
  by_cases hroom : (recentAppends s).length < 32
  · rw [limitedAppend_of_room hroom]
    have hst := store_storeAppend (appendCounted s) h r
    have htk := ticks_storeAppend (appendCounted s) h r
    have hrec : recentAppends (storeAppend (appendCounted s) h r) = s.ticks :: recentAppends s :=
      recentAppends_appended (by rw [hst]; rfl) htk
    exact ⟨htk, Or.inr ⟨_, by rw [hst]; rfl⟩, fun _ => ⟨by rw [hst]; rfl, by rw [hrec]; rfl⟩⟩
  · have hfull : limitedAppend s h r = satAdd (satAdd { s with store := { s.store with
        dropCount := s.store.dropCount + 1
        dropStart := if s.store.dropCount = 0 then opMs s - 4 else s.store.dropStart } } .a Reg.LDG_STAT_DROPPED 1) .b
        Reg.LDG_STAT_DROPPED 1 := if_neg hroom
    rw [hfull]
    exact ⟨rfl, Or.inl rfl, fun hr => absurd hr hroom⟩

theorem ledger_appends (s : State) (h : HalfId) (src ev : Nat) (bs : List Sys2Proof.Byte) :
    AppendsAtMostOne s (ledger s h src ev bs) := by
  have hk := keeps_evBump_refl s h src
  unfold ledger
  dsimp only
  split
  · exact (limitedAppend_appends _ h _).of_same (hk.store (by decide)) (hk.ticks (by decide)) rfl rfl
  · exact (AppendsAtMostOne.refl (evBump s h src)).of_same (hk.store (by decide)) (hk.ticks (by decide)) (by simp) (by simp)

theorem tallySet_appends (s : State) (h : HalfId) (k cause code ev : Nat) :
    AppendsAtMostOne s (tallySet s h k cause code ev) := by
  have hset : (setHalf s h { half s h with tally := nset (half s h).tally (k * 65536 + cause) code }).store = s.store ∧
      (setHalf s h { half s h with tally := nset (half s h).tally (k * 65536 + cause) code }).ticks = s.ticks :=
    ⟨by simp, by simp⟩
  unfold tallySet
  extract_lets x
  generalize setHalf s h _ = u at hset ⊢
  unfold tallyUpdate
  extract_lets new old s1 s2 s3 s4
  split
  · exact (AppendsAtMostOne.refl u).of_same hset.1 hset.2 rfl rfl
  · have h4 : s4.store = u.store ∧ s4.ticks = u.ticks := by
      simp only [s4]
      split <;> exact ⟨rfl, rfl⟩
    have hk : Keeps 0x1080000 s4 (tallyOverall s4 h) := keeps_tallyOverall h (by decide) (Keeps.refl _ s4)
    exact (ledger_appends (tallyOverall s4 h) h _ _ _).of_same ((hk.store (by decide)).trans (h4.1.trans hset.1))
      ((hk.ticks (by decide)).trans (h4.2.trans hset.2)) rfl rfl

/-- A record among the newest stays among them, one further, after an append. -/
theorem AppendsAtMostOne.mem_take (ha : AppendsAtMostOne s t) {r : LedgerRec} {m : Nat} (hm : m < 65536)
    (hr : r ∈ s.store.ledger.take m) : r ∈ t.store.ledger.take (m + 1) := by
  obtain hsame | ⟨x, happ⟩ := ha.ledger
  · rw [hsame]
    exact (List.take_subset_take_left _ (Nat.le_succ m)) hr
  · rw [happ, List.take_take, Nat.min_eq_left (by omega), List.take_succ_cons]
    exact List.mem_cons_of_mem _ hr

/-- The rate record's state, before its causes are reported. -/
def rateRecorded (s : State) : State :=
  modStore (storeAppend (evBump s ((leader s).getD .a) 3) ((leader s).getD .a) (ledgerRec s ((leader s).getD .a) 3 0x1104
    (p4 s.store.dropCount ++ le 6 s.store.dropStart))) fun t => { t with dropCount := 0 }

theorem rateRecorded_spec (s : State) : (rateRecorded s).store.dropCount = 0 ∧
    recentAppends (rateRecorded s) = recentAppends s ∧ ∃ r ∈ (rateRecorded s).store.ledger.take 1, r.event = 0x1104 ∧
      r.source = 3 ∧ r.fields = p4 s.store.dropCount ++ le 6 s.store.dropStart := by
  have hk := keeps_evBump_refl s ((leader s).getD .a) 3
  refine ⟨rfl, recentAppends_of_store ?_ ?_, ?_⟩
  · simp only [rateRecorded, modStore, store_storeAppend, hk.store (by decide)]
  · exact (ticks_storeAppend ..).trans (hk.ticks (by decide))
  · refine ⟨{ ledgerRec s ((leader s).getD .a) 3 0x1104 (p4 s.store.dropCount ++ le 6 s.store.dropStart) with
      seq := nextLedgerSeq (evBump s ((leader s).getD .a) 3) }, ?_, rfl, rfl, ?_⟩
    · simp only [rateRecorded, modStore, store_storeAppend, List.take_succ_cons]
      exact List.mem_cons_self
    · exact List.take_of_length_le (by simp [p4, le])

theorem ledgerRate_spec (hdrop : s.store.dropCount ≠ 0) (hroom : (recentAppends s).length < 32) :
    Completes .ledgerRate s fun t => ((recentAppends s).length < 31 → t.store.dropCount = 0) ∧
      ∃ r ∈ t.store.ledger, r.event = 0x1104 ∧ r.source = 3 ∧
        r.fields = p4 s.store.dropCount ++ le 6 s.store.dropStart := by
  have hexec : exec .ledgerRate s = .next (tallySet (tallySet (rateRecorded s) .a 8 2 1 0x1104) .b 8 2 1 0x1104) :=
    congrArg Host.Outcome.next (if_neg (by omega))
  obtain ⟨hzero, hrec, r, hr, hspec⟩ := rateRecorded_spec s
  have ha := tallySet_appends (rateRecorded s) .a 8 2 1 0x1104
  have hb := tallySet_appends (tallySet (rateRecorded s) .a 8 2 1 0x1104) .b 8 2 1 0x1104
  have hlen : (recentAppends (rateRecorded s)).length = (recentAppends s).length := by rw [hrec]
  refine ⟨_, hexec, fun hlt => ?_, r, List.mem_of_mem_take (hb.mem_take (by decide) (ha.mem_take (by decide) hr)), hspec⟩
  obtain ⟨hdropA, hrecA⟩ := ha.room (by omega)
  obtain ⟨hdropB, -⟩ := hb.room (by omega)
  rw [hdropB, hdropA, hzero]

/-- An event within the limit becomes the newest record. -/
theorem ledgerAppend_spec (src ev : Nat) (fields : List Sys2Proof.Byte) (hbooted : booted s h = true)
    (hroom : (recentAppends s).length < 32) : Completes (.ledgerAppend h src ev fields) s fun t =>
      t.store.ledgerSeq = (if s.store.ledgerSeq + 1 = 2 ^ 32 then 1 else s.store.ledgerSeq + 1) ∧
      ∃ r, t.store.ledger.head? = some r ∧ r.seq = t.store.ledgerSeq ∧ r.source = src ∧ r.event = ev ∧
        r.fields = fields.take 28 ∧ r.mark = true := by
  have hk := keeps_evBump_refl s h src
  have hrec : recentAppends (evBump s h src) = recentAppends s :=
    recentAppends_of_store (congrArg Store.recent (hk.store (by decide))) (hk.ticks (by decide))
  have hexec : exec (.ledgerAppend h src ev fields) s =
      .next (storeAppend (appendCounted (evBump s h src)) h (ledgerRec s h src ev fields)) :=
    congrArg Host.Outcome.next ((if_pos hbooted).trans (limitedAppend_of_room (by rw [hrec]; exact hroom) h _))
  refine ⟨_, hexec, ?_⟩
  have hst := store_storeAppend (appendCounted (evBump s h src)) h (ledgerRec s h src ev fields)
  refine ⟨?_, _, by rw [hst]; rfl, by rw [hst], rfl, rfl, rfl, rfl⟩
  rw [hst, nextLedgerSeq, appendCounted, hk.store (by decide)]

end Appends

/-! ### The clear of the Ledger (R624) -/

section Clear

variable {s : State} {h : HalfId}

/-- A clear that starts: its tombstone is the newest record. -/
theorem ledgerClearStart_spec (s : State) (h : HalfId) (session : Nat) (by_ : Accessor) :
    (ledgerClearStart s h session by_).store.clearing = true ∧
    (ledgerClearStart s h session by_).store.tombstone = (ledgerClearStart s h session by_).store.ledgerSeq ∧
    ∃ r, (ledgerClearStart s h session by_).store.ledger.head? = some r ∧
      r.seq = (ledgerClearStart s h session by_).store.tombstone ∧ r.event = 0x1101 ∧ r.source = accessorSource h by_ := by
  unfold ledgerClearStart
  extract_lets src old sess r s1
  have hst := store_storeAppend (evBump s h src) h r
  refine ⟨rfl, rfl, { r with seq := nextLedgerSeq (evBump s h src) }, ?_, ?_, rfl, rfl⟩
  · simp only [modStore, s1, hst]
    rfl
  · simp only [modStore, s1, hst]

theorem ledgerClear_spec (session : Nat) (by_ : Accessor) (hal : alive s h = true) (hboot : modeOf s h ≠ mBOOT)
    (hidle : s.store.clearing = false) : Completes (.ledgerClear h session by_) s fun t =>
      t.store.clearing = true ∧ t.store.tombstone = t.store.ledgerSeq ∧ rd t h Reg.LDG_RESULT_STATUS = 0x01 ∧
      ∃ r, t.store.ledger.head? = some r ∧ r.seq = t.store.tombstone ∧ r.event = 0x1101 ∧
        r.source = accessorSource h by_ := by
  have hst : ledgerCmdStatus s h 1 = 0x01 := by simp [ledgerCmdStatus, hboot, hidle]
  have hcmd : ledgerCmd s h 1 session by_ = ledgerClearStart (result s h Reg.LDG_RESULT_SEQ Reg.LDG_RESULT_CMD
      Reg.LDG_RESULT_STATUS 1 0x01) h session by_ := by simp [ledgerCmd, hst]
  obtain ⟨hclearing, htomb, hrec⟩ := ledgerClearStart_spec (result s h Reg.LDG_RESULT_SEQ Reg.LDG_RESULT_CMD
    Reg.LDG_RESULT_STATUS 1 0x01) h session by_
  refine ⟨_, congrArg Host.Outcome.next ((access_of_alive hal _).trans hcmd), hclearing, htomb, ?_, hrec⟩
  exact ((keeps_ledgerClearStart h session by_ (by decide) (Keeps.refl 0x10228401200000 _)).rd h _ (by decide)
    (by decide)).trans (rd_result_status_of_lt s h _ _ _ _ (by decide) (by decide) (by decide))

theorem store_clearReport (s : State) (h : HalfId) : (clearReport s h).store = s.store := by
  unfold clearReport
  split <;> rfl

/-- At the end of a clear no record older than the tombstone has its mark. -/
theorem ledgerClearDone_spec (hclear : s.store.clearing = true) : Completes .ledgerClearDone s fun t =>
    t.store.clearing = false ∧ ∀ r ∈ t.store.ledger, r.seq < t.store.tombstone → r.mark = false := by
  have hend : (ledgerClearEnd s).store = { s.store with
      clearing := false
      ledger := s.store.ledger.map fun r => if r.seq < s.store.tombstone then { r with mark := false } else r } := by
    simp [ledgerClearEnd, hclear, store_clearReport, modStore]
  refine ⟨ledgerClearEnd s, rfl, by rw [hend], fun r hr hold => ?_⟩
  rw [hend] at hr hold
  obtain ⟨r', -, rfl⟩ := List.mem_map.mp hr
  by_cases holder : r'.seq < s.store.tombstone
  · rw [if_pos holder]
  · rw [if_neg holder] at hold
    exact absurd hold holder

end Clear

/-- Settles O2: the Ledger's commands by the one record each appends, and what follows it. -/
theorem ledgerCommandsComplete : Obligations.LedgerCommandsComplete :=
  ⟨fun _ src ev fields _ hbooted hroom => ledgerAppend_spec src ev fields hbooted hroom,
    fun _ hdrop hroom => ledgerRate_spec hdrop hroom,
    fun _ session by_ _ hal hboot hidle => ledgerClear_spec session by_ hal hboot hidle,
    fun _ hclear => ledgerClearDone_spec hclear, fun _ => ⟨_, rfl, rfl⟩,
    fun h _ s => ⟨_, rfl, (congrArg (nget · _) (tally_tallySet s h 8 _ 0 0x1104)).trans (nget_nset_same ..)⟩⟩

/-! ### The ends of commits (R485, R605, R608) -/

section CommitEnds

variable {s : State} {h : HalfId}

theorem exec_storeCommitDone_first {part : Nat} (ok : Bool) (page : Nat) {j : CommitJob} (hpart : part ≠ 3)
    (hj : firstJob s h part = some j) : exec (.storeCommitDone h part ok page) s =
      .next (if ok then commitOk (dropJob s h part) h j else commitFail (dropJob s h part) h page j) := by
  change execStoreCommitDone h part ok page s = _
  simp [execStoreCommitDone, hpart, hj]

/-- A setting group's unit that becomes valid is the one found for its group. -/
theorem setUnits_stageDone (s : State) (h : HalfId) (g : Nat) :
    (stageDone s h g).store.setUnits = s.store.setUnits := by
  unfold stageDone
  split
  · split
    · rfl
    · extract_lets s1
      have h1 : s1.store = s.store := (keeps_foldl _ _ (fun _ x ht => keeps_ite _ (keeps_wrBit x _ _ _ (by decide) ht) ht)
        (Keeps.refl 0x1 s)).store (by decide)
      have hend := (keeps_setEnd h 0x02 (by decide) (Keeps.refl 0x800000009 (ledgerH s1 h 0x0304
        (p4s [g, rd s h Reg.SET_CRC_CRC])))).store (by decide)
      rw [hend]
      exact (ledger_st_setUnits _ _ _ _ _).trans (congrArg Store.setUnits h1)
  · rfl

theorem commitOk_set (s : State) (h : HalfId) (u : SetUnit) :
    (commitOk s h (.set u)).store.setUnits.find? (fun v => v.group == u.group) = some u := by
  simp only [commitOk, setUnits_stageDone, unitValid, modStore]
  simp

theorem commitOk_ret (s : State) (h : HalfId) (u : RetUnit) : (retUnits (commitOk s h (.ret u)) h).head? = some u := by
  have hstore : (commitOk s h (.ret u)).store = (unitValid s h (.ret u)).store := by
    simp only [commitOk]
    split
    · exact (keeps_retCommit h (by decide) (Keeps.refl 0x4010000004000 _)).store (by decide)
    · simp
  cases h <;> simp [retUnits, hstore, unitValid, modStore]

theorem uncorr_storeError (s : State) (h : HalfId) (part page : Nat) (write : Bool) :
    rdB (storeError s h part page write) h Reg.PST_STAT_UNCORR = true := by
  unfold storeError
  extract_lets s1 s2
  have hk : Keeps 0x1023C4012C0000 s1 (if write && part == 3 then s2 else tallySet s2 h 8 1 2 0x1105) := by
    have h2 : Keeps 0x1023C4012C0000 s1 s2 := keeps_ledger h _ _ _ (by decide) (Keeps.refl _ s1)
    exact keeps_ite _ h2 (keeps_tallySet h _ _ _ _ (by decide) h2)
  exact (hk.rdB h _ (by decide) (by decide)).trans (rdB_wrB_same s h _ true rfl (by decide))

theorem uncorr_commitFail (s : State) (h : HalfId) (page : Nat) (j : CommitJob) :
    rdB (commitFail s h page j) h Reg.PST_STAT_UNCORR = true := by
  cases j with
  | set u =>
    have hset := uncorr_storeError s h 1 page true
    have hend : rdB (setEnd (storeError s h 1 page true) h 0x19) h Reg.PST_STAT_UNCORR = true :=
      ((keeps_setEnd h 0x19 (by decide) (Keeps.refl 0x800000009 _)).rdB h _ (by decide) (by decide)).trans hset
    simp only [commitFail]
    split
    · split
      · exact hset
      · exact hend
    · exact hset
  | ret u => exact (congrArg (· != 0) (rd_modLge ..)).trans (uncorr_storeError s h 2 page true)

end CommitEnds

/-- Settles O33: the oldest commit's end, by what its job is. -/
theorem storeCommitsEnd : Obligations.StoreCommitsEnd :=
  fun h _ page _ hpart =>
    ⟨fun u hj => ⟨_, exec_storeCommitDone_first true page hpart hj, commitOk_set _ h u⟩,
      fun u hj => ⟨_, exec_storeCommitDone_first true page hpart hj, commitOk_ret _ h u⟩,
      fun j hj => ⟨_, exec_storeCommitDone_first false page hpart hj, uncorr_commitFail _ h page j⟩⟩

end Sys2Proof.Machine
end

section
/-!
PROOFS of the statement about the recorder's commands: its areas' runs through triggers, closes, stops and starts, and
the measurements.
-/

namespace Sys2Proof.Machine

open Sys2Proof (HalfId Instr)

/-! ### The runs of the areas -/

section Runs

variable {s t : State} {h : HalfId} {a b : Nat} {ar : AreaRec}

@[simp] theorem areaRun_setRun_same (s : State) (h : HalfId) (a : Nat) (r : AreaRun) : areaRun (setRun s h a r) h a = r := by
  simp [areaRun, setRun, modAcq, sget_sset_same]

theorem areaRun_setRun_ne (s : State) (h : HalfId) (r : AreaRun) (hb : b ≠ a) :
    areaRun (setRun s h a r) h b = areaRun s h b := by
  simp [areaRun, setRun, modAcq, sget_sset_other _ _ _ _ _ hb]

/-- A change of the recorder that leaves the runs. -/
theorem areaRun_modAcq_of_runs {f : Recorder → Recorder} (hf : (f (half s h).acq).runs = (half s h).acq.runs) (a : Nat) :
    areaRun (modAcq s h f) h a = areaRun s h a := by
  simp [areaRun, modAcq, hf]

theorem areaRun_of_keeps {m : Nat} (hk : Keeps m s t) (hm : m.testBit 42 = false) (h : HalfId) (a : Nat) :
    areaRun t h a = areaRun s h a := by
  simp only [areaRun, hk.acq hm h]

theorem areaRec_of_keeps {m : Nat} (hk : Keeps m s t) (hm : m.testBit 36 = false) (h : HalfId) (a : Nat) :
    areaRec t h a = areaRec s h a := by
  simp only [areaRec, hk.image hm h]

/-- An area that is defined is one of the image that is loaded. -/
theorem image_of_areaRec (har : areaRec s h a = some ar) : ∃ i, (half s h).image = some i := by
  cases himg : (half s h).image with
  | some i => exact ⟨i, rfl⟩
  | none => simp [areaRec, himg] at har

theorem areaRun_openHeader (st : Nat) : areaRun (openHeader s h a st) h b = areaRun s h b := by
  unfold openHeader
  split
  · exact areaRun_modAcq_of_runs (by rfl) b
  · rfl

/-! ### A segment that is not committed, and an area that arms (R544, R545) -/

/-- The counts and the Tally cause of a segment that is not committed. -/
def lossCounted (s : State) (h : HalfId) (a : Nat) : State :=
  tallySet (count (satAdd (satAdd s h (Reg.ACQ_ALOST_NOT_COMMITTED a) 1) h Reg.ACQ_LOST_NOT_COMMITTED 1) h
    (0x23C + 3 * a + 2)) h 12 1 1 0x0F01

theorem keeps_lossCounted (s : State) (h : HalfId) (a : Nat) : Keeps 0x1023C4012C8000 s (lossCounted s h a) :=
  keeps_tallySet h _ _ _ _ (by decide) (keeps_count h _ _ (by decide) (keeps_satAdd h _ _ (by decide)
    (keeps_satAdd h _ _ (fits_instKey _ _ _ _ _ (by decide) (by decide) (by decide)) (Keeps.refl _ s))))

theorem areaRun_ledger (s : State) (g : HalfId) (src ev : Nat) (bs : List Sys2Proof.Byte) (h : HalfId) (a : Nat) :
    areaRun (ledger s g src ev bs) h a = areaRun s h a :=
  areaRun_of_keeps (keeps_ledger g _ _ _ (by decide) (Keeps.refl 0x10238401240000 s)) (by decide) h a

/-- A loss changes of the area's run only when it was recorded last and what has not been recorded since. -/
theorem areaRun_notCommitted (s : State) (h : HalfId) (a c : Nat) : ∃ since at_, areaRun (notCommitted s h a c) h a =
    { areaRun s h a with lostSince := since, lostAt := at_ } := by
  have hrun : areaRun (lossCounted s h a) h a = areaRun s h a :=
    areaRun_of_keeps (keeps_lossCounted s h a) (by decide) h a
  rw [← hrun]
  unfold notCommitted
  dsimp only
  split
  · rw [areaRun_ledger, areaRun_setRun_same]
    exact ⟨_, _, rfl⟩
  · rw [areaRun_setRun_same]
    exact ⟨_, _, rfl⟩

theorem areaRun_notCommitted_ne (c : Nat) (hb : b ≠ a) : areaRun (notCommitted s h a c) h b = areaRun s h b := by
  have hrun : areaRun (lossCounted s h a) h b = areaRun s h b :=
    areaRun_of_keeps (keeps_lossCounted s h a) (by decide) h b
  rw [← hrun]
  unfold notCommitted
  dsimp only
  split
  · exact (areaRun_ledger ..).trans (areaRun_setRun_ne _ h _ hb)
  · exact areaRun_setRun_ne _ h _ hb

/-- The registers that a loss counts in. -/
theorem rd_notCommitted {e : Fld} (c : Nat) (hb : keyBlock e.key = 15)
    (ha : e.key % 0x100000000 ≠ (Reg.ACQ_ALOST_NOT_COMMITTED a).key % 0x100000000) (hl : e.key % 0x100000000 ≠ 0xF001C) :
    rd (notCommitted s h a c) h e = rd s h e := by
  have hcount : rd (lossCounted s h a) h e = rd s h e := by
    have hk : Keeps 0x1023C4012C0000 (satAdd (satAdd s h (Reg.ACQ_ALOST_NOT_COMMITTED a) 1) h Reg.ACQ_LOST_NOT_COMMITTED 1)
        (lossCounted s h a) := keeps_tallySet h _ _ _ _ (by decide) (keeps_count h _ _ (by decide) (Keeps.refl _ _))
    rw [hk.rd h e (by rw [hb]; decide) (by rw [hb]; decide), rd_satAdd_addr _ _ _ _ _ _ hl, rd_satAdd_addr _ _ _ _ _ _ ha]
  rw [← hcount]
  unfold notCommitted
  dsimp only
  have hset (u : State) (r : AreaRun) : rd (setRun u h a r) h e = rd u h e := rd_setHalf ..
  split
  · exact ((keeps_ledger h _ _ _ (by decide) (Keeps.refl 0x10238401240000 _)).rd h e (by rw [hb]; decide)
      (by rw [hb]; decide)).trans (hset _ _)
  · exact hset _ _

/-- What an area discards as it arms: its next slot's segment, counted where it was pending. -/
def slotFreed (s : State) (h : HalfId) (a : Nat) (ar : AreaRec) : State :=
  let slot := nextSlot s h a ar.segs (areaRun s h a).slot
  let s1 := modAcq s h fun q => { q with segs := q.segs.filter fun g => !(g.area == a && g.slot == slot) }
  if ((half s h).acq.segs.any fun g => g.area == a && g.slot == slot && g.pending) && bit ar.flags 0
    then notCommitted s1 h a 1 else s1

theorem areaRun_slotFreed (s : State) (h : HalfId) (a : Nat) (ar : AreaRec) : ∃ since at_,
    areaRun (slotFreed s h a ar) h a = { areaRun s h a with lostSince := since, lostAt := at_ } := by
  unfold slotFreed
  extract_lets slot s1
  have h1 : areaRun s1 h a = areaRun s h a := areaRun_modAcq_of_runs rfl a
  split
  · obtain ⟨since, at_, hlost⟩ := areaRun_notCommitted s1 h a 1
    exact ⟨since, at_, by rw [hlost, h1]⟩
  · exact ⟨_, _, h1⟩

theorem areaRun_slotFreed_ne (ar : AreaRec) (hb : b ≠ a) : areaRun (slotFreed s h a ar) h b = areaRun s h b := by
  unfold slotFreed
  extract_lets slot s1
  have h1 : areaRun s1 h b = areaRun s h b := areaRun_modAcq_of_runs rfl b
  split
  · exact (areaRun_notCommitted_ne 1 hb).trans h1
  · exact h1

/-- An area arms: its run starts again in its next slot, under the same SEQ. -/
theorem armArea_spec (har : areaRec s h a = some ar) : (areaRun (armArea s h a) h a).state = 1 ∧
    (areaRun (armArea s h a) h a).seq = (areaRun s h a).seq := by
  obtain ⟨since, at_, hfreed⟩ := areaRun_slotFreed s h a ar
  have harm : armArea s h a = openHeader (setRun (slotFreed s h a ar) h a { areaRun (slotFreed s h a ar) h a with
      state := 1, stopped := 0, slot := nextSlot s h a ar.segs (areaRun s h a).slot, n := 0, ring := [], newest := []
      preActual := 0, postDone := 0, postLeft := 0, ringStart := 0, trigs := [], trigCount := 0, flags := 0
      changes := [], timeQ := 0 }) h a 0 := by
    simp only [armArea, har, slotFreed]
  rw [harm, areaRun_openHeader, areaRun_setRun_same, hfreed]
  exact ⟨rfl, rfl⟩

theorem areaRun_armArea_ne (hb : b ≠ a) : areaRun (armArea s h a) h b = areaRun s h b := by
  cases har : areaRec s h a with
  | none => simp only [armArea, har]
  | some ar =>
    simp only [armArea, har]
    exact (areaRun_openHeader 0).trans ((areaRun_setRun_ne _ h _ hb).trans (areaRun_slotFreed_ne ar hb))

theorem rd_armArea {e : Fld} (hb : keyBlock e.key = 15)
    (ha : e.key % 0x100000000 ≠ (Reg.ACQ_ALOST_NOT_COMMITTED a).key % 0x100000000) (hl : e.key % 0x100000000 ≠ 0xF001C) :
    rd (armArea s h a) h e = rd s h e := by
  have hmod (u : State) (f : Recorder → Recorder) : rd (modAcq u h f) h e = rd u h e := rd_setHalf ..
  have hfreed (ar : AreaRec) : rd (slotFreed s h a ar) h e = rd s h e := by
    unfold slotFreed
    extract_lets slot s1
    split
    · exact (rd_notCommitted 1 hb ha hl).trans (hmod _ _)
    · exact hmod _ _
  have hopen (u : State) : rd (openHeader u h a 0) h e = rd u h e :=
    (keeps_openHeader h a 0 (by decide) (Keeps.refl 0x40000000000 u)).rd h e (by rw [hb]; decide) (by rw [hb]; decide)
  cases har : areaRec s h a with
  | none => simp only [armArea, har]
  | some ar =>
    simp only [armArea, har]
    exact (hopen _).trans ((hmod _ _).trans (hfreed ar))

/-! ### A segment that closes (R544) -/

/-- The flags that a segment closes with. -/
def closeFlags (s : State) (h : HalfId) (i : Image) (ar : AreaRec) (a extra : Nat) : Nat :=
  let r := areaRun s h a
  let cf := (ar.entries.zipIdx).foldl (fun f e => f ||| entryFlags s h i ar r e.2 e.1) 0
  r.flags ||| extra ||| (if bit cf 0 then 32 else 0) ||| (if bit cf 1 then 64 else 0)

/-- What a closed segment shows of itself: its flags and slot, its SEQ, its count and its item. -/
def closeShown (s : State) (h : HalfId) (a flags slot seq : Nat) : State :=
  let s1 := wr (wr s h (Reg.ACQ_ALAST_FLAGS a) flags) h (Reg.ACQ_ALAST_SLOT a) slot
  let s2 := count (wr s1 h (Reg.ACQ_ASEQ_SEQ a) seq) h (0x23C + 3 * a + 1)
  qPush s2 h 4 (qItem s2 h (0x600 + a) 0 (p4s [a, seq, flags]))

theorem keeps_closeShown (s : State) (h : HalfId) (a flags slot seq : Nat) :
    Keeps 0x220001208000 s (closeShown s h a flags slot seq) := by
  have hlast : fits 0x220001208000 (Reg.ACQ_ALAST_FLAGS a).key = true :=
    fits_instKey _ _ _ _ _ (by decide) (by decide) (by decide)
  have hseq : fits 0x220001208000 (Reg.ACQ_ASEQ_SEQ a).key = true :=
    fits_instKey _ _ _ _ _ (by decide) (by decide) (by decide)
  unfold closeShown
  extract_lets s1 s2
  have h1 : Keeps 0x220001208000 s s1 := keeps_wr h (Reg.ACQ_ALAST_SLOT a) _ hlast (keeps_wr h _ _ hlast (Keeps.refl _ s))
  have h2 : Keeps 0x220001208000 s s2 := keeps_count h _ _ (by decide) (keeps_wr h _ _ hseq h1)
  exact keeps_qPush h _ _ (by decide) h2

theorem closeShown_spec (s : State) (h : HalfId) (ha : a < 8) (flags slot seq : Nat) :
    rd (closeShown s h a flags slot seq) h (Reg.ACQ_ASEQ_SEQ a) = seq % 2 ^ 32 ∧
    rd (closeShown s h a flags slot seq) h (Reg.ACQ_ALAST_FLAGS a) = flags % 2 ^ 16 := by
  have hseqKey : (Reg.ACQ_ASEQ_SEQ a).key = 0xF0108 + a * 32 := instKey_of_lt ha
  have hlastKey : (Reg.ACQ_ALAST_FLAGS a).key = 0xF010C + a * 32 := instKey_of_lt ha
  unfold closeShown
  extract_lets s1 s2
  have hk : Keeps 0x220001200000 (wr s1 h (Reg.ACQ_ASEQ_SEQ a) seq)
      (qPush s2 h 4 (qItem s2 h (0x600 + a) 0 (p4s [a, seq, flags]))) :=
    keeps_qPush h _ _ (by decide) (keeps_count h _ _ (by decide) (Keeps.refl _ _))
  have hblock : keyBlock (Reg.ACQ_ASEQ_SEQ a).key = 15 ∧ keyBlock (Reg.ACQ_ALAST_FLAGS a).key = 15 := by
    rw [hseqKey, hlastKey]
    simp only [keyBlock]
    omega
  refine ⟨(hk.rd h _ (by rw [hblock.1]; decide) (by rw [hblock.1]; decide)).trans ?_,
    (hk.rd h _ (by rw [hblock.2]; decide) (by rw [hblock.2]; decide)).trans ?_⟩
  · exact rd_wr_same _ _ _ _ (Nat.zero_le 31) (by decide : 31 < 32)
  · rw [rd_wr_addr _ _ _ _ _ _ (by rw [hseqKey, hlastKey]; omega),
      rd_wr_disjoint _ _ (Reg.ACQ_ALAST_SLOT a) (Reg.ACQ_ALAST_FLAGS a) _ rfl (by decide : 0 ≤ 11) (by decide : 16 ≤ 31)
        (by decide : 11 < 32) (Or.inl (by decide : 11 < 16))]
    exact rd_wr_same _ _ _ _ (by decide : 16 ≤ 31) (by decide : 31 < 32)

theorem areaRun_closeSegment_ne (extra : Nat) (hb : b ≠ a) : areaRun (closeSegment s h a extra) h b = areaRun s h b := by
  unfold closeSegment
  split
  · extract_lets r0 cf n per r hdr tab trg s1 s2 s3 s4
    have h1 : areaRun s1 h b = areaRun s h b := areaRun_modAcq_of_runs rfl b
    exact (areaRun_setRun_ne _ h _ hb).trans
      ((areaRun_of_keeps (keeps_closeShown s1 h a r.flags r.slot r.seq) (by decide) h b).trans h1)
  · rfl

/-- A segment closes: the area waits under the next SEQ, and shows the segment's SEQ and flags. -/
theorem closeSegment_spec (extra : Nat) (ha : a < 8) {i : Image} (har : areaRec s h a = some ar)
    (himg : (half s h).image = some i) :
    (areaRun (closeSegment s h a extra) h a).seq = ((areaRun s h a).seq + 1) % 2 ^ 32 ∧
    (areaRun (closeSegment s h a extra) h a).state = 0 ∧
    rd (closeSegment s h a extra) h (Reg.ACQ_ASEQ_SEQ a) = (areaRun s h a).seq % 2 ^ 32 ∧
    rd (closeSegment s h a extra) h (Reg.ACQ_ALAST_FLAGS a) = closeFlags s h i ar a extra % 2 ^ 16 := by
  unfold closeSegment
  split
  next ar' i' har' himg' =>
    obtain rfl : ar' = ar := Option.some.inj (har'.symm.trans har)
    obtain rfl : i' = i := Option.some.inj (himg'.symm.trans himg)
    extract_lets r0 cf n per r hdr tab trg s1 s2 s3 s4
    obtain ⟨hseq, hflags⟩ := closeShown_spec s1 h ha r.flags r.slot r.seq
    refine ⟨by rw [areaRun_setRun_same], by rw [areaRun_setRun_same], ?_, ?_⟩
    · exact (rd_setHalf ..).trans hseq
    · exact (rd_setHalf ..).trans hflags
  next hnone => exact absurd himg (hnone ar i har)

/-! ### Triggers (R547, R549, R550) -/

theorem areaRun_triggered (s : State) (h : HalfId) (b src i : Nat) :
    areaRun (evBump (count s h i) h src) h b = areaRun s h b :=
  areaRun_of_keeps (keeps_evBump h src (by decide) (keeps_count h i 1 (by decide) (Keeps.refl 0x10028000000000 s)))
    (by decide) h b

/-- A trigger that reaches an armed area makes its segment triggered at the trigger's instant. -/
theorem triggerArea_armed (har : (areaRec s h a).isSome = true) (hrun : (areaRun s h a).state = 1)
    (hpf : rdB s h Reg.PWR_PF_STAT_PF = false) (kind index inst fl : Nat) :
    (areaRun (triggerArea s h a kind index inst fl) h a).state = 2 ∧
    (areaRun (triggerArea s h a kind index inst fl) h a).tTrig = inst := by
  obtain ⟨ar, har⟩ := Option.isSome_iff_exists.mp har
  obtain ⟨i, himg⟩ := image_of_areaRec har
  have hlive : ¬((areaRun s h a).state = 0 ∨ rdB s h Reg.PWR_PF_STAT_PF = true) := by simp [hrun, hpf]
  simp only [triggerArea, har, himg, if_neg hlive, if_pos hrun]
  rw [areaRun_triggered _ h, areaRun_openHeader, startTrigger, areaRun_setRun_same]
  exact ⟨rfl, rfl⟩

theorem areaRun_triggerArea_ne (kind index inst fl : Nat) (hb : b ≠ a) :
    areaRun (triggerArea s h a kind index inst fl) h b = areaRun s h b := by
  unfold triggerArea
  split
  · dsimp only
    split
    · rfl
    · rw [areaRun_triggered _ h]
      split
      · rw [areaRun_openHeader, startTrigger, areaRun_setRun_ne _ _ _ hb]
        exact areaRun_modAcq_of_runs rfl b
      · rw [moreTrigger, areaRun_setRun_ne _ _ _ hb]
  · rfl

/-! ### Stops and starts (R544, R566) -/

theorem stopArea_spec (s : State) (h : HalfId) (a extra : Nat) :
    (areaRun (stopArea s h a 1 extra) h a).state = 0 ∧ (areaRun (stopArea s h a 1 extra) h a).stopped = 1 := by
  unfold stopArea
  dsimp only
  split
  · rename_i hstopped
    rw [if_neg (by omega)]
    exact hstopped
  · rw [areaRun_setRun_same]
    exact ⟨rfl, rfl⟩

theorem areaRun_stopArea_ne (by_ extra : Nat) (hb : b ≠ a) :
    areaRun (stopArea s h a by_ extra) h b = areaRun s h b := by
  have hclose : areaRun (if (areaRun s h a).state = 2 then closeSegment s h a extra else s) h b = areaRun s h b := by
    split
    · exact areaRun_closeSegment_ne extra hb
    · rfl
  unfold stopArea
  dsimp only
  split
  · exact hclose
  · exact (areaRun_setRun_ne _ _ _ hb).trans hclose

/-- A stopped area that is defined arms again outside LAYUP. -/
theorem startArea_spec (har : (areaRec s h a).isSome = true) (hrun : (areaRun s h a).state = 0)
    (hmode : modeOf s h ≠ mLAYUP) : (areaRun (startArea s h a) h a).state = 1 := by
  obtain ⟨ar, har⟩ := Option.isSome_iff_exists.mp har
  have harm : startArea s h a = armArea (setRun s h a { areaRun s h a with stopped := 2 }) h a := by
    simp [startArea, hrun, hmode]
  rw [harm]
  exact (armArea_spec (ar := ar) ((areaRec_of_keeps (keeps_setRun h a _ (by decide) (Keeps.refl 0x40000000000 s))
    (by decide) h a).trans har)).1

theorem areaRun_startArea_ne (hb : b ≠ a) : areaRun (startArea s h a) h b = areaRun s h b := by
  unfold startArea
  extract_lets r s1 lay
  have hset : areaRun s1 h b = areaRun s h b := areaRun_setRun_ne _ _ _ hb
  split
  · rfl
  · split
    · exact hset
    · exact (areaRun_armArea_ne hb).trans hset

end Runs

/-! ### A step for each area in turn -/

section EachArea

/-- In a fold that passes each member once, what the member's own step establishes holds at the end, where the other
members' steps keep it and what it needs. -/
theorem foldl_own_step {α : Type} {f : State → α → State} {a : α} {Pre Post : State → Prop}
    (hpre : ∀ t b, b ≠ a → Pre t → Pre (f t b)) (hstep : ∀ t, Pre t → Post (f t a))
    (hpost : ∀ t b, b ≠ a → Post t → Post (f t b)) {l : List α} (hnd : l.Nodup) (ha : a ∈ l) {s : State} (hs : Pre s) :
    Post (l.foldl f s) := by
  induction l generalizing s with
  | nil => cases ha
  | cons b l ih =>
    obtain ⟨hb, hnd⟩ := List.nodup_cons.mp hnd
    rcases List.mem_cons.mp ha with rfl | hmem
    · exact List.foldlRecOn (motive := Post) l f (hstep s hs) fun t ht c hc => hpost t c (fun hca => hb (hca ▸ hc)) ht
    · exact ih hnd hmem (hpre s b (fun hba => hb (hba ▸ hmem)) hs)

variable {s : State} {h : HalfId} {a areas : Nat}

theorem triggerAreas_spec (ha : a < 8) (hbit : bit areas a = true) (har : (areaRec s h a).isSome = true)
    (hrun : (areaRun s h a).state = 1) (hpf : rdB s h Reg.PWR_PF_STAT_PF = false) (kind index inst fl : Nat) :
    (areaRun (triggerAreas s h areas kind index inst fl) h a).state = 2 ∧
    (areaRun (triggerAreas s h areas kind index inst fl) h a).tTrig = inst := by
  refine foldl_own_step (Pre := fun t => (areaRec t h a).isSome = true ∧ (areaRun t h a).state = 1 ∧
      rdB t h Reg.PWR_PF_STAT_PF = false) (Post := fun t => (areaRun t h a).state = 2 ∧ (areaRun t h a).tTrig = inst)
    (fun t b hb ht => ?_) (fun t ht => ?_) (fun t b hb ht => ?_) List.nodup_range (List.mem_range.mpr ha) ⟨har, hrun, hpf⟩
  · split
    · have hk : Keeps 0x10068000000000 t (triggerArea t h b kind index inst fl) :=
        keeps_triggerArea h b _ _ _ _ (by decide) (Keeps.refl _ t)
      rw [areaRec_of_keeps hk (by decide), areaRun_triggerArea_ne _ _ _ _ hb.symm, hk.rdB h _ (by decide) (by decide)]
      exact ht
    · exact ht
  · rw [if_pos hbit]
    exact triggerArea_armed ht.1 ht.2.1 ht.2.2 kind index inst fl
  · split
    · rw [areaRun_triggerArea_ne _ _ _ _ hb.symm]
      exact ht
    · exact ht

/-- STOP's areas are stopped. -/
def areasStopped (s : State) (h : HalfId) (areas : Nat) : State :=
  (List.range 8).foldl (fun s a => if bit areas a then stopArea s h a 1 fTRUNCATED else s) s

/-- START's areas arm where they were stopped. -/
def areasStarted (s : State) (h : HalfId) (areas : Nat) : State :=
  (List.range 8).foldl (fun s a => if bit areas a then startArea s h a else s) s

theorem areasStopped_spec (ha : a < 8) (hbit : bit areas a = true) :
    (areaRun (areasStopped s h areas) h a).state = 0 ∧ (areaRun (areasStopped s h areas) h a).stopped = 1 := by
  refine foldl_own_step (Pre := fun _ => True)
    (Post := fun t => (areaRun t h a).state = 0 ∧ (areaRun t h a).stopped = 1) (fun _ _ _ _ => trivial)
    (fun t _ => ?_) (fun t b hb ht => ?_) List.nodup_range (List.mem_range.mpr ha) trivial
  · rw [if_pos hbit]
    exact stopArea_spec t h a fTRUNCATED
  · split
    · rw [areaRun_stopArea_ne _ _ hb.symm]
      exact ht
    · exact ht

theorem areasStarted_spec (ha : a < 8) (hbit : bit areas a = true) (har : (areaRec s h a).isSome = true)
    (hrun : (areaRun s h a).state = 0) (hmode : modeOf s h ≠ mLAYUP) :
    (areaRun (areasStarted s h areas) h a).state = 1 := by
  refine foldl_own_step (Pre := fun t => (areaRec t h a).isSome = true ∧ (areaRun t h a).state = 0 ∧ modeOf t h ≠ mLAYUP)
    (Post := fun t => (areaRun t h a).state = 1) (fun t b hb ht => ?_) (fun t ht => ?_) (fun t b hb ht => ?_)
    List.nodup_range (List.mem_range.mpr ha) ⟨har, hrun, hmode⟩
  · split
    · have hk : Keeps 0x1027C4012C8000 t (startArea t h b) := keeps_startArea h b (by decide) (Keeps.refl _ t)
      rw [areaRec_of_keeps hk (by decide), areaRun_startArea_ne hb.symm, modeOf_of_keeps hk (by decide)]
      exact ht
    · exact ht
  · rw [if_pos hbit]
    exact startArea_spec ht.1 ht.2.1 ht.2.2
  · split
    · rw [areaRun_startArea_ne hb.symm]
      exact ht
    · exact ht

/-! ### The recorder's registers that no area owns -/

theorem areaKey_ge {base : Nat} (hbase : 0xF0100 ≤ base) (hend : base < 0xF0200) (a : Nat) :
    0xF0100 ≤ instKey base 32 8 a % 0x100000000 := by
  simp only [instKey, nowhere]
  split <;> omega

theorem rd_closeSegment {e : Fld} (hb : keyBlock e.key = 15) (he : e.key % 0x100000000 < 0xF0100) (extra : Nat) :
    rd (closeSegment s h a extra) h e = rd s h e := by
  have hlast (u : State) (f : Fld) (v : Nat) (hf : f.key = instKey 0xF010C 32 8 a ∨ f.key = instKey 0xF0108 32 8 a) :
      rd (wr u h f v) h e = rd u h e := by
    refine rd_wr_addr _ _ _ _ _ _ ?_
    have hlow := areaKey_ge (base := 0xF010C) (by decide) (by decide) a
    have hlow' := areaKey_ge (base := 0xF0108) (by decide) (by decide) a
    rcases hf with hf | hf <;> rw [hf] <;> omega
  unfold closeSegment
  split
  · extract_lets r0 cf n per r hdr tab trg s1 s2 s3 s4
    have hk : Keeps 0x220001200000 (wr s2 h (Reg.ACQ_ASEQ_SEQ a) r.seq) s4 :=
      keeps_qPush h _ _ (by decide) (keeps_count h _ _ (by decide) (Keeps.refl _ _))
    refine (rd_setHalf ..).trans ((hk.rd h e (by rw [hb]; decide) (by rw [hb]; decide)).trans ?_)
    rw [hlast _ _ _ (Or.inr rfl), hlast _ _ _ (Or.inl rfl), hlast _ _ _ (Or.inl rfl)]
    exact rd_setHalf ..
  · rfl

theorem rd_stopArea {e : Fld} (hb : keyBlock e.key = 15) (he : e.key % 0x100000000 < 0xF0100) (by_ extra : Nat) :
    rd (stopArea s h a by_ extra) h e = rd s h e := by
  have hclose : rd (if (areaRun s h a).state = 2 then closeSegment s h a extra else s) h e = rd s h e := by
    split
    · exact rd_closeSegment hb he extra
    · rfl
  unfold stopArea
  dsimp only
  split
  · exact hclose
  · exact (rd_setHalf ..).trans hclose

theorem rd_startArea {e : Fld} (hb : keyBlock e.key = 15) (he : e.key % 0x100000000 < 0xF0100)
    (hl : e.key % 0x100000000 ≠ 0xF001C) : rd (startArea s h a) h e = rd s h e := by
  have hlow := areaKey_ge (base := 0xF0110) (by decide) (by decide) a
  have harm (u : State) : rd (armArea u h a) h e = rd u h e := rd_armArea hb (by simp only [Reg.ACQ_ALOST_NOT_COMMITTED]; omega) hl
  unfold startArea
  extract_lets r s1 lay
  have hset : rd s1 h e = rd s h e := rd_setHalf ..
  split
  · rfl
  · split
    · exact hset
    · exact (harm s1).trans hset

theorem rd_areasStopped {e : Fld} (hb : keyBlock e.key = 15) (he : e.key % 0x100000000 < 0xF0100) :
    rd (areasStopped s h areas) h e = rd s h e :=
  foldl_unchanged (fun t => rd t h e) (fun t b => by
    split
    · exact rd_stopArea hb he 1 fTRUNCATED
    · rfl) _ _

theorem rd_areasStarted {e : Fld} (hb : keyBlock e.key = 15) (he : e.key % 0x100000000 < 0xF0100)
    (hl : e.key % 0x100000000 ≠ 0xF001C) : rd (areasStarted s h areas) h e = rd s h e :=
  foldl_unchanged (fun t => rd t h e) (fun t b => by
    split
    · exact rd_startArea hb he hl
    · rfl) _ _

end EachArea

/-! ### ACQ_CMD (R566) -/

section AcqCmd

variable {s : State} {h : HalfId} {areas a : Nat}

/-- An ACQ_CMD command as it is reported. -/
def acqReported (s : State) (h : HalfId) (code : Nat) : State :=
  result s h Reg.ACQ_RESULT_SEQ Reg.ACQ_RESULT_CMD Reg.ACQ_RESULT_STATUS code 0x02

theorem status_acqReported (s : State) (h : HalfId) (code : Nat) :
    rd (acqReported s h code) h Reg.ACQ_RESULT_STATUS = 0x02 :=
  rd_result_status_of_lt s h _ _ _ _ (by decide) (by decide) (by decide)

theorem areaRun_acqReported (code : Nat) : areaRun (acqReported s h code) h a = areaRun s h a := by
  simp only [areaRun, acqReported, half_result]

theorem areaRec_acqReported (code : Nat) : areaRec (acqReported s h code) h a = areaRec s h a := by
  simp only [areaRec, acqReported, half_result]

/-- An accepted command names defined areas only. -/
theorem areaRec_of_acqStatus {code : Nat} (hst : acqStatus s h code areas = 0x02) (ha : a < 8) (hbit : bit areas a = true) :
    (areaRec s h a).isSome = true := by
  by_contra hnone
  have hany : ((List.range 8).any fun a => bit areas a && (areaRec s h a).isNone) = true :=
    List.any_eq_true.mpr ⟨a, List.mem_range.mpr ha, by simpa [hbit] using hnone⟩
  unfold acqStatus at hst
  rw [if_pos hany] at hst
  split_ifs at hst <;> omega

theorem acqTrigger_spec (hal : alive s h = true) (hst : acqStatus s h 1 areas = 0x02)
    (hpf : rdB s h Reg.PWR_PF_STAT_PF = false) : Completes (.trigger h areas) s fun t =>
      rd t h Reg.ACQ_RESULT_STATUS = 0x02 ∧
      ∀ a < 8, bit areas a = true → (areaRun s h a).state = 1 → (areaRun t h a).state = 2 := by
  have hcmd : acqCmd s h 1 areas =
      triggerAreas (acqReported s h 1) h areas 3 0 (now (acqReported s h 1)) 512 := by
    simp [acqCmd, hst, acqReported]
  refine ⟨_, congrArg Host.Outcome.next ((access_of_alive hal _).trans hcmd), ?_, fun a ha hbit hrun => ?_⟩
  · exact ((keeps_triggerAreas h _ _ _ _ _ (by decide) (Keeps.refl 0x10068000000000 _)).rd h _ (by decide)
      (by decide)).trans (status_acqReported s h 1)
  · refine (triggerAreas_spec ha hbit ?_ ?_ ?_ _ _ _ _).1
    · rw [areaRec_acqReported]
      exact areaRec_of_acqStatus hst ha hbit
    · rw [areaRun_acqReported]
      exact hrun
    · exact (congrArg (· != 0) (rd_result_addr _ _ _ _ _ _ _ _ _ (by decide) (by decide) (by decide))).trans hpf

theorem areaRun_ledgerH (u : State) (ev : Nat) (bs : List Sys2Proof.Byte) :
    areaRun (ledgerH u h ev bs) h a = areaRun u h a := areaRun_ledger u h _ ev bs h a

theorem status_ledgerH (u : State) (ev : Nat) (bs : List Sys2Proof.Byte) :
    rd (ledgerH u h ev bs) h Reg.ACQ_RESULT_STATUS = rd u h Reg.ACQ_RESULT_STATUS :=
  (keeps_ledgerH h ev bs (by decide) (Keeps.refl 0x10238401240000 u)).rd h _ (by decide) (by decide)

theorem acqStop_spec (hal : alive s h = true) (hst : acqStatus s h 2 areas = 0x02) :
    Completes (.acqStop h areas) s fun t => rd t h Reg.ACQ_RESULT_STATUS = 0x02 ∧
      ∀ a < 8, bit areas a = true → (areaRun t h a).state = 0 ∧ (areaRun t h a).stopped = 1 := by
  have hcmd : acqCmd s h 2 areas = ledgerH (areasStopped (acqReported s h 2) h areas) h 0x0F04 (p4s [areas, 1]) := by
    simp [acqCmd, hst, acqReported, areasStopped]
  refine ⟨_, congrArg Host.Outcome.next ((access_of_alive hal _).trans hcmd), ?_, fun a ha hbit => ?_⟩
  · rw [status_ledgerH, rd_areasStopped (by decide) (by decide), status_acqReported]
  · rw [areaRun_ledgerH]
    exact areasStopped_spec ha hbit

theorem acqStart_spec (hal : alive s h = true) (hst : acqStatus s h 3 areas = 0x02) (hmode : modeOf s h ≠ mLAYUP) :
    Completes (.acqStart h areas) s fun t => rd t h Reg.ACQ_RESULT_STATUS = 0x02 ∧
      ∀ a < 8, bit areas a = true → (areaRun s h a).state = 0 → (areaRun t h a).state = 1 := by
  have hcmd : acqCmd s h 3 areas = ledgerH (areasStarted (acqReported s h 3) h areas) h 0x0F04 (p4s [areas, 2]) := by
    simp [acqCmd, hst, acqReported, areasStarted]
  refine ⟨_, congrArg Host.Outcome.next ((access_of_alive hal _).trans hcmd), ?_, fun a ha hbit hrun => ?_⟩
  · rw [status_ledgerH, rd_areasStarted (by decide) (by decide) (by decide), status_acqReported]
  · rw [areaRun_ledgerH]
    refine areasStarted_spec ha hbit ?_ ?_ ?_
    · rw [areaRec_acqReported]
      exact areaRec_of_acqStatus hst ha hbit
    · rw [areaRun_acqReported]
      exact hrun
    · rw [modeOf, acqReported, rd_result_addr _ _ _ _ _ _ _ _ _ (by decide) (by decide) (by decide)]
      exact hmode

end AcqCmd

/-! ### Closes, measurements and the selector (R544, R557, R558, R570) -/

section Segments

variable {s : State} {h : HalfId} {a : Nat} {ar : AreaRec}

/-- A closed segment's area arms again under the next SEQ; what the close shows stays. -/
theorem closed_and_armed (extra : Nat) (ha : a < 8) {i : Image} (har : areaRec s h a = some ar)
    (himg : (half s h).image = some i) (hseq : (areaRun s h a).seq < 2 ^ 32) :
    rd (armArea (closeSegment s h a extra) h a) h (Reg.ACQ_ASEQ_SEQ a) = (areaRun s h a).seq ∧
    (areaRun (armArea (closeSegment s h a extra) h a) h a).state = 1 ∧
    (areaRun (armArea (closeSegment s h a extra) h a) h a).seq = ((areaRun s h a).seq + 1) % 2 ^ 32 ∧
    rd (armArea (closeSegment s h a extra) h a) h (Reg.ACQ_ALAST_FLAGS a) = closeFlags s h i ar a extra % 2 ^ 16 := by
  obtain ⟨hnext, -, hshown, hflags⟩ := closeSegment_spec extra ha har himg
  have har' : areaRec (closeSegment s h a extra) h a = some ar :=
    (areaRec_of_keeps (keeps_closeSegment h a extra (by decide) (Keeps.refl 0x260001208000 s)) (by decide) h a).trans har
  obtain ⟨hstate, hsame⟩ := armArea_spec har'
  have hseqKey : (Reg.ACQ_ASEQ_SEQ a).key = 0xF0108 + a * 32 := instKey_of_lt ha
  have hlastKey : (Reg.ACQ_ALAST_FLAGS a).key = 0xF010C + a * 32 := instKey_of_lt ha
  have hlostKey : (Reg.ACQ_ALOST_NOT_COMMITTED a).key = 0xF0110 + a * 32 := instKey_of_lt ha
  have harm (e : Fld) (he : e.key = 0xF0108 + a * 32 ∨ e.key = 0xF010C + a * 32) :
      rd (armArea (closeSegment s h a extra) h a) h e = rd (closeSegment s h a extra) h e := by
    refine rd_armArea ?_ ?_ ?_
    · simp only [keyBlock]
      omega
    · rw [hlostKey]
      omega
    · omega
  exact ⟨(harm _ (Or.inl hseqKey)).trans (hshown.trans (Nat.mod_eq_of_lt hseq)), hstate, hsame.trans hnext,
    (harm _ (Or.inr hlastKey)).trans hflags⟩

theorem segmentClose_spec (ha : a < 8) (har : areaRec s h a = some ar) (hrun : (areaRun s h a).state = 2)
    (hseq : (areaRun s h a).seq < 2 ^ 32) (hpost : (areaRun s h a).postLeft = 0) : Completes (.segmentClose h a) s fun t =>
      rd t h (Reg.ACQ_ASEQ_SEQ a) = (areaRun s h a).seq ∧ (areaRun t h a).state = 1 ∧
      (areaRun t h a).seq = ((areaRun s h a).seq + 1) % 2 ^ 32 := by
  obtain ⟨i, himg⟩ := image_of_areaRec har
  obtain ⟨hshown, hstate, hnext, -⟩ := closed_and_armed 0 ha har himg hseq
  exact ⟨_, congrArg Host.Outcome.next (if_pos ⟨hrun, hpost⟩), hshown, hstate, hnext⟩

/-- TRUNCATED is among the flags that an overlong segment closes with. -/
theorem truncated_closeFlags (s : State) (h : HalfId) (i : Image) (ar : AreaRec) (a : Nat) :
    bit (closeFlags s h i ar a fTRUNCATED % 2 ^ 16) 4 = true := by
  rw [bit_mod_two_pow _ (by decide), closeFlags, fTRUNCATED, bit_eq_testBit]
  simp only [Nat.testBit_or, Bool.or_eq_true]
  exact Or.inl (Or.inl (Or.inr (by decide)))

theorem segmentMaxLen_spec (ha : a < 8) (har : areaRec s h a = some ar) (hrun : (areaRun s h a).state = 2)
    (hseq : (areaRun s h a).seq < 2 ^ 32) (hlen : ar.maxLen ≤ (areaRun s h a).preActual + (areaRun s h a).postDone) :
    Completes (.segmentMaxLen h a) s fun t => rd t h (Reg.ACQ_ASEQ_SEQ a) = (areaRun s h a).seq ∧
      (areaRun t h a).state = 1 ∧ bit (rd t h (Reg.ACQ_ALAST_FLAGS a)) 4 = true := by
  obtain ⟨i, himg⟩ := image_of_areaRec har
  obtain ⟨hshown, hstate, -, hflags⟩ := closed_and_armed fTRUNCATED ha har himg hseq
  have hexec : exec (.segmentMaxLen h a) s = .next (armArea (closeSegment s h a fTRUNCATED) h a) := by
    change execSegmentMaxLen h a s = _
    simp [execSegmentMaxLen, har, hrun, hlen]
  exact ⟨_, hexec, hshown, hstate, by rw [hflags, truncated_closeFlags]⟩

theorem measurementsDone_spec {g : Segment} (har : (areaRec s h a).isSome = true) (hg : unmeasured s h a = some g) :
    Completes (.measurementsDone h a) s fun t => nget (half t h).acq.measSeq a = g.seq + 1 ∧
      ∀ x ∈ (half t h).acq.segs, x.area = a → x.seq = g.seq → x.measured = true := by
  obtain ⟨ar, har⟩ := Option.isSome_iff_exists.mp har
  obtain ⟨i, himg⟩ := image_of_areaRec har
  refine ⟨measureSegment s h a, rfl, ?_⟩
  simp only [measureSegment, har, himg, hg, modAcq, half_setHalf_same, nget_nset_same, true_and]
  intro x hx harea hseq
  obtain ⟨y, -, rfl⟩ := List.mem_map.mp hx
  by_cases hy : y.area = a ∧ y.seq = g.seq
  · rw [if_pos hy]
  · rw [if_neg hy] at harea hseq
    exact absurd ⟨harea, hseq⟩ hy

/-- The selector as a write of it leaves it. -/
def selectorWritten (s : State) (h : HalfId) (v : Nat) : State :=
  wr (wr s h Reg.ACQ_MSEL_AREA (bits v 10 8)) h Reg.ACQ_MSEL_ENTRY (bits v 4 0)

theorem selectorWritten_spec (s : State) (h : HalfId) (v : Nat) :
    rd (selectorWritten s h v) h Reg.ACQ_MSEL_AREA = v / 2 ^ 8 % 8 ∧
    rd (selectorWritten s h v) h Reg.ACQ_MSEL_ENTRY = v % 2 ^ 5 := by
  refine ⟨?_, (rd_wr_same' _ _ _ _ (by decide) (by decide) (bits_lt v 4 0)).trans (by simp [bits])⟩
  rw [selectorWritten, rd_wr_disjoint _ _ Reg.ACQ_MSEL_ENTRY Reg.ACQ_MSEL_AREA _ rfl (by decide) (by decide) (by decide)
    (by decide)]
  exact rd_wr_same' _ _ _ _ (by decide) (by decide) (bits_lt v 10 8)

/-- Latching the selected words leaves the selector. -/
theorem msel_latchMeas (s : State) (h : HalfId) {e : Fld} (he : e.key = 0xF0040) : rd (latchMeas s h) h e = rd s h e := by
  have hdata (t : State) (m v : Nat) : rd (wr t h (Reg.ACQ_MDATA_VALUE m) v) h e = rd t h e := by
    refine rd_wr_addr _ _ _ _ _ _ ?_
    rw [he]
    simp only [Reg.ACQ_MDATA_VALUE, instKey, nowhere]
    split <;> omega
  exact (foldl_unchanged (fun t => rd t h e) (fun t m => hdata t m _) _ _).trans
    (rd_wr_addr _ _ _ _ _ _ (by rw [he]; decide))

theorem acqMselWrite_spec (v : Nat) (hal : alive s h = true) : Completes (.acqMselWrite h v) s fun t =>
    rd t h Reg.ACQ_MSEL_AREA = v / 2 ^ 8 % 8 ∧ rd t h Reg.ACQ_MSEL_ENTRY = v % 2 ^ 5 ∧
    ∀ ar, areaRec s h (v / 2 ^ 8 % 8) = some ar → v % 2 ^ 5 < ar.c → nget (half s h).acq.measSeq (v / 2 ^ 8 % 8) ≠ 0 →
      ∀ m < 16, rd t h (Reg.ACQ_MDATA_VALUE m) =
        nget (half s h).acq.meas ((v / 2 ^ 8 % 8) * 512 + (v % 2 ^ 5) * 16 + m) % 2 ^ 32 := by
  obtain ⟨harea, hentry⟩ := selectorWritten_spec s h v
  refine ⟨latchMeas (selectorWritten s h v) h, congrArg Host.Outcome.next (access_of_alive hal _),
    (msel_latchMeas _ _ rfl).trans harea, (msel_latchMeas _ _ rfl).trans hentry, fun ar har hlt hmeas => ?_⟩
  have hhalf : half (selectorWritten s h v) h = half s h := by simp [selectorWritten]
  have hrec : areaRec (selectorWritten s h v) h (v / 2 ^ 8 % 8) = some ar := by
    simpa only [areaRec, hhalf] using har
  have hspec := latchMeas_spec (s := selectorWritten s h v) (ar := ar) (by rw [harea]; exact hrec)
    (by rw [harea, hhalf]; exact hmeas) (by rw [hentry]; exact hlt)
  rw [harea, hentry, hhalf] at hspec
  exact hspec.2

end Segments

section WaitingTrigger

variable {s : State} {h : HalfId} {areas kind index inst : Nat}

theorem exec_recorderTrigger_given
    (hdue : (half s h).dec.due.find? (fun d => d.2.1 == kind && d.2.2.1 == index) = none) :
    exec (.recorderTrigger h areas kind index inst) s = .next (triggerAreas s h areas kind index inst 0) := by
  change execRecorderTrigger h areas kind index inst s = _
  simp only [execRecorderTrigger, hdue]

theorem exec_recorderTrigger_waiting {d : Nat × Nat × Nat × Nat}
    (hdue : (half s h).dec.due.find? (fun d => d.2.1 == kind && d.2.2.1 == index) = some d) :
    exec (.recorderTrigger h areas kind index inst) s = .next (triggerAreas (modDec s h fun x => { x with
      due := (half s h).dec.due.erase d }) h d.1 kind index d.2.2.2 0) := by
  change execRecorderTrigger h areas kind index inst s = _
  simp only [execRecorderTrigger, hdue]

end WaitingTrigger

/-- Settles O45: each command by what it does to its own area's run, and the frame of the other areas' steps. -/
theorem recorderCommands : Obligations.RecorderCommands := by
  refine ⟨fun h areas kind index inst a s ha har hrun hpf => ⟨fun hdue hbit => ?_, fun d hdue hbit => ?_⟩,
    fun h a ar s ha har hrun hseq => ⟨fun hpost => segmentClose_spec ha har hrun hseq hpost,
      fun hlen => segmentMaxLen_spec ha har hrun hseq hlen⟩,
    fun h a g s har hg => measurementsDone_spec har hg,
    fun h areas s hal => ⟨fun hst hpf => acqTrigger_spec hal hst hpf, fun hst => acqStop_spec hal hst,
      fun hst hmode => acqStart_spec hal hst hmode⟩,
    fun h v s hal => acqMselWrite_spec v hal, fun h s => ⟨⟨_, rfl, ?_⟩, ⟨_, rfl, ?_⟩⟩⟩
  · exact ⟨_, exec_recorderTrigger_given hdue, triggerAreas_spec ha hbit har hrun hpf _ _ _ _⟩
  · have hk : Keeps 0x2000000000000 s (modDec s h fun x => { x with due := (half s h).dec.due.erase d }) :=
      keeps_modDec h _ (by decide) (Keeps.refl _ s)
    refine ⟨_, exec_recorderTrigger_waiting hdue, triggerAreas_spec ha hbit ?_ ?_ ?_ _ _ _ _⟩
    · rw [areaRec_of_keeps hk (by decide)]
      exact har
    · rw [areaRun_of_keeps hk (by decide)]
      exact hrun
    · rw [hk.rdB h _ (by decide) (by decide)]
      exact hpf
  · exact (congrArg (nget · _) (tally_tallySet s h 12 2 2 0x0F03)).trans (nget_nset_same ..)
  · exact (congrArg (nget · _) (tally_tallySet s h 12 1 0 0x0F01)).trans (nget_nset_same ..)

end Sys2Proof.Machine
end

section
/-!
PROOFS of the statement about the commit job of a segment and the jobs of Crate's host channel.
-/

namespace Sys2Proof.Machine

open Sys2Proof (HalfId Instr)

/-! ### The commit job (R559, R560, R590, R591) -/

section CommitJob

variable {s : State} {h : HalfId} {g : Segment} {ar : AreaRec} {i : Image}

theorem half_modCrt_same (s : State) (h : HalfId) (f : CrateRun → CrateRun) :
    half (modCrt s h f) h = { half s h with crt := f (half s h).crt } := by simp [modCrt]

theorem half_modAcq_same (s : State) (h : HalfId) (f : Recorder → Recorder) :
    half (modAcq s h f) h = { half s h with acq := f (half s h).acq } := by simp [modAcq]

/-- The commit job as its start leaves it. -/
def jobStarted (s : State) (h : HalfId) (i : Image) (ar : AreaRec) (g : Segment) : State :=
  modCrt (modAcq s h fun q => { q with job := some (g.area, g.seq) }) h
    fun c => { c with seg := nativeBytes s h i ar g, pos := 0, out := [], blocks := 0 }

theorem commitJobStart_spec (hg : nextPending s h = some g) (har : areaRec s h g.area = some ar)
    (himg : (half s h).image = some i) (hjob : (half s h).acq.job = none) (hmeas : g.measured = true)
    (hretry : g.retried = false) (hpf : rdB s h Reg.PWR_PF_STAT_PF = false) (hrun : running s h = true) :
    Completes (.commitJobStart h) s fun t => (half t h).acq.job = some (g.area, g.seq) ∧
      (half t h).crt.seg = nativeBytes s h i ar g ∧ (half t h).crt.pos = 0 := by
  have hexec : exec (.commitJobStart h) s = .next (if hasCrate s
      then wrB (jobStarted s h i ar g) h Reg.CRT_STAT_CBUSY true else jobStarted s h i ar g) := by
    change execCommitJobStart h s = _
    simp [execCommitJobStart, hg, har, himg, hjob, hmeas, hretry, hpf, hrun, jobStarted]
  have hhalf : half (if hasCrate s then wrB (jobStarted s h i ar g) h Reg.CRT_STAT_CBUSY true
      else jobStarted s h i ar g) h = half (jobStarted s h i ar g) h := by
    split
    · exact half_wrB ..
    · rfl
  refine ⟨_, hexec, ?_⟩
  beta_reduce
  rw [hhalf]
  simp [jobStarted, half_modCrt_same, half_modAcq_same]

/-- A block of the commit job: its bytes are consumed, and the coded ones added. -/
theorem commitBlock_spec (hg : jobSegment s h = some g) (har : areaRec s h g.area = some ar)
    (himg : (half s h).image = some i) (hpos : (half s h).crt.pos < (half s h).crt.seg.length) :
    (half (commitBlock s h) h).crt.pos = (half s h).crt.pos +
      (segmentBlock (hasCrate s) i ar (half s h).crt.seg (half s h).crt.pos).1 ∧
    (half (commitBlock s h) h).crt.out = (half s h).crt.out ++
      (segmentBlock (hasCrate s) i ar (half s h).crt.seg (half s h).crt.pos).2 := by
  simp only [commitBlock, hg, himg, har, if_neg (Nat.not_le.mpr hpos)]
  split <;> simp [half_modCrt_same]

theorem job_notCommitted (s : State) (h : HalfId) (a c : Nat) :
    (half (notCommitted s h a c) h).acq.job = (half s h).acq.job := by
  have hcount : (half (lossCounted s h a) h).acq = (half s h).acq := (keeps_lossCounted s h a).acq (by decide) h
  have hset (u : State) (r : AreaRun) : (half (setRun u h a r) h).acq.job = (half u h).acq.job := by
    rw [setRun, half_modAcq_same]
  unfold notCommitted
  extract_lets s1 s2 r s3
  have h2 : (half s2 h).acq.job = (half s h).acq.job := congrArg Recorder.job hcount
  split
  · exact (congrArg Recorder.job ((keeps_ledger h _ _ _ (by decide) (Keeps.refl 0x10238401240000 s3)).acq
      (by decide) h)).trans ((hset _ _).trans h2)
  · exact (hset _ _).trans h2

theorem job_ledgerH (s : State) (h : HalfId) (ev : Nat) (bs : List Sys2Proof.Byte) :
    (half (ledgerH s h ev bs) h).acq = (half s h).acq :=
  (keeps_ledgerH h _ _ (by decide) (Keeps.refl 0x10238401240000 s)).acq (by decide) h

theorem job_jobDrop (s : State) (h : HalfId) : (half (jobDrop s h) h).acq.job = none := by
  unfold jobDrop
  split
  · assumption
  · dsimp only
    split <;> simp [half_modCrt_same, half_modAcq_same]

theorem job_commitMemErr (hg : jobSegment s h = some g) : (half (commitMemErr s h) h).acq.job = none := by
  simp only [commitMemErr, hg]
  rw [job_notCommitted, job_ledgerH, job_jobDrop]

end CommitJob

/-! ### The end of the commit job's unit (R559, R560) -/

section CommitEnd

variable {s : State} {h : HalfId} {a q : Nat} {g : Segment}

theorem recUnits_of_store {t : State} (hst : t.store = s.store) : recUnits t h = recUnits s h := by
  cases h <;> simp only [recUnits, hst]

/-- A segment that enters REC is its newest unit, and its SEQ shows as committed. -/
theorem recCommit_spec (s : State) (h : HalfId) (hq : q < 2 ^ 32) (payload : List Sys2Proof.Byte) :
    rd (recCommit s h a q payload) h (Reg.ACQ_ACOMM_SEQ a) = q ∧
    (half (recCommit s h a q payload) h).acq = (half s h).acq ∧
    ∃ u ∈ recUnits (recCommit s h a q payload) h, u.area = a ∧ u.segSeq = q ∧ u.payload = payload := by
  have hshown (u : State) (v : Nat) : rd (wr u h (Reg.ACQ_ACOMM_SEQ a) v) h (Reg.ACQ_ACOMM_SEQ a) = v % 2 ^ 32 :=
    rd_wr_same _ _ _ _ (Nat.zero_le 31) (by decide : 31 < 32)
  have hunits (us : List RecUnit) : recUnits (putRecUnits s h us) h = us := by cases h <;> rfl
  have hputs (us : List RecUnit) : (half (putRecUnits s h us) h).acq = (half s h).acq :=
    (keeps_putRecUnits h us (by decide) (Keeps.refl 0x400000000 s)).acq (by decide) h
  unfold recCommit
  extract_lets us n p kept seq new s1 used
  have hs1 : half s1 h = half (putRecUnits s h new) h := half_satAdd ..
  have hstore : recUnits (wr (wr s1 h Reg.ACQ_REC_USED (4 * used)) h (Reg.ACQ_ACOMM_SEQ a) q) h = new :=
    (recUnits_of_store rfl).trans (hunits new)
  refine ⟨(hshown _ _).trans (Nat.mod_eq_of_lt hq), ?_, ?_⟩
  · rw [half_wr, half_wr, hs1, hputs]
  · rw [hstore]
    exact ⟨_, List.mem_append_right _ (List.mem_singleton.mpr rfl), rfl, rfl, rfl⟩

variable (hjob : (half s h).acq.job = some (a, q)) (hg : jobSegment s h = some g)
  (hdone : (half s h).crt.seg.length ≤ (half s h).crt.pos)

include hjob hg hdone

theorem commitEnd_written (status : Nat) :
    commitEnd s h true status = tallySet (recCommit (jobDrop s h) h a q (half s h).crt.out) h 12 2 0 0x0F03 := by
  simp [commitEnd, hjob, hg, Nat.not_lt.mpr hdone]

theorem commitEnd_first_refusal (hretry : g.retried = false) (status : Nat) : commitEnd s h false status =
    modAcq s h fun x => { x with
      segs := x.segs.map fun y => if y.area = a ∧ y.seq = q then { y with retried := true } else y } := by
  simp [commitEnd, hjob, hg, Nat.not_lt.mpr hdone, hretry]

theorem commitEnd_second_refusal (hretry : g.retried = true) (status : Nat) : commitEnd s h false status =
    notCommitted (ledgerH (jobDrop s h) h 0x0F03 (p4s [a, q, status])) h a 2 := by
  simp [commitEnd, hjob, hg, Nat.not_lt.mpr hdone, hretry]

/-- A unit that is written ends the job, and is the segment's. -/
theorem commitEnd_true_spec (ha : a < 8) (hq : q < 2 ^ 32) (status : Nat) :
    (half (commitEnd s h true status) h).acq.job = none ∧
    rd (commitEnd s h true status) h (Reg.ACQ_ACOMM_SEQ a) = q ∧
    ∃ u ∈ recUnits (commitEnd s h true status) h, u.area = a ∧ u.segSeq = q ∧ u.payload = (half s h).crt.out := by
  obtain ⟨hseq, hacq, hunit⟩ := recCommit_spec (jobDrop s h) h (a := a) hq (half s h).crt.out
  rw [commitEnd_written hjob hg hdone]
  have hk := keeps_tallySet h 12 2 0 0x0F03 (by decide)
    (Keeps.refl 0x1023C4012C0000 (recCommit (jobDrop s h) h a q (half s h).crt.out))
  have hkey : keyBlock (Reg.ACQ_ACOMM_SEQ a).key = 15 := by
    simp only [Reg.ACQ_ACOMM_SEQ, instKey_of_lt ha, keyBlock]
    omega
  refine ⟨?_, (hk.rd h _ (by rw [hkey]; decide) (by rw [hkey]; decide)).trans hseq, ?_⟩
  · rw [hk.acq (by decide) h, hacq, job_jobDrop]
  · have hsame : recUnits (tallySet (recCommit (jobDrop s h) h a q (half s h).crt.out) h 12 2 0 0x0F03) h =
        recUnits (recCommit (jobDrop s h) h a q (half s h).crt.out) h := by
      cases h <;> simp [recUnits]
    rw [hsame]
    exact hunit

/-- A first refusal keeps the job, and its segment waits for the retry. -/
theorem commitEnd_false_first (hretry : g.retried = false) (status : Nat) :
    (half (commitEnd s h false status) h).acq.job = some (a, q) ∧
    ∀ y ∈ (half (commitEnd s h false status) h).acq.segs, y.area = a → y.seq = q → y.retried = true := by
  rw [commitEnd_first_refusal hjob hg hdone hretry, half_modAcq_same]
  refine ⟨hjob, fun y hy harea hseq => ?_⟩
  obtain ⟨z, -, rfl⟩ := List.mem_map.mp hy
  by_cases hz : z.area = a ∧ z.seq = q
  · rw [if_pos hz]
  · rw [if_neg hz] at harea hseq
    exact absurd ⟨harea, hseq⟩ hz

theorem commitEnd_false_second (hretry : g.retried = true) (status : Nat) :
    (half (commitEnd s h false status) h).acq.job = none := by
  rw [commitEnd_second_refusal hjob hg hdone hretry, job_notCommitted, job_ledgerH, job_jobDrop]

omit hjob hdone in
theorem exec_commitJobDone_first (hretry : g.retried = false) (ok : Bool) (status : Nat) :
    exec (.commitJobDone h ok status) s = .next (commitEnd s h ok status) := by
  change execCommitJobDone h ok status s = _
  simp [execCommitJobDone, hg, hretry]

omit hjob hdone in
theorem exec_commitRetry_second (hretry : g.retried = true) (ok : Bool) (status : Nat) :
    exec (.commitRetry h ok status) s = .next (commitEnd s h ok status) := by
  change execCommitRetry h ok status s = _
  simp [execCommitRetry, hg, hretry]

end CommitEnd

/-! ### The host channel's jobs (R585 to R596) -/

section HostJob

variable {s : State} {h : HalfId} {j : CrateJob}

/-- A job that ends is gone, and its status and the channel's state show it. -/
theorem jobEnd_spec (s : State) (h : HalfId) {st : Nat} (hst : st < 256) : (half (jobEnd s h st) h).crt.job = none ∧
    rd (jobEnd s h st) h Reg.CRT_RESULT_STATUS = st ∧ rd (jobEnd s h st) h Reg.CRT_STAT_HSTATE = 3 := by
  refine ⟨?_, rd_result_status_of_lt _ h _ _ _ _ (by decide) (by decide) hst, ?_⟩
  · simp [jobEnd, crtResult, half_modCrt_same]
  · refine (rd_result_addr _ _ _ _ _ _ _ _ _ (by decide) (by decide) (by decide)).trans ?_
    exact rd_wr_same' _ _ _ _ (by decide) (by decide) (by decide)

theorem rd_jobEnd {st : Nat} {e : Fld} (hs : e.key % 0x100000000 ≠ 0x100010) (hr : e.key % 0x100000000 ≠ 0x100018) :
    rd (jobEnd s h st) h e = rd s h e :=
  (rd_result_addr _ _ _ _ _ _ _ _ _ hr hr hr).trans ((rd_wr_addr _ _ _ _ _ _ hs).trans (rd_setHalf ..))

/-- The job's progress as it is shown. -/
theorem jobShow_spec (s : State) (h : HalfId) (j : CrateJob) : (half (jobShow s h j) h).crt.job = some j ∧
    rd (jobShow s h j) h Reg.CRT_IN_CONSUMED_COUNT = j.consumed % 2 ^ 32 := by
  refine ⟨by simp [jobShow, half_modCrt_same], (rd_setHalf ..).trans ?_⟩
  rw [rd_wr_addr _ _ _ _ _ _ (by decide)]
  exact rd_wr_same _ _ _ _ (by decide) (by decide)

theorem consumed_jobBoundary (s : State) (h : HalfId) (j : CrateJob) :
    rd (jobBoundary s h j) h Reg.CRT_IN_CONSUMED_COUNT = j.consumed % 2 ^ 32 := by
  obtain ⟨-, hshown⟩ := jobShow_spec s h j
  unfold jobBoundary
  dsimp only
  split
  · exact (rd_jobEnd (by decide) (by decide)).trans hshown
  · split
    · exact (rd_jobEnd (by decide) (by decide)).trans hshown
    · split
      · exact (rd_result_addr _ _ _ _ _ _ _ _ _ (by decide) (by decide) (by decide)).trans
          ((rd_wr_addr _ _ _ _ _ _ (by decide)).trans hshown)
      · exact (rd_wr_addr _ _ _ _ _ _ (by decide)).trans hshown

/-- What a job needs depends on its spaces alone. -/
theorem needSpace_of_spaces {t : State} (hst : t.store = s.store) (hmem : (half t h).acq.mem = (half s h).acq.mem)
    (hsram : (half t h).crt.sram = (half s h).crt.sram) (j : CrateJob) : needSpace t h j = needSpace s h j := by
  have hbyte : recByte t h = recByte s h := by
    funext x
    simp only [recByte, recUnits_of_store hst]
  have hsource : jobSource t h j = jobSource s h j := by simp only [jobSource, spaceBytes, hbyte, hmem, hsram]
  simp only [needSpace, hsource]

theorem needSpace_of_half {t : State} (hst : t.store = s.store) (hhalf : half t h = half s h) (j : CrateJob) :
    needSpace t h j = needSpace s h j := needSpace_of_spaces hst (by rw [hhalf]) (by rw [hhalf]) j

theorem needSpace_jobShow (s : State) (h : HalfId) (j : CrateJob) : needSpace (jobShow s h j) h j = needSpace s h j :=
  needSpace_of_spaces (by simp [jobShow, modCrt]) (by simp [jobShow, half_modCrt_same])
    (by simp [jobShow, half_modCrt_same]) j

/-- A job that has bytes left goes on at its boundary, or stops for space. -/
theorem jobBoundary_goes_on (hleft : j.consumed < j.len) (habort : j.aborting = false) :
    (half (jobBoundary s h j) h).crt.job = some j ∧
    (needSpace s h j = false → rd (jobBoundary s h j) h Reg.CRT_STAT_HSTATE = 1 ∧
      rd (jobBoundary s h j) h Reg.CRT_RESULT_STATUS = rd s h Reg.CRT_RESULT_STATUS) ∧
    (needSpace s h j = true → rd (jobBoundary s h j) h Reg.CRT_STAT_HSTATE = 2 ∧
      rd (jobBoundary s h j) h Reg.CRT_RESULT_STATUS = 0x30) := by
  have hboundary : jobBoundary s h j = if needSpace s h j
      then crtResult (wr (jobShow s h j) h Reg.CRT_STAT_HSTATE 2) h 0 0x30
      else wr (jobShow s h j) h Reg.CRT_STAT_HSTATE 1 := by
    simp [jobBoundary, Nat.not_le.mpr hleft, habort, needSpace_jobShow]
  have hstatus : rd (jobShow s h j) h Reg.CRT_RESULT_STATUS = rd s h Reg.CRT_RESULT_STATUS := by
    refine (rd_setHalf ..).trans ?_
    rw [rd_wr_addr _ _ _ _ _ _ (by decide), rd_wr_addr _ _ _ _ _ _ (by decide)]
  rw [hboundary]
  refine ⟨?_, fun hroom => ?_, fun hfull => ?_⟩
  · split <;> simp [crtResult, (jobShow_spec s h j).1]
  · rw [if_neg (by simp [hroom])]
    exact ⟨rd_wr_same' _ _ _ _ (by decide) (by decide) (by decide),
      (rd_wr_addr _ _ _ _ _ _ (by decide)).trans hstatus⟩
  · rw [if_pos hfull]
    refine ⟨?_, rd_result_status_of_lt _ h _ _ _ _ (by decide) (by decide) (by decide)⟩
    exact (rd_result_addr _ _ _ _ _ _ _ _ _ (by decide) (by decide) (by decide)).trans
      (rd_wr_same' _ _ _ _ (by decide) (by decide) (by decide))

theorem jobFail_spec (s : State) (h : HalfId) (j : CrateJob) {st : Nat} (hst : st < 256) (off : Nat) :
    (half (jobFail s h j st off 0) h).crt.job = none ∧ rd (jobFail s h j st off 0) h Reg.CRT_RESULT_STATUS = st ∧
    rd (jobFail s h j st off 0) h Reg.CRT_STAT_HSTATE = 3 := jobEnd_spec _ h hst

/-! ### CRT_CMD (R595) -/

theorem consumed_jobOf (s : State) (h : HalfId) : (jobOf s h).consumed = 0 := rfl
theorem aborting_jobOf (s : State) (h : HalfId) : (jobOf s h).aborting = false := rfl

/-- A command of the host channel as it is reported accepted. -/
def crtAccepted (s : State) (h : HalfId) (c : Nat) : State := crtResult s h c 0x01

theorem half_crtAccepted (c : Nat) : half (crtAccepted s h c) h = half s h := half_result ..

theorem status_crtAccepted (c : Nat) : rd (crtAccepted s h c) h Reg.CRT_RESULT_STATUS = 0x01 :=
  rd_result_status_of_lt _ h _ _ _ _ (by decide) (by decide) (by decide)

theorem unitAccess_of_alive {fitted : Bool} (hal : alive s h = true) (hfit : fitted = true) (t : State) :
    unitAccess s h fitted t = t := by
  rw [unitAccess, access_of_alive hal, if_pos hfit]

variable (hal : alive s h = true) (hcrate : hasCrate s = true)

include hal hcrate

/-- START's job, before its first boundary. -/
def startReady (s : State) (h : HalfId) : State :=
  wr (wr (crtAccepted s h 1) h Reg.CRT_ERRPOS_BLOCK 0) h Reg.CRT_ERRPOS_OFFSET 0

omit hal hcrate in
theorem needSpace_startReady (s : State) (h : HalfId) (j : CrateJob) :
    needSpace (startReady s h) h j = needSpace s h j :=
  needSpace_of_half ((wr_store ..).trans ((wr_store ..).trans (store_result ..)))
    ((half_wr ..).trans ((half_wr ..).trans (half_crtAccepted 1))) j

omit hal hcrate in
theorem status_startReady (s : State) (h : HalfId) : rd (startReady s h) h Reg.CRT_RESULT_STATUS = 0x01 := by
  rw [startReady, rd_wr_addr _ _ _ _ _ _ (by decide), rd_wr_addr _ _ _ _ _ _ (by decide), status_crtAccepted]

theorem exec_crtStart_accepted (fw : Bool) (hst : crtStatus s h 1 fw = 0x01) :
    exec (.crtStart h fw) s = .next (jobBoundary (startReady s h) h (jobOf s h)) := by
  refine congrArg Host.Outcome.next ((unitAccess_of_alive hal hcrate _).trans ?_)
  simp [crtCmd, hcrate, hst, crtAccepted, startReady]

theorem crtStart_spec (fw : Bool) (hst : crtStatus s h 1 fw = 0x01) (hlen : 0 < (jobOf s h).len) :
    Completes (.crtStart h fw) s fun t => (half t h).crt.job = some (jobOf s h) ∧
      (needSpace s h (jobOf s h) = false → rd t h Reg.CRT_STAT_HSTATE = 1 ∧ rd t h Reg.CRT_RESULT_STATUS = 0x01) ∧
      (needSpace s h (jobOf s h) = true → rd t h Reg.CRT_STAT_HSTATE = 2 ∧ rd t h Reg.CRT_RESULT_STATUS = 0x30) := by
  obtain ⟨hjob, hroom, hfull⟩ := jobBoundary_goes_on (s := startReady s h) (h := h) (j := jobOf s h)
    (by rw [consumed_jobOf]; exact hlen) (aborting_jobOf s h)
  rw [needSpace_startReady, status_startReady] at hroom
  rw [needSpace_startReady] at hfull
  exact ⟨_, exec_crtStart_accepted hal hcrate fw hst, hjob, hroom, hfull⟩

theorem crtResume_spec (fw : Bool) (hst : crtStatus s h 2 fw = 0x01) (hjob : (half s h).crt.job = some j)
    (hleft : j.consumed < j.len) (habort : j.aborting = false) : Completes (.crtResume h fw) s fun t =>
      (half t h).crt.job =
        some { j with dst := rd s h Reg.CRT_JDST_ADDR, cap := rd s h Reg.CRT_JCAP_CAP, produced := 0 } := by
  have hcmd : crtCmd s h 2 fw = jobBoundary (crtAccepted s h 2) h
      { j with dst := rd s h Reg.CRT_JDST_ADDR, cap := rd s h Reg.CRT_JCAP_CAP, produced := 0 } := by
    simp [crtCmd, hcrate, hst, hjob, crtAccepted]
  obtain ⟨hspec, -⟩ := jobBoundary_goes_on (s := crtAccepted s h 2) (h := h) (j := { j with
    dst := rd s h Reg.CRT_JDST_ADDR, cap := rd s h Reg.CRT_JCAP_CAP, produced := 0 }) hleft habort
  exact ⟨_, congrArg Host.Outcome.next ((unitAccess_of_alive hal hcrate _).trans hcmd), hspec⟩

theorem crtAbort_stopped (hst : crtStatus s h 3 false = 0x01) (hjob : (half s h).crt.job = some j)
    (hstate : rd s h Reg.CRT_STAT_HSTATE = 2) : Completes (.crtAbort h) s fun t =>
      (half t h).crt.job = none ∧ rd t h Reg.CRT_RESULT_STATUS = 0x19 := by
  have hcmd : crtCmd s h 3 false = jobEnd (crtAccepted s h 3) h 0x19 := by
    simp [crtCmd, hcrate, hst, hjob, hstate, crtAccepted]
  obtain ⟨hnone, hstat, -⟩ := jobEnd_spec (crtAccepted s h 3) h (st := 0x19) (by decide)
  exact ⟨_, congrArg Host.Outcome.next ((unitAccess_of_alive hal hcrate _).trans hcmd), hnone, hstat⟩

theorem crtAbort_running (hst : crtStatus s h 3 false = 0x01) (hjob : (half s h).crt.job = some j)
    (hstate : rd s h Reg.CRT_STAT_HSTATE ≠ 2) : Completes (.crtAbort h) s fun t =>
      (half t h).crt.job = some { j with aborting := true } ∧ rd t h Reg.CRT_RESULT_STATUS = 0x01 := by
  have hcmd : crtCmd s h 3 false = modCrt (crtAccepted s h 3) h
      fun x => { x with job := some { j with aborting := true } } := by
    simp [crtCmd, hcrate, hst, hjob, hstate, crtAccepted]
  refine ⟨_, congrArg Host.Outcome.next ((unitAccess_of_alive hal hcrate _).trans hcmd), ?_, ?_⟩
  · rw [half_modCrt_same]
  · exact (rd_setHalf ..).trans (status_crtAccepted 3)

omit hal in
/-- A block of the running host job: of a compress job it consumes its bytes, and a source error ends any. -/
theorem crateBlockDone_host (hjob : (half s h).crt.job = some j) (hstate : rd s h Reg.CRT_STAT_HSTATE = 1)
    (choice : List Sys2Proof.Byte) :
    (j.op = 1 → Completes (.crateBlockDone h false false choice) s fun t =>
      rd t h Reg.CRT_IN_CONSUMED_COUNT = (j.consumed + jobCut j) % 2 ^ 32) ∧
    Completes (.crateBlockDone h false true choice) s fun t =>
      (half t h).crt.job = none ∧ rd t h Reg.CRT_RESULT_STATUS = 0x37 ∧ rd t h Reg.CRT_STAT_HSTATE = 3 := by
  have hexec (memErr : Bool) : exec (.crateBlockDone h false memErr choice) s = .next (hostBlock s h choice memErr) := by
    change execCrateBlockDone h false memErr choice s = _
    simp [execCrateBlockDone, hcrate]
  refine ⟨fun hop => ⟨_, hexec false, ?_⟩, _, hexec true, ?_⟩
  · have hblock : hostBlock s h choice false = compressBlock s h j choice := by
      simp [hostBlock, hjob, hstate, hop]
    rw [hblock]
    exact consumed_jobBoundary _ h _
  · have hblock : hostBlock s h choice true = jobFail s h j 0x37 0 0 := by
      simp [hostBlock, hjob, hstate]
    rw [hblock]
    exact jobFail_spec s h j (by decide) 0

end HostJob

/-- Settles O46: the commit job by its start, blocks and end, the host channel by its job's boundaries and ends. -/
theorem commitAndCrateCommands : Obligations.CommitAndCrateCommands := by
  refine ⟨fun h g ar i s hg har himg hjob hmeas hretry hpf hrun =>
      commitJobStart_spec hg har himg hjob hmeas hretry hpf hrun,
    fun h g ar i choice s hg har himg => ⟨fun hpos => ⟨_, rfl, commitBlock_spec hg har himg hpos⟩,
      ⟨_, rfl, job_commitMemErr hg⟩⟩,
    fun h j choice s hcrate hjob hstate => crateBlockDone_host hcrate hjob hstate choice,
    fun h a q g status s ha hq hjob hg hdone => ⟨fun c hc => ?_, fun hretry => ?_, fun hretry => ?_⟩,
    fun h fw s hal hcrate hst hlen => crtStart_spec hal hcrate fw hst hlen,
    fun h fw j s hal hcrate hst hjob hleft habort => crtResume_spec hal hcrate fw hst hjob hleft habort,
    fun h j s hal hcrate hst hjob => ⟨crtAbort_stopped hal hcrate hst hjob, crtAbort_running hal hcrate hst hjob⟩⟩
  · have hspec := commitEnd_true_spec hjob hg hdone ha hq status
    rcases hc with ⟨rfl, hretry⟩ | ⟨rfl, hretry⟩
    · exact ⟨_, exec_commitJobDone_first hg hretry true status, hspec⟩
    · exact ⟨_, exec_commitRetry_second hg hretry true status, hspec⟩
  · exact ⟨_, exec_commitJobDone_first hg hretry false status, commitEnd_false_first hjob hg hdone hretry status⟩
  · exact ⟨_, exec_commitRetry_second hg hretry false status, commitEnd_false_second hjob hg hdone hretry status⟩

end Sys2Proof.Machine
end

section
/-!
PROOFS. TIME_CTRL, TIME_SLEW, PTP, PPS and the clock of the time base (R638 to R650): what becoming synchronised, a load and
the schedule entries after it leave of the time base's registers.
-/

namespace Sys2Proof.Machine

open Sys2Proof (HalfId Instr)

/-! ### The registers beside the schedule entries -/

/-- A field of the registers of the time base itself, before its schedule entries. -/
def TimeBaseField (f : Fld) : Prop := 0x30000 ≤ f.key ∧ f.key < 0x30080

/-- The time value and the fields of the time base stay. -/
structure KeepsTimeBase (s t : State) : Prop where
  now : now t = now s
  rd : ∀ f, TimeBaseField f → rd t .a f = rd s .a f

theorem KeepsTimeBase.refl (s : State) : KeepsTimeBase s s := ⟨rfl, fun _ _ => rfl⟩

theorem KeepsTimeBase.trans {s t u : State} (h₁ : KeepsTimeBase s t) (h₂ : KeepsTimeBase t u) : KeepsTimeBase s u :=
  ⟨h₂.now.trans h₁.now, fun f hf => (h₂.rd f hf).trans (h₁.rd f hf)⟩

theorem TimeBaseField.block {f : Fld} (hf : TimeBaseField f) : keyBlock f.key = 3 := by
  obtain ⟨hlo, hhi⟩ := hf
  unfold keyBlock
  omega

/-- What neither the time base's registers nor its generator may change keeps both. -/
theorem KeepsTimeBase.of_keeps {m : Nat} {s t : State} (hk : Keeps m s t) (hblock : m.testBit 3 = false)
    (htime : m.testBit 30 = false) : KeepsTimeBase s t :=
  ⟨hk.now htime, fun f hf => hk.rd .a f (by rw [hf.block]; decide) (by rw [hf.block]; exact hblock)⟩

theorem keepsTimeBase_wr (s : State) (h : HalfId) (f : Fld) (v : Nat) (hf : 0x30080 ≤ f.key % 0x100000000) :
    KeepsTimeBase s (wr s h f v) :=
  ⟨rfl, fun e ⟨_, hlt⟩ => rd_wr_addr s h .a f e v (by omega)⟩

theorem keepsTimeBase_wrB (s : State) (h : HalfId) (f : Fld) (b : Bool) (hf : 0x30080 ≤ f.key % 0x100000000) :
    KeepsTimeBase s (wrB s h f b) := keepsTimeBase_wr s h f _ hf

/-- A register of schedule entry `e` stands past those of the time base itself. -/
theorem schedKey_ge {a e : Nat} (ha : 0x30080 ≤ a % 0x100000000) : 0x30080 ≤ (a + e * 0x100000000) % 0x100000000 := by
  rwa [Nat.add_mul_mod_self_right]

/-! ### Schedule entries and the load -/

theorem schedEnd_keepsTimeBase (s : State) (h : HalfId) (e state st : Nat) : KeepsTimeBase s (schedEnd s h e state st) :=
  ((keepsTimeBase_wr s h _ _ (schedKey_ge (by decide))).trans (keepsTimeBase_wr _ h _ _ (schedKey_ge (by decide)))).trans
    (keepsTimeBase_wrB _ h _ _ (schedKey_ge (by decide)))

theorem schedPulse_keepsTimeBase (s : State) (h : HalfId) (us : Nat) : KeepsTimeBase s (schedPulse s h us).1 := by
  unfold schedPulse
  split
  · exact ⟨rfl, fun _ _ => rfl⟩
  · exact .refl s

/-- No action of an entry writes the time base's registers or its time; a pulse only sets its end. -/
theorem schedAct_keepsTimeBase (s : State) (h : HalfId) (e : Nat) (late : Bool) : KeepsTimeBase s (schedAct s h e late).1 := by
  unfold schedAct
  split
  · exact .of_keeps (keeps_stkCmd h 1 1 (by decide) (Keeps.refl 0x10338401744000 s)) (by decide) (by decide)
  · exact .of_keeps (keeps_schedSwitch h _ e (by decide) (Keeps.refl 0x800000001 s)) (by decide) (by decide)
  · exact .of_keeps (keeps_schedTrigger h _ late (by decide) (Keeps.refl 0x10068000008000 s)) (by decide) (by decide)
  · exact .of_keeps (keeps_injStart h _ _ _ _ _ (by decide) (Keeps.refl 0x11238401240040 s)) (by decide) (by decide)
  · exact schedPulse_keepsTimeBase s h _

theorem ledgerH_keepsTimeBase (s : State) (h : HalfId) (ev : Nat) (d) : KeepsTimeBase s (ledgerH s h ev d) :=
  .of_keeps (keeps_ledgerH h ev d (by decide) (Keeps.refl 0x10238401240000 s)) (by decide) (by decide)

theorem schedExecute_keepsTimeBase (s : State) (h : HalfId) (e late : Nat) : KeepsTimeBase s (schedExecute s h e late) := by
  refine .trans ?_ ((schedAct_keepsTimeBase _ h e _).trans (schedEnd_keepsTimeBase _ h e _ _))
  split
  · exact .refl s
  · exact ((keepsTimeBase_wrB s h _ _ (schedKey_ge (by decide))).trans
      (keepsTimeBase_wr _ h _ _ (schedKey_ge (by decide)))).trans (ledgerH_keepsTimeBase _ h _ _)

theorem schedRun_keepsTimeBase (s : State) (h : HalfId) (e : Nat) : KeepsTimeBase s (schedRun s h e) := by
  have hrej : KeepsTimeBase s (schedRejects s h e).2 :=
    .of_keeps (keeps_schedRejects h e (by decide) (Keeps.refl 0x20000000 s)) (by decide) (by decide)
  unfold schedRun
  dsimp only
  split
  · exact schedExecute_keepsTimeBase s h e 0
  · split
    · exact (hrej.trans (schedEnd_keepsTimeBase _ h e _ _)).trans (ledgerH_keepsTimeBase _ h _ _)
    · exact hrej.trans (schedExecute_keepsTimeBase _ h e _)

theorem domainTake_keepsTimeBase (s : State) (h : HalfId) : KeepsTimeBase s (domainTake s h) :=
  .of_keeps (keeps_domainTake h (by decide) (Keeps.refl 0x10238401344000 s)) (by decide) (by decide)

theorem KeepsTimeBase.ite {s t u : State} (c : Prop) [Decidable c] (ht : KeepsTimeBase s t) (hu : KeepsTimeBase s u) :
    KeepsTimeBase s (if c then t else u) := by split <;> assumption

/-- What follows a load in its tick leaves the time and the time base's registers (R651, R653). -/
theorem afterLoad_keepsTimeBase (s : State) : KeepsTimeBase s (afterLoad s) := by
  unfold afterLoad
  dsimp only
  refine foldl_keeps (P := KeepsTimeBase s) (fun t h ht => ht.trans (.ite _ (domainTake_keepsTimeBase t h) (.refl t))) _ ?_
  refine foldl_keeps (P := KeepsTimeBase s) (fun t h ht => ?_) _ (.refl s)
  exact foldl_keeps (P := KeepsTimeBase s) (fun u e hu => hu.trans (.ite _ (schedRun_keepsTimeBase u h e) (.refl u))) _ ht

/-! ### Becoming and ceasing to be synchronised (R645) -/

/-- A field that neither SYNC nor SERVO_STATE shares bits with. -/
def BesideSync (f : Fld) : Prop := TimeBaseField f ∧ (f.key = 0x3001C → f.lo ≤ f.hi ∧ f.hi < 29)

theorem tallySync_keepsTimeBase (s : State) : KeepsTimeBase s (tallySync s) :=
  .of_keeps (keeps_tallySync (by decide) (Keeps.refl 0x1023C4012C0000 s)) (by decide) (by decide)

theorem tallyTime_keepsTimeBase (s : State) (cause code ev : Nat) : KeepsTimeBase s (tallyTime s cause code ev) :=
  .of_keeps (keeps_tallyTime cause code ev (by decide) (Keeps.refl 0x1023C4012C0000 s)) (by decide) (by decide)

theorem ledgerField_keepsTimeBase (s : State) (ev : Nat) (d) : KeepsTimeBase s (ledgerField s ev d) :=
  .of_keeps (keeps_ledgerField ev d (by decide) (Keeps.refl 0x10238401240000 s)) (by decide) (by decide)

/-- A write to TIME_STAT leaves the fields of the time base that share no bit with it. -/
theorem rd_wr_timeStat {e f : Fld} (s : State) (v : Nat) (he : TimeBaseField e) (hfk : f.key = 0x3001C) (hl : f.lo ≤ f.hi)
    (hh : f.hi < 32) (hd : e.key = 0x3001C → e.lo ≤ e.hi ∧ (f.hi < e.lo ∨ e.hi < f.lo)) :
    rd (wr s .a f v) .a e = rd s .a e := by
  obtain ⟨hlo, hhi⟩ := he
  by_cases hk : e.key = 0x3001C
  · exact rd_wr_disjoint s .a f e v (hk.trans hfk.symm) hl (hd hk).1 hh (hd hk).2
  · exact rd_wr_addr s .a .a f e v (by omega)

theorem synced_wr_servoState (s : State) (v : Nat) : synced (wr s .a Reg.TIME_STAT_SERVO_STATE v) = synced s :=
  congrArg (· != 0) (rd_wr_disjoint s .a Reg.TIME_STAT_SERVO_STATE Reg.TIME_STAT_SYNC v rfl (by decide) (by decide) (by decide)
    (.inl (by decide)))

theorem KeepsTimeBase.rdB {s t : State} (hk : KeepsTimeBase s t) (f : Fld) (hf : TimeBaseField f) :
    rdB t .a f = rdB s .a f := congrArg (· != 0) (hk.rd f hf)

theorem timeBaseField_stat {hi lo : Nat} : TimeBaseField ⟨0x3001C, hi, lo⟩ := by unfold TimeBaseField; dsimp only; omega

theorem KeepsTimeBase.synced {s t : State} (hk : KeepsTimeBase s t) : synced t = synced s :=
  hk.rdB Reg.TIME_STAT_SYNC timeBaseField_stat

/-- The state that `setSync` leaves is the one it was asked for. -/
theorem synced_setSync (s : State) (b : Bool) : synced (setSync s b) = b := by
  unfold setSync
  split
  next heq => exact (tallySync_keepsTimeBase s).synced.trans (eq_of_beq heq)
  next =>
    refine (tallySync_keepsTimeBase _).synced.trans ((ledgerField_keepsTimeBase _ _ _).synced.trans ?_)
    have hset : synced (wrB s .a Reg.TIME_STAT_SYNC b) = b := rdB_wrB_same s .a Reg.TIME_STAT_SYNC b rfl (by decide)
    split
    · exact (synced_wr_servoState _ _).trans hset
    · exact hset

theorem now_setSync (s : State) (b : Bool) : now (setSync s b) = now s :=
  (keeps_setSync b (by decide) (Keeps.refl 0x1023C4012C0008 s)).now (by decide)

/-- Besides SYNC and SERVO_STATE no field of the time base changes. -/
theorem rd_setSync_beside (s : State) (b : Bool) {f : Fld} (hf : BesideSync f) : rd (setSync s b) .a f = rd s .a f := by
  obtain ⟨hbase, hbits⟩ := hf
  have hsync : rd (wrB s .a Reg.TIME_STAT_SYNC b) .a f = rd s .a f :=
    rd_wr_timeStat s _ hbase rfl (by decide) (by decide) fun hk => ⟨(hbits hk).1, .inr (by have := (hbits hk).2; change f.hi < 31; omega)⟩
  unfold setSync
  split
  next => exact (tallySync_keepsTimeBase s).rd f hbase
  next =>
    refine ((tallySync_keepsTimeBase _).rd f hbase).trans (((ledgerField_keepsTimeBase _ _ _).rd f hbase).trans ?_)
    split
    · exact (rd_wr_timeStat _ _ hbase rfl (by decide) (by decide) fun hk => ⟨(hbits hk).1, .inr (hbits hk).2⟩).trans hsync
    · exact hsync

theorem BesideSync.of_key {f : Fld} (hf : TimeBaseField f) (hk : f.key ≠ 0x3001C) : BesideSync f := ⟨hf, fun h => absurd h hk⟩

/-- A servo in state 3 (holdover) stays in it while the time base ceases to be synchronised. -/
theorem servoState_setSync_holdover (s : State) (hst : rd s .a Reg.TIME_STAT_SERVO_STATE = 3) (b : Bool) :
    rd (setSync s b) .a Reg.TIME_STAT_SERVO_STATE = 3 := by
  have hsync : rd (wrB s .a Reg.TIME_STAT_SYNC b) .a Reg.TIME_STAT_SERVO_STATE = 3 :=
    (rd_wrB_disj s .a Reg.TIME_STAT_SYNC Reg.TIME_STAT_SERVO_STATE b rfl (by decide) (by decide) (by decide)
      (.inr (by decide))).trans hst
  unfold setSync
  split
  next => exact ((tallySync_keepsTimeBase s).rd _ timeBaseField_stat).trans hst
  next =>
    refine ((tallySync_keepsTimeBase _).rd _ timeBaseField_stat).trans
      (((ledgerField_keepsTimeBase _ _ _).rd _ timeBaseField_stat).trans ?_)
    rw [if_neg (by simp [hsync])]
    exact hsync

theorem now_trySync (s : State) : now (trySync s) = now s := by
  unfold trySync
  split
  · exact now_setSync s true
  · rfl

theorem rd_trySync_beside (s : State) {f : Fld} (hf : BesideSync f) : rd (trySync s) .a f = rd s .a f := by
  unfold trySync
  split
  · exact rd_setSync_beside s true hf
  · rfl

/-! ### Loads, steps and measurements (R642, R644, R650) -/

/-- A field that no load or step writes: beside SYNC, SERVO_STATE and GRID_SLEW. -/
def BesideLoad (f : Fld) : Prop := BesideSync f ∧ (f.key = 0x3001C → f.hi < 27 ∨ 27 < f.lo)

theorem BesideLoad.of_key {f : Fld} (hf : TimeBaseField f) (hk : f.key ≠ 0x3001C) : BesideLoad f :=
  ⟨.of_key hf hk, fun h => absurd h hk⟩

theorem markStep_keepsTimeBase (s : State) (h : HalfId) : KeepsTimeBase s (markStep s h) :=
  .of_keeps (keeps_markStep h (by decide) (Keeps.refl 0x40000000000 s)) (by decide) (by decide)

/-- What a load does after it has dropped the synchronised state: it marks the step and records it. -/
def loadNoted (s : State) (origin : Nat) (d : Int) : State :=
  ledgerField (markStep (markStep s .a) .b) 0x1202 (p4 origin ++ leInt 8 d)

theorem loadNoted_keepsTimeBase (s : State) (origin : Nat) (d : Int) : KeepsTimeBase s (loadNoted s origin d) :=
  ((markStep_keepsTimeBase s .a).trans (markStep_keepsTimeBase _ .b)).trans (ledgerField_keepsTimeBase _ _ _)

/-- A load and what follows it in its tick: the time loaded, no longer synchronised. -/
theorem load_spec (s : State) (t origin : Nat) :
    now (afterLoad (loadBase s t origin)) = t ∧ synced (afterLoad (loadBase s t origin)) = false ∧
      ∀ f, BesideLoad f → rd (afterLoad (loadBase s t origin)) .a f = rd s .a f := by
  obtain ⟨u, hload, hnow, hrd⟩ : ∃ u, loadBase s t origin = loadNoted (setSync u false) origin ((t : Int) - (now s : Int)) ∧
      now u = t ∧ ∀ f, BesideLoad f → rd u .a f = rd s .a f := by
    refine ⟨_, rfl, rfl, fun f hf => ?_⟩
    obtain ⟨hsync, hbits⟩ := hf
    exact rd_wr_timeStat _ _ hsync.1 rfl (by decide) (by decide) fun hk => ⟨(hsync.2 hk).1, (hbits hk).symm⟩
  have hk : KeepsTimeBase (setSync u false) (afterLoad (loadBase s t origin)) := by
    rw [hload]
    exact (loadNoted_keepsTimeBase _ _ _).trans (afterLoad_keepsTimeBase _)
  exact ⟨hk.now.trans ((now_setSync u false).trans hnow), hk.synced.trans (synced_setSync u false), fun f hf =>
    (hk.rd f hf.1.1).trans ((rd_setSync_beside u false hf.1).trans (hrd f hf))⟩

theorem rd_servoSlew (s : State) (f : Fld) : rd (servoSlew s) .a f = rd s .a f := rfl

theorem timeOffset_timeBase : TimeBaseField Reg.TIME_OFFSET_NS := by unfold TimeBaseField; decide

/-- A measurement's own writes: the offset, and no other field beside those of a load. -/
theorem rd_measureBase (s : State) (off : Int) {f : Fld} (hf : BesideLoad f) :
    rd (measureBase s off) .a f = rd (wr s .a Reg.TIME_OFFSET_NS (ofSigned 32 (satSigned 32 off))) .a f := by
  obtain ⟨hsync, -⟩ := hf
  have hstate := fun (u : State) (v : Nat) => rd_wr_timeStat (e := f) (f := Reg.TIME_STAT_SERVO_STATE) u v hsync.1 rfl
    (by decide) (by decide) fun hk => ⟨(hsync.2 hk).1, .inr (hsync.2 hk).2⟩
  unfold measureBase
  dsimp only
  refine (hstate _ _).trans ?_
  split
  · exact rd_setSync_beside _ false hsync
  · rfl

/-- A measurement leaves every field beside those of a load but the offset it measures. -/
theorem rd_measure_of_runs (s : State) (off : Int) (hruns : servoRuns s = true) {f : Fld} (hf : BesideLoad f) :
    rd (measure s off) .a f = rd (wr s .a Reg.TIME_OFFSET_NS (ofSigned 32 (satSigned 32 off))) .a f := by
  unfold measure
  rw [hruns]
  simp only [Bool.not_true, Bool.false_eq_true, if_false]
  refine (rd_trySync_beside _ hf.1).trans (Eq.trans ?_ (rd_measureBase s off hf))
  split
  · exact (load_spec _ _ _).2.2 f hf
  · exact rd_servoSlew _ f

theorem rd_measure_beside (s : State) (off : Int) {f : Fld} (hf : BesideLoad f) (hne : f.key ≠ 0x30040) :
    rd (measure s off) .a f = rd s .a f := by
  cases hruns : servoRuns s
  case false =>
    unfold measure
    rw [hruns]
    rfl
  case true =>
    refine (rd_measure_of_runs s off hruns hf).trans (rd_wr_addr s .a .a _ f _ ?_)
    have hbase := hf.1.1
    obtain ⟨hlo, hhi⟩ := hbase
    change f.key % 0x100000000 ≠ 0x30040
    omega

/-- A measurement of a running servo shows its offset. -/
theorem timeOffset_measure (s : State) (off : Int) (hruns : servoRuns s = true) :
    rd (measure s off) .a Reg.TIME_OFFSET_NS = ofSigned 32 (satSigned 32 off) % 2 ^ 32 :=
  (rd_measure_of_runs s off hruns (.of_key timeOffset_timeBase (by decide))).trans
    (rd_wr_same s .a Reg.TIME_OFFSET_NS _ (by decide) (by decide))

/-! ### TIME_CTRL and TIME_SLEW (R650) -/

/-- The state with a command reported in TIME_RESULT. -/
def timeResult (s : State) (code st : Nat) : State :=
  result s .a Reg.TIME_RESULT_SEQ Reg.TIME_RESULT_CMD Reg.TIME_RESULT_STATUS code st

/-- What an accepted write of TIME_CTRL does. -/
theorem timeCmd_accepted {s : State} {h : HalfId} {code st : Nat} (hst : timeStatus s h code = st) (hok : st = 0x01 ∨ st = 0x02) :
    timeCmd s h code =
      if code = 1 then timeCommit (timeResult s code st)
      else if code = 2 then wrB (timeResult s code st) .a Reg.TIME_STAT_PENDING true
      else if code = 3 then afterLoad (loadBase (timeResult s code st)
        (steppedTime (timeResult s code st) (toSigned 32 (rd s .a Reg.TIME_STEP_NS))) 4)
      else wrB (timeResult s code st) .a Reg.TIME_STAT_PENDING false := by
  have hholder : holderErr (timeResult s code st) h st = timeResult s code st := if_neg (by omega)
  unfold timeCmd
  dsimp only
  rw [hst, if_neg (by omega)]
  change (if code = 1 then timeCommit (holderErr (timeResult s code st) h st) else _) = _
  unfold timeResult at hholder ⊢
  rw [hholder]

theorem rd_timeResult_status (s : State) (code st : Nat) (hst : st < 256) :
    rd (timeResult s code st) .a Reg.TIME_RESULT_STATUS = st :=
  (rd_result_status s .a _ _ _ code st (by decide) (by decide)).trans (Nat.mod_eq_of_lt hst)

theorem rd_timeResult_addr (s : State) (code st : Nat) (f : Fld) (hf : f.key % 0x100000000 ≠ 0x30028) :
    rd (timeResult s code st) .a f = rd s .a f := rd_result_addr s .a .a _ _ _ f code st hf hf hf

theorem timeResultStatus_besideLoad : BesideLoad Reg.TIME_RESULT_STATUS :=
  .of_key (by unfold TimeBaseField; decide) (by decide)

/-- COMMIT (R650). -/
theorem timeCommit_spec {s : State} {h : HalfId} (hal : alive s h = true) (hst : timeStatus s h 1 = 0x02)
    (hns : rd s .a Reg.TIME_SET_NS_NS < 1000000000) :
    Completes (.timeCommit h) s fun t =>
      now t = (rd s .a Reg.TIME_SET_SEC_HI_SEC * 2 ^ 32 + rd s .a Reg.TIME_SET_SEC_LO_SEC) * 1000000000
        + rd s .a Reg.TIME_SET_NS_NS / 8 * 8 ∧ synced t = false ∧ rd t .a Reg.TIME_RESULT_STATUS = 0x02 := by
  have hNs := rd_timeResult_addr s 1 0x02 Reg.TIME_SET_NS_NS (by decide)
  have hLo := rd_timeResult_addr s 1 0x02 Reg.TIME_SET_SEC_LO_SEC (by decide)
  have hHi := rd_timeResult_addr s 1 0x02 Reg.TIME_SET_SEC_HI_SEC (by decide)
  have hstaged : stagedTime (timeResult s 1 0x02) =
      ((rd s .a Reg.TIME_SET_SEC_HI_SEC * 2 ^ 32 + rd s .a Reg.TIME_SET_SEC_LO_SEC) * 1000000000
        + rd s .a Reg.TIME_SET_NS_NS / 8 * 8, timeResult s 1 0x02) := by
    unfold stagedTime
    dsimp only
    rw [hNs, hLo, hHi, if_pos hns]
  have hcmd : timeCmd s h 1 = afterLoad (loadBase (timeResult s 1 0x02)
      ((rd s .a Reg.TIME_SET_SEC_HI_SEC * 2 ^ 32 + rd s .a Reg.TIME_SET_SEC_LO_SEC) * 1000000000
        + rd s .a Reg.TIME_SET_NS_NS / 8 * 8) 2) := by
    rw [timeCmd_accepted hst (.inr rfl), if_pos rfl, timeCommit, hstaged]
  obtain ⟨hnow, hsync, hrd⟩ := load_spec (timeResult s 1 0x02)
    ((rd s .a Reg.TIME_SET_SEC_HI_SEC * 2 ^ 32 + rd s .a Reg.TIME_SET_SEC_LO_SEC) * 1000000000
      + rd s .a Reg.TIME_SET_NS_NS / 8 * 8) 2
  exact ⟨_, congrArg Host.Outcome.next ((access_of_alive hal _).trans hcmd), hnow, hsync,
    (hrd _ timeResultStatus_besideLoad).trans (rd_timeResult_status s 1 0x02 (by decide))⟩

/-- STEP (R650). -/
theorem timeStep_spec {s : State} {h : HalfId} (hal : alive s h = true) (hst : timeStatus s h 3 = 0x02) :
    Completes (.timeStep h) s fun t =>
      now t = steppedTime s (toSigned 32 (rd s .a Reg.TIME_STEP_NS)) ∧ synced t = false ∧
      rd t .a Reg.TIME_RESULT_STATUS = 0x02 := by
  have hstep : steppedTime (timeResult s 3 0x02) = steppedTime s := by
    unfold steppedTime Machine.now
    rw [timeResult, field_result]
  have hcmd := timeCmd_accepted hst (.inr rfl)
  rw [if_neg (by decide), if_neg (by decide), if_pos rfl, hstep] at hcmd
  obtain ⟨hnow, hsync, hrd⟩ := load_spec (timeResult s 3 0x02) (steppedTime s (toSigned 32 (rd s .a Reg.TIME_STEP_NS))) 4
  exact ⟨_, congrArg Host.Outcome.next ((access_of_alive hal _).trans hcmd), hnow, hsync,
    (hrd _ timeResultStatus_besideLoad).trans (rd_timeResult_status s 3 0x02 (by decide))⟩

/-- A write of PENDING leaves the result reported. -/
theorem pending_written (s : State) (code st : Nat) (b : Bool) (hst : st < 256) :
    rdB (wrB (timeResult s code st) .a Reg.TIME_STAT_PENDING b) .a Reg.TIME_STAT_PENDING = b ∧
      rd (wrB (timeResult s code st) .a Reg.TIME_STAT_PENDING b) .a Reg.TIME_RESULT_STATUS = st :=
  ⟨rdB_wrB_same _ .a _ b rfl (by decide),
    (rd_wrB_addr _ .a .a _ _ b (by decide)).trans (rd_timeResult_status s code st hst)⟩

theorem commitAtPps_spec {s : State} {h : HalfId} (hal : alive s h = true) (hst : timeStatus s h 2 = 0x01) :
    Completes (.commitAtPps h) s fun t =>
      rdB t .a Reg.TIME_STAT_PENDING = true ∧ rd t .a Reg.TIME_RESULT_STATUS = 0x01 := by
  have hcmd := timeCmd_accepted hst (.inl rfl)
  rw [if_neg (by decide), if_pos rfl] at hcmd
  exact ⟨_, congrArg Host.Outcome.next ((access_of_alive hal _).trans hcmd), pending_written s 2 0x01 true (by decide)⟩

theorem timeCancel_spec {s : State} {h : HalfId} (hal : alive s h = true) (hst : timeStatus s h 4 = 0x02) :
    Completes (.timeCancel h) s fun t =>
      rdB t .a Reg.TIME_STAT_PENDING = false ∧ rd t .a Reg.TIME_RESULT_STATUS = 0x02 := by
  have hcmd := timeCmd_accepted hst (.inr rfl)
  rw [if_neg (by decide), if_neg (by decide), if_neg (by decide)] at hcmd
  exact ⟨_, congrArg Host.Outcome.next ((access_of_alive hal _).trans hcmd), pending_written s 4 0x02 false (by decide)⟩

/-- The staged second is loaded at its edge (R650): the state before the load. -/
def secondTaken (s : State) : State :=
  wr (wr (wrB (wrB s .a Reg.TIME_STAT_PENDING false) .a Reg.TIME_STAT_TOD_SET true) .a Reg.TIME_RESULT_CMD 2)
    .a Reg.TIME_RESULT_STATUS 0x02

theorem secondTaken_stat (s : State) : rdB (secondTaken s) .a Reg.TIME_STAT_PENDING = false ∧
    rdB (secondTaken s) .a Reg.TIME_STAT_TOD_SET = true := by
  have hkeep : ∀ f : Fld, f.key = 0x3001C → rdB (secondTaken s) .a f =
      rdB (wrB (wrB s .a Reg.TIME_STAT_PENDING false) .a Reg.TIME_STAT_TOD_SET true) .a f := fun f hf =>
    congrArg (· != 0) ((rd_wr_addr _ .a .a _ f _ (by rw [hf]; decide)).trans (rd_wr_addr _ .a .a _ f _ (by rw [hf]; decide)))
  exact ⟨(hkeep _ rfl).trans ((rdB_wrB_beside _ .a Reg.TIME_STAT_TOD_SET Reg.TIME_STAT_PENDING true rfl (by decide)
      (by decide) (by decide) (.inr (by decide))).trans (rdB_wrB_same s .a _ false rfl (by decide))),
    (hkeep _ rfl).trans (rdB_wrB_same _ .a _ true rfl (by decide))⟩

theorem timeLoadAtSecond_spec {s : State} (hpend : rdB s .a Reg.TIME_STAT_PENDING = true) :
    Completes .timeLoadAtSecond s fun t =>
      now t = (rd s .a Reg.TIME_SET_SEC_HI_SEC * 2 ^ 32 + rd s .a Reg.TIME_SET_SEC_LO_SEC) * 1000000000 ∧
      rdB t .a Reg.TIME_STAT_PENDING = false ∧ rdB t .a Reg.TIME_STAT_TOD_SET = true := by
  obtain ⟨hnow, -, hrd⟩ := load_spec (secondTaken s)
    ((rd s .a Reg.TIME_SET_SEC_HI_SEC * 2 ^ 32 + rd s .a Reg.TIME_SET_SEC_LO_SEC) * 1000000000) 3
  obtain ⟨hpending, htod⟩ := secondTaken_stat s
  refine ⟨_, if_neg (by simp [hpend]), hnow, ?_, ?_⟩
  · exact (congrArg (· != 0) (hrd Reg.TIME_STAT_PENDING ⟨⟨timeBaseField_stat, fun _ => by decide⟩, fun _ => by decide⟩)).trans hpending
  · exact (congrArg (· != 0) (hrd Reg.TIME_STAT_TOD_SET ⟨⟨timeBaseField_stat, fun _ => by decide⟩, fun _ => by decide⟩)).trans htod

/-- TIME_SLEW of the holder sets the target rate (R650). -/
theorem timeSlewWrite_holder {s : State} {h : HalfId} {v : Nat} (hal : alive s h = true) (hholds : holds s h = true)
    (hmax : (toSigned 32 v).natAbs ≤ 200000) (hservo : rdB s .a Reg.TIME_CFG_SERVO = false) :
    Completes (.timeSlewWrite h v) s fun t =>
      t.field.time.rhoTarget = toSigned 32 v ∧ rd t .a Reg.TIME_SLEW_PPB = v % 2 ^ 32 := by
  have hw : slewWrite s h v = modTime (wr s .a Reg.TIME_SLEW_PPB v) fun g => { g with rhoTarget := toSigned 32 v } := by
    unfold slewWrite
    simp only [hholds, hservo, Bool.not_true, Bool.false_eq_true, if_false, if_neg (Nat.not_lt.2 hmax)]
  exact ⟨_, congrArg Host.Outcome.next ((access_of_alive hal _).trans hw), rfl,
    rd_wr_same s .a Reg.TIME_SLEW_PPB v (by decide) (by decide)⟩

/-- TIME_SLEW of another half is refused (R53). -/
theorem timeSlewWrite_other {s : State} {h : HalfId} {v : Nat} (hal : alive s h = true) (hholds : holds s h = false) :
    Completes (.timeSlewWrite h v) s fun t =>
      rdB t h Reg.SYS_ERR_NOT_HOLDER = true ∧ t.field.time = s.field.time := by
  have hw : slewWrite s h v = wrB s h Reg.SYS_ERR_NOT_HOLDER true := by
    unfold slewWrite
    simp only [hholds, Bool.not_false, if_true]
  exact ⟨_, congrArg Host.Outcome.next ((access_of_alive hal _).trans hw), rdB_wrB_same s h _ true rfl (by decide), rfl⟩

/-! ### PTP (R644, R646) -/

theorem servoRuns_of_ptpSlave {s : State} {domain : Nat} (hptp : ptpSlave s domain = true) : servoRuns s = true := by
  unfold ptpSlave at hptp
  simp only [Bool.and_eq_true] at hptp
  exact hptp.2

theorem ofSigned_mod (w : Nat) (i : Int) : ofSigned w i % 2 ^ w = ofSigned w i := by
  refine Nat.mod_eq_of_lt ?_
  have hpos : (0 : Int) < ((2 ^ w : Nat) : Int) := by exact_mod_cast Nat.two_pow_pos w
  have hlt := Int.emod_lt_of_pos i hpos
  have hnonneg := Int.emod_nonneg i hpos.ne'
  unfold ofSigned
  omega

theorem rootSync_keepsTimeBase (s : State) : KeepsTimeBase s (rootSync s) :=
  .of_keeps (keeps_rootSync (by decide) (Keeps.refl 0x10338421640000 s)) (by decide) (by decide)

/-- A Sync or Follow_Up of the master gives its offset (R644). -/
theorem timeOffset_measured (s : State) (off : Int) (hruns : servoRuns s = true) :
    rd (rootSync (measure (modTime s fun g => { g with syncWait := none }) off)) .a Reg.TIME_OFFSET_NS =
      ofSigned 32 (satSigned 32 off) :=
  ((rootSync_keepsTimeBase _).rd _ timeOffset_timeBase).trans
    ((timeOffset_measure (modTime s fun g => { g with syncWait := none }) off hruns).trans (ofSigned_mod 32 _))

theorem ptpSync_twoStep {s : State} {domain master : Nat} {offset : Int} (hptp : ptpSlave s domain = true)
    (hm : s.field.time.master = master + 1) :
    Completes (.ptpSync domain master offset true) s fun t => t.field.time.syncWait = some master := by
  have hskip : ¬ ((!ptpSlave s domain || s.field.time.master != master + 1) = true) := by simp [hptp, hm]
  exact ⟨_, congrArg Host.Outcome.next ((if_neg hskip).trans (if_pos rfl)), rfl⟩

theorem ptpSync_oneStep {s : State} {domain master : Nat} {offset : Int} (hptp : ptpSlave s domain = true)
    (hm : s.field.time.master = master + 1) :
    Completes (.ptpSync domain master offset false) s fun t =>
      rd t .a Reg.TIME_OFFSET_NS = ofSigned 32 (satSigned 32 offset) := by
  have hskip : ¬ ((!ptpSlave s domain || s.field.time.master != master + 1) = true) := by simp [hptp, hm]
  exact ⟨_, congrArg Host.Outcome.next ((if_neg hskip).trans (if_neg Bool.false_ne_true)),
    timeOffset_measured s offset (servoRuns_of_ptpSlave hptp)⟩

theorem ptpFollowUp_spec {s : State} {domain master : Nat} {offset : Int} (hptp : ptpSlave s domain = true)
    (hw : s.field.time.syncWait = some master) :
    Completes (.ptpFollowUp domain master offset) s fun t =>
      rd t .a Reg.TIME_OFFSET_NS = ofSigned 32 (satSigned 32 offset) := by
  have htake : (ptpSlave s domain && s.field.time.syncWait == some master) = true := by simp [hptp, hw]
  exact ⟨_, congrArg Host.Outcome.next (if_pos htake), timeOffset_measured s offset (servoRuns_of_ptpSlave hptp)⟩

/-- A better sender of Announce becomes the master, and its UTC offset is copied (R646). -/
theorem ptpAnnounce_spec {s : State} {domain master : Nat} (hptp : ptpSlave s domain = true) (u : Nat) :
    Completes (.ptpAnnounce domain master true (some u)) s fun t =>
      t.field.time.master = master + 1 ∧ rdB t .a Reg.TIME_UTC_VALID = true ∧ rd t .a Reg.TIME_UTC_OFFSET = u % 2 ^ 16 := by
  have hskip : ¬ ((!ptpSlave s domain) = true) := by simp [hptp]
  have htaken : execPtpAnnounce domain master true (some u) s =
      .next (wr (wrB (modTime s fun g => { g with master := master + 1 }) .a Reg.TIME_UTC_VALID true) .a Reg.TIME_UTC_OFFSET u) :=
    (if_neg hskip).trans (congrArg Host.Outcome.next (if_pos rfl))
  refine ⟨_, htaken, rfl, ?_, rd_wr_same _ .a Reg.TIME_UTC_OFFSET u (by decide) (by decide)⟩
  exact (congrArg (· != 0) (rd_wr_disjoint _ .a Reg.TIME_UTC_OFFSET Reg.TIME_UTC_VALID u rfl (by decide) (by decide) (by decide)
    (.inl (by decide)))).trans (rdB_wrB_same _ .a Reg.TIME_UTC_VALID true rfl (by decide))

theorem ptpPdelayReq_spec {s : State} {h : HalfId} {domain : Nat} (hal : alive s h = true)
    (hdom : domain = rd s .a Reg.TIME_CFG_DOMAIN) :
    Completes (.ptpPdelayReq h domain) s fun t =>
      (half t h).mgmt.ptpAnswer = some (domain, rdB s .a Reg.TIME_CFG_TWO_STEP) :=
  ⟨_, congrArg Host.Outcome.next (if_pos (by simp [hal, hdom])), by dsimp only; rw [half_setHalf_same]⟩

theorem ptpPdelayResp_spec {s : State} {h : HalfId} {domain : Nat} (delay : Nat) (hal : alive s h = true)
    (hdom : domain = rd s .a Reg.TIME_CFG_DOMAIN) (hport : holds s h = true ∨ rdB s .a Reg.TIME_CFG_CLOCK = true) :
    Completes (.ptpPdelayResp h domain delay) s fun t => t.field.time.linkDelay = delay :=
  ⟨_, congrArg Host.Outcome.next (if_pos (by simp [hal, hdom, hport])), rfl⟩

/-! ### PPS and the servo's ends (R645, R648) -/

/-- The state in which the edge of PPS_IN has been captured. -/
def ppsCaptured (s : State) : State :=
  wrB (wr (wr s .a Reg.TIME_PPSCAP_NS_NS (nsOf (now s))) .a Reg.TIME_PPSCAP_SEC_SEC (secOf (now s))) .a Reg.TIME_STAT_PPS_IN_OK true

/-- The edge ends a loss of PPS_IN. -/
def ppsFound (s : State) : State :=
  if s.field.time.ppsLost then ledgerField (modTime (ppsCaptured s) fun g => { g with ppsLost := false }) 0x1203 (p4 2)
  else ppsCaptured s

theorem rd_ppsFound (s : State) {f : Fld} (hf : TimeBaseField f) : rd (ppsFound s) .a f = rd (ppsCaptured s) .a f := by
  unfold ppsFound
  split
  · exact (ledgerField_keepsTimeBase _ _ _).rd f hf
  · rfl

theorem ppsInEdge_spec {s : State} (offset : Int) (hsup : s.field.supply = true) :
    Completes (.ppsInEdge offset) s fun t =>
      rd t .a Reg.TIME_PPSCAP_NS_NS = nsOf (now s) % 2 ^ 32 ∧ rdB t .a Reg.TIME_STAT_PPS_IN_OK = true := by
  have hcap : rd (ppsCaptured s) .a Reg.TIME_PPSCAP_NS_NS = nsOf (now s) % 2 ^ 32 :=
    (rd_wrB_addr _ .a .a _ _ _ (by decide)).trans ((rd_wr_addr _ .a .a _ _ _ (by decide)).trans
      (rd_wr_same s .a Reg.TIME_PPSCAP_NS_NS _ (by decide) (by decide)))
  have hok : rdB (ppsCaptured s) .a Reg.TIME_STAT_PPS_IN_OK = true := rdB_wrB_same _ .a _ true rfl (by decide)
  have hcapBase : TimeBaseField Reg.TIME_PPSCAP_NS_NS := by unfold TimeBaseField; decide
  have hafter : ∀ f, BesideLoad f → f.key ≠ 0x30040 →
      rd (if timeSrc s = 3 then measure (ppsFound s) offset else ppsFound s) .a f = rd (ppsCaptured s) .a f := by
    intro f hf hne
    split
    · exact (rd_measure_beside _ offset hf hne).trans (rd_ppsFound s hf.1.1)
    · exact rd_ppsFound s hf.1.1
  refine ⟨_, if_neg (by simp [hsup]), ?_, ?_⟩
  · exact (hafter _ (.of_key hcapBase (by decide)) (by decide)).trans hcap
  · exact (congrArg (· != 0) (hafter Reg.TIME_STAT_PPS_IN_OK ⟨⟨timeBaseField_stat, fun _ => by decide⟩, fun _ => by decide⟩
      (by decide))).trans hok

theorem ppsInLost_spec (s : State) : Completes .ppsInLost s fun t => rdB t .a Reg.TIME_STAT_PPS_IN_OK = false := by
  have hcleared : rdB (wrB s .a Reg.TIME_STAT_PPS_IN_OK false) .a Reg.TIME_STAT_PPS_IN_OK = false :=
    rdB_wrB_same s .a _ false rfl (by decide)
  refine ⟨_, rfl, ?_⟩
  split
  · exact ((ledgerField_keepsTimeBase _ _ _).rdB _ timeBaseField_stat).trans hcleared
  · exact hcleared

theorem setSync_time (s : State) (b : Bool) : (setSync s b).field.time = s.field.time :=
  (keeps_setSync b (by decide) (Keeps.refl 0x1023C4012C0008 s)).time (by decide)

theorem holdover_spec {s : State} (hsrc : timeSrc s ≠ 0) (hmeas : s.field.time.measured = true) :
    Completes .holdover s fun t =>
      synced t = false ∧ t.field.time.measured = false ∧
      (rdB s .a Reg.TIME_CFG_SERVO = true → rd t .a Reg.TIME_STAT_SERVO_STATE = 3) := by
  refine ⟨_, if_neg (by simp [hsrc, hmeas]), synced_setSync _ _, ?_, fun hservo => ?_⟩
  · rw [setSync_time]
    split <;> rfl
  · rw [if_pos hservo]
    exact servoState_setSync_holdover _ (rd_wr_same' _ .a Reg.TIME_STAT_SERVO_STATE 3 (by decide) (by decide) (by decide)) false

theorem gridSlewDone_spec {s : State} (hslew : rdB s .a Reg.TIME_STAT_GRID_SLEW = true) (hgrid : s.field.time.grid = 0) :
    Completes .gridSlewDone s fun t => rdB t .a Reg.TIME_STAT_GRID_SLEW = false :=
  ⟨_, congrArg Host.Outcome.next (if_pos (by simp [hslew, hgrid])),
    (congrArg (· != 0) (rd_trySync_beside _ ⟨timeBaseField_stat, fun _ => by decide⟩)).trans
      (rdB_wrB_same s .a Reg.TIME_STAT_GRID_SLEW false rfl (by decide))⟩

theorem unlock_besideSync : BesideSync Reg.TIME_STAT_UNLOCK := ⟨timeBaseField_stat, fun _ => by decide⟩

theorem tbClkUnlock_spec {s : State} (hlocked : rdB s .a Reg.TIME_STAT_UNLOCK = false) :
    Completes .tbClkUnlock s fun t => rdB t .a Reg.TIME_STAT_UNLOCK = true ∧ synced t = false :=
  ⟨_, congrArg Host.Outcome.next (if_neg (by simp [hlocked])),
    ((tallyTime_keepsTimeBase _ _ _ _).rdB _ timeBaseField_stat).trans
      ((congrArg (· != 0) (rd_setSync_beside _ false unlock_besideSync)).trans (rdB_wrB_same s .a _ true rfl (by decide))),
    (tallyTime_keepsTimeBase _ _ _ _).synced.trans (synced_setSync _ false)⟩

theorem tbClkRelock_spec {s : State} (hunlocked : rdB s .a Reg.TIME_STAT_UNLOCK = true) :
    Completes .tbClkRelock s fun t => rdB t .a Reg.TIME_STAT_UNLOCK = false :=
  ⟨_, congrArg Host.Outcome.next (if_pos hunlocked),
    (congrArg (· != 0) (rd_trySync_beside _ unlock_besideSync)).trans
      (((tallyTime_keepsTimeBase _ _ _ _).rdB _ timeBaseField_stat).trans (rdB_wrB_same s .a _ false rfl (by decide)))⟩

theorem ppsOutSecond_spec {s : State}
    (hmode : rd s .a Reg.TIME_PPS_MODE = 1 ∨ (rd s .a Reg.TIME_PPS_MODE = 2 ∧ synced s = true))
    (hlo : 1 ≤ rd s .a Reg.TIME_PPS_WIDTH) (hhi : rd s .a Reg.TIME_PPS_WIDTH ≤ 500) :
    Completes .ppsOutSecond s fun t => t.field.time.ppsEnd = s.ticks + 125000 * rd s .a Reg.TIME_PPS_WIDTH := by
  have hwidth : ppsWidth s = (rd s .a Reg.TIME_PPS_WIDTH, s) := if_pos ⟨hlo, hhi⟩
  exact ⟨_, if_pos hmode, by rw [hwidth]; rfl⟩

/-- Settles O47: every load goes through one lemma (`load_spec`), and what it leaves of the time base's registers carries the
measurements and the edges of PPS_IN too. -/
theorem timeBaseCommands : Obligations.TimeBaseCommands := by
  unfold Obligations.TimeBaseCommands
  refine ⟨fun h s hal => ⟨timeCommit_spec hal, commitAtPps_spec hal, timeStep_spec hal, timeCancel_spec hal⟩,
    fun s => timeLoadAtSecond_spec,
    fun h v s hal => ⟨timeSlewWrite_holder hal, timeSlewWrite_other hal⟩,
    fun domain master offset s hptp => ⟨fun hm => ⟨ptpSync_twoStep hptp hm, ptpSync_oneStep hptp hm⟩, ptpFollowUp_spec hptp,
      ptpAnnounce_spec hptp⟩,
    fun h domain delay s hal hdom => ⟨ptpPdelayReq_spec hal hdom, ptpPdelayResp_spec delay hal hdom⟩,
    fun offset s => ppsInEdge_spec offset, ppsInLost_spec, fun s => holdover_spec, fun s => gridSlewDone_spec,
    fun s => tbClkUnlock_spec, fun s => tbClkRelock_spec, fun s => ppsOutSecond_spec⟩

end Sys2Proof.Machine
end

section
/-!
PROOFS. Takes, domain takes and schedule entries (R652 to R657): what a take writes, what arming a domain take sets, and what
an entry in its time does.
-/

namespace Sys2Proof.Machine

open Sys2Proof (HalfId Instr Byte)

/-! ### The take (R654) -/

section Take

variable {s : State} {h : HalfId}

/-- The state after the shadows of a take are latched. -/
def shadowsTaken (s : State) (h : HalfId) : State :=
  setHalf s h { half s h with stk := { (half s h).stk with
    counters := nset (nset (half s h).stk.counters 0 (s.ticks % 2 ^ 32)) 1 (rd s h Reg.LGE_CYCLE_COUNT)
    shadow := nset (nset (half s h).stk.counters 0 (s.ticks % 2 ^ 32)) 1 (rd s h Reg.LGE_CYCLE_COUNT) } }

/-- The epoch counted and the time of a take shown. -/
def takeTimed (s : State) (h : HalfId) : State :=
  wr (wr (wrapInc s h Reg.STK_EPOCH_EPOCH) h Reg.STK_TAKE_NS_NS (nsOf (now (wrapInc s h Reg.STK_EPOCH_EPOCH))))
    h Reg.STK_TAKE_SEC_SEC (secOf (now (wrapInc s h Reg.STK_EPOCH_EPOCH)))

/-- The registers of a take but its lateness. -/
def takeShown (s : State) (h : HalfId) (origin : Nat) : State :=
  wrB (wr (takeTimed s h) h Reg.STK_STAT_ORIGIN origin) h Reg.STK_STAT_UNSYNC (!synced (takeTimed s h))

/-- The lateness of a take. -/
def lateShown (s : State) (h : HalfId) : Option Nat → State
  | none => wrB s h Reg.STK_STAT_LATE false
  | some n => wr (wrB s h Reg.STK_STAT_LATE true) h Reg.STK_LATE_NS (min n 0xFFFFFFFF)

theorem takeStk_eq (s : State) (h : HalfId) (origin : Nat) (late : Option Nat) :
    takeStk s h origin late = lateShown (takeShown (shadowsTaken s h) h origin) h late := by
  cases late <;> rfl

theorem half_lateShown (s : State) (h g : HalfId) (late : Option Nat) : half (lateShown s h late) g = half s g := by
  cases late <;> simp [lateShown]

/-- The lateness shares its register with other fields, which stay. -/
theorem rd_lateShown (s : State) (h : HalfId) (late : Option Nat) (e : Fld) (hlate : e.key % 0x100000000 ≠ 0x140028)
    (hstat : e.key % 0x100000000 ≠ 0x14001C ∨ (e.key = 0x14001C ∧ e.lo ≤ e.hi ∧ e.hi < 30)) :
    rd (lateShown s h late) h e = rd s h e := by
  have hflag : ∀ b, rd (wrB s h Reg.STK_STAT_LATE b) h e = rd s h e := by
    intro b
    rcases hstat with hne | ⟨hk, hle, hlt⟩
    · exact rd_wrB_addr s h h _ e b hne
    · exact rd_wrB_disj s h _ e b hk (by decide) hle (by decide) (.inr hlt)
  cases late with
  | none => exact hflag false
  | some n => exact (rd_wr_addr _ h h Reg.STK_LATE_NS e _ hlate).trans (hflag true)

/-- What a take in half `h` shows and latches (R654), whatever its lateness. -/
theorem takeStk_spec (s : State) (h : HalfId) {origin : Nat} (horigin : origin < 4) (late : Option Nat) :
    rd (takeStk s h origin late) h Reg.STK_TAKE_NS_NS = nsOf (now s) % 2 ^ 32 ∧
      rd (takeStk s h origin late) h Reg.STK_STAT_ORIGIN = origin ∧
      rd (takeStk s h origin late) h Reg.STK_STAT_DPEND = rd s h Reg.STK_STAT_DPEND ∧
      rd (takeStk s h origin late) h Reg.STK_RESULT_STATUS = rd s h Reg.STK_RESULT_STATUS := by
  have htimed : ∀ f : Fld, f.key % 0x100000000 ≠ 0x140018 → f.key % 0x100000000 ≠ 0x140020 → f.key % 0x100000000 ≠ 0x140024 →
      rd (takeTimed (shadowsTaken s h) h) h f = rd s h f := fun f he hn hs =>
    (rd_wr_addr _ h h Reg.STK_TAKE_SEC_SEC f _ hs).trans ((rd_wr_addr _ h h Reg.STK_TAKE_NS_NS f _ hn).trans
      ((rd_wrapInc_addr _ h h Reg.STK_EPOCH_EPOCH f he).trans (rd_setHalf ..)))
  have hshown : ∀ f : Fld, f.key % 0x100000000 ≠ 0x14001C →
      rd (takeShown (shadowsTaken s h) h origin) h f = rd (takeTimed (shadowsTaken s h) h) h f := fun f hf =>
    (rd_wrB_addr _ h h Reg.STK_STAT_UNSYNC f _ hf).trans (rd_wr_addr _ h h Reg.STK_STAT_ORIGIN f _ hf)
  have hnow : now (wrapInc (shadowsTaken s h) h Reg.STK_EPOCH_EPOCH) = now s := by cases h <;> rfl
  rw [takeStk_eq]
  refine ⟨?_, ?_, ?_, ?_⟩
  · rw [rd_lateShown _ _ _ _ (by decide) (.inl (by decide)), hshown _ (by decide)]
    refine (rd_wr_addr _ h h Reg.STK_TAKE_SEC_SEC _ _ (by decide)).trans ?_
    rw [hnow]
    exact rd_wr_same _ _ Reg.STK_TAKE_NS_NS _ (by decide) (by decide)
  · rw [rd_lateShown _ _ _ _ (by decide) (.inr (by decide))]
    exact (rd_wrB_disj _ h Reg.STK_STAT_UNSYNC Reg.STK_STAT_ORIGIN _ rfl (by decide) (by decide) (by decide)
      (.inr (by decide))).trans (rd_wr_same' _ _ Reg.STK_STAT_ORIGIN _ (by decide) (by decide) horigin)
  · rw [rd_lateShown _ _ _ _ (by decide) (.inr (by decide))]
    exact (rd_wrB_disj _ h Reg.STK_STAT_UNSYNC Reg.STK_STAT_DPEND _ rfl (by decide) (by decide) (by decide)
      (.inr (by decide))).trans ((rd_wr_disjoint _ h Reg.STK_STAT_ORIGIN Reg.STK_STAT_DPEND _ rfl (by decide) (by decide)
        (by decide) (.inr (by decide))).trans
        (htimed _ (by decide) (by decide) (by decide)))
  · rw [rd_lateShown _ _ _ _ (by decide) (.inl (by decide)), hshown _ (by decide)]
    exact htimed _ (by decide) (by decide) (by decide)

/-- The shadows of a take are the counters, the ticks in entry 0. -/
theorem shadow_takeStk (s : State) (h : HalfId) (origin : Nat) (late : Option Nat) :
    nget (half (takeStk s h origin late) h).stk.shadow 0 = s.ticks % 2 ^ 32 ∧
      ∀ i, 2 ≤ i → nget (half (takeStk s h origin late) h).stk.shadow i = nget (half s h).stk.counters i := by
  have hsh : (half (takeStk s h origin late) h).stk.shadow =
      nset (nset (half s h).stk.counters 0 (s.ticks % 2 ^ 32)) 1 (rd s h Reg.LGE_CYCLE_COUNT) := by
    rw [takeStk_eq, half_lateShown]
    unfold takeShown takeTimed
    simp only [half_wrB, half_wr, half_wrapInc, shadowsTaken, half_setHalf_same]
  rw [hsh]
  refine ⟨?_, fun i hi => ?_⟩
  · rw [nget_nset_ne _ _ _ _ (by decide), nget_nset_same]
  · rw [nget_nset_ne _ _ _ _ (by omega), nget_nset_ne _ _ _ _ (by omega)]

/-- The result of an STK_CTRL command, reported. -/
def stkResult (s : State) (h : HalfId) (code : Nat) : State :=
  result s h Reg.STK_RESULT_SEQ Reg.STK_RESULT_CMD Reg.STK_RESULT_STATUS code 0x02

theorem rd_stkResult_status (s : State) (h : HalfId) (code : Nat) :
    rd (stkResult s h code) h Reg.STK_RESULT_STATUS = 0x02 :=
  rd_result_status s h _ _ _ code 0x02 (by decide) (by decide)

theorem stkCmd_take (origin : Nat) (hst : stkStatus s h 1 = 0x02) :
    stkCmd s h 1 origin = takeStk (stkResult s h 1) h origin none := by
  unfold stkCmd
  dsimp only
  rw [hst, if_neg (by decide), if_pos rfl]
  rfl

theorem now_stkResult (s : State) (h : HalfId) (code : Nat) : now (stkResult s h code) = now s :=
  congrArg (fun f => f.time.now) (field_result s h _ _ _ code 0x02)

/-- TAKE (R654, R666). -/
theorem take_spec (hal : alive s h = true) (hst : stkStatus s h 1 = 0x02) :
    Completes (.take h) s fun t =>
      rd t h Reg.STK_RESULT_STATUS = 0x02 ∧ rd t h Reg.STK_TAKE_NS_NS = nsOf (now s) % 2 ^ 32 ∧ rd t h Reg.STK_STAT_ORIGIN = 0 ∧
      nget (half t h).stk.shadow 0 = s.ticks % 2 ^ 32 ∧
      ∀ i, 2 ≤ i → nget (half t h).stk.shadow i = nget (half s h).stk.counters i := by
  obtain ⟨hns, horigin, -, hstatus⟩ := takeStk_spec (stkResult s h 1) h (origin := 0) (by decide) none
  obtain ⟨hticks, hcounters⟩ := shadow_takeStk (stkResult s h 1) h 0 none
  refine ⟨_, congrArg Host.Outcome.next ((access_of_alive hal _).trans (stkCmd_take 0 hst)),
    hstatus.trans (rd_stkResult_status s h 1), ?_, horigin, ?_, fun i hi => ?_⟩
  · rw [hns, now_stkResult]
  · exact hticks
  · rw [hcounters i hi, stkResult, half_result]

end Take

/-! ### Domain takes (R657) -/

section DomainTake

variable {s : State} {h : HalfId}

/-- The state in which a domain take is armed. -/
def domainArmed (s : State) (h : HalfId) (t tag : Nat) : State :=
  wrB (setHalf s h { half s h with stk := { (half s h).stk with dTime := t, dTag := tag } }) h Reg.STK_STAT_DPEND true

/-- A domain take with a new tag, not yet past, is armed. -/
theorem armDomain_spec {t tag : Nat} (hpend : rdB s h Reg.STK_STAT_DPEND = false) (htag : rd s h Reg.STK_DLAST_TAG ≠ tag)
    (hnow : now s ≤ t) :
    rdB (armDomain s h t tag) h Reg.STK_STAT_DPEND = true ∧ (half (armDomain s h t tag) h).stk.dTag = tag ∧
      (half (armDomain s h t tag) h).stk.dTime = t ∧ (∀ g, g ≠ h → half (armDomain s h t tag) g = half s g) ∧
      rd (armDomain s h t tag) h Reg.STK_RESULT_STATUS = rd s h Reg.STK_RESULT_STATUS := by
  have hlater : ¬ t < now (domainArmed s h t tag) := by
    have hsame : now (domainArmed s h t tag) = now s := by cases h <;> rfl
    omega
  have harm : armDomain s h t tag = domainArmed s h t tag := by
    unfold armDomain
    dsimp only
    rw [if_neg (by simp [hpend, htag])]
    exact if_neg hlater
  rw [harm]
  unfold domainArmed
  refine ⟨rdB_wrB_same _ _ _ true rfl (by decide), ?_, ?_, fun g hg => ?_, ?_⟩
  · rw [half_wrB, half_setHalf_same]
  · rw [half_wrB, half_setHalf_same]
  · rw [half_wrB, half_setHalf_ne _ _ _ _ hg]
  · exact (rd_wrB_addr _ h h _ _ _ (by decide)).trans (rd_setHalf ..)

theorem sendFrame_block20 (s : State) (h : HalfId) (cls type dst : Nat) (p : List Byte) :
    Keeps 0x10338401640000 s (sendFrame s h cls type dst p) :=
  keeps_sendFrame h cls type dst p (by decide) (Keeps.refl _ s)

/-- A half that sends a domain take, new and not yet past, arms it. -/
theorem domainSend_spec {t tag : Nat} (hpend : rdB s h Reg.STK_STAT_DPEND = false) (htag : rd s h Reg.STK_DLAST_TAG ≠ tag)
    (hnow : now s ≤ t) :
    rdB (domainSend s h t tag) h Reg.STK_STAT_DPEND = true ∧ (half (domainSend s h t tag) h).stk.dTag = tag ∧
      (half (domainSend s h t tag) h).stk.dTime = t ∧
      (∀ g, g ≠ h → half (domainSend s h t tag) g = half (sendFrame s h 2 2 0x3FFF (domainPayload t tag)) g) ∧
      rd (domainSend s h t tag) h Reg.STK_RESULT_STATUS = rd s h Reg.STK_RESULT_STATUS := by
  have hk := sendFrame_block20 s h 2 2 0x3FFF (domainPayload t tag)
  obtain ⟨hp, htg, htm, hoth, hres⟩ := armDomain_spec (s := sendFrame s h 2 2 0x3FFF (domainPayload t tag)) (h := h) (t := t)
    (tag := tag) ((hk.rdB h _ (by decide) (by decide)).trans hpend)
    (by rw [hk.rd h _ (by decide) (by decide)]; exact htag) (by rw [hk.now (by decide)]; exact hnow)
  exact ⟨hp, htg, htm, hoth, hres.trans (hk.rd h _ (by decide) (by decide))⟩

/-- The leader keeps the relay of a domain take for its standby. -/
def relayKept (s : State) (h : HalfId) (t tag : Nat) : State :=
  setHalf s h { half s h with stk := { (half s h).stk with dRelay := some (t, tag) } }

theorem now_relayKept (s : State) (h : HalfId) (t tag : Nat) : now (relayKept s h t tag) = now s := by cases h <;> rfl

/-- DOMAIN_TAKE (R657, R666). -/
theorem domainTakeCmd_spec (hal : alive s h = true) (hst : stkStatus s h 2 = 0x02) (hpend : rdB s h Reg.STK_STAT_DPEND = false)
    (htag : rd s h Reg.STK_DLAST_TAG ≠ rd s h Reg.STK_DTAG_TAG)
    (hnow : now s ≤ wordsTime (rd s h Reg.STK_DNS_NS) (rd s h Reg.STK_DSEC_LO_SEC) (rd s h Reg.STK_DSEC_HI_SEC)) :
    Completes (.domainTakeCmd h) s fun t =>
      rd t h Reg.STK_RESULT_STATUS = 0x02 ∧ rdB t h Reg.STK_STAT_DPEND = true ∧
      (half t h).stk.dTag = rd s h Reg.STK_DTAG_TAG ∧
      (half t h).stk.dTime =
        wordsTime (rd s h Reg.STK_DNS_NS) (rd s h Reg.STK_DSEC_LO_SEC) (rd s h Reg.STK_DSEC_HI_SEC) := by
  have hcmd : ∃ u, u.regs = (stkResult s h 2).regs ∧ now u = now s ∧ stkCmd s h 2 0 = domainSend u h
      (wordsTime (rd s h Reg.STK_DNS_NS) (rd s h Reg.STK_DSEC_LO_SEC) (rd s h Reg.STK_DSEC_HI_SEC)) (rd s h Reg.STK_DTAG_TAG) := by
    have hsend : stkCmd s h 2 0 = domainSend (if relayReady s h then relayKept (stkResult s h 2) h
        (wordsTime (rd s h Reg.STK_DNS_NS) (rd s h Reg.STK_DSEC_LO_SEC) (rd s h Reg.STK_DSEC_HI_SEC)) (rd s h Reg.STK_DTAG_TAG)
        else stkResult s h 2) h
        (wordsTime (rd s h Reg.STK_DNS_NS) (rd s h Reg.STK_DSEC_LO_SEC) (rd s h Reg.STK_DSEC_HI_SEC)) (rd s h Reg.STK_DTAG_TAG) := by
      unfold stkCmd
      dsimp only
      rw [hst, if_neg (by decide), if_neg (by decide)]
      rfl
    refine ⟨_, ?_, ?_, hsend⟩
    · split
      · cases h <;> rfl
      · rfl
    · split
      next => exact (now_relayKept _ h _ _).trans (now_stkResult s h 2)
      next => exact now_stkResult s h 2
  obtain ⟨u, hregs, hnowu, hcmd⟩ := hcmd
  have hrd : ∀ f, rd u h f = rd (stkResult s h 2) h f := fun f => by unfold rd word; rw [hregs]
  have hrdS : ∀ f : Fld, f.key % 0x100000000 ≠ 0x140014 → rd u h f = rd s h f := fun f hf =>
    (hrd f).trans (rd_result_addr s h h _ _ _ f 2 0x02 hf hf hf)
  obtain ⟨hp, htg, htm, -, hres⟩ := domainSend_spec (s := u) (h := h)
    (t := wordsTime (rd s h Reg.STK_DNS_NS) (rd s h Reg.STK_DSEC_LO_SEC) (rd s h Reg.STK_DSEC_HI_SEC))
    (tag := rd s h Reg.STK_DTAG_TAG)
    ((congrArg (· != 0) (hrdS Reg.STK_STAT_DPEND (by decide))).trans hpend)
    (by rw [hrdS _ (by decide)]; exact htag) (by rw [hnowu]; exact hnow)
  exact ⟨_, congrArg Host.Outcome.next ((access_of_alive hal _).trans hcmd),
    hres.trans ((hrd _).trans (rd_stkResult_status s h 2)), hp, htg, htm⟩

/-! The relay waiting in a half is no part of the counters that a frame or a record changes. -/

theorem dRelay_count (s : State) (h g : HalfId) (i n : Nat) :
    (half (count s h i n) g).stk.dRelay = (half s g).stk.dRelay := by
  unfold count
  by_cases hg : g = h
  · rw [hg, half_setHalf_same]
  · rw [half_setHalf_ne _ _ _ _ hg]

theorem dRelay_of_keeps {m : Nat} {t : State} (hk : Keeps m s t) (hm : m.testBit 41 = false) (g : HalfId) :
    (half t g).stk.dRelay = (half s g).stk.dRelay := by rw [hk.stk hm g]

theorem dRelay_storeAppend (s : State) (h g : HalfId) (r : LedgerRec) :
    (half (storeAppend s h r) g).stk.dRelay = (half s g).stk.dRelay := by
  unfold storeAppend
  dsimp only
  rw [dRelay_of_keeps (keeps_irq h 2 (by decide) (Keeps.refl 0x1000000 _)) (by decide), dRelay_count,
    dRelay_of_keeps (keeps_qPush .b 1 _ (by decide) (Keeps.refl 0x200001200000 _)) (by decide),
    dRelay_of_keeps (keeps_qPush .a 1 _ (by decide) (Keeps.refl 0x200001200000 _)) (by decide)]
  rfl

theorem dRelay_ledger (s : State) (h g : HalfId) (src ev : Nat) (fields : List Byte) :
    (half (ledger s h src ev fields) g).stk.dRelay = (half s g).stk.dRelay := by
  have hev := dRelay_of_keeps (keeps_evBump h src (by decide) (Keeps.refl 0x10008000000000 s)) (by decide) g
  unfold ledger
  dsimp only
  split
  · unfold limitedAppend
    dsimp only
    split
    · exact (dRelay_storeAppend _ h g _).trans hev
    · rw [half_satAdd, half_satAdd]
      exact hev
  · refine Eq.trans ?_ hev
    by_cases hg : g = h
    · rw [hg, half_setHalf_same]
    · rw [half_setHalf_ne _ _ _ _ hg]

theorem dRelay_modArd (s : State) (h g : HalfId) (f : Arcade → Arcade) :
    (half (modArd s h f) g).stk.dRelay = (half s g).stk.dRelay := by
  rw [dRelay_of_keeps (keeps_modArd h f (by decide) (Keeps.refl 0x100000000000 s)) (by decide)]

theorem dRelay_eraBump (s : State) (h g : HalfId) (cause : Nat) :
    (half (eraBump s h cause) g).stk.dRelay = (half s g).stk.dRelay := by
  refine (dRelay_ledger _ h g _ _ _).trans ((dRelay_modArd _ h g _).trans ?_)
  exact congrArg (fun x => x.stk.dRelay) (half_wrapInc s h g Reg.ARD_ERA_ERA)

theorem dRelay_sendFrame (s : State) (h g : HalfId) (cls type dst : Nat) (p : List Byte) :
    (half (sendFrame s h cls type dst p) g).stk.dRelay = (half s g).stk.dRelay := by
  unfold sendFrame
  split
  · dsimp only
    refine Eq.trans ?_ (b := (half (buildFrame s h cls type dst p).2 g).stk.dRelay) ?_
    · unfold putFrames
      dsimp only
      exact (foldl_unchanged (fun u => (half u g).stk.dRelay) (fun u e => dRelay_count u h g _ _) _ _).trans
        (dRelay_modArd _ h g _)
    · refine (dRelay_modArd _ h g _).trans ?_
      split
      · exact dRelay_eraBump s h g 2
      · rfl
  · rfl

/-- DOMAIN_TAKE_RELAY: the standby takes the relay and arms it (R657). -/
theorem domainTakeRelay_spec {d : Nat × Nat} (hd : (half s (other h)).stk.dRelay = some d) (hrun : running s h = true)
    (hpend : rdB s h Reg.STK_STAT_DPEND = false) (htag : rd s h Reg.STK_DLAST_TAG ≠ d.2) (hnow : now s ≤ d.1) :
    Completes (.domainTakeRelay h) s fun t =>
      (half t (other h)).stk.dRelay = none ∧ rdB t h Reg.STK_STAT_DPEND = true ∧
      (half t h).stk.dTag = d.2 ∧ (half t h).stk.dTime = d.1 := by
  have hexec : exec (.domainTakeRelay h) s = .next (domainSend (setHalf s (other h)
      { half s (other h) with stk := { (half s (other h)).stk with dRelay := none } }) h d.1 d.2) := by
    change execDomainTakeRelay h s = _
    simp [execDomainTakeRelay, hd, hrun]
  have hregs : ∀ f, rd (setHalf s (other h)
      { half s (other h) with stk := { (half s (other h)).stk with dRelay := none } }) h f = rd s h f := fun f => rd_setHalf ..
  obtain ⟨hp, htg, htm, hoth, -⟩ := domainSend_spec (s := setHalf s (other h)
      { half s (other h) with stk := { (half s (other h)).stk with dRelay := none } }) (h := h) (t := d.1) (tag := d.2)
    ((congrArg (· != 0) (hregs _)).trans hpend) (by rw [hregs]; exact htag) (by cases h <;> exact hnow)
  refine ⟨_, hexec, ?_, hp, htg, htm⟩
  rw [hoth _ (by cases h <;> decide), dRelay_sendFrame, half_setHalf_same]

/-- DOMAIN_TAKE_DUE: the take under its tag (R657). -/
theorem domainTakeDue_spec (hpend : rdB s h Reg.STK_STAT_DPEND = true) (hdue : (half s h).stk.dTime ≤ now s) :
    Completes (.domainTakeDue h) s fun t =>
      rdB t h Reg.STK_STAT_DPEND = false ∧ rd t h Reg.STK_STAT_ORIGIN = 2 ∧
      rd t h Reg.STK_DLAST_TAG = (half s h).stk.dTag % 2 ^ 32 := by
  have htake : ∀ late, rdB (wr (takeStk (wrB s h Reg.STK_STAT_DPEND false) h 2 late) h Reg.STK_DLAST_TAG (half s h).stk.dTag)
        h Reg.STK_STAT_DPEND = false ∧
      rd (wr (takeStk (wrB s h Reg.STK_STAT_DPEND false) h 2 late) h Reg.STK_DLAST_TAG (half s h).stk.dTag)
        h Reg.STK_STAT_ORIGIN = 2 ∧
      rd (wr (takeStk (wrB s h Reg.STK_STAT_DPEND false) h 2 late) h Reg.STK_DLAST_TAG (half s h).stk.dTag)
        h Reg.STK_DLAST_TAG = (half s h).stk.dTag % 2 ^ 32 := by
    intro late
    obtain ⟨-, horigin, hdp, -⟩ := takeStk_spec (wrB s h Reg.STK_STAT_DPEND false) h (origin := 2) (by decide) late
    refine ⟨?_, (rd_wr_addr _ h h _ _ _ (by decide)).trans horigin, rd_wr_same _ h Reg.STK_DLAST_TAG _ (by decide) (by decide)⟩
    exact congrArg (· != 0) ((rd_wr_addr _ h h _ _ _ (by decide)).trans hdp) |>.trans
      (rdB_wrB_same s h Reg.STK_STAT_DPEND false rfl (by decide))
  have hlog : ∀ (u : State) (ev : Nat) (fs : List Byte) (f : Fld), keyBlock f.key = 20 → rd (ledgerH u h ev fs) h f = rd u h f :=
    fun u ev fs f hf => (keeps_ledgerH h ev fs (by decide) (Keeps.refl 0x10238401240000 u)).rd h f
      (by rw [hf]; decide) (by rw [hf]; decide)
  refine ⟨domainTake s h, congrArg Host.Outcome.next (if_pos (by simp [hpend, hdue])), ?_⟩
  unfold domainTake
  dsimp only
  split
  next => exact htake _
  next late _ =>
    obtain ⟨hdp, horigin, htag⟩ := htake (if (half s h).stk.dTime < now s then some (now s - (half s h).stk.dTime) else none)
    exact ⟨(congrArg (· != 0) (hlog _ _ _ _ (by decide))).trans hdp, (hlog _ _ _ _ (by decide)).trans horigin,
      (hlog _ _ _ _ (by decide)).trans htag⟩

end DomainTake

/-! ### Schedule entries (R652, R653) -/

section Schedule

variable {s : State} {h : HalfId} {e : Nat}

/-- A write to the status register of an entry leaves its other registers. -/
theorem rd_wr_schedStat (s : State) (h : HalfId) (f : Fld) (v : Nat) {g : Fld} {a : Nat} (hf : f.key = 0x30094 + e * 0x100000000)
    (hg : g.key = a + e * 0x100000000) (ha : a % 0x100000000 ≠ 0x30094) : rd (wr s h f v) h g = rd s h g :=
  rd_wr_bank s h f g v hg hf ha

/-- A write to the configuration register of an entry leaves its other registers. -/
theorem rd_wr_schedCfg (s : State) (h : HalfId) (f : Fld) (v : Nat) {g : Fld} {a : Nat} (hf : f.key = 0x30090 + e * 0x100000000)
    (hg : g.key = a + e * 0x100000000) (ha : a % 0x100000000 ≠ 0x30090) : rd (wr s h f v) h g = rd s h g :=
  rd_wr_bank s h f g v hg hf ha

/-- The end of an entry shows its state and its status. -/
theorem schedEnd_spec (s : State) (h : HalfId) (e : Nat) {state st : Nat} (hstate : state < 4) (hst : st < 256) :
    rd (schedEnd s h e state st) h (Reg.TIME_SCH_STAT_STATE e) = state ∧
      rd (schedEnd s h e state st) h (Reg.TIME_SCH_STAT_STATUS e) = st := by
  have harm : ∀ (u : State) (g : Fld), g.key = 0x30094 + e * 0x100000000 →
      rd (wrB u h (Reg.TIME_SCH_CFG_ARM e) false) h g = rd u h g := fun u g hg =>
    rd_wr_schedCfg u h (Reg.TIME_SCH_CFG_ARM e) _ rfl hg (by decide)
  refine ⟨(harm _ _ rfl).trans ?_, (harm _ _ rfl).trans ?_⟩
  · exact (rd_wr_disjoint _ h (Reg.TIME_SCH_STAT_STATUS e) (Reg.TIME_SCH_STAT_STATE e) st rfl (by decide : 0 ≤ 7)
      (by decide : 30 ≤ 31) (by decide : 7 < 32) (.inl (by decide : 7 < 30))).trans
      (rd_wr_same' _ h (Reg.TIME_SCH_STAT_STATE e) state (by decide : 30 ≤ 31) (by decide : 31 < 32) hstate)
  · exact rd_wr_same' _ h (Reg.TIME_SCH_STAT_STATUS e) st (by decide : 0 ≤ 7) (by decide : 7 < 32) hst

theorem schedEnd_block (s : State) (h : HalfId) (e state st : Nat) : Keeps 0x8 s (schedEnd s h e state st) :=
  keeps_schedEnd h e state st (by decide) (Keeps.refl _ s)

/-- The state that an entry's action leaves, and its end. -/
def schedDone (s : State) (h : HalfId) (e : Nat) : State :=
  schedEnd (schedAct s h e false).1 h e (if (schedAct s h e false).2 < 0x10 then 2 else 3) (schedAct s h e false).2

/-- An armed entry at its time executes its action (R653). -/
theorem schedDue_now {act : Nat} (harm : schedArmed s h e = true) (hnow : now s = schedTime s h e)
    (hact : rd s h (Reg.TIME_SCH_CFG_ACTION e) = act) : schedDue s h e act = schedDone s h e := by
  unfold schedDue
  rw [if_pos (by simp [harm, hact, hnow])]
  unfold schedRun
  dsimp only
  rw [if_pos (by omega)]
  unfold schedExecute
  dsimp only
  rw [if_pos rfl]
  rfl

/-- An entry whose action reports a status below 16 is executed. -/
theorem schedDone_state {st : Nat} (hst : (schedAct s h e false).2 = st) (hok : st < 0x10) :
    rd (schedDone s h e) h (Reg.TIME_SCH_STAT_STATE e) = 2 := by
  unfold schedDone
  rw [hst, if_pos hok]
  exact (schedEnd_spec _ h e (by decide) (by omega)).1

theorem schedDone_block (s : State) (h : HalfId) (e : Nat) : Keeps 0x8 (schedAct s h e false).1 (schedDone s h e) :=
  schedEnd_block _ h e _ _

theorem schedAct_stocktake (hact : rd s h (Reg.TIME_SCH_CFG_ACTION e) = 1) :
    schedAct s h e false = (stkCmd s h 1 1, stkStatus s h 1) := by
  unfold schedAct
  rw [hact]
  rfl

theorem schedAct_setSwitch (hact : rd s h (Reg.TIME_SCH_CFG_ACTION e) = 2) :
    schedAct s h e false = schedSwitch s h (rd s h (Reg.TIME_SCH_CFG_ARG e)) e := by
  unfold schedAct
  rw [hact]
  rfl

theorem schedAct_trigger (hact : rd s h (Reg.TIME_SCH_CFG_ACTION e) = 3) :
    schedAct s h e false = schedTrigger s h (rd s h (Reg.TIME_SCH_CFG_ARG e)) false := by
  unfold schedAct
  rw [hact]
  rfl

theorem schedAct_inject (hact : rd s h (Reg.TIME_SCH_CFG_ACTION e) = 4) :
    schedAct s h e false = (injStart s h (rd s h (Reg.TIME_SCH_CFG_ARG e)) s.ticks (now s) 2 e,
      rd (injStart s h (rd s h (Reg.TIME_SCH_CFG_ARG e)) s.ticks (now s) 2 e) h Reg.PCV_INJ_STAT_STATUS) := by
  unfold schedAct
  rw [hact]
  rfl

theorem schedAct_pulse (hact : rd s h (Reg.TIME_SCH_CFG_ACTION e) = 5) :
    schedAct s h e false = schedPulse s h (rd s h (Reg.TIME_SCH_CFG_ARG e)) := by
  unfold schedAct
  rw [hact]
  rfl

/-- A take of an entry (R654). -/
theorem scheduledStocktake_spec (hacts : rd s h (Reg.TIME_SCH_CFG_ACTION e) = 1) (hst : stkStatus s h 1 = 0x02) :
    rd (schedDone s h e) h (Reg.TIME_SCH_STAT_STATE e) = 2 ∧ rd (schedDone s h e) h Reg.STK_STAT_ORIGIN = 1 ∧
      rd (schedDone s h e) h Reg.STK_TAKE_NS_NS = nsOf (now s) % 2 ^ 32 := by
  have hact := schedAct_stocktake hacts
  have htake : (schedAct s h e false).1 = takeStk (stkResult s h 1) h 1 none := by rw [hact]; exact stkCmd_take 1 hst
  have hk := schedDone_block s h e
  rw [htake] at hk
  obtain ⟨hns, horigin, -, -⟩ := takeStk_spec (stkResult s h 1) h (origin := 1) (by decide) none
  refine ⟨schedDone_state (st := 0x02) (by rw [hact]; exact hst) (by decide), ?_, ?_⟩
  · rw [hk.rd h _ (by decide) (by decide), horigin]
  · rw [hk.rd h _ (by decide) (by decide), hns, now_stkResult]

/-! The switch of an entry (R113, R653). -/

theorem setStatus_range (s : State) (h : HalfId) (code g : Nat) :
    setStatus s h code g = 1 ∨ (0x10 ≤ setStatus s h code g ∧ setStatus s h code g < 256) := by
  unfold setStatus leaderStatus
  dsimp only
  repeat' split
  all_goals simp_all

/-- The switch's command, reported. -/
def switchReported (s : State) (h : HalfId) (g : Nat) : State :=
  wr (result s h Reg.SET_RESULT_SEQ Reg.SET_RESULT_CMD Reg.SET_RESULT_STATUS 2 (setStatus s h 2 g)) h Reg.SET_RESULT_DETAIL 0

theorem schedSwitch_eq (s : State) (h : HalfId) (g e : Nat) : schedSwitch s h g e =
    (if setStatus s h 2 g = 1 then switchStart (switchReported s h g) h g (some e) else switchReported s h g,
      setStatus s h 2 g) := rfl

theorem pendSet_switchStart (s : State) (h : HalfId) (g e : Nat) :
    ∃ p, (half (switchStart s h g (some e)) h).mode.pendSet = some p ∧ p.switch = true ∧ p.group = g ∧ p.entry = some e := by
  refine ⟨{ switch := true, group := g, acked := alone s h, entry := some e }, ?_, rfl, rfl, rfl⟩
  simp only [switchStart, setPendSet, half_wr, half_wrB, modMode, half_setHalf_same]

theorem scheduledSetSwitch_spec (hacts : rd s h (Reg.TIME_SCH_CFG_ACTION e) = 2) :
    rd (schedDone s h e) h (Reg.TIME_SCH_STAT_STATUS e) = setStatus s h 2 (rd s h (Reg.TIME_SCH_CFG_ARG e)) ∧
      (setStatus s h 2 (rd s h (Reg.TIME_SCH_CFG_ARG e)) = 1 →
        ∃ p, (half (schedDone s h e) h).mode.pendSet = some p ∧ p.switch = true ∧
          p.group = rd s h (Reg.TIME_SCH_CFG_ARG e) ∧ p.entry = some e) ∧
      (setStatus s h 2 (rd s h (Reg.TIME_SCH_CFG_ARG e)) ≠ 1 → rd (schedDone s h e) h (Reg.TIME_SCH_STAT_STATE e) = 3) := by
  have hact := (schedAct_setSwitch hacts).trans (schedSwitch_eq s h _ e)
  have hst : (schedAct s h e false).2 = setStatus s h 2 (rd s h (Reg.TIME_SCH_CFG_ARG e)) := by rw [hact]
  have hrange := setStatus_range s h 2 (rd s h (Reg.TIME_SCH_CFG_ARG e))
  refine ⟨?_, fun hone => ?_, fun hne => ?_⟩
  · unfold schedDone
    rw [hst]
    exact (schedEnd_spec _ h e (by split <;> decide) (by omega)).2
  · have hfst : (schedAct s h e false).1 =
        switchStart (switchReported s h (rd s h (Reg.TIME_SCH_CFG_ARG e))) h (rd s h (Reg.TIME_SCH_CFG_ARG e)) (some e) := by
      rw [hact]; exact if_pos hone
    rw [(schedDone_block s h e).mode (by decide) h, hfst]
    exact pendSet_switchStart _ h _ e
  · unfold schedDone
    rw [hst, if_neg (by omega)]
    exact (schedEnd_spec _ h e (by decide) (by omega)).1

/-! The triggers of an entry (R547). -/

theorem recTrigger_spec (hacts : rd s h (Reg.TIME_SCH_CFG_ACTION e) = 3)
    (hst : acqStatus s h 1 (rd s h (Reg.TIME_SCH_CFG_ARG e)) = 0x02) (hpf : rdB s h Reg.PWR_PF_STAT_PF = false) :
    rd (schedDone s h e) h (Reg.TIME_SCH_STAT_STATE e) = 2 ∧
      ∀ a < 8, bit (rd s h (Reg.TIME_SCH_CFG_ARG e)) a = true → (areaRun s h a).state = 1 →
        (areaRun (schedDone s h e) h a).state = 2 := by
  have hact := schedAct_trigger hacts
  have htrig : schedTrigger s h (rd s h (Reg.TIME_SCH_CFG_ARG e)) false =
      (triggerAreas (result s h Reg.ACQ_RESULT_SEQ Reg.ACQ_RESULT_CMD Reg.ACQ_RESULT_STATUS 1 0x02) h
        (rd s h (Reg.TIME_SCH_CFG_ARG e)) 4 0
        (now (result s h Reg.ACQ_RESULT_SEQ Reg.ACQ_RESULT_CMD Reg.ACQ_RESULT_STATUS 1 0x02)) (1024 + 2048 * b2n false), 0x02) := by
    unfold schedTrigger
    rw [hst]
    rfl
  have hk : Keeps 0x8000 s (result s h Reg.ACQ_RESULT_SEQ Reg.ACQ_RESULT_CMD Reg.ACQ_RESULT_STATUS 1 0x02) :=
    keeps_result h _ _ _ 1 0x02 (by decide) (by decide) (by decide) (Keeps.refl _ s)
  refine ⟨schedDone_state (st := 0x02) (by rw [hact, htrig]) (by decide), fun a ha hbit hrun => ?_⟩
  rw [areaRun_of_keeps (schedDone_block s h e) (by decide), hact, htrig]
  exact (triggerAreas_spec ha hbit (by rw [areaRec_of_keeps hk (by decide)]; exact areaRec_of_acqStatus hst ha hbit)
    (by rw [areaRun_of_keeps hk (by decide)]; exact hrun) ((hk.rdB h _ (by decide) (by decide)).trans hpf) 4 0 _ _).1

/-! The injection and the pulse of an entry (R247, R648). -/

/-- An accepted set runs from the tick it was started at. -/
theorem injStart_tick {n : Nat} (tick t origin entry : Nat) (hst : (injStatus s h n).1 = 0x01) : ∃ r bs, r.set = n ∧ r.tick = tick ∧
    injStart s h n tick t origin entry = ledgerH (injRunning (injReported s h 0x01 (injStatus s h n).2) h n r) h 0x0604 bs := by
  simp only [injStart, hst, ne_eq, not_true_eq_false, if_false]
  exact ⟨_, _, rfl, rfl, rfl⟩

theorem testInject_spec (hacts : rd s h (Reg.TIME_SCH_CFG_ACTION e) = 4)
    (hst : (injStatus s h (rd s h (Reg.TIME_SCH_CFG_ARG e))).1 = 0x01) :
    rd (schedDone s h e) h (Reg.TIME_SCH_STAT_STATE e) = 2 ∧
      ∃ r, (half (schedDone s h e) h).fe.inj = some r ∧ r.set = rd s h (Reg.TIME_SCH_CFG_ARG e) ∧ r.tick = s.ticks := by
  have hact := schedAct_inject hacts
  obtain ⟨r, bs, hset, htick, hinj⟩ := injStart_tick s.ticks (now s) 2 e hst
  obtain ⟨hstatus, -, -, hrun⟩ := injRunning_spec (injReported s h 0x01 (injStatus s h (rd s h (Reg.TIME_SCH_CFG_ARG e))).2) h r
    (set_lt_of_injStatus hst)
  have hone : (schedAct s h e false).2 = 0x01 := by
    rw [hact]
    change rd (injStart s h (rd s h (Reg.TIME_SCH_CFG_ARG e)) s.ticks (now s) 2 e) h Reg.PCV_INJ_STAT_STATUS = 0x01
    rw [hinj, rd_ledgerH_injStat _ _ _ _ rfl, hstatus]
    exact rd_injReported_status s h _ (by decide)
  refine ⟨schedDone_state hone (by decide), r, ?_, hset, htick⟩
  rw [(schedDone_block s h e).fe (by decide) h, hact]
  change (half (injStart s h (rd s h (Reg.TIME_SCH_CFG_ARG e)) s.ticks (now s) 2 e) h).fe.inj = some r
  rw [hinj, fe_ledgerH]
  exact hrun

theorem pulse_spec (hacts : rd s h (Reg.TIME_SCH_CFG_ACTION e) = 5) (hholds : holds s h = true)
    (hmode : rd s .a Reg.TIME_PPS_MODE = 3) :
    rd (schedDone s h e) h (Reg.TIME_SCH_STAT_STATE e) = 2 ∧
      (schedDone s h e).field.time.ppsEnd = s.ticks + 125 * rd s h (Reg.TIME_SCH_CFG_ARG e) := by
  have hact : schedAct s h e false =
      (modTime s fun g => { g with ppsEnd := s.ticks + 125 * rd s h (Reg.TIME_SCH_CFG_ARG e) }, 0x02) :=
    (schedAct_pulse hacts).trans (if_pos (by simp [hholds, hmode]))
  refine ⟨schedDone_state (st := 0x02) (by rw [hact]) (by decide), ?_⟩
  rw [(schedDone_block s h e).time (by decide), hact]
  rfl

/-! Arming and disarming (R652). -/

theorem bits_putBit_top (w hi lo : Nat) (b : Bool) (hle : lo ≤ hi) (hlt : hi < 31) : bits (putBit w 31 b) hi lo = bits w hi lo := by
  refine Nat.eq_of_testBit_eq fun i => ?_
  unfold bits
  rw [Nat.testBit_mod_two_pow, Nat.testBit_mod_two_pow, Nat.testBit_div_two_pow, Nat.testBit_div_two_pow]
  by_cases hi' : i < hi + 1 - lo
  · rw [← bit_eq_testBit, ← bit_eq_testBit, bit_putBit_ne b (by omega)]
  · simp [hi']

theorem cfgWord_action (cfg : Nat) (b : Bool) : bits (putBit (cfg % 2 ^ 32) 31 b) 27 24 = cfg / 2 ^ 24 % 16 := by
  rw [bits_putBit_top _ _ _ _ (by decide) (by decide)]
  unfold bits
  omega

theorem cfgWord_arg (cfg : Nat) (b : Bool) : bits (putBit (cfg % 2 ^ 32) 31 b) 23 0 = cfg % 2 ^ 24 := by
  rw [bits_putBit_top _ _ _ _ (by decide) (by decide)]
  unfold bits
  omega

theorem schedStore_spec (s : State) (h : HalfId) (e w : Nat) :
    rd (schedStore s h e w) h (Reg.TIME_SCH_CFG_ACTION e) = bits w 27 24 ∧
      rd (schedStore s h e w) h (Reg.TIME_SCH_CFG_ARG e) = bits w 23 0 := by
  refine ⟨?_, rd_wr_same' _ h (Reg.TIME_SCH_CFG_ARG e) _ (by decide : 0 ≤ 23) (by decide : 23 < 32) (bits_lt w 23 0)⟩
  exact (rd_wr_disjoint _ h (Reg.TIME_SCH_CFG_ARG e) (Reg.TIME_SCH_CFG_ACTION e) _ rfl (by decide : 0 ≤ 23)
    (by decide : 24 ≤ 27) (by decide : 23 < 32) (.inl (by decide : 23 < 24))).trans
    (rd_wr_same' _ h (Reg.TIME_SCH_CFG_ACTION e) _ (by decide : 24 ≤ 27) (by decide : 27 < 32) (bits_lt w 27 24))

/-- A stored configuration leaves the registers of the entry's time. -/
theorem rd_schedStore_bank (s : State) (h : HalfId) (e w : Nat) {g : Fld} {a : Nat} (hg : g.key = a + e * 0x100000000)
    (ha : a % 0x100000000 ≠ 0x30090) : rd (schedStore s h e w) h g = rd s h g :=
  (rd_wr_schedCfg _ h (Reg.TIME_SCH_CFG_ARG e) _ rfl hg ha).trans
    ((rd_wr_schedCfg _ h (Reg.TIME_SCH_CFG_ACTION e) _ rfl hg ha).trans (rd_wr_schedCfg _ h (Reg.TIME_SCH_CFG_POLICY e) _ rfl hg ha))

/-- The entry is armed. -/
def entryArmed (s : State) (h : HalfId) (e : Nat) : State :=
  wr (wrB (wrB (wr s h (Reg.TIME_SCH_STAT_STATE e) 1) h (Reg.TIME_SCH_CFG_ARM e) true) h (Reg.TIME_SCH_STAT_LATE e) false)
    h (Reg.TIME_SCH_STAT_STATUS e) 0

/-- Arming leaves an entry's other registers, and of its configuration all fields below the ARM bit. -/
theorem rd_entryArmed (s : State) (h : HalfId) (e : Nat) {g : Fld} {a : Nat} (hg : g.key = a + e * 0x100000000)
    (ha : a % 0x100000000 ≠ 0x30094) (hcfg : a % 0x100000000 ≠ 0x30090 ∨ (a = 0x30090 ∧ g.lo ≤ g.hi ∧ g.hi < 31)) :
    rd (entryArmed s h e) h g = rd s h g := by
  refine (rd_wr_schedStat _ h (Reg.TIME_SCH_STAT_STATUS e) _ rfl hg ha).trans
    ((rd_wr_schedStat _ h (Reg.TIME_SCH_STAT_LATE e) _ rfl hg ha).trans
      (Eq.trans ?_ (rd_wr_schedStat s h (Reg.TIME_SCH_STAT_STATE e) 1 rfl hg ha)))
  rcases hcfg with hne | ⟨rfl, hle, hlt⟩
  · exact rd_wr_schedCfg _ h (Reg.TIME_SCH_CFG_ARM e) _ rfl hg hne
  · exact rd_wrB_disj _ h (Reg.TIME_SCH_CFG_ARM e) g true hg (by decide : 31 ≤ 31) hle (by decide : 31 < 32) (.inr hlt)

theorem schedArmed_entryArmed (s : State) (h : HalfId) (e : Nat) :
    schedArmed (entryArmed s h e) h e = true ∧ rdB (entryArmed s h e) h (Reg.TIME_SCH_CFG_ARM e) = true := by
  have hstat : ∀ u : State, rd (wr (wrB u h (Reg.TIME_SCH_STAT_LATE e) false) h (Reg.TIME_SCH_STAT_STATUS e) 0) h
      (Reg.TIME_SCH_STAT_STATE e) = rd u h (Reg.TIME_SCH_STAT_STATE e) := fun u =>
    (rd_wr_disjoint _ h (Reg.TIME_SCH_STAT_STATUS e) (Reg.TIME_SCH_STAT_STATE e) 0 rfl (by decide : 0 ≤ 7) (by decide : 30 ≤ 31)
      (by decide : 7 < 32) (.inl (by decide : 7 < 30))).trans
      (rd_wrB_disj u h (Reg.TIME_SCH_STAT_LATE e) (Reg.TIME_SCH_STAT_STATE e) false rfl (by decide : 29 ≤ 29) (by decide : 30 ≤ 31)
        (by decide : 29 < 32) (.inl (by decide : 29 < 30)))
  constructor
  · refine beq_iff_eq.mpr ((hstat _).trans ((rd_wr_schedCfg _ h (Reg.TIME_SCH_CFG_ARM e) _ rfl
      (show (Reg.TIME_SCH_STAT_STATE e).key = _ from rfl) (by decide)).trans ?_))
    exact rd_wr_same' _ h (Reg.TIME_SCH_STAT_STATE e) 1 (by decide : 30 ≤ 31) (by decide : 31 < 32) (by decide : 1 < 2 ^ 2)
  · refine (congrArg (· != 0) ((rd_wr_schedStat _ h (Reg.TIME_SCH_STAT_STATUS e) _ rfl
      (show (Reg.TIME_SCH_CFG_ARM e).key = _ from rfl) (by decide)).trans (rd_wr_schedStat _ h (Reg.TIME_SCH_STAT_LATE e) _ rfl
      (show (Reg.TIME_SCH_CFG_ARM e).key = _ from rfl) (by decide)))).trans ?_
    exact rdB_wrB_same _ h (Reg.TIME_SCH_CFG_ARM e) true rfl (by decide : 31 < 32)

theorem schedTime_entryArmed (s : State) (h : HalfId) (e w : Nat) :
    schedTime (entryArmed (schedStore s h e w) h e) h e = schedTime s h e := by
  have hkeep : ∀ {g : Fld} {a : Nat}, g.key = a + e * 0x100000000 → a % 0x100000000 ≠ 0x30094 → a % 0x100000000 ≠ 0x30090 →
      rd (entryArmed (schedStore s h e w) h e) h g = rd s h g := fun hg hs hc =>
    (rd_entryArmed _ h e hg hs (.inl hc)).trans (rd_schedStore_bank s h e w hg hc)
  unfold schedTime
  rw [hkeep (g := Reg.TIME_SCH_NS_NS e) rfl (by decide) (by decide),
    hkeep (g := Reg.TIME_SCH_SEC_LO_SEC e) rfl (by decide) (by decide),
    hkeep (g := Reg.TIME_SCH_SEC_HI_SEC e) rfl (by decide) (by decide)]

theorem scheduleArm_accepted (hal : alive s h = true) (he : e < 16) {cfg : Nat}
    (hok : schedArgOk (cfg / 2 ^ 24 % 16) (cfg % 2 ^ 24) = true) (hnow : now s ≤ schedTime s h e) :
    Completes (.scheduleArm h e cfg) s fun t =>
      schedArmed t h e = true ∧ rdB t h (Reg.TIME_SCH_CFG_ARM e) = true ∧
      rd t h (Reg.TIME_SCH_CFG_ACTION e) = cfg / 2 ^ 24 % 16 ∧ rd t h (Reg.TIME_SCH_CFG_ARG e) = cfg % 2 ^ 24 := by
  have hlater : ¬ schedTime (entryArmed (schedStore s h e (putBit (cfg % 2 ^ 32) 31 true)) h e) h e <
      now (entryArmed (schedStore s h e (putBit (cfg % 2 ^ 32) 31 true)) h e) := by
    rw [schedTime_entryArmed]
    exact Nat.not_lt.2 hnow
  have hcfg : schedCfg s h (e % 16) (putBit (cfg % 2 ^ 32) 31 true) =
      entryArmed (schedStore s h e (putBit (cfg % 2 ^ 32) 31 true)) h e := by
    unfold schedCfg
    dsimp only
    rw [Nat.mod_eq_of_lt he, cfgWord_action, cfgWord_arg, hok, if_pos rfl, bit_putBit_same, if_pos rfl, if_neg (by decide)]
    exact if_neg hlater
  obtain ⟨haction, harg⟩ := schedStore_spec s h e (putBit (cfg % 2 ^ 32) 31 true)
  obtain ⟨harmed, harm⟩ := schedArmed_entryArmed (schedStore s h e (putBit (cfg % 2 ^ 32) 31 true)) h e
  refine ⟨_, congrArg Host.Outcome.next ((access_of_alive hal _).trans hcfg), harmed, harm, ?_, ?_⟩
  · rw [rd_entryArmed _ h e (a := 0x30090) rfl (by decide) (.inr ⟨rfl, (by decide : 24 ≤ 27), (by decide : 27 < 31)⟩), haction,
      cfgWord_action]
  · rw [rd_entryArmed _ h e (a := 0x30090) rfl (by decide) (.inr ⟨rfl, (by decide : 0 ≤ 23), (by decide : 23 < 31)⟩), harg,
      cfgWord_arg]

theorem scheduleArm_illegal (hal : alive s h = true) (he : e < 16) {cfg : Nat}
    (hbad : schedArgOk (cfg / 2 ^ 24 % 16) (cfg % 2 ^ 24) = false) :
    Completes (.scheduleArm h e cfg) s fun t =>
      rd t h (Reg.TIME_SCH_STAT_STATUS e) = 0x10 ∧ schedArmed t h e = schedArmed s h e := by
  have hcfg : schedCfg s h (e % 16) (putBit (cfg % 2 ^ 32) 31 true) = wr s h (Reg.TIME_SCH_STAT_STATUS e) 0x10 := by
    unfold schedCfg
    dsimp only
    rw [Nat.mod_eq_of_lt he, cfgWord_action, cfgWord_arg, hbad, bit_putBit_same]
    rfl
  refine ⟨_, congrArg Host.Outcome.next ((access_of_alive hal _).trans hcfg),
    rd_wr_same' _ h (Reg.TIME_SCH_STAT_STATUS e) 0x10 (by decide : 0 ≤ 7) (by decide : 7 < 32) (by decide : 0x10 < 2 ^ 8), ?_⟩
  exact congrArg (· == 1) (rd_wr_disjoint s h (Reg.TIME_SCH_STAT_STATUS e) (Reg.TIME_SCH_STAT_STATE e) 0x10 rfl (by decide : 0 ≤ 7)
    (by decide : 30 ≤ 31) (by decide : 7 < 32) (.inl (by decide : 7 < 30)))

/-- The last writes of a disarmed entry, whatever was stored before. -/
theorem disarmed_spec (u : State) (h : HalfId) (e : Nat) :
    schedArmed (wrB (wr u h (Reg.TIME_SCH_STAT_STATE e) 0) h (Reg.TIME_SCH_CFG_ARM e) false) h e = false ∧
      rdB (wrB (wr u h (Reg.TIME_SCH_STAT_STATE e) 0) h (Reg.TIME_SCH_CFG_ARM e) false) h (Reg.TIME_SCH_CFG_ARM e) = false := by
  refine ⟨?_, rdB_wrB_same _ h (Reg.TIME_SCH_CFG_ARM e) false rfl (by decide : 31 < 32)⟩
  have hzero : rd (wrB (wr u h (Reg.TIME_SCH_STAT_STATE e) 0) h (Reg.TIME_SCH_CFG_ARM e) false) h (Reg.TIME_SCH_STAT_STATE e) = 0 :=
    (rd_wr_schedCfg _ h (Reg.TIME_SCH_CFG_ARM e) _ rfl (show (Reg.TIME_SCH_STAT_STATE e).key = _ from rfl) (by decide)).trans
      (rd_wr_same' _ h (Reg.TIME_SCH_STAT_STATE e) 0 (by decide : 30 ≤ 31) (by decide : 31 < 32) (by decide : 0 < 2 ^ 2))
  exact congrArg (· == 1) hzero

theorem scheduleDisarm_spec (hal : alive s h = true) (he : e < 16) (cfg : Nat) :
    Completes (.scheduleDisarm h e cfg) s fun t =>
      schedArmed t h e = false ∧ rdB t h (Reg.TIME_SCH_CFG_ARM e) = false := by
  have hcfg : ∃ u, schedCfg s h (e % 16) (putBit (cfg % 2 ^ 32) 31 false) =
      wrB (wr u h (Reg.TIME_SCH_STAT_STATE e) 0) h (Reg.TIME_SCH_CFG_ARM e) false := by
    unfold schedCfg
    dsimp only
    rw [Nat.mod_eq_of_lt he, bit_putBit_same, if_neg Bool.false_ne_true]
    exact ⟨_, rfl⟩
  obtain ⟨u, hcfg⟩ := hcfg
  exact ⟨_, congrArg Host.Outcome.next ((access_of_alive hal _).trans hcfg), disarmed_spec u h e⟩

end Schedule

/-- Settles O48: takes and domain takes by what the take writes, entries by what each action reports. -/
theorem stocktakeAndSchedule : Obligations.StocktakeAndSchedule := by
  unfold Obligations.StocktakeAndSchedule
  refine ⟨fun h s => take_spec, fun h s => domainTakeCmd_spec, fun h d s => domainTakeRelay_spec, fun h s => domainTakeDue_spec,
    fun h e cfg s hal he => ⟨scheduleArm_accepted hal he, scheduleArm_illegal hal he, scheduleDisarm_spec hal he cfg⟩,
    fun h e s he harm hnow => ?_⟩
  have hrun : ∀ {act : Nat} {P : State → Prop} (c : Instr), exec c s = .next (schedDue s h (e % 16) act) →
      rd s h (Reg.TIME_SCH_CFG_ACTION e) = act → P (schedDone s h e) → Completes c s P := fun c hc hact hP =>
    ⟨_, hc.trans (congrArg Host.Outcome.next (by rw [Nat.mod_eq_of_lt he]; exact schedDue_now harm hnow hact)), hP⟩
  exact ⟨fun hact hst => hrun _ rfl hact (scheduledStocktake_spec hact hst),
    fun hact => hrun _ rfl hact (scheduledSetSwitch_spec hact),
    fun hact hst hpf => hrun _ rfl hact (recTrigger_spec hact hst hpf),
    fun hact hst => hrun _ rfl hact (testInject_spec hact hst),
    fun hact hholds hmode => hrun _ rfl hact (pulse_spec hact hholds hmode)⟩

end Sys2Proof.Machine
end

section
/-!
PROOFS. Lanes, the frames that a half sends, its publications and the points that go stale (R671 to R695): what sending a
frame changes, and what it leaves of the Arcade part.
-/

namespace Sys2Proof.Machine

open Sys2Proof (HalfId Instr Byte)

/-! ### Parts of the Arcade state -/

section ArcadePart

variable {s t : State} {h : HalfId} {m : Nat}

@[simp] theorem ard_modArd (s : State) (h : HalfId) (f : Arcade → Arcade) : (half (modArd s h f) h).ard = f (half s h).ard := by
  simp only [modArd, half_setHalf_same]

@[simp] theorem rd_modArd (s : State) (h g : HalfId) (f : Arcade → Arcade) (e : Fld) : rd (modArd s h f) g e = rd s g e := by
  simp only [modArd, rd_setHalf]

theorem modArd_block (s : State) (h : HalfId) (f : Arcade → Arcade) : Keeps 0x100000000000 s (modArd s h f) :=
  keeps_modArd h f (by decide) (Keeps.refl _ s)

theorem ardCfg_of_keeps (hk : Keeps m s t) (hm : m.testBit 36 = false) (h : HalfId) : ardCfg t h = ardCfg s h := by
  simp only [ardCfg, hk.image hm h]

theorem ardActive_of_keeps (hk : Keeps m s t) (himage : m.testBit 36 = false) (hmode : m.testBit 35 = false) (h : HalfId) :
    ardActive t h = ardActive s h := by
  simp only [ardActive, ardCfg_of_keeps hk himage, present_of_keeps hk, hk.mode hmode h]

theorem pointState_of_ard (hp : (half t h).ard.points = (half s h).ard.points) (k : Nat) : pointState t h k = pointState s h k := by
  unfold pointState
  rw [hp]

/-- Each lane's field stands in ARD_STAT, above the ring's. -/
theorem laneUpFld_spec (lane : Nat) : (laneUpFld lane).key = 0x160010 ∧ (laneUpFld lane).lo = (laneUpFld lane).hi ∧
    (laneUpFld lane).hi < 32 ∧ 28 < (laneUpFld lane).lo := by
  unfold laneUpFld
  split
  · decide
  · split <;> decide

theorem laneUp_of_keeps (hk : Keeps m s t) (hm : m.testBit 22 = false) (h : HalfId) (lane : Nat) :
    rdB t h (laneUpFld lane) = rdB s h (laneUpFld lane) := by
  have hb : keyBlock (laneUpFld lane).key = 22 := by rw [(laneUpFld_spec lane).1]; decide
  exact hk.rdB h _ (by rw [hb]; decide) (by rw [hb]; exact hm)

end ArcadePart

/-! ### Sending a frame (R676, R682) -/

section Sending

variable {s : State} {h : HalfId} {cls type dst : Nat} {payload : List Byte}

/-- What sending leaves of the Arcade part: everything but the SEQs and the latest frames. -/
def AsideSending {β : Type} (p : Arcade → β) : Prop := ∀ d q x, p { d with seqs := q, tx := x } = p d

theorem asideSending_eraBump {β : Type} {p : Arcade → β} (hp : AsideSending p) (s : State) (h g : HalfId) (cause : Nat) :
    p (half (eraBump s h cause) g).ard = p (half s g).ard := by
  unfold eraBump
  dsimp only
  rw [(keeps_ledgerH h 0x1306 _ (by decide) (Keeps.refl 0x10238401240000 _)).ard (by decide) g]
  by_cases hg : g = h
  · subst hg
    rw [ard_modArd]
    refine (hp _ [] _).trans (congrArg (fun x => p x.ard) (Eq.trans ?_ (half_wrapInc s g g Reg.ARD_ERA_ERA)))
    cases g <;> rfl
  · refine congrArg (fun x => p x.ard) ((half_setHalf_ne _ _ _ _ hg).trans (Eq.trans ?_ (half_wrapInc s h g Reg.ARD_ERA_ERA)))
    cases h <;> cases g <;> rfl

theorem asideSending_seqs {β : Type} {p : Arcade → β} (hp : AsideSending p) (s : State) (h g : HalfId)
    (q : Arcade → List (Nat × Nat)) :
    p (half (modArd s h fun d => { d with seqs := q d }) g).ard = p (half s g).ard := by
  by_cases hg : g = h
  · subst hg
    rw [ard_modArd]
    exact hp _ _ _
  · exact congrArg (fun x => p x.ard) (half_setHalf_ne _ _ _ _ hg)

theorem ard_count (s : State) (h g : HalfId) (i n : Nat) : (half (count s h i n) g).ard = (half s g).ard :=
  (keeps_count h i n (by decide) (Keeps.refl 0x20000000000 s)).ard (by decide) g

theorem ard_foldl_count {α : Type} (s : State) (h g : HalfId) (i : α → Nat) (l : List α) :
    (half (l.foldl (fun s e => count s h (i e)) s) g).ard = (half s g).ard :=
  foldl_unchanged (fun u => (half u g).ard) (fun u e => ard_count u h g (i e) 1) l s

/-- The frames of the latest sending are those whose lanes are up. -/
theorem ard_putFrames (s : State) (h : HalfId) (fs : List (Nat × List Byte)) :
    (half (putFrames s h fs) h).ard = { (half s h).ard with tx := fs.filter fun e => rdB s h (laneUpFld e.1) } :=
  (ard_foldl_count _ h h (fun e : Nat × List Byte => 0x294 + 4 * e.1 + 1) _).trans (ard_modArd s h _)

theorem ard_putFrames_ne (s : State) {h g : HalfId} (hg : g ≠ h) (fs : List (Nat × List Byte)) :
    (half (putFrames s h fs) g).ard = (half s g).ard :=
  (ard_foldl_count _ h g (fun e : Nat × List Byte => 0x294 + 4 * e.1 + 1) _).trans (congrArg (·.ard) (half_setHalf_ne _ _ _ _ hg))

theorem putFrames_block (s : State) (h : HalfId) (fs : List (Nat × List Byte)) : Keeps 0x120000000000 s (putFrames s h fs) :=
  keeps_putFrames h fs (by decide) (Keeps.refl _ s)

theorem asideSending_putFrames {β : Type} {p : Arcade → β} (hp : AsideSending p) (s : State) (h g : HalfId)
    (fs : List (Nat × List Byte)) : p (half (putFrames s h fs) g).ard = p (half s g).ard := by
  by_cases hg : g = h
  · subst hg
    rw [ard_putFrames]
    exact hp _ _ _
  · rw [ard_putFrames_ne s hg]

theorem asideSending_buildFrame {β : Type} {p : Arcade → β} (hp : AsideSending p) (s : State) (h g : HalfId)
    (cls type dst : Nat) (payload : List Byte) : p (half (buildFrame s h cls type dst payload).2 g).ard = p (half s g).ard := by
  unfold buildFrame
  dsimp only
  rw [asideSending_seqs hp _ h g (fun d => nset d.seqs cls _)]
  split
  · exact asideSending_eraBump hp s h g 2
  · rfl

theorem asideSending_sendFrame {β : Type} {p : Arcade → β} (hp : AsideSending p) (s : State) (h g : HalfId)
    (cls type dst : Nat) (payload : List Byte) : p (half (sendFrame s h cls type dst payload) g).ard = p (half s g).ard := by
  unfold sendFrame
  split
  · exact (asideSending_putFrames hp _ h g _).trans (asideSending_buildFrame hp s h g cls type dst payload)
  · rfl

/-! The frame that is built. -/

theorem unLe_le (v : Nat) : unLe (le 4 v) = v % 2 ^ 32 := by
  simp only [le, List.range_succ, List.range_zero, List.nil_append, List.cons_append, List.map_cons, List.map_nil, unLe,
    BitVec.toNat_ofNat]
  omega

/-- The CRC stands past the first 60 bytes, whose fields it leaves. -/
theorem frNum_withCrc {b : List Byte} {a n : Nat} (hb : a + n ≤ b.length) (hn : a + n ≤ 60) :
    frNum (withCrc b) a n = frNum b a n := by
  unfold frNum withCrc
  refine congrArg unLe ?_
  rw [List.take_drop, List.take_drop]
  refine congrArg (List.drop a) ?_
  rw [List.take_append_of_le_length (by simp; omega), List.take_take, Nat.min_eq_left hn]

/-- Class, type and SEQ of a frame with 11 bytes between the first and the SEQ. -/
theorem header_fields (hcls : cls < 4) (htype : type < 64) {mid rest : List Byte} (hmid : mid.length = 11) {q : Nat}
    (hq : q < 2 ^ 32) :
    frClass (withCrc (BitVec.ofNat 8 (cls + 4 * type) :: (mid ++ (le 4 q ++ rest)))) = cls ∧
      frType (withCrc (BitVec.ofNat 8 (cls + 4 * type) :: (mid ++ (le 4 q ++ rest)))) = type ∧
      frSeq (withCrc (BitVec.ofNat 8 (cls + 4 * type) :: (mid ++ (le 4 q ++ rest)))) = q := by
  have hle : (le 4 q).length = 4 := by simp [le]
  have hfirst : frNum (withCrc (BitVec.ofNat 8 (cls + 4 * type) :: (mid ++ (le 4 q ++ rest)))) 0 1 = cls + 4 * type := by
    rw [frNum_withCrc (by simp) (by decide)]
    simp only [frNum, List.drop_zero, List.take_succ_cons, List.take_zero, unLe, BitVec.toNat_ofNat]
    omega
  refine ⟨?_, ?_, ?_⟩
  · unfold frClass
    rw [hfirst]
    omega
  · unfold frType
    rw [hfirst]
    omega
  · unfold frSeq
    rw [frNum_withCrc (by simp only [List.length_cons, List.length_append, hmid, hle]; omega) (by decide)]
    unfold frNum
    rw [List.drop_succ_cons, List.drop_left' hmid, List.take_left' hle, unLe_le]
    omega

/-- With SEQs left in the era, a frame is built with the next one. -/
theorem buildFrame_spec (hcls : cls < 4) (htype : type < 64) (hseq : nget (half s h).ard.seqs cls < 2 ^ 32) :
    (buildFrame s h cls type dst payload).2 =
        modArd s h (fun d => { d with seqs := nset d.seqs cls (nget (half s h).ard.seqs cls + 1) }) ∧
      frClass (buildFrame s h cls type dst payload).1 = cls ∧ frType (buildFrame s h cls type dst payload).1 = type ∧
      frSeq (buildFrame s h cls type dst payload).1 = nget (half s h).ard.seqs cls := by
  unfold buildFrame
  dsimp only
  rw [if_neg (by omega)]
  refine ⟨rfl, ?_⟩
  simp only [List.append_assoc, List.cons_append, List.nil_append]
  refine header_fields (mid := _ :: (le 2 _ ++ (le 2 dst ++ (0 :: _ :: le 4 (rd s h Reg.ARD_ERA_ERA))))) hcls htype ?_ hseq
  simp [le]

/-- What a half that uses its lanes does of a frame, while its era has SEQs left. -/
theorem sendFrame_spec (hact : ardActive s h = true) (hcls : cls < 4) (htype : type < 64)
    (hseq : nget (half s h).ard.seqs cls < 2 ^ 32) :
    nget (half (sendFrame s h cls type dst payload) h).ard.seqs cls = nget (half s h).ard.seqs cls + 1 ∧
      Keeps 0x120000000000 s (sendFrame s h cls type dst payload) := by
  obtain ⟨hbuild, -⟩ := buildFrame_spec (dst := dst) (payload := payload) hcls htype hseq
  unfold sendFrame
  rw [if_pos hact]
  dsimp only
  rw [hbuild]
  refine ⟨?_, Keeps.trans ((modArd_block s h _).mono (by decide)) (putFrames_block _ h _)⟩
  rw [ard_putFrames, ard_modArd]
  exact nget_nset_same _ _ _

end Sending

/-! ### Lanes (R671) -/

section Lanes

variable {s : State} {h : HalfId} {lane : Nat}

/-- A write to another field of ARD_STAT, or to another register, leaves a lane's state. -/
theorem rd_wr_lane (s : State) (h : HalfId) (lane : Nat) (f : Fld) (v : Nat) (hmod : f.key < 0x100000000)
    (hf : f.key = 0x160010 → f.lo ≤ f.hi ∧ f.hi < 28) : rd (wr s h f v) h (laneUpFld lane) = rd s h (laneUpFld lane) := by
  obtain ⟨hkey, hone, hhi, hlo⟩ := laneUpFld_spec lane
  by_cases hk : f.key = 0x160010
  · obtain ⟨hle, hlt⟩ := hf hk
    exact rd_wr_disjoint s h f _ v (hkey.trans hk.symm) hle (by omega) (by omega) (.inl (by omega))
  · exact rd_wr_addr s h h f _ v (by rw [hkey]; omega)

/-- What the ring shows of itself leaves the lanes' states (R673). -/
theorem laneUp_ringUpdate (s : State) (h : HalfId) (lane : Nat) :
    rdB (ringUpdate s h) h (laneUpFld lane) = rdB s h (laneUpFld lane) := by
  have hcause : ∀ (u : State) (cause code ev : Nat),
      rdB (tallySet u h 13 cause code ev) h (laneUpFld lane) = rdB u h (laneUpFld lane) := fun u cause code ev =>
    laneUp_of_keeps (keeps_tallySet h 13 cause code ev (by decide) (Keeps.refl 0x1023C4012C0000 u)) (by decide) h lane
  unfold ringUpdate
  extract_lets brk unit size st old idx s1 s2 s3 s4
  have hend : rdB s4 h (laneUpFld lane) = rdB s h (laneUpFld lane) := by
    refine (hcause _ _ _ _).trans ((hcause _ _ _ _).trans (congrArg (· != 0) ?_))
    exact (rd_wr_lane s1 h lane Reg.ARD_STAT_RING st (by decide) (fun _ => by decide)).trans
      ((rd_wr_lane _ h lane Reg.ARD_MAP_INDEX idx (by decide) (by decide)).trans
        ((rd_wr_lane _ h lane Reg.ARD_MAP_BREAKS _ (by decide) (by decide)).trans
          (rd_wr_lane s h lane Reg.ARD_MAP_SIZE size (by decide) (by decide))))
  split
  · exact (laneUp_of_keeps (keeps_ledgerH h _ _ (by decide) (Keeps.refl 0x10238401240000 s4)) (by decide) h lane).trans hend
  · exact hend

/-- After its link has changed, a lane shows it. -/
theorem laneChange_spec (hpres : present s h = true) (hlane : lane < 3) (up : Bool) :
    rdB (laneChange s h lane up) h (laneUpFld lane) = up := by
  obtain ⟨hkey, hone, hhi, hlo⟩ := laneUpFld_spec lane
  have hshow : rdB (wrB s h (laneUpFld lane) up) h (laneUpFld lane) = up := rdB_wrB_same s h _ up hone hhi
  have hwrap : ∀ (f : Fld) (b : Bool), f.key = 0x160010 → f.lo ≤ f.hi → f.hi < 29 →
      rdB (wrB (wrB s h (laneUpFld lane) up) h f b) h (laneUpFld lane) = up := fun f b hf hle hlt =>
    (rdB_wrB_beside _ h f _ b (hkey.trans hf.symm) hle (by omega) (by omega) (.inl (by omega))).trans hshow
  unfold laneChange
  split
  next hskip =>
    simp only [hpres, Bool.not_true, Bool.false_or, Bool.or_eq_true, decide_eq_true_eq, beq_iff_eq] at hskip
    rcases hskip with hbig | hsame
    · omega
    · exact hsame
  next =>
    refine (laneUp_ringUpdate _ h lane).trans ((laneUp_of_keeps (keeps_ledgerH h _ _ (by decide) (Keeps.refl 0x10238401240000 _)) (by decide) h
      lane).trans ?_)
    split
    · exact hwrap _ _ rfl (by decide) (by decide)
    · split
      · exact hwrap _ _ rfl (by decide) (by decide)
      · exact hshow

end Lanes

/-! ### MAP and peer-delay requests (R673, R695) -/

section PeriodicFrames

variable {s : State} {h : HalfId}

theorem laneUtil_key {l : Nat} (hl : l < 3) : (Reg.ARD_LANE_UTIL l).key = 0x160020 + l * 4 := instKey_of_lt hl

/-- The utilisation of one lane is taken over with its peak. -/
def utilShown (util peak : List Nat) (h : HalfId) (s : State) (l : Nat) : State :=
  wr (wr s h (Reg.ARD_LANE_UTIL l) (min 100 (util.getD l 0))) h (Reg.ARD_LANE_PEAK l)
    (max (rd (wr s h (Reg.ARD_LANE_UTIL l) (min 100 (util.getD l 0))) h (Reg.ARD_LANE_PEAK l)) (min 100 (peak.getD l 0)))

theorem laneUtil_utilShown (util peak : List Nat) (s : State) (h : HalfId) (l : Nat) :
    rd (utilShown util peak h s l) h (Reg.ARD_LANE_UTIL l) = min 100 (util.getD l 0) :=
  (rd_wr_disjoint _ h (Reg.ARD_LANE_PEAK l) (Reg.ARD_LANE_UTIL l) _ rfl (by decide : 16 ≤ 23) (by decide : 24 ≤ 31)
    (by decide : 23 < 32) (.inl (by decide : 23 < 24))).trans
    (rd_wr_same' s h (Reg.ARD_LANE_UTIL l) _ (by decide : 24 ≤ 31) (by decide : 31 < 32)
      (show min 100 (util.getD l 0) < 2 ^ 8 by omega))

theorem laneUtil_utilShown_ne (util peak : List Nat) (s : State) (h : HalfId) {l k : Nat} (hl : l < 3) (hk : k < 3) (hne : k ≠ l) :
    rd (utilShown util peak h s k) h (Reg.ARD_LANE_UTIL l) = rd s h (Reg.ARD_LANE_UTIL l) := by
  have hkeys : (Reg.ARD_LANE_UTIL l).key % 0x100000000 ≠ (Reg.ARD_LANE_UTIL k).key % 0x100000000 := by
    rw [laneUtil_key hl, laneUtil_key hk]
    omega
  exact (rd_wr_addr _ h h (Reg.ARD_LANE_PEAK k) (Reg.ARD_LANE_UTIL l) _ hkeys).trans
    (rd_wr_addr s h h (Reg.ARD_LANE_UTIL k) (Reg.ARD_LANE_UTIL l) _ hkeys)

/-- The lanes' utilisation, taken over. -/
def utilsShown (util peak : List Nat) (h : HalfId) (s : State) : State := (List.range 3).foldl (utilShown util peak h) s

theorem laneUtil_utilsShown (util peak : List Nat) (s : State) (h : HalfId) {l : Nat} (hl : l < 3) :
    rd (utilsShown util peak h s) h (Reg.ARD_LANE_UTIL l) = min 100 (util.getD l 0) := by
  have hkeep : ∀ u k, k < 3 → k ≠ l → rd (utilShown util peak h u k) h (Reg.ARD_LANE_UTIL l) = rd u h (Reg.ARD_LANE_UTIL l) :=
    fun u k hk hne => laneUtil_utilShown_ne util peak u h hl hk hne
  change rd (utilShown util peak h (utilShown util peak h (utilShown util peak h s 0) 1) 2) h (Reg.ARD_LANE_UTIL l) = _
  have hcases : l = 0 ∨ l = 1 ∨ l = 2 := by omega
  rcases hcases with rfl | rfl | rfl
  · rw [hkeep _ 2 (by decide) (by decide), hkeep _ 1 (by decide) (by decide), laneUtil_utilShown]
  · rw [hkeep _ 2 (by decide) (by decide), laneUtil_utilShown]
  · exact laneUtil_utilShown util peak _ h 2

theorem utilsShown_block (util peak : List Nat) (h : HalfId) (s : State) : Keeps 0x400000 s (utilsShown util peak h s) :=
  foldl_keeps (P := Keeps 0x400000 s) (fun u l hu =>
    keeps_wr h (Reg.ARD_LANE_PEAK l) _ (fits_instKey _ _ _ _ _ (by decide) (by decide) (by decide))
      (keeps_wr h (Reg.ARD_LANE_UTIL l) _ (fits_instKey _ _ _ _ _ (by decide) (by decide) (by decide)) hu)) _ (Keeps.refl _ s)

theorem mapSend_spec (util peak : List Nat) (hact : ardActive s h = true) (hseq : nget (half s h).ard.seqs 2 < 2 ^ 32) :
    Completes (.mapSend h util peak) s fun t =>
      nget (half t h).ard.seqs 2 = nget (half s h).ard.seqs 2 + 1 ∧
      ∀ l < 3, rd t h (Reg.ARD_LANE_UTIL l) = min 100 (util.getD l 0) := by
  obtain ⟨u, payload, hk, hsend⟩ : ∃ u payload, Keeps 0x1023C4012C0000 (utilsShown util peak h s) u ∧
      sendMap s h util peak = sendFrame u h 2 6 0x3FFF payload :=
    ⟨_, _, keeps_tallySet h 13 6 _ _ (by decide) (Keeps.refl _ _), rfl⟩
  have hall : Keeps 0x1023C4016C0000 s u := ((utilsShown_block util peak h s).mono (by decide)).trans (hk.mono (by decide))
  have hard := hall.ard (by decide) h
  obtain ⟨hseqs, hframe⟩ := sendFrame_spec (s := u) (h := h) (cls := 2) (type := 6) (dst := 0x3FFF) (payload := payload)
    ((ardActive_of_keeps hall (by decide) (by decide) h).trans hact) (by decide) (by decide) (by rw [hard]; exact hseq)
  refine ⟨_, congrArg Host.Outcome.next ((if_pos hact).trans hsend), by rw [hseqs, hard], fun l hl => ?_⟩
  have hblock : keyBlock (Reg.ARD_LANE_UTIL l).key = 22 := by
    rw [laneUtil_key hl]
    unfold keyBlock
    omega
  rw [hframe.rd h _ (by rw [hblock]; decide) (by rw [hblock]; decide), hk.rd h _ (by rw [hblock]; decide) (by rw [hblock]; decide),
    laneUtil_utilsShown util peak s h hl]

theorem pdelaySend_spec (hact : ardActive s h = true) (hseq : nget (half s h).ard.seqs 2 < 2 ^ 32) :
    Completes (.pdelaySend h) s fun t =>
      nget (half t h).ard.seqs 2 = nget (half s h).ard.seqs 2 + 1 ∧
      ∀ e ∈ (half t h).ard.tx, rdB s h (laneUpFld e.1) = true ∧ frType e.2 = 4 ∧ frSeq e.2 = nget (half s h).ard.seqs 2 := by
  obtain ⟨hbuild, -, htype, hfseq⟩ := buildFrame_spec (s := s) (h := h) (cls := 2) (type := 4) (dst := 0x3FFF)
    (payload := timeBytes (now s)) (by decide) (by decide) hseq
  have hsend : sendPdelay s h = putFrames (modArd s h fun d => { d with seqs := nset d.seqs 2 (nget (half s h).ard.seqs 2 + 1) }) h
      [(0, (buildFrame s h 2 4 0x3FFF (timeBytes (now s))).1), (1, (buildFrame s h 2 4 0x3FFF (timeBytes (now s))).1),
        (2, (buildFrame s h 2 4 0x3FFF (timeBytes (now s))).1)] := by
    rw [← hbuild]
    exact if_pos hact
  refine ⟨_, congrArg Host.Outcome.next hsend, ?_, ?_⟩
  · rw [ard_putFrames, ard_modArd]
    exact nget_nset_same _ _ _
  · rw [ard_putFrames]
    intro e he
    obtain ⟨hmem, hup⟩ := List.mem_filter.mp he
    refine ⟨by simpa only [rdB, rd_modArd] using hup, ?_⟩
    have hframe : e.2 = (buildFrame s h 2 4 0x3FFF (timeBytes (now s))).1 := by
      simp only [List.mem_cons, List.not_mem_nil, or_false] at hmem
      rcases hmem with rfl | rfl | rfl <;> rfl
    rw [hframe]
    exact ⟨htype, hfseq⟩

end PeriodicFrames

/-! ### Publications (R688, R691) -/

section Publications

variable {s : State} {h : HalfId} {k : Nat} {r : PubRec}

theorem mayPublish_modArd (s : State) (h : HalfId) (f : Arcade → Arcade) (cls : Nat) :
    mayPublish (modArd s h f) h cls = mayPublish s h cls := by
  simp only [mayPublish, leaderPublishes, modeOf, acts, rdB, rd_modArd]

/-- The SEQ class that a publication of a point class uses. -/
theorem sendPoint_seqs (hact : ardActive s h = true) (hmay : mayPublish s h r.cls = true)
    (hseq : nget (half s h).ard.seqs (if r.cls = 0 then 0 else 2) < 2 ^ 32) (w : Nat) (changed : Bool) (at_ : Nat) :
    nget (half (sendPoint s h r w changed at_) h).ard.seqs (if r.cls = 0 then 0 else 2) =
      nget (half s h).ard.seqs (if r.cls = 0 then 0 else 2) + 1 := by
  unfold sendPoint
  rw [if_neg (by simp [hmay])]
  by_cases hcls : r.cls = 0
  · rw [if_pos hcls, if_pos hcls] at *
    exact (sendFrame_spec hact (by decide) (by decide) hseq).1
  · rw [if_neg hcls, if_neg hcls] at *
    exact (sendFrame_spec hact (by decide) (by decide) hseq).1

theorem asideSending_sendPoint {β : Type} {p : Arcade → β} (hp : AsideSending p) (s : State) (h g : HalfId) (r : PubRec) (w : Nat)
    (changed : Bool) (at_ : Nat) : p (half (sendPoint s h r w changed at_) g).ard = p (half s g).ard := by
  unfold sendPoint
  split
  · rfl
  · split
    · exact asideSending_sendFrame hp s h g _ _ _ _
    · exact asideSending_sendFrame hp s h g _ _ _ _

/-- The part of the Arcade state that a publication notes before it is sent. -/
def pubNoted (s : State) (h : HalfId) (k : Nat) (r : PubRec) (changed : Bool) : State :=
  modArd s h fun d => { d with
    published := nset d.published k (pubWord s h r)
    repeats := if r.cls = 0 && changed then nset d.repeats k 2 else d.repeats
    changeAt := if changed then nset d.changeAt k (now s) else d.changeAt }

theorem publish_eq (hr : (ardCfg s h).pubs[k]? = some r) (changed : Bool) :
    publish s h k changed = if changed then gooseScan (sendPoint (pubNoted s h k r changed) h r (pubWord s h r) changed (now s)) h
      else sendPoint (pubNoted s h k r changed) h r (pubWord s h r) changed (now s) := by
  unfold publish
  rw [hr]
  rfl

theorem ard_pubNoted (s : State) (h : HalfId) (k : Nat) (r : PubRec) (changed : Bool) :
    (half (pubNoted s h k r changed) h).ard.seqs = (half s h).ard.seqs ∧
      nget (half (pubNoted s h k r changed) h).ard.published k = pubWord s h r := by
  unfold pubNoted
  rw [ard_modArd]
  exact ⟨rfl, nget_nset_same _ _ _⟩

theorem bazaarRefresh_spec (hrun : running s h = true) (hpause : pubPaused s h k = false)
    (hr : (ardCfg s h).pubs[k]? = some r) :
    Completes (.bazaarRefresh h k) s fun t =>
      nget (half t h).ard.published k = pubWord s h r ∧
      (ardActive s h = true → mayPublish s h r.cls = true → nget (half s h).ard.seqs (if r.cls = 0 then 0 else 2) < 2 ^ 32 →
        nget (half t h).ard.seqs (if r.cls = 0 then 0 else 2) =
          nget (half s h).ard.seqs (if r.cls = 0 then 0 else 2) + 1) := by
  have hexec := (if_pos (by simp [hrun, hpause])).trans (publish_eq hr false) (a := if (running s h && !pubPaused s h k) = true then
    publish s h k false else s)
  obtain ⟨hseqs, hpub⟩ := ard_pubNoted s h k r false
  refine ⟨_, congrArg Host.Outcome.next hexec, ?_, fun hact hmay hseq => ?_⟩
  · exact (congrArg (nget · k) (asideSending_sendPoint (p := Arcade.published) (fun _ _ _ => rfl) _ h h r _ _ _)).trans hpub
  · refine (sendPoint_seqs ((ardActive_of_keeps (modArd_block s h _) (by decide) (by decide) h).trans hact)
      ((mayPublish_modArd s h _ r.cls).trans hmay) ?_ _ _ _).trans ?_
    · rw [show (half (modArd s h _) h).ard.seqs = _ from hseqs]
      exact hseq
    · rw [show (half (modArd s h _) h).ard.seqs = _ from hseqs]

/-- A repeat is counted down. -/
def repeatTaken (s : State) (h : HalfId) (k : Nat) : State :=
  modArd s h fun d => { d with repeats := nset d.repeats k (nget (half s h).ard.repeats k - 1) }

theorem intertripRepeat_spec (hn : nget (half s h).ard.repeats k ≠ 0) (hr : (ardCfg s h).pubs[k]? = some r) :
    Completes (.intertripRepeat h k) s fun t =>
      nget (half t h).ard.repeats k = nget (half s h).ard.repeats k - 1 ∧
      (ardActive s h = true → mayPublish s h r.cls = true → nget (half s h).ard.seqs (if r.cls = 0 then 0 else 2) < 2 ^ 32 →
        nget (half t h).ard.seqs (if r.cls = 0 then 0 else 2) =
          nget (half s h).ard.seqs (if r.cls = 0 then 0 else 2) + 1) := by
  have hexec : exec (.intertripRepeat h k) s = .next (sendPoint (repeatTaken s h k) h r (pubWord s h r) true
      (nget (half s h).ard.changeAt k)) := by
    change execIntertripRepeat h k s = _
    unfold execIntertripRepeat
    rw [hr]
    dsimp only
    rw [if_neg hn]
    rfl
  have hseqs : (half (repeatTaken s h k) h).ard.seqs = (half s h).ard.seqs := by
    unfold repeatTaken
    rw [ard_modArd]
  refine ⟨_, hexec, ?_, fun hact hmay hseq => ?_⟩
  · refine (congrArg (nget · k) (asideSending_sendPoint (p := Arcade.repeats) (fun _ _ _ => rfl) _ h h r _ _ _)).trans ?_
    unfold repeatTaken
    rw [ard_modArd]
    exact nget_nset_same _ _ _
  · refine (sendPoint_seqs ((ardActive_of_keeps (modArd_block s h _) (by decide) (by decide) h).trans hact)
      ((mayPublish_modArd s h _ r.cls).trans hmay) ?_ _ _ _).trans ?_
    · rw [show (half (modArd s h _) h).ard.seqs = _ from hseqs]
      exact hseq
    · rw [show (half (modArd s h _) h).ard.seqs = _ from hseqs]

end Publications

/-! ### The points that a half holds (R690) -/

section Points

variable {s : State} {h : HalfId} {k : Nat}

/-- The points of a half stay where the Arcade part does. -/
theorem points_of_keeps {m : Nat} {t : State} (hk : Keeps m s t) (hm : m.testBit 44 = false) (h : HalfId) :
    (half t h).ard.points = (half s h).ard.points := by rw [hk.ard hm h]

theorem points_publish (s : State) (h : HalfId) (k : Nat) (changed : Bool) :
    (half (publish s h k changed) h).ard.points = (half s h).ard.points := by
  cases hr : (ardCfg s h).pubs[k]?
  case none =>
    unfold publish
    rw [hr]
  case some r =>
    have hsend : (half (sendPoint (pubNoted s h k r changed) h r (pubWord s h r) changed (now s)) h).ard.points =
        (half s h).ard.points :=
      (asideSending_sendPoint (p := Arcade.points) (fun _ _ _ => rfl) _ h h r _ _ _).trans (by unfold pubNoted; rw [ard_modArd])
    rw [publish_eq hr]
    split
    · exact (points_of_keeps (keeps_gooseScan h (by decide) (Keeps.refl 0x400000800000 _)) (by decide) h).trans hsend
    · exact hsend

/-- New decisions publish and record, and leave the points (R404, R688). -/
theorem points_decideOut (s : State) (h : HalfId) : (half (decideOut s h) h).ard.points = (half s h).ard.points := by
  unfold decideOut
  dsimp only
  refine (points_of_keeps (keeps_signalVote h (by decide) (Keeps.refl 0x1023C5012C2800 _)) (by decide) h).trans ?_
  unfold publishChanges
  refine (foldl_unchanged (fun u => (half u h).ard.points) (fun u e => ?_) _ _).trans ?_
  · dsimp only
    split
    · exact points_publish u h e.2 true
    · rfl
  · refine (foldl_unchanged (fun u => (half u h).ard.points) (fun u g => ?_) _ _).trans ?_
    · split
      · exact points_of_keeps (keeps_groupRise h g (by decide) (Keeps.refl 0x12238401240000 u)) (by decide) h
      · rfl
    · simp only [half_wr]

/-- What the points feed leaves them as they are. -/
theorem points_pointsFeed (s : State) (h : HalfId) (k : Nat) : pointState (pointsFeed s h) h k = pointState s h k := by
  refine pointState_of_ard ?_ k
  unfold pointsFeed
  rw [points_of_keeps (keeps_edgeTriggers h (by decide) (Keeps.refl 0x2040000008000 _)) (by decide) h,
    points_of_keeps (keeps_gooseScan h (by decide) (Keeps.refl 0x400000800000 _)) (by decide) h, points_decideOut]

/-- The point marked stale, counted and its cause set. -/
def pointMarked (s : State) (h : HalfId) (k : Nat) : State :=
  modArd s h fun d => { d with points := sset (fun _ => default) d.points k { pointState s h k with stale := true } }

def staleShown (s : State) (h : HalfId) (k : Nat) : State :=
  tallySet (wr (pointMarked s h k) h Reg.ARD_BZ_STALE_COUNT (rd (pointMarked s h k) h Reg.ARD_BZ_STALE_COUNT + 1)) h 13 5 1 0x1307

theorem staleShown_spec (s : State) (h : HalfId) (k : Nat) :
    (pointState (staleShown s h k) h k).stale = true ∧ rd (staleShown s h k) h Reg.ARD_BZ_STALE_COUNT =
      (rd s h Reg.ARD_BZ_STALE_COUNT + 1) % 2 ^ (Reg.ARD_BZ_STALE_COUNT.hi + 1 - Reg.ARD_BZ_STALE_COUNT.lo) := by
  have hk : Keeps 0x1023C4012C0000 (wr (pointMarked s h k) h Reg.ARD_BZ_STALE_COUNT
      (rd (pointMarked s h k) h Reg.ARD_BZ_STALE_COUNT + 1)) (staleShown s h k) :=
    keeps_tallySet h 13 5 1 0x1307 (by decide) (Keeps.refl _ _)
  constructor
  · rw [pointState_of_ard (points_of_keeps hk (by decide) h)]
    unfold pointState
    rw [half_wr, pointMarked, ard_modArd, sget_sset_same]
  · rw [hk.rd h _ (by decide) (by decide), rd_wr_same _ h Reg.ARD_BZ_STALE_COUNT _ (by decide) (by decide), pointMarked, rd_modArd]

/-- A point that goes stale: the report of it, at most once per second, leaves the mark and the count. -/
theorem pointGoesStale_spec (hsub : ((ardCfg s h).subs[k]?).isSome = true) (hfresh : (pointState s h k).stale = false) :
    (pointState (pointGoesStale s h k) h k).stale = true ∧ rd (pointGoesStale s h k) h Reg.ARD_BZ_STALE_COUNT =
      (rd s h Reg.ARD_BZ_STALE_COUNT + 1) % 2 ^ (Reg.ARD_BZ_STALE_COUNT.hi + 1 - Reg.ARD_BZ_STALE_COUNT.lo) := by
  obtain ⟨r, hr⟩ := Option.isSome_iff_exists.mp hsub
  have hnoted : ∀ f : Arcade → Arcade, (∀ d, (f d).points = d.points) →
      (pointState (modArd (staleShown s h k) h f) h k).stale = true ∧ rd (modArd (staleShown s h k) h f) h Reg.ARD_BZ_STALE_COUNT =
        (rd s h Reg.ARD_BZ_STALE_COUNT + 1) % 2 ^ (Reg.ARD_BZ_STALE_COUNT.hi + 1 - Reg.ARD_BZ_STALE_COUNT.lo) := fun f hf => by
    obtain ⟨hstale, hcount⟩ := staleShown_spec s h k
    have hpoints : (half (modArd (staleShown s h k) h f) h).ard.points = (half (staleShown s h k) h).ard.points := by
      rw [ard_modArd]
      exact hf _
    rw [pointState_of_ard hpoints, rd_modArd]
    exact ⟨hstale, hcount⟩
  unfold pointGoesStale
  rw [hr]
  dsimp only
  rw [if_neg (by simp [hfresh])]
  split
  · obtain ⟨hstale, hcount⟩ := hnoted (fun d => { d with staleNew := 0, staleAt := s.ticks + 1 }) (fun _ => rfl)
    have hk : ∀ (u : State) (fs : List Byte), Keeps 0x10238401240000 u (ledgerH u h 0x1307 fs) := fun u fs =>
      keeps_ledgerH h 0x1307 fs (by decide) (Keeps.refl _ u)
    exact ⟨(congrArg PointState.stale (pointState_of_ard (points_of_keeps (hk _ _) (by decide) h) k)).trans hstale,
      ((hk _ _).rd h Reg.ARD_BZ_STALE_COUNT (by decide) (by decide)).trans hcount⟩
  · exact hnoted _ fun _ => rfl

theorem pointStale_spec (hrun : running s h = true) (hsub : ((ardCfg s h).subs[k]?).isSome = true)
    (hfresh : (pointState s h k).stale = false) :
    Completes (.pointStale h k) s fun t =>
      (pointState t h k).stale = true ∧
      ∃ u, t = pointsFeed u h ∧ rd u h Reg.ARD_BZ_STALE_COUNT =
        (rd s h Reg.ARD_BZ_STALE_COUNT + 1) % 2 ^ (Reg.ARD_BZ_STALE_COUNT.hi + 1 - Reg.ARD_BZ_STALE_COUNT.lo) := by
  obtain ⟨hstale, hcount⟩ := pointGoesStale_spec hsub hfresh
  exact ⟨_, congrArg Host.Outcome.next (if_pos (by simp [hrun, hfresh])),
    (congrArg PointState.stale (points_pointsFeed _ h k)).trans hstale, _, rfl, hcount⟩

end Points

/-- Settles O50: frames by what sending leaves (`AsideSending`), points by what a stale one shows. -/
theorem lanesAndPublications : Obligations.LanesAndPublications := by
  unfold Obligations.LanesAndPublications
  refine ⟨fun h lane s hpres hlane => ⟨⟨_, rfl, laneChange_spec hpres hlane true⟩, ⟨_, rfl, laneChange_spec hpres hlane false⟩⟩,
    fun h util peak s hact hseq => ⟨mapSend_spec util peak hact hseq, pdelaySend_spec hact hseq⟩,
    fun h k r s => bazaarRefresh_spec, fun h k r s => intertripRepeat_spec, fun h k s => pointStale_spec, fun h s => ⟨_, rfl, ?_⟩⟩
  dsimp only
  rw [tally_tallySet]
  exact nget_nset_same _ _ _

end Sys2Proof.Machine
end

section
/-!
PROOFS. Received Arcade frames (R673 to R695): the frame that passes every check of R683, and what each type then does.
-/

namespace Sys2Proof.Machine

open Sys2Proof (HalfId Instr Byte)

/-! ### A frame that passes the checks (R683) -/

section Received

variable {s : State} {h : HalfId} {lane : Nat} {f : List Byte}

/-- The verdict on a frame rests on the configuration, the keys, the replay windows, the police counts and the time. -/
theorem frameCheck_congr {t : State} (himage : (half t h).image = (half s h).image) (hard : (half t h).ard = (half s h).ard)
    (hstore : t.store = s.store) (hregs : t.regs = s.regs) (hticks : t.ticks = s.ticks) (hnow : now t = now s) :
    frameCheck t h lane f = frameCheck s h lane f := by
  have hcfg : ardCfg t h = ardCfg s h := by simp only [ardCfg, himage]
  have hmode : modeOf t h = modeOf s h := by simp only [modeOf, rd, word, hregs]
  have hsync : synced t = synced s := by simp only [synced, rdB, rd, word, hregs]
  have htag : tagCheck t h f = tagCheck s h f := by simp only [tagCheck, ringKey, keyWords, hcfg, hstore]
  have hreplay : replayFails t h f = replayFails s h f := by simp only [replayFails, hard, hsync, hnow]
  have hallow : streamAllowance t h f = streamAllowance s h f := by simp only [streamAllowance, hcfg]
  have hpoints : publishedPoints t h (frSrc f) = publishedPoints s h (frSrc f) := by simp only [publishedPoints, hcfg]
  have hcount : ∀ k w, policeCount t h k w = policeCount s h k w := fun k w => by
    unfold policeCount policeTicks
    rw [hard, hticks]
  have hlimits : policeLimits t h lane f = policeLimits s h lane f := by unfold policeLimits; rw [hallow, hpoints]
  have hpolice : policed t h lane f = policed s h lane f := by
    unfold policed
    rw [hlimits]
    exact congrArg (policeLimits s h lane f).any (funext fun l => by rw [hcount])
  simp only [frameCheck, htag, hreplay, hpolice, hmode]

theorem frameCheck_count (s : State) (h : HalfId) (i n lane : Nat) (f : List Byte) :
    frameCheck (count s h i n) h lane f = frameCheck s h lane f := by
  have hk : Keeps 0x20000000000 s (count s h i n) := keeps_count h i n (by decide) (Keeps.refl _ s)
  exact frameCheck_congr (hk.image (by decide) h) (hk.ard (by decide) h) (hk.store (by decide)) (by cases h <;> rfl)
    (hk.ticks (by decide)) (hk.now (by decide))

/-- A frame that passed: counted, policed and entered into its replay window. -/
def frameEntered (s : State) (h : HalfId) (lane : Nat) (f : List Byte) : State :=
  replayTake (policePass (count s h (0x294 + 4 * lane)) h lane f) h f

/-- It has also gone on (R678). -/
def frameTaken (s : State) (h : HalfId) (lane : Nat) (f : List Byte) : State := forwardFrame (frameEntered s h lane f) h lane f

theorem frameEntered_block (s : State) (h : HalfId) (lane : Nat) (f : List Byte) :
    Keeps 0x120000000000 s (frameEntered s h lane f) :=
  keeps_replayTake h f (by decide) (keeps_policePass h lane f (by decide) (keeps_count h _ _ (by decide) (Keeps.refl _ s)))

theorem frameTaken_block (s : State) (h : HalfId) (lane : Nat) (f : List Byte) : Keeps 0x120000000000 s (frameTaken s h lane f) :=
  keeps_forwardFrame h lane f (by decide) (frameEntered_block s h lane f)

theorem bridgeRefuses_of_keeps {m : Nat} {t : State} (hk : Keeps m s t) (hm : m.testBit 36 = false) :
    bridgeRefuses t h lane f = bridgeRefuses s h lane f := by
  simp only [bridgeRefuses, ardCfg_of_keeps hk hm]

/-- A half that uses the lane, up, acts on a frame of its type that passes. -/
theorem receiveFrame_passed {cls type : Nat} (act : State → State) (hact : ardActive s h = true)
    (hup : rdB s h (laneUpFld lane) = true) (hcls : frClass f = cls) (htype : frType f = type) (hcheck : frameCheck s h lane f = 0)
    (hbridge : bridgeRefuses s h lane f = false) :
    receiveFrame s h lane cls type f act = act (frameTaken s h lane f) := by
  have hb : bridgeRefuses (frameEntered s h lane f) h lane f = false :=
    (bridgeRefuses_of_keeps (frameEntered_block s h lane f) (by decide)).trans hbridge
  unfold receiveFrame
  dsimp only
  rw [if_neg (by simp [hact, hup]), if_neg (by simp [hcls, htype]), frameCheck_count, hcheck]
  rw [if_neg (show ¬ (0 : Nat) = 2 by decide), if_neg (show ¬ (0 : Nat) = 7 by decide), if_neg (show ¬ (0 : Nat) ≠ 0 by decide),
    if_pos (show (0 : Nat) = 7 ∨ (0 : Nat) = 0 from .inr rfl)]
  exact if_neg (by rw [Bool.not_eq_true]; exact hb)

theorem receiveLocal_passed {type : Nat} (act : State → State) (hact : ardActive s h = true)
    (hup : rdB s h (laneUpFld lane) = true) (hcls : frClass f = 2) (htype : frType f = type) (hcheck : frameCheck s h lane f = 0) :
    receiveLocal s h lane type f act = act (frameEntered s h lane f) := by
  unfold receiveLocal
  dsimp only
  rw [if_neg (by simp [hact, hup]), if_neg (by simp [hcls, htype]), frameCheck_count, hcheck]
  rfl

/-! What entering a frame leaves of the Arcade part: everything but the police counts, the replay window and the latest
frames. -/

theorem policeBump_ard (s : State) (h : HalfId) (k : Nat) :
    ∃ p, (half (policeBump s h k) h).ard = { (half s h).ard with police := p } := by
  unfold policeBump
  rw [ard_modArd]
  exact ⟨_, rfl⟩

theorem policePass_ard (s : State) (h : HalfId) (lane : Nat) (f : List Byte) :
    ∃ p, (half (policePass s h lane f) h).ard = { (half s h).ard with police := p } := by
  obtain ⟨p, hp⟩ := policeBump_ard s h (policeKey lane f)
  unfold policePass
  dsimp only
  split
  · obtain ⟨q, hq⟩ := policeBump_ard (policeBump s h (policeKey lane f)) h (policeAllKey lane)
    rw [hq, hp]
    exact ⟨q, rfl⟩
  · exact ⟨p, hp⟩

theorem policedCount_ard (s : State) (h : HalfId) (lane : Nat) (f : List Byte) :
    ∃ p, (half (policePass (count s h (0x294 + 4 * lane)) h lane f) h).ard = { (half s h).ard with police := p } := by
  obtain ⟨p, hp⟩ := policePass_ard (count s h (0x294 + 4 * lane)) h lane f
  rw [ard_count] at hp
  exact ⟨p, hp⟩

theorem frameEntered_seqs (s : State) (h : HalfId) (lane : Nat) (f : List Byte) :
    (half (frameEntered s h lane f) h).ard.seqs = (half s h).ard.seqs := by
  obtain ⟨p, hp⟩ := policedCount_ard s h lane f
  unfold frameEntered replayTake
  rw [ard_modArd, hp]

theorem frameTaken_seqs (s : State) (h : HalfId) (lane : Nat) (f : List Byte) :
    (half (frameTaken s h lane f) h).ard.seqs = (half s h).ard.seqs := by
  unfold frameTaken forwardFrame
  rw [ard_putFrames, frameEntered_seqs]

/-- A frame that the replay check passes is in the window it is entered into (R683). -/
theorem seen_replayTake (s : State) (h : HalfId) (f : List Byte) (hfresh : replayFails s h f = false) :
    frSeq f ∈ (sget (fun _ => default) (half (replayTake s h f) h).ard.replay (scKey f) : Replay).seen := by
  unfold replayTake
  rw [ard_modArd, sget_sset_same]
  split
  next => exact List.mem_singleton.mpr rfl
  next hsame =>
    simp only [replayFails, Bool.or_eq_false_iff, decide_eq_false_iff_not, Bool.and_eq_false_iff, beq_eq_false_iff_ne] at hfresh
    obtain ⟨⟨hera, hwindow⟩, -⟩ := hfresh
    simp only [not_or] at hsame hwindow
    have hnear : ¬ frSeq f + 64 < (sget (fun _ => default) (half s h).ard.replay (scKey f) : Replay).newest := by
      rcases hwindow with (hne | hempty) | hin
      · exact absurd (by omega) hne
      · simp [hsame.2] at hempty
      · exact hin.1
    refine List.mem_filter.mpr ⟨List.mem_cons_self, ?_⟩
    simp only [decide_eq_true_eq]
    omega

theorem replayFails_of_check (hcheck : frameCheck s h lane f = 0) : replayFails s h f = false := by
  unfold frameCheck at hcheck
  by_contra hfail
  rw [Bool.not_eq_false] at hfail
  simp only [hfail, if_true] at hcheck
  split at hcheck
  · exact absurd hcheck (by decide)
  · split at hcheck
    · exact absurd hcheck (by assumption)
    · exact absurd hcheck (by decide)

theorem seen_frameTaken (hcheck : frameCheck s h lane f = 0) :
    frSeq f ∈ (sget (fun _ => default) (half (frameTaken s h lane f) h).ard.replay (scKey f) : Replay).seen := by
  obtain ⟨p, hp⟩ := policedCount_ard s h lane f
  have hk : Keeps 0x120000000000 s (policePass (count s h (0x294 + 4 * lane)) h lane f) :=
    keeps_policePass h lane f (by decide) (keeps_count h _ _ (by decide) (Keeps.refl _ s))
  have hfresh : replayFails (policePass (count s h (0x294 + 4 * lane)) h lane f) h f = false := by
    have hsync : synced (policePass (count s h (0x294 + 4 * lane)) h lane f) = synced s := hk.rdB .a _ (by decide) (by decide)
    have hsame : replayFails (policePass (count s h (0x294 + 4 * lane)) h lane f) h f = replayFails s h f := by
      simp only [replayFails, hp, hsync, hk.now (by decide)]
    exact hsame.trans (replayFails_of_check hcheck)
  have hseen := seen_replayTake _ h f hfresh
  unfold frameTaken forwardFrame
  rw [ard_putFrames]
  exact hseen

end Received

/-! ### Points (R684, R690) -/

section ReceivedPoints

variable {s : State} {h : HalfId} {lane : Nat} {f : List Byte}

/-- An accepted value is the point's: received, and not stale. -/
theorem acceptPoint_spec (s : State) (h : HalfId) (k value ttl at_ : Nat) (test : Bool) :
    (pointState (acceptPoint s h k value ttl at_ test) h k).value = value ∧
      (pointState (acceptPoint s h k value ttl at_ test) h k).received = true ∧
      (pointState (acceptPoint s h k value ttl at_ test) h k).stale = false := by
  unfold acceptPoint
  extract_lets old was p s1 s2
  have hp : pointState s1 h k = p := by
    unfold pointState
    rw [show half s1 h = _ from half_setHalf_same ..]
    exact sget_sset_same _ _ _ _
  have hs2 : pointState s2 h k = p := by
    refine (pointState_of_ard ?_ k).trans hp
    change (half (if was then _ else s1) h).ard.points = _
    split
    · rw [half_wr]
    · rfl
  have hend : ∀ (c : Prop) [Decidable c], pointState (if c then tallySet s2 h 13 5 0 0x1307 else s2) h k = p := by
    intro c _
    split
    · exact (pointState_of_ard (points_of_keeps (keeps_tallySet h 13 5 0 0x1307 (by decide) (Keeps.refl 0x1023C4012C0000 s2))
        (by decide) h) k).trans hs2
    · exact hs2
  rw [hend]
  exact ⟨rfl, rfl, rfl⟩

/-- The value of a subscribed point, from its owner, is taken. -/
theorem takePoint_spec {e : Nat × SubRec} {id cls : Nat} (hsub : pointSub s h id cls = some e) (howner : e.2.owner = frSrc f)
    (w at_ : Nat) (test : Bool) :
    (pointState (takePoint s h lane f id cls w at_ test) h e.1).value = w ∧
      (pointState (takePoint s h lane f id cls w at_ test) h e.1).received = true ∧
      (pointState (takePoint s h lane f id cls w at_ test) h e.1).stale = false := by
  have hitem : ∀ u, pointState (bazaarItem u h (frSrc f) id w) h e.1 = pointState u h e.1 := fun u =>
    pointState_of_ard (points_of_keeps (keeps_bazaarItem h _ _ _ (by decide) (Keeps.refl 0x10208001200000 u)) (by decide) h) e.1
  have htaken := acceptPoint_spec s h e.1 w staleTicks at_ test
  unfold takePoint
  rw [hsub]
  dsimp only
  rw [if_neg (by simp [howner])]
  split
  · exact htaken
  · rw [hitem]
    exact htaken

theorem pointSub_of_keeps {m : Nat} {t : State} (hk : Keeps m s t) (hm : m.testBit 36 = false) (h : HalfId) (id cls : Nat) :
    pointSub t h id cls = pointSub s h id cls := by
  unfold pointSub
  rw [ardCfg_of_keeps hk hm]

theorem intertrip_spec {e : Nat × SubRec} (hact : ardActive s h = true) (hup : rdB s h (laneUpFld lane) = true)
    (hcls : frClass f = 0) (htype : frType f = 1) (hcheck : frameCheck s h lane f = 0) (hbridge : bridgeRefuses s h lane f = false)
    (hsub : pointSub s h (frNum f 16 4 % 2 ^ 20) 0 = some e) (howner : e.2.owner = frSrc f) :
    Completes (.intertrip h lane f) s fun t =>
      (pointState t h e.1).value = 256 * (frNum f 16 4 / 2 ^ 24 % 2) + 128 ∧
      (pointState t h e.1).received = true ∧ (pointState t h e.1).stale = false := by
  refine ⟨_, congrArg Host.Outcome.next (receiveFrame_passed _ hact hup hcls htype hcheck hbridge), ?_⟩
  unfold intertripAct
  beta_reduce
  rw [points_pointsFeed]
  exact takePoint_spec ((pointSub_of_keeps (frameTaken_block s h lane f) (by decide) h _ _).trans hsub) howner _ _ _

theorem updateAct_block (s : State) (h : HalfId) (lane : Nat) (f : List Byte) (a : Nat) :
    Keeps 0x1033C4016C0000 s (updateAct s h lane f a) := by
  unfold updateAct
  dsimp only
  split
  · exact keeps_takePoint h lane f _ _ _ _ _ (by decide) (Keeps.refl _ s)
  · exact Keeps.refl _ s

theorem update_spec {e : Nat × SubRec} (hact : ardActive s h = true) (hup : rdB s h (laneUpFld lane) = true)
    (hcls : frClass f = 2) (htype : frType f = 1) (hcheck : frameCheck s h lane f = 0) (hbridge : bridgeRefuses s h lane f = false)
    (hused : bit (frNum f 36 4) 31 = true) (hsub : pointSub s h (frNum f 36 4 % 2 ^ 20) 2 = some e) (howner : e.2.owner = frSrc f) :
    Completes (.update h lane f) s fun t =>
      (pointState t h e.1).value = frNum f 40 4 ∧
      (pointState t h e.1).received = true ∧ (pointState t h e.1).stale = false := by
  have hk : Keeps 0x1233C4016C0000 s (updateAct (frameTaken s h lane f) h lane f 20) :=
    ((frameTaken_block s h lane f).mono (by decide)).trans ((updateAct_block _ h lane f 20).mono (by decide))
  refine ⟨_, congrArg Host.Outcome.next (receiveFrame_passed _ hact hup hcls htype hcheck hbridge), ?_⟩
  dsimp only
  rw [points_pointsFeed, updateAct]
  rw [if_pos hused]
  exact takePoint_spec ((pointSub_of_keeps hk (by decide) h _ _).trans hsub) howner _ _ _

/-- A stream from the unit that its subscription names: the samples go to the differential inputs, and the points feed. -/
theorem stream_spec (hact : ardActive s h = true) (hup : rdB s h (laneUpFld lane) = true) (hcls : frClass f = 1)
    (htype : frType f = 1) (hcheck : frameCheck s h lane f = 0) (hbridge : bridgeRefuses s h lane f = false)
    (hsub : ((ardCfg s h).ssubs.zipIdx.find? fun e => e.1.src == frSrc f && e.1.stream == frNum f 16 1).isSome = true) :
    Completes (.stream h lane f) s fun t =>
      ∃ u, t = pointsFeed u h ∧ frSeq f ∈ (sget (fun _ => default) (half u h).ard.replay (scKey f) : Replay).seen := by
  obtain ⟨e, he⟩ := Option.isSome_iff_exists.mp hsub
  rw [← ardCfg_of_keeps (frameTaken_block s h lane f) (by decide) h] at he
  refine ⟨_, congrArg Host.Outcome.next (receiveFrame_passed _ hact hup hcls htype hcheck hbridge), ?_⟩
  unfold streamAct
  rw [he]
  refine ⟨_, rfl, ?_⟩
  rw [foldl_unchanged (fun u => (half u h).ard) (fun u k =>
    (keeps_streamWord h _ _ _ _ _ (by decide) (Keeps.refl 0x12238401240200 u)).ard (by decide) h) _ _]
  exact seen_frameTaken hcheck

end ReceivedPoints

/-! ### Takes, times, MAP and peer-delay frames (R657, R673, R695) -/

section ReceivedRest

variable {s : State} {h : HalfId} {lane : Nat} {f : List Byte}

theorem receivedDomainTake_spec (hact : ardActive s h = true) (hup : rdB s h (laneUpFld lane) = true) (hcls : frClass f = 2)
    (hcheck : frameCheck s h lane f = 0) (hbridge : bridgeRefuses s h lane f = false) (htype : frType f = 2)
    (hpend : rdB s h Reg.STK_STAT_DPEND = false) (htag : rd s h Reg.STK_DLAST_TAG ≠ frNum f 26 4) (hnow : now s ≤ frTime f 16) :
    Completes (.domainTake h lane f) s fun t =>
      rdB t h Reg.STK_STAT_DPEND = true ∧ (half t h).stk.dTime = frTime f 16 ∧ (half t h).stk.dTag = frNum f 26 4 := by
  have hk := frameTaken_block s h lane f
  obtain ⟨hp, hdtag, hdtime, -, -⟩ := armDomain_spec (s := frameTaken s h lane f) (h := h) (t := frTime f 16) (tag := frNum f 26 4)
    ((hk.rdB h _ (by decide) (by decide)).trans hpend) (by rw [hk.rd h _ (by decide) (by decide)]; exact htag)
    (by rw [hk.now (by decide)]; exact hnow)
  exact ⟨_, congrArg Host.Outcome.next (receiveFrame_passed _ hact hup hcls htype hcheck hbridge), hp, hdtime, hdtag⟩

theorem receivedTimeSync_spec (hact : ardActive s h = true) (hup : rdB s h (laneUpFld lane) = true) (hcls : frClass f = 2)
    (hcheck : frameCheck s h lane f = 0) (hbridge : bridgeRefuses s h lane f = false) (offset : Int) (htype : frType f = 3)
    (hsrc : timeSrc s = 2) (hholds : holds s h = true) (hruns : servoRuns s = true) :
    Completes (.timeSync h lane f offset) s fun t => rd t .a Reg.TIME_OFFSET_NS = ofSigned 32 (satSigned 32 offset) := by
  have hk := frameTaken_block s h lane f
  have hmon := hk.mon (by decide)
  have hsrc' : timeSrc (frameTaken s h lane f) = 2 := (hk.rd .a Reg.TIME_CFG_SRC (by decide) (by decide)).trans hsrc
  have hholds' : holds (frameTaken s h lane f) h = true := by
    unfold holds at hholds ⊢
    rw [hmon]
    exact hholds
  have hruns' : servoRuns (frameTaken s h lane f) = true := by
    unfold servoRuns at hruns ⊢
    rw [hmon, hk.rdB .a Reg.TIME_CFG_SERVO (by decide) (by decide), hk.rdB .a Reg.TIME_STAT_UNLOCK (by decide) (by decide)]
    exact hruns
  refine ⟨_, congrArg Host.Outcome.next (receiveFrame_passed _ hact hup hcls htype hcheck hbridge), ?_⟩
  dsimp only
  rw [if_pos ⟨hsrc', hholds'⟩]
  exact (timeOffset_measure _ offset hruns').trans (ofSigned_mod 32 _)

theorem ownFrame_frameTaken (s : State) (h : HalfId) (lane : Nat) (f : List Byte) :
    ownFrame (frameTaken s h lane f) h f = ownFrame s h f := by
  have hk := frameTaken_block s h lane f
  unfold ownFrame
  rw [ardCfg_of_keeps hk (by decide), hk.rd h Reg.ARD_ERA_ERA (by decide) (by decide), frameTaken_seqs]

/-- The MAP frame of another unit of the ring is noted. -/
theorem receivedMap_noted (hact : ardActive s h = true) (hup : rdB s h (laneUpFld lane) = true) (hcls : frClass f = 2)
    (hcheck : frameCheck s h lane f = 0) (hbridge : bridgeRefuses s h lane f = false) (htype : frType f = 6)
    (hsrc : frSrc f ≠ (ardCfg s h).unit) (hring : frSrc f / 64 = (ardCfg s h).unit / 64) :
    Completes (.map h lane f) s fun t =>
      sget (fun _ => (0, 0, 0)) (half t h).ard.map (frSrc f) = (frNum f 16 2, frNum f 18 2, frNum f 20 1) := by
  have hcfg := ardCfg_of_keeps (frameTaken_block s h lane f) (by decide) h
  have hown : ownFrame (frameTaken s h lane f) h f = false := by
    rw [ownFrame_frameTaken]
    unfold ownFrame
    simp [hsrc]
  refine ⟨_, congrArg Host.Outcome.next (receiveFrame_passed _ hact hup hcls htype hcheck hbridge), ?_⟩
  unfold mapAct
  rw [hown, if_neg Bool.false_ne_true, if_neg (by rw [hcfg]; exact hsrc), if_pos (by rw [hcfg]; exact hring)]
  dsimp only
  rw [(keeps_ringUpdate h (by decide) (Keeps.refl 0x1023C4016C0000 _)).ard (by decide) h, ard_modArd]
  exact sget_sset_same _ _ _ _

/-- A MAP frame with this unit's own address that this half did not send shows the duplicate (log entry 75). -/
theorem receivedMap_duplicate (hact : ardActive s h = true) (hup : rdB s h (laneUpFld lane) = true) (hcls : frClass f = 2)
    (hcheck : frameCheck s h lane f = 0) (hbridge : bridgeRefuses s h lane f = false) (htype : frType f = 6)
    (hsrc : frSrc f = (ardCfg s h).unit) (hown : ownFrame s h f = false) :
    Completes (.map h lane f) s fun t => rdB t h Reg.ARD_STAT_DUP_ADDR = true := by
  have hcfg := ardCfg_of_keeps (frameTaken_block s h lane f) (by decide) h
  have hshown : ∀ (u : State) (fs : List Byte), Keeps 0x1023C4012C0000 u (ledgerH (tallySet u h 13 3 2 0x1304) h 0x1304 fs) := fun u fs =>
    keeps_ledgerH h 0x1304 fs (by decide) (keeps_tallySet h 13 3 2 0x1304 (by decide) (Keeps.refl _ u))
  refine ⟨_, congrArg Host.Outcome.next (receiveFrame_passed _ hact hup hcls htype hcheck hbridge), ?_⟩
  unfold mapAct
  rw [ownFrame_frameTaken, hown, if_neg Bool.false_ne_true, if_pos (by rw [hcfg]; exact hsrc)]
  exact ((hshown _ _).rdB h _ (by decide) (by decide)).trans (rdB_wrB_same _ h Reg.ARD_STAT_DUP_ADDR true rfl (by decide))

/-- A peer-delay request is answered on its lane with the next SEQ. -/
theorem receivedPdelayReq_spec (hact : ardActive s h = true) (hup : rdB s h (laneUpFld lane) = true) (hcls : frClass f = 2)
    (hcheck : frameCheck s h lane f = 0) (htype : frType f = 4) (hseq : nget (half s h).ard.seqs 2 < 2 ^ 32) :
    Completes (.pdelayReq h lane f) s fun t =>
      nget (half t h).ard.seqs 2 = nget (half s h).ard.seqs 2 + 1 ∧
      ∃ g, (half t h).ard.tx = [(lane, g)] ∧ frClass g = 2 ∧ frType g = 5 ∧ frSeq g = nget (half s h).ard.seqs 2 := by
  have hseqs := frameEntered_seqs s h lane f
  obtain ⟨hbuild, hc, ht, hq⟩ := buildFrame_spec (s := frameEntered s h lane f) (h := h) (cls := 2) (type := 5) (dst := frSrc f)
    (payload := timeBytes (now (frameEntered s h lane f))) (by decide) (by decide) (by rw [hseqs]; exact hseq)
  have hlane : rdB (frameEntered s h lane f) h (laneUpFld lane) = true :=
    (laneUp_of_keeps (frameEntered_block s h lane f) (by decide) h lane).trans hup
  refine ⟨_, congrArg Host.Outcome.next (receiveLocal_passed _ hact hup hcls htype hcheck), ?_⟩
  unfold pdelayAnswer
  dsimp only
  rw [hbuild, ard_putFrames, ard_modArd]
  refine ⟨?_, _, ?_, hc, ht, by rw [hq, hseqs]⟩
  · rw [hseqs]
    exact nget_nset_same _ _ _
  · exact List.filter_cons_of_pos (p := fun e : Nat × List Byte => rdB (modArd (frameEntered s h lane f) h _) h (laneUpFld e.1))
      (a := (lane, _)) (l := []) ((laneUp_of_keeps (modArd_block _ h _) (by decide) h lane).trans hlane)

theorem receivedPdelayResp_spec (hact : ardActive s h = true) (hup : rdB s h (laneUpFld lane) = true)
    (hcls : frClass f = 2) (hcheck : frameCheck s h lane f = 0) (delay : Nat) (htype : frType f = 5) :
    Completes (.pdelayResp h lane f delay) s fun t => rd t h (Reg.ARD_LANE_PROP lane) = min delay 0xFFF :=
  ⟨_, congrArg Host.Outcome.next (receiveLocal_passed _ hact hup hcls htype hcheck),
    rd_wr_same' _ h (Reg.ARD_LANE_PROP lane) _ (by decide : 0 ≤ 11) (by decide : 11 < 32)
      (show min delay 0xFFF < 2 ^ 12 by omega)⟩

/-- Bulk bytes addressed to this unit are held by their offset (R677). -/
theorem receivedBulk_spec {k : Nat} (hact : ardActive s h = true) (hup : rdB s h (laneUpFld lane) = true) (hcls : frClass f = 3)
    (htype : frType f = 1) (hcheck : frameCheck s h lane f = 0) (hbridge : bridgeRefuses s h lane f = false)
    (hdst : frDst f = (ardCfg s h).unit ∨ frDst f = 0x3FFF) (hlen : f.length = 64) (hk : k < 28) :
    Completes (.bulk h lane f) s fun t =>
      byteAt (half t h).ard.bulk (frNum f 16 2 * 2 ^ 32 + frNum f 20 4 + k) = f.getD (24 + k) 0 := by
  have hbytes : k < ((f.drop 24).take 28).length := by
    rw [List.length_take, List.length_drop]
    omega
  refine ⟨_, congrArg Host.Outcome.next (receiveFrame_passed _ hact hup hcls htype hcheck hbridge), ?_⟩
  unfold bulkAct
  rw [if_pos (by rw [ardCfg_of_keeps (frameTaken_block s h lane f) (by decide)]; exact hdst)]
  dsimp only
  rw [ard_modArd]
  refine (byteAt_putBytes_inside _ _ _ k hbytes).trans ?_
  rw [List.getElem_take, List.getElem_drop, List.getD_eq_getElem _ _ (by omega)]

end ReceivedRest

/-- Settles O49: one lemma for the frame that passes its checks, then one for what each type does. -/
theorem receivedFramesAct : Obligations.ReceivedFramesAct := by
  unfold Obligations.ReceivedFramesAct
  refine ⟨fun h lane f e s => intertrip_spec, fun h lane f e s => update_spec, fun h lane f s => stream_spec,
    fun h lane f s hact hup hcls hcheck hbridge => ⟨receivedDomainTake_spec hact hup hcls hcheck hbridge,
      receivedTimeSync_spec hact hup hcls hcheck hbridge, receivedMap_noted hact hup hcls hcheck hbridge,
      receivedMap_duplicate hact hup hcls hcheck hbridge⟩,
    fun h lane f delay s _ hact hup hcls hcheck => ⟨receivedPdelayReq_spec hact hup hcls hcheck,
      receivedPdelayResp_spec hact hup hcls hcheck delay⟩,
    fun h lane f k s => receivedBulk_spec⟩

end Sys2Proof.Machine
end

section
/-!
PROOFS. The host port's frames, the sessions and the management core (R706 to R727, R721, R722).
-/

namespace Sys2Proof.Machine

open Sys2Proof (HalfId Instr Byte)

/-! ### The frames of the host port (R721, R722) -/

section HostFrames

variable {s : State} {h : HalfId}

theorem freeVal_regs (s : State) (n : Nat) (h : HalfId) (f : Fld) : rd (freeVal s n).2 h f = rd s h f := rfl
theorem freeVal_half (s : State) (n : Nat) (h : HalfId) : half (freeVal s n).2 h = half s h := by cases h <;> rfl

/-- Collecting a response changes no register. -/
theorem rd_collect (s : State) (h g : HalfId) (f : Fld) : rd (collect s h) g f = rd s g f := by
  unfold collect
  split
  · exact rd_modMgmt ..
  · exact rd_modMgmt ..

/-- A frame collects the response that the frame before it left. -/
theorem miso_collect {r : Nat × Nat × Nat} (hr : (half s h).mgmt.resp = some r) : (half (collect s h) h).mgmt.miso = r := by
  unfold collect
  rw [hr]
  dsimp only
  rw [half_modMgmt_same]

theorem resp_respondWith (s : State) (h : HalfId) (st addr data : Nat) :
    (half (respondWith s h st addr data) h).mgmt.resp = some (st, addr, data) := by
  unfold respondWith
  rw [half_modMgmt_same]

theorem respondOpen_spec (s : State) (h : HalfId) (st addr : Nat) :
    (∃ d, (half (respondOpen s h st addr) h).mgmt.resp = some (st, addr, d)) ∧
      (half (respondOpen s h st addr) h).mgmt.miso = (half s h).mgmt.miso ∧
      ∀ f, rd (respondOpen s h st addr) h f = rd s h f := by
  refine ⟨⟨_, resp_respondWith _ h st addr _⟩, ?_, fun f => rd_modMgmt ..⟩
  unfold respondOpen respondWith
  rw [half_modMgmt_same, freeVal_half]

theorem hostNop_spec (addr : Nat) (hal : alive s h = true) :
    Completes (.hostNop h addr) s fun t =>
      (∃ d, (half t h).mgmt.resp = some (0, addr % 2 ^ 32, d)) ∧
      ∀ r, (half s h).mgmt.resp = some r → (half t h).mgmt.miso = r := by
  obtain ⟨hresp, hmiso, -⟩ := respondOpen_spec (collect s h) h 0 (addr % 2 ^ 32)
  exact ⟨_, congrArg Host.Outcome.next (access_of_alive hal _), hresp, fun r hr => hmiso.trans (miso_collect hr)⟩

theorem hostRefused_false {a : Nat} (hok : unprivBase ≤ a ∨ hostElevated s h = true) : hostRefused s h a = false := by
  unfold hostRefused
  rcases hok with hview | helev
  · simp [Nat.not_lt.2 hview]
  · simp [helev]

/-- An access that the port does not refuse. -/
theorem hostAccess_read {addr : Nat} (hok : unprivBase ≤ addr % 2 ^ 32 ∨ hostElevated s h = true) :
    hostAccess s h addr none = respondWith (regRead (collect s h) h (addr % 2 ^ 32)).2 h 0 (addr % 2 ^ 32)
      (regRead (collect s h) h (addr % 2 ^ 32)).1 :=
  if_neg (by rw [hostRefused_false hok]; decide)

theorem hostAccess_write {addr : Nat} (v : Nat) (hok : unprivBase ≤ addr % 2 ^ 32 ∨ hostElevated s h = true) :
    hostAccess s h addr (some v) = respondWith (regWrite (collect s h) h (addr % 2 ^ 32) v .host) h 0 (addr % 2 ^ 32) (v % 2 ^ 32) :=
  if_neg (by rw [hostRefused_false hok]; decide)

theorem hostRead_spec {addr : Nat} (hal : alive s h = true) (hok : unprivBase ≤ addr % 2 ^ 32 ∨ hostElevated s h = true) :
    Completes (.hostRead h addr) s fun t =>
      (half t h).mgmt.resp = some (0, addr % 2 ^ 32, (regRead (collect s h) h (addr % 2 ^ 32)).1) :=
  ⟨_, congrArg Host.Outcome.next ((access_of_alive hal _).trans (hostAccess_read hok)), resp_respondWith ..⟩

theorem hostWrite_spec {addr : Nat} (v : Nat) (hal : alive s h = true) (hok : unprivBase ≤ addr % 2 ^ 32 ∨ hostElevated s h = true) :
    Completes (.hostWrite h addr v) s fun t => (half t h).mgmt.resp = some (0, addr % 2 ^ 32, v % 2 ^ 32) :=
  ⟨_, congrArg Host.Outcome.next ((access_of_alive hal _).trans (hostAccess_write v hok)), resp_respondWith ..⟩

/-- A privileged address of a port that is not elevated is refused and counted. -/
theorem hostRead_refused {addr : Nat} (hal : alive s h = true) (hpriv : addr % 2 ^ 32 < unprivBase) (helev : hostElevated s h = false) :
    Completes (.hostRead h addr) s fun t =>
      (∃ d, (half t h).mgmt.resp = some (3, addr % 2 ^ 32, d)) ∧
      rd t h Reg.HST_ERR_PRIV = min (rd s h Reg.HST_ERR_PRIV + 1) (fmax Reg.HST_ERR_PRIV) := by
  have hrefused : hostAccess s h addr none = respondOpen (satAdd (collect s h) h Reg.HST_ERR_PRIV 1) h 3 (addr % 2 ^ 32) :=
    if_pos (by rw [hostRefused, decide_eq_true hpriv, helev]; rfl)
  obtain ⟨hresp, -, hrd⟩ := respondOpen_spec (satAdd (collect s h) h Reg.HST_ERR_PRIV 1) h 3 (addr % 2 ^ 32)
  refine ⟨_, congrArg Host.Outcome.next ((access_of_alive hal _).trans hrefused), hresp, ?_⟩
  rw [hrd, rd_satAdd_same _ _ _ _ (by decide) (by decide), rd_collect]

/-- A discarded frame answers by its cause, and its counter counts. -/
theorem hostFrameError_spec (why : Nat) (hal : alive s h = true) :
    Completes (.hostFrameError h why) s fun t =>
      (∃ a d, (half t h).mgmt.resp = some (if why = 0 then 4 else if why = 1 then 2 else 1, a, d)) ∧
      rd t h Reg.HST_ERR_FRAME =
        (if why = 0 then min (rd s h Reg.HST_ERR_FRAME + 1) (fmax Reg.HST_ERR_FRAME) else rd s h Reg.HST_ERR_FRAME) ∧
      rd t h Reg.HST_ERR_CRC =
        (if 2 ≤ why then min (rd s h Reg.HST_ERR_CRC + 1) (fmax Reg.HST_ERR_CRC) else rd s h Reg.HST_ERR_CRC) := by
  have hregs : ∀ f, rd (freeVal (collect s h) (2 ^ 32)).2 h f = rd s h f := fun f => rd_collect s h h f
  refine ⟨_, congrArg Host.Outcome.next (access_of_alive hal _), ?_⟩
  unfold hostDiscard
  dsimp only
  have hcases : why = 0 ∨ why = 1 ∨ 2 ≤ why := by omega
  rcases hcases with rfl | rfl | hcrc
  · obtain ⟨⟨d, hresp⟩, -, hrd⟩ := respondOpen_spec (satAdd (freeVal (collect s h) (2 ^ 32)).2 h Reg.HST_ERR_FRAME 1) h 4
      (freeVal (collect s h) (2 ^ 32)).1
    refine ⟨⟨_, d, hresp⟩, ?_, ?_⟩
    · exact (hrd _).trans ((rd_satAdd_same _ _ _ _ (by decide) (by decide)).trans (by rw [hregs]; rfl))
    · exact (hrd _).trans ((rd_wr_disjoint _ h Reg.HST_ERR_FRAME Reg.HST_ERR_CRC _ rfl (by decide) (by decide) (by decide)
        (.inl (by decide))).trans (hregs _))
  · obtain ⟨⟨d, hresp⟩, -, hrd⟩ := respondOpen_spec (freeVal (collect s h) (2 ^ 32)).2 h 2 (freeVal (collect s h) (2 ^ 32)).1
    exact ⟨⟨_, d, hresp⟩, (hrd _).trans (hregs _), (hrd _).trans (hregs _)⟩
  · obtain ⟨⟨d, hresp⟩, -, hrd⟩ := respondOpen_spec (satAdd (freeVal (collect s h) (2 ^ 32)).2 h Reg.HST_ERR_CRC 1) h 1
      (freeVal (collect s h) (2 ^ 32)).1
    rw [if_neg (by omega), if_neg (by omega), if_neg (by omega), if_neg (by omega), if_neg (by omega), if_pos hcrc]
    refine ⟨⟨_, d, hresp⟩, ?_, ?_⟩
    · exact (hrd _).trans ((rd_wr_disjoint _ h Reg.HST_ERR_CRC Reg.HST_ERR_FRAME _ rfl (by decide) (by decide) (by decide)
        (.inr (by decide))).trans (hregs _))
    · exact (hrd _).trans ((rd_satAdd_same _ _ _ _ (by decide) (by decide)).trans (by rw [hregs]))

/-- Settles O12: every frame collects, then leaves its own response. -/
theorem hostFramesAnswer : Obligations.HostFramesAnswer := by
  unfold Obligations.HostFramesAnswer
  exact ⟨fun h addr s => hostNop_spec addr, fun h addr s => hostRead_spec, fun h addr v s => hostWrite_spec v,
    fun h addr s => hostRead_refused, fun h why s => hostFrameError_spec why⟩

end HostFrames

/-! ### Sessions (R714 to R718) -/

section Sessions

variable {s t : State} {h : HalfId} {k : Nat}

@[simp] theorem mgmt_modMgmt (s : State) (h : HalfId) (f : Mgmt → Mgmt) : (half (modMgmt s h f) h).mgmt = f (half s h).mgmt := by
  rw [half_modMgmt_same]

theorem sessionOf_of_sessions {l : List Session} (hl : (half s h).mgmt.sessions = l) (k : Nat) :
    sessionOf s h k = l.find? fun e => e.index == k := by
  unfold sessionOf
  rw [hl]

theorem elevationOf_of_elevs {l : List Elevation} (hl : (half s h).mgmt.elevs = l) (acc : Nat) :
    elevationOf s h acc = l.find? fun e => e.acc == acc := by
  unfold elevationOf
  rw [hl]

theorem find_filter_ne {α : Type} (l : List α) (p : α → Nat) (k : Nat) :
    (l.filter fun e => p e != k).find? (fun e => p e == k) = none := by
  rw [List.find?_eq_none]
  intro e he
  have := (List.mem_filter.mp he).2
  simpa using this

theorem mgmt_putSessions (s : State) (h : HalfId) (l : List Session) :
    (half (putSessions s h l) h).mgmt = { (half s h).mgmt with sessions := l } := by
  unfold putSessions
  rw [half_wr, half_modMgmt_same]

theorem mgmt_ledgerH (s : State) (h g : HalfId) (ev : Nat) (fs : List Byte) :
    (half (ledgerH s h ev fs) g).mgmt = (half s g).mgmt :=
  (keeps_ledgerH h ev fs (by decide) (Keeps.refl 0x10238401240000 s)).mgmt (by decide) g

/-- The end of an elevation takes it out of the half's elevations and leaves the rest of the management state. -/
theorem mgmt_elevationEnd (s : State) (h : HalfId) (acc : Nat) : (half (elevationEnd s h acc) h).mgmt =
    { (half s h).mgmt with elevs := if (elevationOf s h acc).isSome then (half s h).mgmt.elevs.filter fun x => x.acc != acc
        else (half s h).mgmt.elevs } := by
  unfold elevationEnd
  cases he : elevationOf s h acc with
  | none => rfl
  | some e =>
    dsimp only
    rw [mgmt_ledgerH, putElevs, half_wr, half_modMgmt_same]
    rfl

theorem elevationOf_elevationEnd (s : State) (h : HalfId) (acc : Nat) : elevationOf (elevationEnd s h acc) h acc = none := by
  unfold elevationOf
  rw [mgmt_elevationEnd]
  dsimp only
  split
  · exact find_filter_ne _ Elevation.acc acc
  next hnone => exact Option.not_isSome_iff_eq_none.mp hnone

/-! The end of a session. -/

/-- The elevation and the challenge of a session's accessor are gone. -/
def accessorGone (s : State) (h : HalfId) (k : Nat) : State :=
  modMgmt (elevationEnd s h k) h fun m => { m with chals := m.chals.filter fun c => c.acc != k }

theorem sessionEnd_eq {e : Session} (he : sessionOf s h k = some e) : sessionEnd s h k =
    queueRelease (putSessions (accessorGone s h k) h ((half s h).mgmt.sessions.filter fun e => e.index != k)) h (8 + k) := by
  have hsame : (half (accessorGone s h k) h).mgmt.sessions = (half s h).mgmt.sessions := by
    unfold accessorGone
    rw [mgmt_modMgmt, mgmt_elevationEnd]
  unfold sessionEnd
  rw [he]
  dsimp only
  rw [← hsame]
  rfl

theorem queueRelease_block (s : State) (h : HalfId) (q : Nat) : Keeps 0x200000200000 s (queueRelease s h q) :=
  keeps_queueRelease h q (by decide) (Keeps.refl _ s)

theorem sessions_sessionEnd (s : State) (h : HalfId) (k : Nat) :
    (half (sessionEnd s h k) h).mgmt.sessions = (half s h).mgmt.sessions.filter fun e => e.index != k := by
  cases he : sessionOf s h k with
  | some e => rw [sessionEnd_eq he, (queueRelease_block _ h _).mgmt (by decide), mgmt_putSessions]
  | none =>
    have hnone : ∀ e ∈ (half s h).mgmt.sessions, (e.index != k) = true := fun e hmem => by
      simpa using List.find?_eq_none.mp he e hmem
    unfold sessionEnd
    rw [he]
    exact (List.filter_eq_self.mpr hnone).symm

theorem sessionOf_sessionEnd (s : State) (h : HalfId) (k : Nat) : sessionOf (sessionEnd s h k) h k = none :=
  (sessionOf_of_sessions (sessions_sessionEnd s h k) k).trans (find_filter_ne _ Session.index k)

theorem qItems_queueRelease (s : State) (h : HalfId) (q : Nat) : qItems (queueRelease s h q) h q = [] := by
  unfold qItems queueRelease
  simp only [half_setWord, half_setHalf_same, sget_sset_same]

theorem sessionEnd_spec {e : Session} (he : sessionOf s h k = some e) :
    Completes (.sessionEnd h k) s fun t =>
      sessionOf t h k = none ∧ elevationOf t h k = none ∧ qItems t h (8 + k) = [] := by
  refine ⟨_, rfl, sessionOf_sessionEnd s h k, ?_, ?_⟩
  · rw [sessionEnd_eq he]
    have helevs : (half (queueRelease (putSessions (accessorGone s h k) h ((half s h).mgmt.sessions.filter fun e => e.index != k)) h
        (8 + k)) h).mgmt.elevs = (half (elevationEnd s h k) h).mgmt.elevs := by
      rw [(queueRelease_block _ h _).mgmt (by decide), mgmt_putSessions, accessorGone, mgmt_modMgmt]
    rw [elevationOf_of_elevs helevs]
    exact elevationOf_elevationEnd s h k
  · rw [sessionEnd_eq he]
    exact qItems_queueRelease _ h _

/-! Opening, requests and the segments handed out. -/

/-- The session that opens. -/
def openedSession (s : State) (h : HalfId) (k role : Nat) : Session :=
  { index := k, role := role, order := (half s h).mgmt.opened, reqs := 0, since := s.ticks }

/-- The state before the queue of the session is taken into use. -/
def sessionAdded (s : State) (h : HalfId) (k role : Nat) : State :=
  putSessions (modMgmt s h fun m => { m with opened := m.opened + 1 }) h ((half s h).mgmt.sessions ++ [openedSession s h k role])

theorem sessionOpen_eq {role : Nat} (hcore : coreRuns s h = true) (hk : k < 256) (hrole : role < 4) (hfree : sessionOf s h k = none)
    (hgov : rdBit s h Reg.ETH_CORE_GOV 0 = false) (hpool : (roleQuota role).1 ≤ 16384 - qReserved s h) :
    sessionOpen s h k role =
      emp (queueOpen (sessionAdded s h k role) h (8 + k) (roleQuota role).1 (roleQuota role).2.1) h .ok := by
  unfold sessionOpen
  dsimp only
  rw [if_neg (by simp [hcore, hfree]; omega), if_neg (by simp [hgov]), if_neg (by omega)]
  rfl

theorem roleQuota_lt (role : Nat) : (roleQuota role).1 < 2 ^ 13 ∧ (roleQuota role).2.1 < 2 ^ 13 := by
  unfold roleQuota
  repeat' split
  all_goals decide

theorem queueOpen_spec (s : State) (h : HalfId) (q : Nat) {res cap : Nat} (hres : res < 2 ^ 13) (hcap : cap < 2 ^ 13) :
    rd (queueOpen s h q res cap) h (Reg.EVQ_CFG_RES q) = res ∧ rd (queueOpen s h q res cap) h (Reg.EVQ_CFG_CAP q) = cap ∧
      (half (queueOpen s h q res cap) h).mgmt = (half s h).mgmt := by
  refine ⟨?_, rd_wr_same' _ h (Reg.EVQ_CFG_CAP q) cap (by decide : 0 ≤ 12) (by decide : 12 < 32) hcap, ?_⟩
  · exact (rd_wr_disjoint _ h (Reg.EVQ_CFG_CAP q) (Reg.EVQ_CFG_RES q) cap rfl (by decide : 0 ≤ 12) (by decide : 13 ≤ 25)
      (by decide : 12 < 32) (.inl (by decide : 12 < 13))).trans
      (rd_wr_same' _ h (Reg.EVQ_CFG_RES q) res (by decide : 13 ≤ 25) (by decide : 25 < 32) hres)
  · unfold queueOpen
    simp only [half_wr, half_setHalf_same]

theorem sessionOpen_spec {role : Nat} (hcore : coreRuns s h = true) (hk : k < 256) (hrole : role < 4)
    (hfree : sessionOf s h k = none) (hgov : rdBit s h Reg.ETH_CORE_GOV 0 = false)
    (hpool : (roleQuota role).1 ≤ 16384 - qReserved s h) :
    Completes (.sessionOpen h k role) s fun t =>
      (∃ e, sessionOf t h k = some e ∧ e.role = role) ∧ (half t h).mgmt.emp = .ok ∧
      rd t h (Reg.EVQ_CFG_RES (8 + k)) = (roleQuota role).1 ∧ rd t h (Reg.EVQ_CFG_CAP (8 + k)) = (roleQuota role).2.1 := by
  obtain ⟨hres, hcap, hmgmt⟩ := queueOpen_spec (sessionAdded s h k role) h (8 + k) (roleQuota_lt role).1 (roleQuota_lt role).2
  refine ⟨_, congrArg Host.Outcome.next (sessionOpen_eq hcore hk hrole hfree hgov hpool), ⟨openedSession s h k role, ?_, rfl⟩, ?_,
    (rd_modMgmt ..).trans hres, (rd_modMgmt ..).trans hcap⟩
  · have hsessions : (half (emp (queueOpen (sessionAdded s h k role) h (8 + k) (roleQuota role).1 (roleQuota role).2.1) h .ok) h).mgmt.sessions =
        (half s h).mgmt.sessions ++ [openedSession s h k role] := by
      rw [emp, mgmt_modMgmt]
      change (half (queueOpen _ h _ _ _) h).mgmt.sessions = _
      rw [hmgmt, sessionAdded, mgmt_putSessions]
    rw [sessionOf_of_sessions hsessions, List.find?_append, show (half s h).mgmt.sessions.find? _ = none from hfree]
    simp [openedSession]
  · unfold emp
    rw [mgmt_modMgmt]

/-- A request of a session within its rate and on its allow-list is performed in the unprivileged view. -/
theorem sessionRequest_eq {e : Session} {addr : Nat} {v : Option Nat} (hcore : coreRuns s h = true) (he : sessionOf s h k = some e)
    (hrate : (sessionRate s h e).1 = true) (helev : elevationOf s h k = none)
    (hallow : allowed e.role (addr % unprivBase) v.isSome = true) :
    sessionRequest s h k addr v = sessionAccess (sessionRate s h e).2 h k (unprivBase + addr % unprivBase) v := by
  unfold sessionRequest
  rw [he]
  dsimp only
  rw [if_neg (by simp [hcore]), if_neg (by simp [hrate]), if_neg (by simp [helev]), if_pos hallow]

theorem sessionRequest_read {e : Session} {addr : Nat} (hcore : coreRuns s h = true) (he : sessionOf s h k = some e)
    (hrate : (sessionRate s h e).1 = true) (helev : elevationOf s h k = none)
    (hallow : allowed e.role (addr % unprivBase) false = true) :
    Completes (.sessionRequest h k addr none) s fun t =>
      (half t h).mgmt.emp = .ok ∧
      (half t h).mgmt.empData = (regRead (sessionRate s h e).2 h (unprivBase + addr % unprivBase)).1 := by
  refine ⟨_, congrArg Host.Outcome.next (sessionRequest_eq (v := none) hcore he hrate helev hallow), ?_⟩
  unfold sessionAccess
  dsimp only
  rw [half_modMgmt_same]
  exact ⟨rfl, rfl⟩

theorem sessionRequest_write {e : Session} {addr v : Nat} (hcore : coreRuns s h = true) (he : sessionOf s h k = some e)
    (hrate : (sessionRate s h e).1 = true) (helev : elevationOf s h k = none)
    (hallow : allowed e.role (addr % unprivBase) true = true) :
    Completes (.sessionRequest h k addr (some v)) s fun t => (half t h).mgmt.emp = .ok := by
  refine ⟨_, congrArg Host.Outcome.next (sessionRequest_eq (v := some v) hcore he hrate helev hallow), ?_⟩
  unfold sessionAccess emp
  dsimp only
  rw [half_modMgmt_same]

/-- A committed segment that a session asks for yields the record of its decoded bytes (R564). -/
theorem exportRequest_spec {e : Session} {u : RecUnit} {seq : Nat} (hcore : coreRuns s h = true) (he : sessionOf s h k = some e)
    (hgov : rdBit s h Reg.ETH_CORE_GOV 1 = false) (hu : (recUnits s h).find? (fun u => u.unitSeq == seq) = some u) :
    Completes (.exportRequest h k seq) s fun t =>
      (half t h).mgmt.emp = .ok ∧
      (half t h).mgmt.exported = some (exportOf (unpackBlocks (u.payload.length / 17 + 1) u.payload)
        (toSigned 16 (rd s .a Reg.TIME_UTC_OFFSET))) := by
  have hexec : exportRequest s h k seq = modMgmt s h fun m => { m with
      exported := some (exportOf (unpackBlocks (u.payload.length / 17 + 1) u.payload) (toSigned 16 (rd s .a Reg.TIME_UTC_OFFSET)))
      emp := .ok } := by
    cases h <;>
    · unfold exportRequest
      dsimp only [recUnits] at hu ⊢
      rw [he, hu]
      exact if_neg (by simp [hcore, hgov])
  refine ⟨_, congrArg Host.Outcome.next hexec, ?_⟩
  dsimp only
  rw [half_modMgmt_same]
  exact ⟨rfl, rfl⟩

/-- Settles O13: what opening, a request, the transfer of a segment and the end of a session do. -/
theorem sessionsServed : Obligations.SessionsServed := by
  unfold Obligations.SessionsServed
  exact ⟨fun h k role s => sessionOpen_spec, fun h k e addr s => sessionRequest_read, fun h k e addr v s => sessionRequest_write,
    fun h k e s => sessionEnd_spec, fun h k e u seq s => exportRequest_spec⟩

end Sessions

/-! ### The management core (R706, R708, R727) -/

section ManagementCore

variable {s : State} {h : HalfId}

/-- Ending the sessions of a list leaves the others. -/
theorem sessions_foldl_sessionEnd (ks : List Nat) (s : State) (h : HalfId) :
    (half (ks.foldl (fun s k => sessionEnd s h k) s) h).mgmt.sessions =
      (half s h).mgmt.sessions.filter fun e => !ks.contains e.index := by
  induction ks generalizing s with
  | nil => simp
  | cons k ks ih =>
    rw [List.foldl_cons, ih, sessions_sessionEnd, List.filter_filter]
    refine List.filter_congr fun e _ => ?_
    rw [List.contains_cons]
    cases hk : e.index == k <;> simp_all

theorem sessions_sessionsEnd (s : State) (h : HalfId) : (half (sessionsEnd s h) h).mgmt.sessions = [] := by
  unfold sessionsEnd
  rw [sessions_foldl_sessionEnd, List.filter_eq_nil_iff]
  intro e he
  simpa using ⟨e, he, rfl⟩

/-- The core restarts: its sessions ended and its state shown. -/
def coreStopped (s : State) (h : HalfId) : State :=
  wr (wr (modMgmt (sessionsEnd s h) h fun m => { m with restarts := s.ticks :: recentRestarts s h, highRuns := 0 })
    h Reg.ETH_CORE_STATE 1) h Reg.ETH_CORE_RESTARTS (min 7 ((recentRestarts s h).length + 1))

theorem coreStopped_spec (s : State) (h : HalfId) :
    rd (coreStopped s h) h Reg.ETH_CORE_STATE = 1 ∧ (half (coreStopped s h) h).mgmt.sessions = [] ∧
      rd (coreStopped s h) h Reg.ETH_CORE_RESTARTS = min 7 ((recentRestarts s h).length + 1) := by
  refine ⟨?_, ?_, rd_wr_same' _ h Reg.ETH_CORE_RESTARTS _ (by decide) (by decide) ?_⟩
  · exact (rd_wr_disjoint _ h Reg.ETH_CORE_RESTARTS Reg.ETH_CORE_STATE _ rfl (by decide) (by decide) (by decide)
      (.inl (by decide))).trans (rd_wr_same' _ h Reg.ETH_CORE_STATE 1 (by decide) (by decide) (by decide))
  · unfold coreStopped
    rw [half_wr, half_wr, mgmt_modMgmt]
    exact sessions_sessionsEnd s h
  · change min 7 _ < 2 ^ 3
    omega

theorem mgmtWatchdog_spec (hal : alive s h = true) (hstate : rd s h Reg.ETH_CORE_STATE ≠ 1) :
    Completes (.mgmtWatchdog h) s fun t =>
      rd t h Reg.ETH_CORE_STATE = 1 ∧ (half t h).mgmt.sessions = [] ∧
      rd t h Reg.ETH_CORE_RESTARTS = min 7 ((recentRestarts s h).length + 1) := by
  obtain ⟨hst, hsess, hres⟩ := coreStopped_spec s h
  have hexec : Keeps 0x1023C4012C0000 (coreStopped s h) (coreRestart s h) := by
    have hlog : ∀ fs, Keeps 0x1023C4012C0000 (coreStopped s h) (tallySet (ledgerH (coreStopped s h) h 0x1401 fs) h 15 1 1 0x1401) :=
      fun fs => keeps_tallySet h 15 1 1 0x1401 (by decide) (keeps_ledgerH h 0x1401 fs (by decide) (Keeps.refl _ _))
    unfold coreRestart
    dsimp only
    rw [if_neg (by simp [hal, hstate])]
    split
    · exact keeps_tallySet h 15 2 2 0x1401 (by decide) (hlog _)
    · exact hlog _
  refine ⟨_, rfl, ?_, ?_, ?_⟩
  · rw [hexec.rd h _ (by decide) (by decide), hst]
  · rw [hexec.mgmt (by decide) h, hsess]
  · rw [hexec.rd h _ (by decide) (by decide), hres]

/-- The configuration that is loaded leaves the registers it does not name. -/
theorem rd_loadConfig (s : State) (h : HalfId) (f : Fld) (hhash : f.key % 0x100000000 ≠ 0x170018)
    (hcfg : ∀ e ∈ configOf s h, e.1 % 0x100000000 ≠ f.key % 0x100000000) : rd (loadConfig s h) h f = rd s h f := by
  refine (rd_wr_addr _ h h Reg.ETH_CFG_HASH_HASH f _ hhash).trans ?_
  refine List.foldlRecOn (motive := fun u => rd u h f = rd s h f) _ _ rfl fun u hu e he => ?_
  split
  · exact (rd_setWord_addr u h h e.1 e.2 f (hcfg e he).symm).trans hu
  · exact hu

theorem mgmtCoreRestarted_spec (hal : alive s h = true) (hstate : rd s h Reg.ETH_CORE_STATE = 1)
    (hcfg : ∀ e ∈ configOf s h, e.1 % 0x100000000 ≠ 0x170014) :
    Completes (.mgmtCoreRestarted h) s fun t => rd t h Reg.ETH_CORE_STATE = 0 := by
  have hsame : configOf (wr s h Reg.ETH_CORE_STATE 0) h = configOf s h := by cases h <;> rfl
  exact ⟨_, congrArg Host.Outcome.next (if_pos (by simp [hal, hstate])),
    (rd_loadConfig _ h Reg.ETH_CORE_STATE (by decide) (by rw [hsame]; exact hcfg)).trans
      (rd_wr_same' s h Reg.ETH_CORE_STATE 0 (by decide) (by decide) (by decide))⟩

theorem managementDegradedEnd_spec (hal : alive s h = true) :
    Completes (.managementDegradedEnd h) s fun t => nget (half t h).tally (15 * 65536 + 1) = 0 := by
  refine ⟨_, congrArg Host.Outcome.next (access_of_alive hal _), ?_⟩
  dsimp only
  rw [tally_tallySet]
  exact nget_nset_same _ _ _

theorem ethLinkChange_spec (up supported : Bool) (hal : alive s h = true) :
    Completes (.ethLinkChange h up supported) s fun t =>
      rdB t h Reg.ETH_STAT_LINK = (up && supported) ∧ rdB t h Reg.ETH_STAT_REFUSED = (up && !supported) :=
  ⟨_, congrArg Host.Outcome.next (access_of_alive hal _),
    (rdB_wrB_beside _ h Reg.ETH_STAT_REFUSED Reg.ETH_STAT_LINK _ rfl (by decide) (by decide) (by decide) (.inl (by decide))).trans
      (rdB_wrB_same s h Reg.ETH_STAT_LINK _ rfl (by decide)),
    rdB_wrB_same _ h Reg.ETH_STAT_REFUSED _ rfl (by decide)⟩

/-! The governor. -/

theorem govBit_other (s : State) (h : HalfId) {i j : Nat} (hj : j < 3) (hne : j ≠ i) (load above below : Nat) :
    rdBit (govBit s h i load above below) h Reg.ETH_CORE_GOV j = rdBit s h Reg.ETH_CORE_GOV j := by
  unfold govBit
  split
  · exact rdBit_wrBit_ne (f := Reg.ETH_CORE_GOV) true (by decide) (by decide) hj hne
  · split
    · exact rdBit_wrBit_ne (f := Reg.ETH_CORE_GOV) false (by decide) (by decide) hj hne
    · rfl

/-- A governor bit is on above one load and off below another. -/
theorem govBit_spec (s : State) (h : HalfId) {i : Nat} (hi : i < 3) {load above below : Nat} (hle : below ≤ above) :
    (above < load → rdBit (govBit s h i load above below) h Reg.ETH_CORE_GOV i = true) ∧
      (load < below → rdBit (govBit s h i load above below) h Reg.ETH_CORE_GOV i = false) := by
  unfold govBit
  refine ⟨fun habove => ?_, fun hbelow => ?_⟩
  · rw [if_pos habove]
    exact rdBit_wrBit_same s h Reg.ETH_CORE_GOV i true (by decide) (by decide) hi
  · rw [if_neg (by omega), if_pos hbelow]
    exact rdBit_wrBit_same s h Reg.ETH_CORE_GOV i false (by decide) (by decide) hi

theorem load_govBit (s : State) (h : HalfId) (i load above below : Nat) :
    rd (govBit s h i load above below) h Reg.ETH_CORE_LOAD = rd s h Reg.ETH_CORE_LOAD := by
  have hkeep : ∀ b, rd (wrBit s h Reg.ETH_CORE_GOV i b) h Reg.ETH_CORE_LOAD = rd s h Reg.ETH_CORE_LOAD := fun b =>
    rd_wr_disjoint s h Reg.ETH_CORE_GOV Reg.ETH_CORE_LOAD _ rfl (by decide) (by decide) (by decide) (.inr (by decide))
  unfold govBit
  split
  · exact hkeep true
  · split
    · exact hkeep false
    · rfl

theorem half_govBit (s : State) (h g : HalfId) (i load above below : Nat) :
    half (govBit s h i load above below) g = half s g := by
  unfold govBit
  split
  · exact half_wr ..
  · split
    · exact half_wr ..
    · rfl

/-- The load shown and the governor's bits, with the count of high windows. -/
def governed (s : State) (h : HalfId) (load n : Nat) : State :=
  wrBit (modMgmt (govBit (govBit (wr s h Reg.ETH_CORE_LOAD load) h 0 load 80 75) h 1 load 90 85) h
    fun m => { m with highRuns := n }) h Reg.ETH_CORE_GOV 2 (decide (10 ≤ n))

theorem governed_spec (s : State) (h : HalfId) {load : Nat} (hload : load ≤ 100) (n : Nat) :
    rd (governed s h load n) h Reg.ETH_CORE_LOAD = load ∧
      (80 < load → rdBit (governed s h load n) h Reg.ETH_CORE_GOV 0 = true) ∧
      (load < 75 → rdBit (governed s h load n) h Reg.ETH_CORE_GOV 0 = false) ∧
      (90 < load → rdBit (governed s h load n) h Reg.ETH_CORE_GOV 1 = true) ∧
      (load < 85 → rdBit (governed s h load n) h Reg.ETH_CORE_GOV 1 = false) ∧
      (half (governed s h load n) h).mgmt.sessions = (half s h).mgmt.sessions := by
  have hbit : ∀ j < 2, rdBit (governed s h load n) h Reg.ETH_CORE_GOV j =
      rdBit (govBit (govBit (wr s h Reg.ETH_CORE_LOAD load) h 0 load 80 75) h 1 load 90 85) h Reg.ETH_CORE_GOV j := fun j hj =>
    (rdBit_wrBit_ne (f := Reg.ETH_CORE_GOV) _ (by decide) (by decide) (show j < 3 by omega) (by omega)).trans
      (congrArg (bit · j) (rd_modMgmt ..))
  obtain ⟨hon0, hoff0⟩ := govBit_spec (wr s h Reg.ETH_CORE_LOAD load) h (i := 0) (load := load) (above := 80) (below := 75)
    (by decide) (by decide)
  obtain ⟨hon1, hoff1⟩ := govBit_spec (govBit (wr s h Reg.ETH_CORE_LOAD load) h 0 load 80 75) h (i := 1) (load := load)
    (above := 90) (below := 85) (by decide) (by decide)
  have hzero := govBit_other (govBit (wr s h Reg.ETH_CORE_LOAD load) h 0 load 80 75) h (i := 1) (j := 0) (by decide) (by decide)
    load 90 85
  refine ⟨?_, fun hl => ?_, fun hl => ?_, fun hl => ?_, fun hl => ?_, ?_⟩
  · refine (rd_wr_disjoint _ h Reg.ETH_CORE_GOV Reg.ETH_CORE_LOAD _ rfl (by decide) (by decide) (by decide)
      (.inr (by decide))).trans ((rd_modMgmt ..).trans ?_)
    rw [load_govBit, load_govBit]
    exact rd_wr_same' s h Reg.ETH_CORE_LOAD load (by decide) (by decide) (show load < 2 ^ 8 by omega)
  · rw [hbit 0 (by decide), hzero, hon0 hl]
  · rw [hbit 0 (by decide), hzero, hoff0 hl]
  · rw [hbit 1 (by decide), hon1 hl]
  · rw [hbit 1 (by decide), hoff1 hl]
  · unfold governed
    rw [show half (wrBit _ h Reg.ETH_CORE_GOV 2 _) h = _ from half_wr .., mgmt_modMgmt, half_govBit, half_govBit, half_wr]

/-- The end of a session shows the number of open ones and leaves the other fields of ETH_CORE. -/
theorem ethCore_sessionEnd (s : State) (h : HalfId) (k : Nat) {f : Fld} (hf : f.key = 0x170014) (hle : f.lo ≤ f.hi)
    (hd : f.hi < 15 ∨ 23 < f.lo) : rd (sessionEnd s h k) h f = rd s h f := by
  have hblock : keyBlock f.key = 23 := by rw [hf]; decide
  cases he : sessionOf s h k with
  | none =>
    unfold sessionEnd
    rw [he]
  | some e =>
    rw [sessionEnd_eq he, (queueRelease_block _ h _).rd h f (by rw [hblock]; decide) (by rw [hblock]; decide)]
    refine (rd_wr_disjoint _ h Reg.ETH_CORE_SESSIONS f _ hf (by decide) hle (by decide) hd.symm).trans ((rd_modMgmt ..).trans ?_)
    unfold accessorGone
    rw [rd_modMgmt, (keeps_elevationEnd h k (by decide) (Keeps.refl 0x10638403240000 s)).rd h f (by rw [hblock]; decide)
      (by rw [hblock]; decide)]

/-- What follows a window above its limit: the victim's session ends, ETH_CORE otherwise stays. -/
theorem governorWindow_spec (load : Nat) (hcore : coreRuns s h = true) :
    Completes (.governorWindow h load) s fun t =>
      rd t h Reg.ETH_CORE_LOAD = min load 100 ∧
      (80 < min load 100 → rdBit t h Reg.ETH_CORE_GOV 0 = true) ∧ (min load 100 < 75 → rdBit t h Reg.ETH_CORE_GOV 0 = false) ∧
      (90 < min load 100 → rdBit t h Reg.ETH_CORE_GOV 1 = true) ∧ (min load 100 < 85 → rdBit t h Reg.ETH_CORE_GOV 1 = false) ∧
      ∀ e, 97 < load → 10 ≤ (half s h).mgmt.highRuns → dropVictim (half s h).mgmt.sessions = some e →
        sessionOf t h e.index = none := by
  obtain ⟨n, hn⟩ : ∃ n, n = if 97 < min load 100 then (half s h).mgmt.highRuns + 1 else 0 := ⟨_, rfl⟩
  obtain ⟨hload, hon0, hoff0, hon1, hoff1, hsess⟩ := governed_spec s h (Nat.min_le_right load 100) n
  have hdropped : ∀ (e : Session) (fs : List Byte) (f : Fld), f.key = 0x170014 → f.lo ≤ f.hi → f.hi < 15 ∨ 23 < f.lo →
      rd (ledgerH (sessionEnd (governed s h (min load 100) n) h e.index) h 0x1402 fs) h f =
        rd (governed s h (min load 100) n) h f := fun e fs f hf hle hd =>
    ((keeps_ledgerH h 0x1402 fs (by decide) (Keeps.refl 0x10238401240000 _)).rd h f (by rw [hf]; decide) (by rw [hf]; decide)).trans
      (ethCore_sessionEnd _ h e.index hf hle hd)
  have hgov : governor s h load = if 10 < n then
      (dropVictim (half (governed s h (min load 100) n) h).mgmt.sessions).elim (governed s h (min load 100) n) fun e =>
        ledgerH (sessionEnd (governed s h (min load 100) n) h e.index) h 0x1402 (p4s [e.index, e.role, min load 100])
      else governed s h (min load 100) n := by
    subst hn
    unfold governor
    rw [if_neg (by simp [hcore])]
    change (if 10 < _ then _ else _) = _
    refine if_congr Iff.rfl ?_ rfl
    cases hv : dropVictim (half (governed s h (min load 100) (if 97 < min load 100 then (half s h).mgmt.highRuns + 1 else 0)) h).mgmt.sessions
    all_goals
      unfold governed at hv
      rw [hv]
      rfl
  refine ⟨_, congrArg Host.Outcome.next hgov, ?_⟩
  rw [hsess]
  split
  next hhigh =>
    cases hv : dropVictim (half s h).mgmt.sessions with
    | none => exact ⟨hload, hon0, hoff0, hon1, hoff1, fun e _ _ he => nomatch he⟩
    | some x =>
      have hb : ∀ i, rdBit (ledgerH (sessionEnd (governed s h (min load 100) n) h x.index) h 0x1402
          (p4s [x.index, x.role, min load 100])) h Reg.ETH_CORE_GOV i =
          rdBit (governed s h (min load 100) n) h Reg.ETH_CORE_GOV i := fun i =>
        congrArg (bit · i) (hdropped x _ _ rfl (by decide) (.inr (by decide)))
      refine ⟨(hdropped x _ _ rfl (by decide) (.inl (by decide))).trans hload, fun hl => (hb 0).trans (hon0 hl),
        fun hl => (hb 0).trans (hoff0 hl), fun hl => (hb 1).trans (hon1 hl), fun hl => (hb 1).trans (hoff1 hl), fun e _ _ he => ?_⟩
      obtain rfl := Option.some.inj he
      unfold sessionOf
      rw [Option.elim_some, mgmt_ledgerH]
      exact sessionOf_sessionEnd _ h x.index
  next hlow =>
    refine ⟨hload, hon0, hoff0, hon1, hoff1, fun e hhigh hruns _ => ?_⟩
    rw [if_pos (by omega)] at hn
    omega

/-- Settles O14: the core's restart by the end of its sessions, the governor bit by bit. -/
theorem managementCoreCommands : Obligations.ManagementCoreCommands := by
  unfold Obligations.ManagementCoreCommands
  exact ⟨fun h s => mgmtWatchdog_spec, fun h s => mgmtCoreRestarted_spec, fun h s => managementDegradedEnd_spec,
    fun h load s => governorWindow_spec load, fun h up supported s => ethLinkChange_spec up supported⟩

end ManagementCore

end Sys2Proof.Machine
end

section
/-!
PROOFS. Elevation and keys (R717 to R720, R738), and debug access, trace snapshots and GOOSE reception (R712, R730, R731).
-/

namespace Sys2Proof.Machine

open Sys2Proof (HalfId Instr Byte)

/-! ### The keys of the store -/

section Keys

variable {s : State} {h : HalfId}

theorem keysOf_of_store {t : State} (hs : t.store = s.store) (h : HalfId) : keysOf t h = keysOf s h := by
  cases h <;> simp only [keysOf, hs]

theorem keysOf_storeAppend (s : State) (h g : HalfId) (r : LedgerRec) : keysOf (storeAppend s h r) g = keysOf s g := by
  cases g <;> simp only [keysOf, store_storeAppend]

/-- A record takes no key from the configuration store. -/
theorem keysOf_ledgerH (s : State) (h g : HalfId) (ev : Nat) (fs : List Byte) : keysOf (ledgerH s h ev fs) g = keysOf s g := by
  have hev : keysOf (evBump s h (halfNo h)) g = keysOf s g :=
    keysOf_of_store ((keeps_evBump h (halfNo h) (by decide) (Keeps.refl 0x10008000000000 s)).store (by decide)) g
  unfold ledgerH ledger
  dsimp only
  split
  · unfold limitedAppend
    dsimp only
    split
    · exact (keysOf_storeAppend _ h g _).trans (Eq.trans (by cases g <;> rfl) hev)
    · exact (keysOf_of_store ((wr_store ..).trans (wr_store ..)) g).trans (Eq.trans (by cases g <;> rfl) hev)
  · exact (keysOf_of_store (setHalf_store ..) g).trans hev

end Keys

/-! ### SEC_CMD (R738) -/

section SecurityCommands

variable {s : State} {h : HalfId} {acc : Nat}

/-- What a command of a known accessor does: its effect, then its report. -/
theorem secCmd_known {code arg : Nat} (hknown : acc = 0xFF ∨ (sessionOf s h acc).isSome = true ∨ 3 < code) :
    secCmd s h code acc arg = secResult (secAct s h code acc arg).2 h code (secAct s h code acc arg).1 := by
  have hk : (acc == 0xFF || (sessionOf s h acc).isSome || code == 0 || decide (3 < code)) = true := by
    rcases hknown with rfl | hsess | hcode
    · simp
    · simp [hsess]
    · simp [hcode]
  unfold secCmd
  dsimp only
  rw [hk, if_pos rfl]

/-- The whole command of a known accessor of a half that is alive, by the effect that `secAct` has. -/
theorem exec_secCmd {code arg : Nat} {r : Nat × State} (hal : alive s h = true)
    (hknown : acc = 0xFF ∨ (sessionOf s h acc).isSome = true ∨ 3 < code) (hact : secAct s h code acc arg = r) :
    (Host.Outcome.next (access s h (secCmd s h code acc arg)) : Host.Outcome State Fault Refusal) =
      .next (secResult r.2 h code r.1) := by
  rw [access_of_alive hal, secCmd_known hknown, hact]

theorem secResult_spec (u : State) (h : HalfId) (code : Nat) {st : Nat} (hst : st < 256) :
    rd (secResult u h code st) h Reg.SEC_RESULT_STATUS = st ∧ (∀ g, half (secResult u h code st) g = half u g) ∧
      (secResult u h code st).store = u.store ∧
      ∀ f : Fld, f.key % 0x100000000 ≠ 0x190018 → rd (secResult u h code st) h f = rd u h f :=
  ⟨(rd_result_status u h _ _ _ code st (by decide) (by decide)).trans (Nat.mod_eq_of_lt hst), fun g => half_result ..,
    store_result .., fun f hf => rd_result_addr u h h _ _ _ f code st hf hf hf⟩

/-! CHALLENGE (R717 step 2). -/

theorem nonce_key {i : Nat} (hi : i < 8) : (Reg.SEC_NONCE_WORD i).key = 0x190040 + i * 4 := instKey_of_lt hi

theorem sig_key {i : Nat} (hi : i < 16) : (Reg.SEC_SIG_WORD i).key = 0x190080 + i * 4 := instKey_of_lt hi

/-- The words of a nonce, written one after the other, read back. -/
theorem rd_nonceWords (s : State) (h : HalfId) (v : Nat → Nat) {i : Nat} (hi : i < 8) :
    rd ((List.range 8).foldl (fun s i => wr s h (Reg.SEC_NONCE_WORD i) (v i)) s) h (Reg.SEC_NONCE_WORD i) = v i % 2 ^ 32 := by
  have hne : ∀ j, j ≠ i → (Reg.SEC_NONCE_WORD i).key % 0x100000000 ≠ (Reg.SEC_NONCE_WORD j).key % 0x100000000 := fun j hj => by
    rw [nonce_key hi]
    by_cases hj8 : j < 8
    · rw [nonce_key hj8]
      omega
    · rw [show (Reg.SEC_NONCE_WORD j).key = nowhere from if_neg hj8]
      unfold nowhere
      omega
  exact foldl_own_step (f := fun s i => wr s h (Reg.SEC_NONCE_WORD i) (v i)) (Pre := fun _ => True)
    (Post := fun u => rd u h (Reg.SEC_NONCE_WORD i) = v i % 2 ^ 32) (fun _ _ _ _ => trivial)
    (fun u _ => rd_wr_same u h (Reg.SEC_NONCE_WORD i) (v i) (by decide : 0 ≤ 31) (by decide : 31 < 32))
    (fun u j hj hu => (rd_wr_addr u h h _ _ _ (hne j hj)).trans hu) List.nodup_range (List.mem_range.mpr hi) trivial

/-- The signature words leave the nonce. -/
theorem rd_putSig_nonce (s : State) (h : HalfId) (bs : List Byte) {i : Nat} (hi : i < 8) :
    rd (putSig s h bs) h (Reg.SEC_NONCE_WORD i) = rd s h (Reg.SEC_NONCE_WORD i) := by
  unfold putSig
  refine List.foldlRecOn (motive := fun u => rd u h (Reg.SEC_NONCE_WORD i) = rd s h (Reg.SEC_NONCE_WORD i)) _ _ rfl
    fun u hu j hj => (rd_wr_addr u h h _ _ _ ?_).trans hu
  have hj16 := List.mem_range.mp hj
  rw [nonce_key hi, sig_key hj16]
  omega

/-- The words of the nonce that a challenge draws. -/
def drawnNonce (s : State) (h : HalfId) : List Nat :=
  (List.range 8).map fun i => Config.nonceWord (2 * (half s h).mgmt.draws + halfNo h) i % 2 ^ 32

/-- The challenge that is kept. -/
def keptChallenge (s : State) (h : HalfId) (acc : Nat) : Challenge :=
  { acc := acc, nonce := drawnNonce s h, cnonce := (List.range 8).map fun i => rd s h (Reg.SEC_CNONCE_WORD i), tick := s.ticks }

theorem challenge_shown (s : State) (h : HalfId) (acc : Nat) :
    (half (challenge s h acc) h).mgmt.chals.head? = some (keptChallenge s h acc) ∧
      ∀ i < 8, rd (challenge s h acc) h (Reg.SEC_NONCE_WORD i) = (drawnNonce s h).getD i 0 := by
  constructor
  · unfold challenge
    dsimp only
    rw [half_modMgmt_same]
    rfl
  · intro i hi
    have hlt : (drawnNonce s h).getD i 0 < 2 ^ 32 := by
      unfold drawnNonce
      rw [List.getD_eq_getElem _ _ (by simpa using hi), List.getElem_map]
      exact Nat.mod_lt _ (by decide)
    unfold challenge
    dsimp only
    rw [rd_modMgmt, rd_putSig_nonce _ h _ hi]
    exact (rd_nonceWords s h (fun i => (drawnNonce s h).getD i 0) hi).trans (Nat.mod_eq_of_lt hlt)

theorem challenge_spec (hal : alive s h = true) (hknown : acc = 0xFF ∨ (sessionOf s h acc).isSome = true)
    (hfree : challengeLocked s h acc = false) :
    Completes (.challenge h acc) s fun t =>
      rd t h Reg.SEC_RESULT_STATUS = 0x02 ∧
      ∃ c, (half t h).mgmt.chals.head? = some c ∧ c.acc = acc ∧ c.tick = s.ticks ∧
        (∀ i < 8, rd t h (Reg.SEC_NONCE_WORD i) = c.nonce.getD i 0) ∧
        ∀ i < 8, c.cnonce.getD i 0 = rd s h (Reg.SEC_CNONCE_WORD i) := by
  have hact : secAct s h 1 acc 0 = (0x02, challenge s h acc) := by
    unfold secAct
    rw [if_pos rfl, hfree, if_neg Bool.false_ne_true]
  obtain ⟨hchal, hnonce⟩ := challenge_shown s h acc
  obtain ⟨hstatus, hhalf, -, hrd⟩ := secResult_spec (challenge s h acc) h 1 (st := 0x02) (by decide)
  refine ⟨_, exec_secCmd hal (hknown.imp_right .inl) hact, hstatus, keptChallenge s h acc, ?_, rfl, rfl, fun i hi => ?_,
    fun i hi => ?_⟩
  · rw [hhalf]
    exact hchal
  · rw [hrd _ (by rw [nonce_key hi]; omega)]
    exact hnonce i hi
  · unfold keptChallenge
    rw [List.getD_eq_getElem _ _ (by simpa using hi), List.getElem_map, List.getElem_range]

/-! RESPOND and DROP (R717, R718). -/

/-- The challenge of the accessor is used up. -/
def challengeUsed (s : State) (h : HalfId) (acc : Nat) : State :=
  modMgmt s h fun m => { m with chals := m.chals.filter fun x => x.acc != acc }

/-- The elevations of the other accessors. -/
def othersElevated (s : State) (h : HalfId) (acc : Nat) : List Elevation := (half s h).mgmt.elevs.filter fun e => e.acc != acc

theorem respond_inTime {slot : Nat} {c : Challenge} (hslot : slot ≤ 3)
    (hc : (half s h).mgmt.chals.find? (fun c => c.acc == acc) = some c) (htime : s.ticks ≤ c.tick + ticks30)
    (hroom : acc = 0xFF ∨ ((othersElevated s h acc).filter fun e => e.acc != 0xFF).length < 4) :
    respond s h acc slot = if !wardenVerifies s h c slot then (0x40, authFail (challengeUsed s h acc) h acc slot)
      else (0x02, ledgerH (putElevs (challengeUsed s h acc) h (othersElevated s h acc ++ [{ acc := acc, slot := slot }])) h 0x1404
        (p4s [acc, slot, 1])) := by
  have hfits : ¬ (acc ≠ 0xFF ∧ 4 ≤ ((othersElevated s h acc).filter fun e => e.acc != 0xFF).length) := by
    rcases hroom with hhost | hroom
    · exact fun hfull => hfull.1 hhost
    · omega
  unfold respond
  rw [if_neg (by omega), hc]
  dsimp only
  rw [if_neg (by omega)]
  exact if_neg hfits

theorem chals_challengeUsed (s : State) (h : HalfId) (acc : Nat) :
    (half (challengeUsed s h acc) h).mgmt.chals.find? (fun c => c.acc == acc) = none := by
  unfold challengeUsed
  rw [half_modMgmt_same]
  exact find_filter_ne _ Challenge.acc acc

/-- A failed answer counts towards the lock, and leaves the challenges. -/
theorem chals_authFail (s : State) (h : HalfId) (slot : Nat) :
    (half (authFail s h acc slot) h).mgmt.chals = (half s h).mgmt.chals := by
  unfold authFail
  dsimp only
  rw [mgmt_ledgerH, half_modMgmt_same]
  dsimp only
  split <;> rfl

theorem mgmt_putElevs (s : State) (h : HalfId) (l : List Elevation) :
    (half (putElevs s h l) h).mgmt = { (half s h).mgmt with elevs := l } := by
  unfold putElevs
  rw [half_wr, half_modMgmt_same]

theorem respond_spec {slot : Nat} {c : Challenge} (hal : alive s h = true)
    (hknown : acc = 0xFF ∨ (sessionOf s h acc).isSome = true) (hslot : slot ≤ 3)
    (hc : (half s h).mgmt.chals.find? (fun c => c.acc == acc) = some c) (htime : s.ticks ≤ c.tick + ticks30)
    (hroom : acc = 0xFF ∨ ((othersElevated s h acc).filter fun e => e.acc != 0xFF).length < 4) :
    Completes (.respond h acc slot) s fun t =>
      (half t h).mgmt.chals.find? (fun c => c.acc == acc) = none ∧
      (wardenVerifies s h c slot = true →
        rd t h Reg.SEC_RESULT_STATUS = 0x02 ∧ ∃ e, elevationOf t h acc = some e ∧ e.slot = slot) ∧
      (wardenVerifies s h c slot = false → rd t h Reg.SEC_RESULT_STATUS = 0x40) := by
  have hact : secAct s h 2 acc slot = respond s h acc slot := (if_neg (by decide)).trans (if_pos rfl)
  have hexec := exec_secCmd hal (hknown.imp_right .inl) (hact.trans (respond_inTime hslot hc htime hroom))
  have hused := chals_challengeUsed s h acc
  cases hver : wardenVerifies s h c slot
  case false =>
    rw [hver] at hexec
    obtain ⟨hstatus, hhalf, -, -⟩ := secResult_spec (authFail (challengeUsed s h acc) h acc slot) h 2 (st := 0x40) (by decide)
    refine ⟨_, hexec, ?_, fun hno => absurd hno (by decide), fun _ => hstatus⟩
    change (half (secResult (authFail (challengeUsed s h acc) h acc slot) h 2 0x40) h).mgmt.chals.find? _ = none
    rw [hhalf, chals_authFail]
    exact hused
  case true =>
    rw [hver] at hexec
    obtain ⟨hstatus, hhalf, -, -⟩ := secResult_spec (ledgerH (putElevs (challengeUsed s h acc) h
      (othersElevated s h acc ++ [{ acc := acc, slot := slot }])) h 0x1404 (p4s [acc, slot, 1])) h 2 (st := 0x02) (by decide)
    have hmgmt : (half (secResult (ledgerH (putElevs (challengeUsed s h acc) h
        (othersElevated s h acc ++ [{ acc := acc, slot := slot }])) h 0x1404 (p4s [acc, slot, 1])) h 2 0x02) h).mgmt =
        { (half (challengeUsed s h acc) h).mgmt with elevs := othersElevated s h acc ++ [{ acc := acc, slot := slot }] } := by
      rw [hhalf, mgmt_ledgerH, mgmt_putElevs]
    refine ⟨_, hexec, ?_, fun _ => ⟨hstatus, { acc := acc, slot := slot }, ?_, rfl⟩, fun hno => absurd hno (by decide)⟩
    · exact (congrArg (fun m : Mgmt => m.chals.find? fun c => c.acc == acc) hmgmt).trans hused
    · refine (elevationOf_of_elevs (congrArg Mgmt.elevs hmgmt) acc).trans ?_
      rw [List.find?_append, show (othersElevated s h acc).find? _ = none from find_filter_ne _ Elevation.acc acc]
      simp

theorem elevationOf_secResult (u : State) (h : HalfId) (code st : Nat) (acc : Nat) :
    elevationOf (secResult u h code st) h acc = elevationOf u h acc := by
  unfold elevationOf secResult
  rw [half_result]

theorem drop_spec (hal : alive s h = true) (hknown : acc = 0xFF ∨ (sessionOf s h acc).isSome = true)
    (helev : (elevationOf s h acc).isSome = true) :
    Completes (.drop h acc) s fun t => rd t h Reg.SEC_RESULT_STATUS = 0x02 ∧ elevationOf t h acc = none := by
  have hact : secAct s h 3 acc 0 = (0x02, elevationEnd s h acc) :=
    (if_neg (by decide)).trans ((if_neg (by decide)).trans ((if_pos rfl).trans (if_pos helev)))
  exact ⟨_, exec_secCmd hal (hknown.imp_right .inl) hact, (secResult_spec _ h 3 (st := 0x02) (by decide)).1,
    (elevationOf_secResult _ h 3 0x02 acc).trans (elevationOf_elevationEnd s h acc)⟩

theorem elevationTimeout_spec (acc : Nat) (hal : alive s h = true) :
    Completes (.elevationTimeout h acc) s fun t => elevationOf t h acc = none :=
  ⟨_, congrArg Host.Outcome.next (access_of_alive hal _), elevationOf_elevationEnd s h acc⟩

/-! INSTALL and ERASE (R719, R720). -/

/-- The entry of a slot among some keys. -/
def keyIn (l : List KeyEntry) (kind index : Nat) : Option (List Nat) :=
  (l.find? fun k => k.kind == kind && k.index == index).map KeyEntry.words

theorem keyWords_eq (s : State) (h : HalfId) (kind index : Nat) : keyWords s h kind index = keyIn (keysOf s h) kind index := by
  unfold keyWords keyIn
  cases h
  all_goals
    dsimp only [keysOf]
    split
    next heq => rw [heq]; rfl
    next heq => rw [heq]; rfl

theorem keysOf_putKeys (s : State) (h : HalfId) (l : List KeyEntry) : keysOf (putKeys s h l) h = l := by cases h <;> rfl

/-- The keys of the other slots. -/
def otherKeys (s : State) (h : HalfId) : List KeyEntry :=
  (keysOf s h).filter fun k => !(k.kind == selKind s h && k.index == selIndex s h)

theorem keyIn_otherKeys (s : State) (h : HalfId) : keyIn (otherKeys s h) (selKind s h) (selIndex s h) = none := by
  have hnone : (otherKeys s h).find? (fun k => k.kind == selKind s h && k.index == selIndex s h) = none := by
    rw [List.find?_eq_none]
    intro k hk
    have := (List.mem_filter.mp hk).2
    rw [Bool.not_eq_true'] at this
    rw [this]
    decide
  unfold keyIn
  rw [hnone]
  rfl

/-- The keys after a command that replaced and recorded them. -/
theorem keysOf_replaced (s : State) (h : HalfId) (l : List KeyEntry) (code st : Nat) (fs : List Byte) :
    keysOf (secResult (ledgerH (putKeys s h l) h 0x1405 fs) h code st) h = l :=
  (keysOf_of_store (store_result ..) h).trans ((keysOf_ledgerH _ h h _ _).trans (keysOf_putKeys s h l))

/-- The staged words of the selected slot. -/
def stagedWords (s : State) (h : HalfId) : List Nat :=
  (List.range (kindWords (selKind s h))).map fun w => nget (half s h).mgmt.staged (stagedKey (selKind s h) (selIndex s h) w)

theorem install_spec (acc : Nat) (hal : alive s h = true) (hlegal : keyIllegal s h = false)
    (hroom : selKind s h = 4 → keyHeld s h 4 (selIndex s h) = true ∨ ((keysOf s h).filter fun k => k.kind == 4).length < 1024) :
    Completes (.install h acc) s fun t =>
      rd t h Reg.SEC_RESULT_STATUS = 0x02 ∧ keyWords t h (selKind s h) (selIndex s h) = some (stagedWords s h) := by
  have hfits : ¬ (selKind s h = 4 ∧ keyHeld s h 4 (selIndex s h) = false ∧ 1024 ≤ ((keysOf s h).filter fun k => k.kind == 4).length) := by
    rintro ⟨hkind, hheld, hfull⟩
    rcases hroom hkind with hyes | hless
    · simp [hyes] at hheld
    · omega
  have hinstall : keyInstall s h acc = (0x02, ledgerH (putKeys s h
      ({ kind := selKind s h, index := selIndex s h, words := stagedWords s h } :: otherKeys s h)) h 0x1405
      (p4s [selKind s h, selIndex s h, 1, acc])) := by
    unfold keyInstall
    dsimp only
    rw [hlegal, if_neg Bool.false_ne_true, if_neg hfits]
    rfl
  have hact : secAct s h 4 acc 0 = keyInstall s h acc :=
    (if_neg (by decide)).trans ((if_neg (by decide)).trans ((if_neg (by decide)).trans (if_pos rfl)))
  have hexec := exec_secCmd (acc := acc) hal (.inr (.inr (by decide))) (hact.trans hinstall)
  refine ⟨_, hexec, (secResult_spec _ h 4 (st := 0x02) (by decide)).1, ?_⟩
  rw [keyWords_eq, keysOf_replaced]
  unfold keyIn
  simp

theorem erase_spec (acc : Nat) (hal : alive s h = true) (hlegal : keyIllegal s h = false)
    (hheld : keyHeld s h (selKind s h) (selIndex s h) = true)
    (hwarden : selKind s h = 1 → ∃ k ∈ keysOf s h, k.kind = 1 ∧ k.index ≠ selIndex s h)
    (himage : selKind s h = 2 → runningKeySlot s h ≠ some (selIndex s h)) :
    Completes (.erase h acc) s fun t =>
      rd t h Reg.SEC_RESULT_STATUS = 0x02 ∧ keyHeld t h (selKind s h) (selIndex s h) = false := by
  have hlast : ¬ (selKind s h = 1 ∧ (otherKeys s h).any (fun k => k.kind == 1) = false) := by
    rintro ⟨hkind, hnone⟩
    obtain ⟨k, hk, hkkind, hkindex⟩ := hwarden hkind
    have hin : k ∈ otherKeys s h := List.mem_filter.mpr ⟨hk, by simp [hkindex]⟩
    have hany : (otherKeys s h).any (fun k => k.kind == 1) = true := List.any_eq_true.mpr ⟨k, hin, by simp [hkkind]⟩
    exact Bool.false_ne_true (hnone.symm.trans hany)
  have herase : keyErase s h acc = (0x02, ledgerH (putKeys s h (otherKeys s h)) h 0x1405
      (p4s [selKind s h, selIndex s h, 2, acc])) := by
    unfold keyErase
    dsimp only
    rw [hlegal, if_neg Bool.false_ne_true, if_neg (by simp [hheld])]
    exact (if_neg hlast).trans (if_neg fun hrun => himage hrun.1 hrun.2)
  have hact : secAct s h 5 acc 0 = keyErase s h acc :=
    (if_neg (by decide)).trans ((if_neg (by decide)).trans ((if_neg (by decide)).trans ((if_neg (by decide)).trans (if_pos rfl))))
  have hexec := exec_secCmd (acc := acc) hal (.inr (.inr (by decide))) (hact.trans herase)
  refine ⟨_, hexec, (secResult_spec _ h 5 (st := 0x02) (by decide)).1, ?_⟩
  unfold keyHeld
  rw [keyWords_eq, keysOf_replaced, keyIn_otherKeys]
  rfl

/-! USE_GEN (R682, R720). -/

theorem eraBump_spec (s : State) (h : HalfId) (cause : Nat) :
    rd (eraBump s h cause) h Reg.ARD_ERA_ERA = (rd s h Reg.ARD_ERA_ERA + 1) % 2 ^ 32 ∧
      rd (eraBump s h cause) h Reg.SEC_STAT_GEN = rd s h Reg.SEC_STAT_GEN := by
  have hrecord : ∀ (u : State) (fs : List Byte), rd (ledgerH u h 0x1306 fs) h Reg.ARD_ERA_ERA = rd u h Reg.ARD_ERA_ERA :=
    fun u fs => (keeps_ledgerH h 0x1306 fs (by decide) (Keeps.refl 0x10238401240000 u)).rd h _ (by decide) (by decide)
  refine ⟨?_, (keeps_eraBump h cause (by decide) (Keeps.refl 0x10338401640000 s)).rd h _ (by decide) (by decide)⟩
  unfold eraBump
  dsimp only
  rw [hrecord, rd_modArd]
  exact rd_wr_same s h Reg.ARD_ERA_ERA _ (by decide) (by decide)

theorem useGen_spec (acc : Nat) {gen : Nat} (hal : alive s h = true) (hgen : gen ≤ 1) (hne : rd s h Reg.SEC_STAT_GEN ≠ gen) :
    Completes (.useGen h acc gen) s fun t =>
      rd t h Reg.SEC_RESULT_STATUS = 0x02 ∧ rd t h Reg.SEC_STAT_GEN = gen ∧
      rd t h Reg.ARD_ERA_ERA = (rd s h Reg.ARD_ERA_ERA + 1) % 2 ^ (Reg.ARD_ERA_ERA.hi + 1 - Reg.ARD_ERA_ERA.lo) := by
  have huse : useGen s h gen = (0x02, eraBump (wr s h Reg.SEC_STAT_GEN gen) h 3) :=
    (if_neg (by omega)).trans (if_neg hne)
  have hact : secAct s h 6 acc gen = useGen s h gen :=
    (if_neg (by decide)).trans ((if_neg (by decide)).trans ((if_neg (by decide)).trans ((if_neg (by decide)).trans
      ((if_neg (by decide)).trans (if_pos rfl)))))
  have hexec := exec_secCmd (acc := acc) hal (.inr (.inr (by decide))) (hact.trans huse)
  obtain ⟨hstatus, -, -, hrd⟩ := secResult_spec (eraBump (wr s h Reg.SEC_STAT_GEN gen) h 3) h 6 (st := 0x02) (by decide)
  obtain ⟨hera, hkept⟩ := eraBump_spec (wr s h Reg.SEC_STAT_GEN gen) h 3
  refine ⟨_, hexec, hstatus, ?_, ?_⟩
  · exact (hrd _ (by decide)).trans (hkept.trans (rd_wr_same' s h Reg.SEC_STAT_GEN gen (by decide) (by decide)
      (show gen < 2 ^ 1 by omega)))
  · refine (hrd _ (by decide)).trans (hera.trans ?_)
    rw [rd_wr_addr s h h Reg.SEC_STAT_GEN Reg.ARD_ERA_ERA gen (by decide)]
    rfl

/-- Settles O15: each command by its effect, reported DONE (`secCmd_known`). -/
theorem securityCommandsComplete : Obligations.SecurityCommandsComplete := by
  unfold Obligations.SecurityCommandsComplete
  exact ⟨fun h acc s => challenge_spec, fun h acc slot c s => respond_spec, fun h acc s => drop_spec, fun h acc s => install_spec acc,
    fun h acc s => erase_spec acc, fun h acc gen s => useGen_spec acc, fun h acc s => elevationTimeout_spec acc⟩

end SecurityCommands

/-! ### Debug, trace and GOOSE (R712, R730, R731) -/

section DebugTraceGoose

variable {s : State} {h : HalfId}

theorem debugToken_spec (expiry : Nat) (sig : List Byte) (hal : alive s h = true)
    (hmode : modeOf s h = mCOMMISSION ∨ modeOf s h = mTEST) (htime : opMs s < expiry * 3600000) :
    Completes (.debugToken h expiry sig) s fun t =>
      (Config.ecdsaVerify Config.rootKey (Config.sha384 (tokenBytes s h expiry)) sig = true →
        rdB t h Reg.SEC_STAT_DEBUG = true ∧ (half t h).mgmt.expiry = expiry) ∧
      (Config.ecdsaVerify Config.rootKey (Config.sha384 (tokenBytes s h expiry)) sig = false → t = s) := by
  refine ⟨debugToken s h expiry sig, rfl, fun hver => ?_, fun hver => ?_⟩
  · have htok : debugToken s h expiry sig = ledgerH (modMgmt (wrB s h Reg.SEC_STAT_DEBUG true) h fun m => { m with expiry := expiry })
        h 0x1406 (p4s [1, expiry]) := if_pos (by simp [hal, hmode, htime, hver])
    rw [htok, mgmt_ledgerH, half_modMgmt_same,
      (keeps_ledgerH h 0x1406 _ (by decide) (Keeps.refl 0x10238401240000 _)).rdB h _ (by decide) (by decide)]
    refine ⟨?_, rfl⟩
    exact (congrArg (· != 0) (rd_modMgmt ..)).trans (rdB_wrB_same s h Reg.SEC_STAT_DEBUG true rfl (by decide))
  · exact if_neg (by simp [hver])

theorem debugRelock_spec (hal : alive s h = true) :
    Completes (.debugRelock h) s fun t => rdB t h Reg.SEC_STAT_DEBUG = false := by
  refine ⟨_, congrArg Host.Outcome.next (access_of_alive hal _), ?_⟩
  unfold debugRelock
  split
  · exact ((keeps_ledgerH h 0x1406 _ (by decide) (Keeps.refl 0x10238401240000 _)).rdB h _ (by decide) (by decide)).trans
      (rdB_wrB_same s h Reg.SEC_STAT_DEBUG false rfl (by decide))
  next hlocked => exact Bool.not_eq_true _ ▸ hlocked

/-- The newest snapshot of a half. -/
theorem traceSnapshot_head (s : State) (h : HalfId) (reason : Nat) : ∃ snap : TraceSnap,
    snap.bytes = (half s h).trace.buffer.flatten ∧ snap.time = now s ∧
      (h = .a → (traceSnapshot s h reason).store.trcA.head? = some snap) ∧
      (h = .b → (traceSnapshot s h reason).store.trcB.head? = some snap) := by
  cases h
  · refine ⟨_, ?_, ?_, fun _ => rfl, nofun⟩ <;> rfl
  · refine ⟨_, ?_, ?_, nofun, fun _ => rfl⟩ <;> rfl

/-! An accepted GOOSE frame (R712). -/

/-- The frame's members change points, queues and free values: no counter of the reception. -/
theorem gooseMemberTake_block (s : State) (h : HalfId) (entry ttl : Nat) (sim : Bool) (v : Nat × Int × Bool) :
    Keeps 0x1033C4216C0000 s (gooseMemberTake s h entry ttl sim v) :=
  keeps_gooseMemberTake h entry ttl sim v (by decide) (Keeps.refl _ s)

/-- The counters of the subscription, kept. -/
def gooseNoted (s : State) (h : HalfId) (sub st sq : Nat) : State :=
  modMgmt s h fun m => { m with gsubs := sset (fun _ => (0, 0)) m.gsubs sub (st % 2 ^ 32, sq % 2 ^ 32) }

/-- The members of the frame, taken in turn. -/
def gooseMembersTaken (s : State) (h : HalfId) (sub ttl : Nat) (sim : Bool) (vs : List (Nat × Int × Bool)) : State :=
  (vs.zipIdx.take 32).foldl (fun s e => gooseMemberTake s h (sub * 32 + e.2) ttl sim e.1) s

theorem gooseMembersTaken_block (s : State) (h : HalfId) (sub ttl : Nat) (sim : Bool) (vs : List (Nat × Int × Bool)) :
    Keeps 0x1033C4216C0000 s (gooseMembersTaken s h sub ttl sim vs) :=
  foldl_keeps (P := Keeps 0x1033C4216C0000 s) (fun u e hu => hu.trans (gooseMemberTake_block u h _ ttl sim e.1)) _ (Keeps.refl _ s)

/-- The first frame of a subscription is accepted: its counters kept, then its members taken, then the points feed. -/
theorem gooseRx_spec {sub : Nat} (st sq ttl : Nat) {sim : Bool} (vs : List (Nat × Int × Bool)) (hrun : running s h = true)
    (hsub : sub < 128) (hon : gooseOn s h 2 sub = true) (hfirst : (half s h).mgmt.gsubs.find? (fun e => e.1 == sub) = none)
    (hsim : sim = true → modeOf s h = mTEST) :
    Completes (.gooseRx h sub st sq ttl sim vs) s fun t =>
      ∃ u, t = pointsFeed u h ∧ sget (fun _ => (0, 0)) (half u h).mgmt.gsubs sub = (st % 2 ^ 32, sq % 2 ^ 32) ∧
        rd u h Reg.ETH_GOOSE_RX_ACCEPTED =
          min (rd s h Reg.ETH_GOOSE_RX_ACCEPTED + 1) (fmax Reg.ETH_GOOSE_RX_ACCEPTED) := by
  have hlive : (!sim || modeOf s h == mTEST) = true := by
    cases sim
    · rfl
    · simpa using hsim rfl
  have hexec : gooseReceive s h sub st sq ttl sim vs = pointsFeed (satAdd (gooseMembersTaken (gooseNoted s h sub st sq) h sub ttl sim vs)
      h Reg.ETH_GOOSE_RX_ACCEPTED 1) h := by
    unfold gooseReceive
    rw [hfirst]
    dsimp only [Option.map_none]
    rw [if_neg (by simp [hrun]), if_pos (by simp [hsub, hon, hlive])]
    rfl
  have hk := gooseMembersTaken_block (gooseNoted s h sub st sq) h sub ttl sim vs
  refine ⟨_, congrArg Host.Outcome.next hexec, _, rfl, ?_, ?_⟩
  · rw [half_satAdd, hk.mgmt (by decide) h, gooseNoted, mgmt_modMgmt]
    exact sget_sset_same _ _ _ _
  · rw [rd_satAdd_same _ _ _ _ (by decide) (by decide), hk.rd h _ (by decide) (by decide), gooseNoted, rd_modMgmt]

end DebugTraceGoose

/-- Settles O16: the token, the relock, the snapshot and the first frame of a subscription. -/
theorem debugTraceGooseComplete : Obligations.DebugTraceGooseComplete := by
  unfold Obligations.DebugTraceGooseComplete
  refine ⟨fun h expiry sig s => debugToken_spec expiry sig, fun h s => debugRelock_spec, fun h s hal hstore => ?_,
    fun h sub st sq ttl sim vs s => gooseRx_spec st sq ttl vs⟩
  obtain ⟨snap, hbytes, htime, ha, hb⟩ := traceSnapshot_head s h 2
  have hcmd : traceCmd s h 1 = traceSnapshot s h 2 := if_pos ⟨rfl, hstore⟩
  refine ⟨_, congrArg Host.Outcome.next ((access_of_alive hal _).trans hcmd), snap, ?_, hbytes, htime⟩
  cases h
  · exact ha rfl
  · exact hb rfl

end Sys2Proof.Machine
end
